-- ==== Sys2Proof/Word.lean ====
section
/-! DEFINITION. Words, bytes and the plainest arithmetic: numbers of the spec's widths are naturals kept below
2^w by the operation that writes them (R11, R12); sparse stores are lists of key and value pairs in one
canonical form. -/

namespace Sys2Proof

/-- A word of one of the spec's unsigned types (R12), always written reduced modulo its width. -/
abbrev Word := Nat
/-- One byte, below 256. -/
abbrev Byte := Nat

/-- A sparse store: keys strictly rising, no entry equal to what an unlisted key reads as. -/
abbrev Tbl (α : Type) := List (Nat × α)

/-- The value of key `k`, `d` where it is not listed. -/
def tget {α : Type} (d : α) : Tbl α → Nat → α
  | [], _ => d
  | (k', v) :: t, k => if k' = k then v else tget d t k

/-- The store without key `k`. -/
def tdel {α : Type} : Tbl α → Nat → Tbl α
  | [], _ => []
  | (k', v) :: t, k => if k' = k then tdel t k else (k', v) :: tdel t k

/-- The store with `k` entered in key order, other entries kept. -/
def tins {α : Type} : Tbl α → Nat → α → Tbl α
  | [], k, v => [(k, v)]
  | (k', v') :: t, k, v => if k < k' then (k, v) :: (k', v') :: t else (k', v') :: tins t k v

/-- Write `v` at `k`; writing the default removes the entry, so equal stores are equal lists. -/
def tset {α : Type} [DecidableEq α] (d : α) (t : Tbl α) (k : Nat) (v : α) : Tbl α :=
  if v = d then tdel t k else tins (tdel t k) k v

/-- Keep the entries whose key satisfies `p`. -/
def tkeep {α : Type} (p : Nat → Bool) (t : Tbl α) : Tbl α := t.filter (fun e => p e.1)

/-- Keys strictly rising and no entry equal to the default `d`. -/
def tcanon {α : Type} [DecidableEq α] (d : α) : Tbl α → Bool
  | [] => true
  | [(_, v)] => decide (v ≠ d)
  | (k, v) :: (k', v') :: t => decide (v ≠ d) && decide (k < k') && tcanon d ((k', v') :: t)

/-- Reduce to `w` bits. -/
def trunc (w v : Nat) : Nat := v % 2 ^ w

/-- Bits `hi:lo` of `v`. -/
def bits (v hi lo : Nat) : Nat := v / 2 ^ lo % 2 ^ (hi + 1 - lo)

/-- Bit `i` of `v`. -/
def bit (v i : Nat) : Bool := v / 2 ^ i % 2 == 1

/-- A Bool as a number. -/
def b2n (b : Bool) : Nat := if b then 1 else 0

/-- `v` with bits `hi:lo` replaced by `x`. -/
def setBits (v hi lo x : Nat) : Nat :=
  let n := hi + 1 - lo
  v % 2 ^ lo + (x % 2 ^ n) * 2 ^ lo + v / 2 ^ (hi + 1) * 2 ^ (hi + 1)

/-- `v` with bit `i` set to `b`. -/
def setBit (v i : Nat) (b : Bool) : Nat := setBits v i i (b2n b)

/-- The signed value of a `w`-bit word in two's complement. -/
def toSigned (w v : Nat) : Int := if v % 2 ^ w < 2 ^ (w - 1) then (v % 2 ^ w : Nat) else (v % 2 ^ w : Nat) - (2 ^ w : Nat)

/-- The `w`-bit two's complement word of an integer. -/
def ofSigned (w : Nat) (i : Int) : Nat := (i % (2 ^ w : Nat)).toNat

/-- An integer clamped to `lo`..`hi`. -/
def clampInt (lo hi i : Int) : Int := if i < lo then lo else if hi < i then hi else i

/-- The absolute value of an integer as a natural. -/
def absNat (i : Int) : Nat := i.natAbs

/-- `a − b`, or 0 where `b` is the larger (no wrap). -/
def monus (a b : Nat) : Nat := a - b

/-- The value of bytes, most significant first (R11). -/
def ofBytes (bs : List Byte) : Nat := bs.foldl (fun a b => a * 256 + b % 256) 0

/-- `n` bytes of `v`, most significant first (R11). -/
def toBytes : Nat → Nat → List Byte
  | 0, _ => []
  | n + 1, v => v / 256 ^ n % 256 :: toBytes n v

/-- The value of 32-bit words, most significant first. -/
def ofWords (ws : List Word) : Nat := ws.foldl (fun a b => a * 2 ^ 32 + b % 2 ^ 32) 0

/-- `n` 32-bit words of `v`, most significant first. -/
def toWords : Nat → Nat → List Word
  | 0, _ => []
  | n + 1, v => v / (2 ^ 32) ^ n % 2 ^ 32 :: toWords n v

/-- Words as bytes, most significant first. -/
def wordsToBytes (ws : List Word) : List Byte := ws.flatMap (toBytes 4)

/-- Bytes as 32-bit words, the last one padded with zeros (R418). -/
def bytesToWords (fuel : Nat) (bs : List Byte) : List Word :=
  match fuel, bs with
  | 0, _ => []
  | _, [] => []
  | n + 1, bs => ofBytes (bs.take 4 ++ List.replicate (4 - (bs.take 4).length) 0) :: bytesToWords n (bs.drop 4)

/-- Element `i`, 0 where the list is shorter. -/
def nth (l : List Nat) (i : Nat) : Nat := l.getD i 0

/-- The list with element `i` replaced; unchanged where `i` is past its end. -/
def lset {α : Type} (l : List α) (i : Nat) (v : α) : List α := l.set i v

/-- The bytes `i` to `i + n − 1` as a number. -/
def fieldBE (bs : List Byte) (i n : Nat) : Nat := ofBytes ((bs.drop i).take n)

/-- Distribute a step over the numbers `0`..`n − 1`, in rising order. -/
def forNat {σ : Type} : Nat → (Nat → σ → σ) → σ → σ
  | 0, _, s => s
  | n + 1, f, s => f n (forNat n f s)

/-- Distribute a step over a list, in its order. -/
def forList {α σ : Type} : List α → (α → σ → σ) → σ → σ
  | [], _, s => s
  | a :: l, f, s => forList l f (f a s)

end Sys2Proof
end

