-- ==== Sys2Proof/Syntax.lean ====
section
/-! DEFINITION. The commands the block takes: one constructor per row of spec/opcode_table.json, and the types of
their operands. -/

namespace Sys2Proof

/-- Who makes a dictionary access (R299, R415): channel 0 SPI, 1 MGA, 2 MGB, 3 fabric, 4 the debug port;
`sess`: the request travels inside the channel's secure session; `src`: the source address, port or node it came
from, as one number. -/
structure Req where
  ch   : Nat
  sess : Bool
  src  : Nat
  deriving DecidableEq, Repr

/-- The two happenings of a KDA request (R417, R423): a frame arrives on MGA, MGB or the fabric and queues, or the
engine takes the frame of the channel that has waited longest. -/
inductive KdaIn where
  | arrive (ch src : Nat) (ws : List Word)
  | serve
  deriving DecidableEq, Repr

/-- Line side or host side of a port or group. -/
inductive Side where
  | line
  | host
  deriving DecidableEq, Repr

/-- Where block lock is kept (R65): per lane, or per PCS lane behind an FEC decoder of port `q`. -/
inductive LockPlace where
  | lane (m : Nat)
  | fec (q : Nat) (sd : Side) (pcsLane : Nat)
  deriving DecidableEq, Repr

/-- Where OTN alignment is kept (R89): the OTU4 of group `n`, or the lower-order ODUk at tributary port `tpn`. -/
inductive OtnPoint where
  | otu (n : Nat) (sd : Side)
  | trib (n : Nat) (sd : Side) (tpn : Nat)
  deriving DecidableEq, Repr

/-- Fault ordered sets (R84). -/
inductive FaultSig where
  | none
  | localFault
  | remoteFault
  deriving DecidableEq, Repr

/-- One error the scrubber or a lookup meets (R159): `table` 0 = SA store, 1 = SC table, 2 = key slots; `hard` = uncorrectable. -/
structure EccHit where
  table : Nat
  index : Nat
  hard  : Bool
  deriving DecidableEq, Repr

/-- One second of section monitoring (R106): errored blocks, whether a defect was present at any point, and the BIP-8 errors
(near end) or the BEI count (far end) of the second. -/
structure PmObs where
  errored : Nat
  defect  : Bool
  errs    : Nat
  deriving DecidableEq, Repr

/-- What a FEC decoder has counted since it was last heard (R82, R108): codewords corrected, codewords it could not correct,
symbols corrected. -/
structure FecObs where
  corr : Nat
  bad  : Nat
  syms : Nat
  deriving DecidableEq, Repr

/-- An access to a window. -/
inductive Acc where
  | read
  | write (v : Word)
  deriving DecidableEq, Repr

/-- What the HBM returns for a line read (R310): good, one bad symbol, an undecodable codeword, or data whose tag,
or the tag of the counter line at `level`, fails. -/
inductive MemFault where
  | good
  | oneSymbol
  | undecodable
  | badTag (level : Nat)
  deriving DecidableEq, Repr

/-- Internal masters of the memory controller (R301, R312). -/
inductive Master where
  | beryl
  | shadow
  | service
  | dump
  | scrubber
  deriving DecidableEq, Repr

/-- What the monitors of one supply rail have seen (R258, R259), in µV: from `was` it went to `uv` within `rise` ns, stayed beyond
for `ns` ns, and is at `now`. Rails 0 to 5: VCORE, VSERDES 0.9 V, VSERDES 1.2 V, VIO, VHBM, VBAT. -/
structure RailDev where
  rail : Nat
  was  : Nat
  uv   : Nat
  rise : Nat
  ns   : Nat
  now  : Nat
  deriving DecidableEq, Repr

/-- A fabric message (R386, R387): header fields, payload words, whether it came without a code error or K30.7, and its CRC-32
slot. -/
structure FabMsg where
  ver     : Nat
  typ     : Nat
  ttl     : Nat
  src     : Nat
  dst     : Nat
  bcast   : Bool
  seq     : Nat
  group   : Nat
  epoch   : Nat
  payload : List Word
  clean   : Bool
  crc     : Nat
  deriving DecidableEq, Repr

/-- The commands of the block: one constructor per row of the opcode table, with the row's operands. -/
inductive Instr where
  /-- REGISTER_WRITE (R13). -/
  | registerWrite (r : Req) (key : Nat) (v : Nat)
  /-- KDA_REQUEST (R417). -/
  | kdaRequest (a : KdaIn)
  /-- KDA_READ (R418). -/
  | kdaRead (r : Req) (key : Nat)
  /-- KDA_WRITE (R418). -/
  | kdaWrite (r : Req) (key : Nat) (ws : List Nat)
  /-- KDA_WINDOW_READ (R426). -/
  | kdaWindowRead (r : Req) (key : Nat) (n : Nat)
  /-- KDA_WINDOW_WRITE (R426). -/
  | kdaWindowWrite (r : Req) (key : Nat) (ws : List Nat)
  /-- SPI_WRITE_REQUEST (R425). -/
  | spiWriteRequest (ws : List Nat) (whole : Bool)
  /-- SPI_READ_STATUS (R425). -/
  | spiReadStatus
  /-- SPI_READ_REPLY (R425). -/
  | spiReadReply (n : Nat)
  /-- SPI_CHANNEL_RESET (R425). -/
  | spiChannelReset
  /-- MG_ARP_REQUEST (R423). -/
  | mgArpRequest (c : Nat) (v6 : Bool) (target : Nat) (asker : Nat)
  /-- MG_LINK_LOSS (R423). -/
  | mgLinkLoss (c : Nat)
  /-- CHAN_RESET (R435). -/
  | chanReset (r : Req) (c : Nat)
  /-- EVT_SUBSCRIBE (R433). -/
  | evtSubscribe (r : Req) (c : Nat)
  /-- EVT_UNSUBSCRIBE (R433). -/
  | evtUnsubscribe (r : Req) (c : Nat)
  /-- EVT_MSG_SEND (R433). -/
  | evtMsgSend (c : Nat)
  /-- EVT_DATA_READ (R431). -/
  | evtDataRead (r : Req)
  /-- EVT_DATA_S_READ (R431). -/
  | evtDataSRead (r : Req)
  /-- EVT_LOST_READ (R431). -/
  | evtLostRead (r : Req) (sec : Bool)
  /-- EVT_PENDING_CLEAR (R430). -/
  | evtPendingClear (r : Req) (w : Nat) (v : Nat)
  /-- CHAN_REJECTED_READ (R422). -/
  | chanRejectedRead (r : Req) (c : Nat)
  /-- CHAN_RX_DROPS_READ (R423). -/
  | chanRxDropsRead (r : Req) (c : Nat)
  /-- TICK_BOUNDARY (R35). -/
  | tickBoundary
  /-- COMMIT_POINT (R35). -/
  | commitPoint
  /-- GRACE_END (R156). -/
  | graceEnd (h : Nat)
  /-- LEASE_EXPIRY (R399). -/
  | leaseExpiry (g : Nat)
  /-- MIGRATION_DRAIN_END (R161). -/
  | migrationDrainEnd
  /-- COMMIT_REPORT (R155). -/
  | commitReport
  /-- HEARTBEAT_SEND (R394). -/
  | heartbeatSend
  /-- RESERVATION_SEND (R405). -/
  | reservationSend
  /-- DUMP_START (R374). -/
  | dumpStart
  /-- BG_JOB_SUSPEND (R40). -/
  | bgJobSuspend (job : Nat)
  /-- HBM_COUNTER_WRITEBACK (R315). -/
  | hbmCounterWriteback
  /-- SHADOW_COMPARE_STEP (R137). -/
  | shadowCompareStep (suspect : List Nat)
  /-- DUMP_CHUNK (R374). -/
  | dumpChunk
  /-- SCRUB_STEP (R159). -/
  | scrubStep (hits : List EccHit)
  /-- STANDBY_SELFTEST_STEP (R403). -/
  | standbySelftestStep (sliceOk : Bool)
  /-- TICK_REALIGN (R49). -/
  | tickRealign (r : Req) (v : Nat)
  /-- SYNC_IN_EDGE (R43). -/
  | syncInEdge (ps : Nat)
  /-- SYNC_IN_LOST (R46). -/
  | syncInLost
  /-- CLOCK_LOST (R52). -/
  | clockLost (d : Nat)
  /-- BG_OVERRUN_READ (R40). -/
  | bgOverrunRead (r : Req) (job : Nat)
  /-- GROUP_LAYOUT_WRITE (R56). -/
  | groupLayoutWrite (r : Req) (n : Nat) (v : Nat)
  /-- GROUP_MODE_WRITE (R57). -/
  | groupModeWrite (r : Req) (n : Nat) (v : Nat)
  /-- LANE_CTRL_WRITE (R60). -/
  | laneCtrlWrite (r : Req) (m : Nat) (v : Nat)
  /-- LANE_SIGNAL_DETECT (R58). -/
  | laneSignalDetect (m : Nat)
  /-- LANE_CDR_LOCK (R58). -/
  | laneCdrLock (m : Nat)
  /-- LANE_CDR_TIMEOUT (R58). -/
  | laneCdrTimeout (m : Nat)
  /-- LANE_TRAIN_COMPLETE (R61). -/
  | laneTrainComplete (m : Nat) (taps : Nat)
  /-- LANE_TRAIN_TIMEOUT (R58). -/
  | laneTrainTimeout (m : Nat)
  /-- LANE_TRAIN_RETRY (R58). -/
  | laneTrainRetry (m : Nat)
  /-- LANE_ADAPT_DONE (R58). -/
  | laneAdaptDone (m : Nat) (snr : Nat)
  /-- LANE_ADAPT_TIMEOUT (R58). -/
  | laneAdaptTimeout (m : Nat)
  /-- LANE_LOS (R59). -/
  | laneLos (m : Nat)
  /-- LANE_CDR_LOST (R59). -/
  | laneCdrLost (m : Nat)
  /-- BLOCK_LOCK_ACQUIRED (R65). -/
  | blockLockAcquired (p : LockPlace) (slips : Nat)
  /-- BLOCK_LOCK_LOST (R66). -/
  | blockLockLost (p : LockPlace)
  /-- FAB_CLK_LOST (R68). -/
  | fabClkLost (p : Nat)
  /-- FAB_SYNC_ACQUIRED (R71). -/
  | fabSyncAcquired (p : Nat) (d : Nat)
  /-- FAB_SYNC_LOST (R71). -/
  | fabSyncLost (p : Nat) (d : Nat) (errs : Nat)
  /-- FAB_ALIGN_SET_RX (R73). -/
  | fabAlignSetRx (p : Nat) (skew : Nat)
  /-- FAB_ALIGN_SET_SEND (R72). -/
  | fabAlignSetSend (p : Nat)
  /-- FAB_CTRL_WRITE (R80). -/
  | fabCtrlWrite (r : Req) (p : Nat) (v : Nat)
  /-- PG_CTRL_WRITE (R76). -/
  | pgCtrlWrite (r : Req) (m : Nat) (v : Nat)
  /-- INJ_ONCE (R77). -/
  | injOnce (r : Req) (m : Nat)
  /-- INJ_RATE_ERROR (R77). -/
  | injRateError (m : Nat)
  /-- PRBS_CHECKER_LOCK (R76). -/
  | prbsCheckerLock (m : Nat)
  /-- PRBS_LOCK_LOST (R76). -/
  | prbsLockLost (m : Nat) (bits : Nat) (errs : Nat)
  /-- PCS_HI_ERR (R83). -/
  | pcsHiErr (q : Nat) (sd : Side) (o : FecObs)
  /-- PCS_HI_ERR_CLEAR (R83). -/
  | pcsHiErrClear (q : Nat) (sd : Side) (o : FecObs)
  /-- AM_LOCK_LOST (R82). -/
  | amLockLost (q : Nat) (sd : Side) (o : FecObs)
  /-- FAULT_RECEIVED (R84). -/
  | faultReceived (q : Nat) (sd : Side) (f : FaultSig)
  /-- OTL_LANE_LOCKED (R87). -/
  | otlLaneLocked (n : Nat) (sd : Side) (lane : Nat) (llm : Nat) (rejects : Nat)
  /-- OTL_LANE_UNLOCKED (R87). -/
  | otlLaneUnlocked (n : Nat) (sd : Side) (lane : Nat)
  /-- OTL_DESKEW (R88). -/
  | otlDeskew (n : Nat) (sd : Side) (skew : Nat) (late : Nat)
  /-- OTN_LOF (R89). -/
  | otnLof (p : OtnPoint)
  /-- OTN_LOF_CLEAR (R89). -/
  | otnLofClear (p : OtnPoint)
  /-- OTN_LOM (R89). -/
  | otnLom (p : OtnPoint)
  /-- OTN_LOM_CLEAR (R89). -/
  | otnLomClear (p : OtnPoint)
  /-- OTN_PSI_RX (R92). -/
  | otnPsiRx (n : Nat) (sd : Side) (pt : Nat) (msi : List Nat) (ais : Bool) (bdi : Bool)
  /-- GMP_JC_RX (R93). -/
  | gmpJcRx (n : Nat) (sd : Side) (tpn : Nat) (cm : Nat) (cnd : Nat) (crcOk : Bool)
  /-- TSI_DATA_WRITE (R95). -/
  | tsiDataWrite (r : Req) (k : Nat) (v : Nat)
  /-- TSI_COPY (R95). -/
  | tsiCopy (r : Req) (k : Nat)
  /-- TSI_SWAP_ARM (R96). -/
  | tsiSwapArm (r : Req) (k : Nat) (t : Nat)
  /-- TSI_GROUP_SWAP (R97). -/
  | tsiGroupSwap (k : Nat) (d : Nat) (g : Nat)
  /-- L1_DATA_WRITE (R108). -/
  | l1DataWrite (r : Req) (k : Nat) (v : Nat)
  /-- L1_SWITCH_ARM (R104). -/
  | l1SwitchArm (r : Req) (k : Nat) (t : Nat)
  /-- L1_MULTIFRAME_TX (R101). -/
  | l1MultiframeTx (k : Nat) (c : Nat) (payload : List Nat) (ecc : List EccHit)
  /-- L1_ANNOUNCE_RX (R102). -/
  | l1AnnounceRx (k : Nat) (c : Nat) (ann : List Nat)
  /-- L1_TAG_RX (R103). -/
  | l1TagRx (k : Nat) (c : Nat) (cipher : List Nat) (tag : Nat) (ecc : List EccHit)
  /-- PM_SECOND (R106). -/
  | pmSecond (n : Nat) (near : PmObs) (far : PmObs) (line : FecObs) (host : FecObs)
  /-- PM_BIN_CLOSE (R107). -/
  | pmBinClose (n : Nat) (day : Bool)
  /-- PM_SELECT_WRITE (R108). -/
  | pmSelectWrite (r : Req) (n : Nat) (v : Nat)
  /-- HOST_FRAME_RX (R118). -/
  | hostFrameRx (q : Nat) (bytes : List Nat) (fcsOk : Bool) (par : List Nat) (ecc : List EccHit)
  /-- LINE_FRAME_RX (R120). -/
  | lineFrameRx (q : Nat) (bytes : List Nat) (fcsOk : Bool) (par : List Nat) (ecc : List EccHit)
  /-- SLOW_PATH_DONE (R115). -/
  | slowPathDone (j : Nat)
  /-- INBOUND_CHECKS (R188). -/
  | inboundChecks (q : Nat) (granted : Bool) (am : Bool)
  /-- VERIFY_TAIL (R190). -/
  | verifyTail (q : Nat)
  /-- QUEUE_ADMISSION (R321). -/
  | queueAdmission (q : Nat)
  /-- FRAME_ELIGIBLE (R170). -/
  | frameEligible (q : Nat)
  /-- SCHEDULER_ANNOUNCE (R327). -/
  | schedulerAnnounce (q : Nat)
  /-- DET_ANNOUNCE (R181). -/
  | detAnnounce (q : Nat) (am : Bool)
  /-- GATE_EVENT (R332). -/
  | gateEvent (q : Nat)
  /-- RULE_ADDR_WRITE (R124). -/
  | ruleAddrWrite (r : Req) (j : Nat) (v : Nat)
  /-- RULE_DATA_WRITE (R124). -/
  | ruleDataWrite (r : Req) (j : Nat) (v : Nat)
  /-- STAGING_CLAIM_TIMEOUT (R125). -/
  | stagingClaimTimeout (grp : Nat)
  /-- LPM_INSERT (R129). -/
  | lpmInsert (r : Req)
  /-- LPM_DELETE (R129). -/
  | lpmDelete (r : Req)
  /-- LPM_FIND (R129). -/
  | lpmFind (r : Req)
  /-- LEARN_INSERT_STATIC (R131). -/
  | learnInsertStatic (r : Req) (i : Nat)
  /-- LEARN_DELETE (R131). -/
  | learnDelete (r : Req) (i : Nat)
  /-- LEARN_FIND (R131). -/
  | learnFind (r : Req) (i : Nat)
  /-- LEARN_FLUSH_ALL (R134). -/
  | learnFlushAll (r : Req) (i : Nat)
  /-- LEARN_FLUSH_PORT (R134). -/
  | learnFlushPort (r : Req) (i : Nat)
  /-- LEARN_FLUSH_SC (R134). -/
  | learnFlushSc (r : Req) (i : Nat)
  /-- LEARN_FLUSH_DONE (R134). -/
  | learnFlushDone (i : Nat)
  /-- LEARN_FIFO_RETIRE (R132). -/
  | learnFifoRetire (i : Nat)
  /-- AGE_SWEEP (R134). -/
  | ageSweep (i : Nat)
  /-- SLOW_OVERFLOW_READ (R115). -/
  | slowOverflowRead (r : Req) (j : Nat)
  /-- LEARN_FULL_READ (R132). -/
  | learnFullRead (r : Req) (i : Nat)
  /-- SC_ADDR_WRITE (R140). -/
  | scAddrWrite (r : Req) (v : Nat)
  /-- SC_DATA_WRITE (R141). -/
  | scDataWrite (r : Req) (v : Nat)
  /-- SA_ADDR_WRITE (R143). -/
  | saAddrWrite (r : Req) (v : Nat)
  /-- SA_DATA_WRITE (R143). -/
  | saDataWrite (r : Req) (v : Nat)
  /-- SA_STAGE (R147). -/
  | saStage (r : Req) (v : Nat)
  /-- SA_RETIRE (R148). -/
  | saRetire (r : Req) (v : Nat)
  /-- KEY_ADDR_WRITE (R145). -/
  | keyAddrWrite (r : Req) (v : Nat)
  /-- KEY_DATA_WRITE (R145). -/
  | keyDataWrite (r : Req) (v : Nat)
  /-- ARM_TICK_WRITE (R154). -/
  | armTickWrite (r : Req) (set : Nat) (t : Nat)
  /-- MIG_TICK_WRITE (R160). -/
  | migTickWrite (r : Req) (t : Nat)
  /-- RESV_DROPS_READ (R152). -/
  | resvDropsRead (r : Req)
  /-- MIGRATE_LATE_READ (R161). -/
  | migrateLateRead (r : Req)
  /-- CIPHER_CTRL_WRITE (R179). -/
  | cipherCtrlWrite (r : Req) (q : Nat) (v : Nat)
  /-- LAT_CLEAR (R198). -/
  | latClear (r : Req) (q : Nat)
  /-- DET_LATE_READ (R183). -/
  | detLateRead (r : Req) (q : Nat)
  /-- VERIFY_LAST_READ (R191). -/
  | verifyLastRead (r : Req) (q : Nat)
  /-- BERYL_DESC_WRITE (R200). -/
  | berylDescWrite (r : Req) (v : Nat)
  /-- BERYL_SUBMIT_URGENT (R200). -/
  | berylSubmitUrgent (r : Req)
  /-- BERYL_SUBMIT_NORMAL (R200). -/
  | berylSubmitNormal (r : Req)
  /-- BERYL_JOB_START (R205). -/
  | berylJobStart
  /-- BERYL_SUSPEND (R205). -/
  | berylSuspend
  /-- BERYL_JOB_DONE (R211). -/
  | berylJobDone (srcSuspect : Bool) (f : MemFault)
  /-- BERYL_DONE_READ (R211). -/
  | berylDoneRead (r : Req)
  /-- BERYL_ABORT_NORMAL (R212). -/
  | berylAbortNormal (r : Req)
  /-- BERYL_ABORT_URGENT (R212). -/
  | berylAbortUrgent (r : Req)
  /-- BERYL_ABORT_ALL (R212). -/
  | berylAbortAll (r : Req)
  /-- BERYL_KEYREG_CLEAR (R204). -/
  | berylKeyregClear (r : Req) (v : Nat)
  /-- BERYL_IO_DATA_ACCESS (R210). -/
  | berylIoDataAccess (r : Req) (a : Acc)
  /-- BERYL_CLEAR_DONE (R213). -/
  | berylClearDone
  /-- JASPER_CLAIM (R216). -/
  | jasperClaim (r : Req)
  /-- JASPER_RELEASE (R217). -/
  | jasperRelease (r : Req)
  /-- JASPER_ZEROING_DONE (R217). -/
  | jasperZeroingDone (p : Nat)
  /-- JASPER_DATA_ACCESS (R218). -/
  | jasperDataAccess (r : Req) (a : Acc)
  /-- ECDSA_SIGN (R220). -/
  | ecdsaSign (r : Req) (v : Nat)
  /-- ECDSA_VERIFY (R220). -/
  | ecdsaVerify (r : Req) (v : Nat)
  /-- EC_KEYGEN (R220). -/
  | ecKeygen (r : Req) (v : Nat)
  /-- ECDH (R220). -/
  | ecdh (r : Req) (v : Nat)
  /-- EC_VALIDATE (R227). -/
  | ecValidate (r : Req) (v : Nat)
  /-- X25519 (R228). -/
  | x25519 (r : Req) (v : Nat)
  /-- X25519_KEYGEN (R220). -/
  | x25519Keygen (r : Req) (v : Nat)
  /-- RSA_PUBLIC (R220). -/
  | rsaPublic (r : Req) (v : Nat)
  /-- RSA_PRIVATE (R221). -/
  | rsaPrivate (r : Req) (v : Nat)
  /-- MOD_INV (R220). -/
  | modInv (r : Req) (v : Nat)
  /-- CURVE_LOAD (R222). -/
  | curveLoad (r : Req) (v : Nat)
  /-- JASPER_JOB_START (R224). -/
  | jasperJobStart
  /-- JASPER_JOB_DONE (R225). -/
  | jasperJobDone (selfCheckOk : Bool)
  /-- JASPER_ABORT (R229). -/
  | jasperAbort (r : Req)
  /-- JASPER_RESULT_READ (R232). -/
  | jasperResultRead (r : Req)
  /-- PUF_ATTEMPT_DONE (R235). -/
  | pufAttemptDone (flips : Nat)
  /-- KEY_DERIVATION_DONE (R240). -/
  | keyDerivationDone
  /-- PKEY_RECORD_SCAN (R248). -/
  | pkeyRecordScan
  /-- EPOCH_ADVANCE_WRITE (R243). -/
  | epochAdvanceWrite (r : Req) (v : Nat)
  /-- EPOCH_ADVANCE_DONE (R243). -/
  | epochAdvanceDone
  /-- PLAINTEXT_KEY_EN_WRITE (R246). -/
  | plaintextKeyEnWrite (r : Req) (v : Nat)
  /-- PKEY_STORE (R249). -/
  | pkeyStore (r : Req)
  /-- PKEY_LOAD (R250). -/
  | pkeyLoad (r : Req)
  /-- PKEY_ERASE (R250). -/
  | pkeyErase (r : Req)
  /-- PKEY_OP_DONE (R250). -/
  | pkeyOpDone (flashOk : Bool)
  /-- ZEROISE_CMD (R252). -/
  | zeroiseCmd (r : Req)
  /-- ZEROISE_CMD_WIPE (R252). -/
  | zeroiseCmdWipe (r : Req)
  /-- ZEROISE_CLEARING_DONE (R253). -/
  | zeroiseClearingDone
  /-- PERSIST_WIPE_DONE (R251). -/
  | persistWipeDone
  /-- MONITOR_FIRE (R259). -/
  | monitorFire (ds : List RailDev)
  /-- MONITOR_REARM (R259). -/
  | monitorRearm (src : Nat)
  /-- TEMP_SAMPLE (R259). -/
  | tempSample (dc : Int)
  /-- TAMPER_LOOP_ALARM (R265). -/
  | tamperLoopAlarm (samples : List (Nat × Nat))
  /-- LOOP_SETTLED (R262). -/
  | loopSettled (loop : Nat)
  /-- LOOP_FAULT (R262). -/
  | loopFault (loop : Nat)
  /-- LOOP_ARM (R262). -/
  | loopArm (r : Req) (loop : Nat)
  /-- LOOP_DISARM (R262). -/
  | loopDisarm (r : Req) (loop : Nat)
  /-- FLAG_CLEAR (R268). -/
  | flagClear (r : Req) (v : Nat)
  /-- ONYX_RTC_WRITE (R269). -/
  | onyxRtcWrite (r : Req) (v : Nat)
  /-- RTC_SYNC_TB0 (R269). -/
  | rtcSyncTb0 (r : Req)
  /-- RTC_SYNC_LOAD (R269). -/
  | rtcSyncLoad
  /-- LOG_ACK (R274). -/
  | logAck (r : Req) (v : Nat)
  /-- LOG_DATA_READ (R271). -/
  | logDataRead (r : Req)
  /-- ONYX_CRYSTAL_FAIL (R277). -/
  | onyxCrystalFail
  /-- ONYX_CRYSTAL_RESTORE (R277). -/
  | onyxCrystalRestore
  /-- ONYX_POWER_ON (R275). -/
  | onyxPowerOn
  /-- MAIN_POWER_CHANGE (R264). -/
  | mainPowerChange (present : Bool)
  /-- LC_TO_ENROL (R287). -/
  | lcToEnrol (r : Req)
  /-- LC_TO_OWNED (R287). -/
  | lcToOwned (r : Req)
  /-- LC_TO_RETURNED (R287). -/
  | lcToReturned (r : Req)
  /-- LC_TO_SCRAP (R287). -/
  | lcToScrap (r : Req)
  /-- LC_WINDOW_DONE (R287). -/
  | lcWindowDone (readBackOk : Bool)
  /-- LC_CLEANUP_DONE (R288). -/
  | lcCleanupDone
  /-- ENROL_START (R292). -/
  | enrolStart (r : Req)
  /-- ENROL_DONE (R292). -/
  | enrolDone (reads : List Nat) (flashOk : Bool)
  /-- DEBUG_CONSENT_WRITE (R293). -/
  | debugConsentWrite (r : Req) (v : Nat)
  /-- DBG_REQUEST (R294). -/
  | dbgRequest (r : Req) (v : Nat)
  /-- DBG_RESPONSE_WRITE (R295). -/
  | dbgResponseWrite (r : Req) (v : Nat)
  /-- DBG_CHECK_DONE (R295). -/
  | dbgCheckDone
  /-- DBG_CHALLENGE_EXPIRE (R295). -/
  | dbgChallengeExpire
  /-- ATTACH_HELLO (R302). -/
  | attachHello (r : Req)
  /-- ATTACH_REPLY_READY (R302). -/
  | attachReplyReady (c : Nat)
  /-- ATTACH_PROOF (R302). -/
  | attachProof (r : Req)
  /-- ATTACH_OPEN (R302). -/
  | attachOpen (c : Nat)
  /-- ATTACH_END (R304). -/
  | attachEnd (r : Req)
  /-- ATTACH_DATA_ACCESS (R302). -/
  | attachDataAccess (r : Req) (a : Acc)
  /-- ATTACH_EXPIRE (R303). -/
  | attachExpire (c : Nat)
  /-- ATTACH_LOCKOUT_END (R303). -/
  | attachLockoutEnd (c : Nat)
  /-- SESSION_TIMEOUT (R304). -/
  | sessionTimeout (c : Nat)
  /-- OWNER_BIND_WRITE (R305). -/
  | ownerBindWrite (r : Req)
  /-- OWNER_BIND_DONE (R305). -/
  | ownerBindDone (flashOk : Bool)
  /-- REGION_ENABLE (R309). -/
  | regionEnable (r : Req) (n : Nat) (v : Nat)
  /-- REGION_DISABLE (R316). -/
  | regionDisable (r : Req) (n : Nat) (v : Nat)
  /-- REGION_INIT_DONE (R309). -/
  | regionInitDone (n : Nat)
  /-- HBM_ADDR_WRITE (R317). -/
  | hbmAddrWrite (r : Req) (v : Nat) (f : MemFault)
  /-- HBM_DATA_WRITE (R317). -/
  | hbmDataWrite (r : Req) (v : Nat) (f : MemFault)
  /-- HBM_DATA_READ (R317). -/
  | hbmDataRead (r : Req) (f : MemFault)
  /-- HBM_FLUSH (R317). -/
  | hbmFlush (r : Req) (f : MemFault)
  /-- HBM_READ_DELIVER (R310). -/
  | hbmReadDeliver (m : Master) (region : Nat) (line : Nat) (f : MemFault)
  /-- MEM_LATE_ALARM (R311). -/
  | memLateAlarm (region : Nat) (level : Nat) (line : Nat)
  /-- MEM_LAST_READ (R320). -/
  | memLastRead (r : Req)
  /-- MASTER_REFUSED_READ (R301). -/
  | masterRefusedRead (r : Req)
  /-- FLASH_TRANSFER (R319). -/
  | flashTransfer (bad : Nat)
  /-- FLOW_DATA_WRITE (R324). -/
  | flowDataWrite (r : Req) (k : Nat) (v : Nat)
  /-- QUEUE_ADDR_WRITE (R325). -/
  | queueAddrWrite (r : Req) (k : Nat) (v : Nat)
  /-- QUEUE_DATA_WRITE (R325). -/
  | queueDataWrite (r : Req) (k : Nat) (v : Nat)
  /-- TAIL_DROPS_READ (R321). -/
  | tailDropsRead (r : Req) (k : Nat)
  /-- GATE_DATA_WRITE (R330). -/
  | gateDataWrite (r : Req) (q : Nat) (v : Nat)
  /-- GATE_ARM (R331). -/
  | gateArm (r : Req) (q : Nat)
  /-- GATE_DISARM (R331). -/
  | gateDisarm (r : Req) (q : Nat)
  /-- POL_ADDR_WRITE (R337). -/
  | polAddrWrite (r : Req) (i : Nat) (v : Nat)
  /-- POL_DATA_WRITE (R337). -/
  | polDataWrite (r : Req) (i : Nat) (v : Nat)
  /-- TB_SET (R343). -/
  | tbSet (r : Req) (n : Nat) (v : Nat)
  /-- TB_STEP (R343). -/
  | tbStep (r : Req) (n : Nat) (ps : Int)
  /-- TB_INVALIDATE (R341). -/
  | tbInvalidate (r : Req) (n : Nat)
  /-- SERVO_OFFSET (R344). -/
  | servoOffset (r : Req) (n : Nat) (o : Int)
  /-- FORCE_HOLDOVER (R346). -/
  | forceHoldover (r : Req) (n : Nat)
  /-- SERVO_UPDATE_TIMEOUT (R346). -/
  | servoUpdateTimeout (n : Nat)
  /-- TB_NOW_READ (R342). -/
  | tbNowRead (r : Req) (n : Nat)
  /-- CAPTURE_CMD (R342). -/
  | captureCmd (r : Req)
  /-- TMR_CTRL_WRITE (R357). -/
  | tmrCtrlWrite (r : Req) (n : Nat) (v : Nat)
  /-- TB_TIMER_FIRE (R357). -/
  | tbTimerFire (n : Nat) (t : Nat)
  /-- PPS_PULSE (R358). -/
  | ppsPulse
  /-- TX_TS_DATA_READ (R355). -/
  | txTsDataRead (r : Req) (q : Nat)
  /-- TX_TS_LOST_READ (R355). -/
  | txTsLostRead (r : Req) (q : Nat)
  /-- SA_STAT_DATA_READ (R366). -/
  | saStatDataRead (r : Req) (bad : Bool)
  /-- PERF_SEL_WRITE (R372). -/
  | perfSelWrite (r : Req) (n : Nat) (v : Nat)
  /-- PERF_CHAIN_WRITE (R372). -/
  | perfChainWrite (r : Req) (v : Nat)
  /-- PERF_CTRL_WRITE (R372). -/
  | perfCtrlWrite (r : Req) (v : Nat)
  /-- DUMP_REQUEST (R374). -/
  | dumpRequest (r : Req)
  /-- DUMP_DATA_READ (R375). -/
  | dumpDataRead (r : Req)
  /-- FREEZE_REQUEST (R378). -/
  | freezeRequest (r : Req)
  /-- FREEZE_ENGAGE (R378). -/
  | freezeEngage
  /-- FREEZE_RELEASE (R378). -/
  | freezeRelease (r : Req)
  /-- FREEZE_TIMEOUT (R378). -/
  | freezeTimeout
  /-- HELLO_SEND (R383). -/
  | helloSend (p : Nat)
  /-- HELLO_RX (R383). -/
  | helloRx (p : Nat) (m : FabMsg)
  /-- HELLO_TIMEOUT (R383). -/
  | helloTimeout (p : Nat)
  /-- LINK_STATE_SEND (R384). -/
  | linkStateSend
  /-- LINK_STATE_RX (R384). -/
  | linkStateRx (p : Nat) (m : FabMsg)
  /-- LINK_STATE_AGE (R384). -/
  | linkStateAge (n : Nat)
  /-- ROUTE_RECOMPUTE (R385). -/
  | routeRecompute
  /-- FAB_MSG_RELAY (R389). -/
  | fabMsgRelay (p : Nat) (m : FabMsg)
  /-- ROLE_TAKEOVER_RX (R393). -/
  | roleTakeoverRx (m : FabMsg)
  /-- ROLE_STALE_RX (R393). -/
  | roleStaleRx (m : FabMsg)
  /-- FAB_HEARTBEAT_RX (R396). -/
  | fabHeartbeatRx (p : Nat) (set : List Nat)
  /-- PEER_HB_RX (R395). -/
  | peerHbRx (burst : List Nat)
  /-- HEARTBEAT_CHECK (R396). -/
  | heartbeatCheck
  /-- ACT_LOCK_WATCHDOG (R397). -/
  | actLockWatchdog
  /-- LEASE_RENEW_RX (R398). -/
  | leaseRenewRx (m : FabMsg)
  /-- LEASE_ANSWER_RX (R398). -/
  | leaseAnswerRx (m : FabMsg)
  /-- LEASE_CLAIM_RX (R400). -/
  | leaseClaimRx (m : FabMsg)
  /-- LEASE_CLAIM_DECIDE (R400). -/
  | leaseClaimDecide
  /-- RESV_REQ_RX (R405). -/
  | resvReqRx (m : FabMsg)
  /-- RESV_CONF_RX (R405). -/
  | resvConfRx (m : FabMsg)
  /-- REPLAY_SYNC_SEND (R408). -/
  | replaySyncSend
  /-- REPLAY_SYNC_RX (R408). -/
  | replaySyncRx (m : FabMsg)
  /-- TAKEOVER_DONE (R409). -/
  | takeoverDone
  /-- ROLE_CTRL_WRITE (R391). -/
  | roleCtrlWrite (r : Req) (g : Nat) (v : Nat)
  /-- ROLE_PREFER_ACTIVE_TIMEOUT (R414). -/
  | rolePreferActiveTimeout (g : Nat)
  /-- ROLE_SWITCH_ARM (R411). -/
  | roleSwitchArm (r : Req) (g : Nat) (t : Nat)
  /-- SA_MOVE_CHECK_RX (R413). -/
  | saMoveCheckRx (m : FabMsg)
  /-- MOVE_ANSWER_RX (R413). -/
  | moveAnswerRx (m : FabMsg)
  /-- SA_MOVE_RX (R413). -/
  | saMoveRx (m : FabMsg)
  /-- SA_FINAL_RX (R413). -/
  | saFinalRx (m : FabMsg)
  /-- RESET_N_ASSERT (R450). -/
  | resetNAssert
  /-- VCORE_POWER_ON (R450). -/
  | vcorePowerOn
  /-- RESET_CMD_DEVICE (R450). -/
  | resetCmdDevice (r : Req)
  /-- RESET_CMD_CONTROLLER (R450). -/
  | resetCmdController (r : Req)
  /-- RESET_CMD_DATAPATH (R450). -/
  | resetCmdDatapath (r : Req)
  /-- CONTROLLER_WATCHDOG (R450). -/
  | controllerWatchdog
  /-- CLOCK_LOCK (R436). -/
  | clockLock (ok : Bool)
  /-- FLASH_LINK_ESTABLISH (R319). -/
  | flashLinkEstablish (bad : Nat)
  /-- PENDING_ZEROISE_RUN (R267). -/
  | pendingZeroiseRun
  /-- LIFECYCLE_READ (R284). -/
  | lifecycleRead
  /-- ROOT_RECONSTRUCTION (R235). -/
  | rootReconstruction
  /-- FIRMWARE_CHECK (R439). -/
  | firmwareCheck
  /-- HBM_INIT (R443). -/
  | hbmInit (ok : Bool)
  /-- SERDES_CALIBRATION (R436). -/
  | serdesCalibration (badGroups : List Nat)
  /-- STARTUP_COMPLETE (R436). -/
  | startupComplete
  /-- FW_UPDATE_A (R440). -/
  | fwUpdateA (r : Req) (prefer : Bool)
  /-- FW_UPDATE_B (R440). -/
  | fwUpdateB (r : Req) (prefer : Bool)
  /-- FW_UPDATE_DONE (R440). -/
  | fwUpdateDone (memOk : Bool) (flashOk : Bool)
  /-- FW_PREFER_WRITE (R440). -/
  | fwPreferWrite (r : Req) (v : Nat)
  /-- FW_SVN_COMMIT (R440). -/
  | fwSvnCommit (r : Req) (v : Nat)
  /-- DATAPATH_ARM (R445). -/
  | datapathArm (r : Req)
  /-- DATAPATH_DISARM (R447). -/
  | datapathDisarm (r : Req)
  /-- DISARM_DRAINED (R447). -/
  | disarmDrained
  /-- HOLD_ENTER (R448). -/
  | holdEnter (r : Req)
  /-- HOLD_ENTRY_DONE (R448). -/
  | holdEntryDone
  /-- HOLD_EXIT (R449). -/
  | holdExit (r : Req)
  /-- HOLD_EXIT_DONE (R449). -/
  | holdExitDone
  /-- RESET_N_RELEASE (R260). -/
  | resetNRelease
  /-- CLOCK_RETURNED (R341). -/
  | clockReturned (d : Nat)
  /-- FAB_CLK_RETURN (R68). -/
  | fabClkReturn (p : Nat)
  /-- AM_LOCK_ACQUIRED (R82). -/
  | amLockAcquired (q : Nat) (sd : Side)
  /-- MULTIFRAME_ALIGNED (R89). -/
  | multiframeAligned (p : OtnPoint)
  /-- OUT_OF_MULTIFRAME (R89). -/
  | outOfMultiframe (p : OtnPoint)
  /-- LPM_OP_DONE (R129). -/
  | lpmOpDone
  /-- DATAPATH_RESET_DONE (R450). -/
  | datapathResetDone
  deriving DecidableEq, Repr

end Sys2Proof
end

