-- ==== Sys2Proof/Decode.lean ====
section
/-! DEFINITION. The decoder of the command table: no row of it gives bits, so no word spells a command. -/

namespace Sys2Proof

/-- The command a word of the table's bits spells: none, since no row has an encoding. -/
def decodeTableWord (_nbits _w : Nat) : Option Instr := none

end Sys2Proof
end

