-- ==== Sys2Proof/Machine/Aes.lean ====
section
/-! DEFINITION. Checksums (R475) and AES with the modes the part uses: GCM of the slices, CTR, CBC, ECB, CMAC, key wrap.
Bytes are naturals below 256, most significant first. -/

namespace Sys2Proof.Machine

/-- The exclusive-or of two byte strings, as long as the shorter. -/
def xorBytes (a b : List Byte) : List Byte := List.zipWith Nat.xor a b

/-- `f` applied `n` times. -/
def iter {α : Type} : Nat → (α → α) → α → α
  | 0, _, a => a
  | n + 1, f, a => iter n f (f a)

/-- Groups of `n`, the last one perhaps shorter; `fuel` at least the number of groups. -/
def chunks {α : Type} (fuel n : Nat) (l : List α) : List (List α) :=
  match fuel, l with
  | 0, _ => []
  | _, [] => []
  | f + 1, l => l.take n :: chunks f n (l.drop n)

/-- Blocks of 16 bytes. -/
def blocks (l : List Byte) : List (List Byte) := chunks l.length 16 l

/-- Bytes followed by zeros up to a multiple of `n`. -/
def padTo (n : Nat) (l : List Byte) : List Byte := l ++ List.replicate ((n - l.length % n) % n) 0

/-- One byte into a reflected CRC-32 register. -/
def crc32Byte (c b : Nat) : Nat :=
  iter 8 (fun c => if c % 2 = 1 then Nat.xor (c / 2) 0xEDB88320 else c / 2) (Nat.xor c (b % 256))

/-- The CRC-32 of a byte string (R475). -/
def crc32 (l : List Byte) : Nat := Nat.xor (l.foldl crc32Byte 0xFFFFFFFF) 0xFFFFFFFF

/-- The CRC-32 of words, fed most significant byte first (R475). -/
def crc32Words (ws : List Word) : Nat := crc32 (wordsToBytes ws)

/-- A CRC of width `w`, most significant bit first, not reflected, from initial value `init`. -/
def crcMsb (w poly init : Nat) (l : List Byte) : Nat :=
  l.foldl (fun c b => iter 8 (fun c => if c / 2 ^ (w - 1) = 1 then Nat.xor (c * 2 % 2 ^ w) poly else c * 2 % 2 ^ w)
    (Nat.xor c (b % 256 * 2 ^ (w - 8)))) init

/-! AES (FIPS 197). -/

/-- Multiplication by x in GF(2^8). -/
def xtime (a : Nat) : Nat := if a < 128 then a * 2 else Nat.xor (a * 2 % 256) 0x1B

/-- Multiplication of a byte by a coefficient `m` below 16 in GF(2^8). -/
def gmul8 (m a : Nat) : Nat :=
  let b := xtime a
  let c := xtime b
  Nat.xor (Nat.xor (m % 2 * a) (m / 2 % 2 * b)) (Nat.xor (m / 4 % 2 * c) (m / 8 % 2 * xtime c))

/-- The S-box and its inverse (FIPS 197, figures 7 and 14), byte `a` of each at bit 8 · `a`. -/
def sboxBytes : Nat :=
  0x16bb54b00f2d99416842e6bf0d89a18cdf2855cee9871e9b948ed9691198f8e19e1dc186b95735610ef6034866b53e708a8bbd4b1f74dde8c6b4a61c2e2578ba08ae7a65eaf4566ca94ed58d6d37c8e779e4959162acd3c25c2406490a3a32e0db0b5ede14b8ee4688902a22dc4f816073195d643d7ea7c41744975fec130ccdd2f3ff1021dab6bcf5389d928f40a351a89f3c507f02f94585334d43fbaaefd0cf584c4a39becb6a5bb1fc20ed00d153842fe329b3d63b52a05a6e1b1a2c830975b227ebe28012079a059618c323c7041531d871f1e5a534ccf73f362693fdb7c072a49cafa2d4adf04759fa7dc982ca76abd7fe2b670130c56f6bf27b777c63
def invSboxBytes : Nat :=
  0x7d0c2155631469e126d677ba7e042b17619953833cbbebc8b0f52aae4d3be0a0ef9cc9939f7ae52d0d4ab519a97f51605fec8027591012b131c7078833a8dd1ff45acd78fec0db9a2079d2c64b3e56fc1bbe18aa0e62b76f89c5291d711af1476edf751ce837f9e28535ade72274ac9673e6b4f0cecff297eadc674f4111913a6b8a130103bdafc1020f3fca8f1e2cd00645b3b80558e4f70ad3bc8c00abd890849d8da75746155edab9edfd5048706c92b6655dcc5ca4d41698688664f6f87225d18b6d49a25b76b224d92866a12e084ec3fa420b954cee3d23c2a632947b54cbe9dec444438e3487ff2f9b8239e37cfbd7f3819ea340bf38a53630d56a0952
def sbox (a : Nat) : Nat := sboxBytes / 256 ^ a % 256
def invSbox (a : Nat) : Nat := invSboxBytes / 256 ^ a % 256

/-- The key schedule: `n` more words behind `ws` (latest first), `nk` words of key, round constant `rc`. -/
def expandKey : Nat → Nat → Nat → List (List Byte) → List (List Byte)
  | 0, _, _, ws => ws
  | n + 1, nk, rc, ws =>
    let i := ws.length
    let last := ws.headD []
    let t := if i % nk = 0 then
        let r := (last.drop 1 ++ last.take 1).map sbox
        lset r 0 (Nat.xor (nth r 0) rc)
      else if nk = 8 ∧ i % 8 = 4 then last.map sbox else last
    expandKey n nk (if i % nk = 0 then xtime rc else rc) (xorBytes (ws.getD (nk - 1) []) t :: ws)

/-- Round keys of 16 bytes, round 0 first: 11 for a 16-byte key, 15 for a 32-byte key. -/
def roundKeys (key : List Byte) : List (List Byte) :=
  let nk := key.length / 4
  let ws := expandKey (4 * (nk + 7) - nk) nk 1 (chunks 8 4 key).reverse
  chunks 15 16 (ws.reverse.flatten)

/-- Rows shifted: left by their number to encrypt, right to decrypt. -/
def shiftRows (s : List Byte) : List Byte := (List.range 16).map (fun i => nth s (i % 4 + 4 * ((i / 4 + i % 4) % 4)))
def unshiftRows (s : List Byte) : List Byte := (List.range 16).map (fun i => nth s (i % 4 + 4 * ((i / 4 + 4 - i % 4) % 4)))

/-- One column multiplied by the matrix whose first row is `m`. -/
def mixColumn (m c : List Byte) : List Byte :=
  (List.range 4).map (fun r => (List.range 4).foldl (fun a k => Nat.xor a (gmul8 (nth m ((k + 4 - r) % 4)) (nth c k))) 0)
def mixColumns (m s : List Byte) : List Byte := (chunks 4 4 s).flatMap (mixColumn m)

/-- Encrypt one block. -/
def aesEnc (key blk : List Byte) : List Byte :=
  match roundKeys key with
  | [] => blk
  | k0 :: ks =>
    let s := ks.dropLast.foldl (fun s k => xorBytes (mixColumns [2, 3, 1, 1] (shiftRows (s.map sbox))) k) (xorBytes blk k0)
    xorBytes (shiftRows (s.map sbox)) (ks.getLastD [])

/-- Decrypt one block. -/
def aesDec (key blk : List Byte) : List Byte :=
  match (roundKeys key).reverse with
  | [] => blk
  | k0 :: ks =>
    let s := ks.dropLast.foldl
      (fun s k => mixColumns [14, 11, 13, 9] (xorBytes ((unshiftRows s).map invSbox) k)) (xorBytes blk k0)
    xorBytes ((unshiftRows s).map invSbox) (ks.getLastD [])

/-! GCM. -/

/-- Multiplication in GF(2^128), blocks as numbers, most significant bit first. -/
def gmul128 (x y : Nat) : Nat :=
  (iter 128 (fun (z, v, i) =>
    (if bit x (127 - i) then Nat.xor z v else z,
     if v % 2 = 1 then Nat.xor (v / 2) (0xE1 * 2 ^ 120) else v / 2, i + 1)) (0, y, 0)).1

/-- GHASH under subkey `h` of whole blocks. -/
def ghash (h : Nat) (l : List Byte) : Nat := (blocks l).foldl (fun y b => gmul128 (Nat.xor y (ofBytes b)) h) 0

/-- The counter block with its low 32 bits incremented. -/
def inc32 (c : List Byte) : List Byte := c.take 12 ++ toBytes 4 (ofBytes (c.drop 12) + 1)

/-- Key stream from counter block `c` over byte string `l`, each block of it with the next counter. -/
def ctrWith (inc : List Byte → List Byte) (key : List Byte) : Nat → List Byte → List Byte → List Byte
  | 0, _, _ => []
  | _, _, [] => []
  | n + 1, c, l => xorBytes (l.take 16) (aesEnc key c) ++ ctrWith inc key n (inc c) (l.drop 16)

/-- GCM's counter mode, and CTR with a 128-bit counter. -/
def gctr (key c l : List Byte) : List Byte := ctrWith inc32 key l.length c l
def ctr128 (key c l : List Byte) : List Byte := ctrWith (fun c => toBytes 16 (ofBytes c + 1)) key l.length c l

/-- The hash subkey H of a key (R167), and H to H^8. -/
def hashKey (key : List Byte) : Nat := ofBytes (aesEnc key (List.replicate 16 0))
def hashPowers (h : Nat) : List Nat := (List.range 7).foldl (fun l _ => l ++ [gmul128 (l.getLastD 0) h]) [h]

/-- The 16-byte GCM tag of additional data and ciphertext under a 12-byte IV, with hash subkey `h`. -/
def gcmTagH (h : Nat) (key iv aad ct : List Byte) : List Byte :=
  let s := ghash h (padTo 16 aad ++ padTo 16 ct ++ toBytes 8 (8 * aad.length) ++ toBytes 8 (8 * ct.length))
  xorBytes (aesEnc key (iv ++ [0, 0, 0, 1])) (toBytes 16 s)

def gcmTag (key iv aad ct : List Byte) : List Byte := gcmTagH (hashKey key) key iv aad ct

/-- GCM encryption: ciphertext and tag. -/
def gcmSealH (h : Nat) (key iv aad pt : List Byte) : List Byte × List Byte :=
  let ct := gctr key (iv ++ [0, 0, 0, 2]) pt
  (ct, gcmTagH h key iv aad ct)
def gcmSeal (key iv aad pt : List Byte) : List Byte × List Byte := gcmSealH (hashKey key) key iv aad pt

/-- GCM decryption: the plaintext, and whether the tag is right. -/
def gcmOpenH (h : Nat) (key iv aad ct tag : List Byte) : List Byte × Bool :=
  (gctr key (iv ++ [0, 0, 0, 2]) ct, gcmTagH h key iv aad ct == tag)
def gcmOpen (key iv aad ct tag : List Byte) : List Byte × Bool := gcmOpenH (hashKey key) key iv aad ct tag

/-! ECB, CBC, CMAC (SP 800-38A, 38B). -/

def ecbEnc (key l : List Byte) : List Byte := (blocks l).flatMap (aesEnc key)
def ecbDec (key l : List Byte) : List Byte := (blocks l).flatMap (aesDec key)
def cbcEnc (key iv l : List Byte) : List Byte :=
  ((blocks l).foldl (fun (out, c) b => let e := aesEnc key (xorBytes b c); (out ++ e, e)) ([], iv)).1
def cbcDec (key iv l : List Byte) : List Byte :=
  ((blocks l).foldl (fun (out, c) b => (out ++ xorBytes (aesDec key b) c, b)) ([], iv)).1

/-- Doubling in GF(2^128) as CMAC's subkeys use it. -/
def cmacDbl (x : Nat) : Nat := if x / 2 ^ 127 = 1 then Nat.xor (x * 2 % 2 ^ 128) 0x87 else x * 2

/-- The 16-byte CMAC of a byte string. -/
def cmac (key l : List Byte) : List Byte :=
  let k1 := cmacDbl (ofBytes (aesEnc key (List.replicate 16 0)))
  let n := (l.length - 1) / 16 * 16
  let tail := l.drop n
  let last := if tail.length = 16 then xorBytes tail (toBytes 16 k1)
    else xorBytes (padTo 16 (tail ++ [0x80])) (toBytes 16 (cmacDbl k1))
  (blocks (l.take n ++ last)).foldl (fun c b => aesEnc key (xorBytes b c)) (List.replicate 16 0)

/-! AES key wrap (RFC 3394) and with padding (RFC 5649). -/

/-- One pass over the semiblocks; `t` the step before the first. -/
def kwPass (key : List Byte) : Nat → List Byte → List (List Byte) → List Byte × List (List Byte)
  | _, a, [] => (a, [])
  | t, a, r :: rs =>
    let b := aesEnc key (a ++ r)
    let (a', rs') := kwPass key (t + 1) (xorBytes (b.take 8) (toBytes 8 (t + 1))) rs
    (a', b.drop 8 :: rs')

/-- The wrap of semiblocks under an 8-byte initial value. -/
def kwCore (key iv : List Byte) (rs : List (List Byte)) : List Byte :=
  let n := rs.length
  let (a, rs) := (List.range 6).foldl (fun (a, rs) j => kwPass key (n * j) a rs) (iv, rs)
  a ++ rs.flatten

/-- One pass back, over the semiblocks latest first. -/
def kwBack (key : List Byte) : Nat → List Byte → List (List Byte) → List Byte × List (List Byte)
  | _, a, [] => (a, [])
  | t, a, r :: rs =>
    let b := aesDec key (xorBytes a (toBytes 8 t) ++ r)
    let (a', rs') := kwBack key (t - 1) (b.take 8) rs
    (a', b.drop 8 :: rs')

/-- The unwrap: the initial value found, and the semiblocks. -/
def kwOpen (key c : List Byte) : List Byte × List Byte :=
  let rs := (chunks c.length 8 (c.drop 8)).reverse
  let n := rs.length
  let (a, rs) := (List.range 6).foldl (fun (a, rs) j => kwBack key (n * (6 - j)) a rs) (c.take 8, rs)
  (a, rs.reverse.flatten)

/-- Initial value of RFC 3394, and the constant of RFC 5649. -/
def kwIv : List Byte := List.replicate 8 0xA6
def kwpConst : List Byte := [0xA6, 0x59, 0x59, 0xA6]

/-- Key wrap of a multiple of 8 bytes; its unwrap, none where the check fails. -/
def kwWrap (key p : List Byte) : List Byte := kwCore key kwIv (chunks p.length 8 p)
def kwUnwrap (key c : List Byte) : Option (List Byte) :=
  let (a, p) := kwOpen key c
  if a = kwIv then some p else none

/-- Key wrap with padding, and its unwrap. -/
def kwpWrap (key p : List Byte) : List Byte :=
  let iv := kwpConst ++ toBytes 4 p.length
  let q := padTo 8 p
  if q.length = 8 then aesEnc key (iv ++ q) else kwCore key iv (chunks q.length 8 q)
def kwpUnwrap (key c : List Byte) : Option (List Byte) :=
  let (a, p) := if c.length = 16 then let b := aesDec key c; (b.take 8, b.drop 8) else kwOpen key c
  let n := ofBytes (a.drop 4)
  if a.take 4 = kwpConst ∧ n ≤ p.length ∧ p.length < n + 8 ∧ (p.drop n).all (· == 0) then some (p.take n) else none

end Sys2Proof.Machine
end

