-- ==== Sys2Proof/Config.lean ====
section
/-! DEFINITION. What one device or one moment fixes and the spec leaves open: free values. None has a body, so
nothing proved of the model rests on a number chosen here. -/

namespace Sys2Proof

/-- Byte `i` of the `d`-th draw from the true random number generator (R302, R304, R307). FREE VALUE (log entry 5). -/
opaque Config.trngByte : Nat → Nat → BitVec 8

/-- The root secret the helper-data code makes of an array's response (R234, R235), as 256 bits. FREE VALUE
(log entry 6). -/
opaque Config.root : Nat → BitVec 256

/-- The key the die shares with its flash die (R319). FREE VALUE (log entry 6). -/
opaque Config.pairingKey : BitVec 256

/-- The bucket a longest-prefix key may be placed in: of the two candidates `h` = 0, 1, for a stored prefix of
length `len` (R126). FREE VALUE (log entry 7). -/
opaque Config.lpmBucket : (h len key : Nat) → BitVec 15

/-- The bucket of a learning-table key for each candidate `h` (R131). FREE VALUE (log entry 7). -/
opaque Config.learnBucket : (h key : Nat) → BitVec 14

/-- The Toerath service's P-384 public key in the firmware image, Qx then Qy, and whether it matches the value in antifuse
(R295, R438). FREE VALUES (log entry 6). -/
opaque Config.toerathKey : BitVec 768
opaque Config.toerathKeyOk : Bool

/-- The DEVID certificate Kergan writes to flash at enrolment (R292, R302). FREE VALUE (log entry 6). -/
opaque Config.devidCert : List (BitVec 8)

/-- A value the spec leaves open, `i` naming the place and `n` the use. FREE VALUE (log entry 8). -/
opaque Config.free : (i n : Nat) → BitVec 64

end Sys2Proof
end

