-- ==== Sys2Proof/Machine/Objects.lean ====
section
/-! DEFINITION. The object dictionary's map (R12, R17): every object of every chapter's object table with its
index, replication, members, type, access class, default and, for an object without a command of its own, the
writable bits and the values it takes; and a name for every object's key. Generated from the object tables. -/

namespace Sys2Proof.Machine

/-- Object types (R12). -/
inductive Ty where
  | u8 | u16 | u32 | u64 | i32 | i64 | time96 | octets (n : Nat) | window
  deriving DecidableEq, Repr

/-- Access classes (R13). -/
inductive AccClass where
  | ro | rw | wo | w1c | rws | ros
  deriving DecidableEq, Repr

/-- What a write does (R13, R16): nothing (read-only); set the writable bits; only 0 is taken and others ignored;
clear the bits written 1; or the object has a command or a state-dependent rule of its own. -/
inductive WKind where
  | none | plain | zeroOnly | w1c | own
  deriving DecidableEq, Repr

/-- One row of an object table: indices `base` to `base + cnt − 1`, members `lo` to `hi`. -/
structure Obj where
  base : Nat
  cnt  : Nat
  lo   : Nat
  hi   : Nat
  name : String
  ty   : Ty
  acc  : AccClass
  dflt : Nat
  wk   : WKind
  mask : Nat
  ok   : Nat → Bool

/-- Words a value of a type occupies (R418). -/
def Ty.words : Ty → Nat
  | .u64 | .i64 => 2
  | .time96 => 3
  | .octets n => (n + 3) / 4
  | _ => 1

/-- Width of a type in bits. -/
def Ty.width : Ty → Nat
  | .u8 => 8
  | .u16 => 16
  | .u64 | .i64 => 64
  | .time96 => 96
  | .octets n => 8 * n
  | _ => 32

/-- A class that only the secure world reads or writes (R13). -/
def AccClass.secureOnly : AccClass → Bool
  | .rws | .ros => true
  | _ => false

/-- A class whose writes abort (R13). -/
def AccClass.readOnly : AccClass → Bool
  | .ro | .ros => true
  | _ => false

/-- A `w`-bit word read as signed lies in `lo`..`hi`. -/
def inSigned (w : Nat) (lo hi : Int) (v : Nat) : Bool := decide (lo ≤ toSigned w v) && decide (toSigned w v ≤ hi)

/-- TX_FIR taps (R80): each signed tap −31..31, the main tap 0..32, magnitudes summing to at most 32. -/
def txFirOk (v : Nat) : Bool :=
  let t := fun (i : Nat) => toSigned 6 (v / 2 ^ i % 64)
  decide (t 24 ≠ -32) && decide (t 18 ≠ -32) && decide (t 12 ≠ -32) && decide (t 0 ≠ -32) &&
  decide (absNat (t 24) + absNat (t 18) + absNat (t 12) + absNat (t 0) + v / 64 % 64 ≤ 32)

/-- Objects of range 0x1000. -/
def objs1 : List Obj := [
  ⟨0x1000, 1, 0, 0, "VENDOR_ID", .u16, .ro, 19268, .none, 65535, fun _ => true⟩,
  ⟨0x1000, 1, 1, 1, "PART_CODE", .u32, .ro, 12822, .none, 4294967295, fun _ => true⟩,
  ⟨0x1000, 1, 2, 2, "VARIANT", .u8, .ro, 0, .none, 255, fun _ => true⟩,
  ⟨0x1000, 1, 3, 3, "SILICON_STEP", .u8, .ro, 1, .none, 255, fun _ => true⟩,
  ⟨0x1000, 1, 4, 4, "UNIT_SERIAL", (.octets 16), .ro, 0, .none, 340282366920938463463374607431768211455, fun _ => true⟩,
  ⟨0x1000, 1, 5, 5, "FW_VERSION", .u32, .ro, 0, .none, 4294967295, fun _ => true⟩,
  ⟨0x1000, 1, 6, 6, "FW_IMAGE", .u8, .ro, 0, .none, 255, fun _ => true⟩,
  ⟨0x1100, 1, 0, 0, "CAPS", .u8, .ro, 8, .none, 255, fun _ => true⟩,
  ⟨0x1100, 1, 1, 1, "CAP_KDA_VERSIONS", .u8, .ro, 3, .none, 255, fun _ => true⟩,
  ⟨0x1100, 1, 2, 2, "CAP_FAB_VERSIONS", .u8, .ro, 7, .none, 255, fun _ => true⟩,
  ⟨0x1100, 1, 3, 3, "CAP_FEATURES", .u32, .ro, 15, .none, 4294967295, fun _ => true⟩,
  ⟨0x1100, 1, 4, 4, "CAP_SA", .u32, .ro, 131072, .none, 4294967295, fun _ => true⟩,
  ⟨0x1100, 1, 5, 5, "CAP_SC", .u32, .ro, 65536, .none, 4294967295, fun _ => true⟩,
  ⟨0x1100, 1, 6, 6, "CAP_EVENT_SOURCES", .u16, .ro, 384, .none, 65535, fun _ => true⟩,
  ⟨0x1100, 1, 7, 7, "CAP_PERF", .u16, .ro, 64, .none, 65535, fun _ => true⟩,
  ⟨0x1100, 1, 8, 8, "CAP_MAX_WORDS", .u16, .ro, 256, .none, 65535, fun _ => true⟩,
  ⟨0x1200, 4, 0, 0, "CHANNEL", .u8, .ro, 13, .none, 255, fun _ => true⟩,
  ⟨0x1200, 1, 1, 1, "CHAN_CTRL", .u32, .rws, 1, .plain, 23, fun _ => true⟩,
  ⟨0x1201, 2, 1, 1, "CHAN_CTRL", .u32, .rws, 3, .plain, 23, fun _ => true⟩,
  ⟨0x1203, 1, 1, 1, "CHAN_CTRL", .u32, .rws, 1, .plain, 23, fun _ => true⟩,
  ⟨0x1200, 4, 2, 2, "CHAN_MAC", .u64, .rws, 0, .plain, 281474976710655, fun _ => true⟩,
  ⟨0x1200, 4, 3, 3, "CHAN_IPV4", .u32, .rws, 0, .plain, 4294967295, fun _ => true⟩,
  ⟨0x1200, 4, 4, 4, "CHAN_IPV6", (.octets 16), .rws, 0, .plain, 340282366920938463463374607431768211455, fun _ => true⟩,
  ⟨0x1200, 4, 5, 5, "CHAN_UDP_PORT", .u16, .rws, 12822, .plain, 65535, fun v => decide (1 ≤ v) && decide (v ≤ 65535)⟩,
  ⟨0x1200, 4, 6, 6, "CHAN_REQUESTS", .u64, .ro, 0, .none, 18446744073709551615, fun _ => true⟩,
  ⟨0x1200, 4, 7, 7, "CHAN_REJECTED", .u32, .ro, 0, .none, 4294967295, fun _ => true⟩,
  ⟨0x1200, 4, 8, 8, "CHAN_DUPLICATES", .u32, .ro, 0, .none, 4294967295, fun _ => true⟩,
  ⟨0x1200, 4, 9, 9, "CHAN_RX_DROPS", .u32, .ro, 0, .none, 4294967295, fun _ => true⟩,
  ⟨0x1200, 4, 10, 10, "CHAN_RESET", .u8, .rws, 0, .own, 255, fun _ => true⟩,
  ⟨0x1200, 4, 11, 11, "SESSION_ID", .u32, .ro, 0, .none, 4294967295, fun _ => true⟩]
  ++ [
  ⟨0x1200, 4, 12, 12, "SESSION_VERSION", .u8, .ro, 0, .none, 255, fun _ => true⟩,
  ⟨0x1200, 4, 13, 13, "EVT_SUB", .u8, .rw, 0, .own, 255, fun _ => true⟩]

/-- Objects of range 0x2000. -/
def objs2 : List Obj := [
  ⟨0x2000, 32, 0, 0, "LINE_LANE", .u8, .ro, 7, .none, 255, fun _ => true⟩,
  ⟨0x2020, 32, 0, 0, "HOST_LANE", .u8, .ro, 7, .none, 255, fun _ => true⟩,
  ⟨0x2000, 64, 1, 1, "LANE_CTRL", .u32, .rw, 0, .own, 4294967295, fun _ => true⟩,
  ⟨0x2000, 64, 2, 2, "LANE_STATUS", .u32, .ro, 0, .none, 4294967295, fun _ => true⟩,
  ⟨0x2000, 64, 3, 3, "LANE_EVENTS", .u32, .w1c, 0, .w1c, 15, fun _ => true⟩,
  ⟨0x2000, 64, 4, 4, "TX_FIR", .u32, .rw, 2048, .plain, 1073741823, fun v => txFirOk v⟩,
  ⟨0x2000, 64, 5, 5, "RX_SNR", .u16, .ro, 0, .none, 65535, fun _ => true⟩,
  ⟨0x2000, 64, 6, 6, "TRAIN_COUNT", .u32, .ro, 0, .none, 4294967295, fun _ => true⟩,
  ⟨0x2000, 64, 7, 7, "BLOCK_SLIPS", .u32, .ro, 0, .none, 4294967295, fun _ => true⟩,
  ⟨0x2100, 8, 0, 0, "GROUP", .u8, .ro, 4, .none, 255, fun _ => true⟩,
  ⟨0x2100, 8, 1, 1, "GROUP_LAYOUT", .u8, .rws, 0, .own, 255, fun _ => true⟩,
  ⟨0x2100, 8, 2, 2, "GROUP_MODE", .u8, .rws, 0, .own, 255, fun _ => true⟩,
  ⟨0x2100, 8, 3, 3, "TRAIN_TIMEOUT", .u16, .rw, 3000, .plain, 65535, fun v => decide (500 ≤ v) && decide (v ≤ 10000)⟩,
  ⟨0x2100, 8, 4, 4, "GROUP_STATUS", .u32, .ro, 0, .none, 4294967295, fun _ => true⟩,
  ⟨0x2200, 4, 0, 0, "FABRIC_PORT", .u8, .ro, 5, .none, 255, fun _ => true⟩,
  ⟨0x2200, 4, 1, 1, "FAB_CTRL", .u32, .rw, 0, .own, 4294967295, fun _ => true⟩,
  ⟨0x2200, 4, 2, 2, "FAB_STATUS", .u32, .ro, 0, .none, 4294967295, fun _ => true⟩,
  ⟨0x2200, 4, 3, 3, "FAB_CODE_ERRORS", .u32, .ro, 0, .none, 4294967295, fun _ => true⟩,
  ⟨0x2200, 4, 4, 4, "FAB_SKEW", .u8, .ro, 0, .none, 255, fun _ => true⟩,
  ⟨0x2200, 4, 5, 5, "FAB_EVENTS", .u32, .w1c, 0, .w1c, 7, fun _ => true⟩,
  ⟨0x2300, 80, 0, 0, "PATTERN", .u8, .ro, 6, .none, 255, fun _ => true⟩,
  ⟨0x2300, 80, 1, 1, "PG_CTRL", .u32, .rw, 0, .own, 4294967295, fun _ => true⟩,
  ⟨0x2300, 80, 2, 2, "PG_USER", .u64, .rw, 0, .plain, 18446744073709551615, fun _ => true⟩,
  ⟨0x2300, 80, 3, 3, "CHK_STATUS", .u32, .ro, 0, .none, 4294967295, fun _ => true⟩,
  ⟨0x2300, 80, 4, 4, "CHK_BITS", .u64, .ro, 0, .none, 18446744073709551615, fun _ => true⟩,
  ⟨0x2300, 80, 5, 5, "CHK_ERRORS", .u64, .ro, 0, .none, 18446744073709551615, fun _ => true⟩,
  ⟨0x2300, 80, 6, 6, "CHK_LOSSES", .u32, .ro, 0, .none, 4294967295, fun _ => true⟩]

/-- Objects of range 0x3000. -/
def objs3 : List Obj := [
  ⟨0x3000, 32, 0, 0, "ETH_PORT", .u8, .ro, 9, .none, 255, fun _ => true⟩,
  ⟨0x3000, 32, 1, 1, "PCS_CTRL", .u32, .rws, 16, .plain, 31, fun _ => true⟩,
  ⟨0x3000, 32, 2, 2, "PCS_STATUS", .u32, .ro, 0, .none, 4294967295, fun _ => true⟩,
  ⟨0x3000, 32, 3, 3, "LINE_FEC_CORR", .u64, .ro, 0, .none, 18446744073709551615, fun _ => true⟩,
  ⟨0x3000, 32, 4, 4, "LINE_FEC_UNCORR", .u64, .ro, 0, .none, 18446744073709551615, fun _ => true⟩,
  ⟨0x3000, 32, 5, 5, "LINE_FEC_SYMBOLS", .u64, .ro, 0, .none, 18446744073709551615, fun _ => true⟩,
  ⟨0x3000, 32, 6, 6, "HOST_FEC_CORR", .u64, .ro, 0, .none, 18446744073709551615, fun _ => true⟩,
  ⟨0x3000, 32, 7, 7, "HOST_FEC_UNCORR", .u64, .ro, 0, .none, 18446744073709551615, fun _ => true⟩,
  ⟨0x3000, 32, 8, 8, "BLOCK_SLIPS", .u32, .ro, 0, .none, 4294967295, fun _ => true⟩,
  ⟨0x3000, 32, 9, 9, "PCS_EVENTS", .u32, .w1c, 0, .w1c, 15, fun _ => true⟩,
  ⟨0x3100, 8, 0, 0, "OTU4_GROUP", .u8, .ro, 12, .none, 255, fun _ => true⟩,
  ⟨0x3100, 8, 1, 1, "OTN_CTRL", .u32, .rws, 19, .plain, 19, fun _ => true⟩,
  ⟨0x3100, 8, 2, 2, "OTN_STATUS", .u32, .ro, 0, .none, 4294967295, fun _ => true⟩,
  ⟨0x3100, 8, 3, 3, "LINE_FEC_CORR", .u64, .ro, 0, .none, 18446744073709551615, fun _ => true⟩,
  ⟨0x3100, 8, 4, 4, "LINE_FEC_UNCORR", .u64, .ro, 0, .none, 18446744073709551615, fun _ => true⟩,
  ⟨0x3100, 8, 5, 5, "LINE_BIP8", .u64, .ro, 0, .none, 18446744073709551615, fun _ => true⟩,
  ⟨0x3100, 8, 6, 6, "LINE_BEI", .u64, .ro, 0, .none, 18446744073709551615, fun _ => true⟩,
  ⟨0x3100, 8, 7, 7, "HOST_FEC_CORR", .u64, .ro, 0, .none, 18446744073709551615, fun _ => true⟩,
  ⟨0x3100, 8, 8, 8, "HOST_FEC_UNCORR", .u64, .ro, 0, .none, 18446744073709551615, fun _ => true⟩,
  ⟨0x3100, 8, 9, 9, "GMP_ERRORS", .u32, .ro, 0, .none, 4294967295, fun _ => true⟩,
  ⟨0x3100, 8, 10, 10, "ALIGN_REJECTS", .u32, .ro, 0, .none, 4294967295, fun _ => true⟩,
  ⟨0x3100, 8, 11, 11, "OTL_SKEW", .u16, .ro, 0, .none, 65535, fun _ => true⟩,
  ⟨0x3100, 8, 12, 12, "OTN_EVENTS", .u32, .w1c, 0, .w1c, 65535, fun _ => true⟩,
  ⟨0x3180, 8, 0, 0, "PM", .u8, .ro, 3, .none, 255, fun _ => true⟩,
  ⟨0x3180, 8, 1, 1, "PM_DAY_OFFSET", .u32, .rws, 0, .plain, 4294967295, fun v => decide (v ≤ 86399)⟩,
  ⟨0x3180, 8, 2, 2, "PM_SELECT", .u8, .rw, 0, .own, 255, fun _ => true⟩,
  ⟨0x3180, 8, 3, 3, "PM_BIN", .window, .ro, 0, .none, 4294967295, fun _ => true⟩,
  ⟨0x3200, 4, 0, 0, "TSI", .u8, .ro, 7, .none, 255, fun _ => true⟩,
  ⟨0x3200, 4, 1, 1, "TSI_ACTIVE", .u8, .ro, 0, .none, 255, fun _ => true⟩,
  ⟨0x3200, 4, 2, 2, "TSI_SWAP_TICK", .u64, .rws, 18446744073709551615, .own, 18446744073709551615, fun _ => true⟩]
  ++ [
  ⟨0x3200, 4, 3, 3, "TSI_STATUS", .u32, .ro, 0, .none, 4294967295, fun _ => true⟩,
  ⟨0x3200, 4, 4, 4, "TSI_ADDR", .u32, .rws, 0, .plain, 33279, fun v => decide (v % 512 ≤ 319)⟩,
  ⟨0x3200, 4, 5, 5, "TSI_DATA", .window, .rws, 0, .own, 4294967295, fun _ => true⟩,
  ⟨0x3200, 4, 6, 6, "TSI_COPY", .u8, .wo, 0, .own, 255, fun _ => true⟩,
  ⟨0x3200, 4, 7, 7, "TSI_ERR_ENTRY", .u16, .ro, 65535, .none, 65535, fun _ => true⟩,
  ⟨0x3300, 4, 0, 0, "L1", .u8, .ro, 4, .none, 255, fun _ => true⟩,
  ⟨0x3300, 4, 1, 1, "L1_ADDR", .u32, .rws, 0, .plain, 4095, fun v => decide (v % 256 ≤ 159) && decide (v / 256 % 16 ≤ 8)⟩,
  ⟨0x3300, 4, 2, 2, "L1_DATA", .window, .rws, 0, .own, 4294967295, fun _ => true⟩,
  ⟨0x3300, 4, 3, 3, "L1_SWITCH_SEL", .u8, .rws, 0, .plain, 255, fun v => decide (v ≤ 159)⟩,
  ⟨0x3300, 4, 4, 4, "L1_SWITCH_TICK", .u64, .rws, 18446744073709551615, .own, 18446744073709551615, fun _ => true⟩]

/-- Objects of range 0x4000. -/
def objs4 : List Obj := [
  ⟨0x4000, 8, 0, 0, "CLASS", .u8, .ro, 15, .none, 255, fun _ => true⟩,
  ⟨0x4000, 4, 1, 1, "CLASS_CTRL", .u32, .rws, 0, .plain, 51, fun v => decide (v % 4 ≠ 3)⟩,
  ⟨0x4004, 4, 1, 1, "CLASS_CTRL", .u32, .rws, 1, .plain, 51, fun v => decide (v % 4 ≠ 3)⟩,
  ⟨0x4000, 8, 2, 2, "RULE_ADDR", .u32, .rws, 0, .own, 4294967295, fun _ => true⟩,
  ⟨0x4000, 8, 3, 3, "RULE_DATA", .window, .rws, 0, .own, 4294967295, fun _ => true⟩,
  ⟨0x4000, 8, 4, 9, "MALF_COUNT_0–5", .u32, .ro, 0, .none, 4294967295, fun _ => true⟩,
  ⟨0x4000, 8, 10, 10, "SLOW_FRAMES", .u64, .ro, 0, .none, 18446744073709551615, fun _ => true⟩,
  ⟨0x4000, 8, 11, 11, "SLOW_OVERFLOW", .u32, .ro, 0, .none, 4294967295, fun _ => true⟩,
  ⟨0x4000, 8, 12, 12, "TABLE_PARITY", .u32, .ro, 0, .none, 4294967295, fun _ => true⟩,
  ⟨0x4000, 8, 13, 13, "SC_MISS", .u32, .ro, 0, .none, 4294967295, fun _ => true⟩,
  ⟨0x4000, 8, 14, 14, "SC_MISMATCH", .u32, .ro, 0, .none, 4294967295, fun _ => true⟩,
  ⟨0x4000, 8, 15, 15, "NO_TAG", .u32, .ro, 0, .none, 4294967295, fun _ => true⟩,
  ⟨0x4010, 32, 0, 0, "CLASS_PORT", .u8, .ro, 5, .none, 255, fun _ => true⟩,
  ⟨0x4010, 32, 1, 1, "OUT_DEFAULT", .u32, .rws, 1610612736, .plain, 4294967295, fun _ => true⟩,
  ⟨0x4010, 32, 2, 2, "IN_DEFAULT", .u32, .rws, 1610612736, .plain, 4294967295, fun _ => true⟩,
  ⟨0x4010, 32, 3, 3, "IMPLICIT_SCI", .u64, .rws, 0, .plain, 18446744073709551615, fun _ => true⟩,
  ⟨0x4010, 32, 4, 4, "IMPLICIT_SC_INDEX", .u16, .rws, 0, .plain, 65535, fun _ => true⟩,
  ⟨0x4010, 32, 5, 5, "LEARN_EN", .u8, .rws, 0, .plain, 255, fun v => decide (v ≤ 1)⟩,
  ⟨0x4100, 1, 0, 0, "LPM", .u8, .ro, 13, .none, 255, fun _ => true⟩,
  ⟨0x4100, 1, 1, 1, "LPM_LEN_V4", .u32, .rws, 0, .plain, 4294967295, fun _ => true⟩,
  ⟨0x4100, 1, 2, 2, "LPM_LEN_V6", (.octets 16), .rws, 0, .plain, 340282366920938463463374607431768211455, fun _ => true⟩,
  ⟨0x4100, 1, 3, 3, "LPM_DEFAULT_V4", .u32, .rws, 0, .plain, 4294967295, fun _ => true⟩,
  ⟨0x4100, 1, 4, 4, "LPM_DEFAULT_V6", .u32, .rws, 0, .plain, 4294967295, fun _ => true⟩,
  ⟨0x4100, 1, 5, 5, "LPM_KEY", (.octets 16), .rws, 0, .plain, 340282366920938463463374607431768211455, fun _ => true⟩,
  ⟨0x4100, 1, 6, 6, "LPM_PREFIX", .u16, .rws, 0, .plain, 511, fun _ => true⟩,
  ⟨0x4100, 1, 7, 7, "LPM_RESULT", .u32, .rws, 0, .plain, 4294967295, fun _ => true⟩,
  ⟨0x4100, 1, 8, 8, "LPM_OP", .u8, .wo, 0, .own, 255, fun _ => true⟩,
  ⟨0x4100, 1, 9, 9, "LPM_STATUS", .u32, .ro, 0, .none, 4294967295, fun _ => true⟩,
  ⟨0x4100, 1, 10, 10, "LPM_USED", .u32, .ro, 0, .none, 4294967295, fun _ => true⟩,
  ⟨0x4100, 1, 11, 11, "LPM_REFUSED", .u32, .ro, 0, .none, 4294967295, fun _ => true⟩]
  ++ [
  ⟨0x4100, 1, 12, 12, "LPM_ADDR", .u32, .rws, 0, .plain, 4294967295, fun v => decide (v ≤ 262143)⟩,
  ⟨0x4100, 1, 13, 13, "LPM_DATA", .window, .ro, 0, .none, 4294967295, fun _ => true⟩,
  ⟨0x4200, 4, 0, 0, "LEARN", .u8, .ro, 11, .none, 255, fun _ => true⟩,
  ⟨0x4200, 4, 1, 1, "AGE_TIME", .u32, .rws, 300, .plain, 4294967295, fun v => decide (v = 0) || (decide (10 ≤ v) && decide (v ≤ 1000000))⟩,
  ⟨0x4200, 4, 2, 2, "LEARN_OFFSET", .u16, .rws, 0, .plain, 65535, fun _ => true⟩,
  ⟨0x4200, 4, 3, 3, "LEARN_KEY", .u64, .rws, 0, .plain, 1152921504606846975, fun _ => true⟩,
  ⟨0x4200, 4, 4, 4, "LEARN_VALUE", .u32, .rws, 0, .plain, 3223322623, fun _ => true⟩,
  ⟨0x4200, 4, 5, 5, "LEARN_OP", .u8, .wo, 0, .own, 255, fun _ => true⟩,
  ⟨0x4200, 4, 6, 6, "LEARN_STATUS", .u32, .ro, 0, .none, 4294967295, fun _ => true⟩,
  ⟨0x4200, 4, 7, 7, "LEARN_USED", .u32, .ro, 0, .none, 4294967295, fun _ => true⟩,
  ⟨0x4200, 4, 8, 8, "LEARN_FULL", .u32, .ro, 0, .none, 4294967295, fun _ => true⟩,
  ⟨0x4200, 4, 9, 9, "MAC_MOVES", .u32, .ro, 0, .none, 4294967295, fun _ => true⟩,
  ⟨0x4200, 4, 10, 10, "LEARN_CONFLICT", .u32, .ro, 0, .none, 4294967295, fun _ => true⟩,
  ⟨0x4200, 4, 11, 11, "LEARN_FIFO_DROPS", .u32, .ro, 0, .none, 4294967295, fun _ => true⟩,
  ⟨0x4300, 1, 0, 0, "SHADOW", .u8, .ro, 6, .none, 255, fun _ => true⟩,
  ⟨0x4300, 1, 1, 1, "SHADOW_CTRL", .u32, .rws, 0, .plain, 16131, fun _ => true⟩,
  ⟨0x4300, 1, 2, 2, "SHADOW_BASE", .u64, .rws, 0, .plain, 18446744073709551615, fun v => decide (v % 4096 = 0)⟩,
  ⟨0x4300, 1, 3, 3, "SHADOW_PASSES", .u32, .ro, 0, .none, 4294967295, fun _ => true⟩,
  ⟨0x4300, 1, 4, 4, "SHADOW_MISMATCH", .u32, .ro, 0, .none, 4294967295, fun _ => true⟩,
  ⟨0x4300, 1, 5, 5, "SHADOW_LAST", .u32, .ro, 4294967295, .none, 4294967295, fun _ => true⟩,
  ⟨0x4300, 1, 6, 6, "SHADOW_SUSPECT", .u32, .ro, 0, .none, 4294967295, fun _ => true⟩]

/-- Objects of range 0x5000. -/
def objs5 : List Obj := [
  ⟨0x5000, 1, 0, 0, "SC_TABLE", .u8, .ro, 2, .none, 255, fun _ => true⟩,
  ⟨0x5000, 1, 1, 1, "SC_ADDR", .u32, .rws, 0, .own, 4294967295, fun _ => true⟩,
  ⟨0x5000, 1, 2, 2, "SC_DATA", .window, .rws, 0, .own, 4294967295, fun _ => true⟩,
  ⟨0x5010, 1, 0, 0, "SA_STORE", .u8, .ro, 2, .none, 255, fun _ => true⟩,
  ⟨0x5010, 1, 1, 1, "SA_ADDR", .u32, .rws, 0, .own, 4294967295, fun _ => true⟩,
  ⟨0x5010, 1, 2, 2, "SA_DATA", .window, .rws, 0, .own, 4294967295, fun _ => true⟩,
  ⟨0x5020, 1, 0, 0, "KEY_SLOTS", .u8, .ro, 2, .none, 255, fun _ => true⟩,
  ⟨0x5020, 1, 1, 1, "KEY_ADDR", .u32, .rws, 0, .own, 4294967295, fun _ => true⟩,
  ⟨0x5020, 1, 2, 2, "KEY_DATA", .window, .rws, 0, .own, 4294967295, fun _ => true⟩,
  ⟨0x5030, 1, 0, 0, "ARM", .u8, .ro, 15, .none, 255, fun _ => true⟩,
  ⟨0x5030, 1, 1, 15, "ARM_TICK_1–15", .u64, .rws, 18446744073709551615, .own, 18446744073709551615, fun _ => true⟩,
  ⟨0x5040, 1, 0, 0, "PN", .u8, .ro, 2, .none, 255, fun _ => true⟩,
  ⟨0x5040, 1, 1, 1, "PN_THRESHOLD_32", .u32, .rws, 4278190080, .plain, 4294967295, fun v => decide (1 ≤ v) && decide (v ≤ 4294967294)⟩,
  ⟨0x5040, 1, 2, 2, "PN_THRESHOLD_64", .u64, .rws, 18446744073692774400, .plain, 18446744073709551615, fun v => decide (1 ≤ v) && decide (v ≤ 18446744073709551614)⟩,
  ⟨0x5050, 1, 0, 0, "SKIP", .u8, .ro, 4, .none, 255, fun _ => true⟩,
  ⟨0x5050, 1, 1, 1, "SKIP_TICK", .u64, .ro, 18446744073709551615, .none, 18446744073709551615, fun _ => true⟩,
  ⟨0x5050, 1, 2, 2, "SKIP_COUNT", .u32, .ro, 0, .none, 4294967295, fun _ => true⟩,
  ⟨0x5050, 1, 3, 3, "SKIP_FIRST", .u32, .ro, 4294967295, .none, 4294967295, fun _ => true⟩,
  ⟨0x5050, 1, 4, 4, "SKIP_LAST", .u32, .ro, 4294967295, .none, 4294967295, fun _ => true⟩,
  ⟨0x5060, 1, 0, 0, "MIGRATE", .u8, .ro, 5, .none, 255, fun _ => true⟩,
  ⟨0x5060, 1, 1, 1, "MIG_SC", .u16, .rws, 0, .plain, 65535, fun _ => true⟩,
  ⟨0x5060, 1, 2, 2, "MIG_PORT", .u8, .rws, 0, .plain, 255, fun v => decide (v ≤ 31)⟩,
  ⟨0x5060, 1, 3, 3, "MIG_NODE", .u8, .rws, 0, .plain, 255, fun _ => true⟩,
  ⟨0x5060, 1, 4, 4, "MIG_TICK", .u64, .rws, 18446744073709551615, .own, 18446744073709551615, fun _ => true⟩,
  ⟨0x5060, 1, 5, 5, "MIGRATE_LATE", .u32, .ro, 0, .none, 4294967295, fun _ => true⟩,
  ⟨0x5070, 1, 0, 0, "SA_COUNTS", .u8, .ro, 10, .none, 255, fun _ => true⟩,
  ⟨0x5070, 1, 1, 1, "EXHAUSTED_DROPS", .u64, .ro, 0, .none, 18446744073709551615, fun _ => true⟩,
  ⟨0x5070, 1, 2, 2, "RESV_DROPS", .u32, .ro, 0, .none, 4294967295, fun _ => true⟩,
  ⟨0x5070, 1, 3, 3, "OUT_NO_SA", .u64, .ro, 0, .none, 18446744073709551615, fun _ => true⟩,
  ⟨0x5070, 1, 4, 4, "IN_NOT_USING_SA", .u64, .ro, 0, .none, 18446744073709551615, fun _ => true⟩]
  ++ [
  ⟨0x5070, 1, 5, 5, "IN_LATE", .u64, .ro, 0, .none, 18446744073709551615, fun _ => true⟩,
  ⟨0x5070, 1, 6, 6, "SA_BANK_LATE", .u32, .ro, 0, .none, 4294967295, fun _ => true⟩,
  ⟨0x5070, 1, 7, 7, "SCRUB_PASSES", .u32, .ro, 0, .none, 4294967295, fun _ => true⟩,
  ⟨0x5070, 1, 8, 8, "SCRUB_CORRECTED", .u32, .ro, 0, .none, 4294967295, fun _ => true⟩,
  ⟨0x5070, 1, 9, 9, "SCRUB_UNCORR", .u32, .ro, 0, .none, 4294967295, fun _ => true⟩,
  ⟨0x5070, 1, 10, 10, "SCRUB_LAST", .u32, .ro, 4294967295, .none, 4294967295, fun _ => true⟩]

/-- Objects of range 0x6000. -/
def objs6 : List Obj := [
  ⟨0x6000, 8, 0, 0, "SLICE", .u8, .ro, 5, .none, 255, fun _ => true⟩,
  ⟨0x6000, 8, 1, 1, "SLICE_STATUS", .u32, .ro, 0, .none, 4294967295, fun _ => true⟩,
  ⟨0x6000, 8, 2, 2, "SLICE_FRAMES", .u64, .ro, 0, .none, 18446744073709551615, fun _ => true⟩,
  ⟨0x6000, 8, 3, 3, "SLICE_HELD", .u64, .ro, 0, .none, 18446744073709551615, fun _ => true⟩,
  ⟨0x6000, 8, 4, 4, "SQUELCHED", .u32, .ro, 0, .none, 4294967295, fun _ => true⟩,
  ⟨0x6000, 8, 5, 5, "VBUF_HIGH", .u32, .rw, 0, .zeroOnly, 4294967295, fun _ => true⟩,
  ⟨0x6100, 32, 0, 0, "CIPHER_PORT", .u8, .ro, 11, .none, 255, fun _ => true⟩,
  ⟨0x6100, 32, 1, 1, "CIPHER_CTRL", .u32, .rws, 0, .own, 4294967295, fun _ => true⟩,
  ⟨0x6100, 32, 2, 2, "PRED_HIT", .u64, .ro, 0, .none, 18446744073709551615, fun _ => true⟩,
  ⟨0x6100, 32, 3, 3, "PRED_MISS", .u64, .ro, 0, .none, 18446744073709551615, fun _ => true⟩,
  ⟨0x6100, 32, 4, 4, "VERIFY_KILLED", .u64, .ro, 0, .none, 18446744073709551615, fun _ => true⟩,
  ⟨0x6100, 32, 5, 5, "VERIFY_DROPPED", .u64, .ro, 0, .none, 18446744073709551615, fun _ => true⟩,
  ⟨0x6100, 32, 6, 6, "CHECK_DELIVERED", .u64, .ro, 0, .none, 18446744073709551615, fun _ => true⟩,
  ⟨0x6100, 32, 7, 7, "TAG_MISMATCH", .u32, .ro, 0, .none, 4294967295, fun _ => true⟩,
  ⟨0x6100, 32, 8, 8, "TAG_SHORT", .u32, .ro, 0, .none, 4294967295, fun _ => true⟩,
  ⟨0x6100, 32, 9, 9, "DET_LATE", .u32, .ro, 0, .none, 4294967295, fun _ => true⟩,
  ⟨0x6100, 32, 10, 10, "DET_AM_DEFER", .u32, .ro, 0, .none, 4294967295, fun _ => true⟩,
  ⟨0x6100, 32, 11, 11, "VERIFY_LAST", .u32, .ro, 0, .none, 4294967295, fun _ => true⟩,
  ⟨0x6200, 32, 0, 0, "LATENCY", .u8, .ro, 10, .none, 255, fun _ => true⟩,
  ⟨0x6200, 32, 1, 1, "LAT_STATUS", .u32, .ro, 0, .none, 4294967295, fun _ => true⟩,
  ⟨0x6200, 32, 2, 2, "LAT_OUT_NOMINAL", .u32, .ro, 0, .none, 4294967295, fun _ => true⟩,
  ⟨0x6200, 32, 3, 3, "LAT_IN_NOMINAL", .u32, .ro, 0, .none, 4294967295, fun _ => true⟩,
  ⟨0x6200, 32, 4, 4, "LAT_OUT_LAST", .u32, .ro, 0, .none, 4294967295, fun _ => true⟩,
  ⟨0x6200, 32, 5, 5, "LAT_IN_LAST", .u32, .ro, 0, .none, 4294967295, fun _ => true⟩,
  ⟨0x6200, 32, 6, 6, "LAT_OUT_MIN", .u32, .ro, 4294967295, .none, 4294967295, fun _ => true⟩,
  ⟨0x6200, 32, 7, 7, "LAT_OUT_MAX", .u32, .ro, 0, .none, 4294967295, fun _ => true⟩,
  ⟨0x6200, 32, 8, 8, "LAT_IN_MIN", .u32, .ro, 4294967295, .none, 4294967295, fun _ => true⟩,
  ⟨0x6200, 32, 9, 9, "LAT_IN_MAX", .u32, .ro, 0, .none, 4294967295, fun _ => true⟩,
  ⟨0x6200, 32, 10, 10, "LAT_CLEAR", .u8, .wo, 0, .own, 255, fun _ => true⟩]

/-- Objects of range 0x7000. -/
def objs7 : List Obj := [
  ⟨0x7000, 4, 0, 0, "SCHED", .u8, .ro, 12, .none, 255, fun _ => true⟩,
  ⟨0x7000, 4, 1, 1, "BUF_LIMIT", .u32, .rws, 262144, .plain, 4294967295, fun v => decide (v ≤ 1048576)⟩,
  ⟨0x7000, 4, 2, 2, "BUF_USED", .u32, .ro, 0, .none, 4294967295, fun _ => true⟩,
  ⟨0x7000, 4, 3, 3, "BUF_HIGH", .u32, .rw, 0, .zeroOnly, 4294967295, fun _ => true⟩,
  ⟨0x7000, 4, 4, 4, "FLOW_ADDR", .u32, .rws, 0, .plain, 1023, fun _ => true⟩,
  ⟨0x7000, 4, 5, 5, "FLOW_DATA", .window, .rws, 0, .own, 4294967295, fun _ => true⟩,
  ⟨0x7000, 4, 6, 6, "QUEUE_ADDR", .u32, .rws, 0, .own, 4294967295, fun _ => true⟩,
  ⟨0x7000, 4, 7, 7, "QUEUE_DATA", .window, .rws, 0, .own, 4294967295, fun _ => true⟩,
  ⟨0x7000, 4, 8, 8, "FLOW_MISS", .u32, .ro, 0, .none, 4294967295, fun _ => true⟩,
  ⟨0x7000, 4, 9, 9, "PORT_MISMATCH", .u32, .ro, 0, .none, 4294967295, fun _ => true⟩,
  ⟨0x7000, 4, 10, 10, "GATE_OVERSIZE", .u32, .ro, 0, .none, 4294967295, fun _ => true⟩,
  ⟨0x7000, 4, 11, 11, "TAIL_DROPS", .u64, .ro, 0, .none, 18446744073709551615, fun _ => true⟩,
  ⟨0x7000, 4, 12, 12, "ANNOUNCED", .u64, .ro, 0, .none, 18446744073709551615, fun _ => true⟩,
  ⟨0x7020, 32, 0, 0, "SCHED_PORT", .u8, .ro, 12, .none, 255, fun _ => true⟩,
  ⟨0x7020, 32, 1, 1, "LEN_ADJ", .i32, .rws, 20, .plain, 4294967295, fun v => inSigned 32 (-64) 127 v⟩,
  ⟨0x7020, 32, 2, 2, "PORT_RATE", .u32, .rws, 0, .plain, 4294967295, fun v => decide (v ≤ 800000)⟩,
  ⟨0x7020, 32, 3, 3, "PORT_BURST", .u32, .rws, 16384, .plain, 4294967295, fun v => decide (64 ≤ v) && decide (v ≤ 16777215)⟩,
  ⟨0x7020, 32, 4, 4, "GATE_CTRL", .u32, .rws, 0, .plain, 4294967295, fun _ => true⟩,
  ⟨0x7020, 32, 5, 5, "GATE_BASE", (.octets 10), .rws, 0, .plain, 1208925819614629174706175, fun v => decide (v % 2 ^ 32 < 1000000000)⟩,
  ⟨0x7020, 32, 6, 6, "GATE_CYCLE", .u32, .rws, 1000000, .plain, 4294967295, fun v => decide (1000 ≤ v) && decide (v ≤ 1000000000)⟩,
  ⟨0x7020, 32, 7, 7, "GATE_ADDR", .u32, .rws, 0, .plain, 34815, fun _ => true⟩,
  ⟨0x7020, 32, 8, 8, "GATE_DATA", .window, .rws, 0, .own, 4294967295, fun _ => true⟩,
  ⟨0x7020, 32, 9, 9, "GATE_ARM", .u8, .rws, 0, .own, 255, fun _ => true⟩,
  ⟨0x7020, 32, 10, 10, "GATE_STATUS", .u32, .ro, 65280, .none, 4294967295, fun _ => true⟩,
  ⟨0x7020, 32, 11, 11, "GATE_SWAP_TICK", .u64, .ro, 18446744073709551615, .none, 18446744073709551615, fun _ => true⟩,
  ⟨0x7020, 32, 12, 12, "GATE_START", (.octets 10), .ro, 0, .none, 1208925819614629174706175, fun _ => true⟩,
  ⟨0x7100, 4, 0, 0, "POLICE", .u8, .ro, 3, .none, 255, fun _ => true⟩,
  ⟨0x7100, 4, 1, 1, "POL_ADDR", .u32, .rws, 0, .own, 4294967295, fun _ => true⟩,
  ⟨0x7100, 4, 2, 2, "POL_DATA", .window, .rws, 0, .own, 4294967295, fun _ => true⟩,
  ⟨0x7100, 4, 3, 3, "POL_KILLED", .u64, .ro, 0, .none, 18446744073709551615, fun _ => true⟩]

/-- Objects of range 0x8000. -/
def objs8 : List Obj := [
  ⟨0x8000, 1, 0, 0, "TICK", .u8, .ro, 6, .none, 255, fun _ => true⟩,
  ⟨0x8000, 1, 1, 1, "TICK_NUMBER", .u64, .ro, 0, .none, 18446744073709551615, fun _ => true⟩,
  ⟨0x8000, 1, 2, 2, "TICK_TIME", .time96, .ro, 0, .none, 79228162514264337593543950335, fun _ => true⟩,
  ⟨0x8000, 1, 3, 3, "TICK_STATUS", .u32, .ro, 0, .none, 4294967295, fun _ => true⟩,
  ⟨0x8000, 1, 4, 4, "TICK_PHASE", .i32, .ro, 0, .none, 4294967295, fun _ => true⟩,
  ⟨0x8000, 1, 5, 5, "TICK_LENGTH", .u32, .ro, 12500, .none, 4294967295, fun _ => true⟩,
  ⟨0x8000, 1, 6, 6, "TICK_REALIGN", .u8, .rws, 0, .own, 255, fun _ => true⟩,
  ⟨0x8001, 1, 0, 0, "COMMIT", .u8, .ro, 3, .none, 255, fun _ => true⟩,
  ⟨0x8001, 1, 1, 1, "COMMIT_NEXT", .u64, .ro, 18446744073709551615, .none, 18446744073709551615, fun _ => true⟩,
  ⟨0x8001, 1, 2, 2, "COMMIT_SKIPPED", .u32, .ro, 0, .none, 4294967295, fun _ => true⟩,
  ⟨0x8001, 1, 3, 3, "COMMIT_STALLS", .u32, .ro, 0, .none, 4294967295, fun _ => true⟩,
  ⟨0x8010, 1, 0, 0, "SYNC", .u8, .ro, 8, .none, 255, fun _ => true⟩,
  ⟨0x8010, 1, 1, 1, "SYNC_SOURCE", .u8, .rws, 0, .plain, 255, fun v => decide (v ≤ 2)⟩,
  ⟨0x8010, 1, 2, 2, "SYNC_STEP_EN", .u8, .rws, 0, .plain, 255, fun v => decide (v ≤ 1)⟩,
  ⟨0x8010, 1, 3, 3, "SYNC_STEP_THRESHOLD", .u32, .rws, 1000, .plain, 4294967295, fun v => decide (1000 ≤ v) && decide (v ≤ 2500)⟩,
  ⟨0x8010, 1, 4, 4, "SYNC_DELAY", .i32, .rws, 0, .plain, 4294967295, fun v => inSigned 32 (-50000) 50000 v⟩,
  ⟨0x8010, 1, 5, 5, "SYNC_ERROR", .i32, .ro, 0, .none, 4294967295, fun _ => true⟩,
  ⟨0x8010, 1, 6, 6, "SYNC_EDGES", .u32, .ro, 0, .none, 4294967295, fun _ => true⟩,
  ⟨0x8010, 1, 7, 7, "SYNC_GLITCHES", .u32, .ro, 0, .none, 4294967295, fun _ => true⟩,
  ⟨0x8010, 1, 8, 8, "SYNC_STEPS", .u32, .ro, 0, .none, 4294967295, fun _ => true⟩,
  ⟨0x8020, 1, 0, 0, "BG", .u8, .ro, 6, .none, 255, fun _ => true⟩,
  ⟨0x8020, 1, 1, 5, "BG_OVERRUN_1–5", .u32, .ro, 0, .none, 4294967295, fun _ => true⟩,
  ⟨0x8020, 1, 6, 6, "BG_HIGH_WATER", .u32, .rw, 0, .zeroOnly, 4294967295, fun _ => true⟩,
  ⟨0x8030, 1, 0, 0, "CLOCKS", .u8, .ro, 2, .none, 255, fun _ => true⟩,
  ⟨0x8030, 1, 1, 1, "CLK_LOCKED", .u32, .ro, 0, .none, 4294967295, fun _ => true⟩,
  ⟨0x8030, 1, 2, 2, "CLK_LOST", .u32, .w1c, 0, .w1c, 33554431, fun _ => true⟩,
  ⟨0x8100, 4, 0, 0, "TB", .u8, .ro, 7, .none, 255, fun _ => true⟩,
  ⟨0x8100, 4, 1, 1, "TB_CTRL", .u32, .rws, 1, .plain, 4294967295, fun _ => true⟩,
  ⟨0x8100, 4, 2, 2, "TB_NOW", .time96, .ro, 0, .none, 79228162514264337593543950335, fun _ => true⟩,
  ⟨0x8100, 4, 3, 3, "TB_SET", .time96, .rws, 0, .own, 79228162514264337593543950335, fun _ => true⟩]
  ++ [
  ⟨0x8100, 4, 4, 4, "TB_STEP", .i64, .rws, 0, .own, 18446744073709551615, fun _ => true⟩,
  ⟨0x8100, 4, 5, 5, "TB_STATUS", .u32, .ro, 0, .none, 4294967295, fun _ => true⟩,
  ⟨0x8100, 4, 6, 6, "FREQ", .i32, .ro, 0, .none, 4294967295, fun _ => true⟩,
  ⟨0x8100, 4, 7, 7, "TB_NS32", .u32, .ro, 0, .none, 4294967295, fun _ => true⟩,
  ⟨0x8110, 4, 0, 0, "SERVO", .u8, .ro, 10, .none, 255, fun _ => true⟩,
  ⟨0x8110, 4, 1, 1, "SERVO_OFFSET", .i64, .rws, 0, .own, 18446744073709551615, fun _ => true⟩,
  ⟨0x8110, 4, 2, 2, "KP", .u32, .rws, 734003, .plain, 4294967295, fun _ => true⟩,
  ⟨0x8110, 4, 3, 3, "KI", .u32, .rws, 52429, .plain, 4294967295, fun _ => true⟩,
  ⟨0x8110, 4, 4, 4, "FREQ_LIMIT", .u32, .rws, 200000, .plain, 4294967295, fun v => decide (1000 ≤ v) && decide (v ≤ 1000000)⟩,
  ⟨0x8110, 4, 5, 5, "STEP_THRESHOLD", .u64, .rws, 1000000, .plain, 18446744073709551615, fun v => decide (1000 ≤ v) && decide (v ≤ 1000000000000)⟩,
  ⟨0x8110, 4, 6, 6, "LOCK_THRESHOLD", .u32, .rws, 100000, .plain, 4294967295, fun v => decide (100 ≤ v) && decide (v ≤ 1000000000)⟩,
  ⟨0x8110, 4, 7, 7, "UPDATE_TIMEOUT", .u16, .rws, 1000, .plain, 65535, fun v => decide (10 ≤ v) && decide (v ≤ 60000)⟩,
  ⟨0x8110, 4, 8, 8, "SERVO_CTRL", .u8, .rws, 0, .own, 255, fun _ => true⟩,
  ⟨0x8110, 4, 9, 9, "SERVO_UPDATES", .u32, .ro, 0, .none, 4294967295, fun _ => true⟩,
  ⟨0x8110, 4, 10, 10, "SERVO_DISCARDED", .u32, .ro, 0, .none, 4294967295, fun _ => true⟩,
  ⟨0x8120, 4, 0, 0, "TIMERS", .u8, .ro, 5, .none, 255, fun _ => true⟩,
  ⟨0x8120, 4, 1, 4, "TMR_TARGET_0–3", .u32, .rws, 0, .plain, 4294967295, fun _ => true⟩,
  ⟨0x8120, 4, 5, 5, "TMR_CTRL", .u32, .rws, 0, .own, 4294967295, fun _ => true⟩,
  ⟨0x8130, 1, 0, 0, "CAPTURE", .u8, .ro, 6, .none, 255, fun _ => true⟩,
  ⟨0x8130, 1, 1, 1, "CAPTURE_CMD", .u8, .wo, 0, .own, 255, fun _ => true⟩,
  ⟨0x8130, 1, 2, 5, "CAPTURE_TB0–3", .time96, .ro, 0, .none, 79228162514264337593543950335, fun _ => true⟩,
  ⟨0x8130, 1, 6, 6, "CAPTURE_TICK", .u64, .ro, 0, .none, 18446744073709551615, fun _ => true⟩,
  ⟨0x8140, 1, 0, 0, "OUTPUTS", .u8, .ro, 4, .none, 255, fun _ => true⟩,
  ⟨0x8140, 1, 1, 1, "PPS_TB", .u8, .rws, 0, .plain, 255, fun v => decide (v ≤ 3)⟩,
  ⟨0x8140, 1, 2, 2, "PPS_WIDTH", .u32, .rws, 100000000, .plain, 4294967295, fun v => decide (100 ≤ v) && decide (v ≤ 500000000)⟩,
  ⟨0x8140, 1, 3, 3, "PPS_ADVANCE", .u32, .rws, 0, .plain, 4294967295, fun v => decide (v ≤ 50000)⟩,
  ⟨0x8140, 1, 4, 4, "SYNC_OUT_CTRL", .u8, .rws, 0, .plain, 3, fun _ => true⟩,
  ⟨0x8200, 32, 0, 0, "PTP_PORT", .u8, .ro, 8, .none, 255, fun _ => true⟩,
  ⟨0x8200, 32, 1, 1, "PTP_PORT_CTRL", .u32, .rws, 0, .plain, 19, fun v => decide (v % 4 ≠ 3)⟩,
  ⟨0x8200, 32, 2, 2, "PTP_CORRECTED", .u64, .ro, 0, .none, 18446744073709551615, fun _ => true⟩]
  ++ [
  ⟨0x8200, 32, 3, 3, "PTP_STAMPED", .u64, .ro, 0, .none, 18446744073709551615, fun _ => true⟩,
  ⟨0x8200, 32, 4, 4, "PTP_SKIPPED", .u32, .ro, 0, .none, 4294967295, fun _ => true⟩,
  ⟨0x8200, 32, 5, 5, "PTP_NO_TIME", .u32, .ro, 0, .none, 4294967295, fun _ => true⟩,
  ⟨0x8200, 32, 6, 6, "TX_TS_DATA", .window, .ro, 0, .none, 4294967295, fun _ => true⟩,
  ⟨0x8200, 32, 7, 7, "TX_TS_COUNT", .u8, .ro, 0, .none, 255, fun _ => true⟩,
  ⟨0x8200, 32, 8, 8, "TX_TS_LOST", .u32, .ro, 0, .none, 4294967295, fun _ => true⟩,
  ⟨0x8300, 32, 0, 0, "PROT", .u8, .ro, 4, .none, 255, fun _ => true⟩,
  ⟨0x8300, 32, 1, 1, "PROT_OUT", .u32, .ro, 0, .none, 4294967295, fun _ => true⟩,
  ⟨0x8300, 32, 2, 2, "PROT_IN", .u32, .ro, 0, .none, 4294967295, fun _ => true⟩,
  ⟨0x8300, 32, 3, 3, "PROT_ASYM", .i32, .ro, 0, .none, 4294967295, fun _ => true⟩,
  ⟨0x8300, 32, 4, 4, "ASYM_ALARM", .u32, .rws, 1000, .plain, 4294967295, fun v => decide (100 ≤ v) && decide (v ≤ 1000000)⟩]

/-- Objects of range 0x9000. -/
def objs9 : List Obj := [
  ⟨0x9000, 1, 0, 0, "SA_STATS", .u8, .ro, 4, .none, 255, fun _ => true⟩,
  ⟨0x9000, 1, 1, 1, "SA_STAT_ADDR", .u32, .rw, 0, .plain, 7471103, fun v => decide (v / 2 ^ 20 % 8 ≤ 5)⟩,
  ⟨0x9000, 1, 2, 2, "SA_STAT_DATA", .window, .ro, 0, .none, 4294967295, fun _ => true⟩,
  ⟨0x9000, 1, 3, 3, "STAT_ECC", .u32, .ro, 0, .none, 4294967295, fun _ => true⟩,
  ⟨0x9000, 1, 4, 4, "STAT_ECC_LAST", .u32, .ro, 4294967295, .none, 4294967295, fun _ => true⟩,
  ⟨0x9010, 32, 0, 0, "PORT_STAT", .u8, .ro, 16, .none, 255, fun _ => true⟩,
  ⟨0x9010, 32, 1, 1, "OUT_HOST_FRAMES", .u64, .ro, 0, .none, 18446744073709551615, fun _ => true⟩,
  ⟨0x9010, 32, 2, 2, "OUT_HOST_OCTETS", .u64, .ro, 0, .none, 18446744073709551615, fun _ => true⟩,
  ⟨0x9010, 32, 3, 3, "OUT_LINE_FRAMES", .u64, .ro, 0, .none, 18446744073709551615, fun _ => true⟩,
  ⟨0x9010, 32, 4, 4, "OUT_LINE_OCTETS", .u64, .ro, 0, .none, 18446744073709551615, fun _ => true⟩,
  ⟨0x9010, 32, 5, 5, "OUT_PROTECTED", .u64, .ro, 0, .none, 18446744073709551615, fun _ => true⟩,
  ⟨0x9010, 32, 6, 6, "OUT_BYPASSED", .u64, .ro, 0, .none, 18446744073709551615, fun _ => true⟩,
  ⟨0x9010, 32, 7, 7, "OUT_DROPPED", .u64, .ro, 0, .none, 18446744073709551615, fun _ => true⟩,
  ⟨0x9010, 32, 8, 8, "OUT_HOST_ERRORS", .u64, .ro, 0, .none, 18446744073709551615, fun _ => true⟩,
  ⟨0x9010, 32, 9, 9, "IN_LINE_FRAMES", .u64, .ro, 0, .none, 18446744073709551615, fun _ => true⟩,
  ⟨0x9010, 32, 10, 10, "IN_LINE_OCTETS", .u64, .ro, 0, .none, 18446744073709551615, fun _ => true⟩,
  ⟨0x9010, 32, 11, 11, "IN_HOST_FRAMES", .u64, .ro, 0, .none, 18446744073709551615, fun _ => true⟩,
  ⟨0x9010, 32, 12, 12, "IN_HOST_OCTETS", .u64, .ro, 0, .none, 18446744073709551615, fun _ => true⟩,
  ⟨0x9010, 32, 13, 13, "IN_VERIFIED", .u64, .ro, 0, .none, 18446744073709551615, fun _ => true⟩,
  ⟨0x9010, 32, 14, 14, "IN_BYPASSED", .u64, .ro, 0, .none, 18446744073709551615, fun _ => true⟩,
  ⟨0x9010, 32, 15, 15, "IN_DROPPED", .u64, .ro, 0, .none, 18446744073709551615, fun _ => true⟩,
  ⟨0x9010, 32, 16, 16, "IN_KILLED", .u64, .ro, 0, .none, 18446744073709551615, fun _ => true⟩,
  ⟨0x9100, 1, 0, 0, "PERF", .u8, .ro, 4, .none, 255, fun _ => true⟩,
  ⟨0x9100, 1, 1, 1, "PERF_CTRL", .u32, .rw, 1, .own, 4294967295, fun _ => true⟩,
  ⟨0x9100, 1, 2, 2, "PERF_CHAIN", .u32, .rw, 0, .own, 4294967295, fun _ => true⟩,
  ⟨0x9100, 1, 3, 3, "PERF_WRAP", .u64, .w1c, 0, .w1c, 18446744073709551615, fun _ => true⟩,
  ⟨0x9100, 1, 4, 4, "PERF_SAT", .u64, .w1c, 0, .w1c, 18446744073709551615, fun _ => true⟩,
  ⟨0x9110, 64, 0, 0, "PERF_CTR", .u8, .ro, 3, .none, 255, fun _ => true⟩,
  ⟨0x9110, 64, 1, 1, "PERF_SEL", .u16, .rw, 0, .own, 65535, fun _ => true⟩,
  ⟨0x9110, 64, 2, 2, "PERF_HW", .u16, .ro, 0, .none, 65535, fun _ => true⟩]
  ++ [
  ⟨0x9110, 64, 3, 3, "PERF_ACC", .u64, .ro, 0, .none, 18446744073709551615, fun _ => true⟩,
  ⟨0x9200, 1, 0, 0, "DUMP", .u8, .ro, 11, .none, 255, fun _ => true⟩,
  ⟨0x9200, 1, 1, 1, "DUMP_PERIOD", .u32, .rw, 0, .plain, 4294967295, fun v => decide (v ≤ 1000000)⟩,
  ⟨0x9200, 1, 2, 2, "DUMP_SELECT", .u32, .rw, 3, .plain, 7, fun _ => true⟩,
  ⟨0x9200, 1, 3, 3, "DUMP_SA_FIRST", .u32, .rw, 0, .plain, 4294967295, fun v => decide (v ≤ 131071)⟩,
  ⟨0x9200, 1, 4, 4, "DUMP_SA_LAST", .u32, .rw, 131071, .plain, 4294967295, fun v => decide (v ≤ 131071)⟩,
  ⟨0x9200, 1, 5, 5, "DUMP_REQUEST", .u8, .wo, 0, .own, 255, fun _ => true⟩,
  ⟨0x9200, 1, 6, 6, "DUMP_DATA", .window, .ro, 0, .none, 4294967295, fun _ => true⟩,
  ⟨0x9200, 1, 7, 7, "DUMP_LEVEL", .u16, .ro, 0, .none, 65535, fun _ => true⟩,
  ⟨0x9200, 1, 8, 8, "DUMP_STATUS", .u32, .ro, 0, .none, 4294967295, fun _ => true⟩,
  ⟨0x9200, 1, 9, 9, "DUMP_SEQ", .u32, .ro, 0, .none, 4294967295, fun _ => true⟩,
  ⟨0x9200, 1, 10, 10, "DUMP_SKIPPED", .u32, .ro, 0, .none, 4294967295, fun _ => true⟩,
  ⟨0x9200, 1, 11, 11, "DUMP_STALLS", .u32, .ro, 0, .none, 4294967295, fun _ => true⟩,
  ⟨0x9300, 1, 0, 0, "FREEZE", .u8, .ro, 4, .none, 255, fun _ => true⟩,
  ⟨0x9300, 1, 1, 1, "FREEZE_CTRL", .u8, .rw, 0, .own, 255, fun _ => true⟩,
  ⟨0x9300, 1, 2, 2, "FREEZE_STATUS", .u32, .ro, 0, .none, 4294967295, fun _ => true⟩,
  ⟨0x9300, 1, 3, 3, "FREEZE_TICK", .u64, .ro, 18446744073709551615, .none, 18446744073709551615, fun _ => true⟩,
  ⟨0x9300, 1, 4, 4, "FREEZE_TIMEOUTS", .u32, .ro, 0, .none, 4294967295, fun _ => true⟩]

/-- Objects of range 0xA000. -/
def objsA : List Obj := [
  ⟨0xA400, 1, 0, 0, "BERYL", .u8, .ro, 12, .none, 255, fun _ => true⟩,
  ⟨0xA400, 1, 1, 1, "BERYL_STATUS", .u32, .ro, 0, .none, 4294967295, fun _ => true⟩,
  ⟨0xA400, 1, 2, 2, "BERYL_DESC", .window, .rws, 0, .own, 4294967295, fun _ => true⟩,
  ⟨0xA400, 1, 3, 3, "BERYL_SUBMIT", .u8, .rws, 0, .own, 255, fun _ => true⟩,
  ⟨0xA400, 1, 4, 4, "BERYL_DONE", .window, .ros, 0, .none, 4294967295, fun _ => true⟩,
  ⟨0xA400, 1, 5, 5, "BERYL_ABORT", .u8, .rws, 0, .own, 255, fun _ => true⟩,
  ⟨0xA400, 1, 6, 6, "BERYL_IO_ADDR", .u32, .rws, 0, .plain, 8191, fun _ => true⟩,
  ⟨0xA400, 1, 7, 7, "BERYL_IO_DATA", .window, .rws, 0, .own, 4294967295, fun _ => true⟩,
  ⟨0xA400, 1, 8, 8, "BERYL_KEYREG_CLEAR", .u16, .rws, 0, .own, 65535, fun _ => true⟩,
  ⟨0xA400, 1, 9, 9, "BERYL_KEYREG_STATUS", .u16, .ros, 0, .none, 65535, fun _ => true⟩,
  ⟨0xA400, 1, 10, 10, "BERYL_JOBS", .u64, .ro, 0, .none, 18446744073709551615, fun _ => true⟩,
  ⟨0xA400, 1, 11, 11, "BERYL_AUTH_FAILS", .u32, .ro, 0, .none, 4294967295, fun _ => true⟩,
  ⟨0xA400, 1, 12, 12, "BERYL_PREEMPTS", .u32, .ro, 0, .none, 4294967295, fun _ => true⟩,
  ⟨0xA800, 1, 0, 0, "JASPER", .u8, .ro, 11, .none, 255, fun _ => true⟩,
  ⟨0xA800, 1, 1, 1, "JASPER_STATUS", .u32, .ro, 0, .none, 4294967295, fun _ => true⟩,
  ⟨0xA800, 1, 2, 2, "JASPER_CLAIM", .u8, .rws, 0, .own, 255, fun _ => true⟩,
  ⟨0xA800, 1, 3, 3, "JASPER_ADDR", .u32, .rws, 0, .own, 4294967295, fun _ => true⟩,
  ⟨0xA800, 1, 4, 4, "JASPER_DATA", .window, .rws, 0, .own, 4294967295, fun _ => true⟩,
  ⟨0xA800, 1, 5, 5, "JASPER_CMD", .u32, .rws, 0, .own, 4294967295, fun _ => true⟩,
  ⟨0xA800, 1, 6, 6, "JASPER_HLEN", .u8, .rws, 32, .plain, 255, fun v => decide (20 ≤ v) && decide (v ≤ 64)⟩,
  ⟨0xA800, 1, 7, 7, "JASPER_RESULT", .u32, .ros, 0, .none, 4294967295, fun _ => true⟩,
  ⟨0xA800, 1, 8, 8, "JASPER_ABORT", .u8, .rws, 0, .own, 255, fun _ => true⟩,
  ⟨0xA800, 1, 9, 9, "JASPER_JOBS", .u64, .ro, 0, .none, 18446744073709551615, fun _ => true⟩,
  ⟨0xA800, 1, 10, 10, "JASPER_FAULTS", .u32, .ro, 0, .none, 4294967295, fun _ => true⟩,
  ⟨0xA800, 1, 11, 11, "JASPER_REDRAWS", .u32, .ro, 0, .none, 4294967295, fun _ => true⟩,
  ⟨0xA000, 1, 0, 0, "ROOT", .u8, .ro, 4, .none, 255, fun _ => true⟩,
  ⟨0xA000, 1, 1, 1, "ROOT_SOURCE", .u8, .ro, 1, .none, 255, fun _ => true⟩,
  ⟨0xA000, 1, 2, 2, "ROOT_STATUS", .u8, .ro, 0, .none, 255, fun _ => true⟩,
  ⟨0xA000, 1, 3, 3, "PUF_ATTEMPTS", .u8, .ro, 0, .none, 255, fun _ => true⟩,
  ⟨0xA000, 1, 4, 4, "PUF_WORST", .u8, .ro, 0, .none, 255, fun _ => true⟩]
  ++ [
  ⟨0xA010, 1, 0, 0, "EPOCH", .u8, .ro, 3, .none, 255, fun _ => true⟩,
  ⟨0xA010, 1, 1, 1, "OWNER_EPOCH", .u16, .ro, 0, .none, 65535, fun _ => true⟩,
  ⟨0xA010, 1, 2, 2, "EPOCH_LEFT", .u16, .ro, 1024, .none, 65535, fun _ => true⟩,
  ⟨0xA010, 1, 3, 3, "EPOCH_ADVANCE", .u16, .rws, 0, .own, 65535, fun _ => true⟩,
  ⟨0xA020, 1, 0, 0, "DERIVED", .u8, .ro, 3, .none, 255, fun _ => true⟩,
  ⟨0xA020, 1, 1, 1, "KEK_STATUS", .u32, .ro, 0, .none, 4294967295, fun _ => true⟩,
  ⟨0xA020, 1, 2, 2, "DEVID_PUB", (.octets 64), .ro, 0, .none, 13407807929942597099574024998205846127479365820592393377723561443721764030073546976801874298166903427690031858186486050853753882811946569946433649006084095, fun _ => true⟩,
  ⟨0xA020, 1, 3, 3, "OWNER_ID_PUB", (.octets 64), .ro, 0, .none, 13407807929942597099574024998205846127479365820592393377723561443721764030073546976801874298166903427690031858186486050853753882811946569946433649006084095, fun _ => true⟩,
  ⟨0xA030, 1, 0, 0, "PKEY", .u8, .ro, 6, .none, 255, fun _ => true⟩,
  ⟨0xA030, 1, 1, 1, "PKEY_SEL", .u8, .rws, 0, .plain, 255, fun v => decide (v ≤ 31)⟩,
  ⟨0xA030, 1, 2, 2, "PKEY_REG", .u8, .rws, 0, .plain, 255, fun v => decide (v ≤ 15)⟩,
  ⟨0xA030, 1, 3, 3, "PKEY_OP", .u8, .rws, 0, .own, 255, fun _ => true⟩,
  ⟨0xA030, 1, 4, 4, "PKEY_STATUS", .u32, .ros, 0, .none, 4294967295, fun _ => true⟩,
  ⟨0xA030, 1, 5, 5, "PKEY_INFO", .u32, .ros, 0, .none, 4294967295, fun _ => true⟩,
  ⟨0xA030, 1, 6, 6, "PKEY_SEQ", .u32, .ros, 0, .none, 4294967295, fun _ => true⟩,
  ⟨0xA040, 1, 0, 0, "ZEROISE", .u8, .ro, 5, .none, 255, fun _ => true⟩,
  ⟨0xA040, 1, 1, 1, "ZEROISE_CMD", .u32, .rws, 0, .own, 4294967295, fun _ => true⟩,
  ⟨0xA040, 1, 2, 2, "ZEROISE_STATUS", .u32, .ro, 0, .none, 4294967295, fun _ => true⟩,
  ⟨0xA040, 1, 3, 3, "ZEROISE_COUNT", .u32, .ro, 0, .none, 4294967295, fun _ => true⟩,
  ⟨0xA040, 1, 4, 4, "ZEROISE_LAST", .u8, .ro, 0, .none, 255, fun _ => true⟩,
  ⟨0xA040, 1, 5, 5, "PLAINTEXT_KEY_EN", .u8, .rws, 1, .own, 255, fun _ => true⟩]

/-- Objects of range 0xB000. -/
def objsB : List Obj := [
  ⟨0xB000, 1, 0, 0, "ONYX", .u8, .ro, 4, .none, 255, fun _ => true⟩,
  ⟨0xB000, 1, 1, 1, "ONYX_STATUS", .u32, .ro, 0, .none, 4294967295, fun _ => true⟩,
  ⟨0xB000, 1, 2, 2, "ONYX_RTC", .u64, .rws, 0, .own, 18446744073709551615, fun _ => true⟩,
  ⟨0xB000, 1, 3, 3, "RTC_SYNC_TB0", .u8, .rws, 0, .own, 255, fun _ => true⟩,
  ⟨0xB000, 1, 4, 4, "LOG_LOST", .u32, .ro, 0, .none, 4294967295, fun _ => true⟩,
  ⟨0xB010, 1, 0, 0, "FLAGS", .u8, .ro, 2, .none, 255, fun _ => true⟩,
  ⟨0xB010, 1, 1, 1, "TAMPER_FLAGS", .u32, .ro, 0, .none, 4294967295, fun _ => true⟩,
  ⟨0xB010, 1, 2, 2, "FLAG_CLEAR", .u32, .rws, 0, .own, 4294967295, fun _ => true⟩,
  ⟨0xB020, 1, 0, 0, "LOG", .u8, .ro, 4, .none, 255, fun _ => true⟩,
  ⟨0xB020, 1, 1, 1, "LOG_DATA", .window, .ros, 0, .none, 4294967295, fun _ => true⟩,
  ⟨0xB020, 1, 2, 2, "LOG_COUNT", .u8, .ro, 0, .none, 255, fun _ => true⟩,
  ⟨0xB020, 1, 3, 3, "LOG_NEWEST", .u32, .ro, 0, .none, 4294967295, fun _ => true⟩,
  ⟨0xB020, 1, 4, 4, "LOG_ACK", .u32, .rws, 0, .own, 4294967295, fun _ => true⟩,
  ⟨0xB030, 8, 0, 0, "LOOP", .u8, .ro, 3, .none, 255, fun _ => true⟩,
  ⟨0xB030, 8, 1, 1, "LOOP_CTRL", .u8, .rws, 0, .own, 255, fun _ => true⟩,
  ⟨0xB030, 8, 2, 2, "LOOP_STATE", .u8, .ro, 0, .none, 255, fun _ => true⟩,
  ⟨0xB030, 8, 3, 3, "LOOP_ALARMS", .u32, .ro, 0, .none, 4294967295, fun _ => true⟩,
  ⟨0xB040, 1, 0, 0, "MONITORS", .u8, .ro, 2, .none, 255, fun _ => true⟩,
  ⟨0xB040, 1, 1, 1, "MON_NOW", .u32, .ro, 0, .none, 4294967295, fun _ => true⟩,
  ⟨0xB040, 1, 2, 2, "TEMP_NOW", .i32, .ro, 0, .none, 4294967295, fun _ => true⟩]

/-- Objects of range 0xC000. -/
def objsC : List Obj := [
  ⟨0xC000, 1, 0, 0, "FABRIC", .u8, .ro, 8, .none, 255, fun _ => true⟩,
  ⟨0xC000, 1, 1, 1, "FAB_NODE_ID", .u8, .rws, 0, .plain, 255, fun _ => true⟩,
  ⟨0xC000, 1, 2, 2, "FAB_VERSION_MAX", .u8, .rws, 3, .plain, 255, fun v => decide (1 ≤ v) && decide (v ≤ 3)⟩,
  ⟨0xC000, 1, 3, 3, "FAB_UNIT_TAG", .u32, .ro, 3971697493, .none, 4294967295, fun _ => true⟩,
  ⟨0xC000, 1, 4, 4, "FAB_NODES", .u16, .ro, 0, .none, 65535, fun _ => true⟩,
  ⟨0xC000, 1, 5, 5, "FAB_MSG_ERRORS", .u32, .ro, 0, .none, 4294967295, fun _ => true⟩,
  ⟨0xC000, 1, 6, 6, "FAB_NO_ROUTE", .u32, .ro, 0, .none, 4294967295, fun _ => true⟩,
  ⟨0xC000, 1, 7, 7, "FAB_NOT_MEMBER", .u32, .ro, 0, .none, 4294967295, fun _ => true⟩,
  ⟨0xC000, 1, 8, 8, "FAB_DUP_LAST", .u16, .ro, 65535, .none, 65535, fun _ => true⟩,
  ⟨0xC010, 4, 0, 0, "FAB_LINK", .u8, .ro, 3, .none, 255, fun _ => true⟩,
  ⟨0xC010, 4, 1, 1, "LINK_STATUS", .u32, .ro, 0, .none, 4294967295, fun _ => true⟩,
  ⟨0xC010, 4, 2, 2, "LINK_TX_MSGS", .u64, .ro, 0, .none, 18446744073709551615, fun _ => true⟩,
  ⟨0xC010, 4, 3, 3, "LINK_RX_MSGS", .u64, .ro, 0, .none, 18446744073709551615, fun _ => true⟩,
  ⟨0xC020, 1, 0, 0, "ROUTE", .u8, .ro, 2, .none, 255, fun _ => true⟩,
  ⟨0xC020, 1, 1, 1, "ROUTE_ADDR", .u8, .rw, 0, .plain, 255, fun _ => true⟩,
  ⟨0xC020, 1, 2, 2, "ROUTE_ENTRY", .u32, .ro, 0, .none, 4294967295, fun _ => true⟩,
  ⟨0xC100, 4, 0, 0, "ROLE", .u8, .ro, 11, .none, 255, fun _ => true⟩,
  ⟨0xC100, 4, 1, 1, "ROLE_CTRL", .u32, .rws, 0, .own, 4294967295, fun _ => true⟩,
  ⟨0xC100, 4, 2, 2, "ROLE_MEMBERS_A", .u32, .rws, 0, .plain, 4294967295, fun _ => true⟩,
  ⟨0xC100, 4, 3, 3, "ROLE_MEMBERS_B", .u32, .rws, 0, .plain, 4294967295, fun _ => true⟩,
  ⟨0xC100, 4, 4, 4, "ROLE_STATE", .u32, .ro, 0, .none, 4294967295, fun _ => true⟩,
  ⟨0xC100, 4, 5, 5, "ROLE_EPOCH", .u32, .ro, 0, .none, 4294967295, fun _ => true⟩,
  ⟨0xC100, 4, 6, 6, "ROLE_SWITCH_TICK", .u64, .rws, 18446744073709551615, .own, 18446744073709551615, fun _ => true⟩,
  ⟨0xC100, 4, 7, 7, "HEALTH", .u8, .ro, 0, .none, 255, fun _ => true⟩,
  ⟨0xC100, 4, 8, 8, "PEER_HEALTH", .u8, .ro, 0, .none, 255, fun _ => true⟩,
  ⟨0xC100, 4, 9, 9, "LEASE_EXPIRY", .u64, .ro, 18446744073709551615, .none, 18446744073709551615, fun _ => true⟩,
  ⟨0xC100, 4, 10, 10, "ROLE_STALE_RX", .u32, .ro, 0, .none, 4294967295, fun _ => true⟩,
  ⟨0xC100, 4, 11, 11, "TAKEOVERS", .u32, .ro, 0, .none, 4294967295, fun _ => true⟩,
  ⟨0xC200, 1, 0, 0, "RESV", .u8, .ro, 7, .none, 255, fun _ => true⟩,
  ⟨0xC200, 1, 1, 1, "RESV_PER_TICK", .u16, .rws, 1024, .plain, 65535, fun v => decide (64 ≤ v) && decide (v ≤ 2048)⟩]
  ++ [
  ⟨0xC200, 1, 2, 2, "RESV_PENDING", .u32, .ro, 0, .none, 4294967295, fun _ => true⟩,
  ⟨0xC200, 1, 3, 3, "RESV_REFUSED", .u32, .ro, 0, .none, 4294967295, fun _ => true⟩,
  ⟨0xC200, 1, 4, 4, "INSYNC_PER_TICK", .u16, .rws, 1024, .plain, 65535, fun v => decide (v ≤ 2048)⟩,
  ⟨0xC200, 1, 5, 5, "INSYNC_LAG", .u32, .ro, 4294967295, .none, 4294967295, fun _ => true⟩,
  ⟨0xC200, 1, 6, 6, "RESYNC_LEFT", .u32, .ro, 0, .none, 4294967295, fun _ => true⟩,
  ⟨0xC200, 1, 7, 7, "REMOTE_DROPS", .u64, .ro, 0, .none, 18446744073709551615, fun _ => true⟩]

/-- Objects of range 0xD000. -/
def objsD : List Obj := [
  ⟨0xD000, 1, 0, 0, "WORLD", .u8, .ro, 3, .none, 255, fun _ => true⟩,
  ⟨0xD000, 1, 1, 1, "WORLD_CALLER", .u8, .ro, 0, .none, 255, fun _ => true⟩,
  ⟨0xD000, 1, 2, 2, "WORLD_VIOLATIONS", .u32, .ro, 0, .none, 4294967295, fun _ => true⟩,
  ⟨0xD000, 1, 3, 3, "WORLD_LAST", .u32, .ro, 4294967295, .none, 4294967295, fun _ => true⟩,
  ⟨0xD010, 1, 0, 0, "ATTACH", .u8, .ro, 8, .none, 255, fun _ => true⟩,
  ⟨0xD010, 1, 1, 1, "ATTACH_CTRL", .u8, .rw, 0, .own, 255, fun _ => true⟩,
  ⟨0xD010, 1, 2, 2, "ATTACH_DATA", .window, .rw, 0, .own, 4294967295, fun _ => true⟩,
  ⟨0xD010, 1, 3, 3, "ATTACH_STATUS", .u8, .ro, 0, .none, 255, fun _ => true⟩,
  ⟨0xD010, 1, 4, 4, "ATTACH_FAILS", .u8, .ro, 0, .none, 255, fun _ => true⟩,
  ⟨0xD010, 1, 5, 5, "SESSION_TIMEOUT", .u32, .rws, 30, .plain, 4294967295, fun v => decide (1 ≤ v) && decide (v ≤ 3600)⟩,
  ⟨0xD010, 1, 6, 6, "OWNER_BIND", .u32, .ro, 0, .none, 4294967295, fun _ => true⟩,
  ⟨0xD010, 1, 7, 7, "OWNER_BIND_DATA", .window, .rws, 0, .own, 4294967295, fun _ => true⟩,
  ⟨0xD010, 1, 8, 8, "OWNER_BIND_WRITE", .u8, .rws, 0, .own, 255, fun _ => true⟩,
  ⟨0xD100, 64, 0, 0, "REGION", .u8, .ro, 4, .none, 255, fun _ => true⟩,
  ⟨0xD100, 64, 1, 1, "REGION_CTRL", .u32, .rws, 0, .own, 4294967295, fun _ => true⟩,
  ⟨0xD100, 64, 2, 2, "REGION_STATUS", .u32, .ro, 0, .none, 4294967295, fun _ => true⟩,
  ⟨0xD100, 64, 3, 3, "REGION_POISONED", .u32, .ro, 0, .none, 4294967295, fun _ => true⟩,
  ⟨0xD100, 64, 4, 4, "REGION_RETIRED", .u32, .ro, 0, .none, 4294967295, fun _ => true⟩,
  ⟨0xD200, 1, 0, 0, "HBM_WINDOW", .u8, .ro, 4, .none, 255, fun _ => true⟩,
  ⟨0xD200, 1, 1, 1, "HBM_ADDR", .u64, .rw, 0, .own, 18446744073709551615, fun _ => true⟩,
  ⟨0xD200, 1, 2, 2, "HBM_DATA", .window, .rw, 0, .own, 4294967295, fun _ => true⟩,
  ⟨0xD200, 1, 3, 3, "HBM_FLUSH", .u8, .wo, 0, .own, 255, fun _ => true⟩,
  ⟨0xD200, 1, 4, 4, "HBM_STATUS", .u32, .ro, 0, .none, 4294967295, fun _ => true⟩,
  ⟨0xD300, 1, 0, 0, "MEM", .u8, .ro, 7, .none, 255, fun _ => true⟩,
  ⟨0xD300, 1, 1, 1, "MEM_CORRECTED", .u64, .ro, 0, .none, 18446744073709551615, fun _ => true⟩,
  ⟨0xD300, 1, 2, 2, "MEM_UNCORR", .u32, .ro, 0, .none, 4294967295, fun _ => true⟩,
  ⟨0xD300, 1, 3, 3, "MEM_TAG_FAILS", .u32, .ro, 0, .none, 4294967295, fun _ => true⟩,
  ⟨0xD300, 1, 4, 4, "MEM_LAST", .u32, .ro, 4294967295, .none, 4294967295, fun _ => true⟩,
  ⟨0xD300, 1, 5, 5, "MASTER_REFUSED", .u32, .ro, 0, .none, 4294967295, fun _ => true⟩,
  ⟨0xD300, 1, 6, 6, "MEM_RETIRED", .u32, .ro, 0, .none, 4294967295, fun _ => true⟩]
  ++ [
  ⟨0xD300, 1, 7, 7, "CTR_CACHE_DIRTY", .u32, .ro, 0, .none, 4294967295, fun _ => true⟩,
  ⟨0xD400, 1, 0, 0, "FLASH_LINK", .u8, .ro, 3, .none, 255, fun _ => true⟩,
  ⟨0xD400, 1, 1, 1, "FL_STATUS", .u32, .ro, 0, .none, 4294967295, fun _ => true⟩,
  ⟨0xD400, 1, 2, 2, "FL_RETRIES", .u32, .ro, 0, .none, 4294967295, fun _ => true⟩,
  ⟨0xD400, 1, 3, 3, "FL_FAILS", .u32, .ro, 0, .none, 4294967295, fun _ => true⟩]

/-- Objects of range 0xE000. -/
def objsE : List Obj := [
  ⟨0xE000, 1, 0, 0, "EVENTS", .u8, .ro, 8, .none, 255, fun _ => true⟩,
  ⟨0xE000, 1, 1, 1, "EVT_CTRL", .u32, .rws, 0, .plain, 1, fun _ => true⟩,
  ⟨0xE000, 1, 2, 2, "EVT_DATA", .window, .ro, 0, .none, 4294967295, fun _ => true⟩,
  ⟨0xE000, 1, 3, 3, "EVT_DATA_S", .window, .ros, 0, .none, 4294967295, fun _ => true⟩,
  ⟨0xE000, 1, 4, 4, "EVT_LEVEL", .u16, .ro, 0, .none, 65535, fun _ => true⟩,
  ⟨0xE000, 1, 5, 5, "EVT_LEVEL_S", .u16, .ros, 0, .none, 65535, fun _ => true⟩,
  ⟨0xE000, 1, 6, 6, "EVT_LOST", .u32, .ro, 0, .none, 4294967295, fun _ => true⟩,
  ⟨0xE000, 1, 7, 7, "EVT_LOST_S", .u32, .ros, 0, .none, 4294967295, fun _ => true⟩,
  ⟨0xE000, 1, 8, 8, "EVT_MSG_DROPS", .u32, .ro, 0, .none, 4294967295, fun _ => true⟩,
  ⟨0xE010, 12, 0, 0, "EVT_GROUP", .u8, .ro, 4, .none, 255, fun _ => true⟩,
  ⟨0xE010, 12, 1, 1, "EVT_PENDING", .u32, .w1c, 0, .own, 4294967295, fun _ => true⟩,
  ⟨0xE010, 12, 2, 2, "EVT_IRQ_EN", .u32, .rw, 0, .plain, 4294967295, fun _ => true⟩,
  ⟨0xE010, 12, 3, 3, "EVT_RECORD_EN", .u32, .rw, 4294967295, .plain, 4294967295, fun _ => true⟩,
  ⟨0xE010, 12, 4, 4, "EVT_MSG_EN", .u32, .rw, 0, .plain, 4294967295, fun _ => true⟩]

/-- Objects of range 0xF000. -/
def objsF : List Obj := [
  ⟨0xF000, 1, 0, 0, "LC", .u8, .ro, 3, .none, 255, fun _ => true⟩,
  ⟨0xF000, 1, 1, 1, "LC_STATE", .u8, .ro, 2, .none, 255, fun _ => true⟩,
  ⟨0xF000, 1, 2, 2, "LC_REQUEST", .u32, .rws, 0, .own, 4294967295, fun _ => true⟩,
  ⟨0xF000, 1, 3, 3, "LC_STATUS", .u32, .ro, 0, .none, 4294967295, fun _ => true⟩,
  ⟨0xF010, 1, 0, 0, "ENROL", .u8, .ro, 2, .none, 255, fun _ => true⟩,
  ⟨0xF010, 1, 1, 1, "ENROL_START", .u8, .rws, 0, .own, 255, fun _ => true⟩,
  ⟨0xF010, 1, 2, 2, "ENROL_RESULT", .u8, .ro, 0, .none, 255, fun _ => true⟩,
  ⟨0xF020, 1, 0, 0, "DEBUG", .u8, .ro, 7, .none, 255, fun _ => true⟩,
  ⟨0xF020, 1, 1, 1, "DBG_STATE", .u32, .ro, 0, .none, 4294967295, fun _ => true⟩,
  ⟨0xF020, 1, 2, 2, "DBG_REQUEST", .u8, .wo, 0, .own, 255, fun _ => true⟩,
  ⟨0xF020, 1, 3, 3, "DBG_CHALLENGE", (.octets 128), .ro, 0, .none, 179769313486231590772930519078902473361797697894230657273430081157732675805500963132708477322407536021120113879871393357658789768814416622492847430639474124377767893424865485276302219601246094119453082952085005768838150682342462881473913110540827237163350510684586298239947245938479716304835356329624224137215, fun _ => true⟩,
  ⟨0xF020, 1, 4, 4, "DBG_RESPONSE", .window, .wo, 0, .own, 4294967295, fun _ => true⟩,
  ⟨0xF020, 1, 5, 5, "DBG_RESULT", .u32, .ro, 0, .none, 4294967295, fun _ => true⟩,
  ⟨0xF020, 1, 6, 6, "DBG_FAILS", .u8, .ro, 0, .none, 255, fun _ => true⟩,
  ⟨0xF020, 1, 7, 7, "DEBUG_CONSENT", .u8, .rws, 0, .own, 255, fun _ => true⟩]

/-- Objects of range 0xF800. -/
def objs10 : List Obj := [
  ⟨0xF800, 1, 0, 0, "STARTUP", .u8, .ro, 4, .none, 255, fun _ => true⟩,
  ⟨0xF800, 1, 1, 1, "STARTUP_STATUS", .u32, .ro, 0, .none, 4294967295, fun _ => true⟩,
  ⟨0xF800, 1, 2, 2, "STARTUP_TIME", .u32, .ro, 0, .none, 4294967295, fun _ => true⟩,
  ⟨0xF800, 1, 3, 3, "RESET_CAUSE", .u32, .ro, 1, .none, 4294967295, fun _ => true⟩,
  ⟨0xF800, 1, 4, 4, "RESET_CMD", .u32, .rws, 0, .own, 4294967295, fun _ => true⟩,
  ⟨0xF810, 1, 0, 0, "FIRMWARE", .u8, .ro, 8, .none, 255, fun _ => true⟩,
  ⟨0xF810, 1, 1, 1, "FW_PREFER", .u8, .rws, 0, .own, 255, fun _ => true⟩,
  ⟨0xF810, 1, 2, 2, "FW_A_STATUS", .u8, .ro, 0, .none, 255, fun _ => true⟩,
  ⟨0xF810, 1, 3, 3, "FW_B_STATUS", .u8, .ro, 0, .none, 255, fun _ => true⟩,
  ⟨0xF810, 1, 4, 4, "FW_SVN", .u8, .ro, 0, .none, 255, fun _ => true⟩,
  ⟨0xF810, 1, 5, 5, "FW_SVN_COMMIT", .u8, .rws, 0, .own, 255, fun _ => true⟩,
  ⟨0xF810, 1, 6, 6, "FW_UPDATE_SRC", .u64, .rws, 0, .plain, 270851375103, fun v => decide (v % 64 = 0)⟩,
  ⟨0xF810, 1, 7, 7, "FW_UPDATE_OP", .u8, .rws, 0, .own, 255, fun _ => true⟩,
  ⟨0xF810, 1, 8, 8, "FW_UPDATE_STATUS", .u32, .ro, 0, .none, 4294967295, fun _ => true⟩,
  ⟨0xF820, 1, 0, 0, "MODE", .u8, .ro, 4, .none, 255, fun _ => true⟩,
  ⟨0xF820, 1, 1, 1, "ARM_CTRL", .u8, .rws, 0, .own, 255, fun _ => true⟩,
  ⟨0xF820, 1, 2, 2, "ARM_STATUS", .u32, .ro, 0, .none, 4294967295, fun _ => true⟩,
  ⟨0xF820, 1, 3, 3, "HOLD_CTRL", .u8, .rws, 0, .own, 255, fun _ => true⟩,
  ⟨0xF820, 1, 4, 4, "HOLD_STATUS", .u8, .ro, 0, .none, 255, fun _ => true⟩]

/-- The object tables of the range an index lies in (R17). DESIGN CHOICE (log entry 2). -/
def objsOf (idx : Nat) : List Obj :=
  if 0xF800 ≤ idx then objs10 else
  match idx / 0x1000 with

  | 1 => objs1

  | 2 => objs2

  | 3 => objs3

  | 4 => objs4

  | 5 => objs5

  | 6 => objs6

  | 7 => objs7

  | 8 => objs8

  | 9 => objs9

  | 10 => objsA

  | 11 => objsB

  | 12 => objsC

  | 13 => objsD

  | 14 => objsE

  | 15 => objsF

  | _ => []

/-- The first row of a table that holds an index and member. -/
def findObj (idx mem : Nat) : List Obj → Option Obj
  | [] => Option.none
  | o :: l => if o.base ≤ idx ∧ idx < o.base + o.cnt ∧ o.lo ≤ mem ∧ mem ≤ o.hi then some o else findObj idx mem l

/-- The object at a key (index · 256 + member), none where no object lies (R15). -/
def objOf (key : Nat) : Option Obj := findObj (key / 256) (key % 256) (objsOf (key / 256))

/-- The default of the object at a key, 0 where there is none. -/
def dfltOf (key : Nat) : Nat :=
  match objOf key with
  | some o => o.dflt
  | Option.none => 0

namespace K

/-- PART_CODE (R4). -/
def partCode : Nat := 0x1000 * 256 + 1

/-- VARIANT (R4). -/
def variant : Nat := 0x1000 * 256 + 2

/-- SILICON_STEP (R4). -/
def siliconStep : Nat := 0x1000 * 256 + 3

/-- UNIT_SERIAL (R4). -/
def unitSerial : Nat := 0x1000 * 256 + 4

/-- FW_VERSION (R4). -/
def fwVersion : Nat := 0x1000 * 256 + 5

/-- FW_IMAGE (R4). -/
def fwImage : Nat := 0x1000 * 256 + 6

/-- TICK_NUMBER (R53). -/
def tickNumber : Nat := 0x8000 * 256 + 1

/-- TICK_TIME (R53). -/
def tickTime : Nat := 0x8000 * 256 + 2

/-- TICK_STATUS (R53). -/
def tickStatus : Nat := 0x8000 * 256 + 3

/-- TICK_PHASE (R53). -/
def tickPhase : Nat := 0x8000 * 256 + 4

/-- TICK_LENGTH (R53). -/
def tickLength : Nat := 0x8000 * 256 + 5

/-- TICK_REALIGN (R53). -/
def tickRealign : Nat := 0x8000 * 256 + 6

/-- COMMIT_NEXT (R53). -/
def commitNext : Nat := 0x8001 * 256 + 1

/-- COMMIT_SKIPPED (R53). -/
def commitSkipped : Nat := 0x8001 * 256 + 2

/-- COMMIT_STALLS (R53). -/
def commitStalls : Nat := 0x8001 * 256 + 3

/-- SYNC_SOURCE (R53). -/
def syncSource : Nat := 0x8010 * 256 + 1

/-- SYNC_STEP_EN (R53). -/
def syncStepEn : Nat := 0x8010 * 256 + 2

/-- SYNC_STEP_THRESHOLD (R53). -/
def syncStepThreshold : Nat := 0x8010 * 256 + 3

/-- SYNC_DELAY (R53). -/
def syncDelay : Nat := 0x8010 * 256 + 4

/-- SYNC_ERROR (R53). -/
def syncError : Nat := 0x8010 * 256 + 5

/-- SYNC_EDGES (R53). -/
def syncEdges : Nat := 0x8010 * 256 + 6

/-- SYNC_GLITCHES (R53). -/
def syncGlitches : Nat := 0x8010 * 256 + 7

/-- SYNC_STEPS (R53). -/
def syncSteps : Nat := 0x8010 * 256 + 8

/-- BG_OVERRUN_1–5 (R53). -/
def bgOverrun (i : Nat) : Nat := 0x8020 * 256 + (i)

/-- BG_HIGH_WATER (R53). -/
def bgHighWater : Nat := 0x8020 * 256 + 6

/-- CLK_LOCKED (R53). -/
def clkLocked : Nat := 0x8030 * 256 + 1

/-- CLK_LOST (R53). -/
def clkLost : Nat := 0x8030 * 256 + 2

/-- LANE_CTRL (R80). -/
def laneCtrl (m : Nat) : Nat := (0x2000 + m) * 256 + 1

/-- LANE_STATUS (R80). -/
def laneStatus (m : Nat) : Nat := (0x2000 + m) * 256 + 2

/-- LANE_EVENTS (R80). -/
def laneEvents (m : Nat) : Nat := (0x2000 + m) * 256 + 3

/-- TX_FIR (R80). -/
def txFir (m : Nat) : Nat := (0x2000 + m) * 256 + 4

/-- RX_SNR (R80). -/
def rxSnr (m : Nat) : Nat := (0x2000 + m) * 256 + 5

/-- TRAIN_COUNT (R80). -/
def trainCount (m : Nat) : Nat := (0x2000 + m) * 256 + 6

/-- BLOCK_SLIPS (R80). -/
def blockSlips (m : Nat) : Nat := (0x2000 + m) * 256 + 7

/-- GROUP_LAYOUT (R80). -/
def groupLayout (n : Nat) : Nat := (0x2100 + n) * 256 + 1

/-- GROUP_MODE (R80). -/
def groupMode (n : Nat) : Nat := (0x2100 + n) * 256 + 2

/-- TRAIN_TIMEOUT (R80). -/
def trainTimeout (n : Nat) : Nat := (0x2100 + n) * 256 + 3

/-- GROUP_STATUS (R80). -/
def groupStatus (n : Nat) : Nat := (0x2100 + n) * 256 + 4

/-- FAB_CTRL (R80). -/
def fabCtrl (p : Nat) : Nat := (0x2200 + p) * 256 + 1

/-- FAB_STATUS (R80). -/
def fabStatus (p : Nat) : Nat := (0x2200 + p) * 256 + 2

/-- FAB_CODE_ERRORS (R80). -/
def fabCodeErrors (p : Nat) : Nat := (0x2200 + p) * 256 + 3

/-- FAB_SKEW (R80). -/
def fabSkew (p : Nat) : Nat := (0x2200 + p) * 256 + 4

/-- FAB_EVENTS (R80). -/
def fabEvents (p : Nat) : Nat := (0x2200 + p) * 256 + 5

/-- PG_CTRL (R80). -/
def pgCtrl (m : Nat) : Nat := (0x2300 + m) * 256 + 1

/-- PG_USER (R80). -/
def pgUser (m : Nat) : Nat := (0x2300 + m) * 256 + 2

/-- CHK_STATUS (R80). -/
def chkStatus (m : Nat) : Nat := (0x2300 + m) * 256 + 3

/-- CHK_BITS (R80). -/
def chkBits (m : Nat) : Nat := (0x2300 + m) * 256 + 4

/-- CHK_ERRORS (R80). -/
def chkErrors (m : Nat) : Nat := (0x2300 + m) * 256 + 5

/-- CHK_LOSSES (R80). -/
def chkLosses (m : Nat) : Nat := (0x2300 + m) * 256 + 6

/-- PCS_CTRL (R108). -/
def pcsCtrl (q : Nat) : Nat := (0x3000 + q) * 256 + 1

/-- PCS_STATUS (R108). -/
def pcsStatus (q : Nat) : Nat := (0x3000 + q) * 256 + 2

/-- LINE_FEC_CORR (R108). -/
def lineFecCorr (q : Nat) : Nat := (0x3000 + q) * 256 + 3

/-- LINE_FEC_UNCORR (R108). -/
def lineFecUncorr (q : Nat) : Nat := (0x3000 + q) * 256 + 4

/-- LINE_FEC_SYMBOLS (R108). -/
def lineFecSymbols (q : Nat) : Nat := (0x3000 + q) * 256 + 5

/-- HOST_FEC_CORR (R108). -/
def hostFecCorr (q : Nat) : Nat := (0x3000 + q) * 256 + 6

/-- HOST_FEC_UNCORR (R108). -/
def hostFecUncorr (q : Nat) : Nat := (0x3000 + q) * 256 + 7

/-- BLOCK_SLIPS (R108). -/
def pcsBlockSlips (q : Nat) : Nat := (0x3000 + q) * 256 + 8

/-- PCS_EVENTS (R108). -/
def pcsEvents (q : Nat) : Nat := (0x3000 + q) * 256 + 9

/-- OTN_CTRL (R108). -/
def otnCtrl (n : Nat) : Nat := (0x3100 + n) * 256 + 1

/-- OTN_STATUS (R108). -/
def otnStatus (n : Nat) : Nat := (0x3100 + n) * 256 + 2

/-- LINE_FEC_CORR (R108). -/
def otnLineFecCorr (n : Nat) : Nat := (0x3100 + n) * 256 + 3

/-- LINE_FEC_UNCORR (R108). -/
def otnLineFecUncorr (n : Nat) : Nat := (0x3100 + n) * 256 + 4

/-- LINE_BIP8 (R108). -/
def lineBip8 (n : Nat) : Nat := (0x3100 + n) * 256 + 5

/-- LINE_BEI (R108). -/
def lineBei (n : Nat) : Nat := (0x3100 + n) * 256 + 6

/-- HOST_FEC_CORR (R108). -/
def otnHostFecCorr (n : Nat) : Nat := (0x3100 + n) * 256 + 7

/-- HOST_FEC_UNCORR (R108). -/
def otnHostFecUncorr (n : Nat) : Nat := (0x3100 + n) * 256 + 8

/-- GMP_ERRORS (R108). -/
def gmpErrors (n : Nat) : Nat := (0x3100 + n) * 256 + 9

/-- ALIGN_REJECTS (R108). -/
def alignRejects (n : Nat) : Nat := (0x3100 + n) * 256 + 10

/-- OTL_SKEW (R108). -/
def otlSkew (n : Nat) : Nat := (0x3100 + n) * 256 + 11

/-- OTN_EVENTS (R108). -/
def otnEvents (n : Nat) : Nat := (0x3100 + n) * 256 + 12

/-- PM_DAY_OFFSET (R108). -/
def pmDayOffset (n : Nat) : Nat := (0x3180 + n) * 256 + 1

/-- PM_SELECT (R108). -/
def pmSelect (n : Nat) : Nat := (0x3180 + n) * 256 + 2

/-- PM_BIN (R108). -/
def pmBin (n : Nat) : Nat := (0x3180 + n) * 256 + 3

/-- TSI_ACTIVE (R108). -/
def tsiActive (k : Nat) : Nat := (0x3200 + k) * 256 + 1

/-- TSI_SWAP_TICK (R108). -/
def tsiSwapTick (k : Nat) : Nat := (0x3200 + k) * 256 + 2

/-- TSI_STATUS (R108). -/
def tsiStatus (k : Nat) : Nat := (0x3200 + k) * 256 + 3

/-- TSI_ADDR (R108). -/
def tsiAddr (k : Nat) : Nat := (0x3200 + k) * 256 + 4

/-- TSI_DATA (R108). -/
def tsiData (k : Nat) : Nat := (0x3200 + k) * 256 + 5

/-- TSI_COPY (R108). -/
def tsiCopy (k : Nat) : Nat := (0x3200 + k) * 256 + 6

/-- TSI_ERR_ENTRY (R108). -/
def tsiErrEntry (k : Nat) : Nat := (0x3200 + k) * 256 + 7

/-- L1_ADDR (R108). -/
def l1Addr (k : Nat) : Nat := (0x3300 + k) * 256 + 1

/-- L1_DATA (R108). -/
def l1Data (k : Nat) : Nat := (0x3300 + k) * 256 + 2

/-- L1_SWITCH_SEL (R108). -/
def l1SwitchSel (k : Nat) : Nat := (0x3300 + k) * 256 + 3

/-- L1_SWITCH_TICK (R108). -/
def l1SwitchTick (k : Nat) : Nat := (0x3300 + k) * 256 + 4

/-- CLASS_CTRL (R139). -/
def classCtrl (j : Nat) : Nat := (0x4000 + j) * 256 + 1

/-- RULE_ADDR (R139). -/
def ruleAddr (j : Nat) : Nat := (0x4000 + j) * 256 + 2

/-- RULE_DATA (R139). -/
def ruleData (j : Nat) : Nat := (0x4000 + j) * 256 + 3

/-- MALF_COUNT_0–5 (R139). -/
def malfCount (j i : Nat) : Nat := (0x4000 + j) * 256 + (4 + i)

/-- SLOW_FRAMES (R139). -/
def slowFrames (j : Nat) : Nat := (0x4000 + j) * 256 + 10

/-- SLOW_OVERFLOW (R139). -/
def slowOverflow (j : Nat) : Nat := (0x4000 + j) * 256 + 11

/-- TABLE_PARITY (R139). -/
def tableParity (j : Nat) : Nat := (0x4000 + j) * 256 + 12

/-- SC_MISS (R139). -/
def scMiss (j : Nat) : Nat := (0x4000 + j) * 256 + 13

/-- SC_MISMATCH (R139). -/
def scMismatch (j : Nat) : Nat := (0x4000 + j) * 256 + 14

/-- NO_TAG (R139). -/
def noTag (j : Nat) : Nat := (0x4000 + j) * 256 + 15

/-- OUT_DEFAULT (R139). -/
def outDefault (q : Nat) : Nat := (0x4010 + q) * 256 + 1

/-- IN_DEFAULT (R139). -/
def inDefault (q : Nat) : Nat := (0x4010 + q) * 256 + 2

/-- IMPLICIT_SCI (R139). -/
def implicitSci (q : Nat) : Nat := (0x4010 + q) * 256 + 3

/-- IMPLICIT_SC_INDEX (R139). -/
def implicitScIndex (q : Nat) : Nat := (0x4010 + q) * 256 + 4

/-- LEARN_EN (R139). -/
def learnEn (q : Nat) : Nat := (0x4010 + q) * 256 + 5

/-- LPM_LEN_V4 (R139). -/
def lpmLenV4 : Nat := 0x4100 * 256 + 1

/-- LPM_LEN_V6 (R139). -/
def lpmLenV6 : Nat := 0x4100 * 256 + 2

/-- LPM_DEFAULT_V4 (R139). -/
def lpmDefaultV4 : Nat := 0x4100 * 256 + 3

/-- LPM_DEFAULT_V6 (R139). -/
def lpmDefaultV6 : Nat := 0x4100 * 256 + 4

/-- LPM_KEY (R139). -/
def lpmKey : Nat := 0x4100 * 256 + 5

/-- LPM_PREFIX (R139). -/
def lpmPrefix : Nat := 0x4100 * 256 + 6

/-- LPM_RESULT (R139). -/
def lpmResult : Nat := 0x4100 * 256 + 7

/-- LPM_OP (R139). -/
def lpmOp : Nat := 0x4100 * 256 + 8

/-- LPM_STATUS (R139). -/
def lpmStatus : Nat := 0x4100 * 256 + 9

/-- LPM_USED (R139). -/
def lpmUsed : Nat := 0x4100 * 256 + 10

/-- LPM_REFUSED (R139). -/
def lpmRefused : Nat := 0x4100 * 256 + 11

/-- LPM_ADDR (R139). -/
def lpmAddr : Nat := 0x4100 * 256 + 12

/-- LPM_DATA (R139). -/
def lpmData : Nat := 0x4100 * 256 + 13

/-- AGE_TIME (R139). -/
def ageTime (i : Nat) : Nat := (0x4200 + i) * 256 + 1

/-- LEARN_OFFSET (R139). -/
def learnOffset (i : Nat) : Nat := (0x4200 + i) * 256 + 2

/-- LEARN_KEY (R139). -/
def learnKey (i : Nat) : Nat := (0x4200 + i) * 256 + 3

/-- LEARN_VALUE (R139). -/
def learnValue (i : Nat) : Nat := (0x4200 + i) * 256 + 4

/-- LEARN_OP (R139). -/
def learnOp (i : Nat) : Nat := (0x4200 + i) * 256 + 5

/-- LEARN_STATUS (R139). -/
def learnStatus (i : Nat) : Nat := (0x4200 + i) * 256 + 6

/-- LEARN_USED (R139). -/
def learnUsed (i : Nat) : Nat := (0x4200 + i) * 256 + 7

/-- LEARN_FULL (R139). -/
def learnFull (i : Nat) : Nat := (0x4200 + i) * 256 + 8

/-- MAC_MOVES (R139). -/
def macMoves (i : Nat) : Nat := (0x4200 + i) * 256 + 9

/-- LEARN_CONFLICT (R139). -/
def learnConflict (i : Nat) : Nat := (0x4200 + i) * 256 + 10

/-- LEARN_FIFO_DROPS (R139). -/
def learnFifoDrops (i : Nat) : Nat := (0x4200 + i) * 256 + 11

/-- SHADOW_CTRL (R139). -/
def shadowCtrl : Nat := 0x4300 * 256 + 1

/-- SHADOW_BASE (R139). -/
def shadowBase : Nat := 0x4300 * 256 + 2

/-- SHADOW_PASSES (R139). -/
def shadowPasses : Nat := 0x4300 * 256 + 3

/-- SHADOW_MISMATCH (R139). -/
def shadowMismatch : Nat := 0x4300 * 256 + 4

/-- SHADOW_LAST (R139). -/
def shadowLast : Nat := 0x4300 * 256 + 5

/-- SHADOW_SUSPECT (R139). -/
def shadowSuspect : Nat := 0x4300 * 256 + 6

/-- SC_ADDR (R163). -/
def scAddr : Nat := 0x5000 * 256 + 1

/-- SC_DATA (R163). -/
def scData : Nat := 0x5000 * 256 + 2

/-- SA_ADDR (R163). -/
def saAddr : Nat := 0x5010 * 256 + 1

/-- SA_DATA (R163). -/
def saData : Nat := 0x5010 * 256 + 2

/-- KEY_ADDR (R163). -/
def keyAddr : Nat := 0x5020 * 256 + 1

/-- KEY_DATA (R163). -/
def keyData : Nat := 0x5020 * 256 + 2

/-- ARM_TICK_1–15 (R163). -/
def armTick (i : Nat) : Nat := 0x5030 * 256 + (i)

/-- PN_THRESHOLD_32 (R163). -/
def pnThreshold32 : Nat := 0x5040 * 256 + 1

/-- PN_THRESHOLD_64 (R163). -/
def pnThreshold64 : Nat := 0x5040 * 256 + 2

/-- SKIP_TICK (R163). -/
def skipTick : Nat := 0x5050 * 256 + 1

/-- SKIP_COUNT (R163). -/
def skipCount : Nat := 0x5050 * 256 + 2

/-- SKIP_FIRST (R163). -/
def skipFirst : Nat := 0x5050 * 256 + 3

/-- SKIP_LAST (R163). -/
def skipLast : Nat := 0x5050 * 256 + 4

/-- MIG_SC (R163). -/
def migSc : Nat := 0x5060 * 256 + 1

/-- MIG_PORT (R163). -/
def migPort : Nat := 0x5060 * 256 + 2

/-- MIG_NODE (R163). -/
def migNode : Nat := 0x5060 * 256 + 3

/-- MIG_TICK (R163). -/
def migTick : Nat := 0x5060 * 256 + 4

/-- MIGRATE_LATE (R163). -/
def migrateLate : Nat := 0x5060 * 256 + 5

/-- EXHAUSTED_DROPS (R163). -/
def exhaustedDrops : Nat := 0x5070 * 256 + 1

/-- RESV_DROPS (R163). -/
def resvDrops : Nat := 0x5070 * 256 + 2

/-- OUT_NO_SA (R163). -/
def outNoSa : Nat := 0x5070 * 256 + 3

/-- IN_NOT_USING_SA (R163). -/
def inNotUsingSa : Nat := 0x5070 * 256 + 4

/-- IN_LATE (R163). -/
def inLate : Nat := 0x5070 * 256 + 5

/-- SA_BANK_LATE (R163). -/
def saBankLate : Nat := 0x5070 * 256 + 6

/-- SCRUB_PASSES (R163). -/
def scrubPasses : Nat := 0x5070 * 256 + 7

/-- SCRUB_CORRECTED (R163). -/
def scrubCorrected : Nat := 0x5070 * 256 + 8

/-- SCRUB_UNCORR (R163). -/
def scrubUncorr : Nat := 0x5070 * 256 + 9

/-- SCRUB_LAST (R163). -/
def scrubLast : Nat := 0x5070 * 256 + 10

/-- SLICE_STATUS (R198). -/
def sliceStatus (j : Nat) : Nat := (0x6000 + j) * 256 + 1

/-- SLICE_FRAMES (R198). -/
def sliceFrames (j : Nat) : Nat := (0x6000 + j) * 256 + 2

/-- SLICE_HELD (R198). -/
def sliceHeld (j : Nat) : Nat := (0x6000 + j) * 256 + 3

/-- SQUELCHED (R198). -/
def squelched (j : Nat) : Nat := (0x6000 + j) * 256 + 4

/-- VBUF_HIGH (R198). -/
def vbufHigh (j : Nat) : Nat := (0x6000 + j) * 256 + 5

/-- CIPHER_CTRL (R198). -/
def cipherCtrl (q : Nat) : Nat := (0x6100 + q) * 256 + 1

/-- PRED_HIT (R198). -/
def predHit (q : Nat) : Nat := (0x6100 + q) * 256 + 2

/-- PRED_MISS (R198). -/
def predMiss (q : Nat) : Nat := (0x6100 + q) * 256 + 3

/-- VERIFY_KILLED (R198). -/
def verifyKilled (q : Nat) : Nat := (0x6100 + q) * 256 + 4

/-- VERIFY_DROPPED (R198). -/
def verifyDropped (q : Nat) : Nat := (0x6100 + q) * 256 + 5

/-- CHECK_DELIVERED (R198). -/
def checkDelivered (q : Nat) : Nat := (0x6100 + q) * 256 + 6

/-- TAG_MISMATCH (R198). -/
def tagMismatch (q : Nat) : Nat := (0x6100 + q) * 256 + 7

/-- TAG_SHORT (R198). -/
def tagShort (q : Nat) : Nat := (0x6100 + q) * 256 + 8

/-- DET_LATE (R198). -/
def detLate (q : Nat) : Nat := (0x6100 + q) * 256 + 9

/-- DET_AM_DEFER (R198). -/
def detAmDefer (q : Nat) : Nat := (0x6100 + q) * 256 + 10

/-- VERIFY_LAST (R198). -/
def verifyLast (q : Nat) : Nat := (0x6100 + q) * 256 + 11

/-- LAT_STATUS (R198). -/
def latStatus (q : Nat) : Nat := (0x6200 + q) * 256 + 1

/-- LAT_OUT_NOMINAL (R198). -/
def latOutNominal (q : Nat) : Nat := (0x6200 + q) * 256 + 2

/-- LAT_IN_NOMINAL (R198). -/
def latInNominal (q : Nat) : Nat := (0x6200 + q) * 256 + 3

/-- LAT_OUT_LAST (R198). -/
def latOutLast (q : Nat) : Nat := (0x6200 + q) * 256 + 4

/-- LAT_IN_LAST (R198). -/
def latInLast (q : Nat) : Nat := (0x6200 + q) * 256 + 5

/-- LAT_OUT_MIN (R198). -/
def latOutMin (q : Nat) : Nat := (0x6200 + q) * 256 + 6

/-- LAT_OUT_MAX (R198). -/
def latOutMax (q : Nat) : Nat := (0x6200 + q) * 256 + 7

/-- LAT_IN_MIN (R198). -/
def latInMin (q : Nat) : Nat := (0x6200 + q) * 256 + 8

/-- LAT_IN_MAX (R198). -/
def latInMax (q : Nat) : Nat := (0x6200 + q) * 256 + 9

/-- LAT_CLEAR (R198). -/
def latClear (q : Nat) : Nat := (0x6200 + q) * 256 + 10

/-- BERYL_STATUS (R214). -/
def berylStatus : Nat := 0xA400 * 256 + 1

/-- BERYL_DESC (R214). -/
def berylDesc : Nat := 0xA400 * 256 + 2

/-- BERYL_SUBMIT (R214). -/
def berylSubmit : Nat := 0xA400 * 256 + 3

/-- BERYL_DONE (R214). -/
def berylDone : Nat := 0xA400 * 256 + 4

/-- BERYL_ABORT (R214). -/
def berylAbort : Nat := 0xA400 * 256 + 5

/-- BERYL_IO_ADDR (R214). -/
def berylIoAddr : Nat := 0xA400 * 256 + 6

/-- BERYL_IO_DATA (R214). -/
def berylIoData : Nat := 0xA400 * 256 + 7

/-- BERYL_KEYREG_CLEAR (R214). -/
def berylKeyregClear : Nat := 0xA400 * 256 + 8

/-- BERYL_KEYREG_STATUS (R214). -/
def berylKeyregStatus : Nat := 0xA400 * 256 + 9

/-- BERYL_JOBS (R214). -/
def berylJobs : Nat := 0xA400 * 256 + 10

/-- BERYL_AUTH_FAILS (R214). -/
def berylAuthFails : Nat := 0xA400 * 256 + 11

/-- BERYL_PREEMPTS (R214). -/
def berylPreempts : Nat := 0xA400 * 256 + 12

/-- JASPER_STATUS (R232). -/
def jasperStatus : Nat := 0xA800 * 256 + 1

/-- JASPER_CLAIM (R232). -/
def jasperClaim : Nat := 0xA800 * 256 + 2

/-- JASPER_ADDR (R232). -/
def jasperAddr : Nat := 0xA800 * 256 + 3

/-- JASPER_DATA (R232). -/
def jasperData : Nat := 0xA800 * 256 + 4

/-- JASPER_CMD (R232). -/
def jasperCmd : Nat := 0xA800 * 256 + 5

/-- JASPER_HLEN (R232). -/
def jasperHlen : Nat := 0xA800 * 256 + 6

/-- JASPER_RESULT (R232). -/
def jasperResult : Nat := 0xA800 * 256 + 7

/-- JASPER_ABORT (R232). -/
def jasperAbort : Nat := 0xA800 * 256 + 8

/-- JASPER_JOBS (R232). -/
def jasperJobs : Nat := 0xA800 * 256 + 9

/-- JASPER_FAULTS (R232). -/
def jasperFaults : Nat := 0xA800 * 256 + 10

/-- JASPER_REDRAWS (R232). -/
def jasperRedraws : Nat := 0xA800 * 256 + 11

/-- ROOT_SOURCE (R256). -/
def rootSource : Nat := 0xA000 * 256 + 1

/-- ROOT_STATUS (R256). -/
def rootStatus : Nat := 0xA000 * 256 + 2

/-- PUF_ATTEMPTS (R256). -/
def pufAttempts : Nat := 0xA000 * 256 + 3

/-- PUF_WORST (R256). -/
def pufWorst : Nat := 0xA000 * 256 + 4

/-- OWNER_EPOCH (R256). -/
def ownerEpoch : Nat := 0xA010 * 256 + 1

/-- EPOCH_LEFT (R256). -/
def epochLeft : Nat := 0xA010 * 256 + 2

/-- EPOCH_ADVANCE (R256). -/
def epochAdvance : Nat := 0xA010 * 256 + 3

/-- KEK_STATUS (R256). -/
def kekStatus : Nat := 0xA020 * 256 + 1

/-- DEVID_PUB (R256). -/
def devidPub : Nat := 0xA020 * 256 + 2

/-- OWNER_ID_PUB (R256). -/
def ownerIdPub : Nat := 0xA020 * 256 + 3

/-- PKEY_SEL (R256). -/
def pkeySel : Nat := 0xA030 * 256 + 1

/-- PKEY_REG (R256). -/
def pkeyReg : Nat := 0xA030 * 256 + 2

/-- PKEY_OP (R256). -/
def pkeyOp : Nat := 0xA030 * 256 + 3

/-- PKEY_STATUS (R256). -/
def pkeyStatus : Nat := 0xA030 * 256 + 4

/-- PKEY_INFO (R256). -/
def pkeyInfo : Nat := 0xA030 * 256 + 5

/-- PKEY_SEQ (R256). -/
def pkeySeq : Nat := 0xA030 * 256 + 6

/-- ZEROISE_CMD (R256). -/
def zeroiseCmd : Nat := 0xA040 * 256 + 1

/-- ZEROISE_STATUS (R256). -/
def zeroiseStatus : Nat := 0xA040 * 256 + 2

/-- ZEROISE_COUNT (R256). -/
def zeroiseCount : Nat := 0xA040 * 256 + 3

/-- ZEROISE_LAST (R256). -/
def zeroiseLast : Nat := 0xA040 * 256 + 4

/-- PLAINTEXT_KEY_EN (R256). -/
def plaintextKeyEn : Nat := 0xA040 * 256 + 5

/-- ONYX_STATUS (R280). -/
def onyxStatus : Nat := 0xB000 * 256 + 1

/-- ONYX_RTC (R280). -/
def onyxRtc : Nat := 0xB000 * 256 + 2

/-- RTC_SYNC_TB0 (R280). -/
def rtcSyncTb0 : Nat := 0xB000 * 256 + 3

/-- LOG_LOST (R280). -/
def logLost : Nat := 0xB000 * 256 + 4

/-- TAMPER_FLAGS (R280). -/
def tamperFlags : Nat := 0xB010 * 256 + 1

/-- FLAG_CLEAR (R280). -/
def flagClear : Nat := 0xB010 * 256 + 2

/-- LOG_DATA (R280). -/
def logData : Nat := 0xB020 * 256 + 1

/-- LOG_COUNT (R280). -/
def logCount : Nat := 0xB020 * 256 + 2

/-- LOG_NEWEST (R280). -/
def logNewest : Nat := 0xB020 * 256 + 3

/-- LOG_ACK (R280). -/
def logAck : Nat := 0xB020 * 256 + 4

/-- LOOP_CTRL (R280). -/
def loopCtrl (n : Nat) : Nat := (0xB030 + n) * 256 + 1

/-- LOOP_STATE (R280). -/
def loopState (n : Nat) : Nat := (0xB030 + n) * 256 + 2

/-- LOOP_ALARMS (R280). -/
def loopAlarms (n : Nat) : Nat := (0xB030 + n) * 256 + 3

/-- MON_NOW (R280). -/
def monNow : Nat := 0xB040 * 256 + 1

/-- TEMP_NOW (R280). -/
def tempNow : Nat := 0xB040 * 256 + 2

/-- LC_STATE (R298). -/
def lcState : Nat := 0xF000 * 256 + 1

/-- LC_REQUEST (R298). -/
def lcRequest : Nat := 0xF000 * 256 + 2

/-- LC_STATUS (R298). -/
def lcStatus : Nat := 0xF000 * 256 + 3

/-- ENROL_START (R298). -/
def enrolStart : Nat := 0xF010 * 256 + 1

/-- ENROL_RESULT (R298). -/
def enrolResult : Nat := 0xF010 * 256 + 2

/-- DBG_STATE (R298). -/
def dbgState : Nat := 0xF020 * 256 + 1

/-- DBG_REQUEST (R298). -/
def dbgRequest : Nat := 0xF020 * 256 + 2

/-- DBG_CHALLENGE (R298). -/
def dbgChallenge : Nat := 0xF020 * 256 + 3

/-- DBG_RESPONSE (R298). -/
def dbgResponse : Nat := 0xF020 * 256 + 4

/-- DBG_RESULT (R298). -/
def dbgResult : Nat := 0xF020 * 256 + 5

/-- DBG_FAILS (R298). -/
def dbgFails : Nat := 0xF020 * 256 + 6

/-- DEBUG_CONSENT (R298). -/
def debugConsent : Nat := 0xF020 * 256 + 7

/-- WORLD_CALLER (R320). -/
def worldCaller : Nat := 0xD000 * 256 + 1

/-- WORLD_VIOLATIONS (R320). -/
def worldViolations : Nat := 0xD000 * 256 + 2

/-- WORLD_LAST (R320). -/
def worldLast : Nat := 0xD000 * 256 + 3

/-- ATTACH_CTRL (R320). -/
def attachCtrl : Nat := 0xD010 * 256 + 1

/-- ATTACH_DATA (R320). -/
def attachData : Nat := 0xD010 * 256 + 2

/-- ATTACH_STATUS (R320). -/
def attachStatus : Nat := 0xD010 * 256 + 3

/-- ATTACH_FAILS (R320). -/
def attachFails : Nat := 0xD010 * 256 + 4

/-- SESSION_TIMEOUT (R320). -/
def sessionTimeout : Nat := 0xD010 * 256 + 5

/-- OWNER_BIND (R320). -/
def ownerBind : Nat := 0xD010 * 256 + 6

/-- OWNER_BIND_DATA (R320). -/
def ownerBindData : Nat := 0xD010 * 256 + 7

/-- OWNER_BIND_WRITE (R320). -/
def ownerBindWrite : Nat := 0xD010 * 256 + 8

/-- REGION_CTRL (R320). -/
def regionCtrl (r : Nat) : Nat := (0xD100 + r) * 256 + 1

/-- REGION_STATUS (R320). -/
def regionStatus (r : Nat) : Nat := (0xD100 + r) * 256 + 2

/-- REGION_POISONED (R320). -/
def regionPoisoned (r : Nat) : Nat := (0xD100 + r) * 256 + 3

/-- REGION_RETIRED (R320). -/
def regionRetired (r : Nat) : Nat := (0xD100 + r) * 256 + 4

/-- HBM_ADDR (R320). -/
def hbmAddr : Nat := 0xD200 * 256 + 1

/-- HBM_DATA (R320). -/
def hbmData : Nat := 0xD200 * 256 + 2

/-- HBM_FLUSH (R320). -/
def hbmFlush : Nat := 0xD200 * 256 + 3

/-- HBM_STATUS (R320). -/
def hbmStatus : Nat := 0xD200 * 256 + 4

/-- MEM_CORRECTED (R320). -/
def memCorrected : Nat := 0xD300 * 256 + 1

/-- MEM_UNCORR (R320). -/
def memUncorr : Nat := 0xD300 * 256 + 2

/-- MEM_TAG_FAILS (R320). -/
def memTagFails : Nat := 0xD300 * 256 + 3

/-- MEM_LAST (R320). -/
def memLast : Nat := 0xD300 * 256 + 4

/-- MASTER_REFUSED (R320). -/
def masterRefused : Nat := 0xD300 * 256 + 5

/-- MEM_RETIRED (R320). -/
def memRetired : Nat := 0xD300 * 256 + 6

/-- CTR_CACHE_DIRTY (R320). -/
def ctrCacheDirty : Nat := 0xD300 * 256 + 7

/-- FL_STATUS (R320). -/
def flStatus : Nat := 0xD400 * 256 + 1

/-- FL_RETRIES (R320). -/
def flRetries : Nat := 0xD400 * 256 + 2

/-- FL_FAILS (R320). -/
def flFails : Nat := 0xD400 * 256 + 3

/-- BUF_LIMIT (R338). -/
def bufLimit (k : Nat) : Nat := (0x7000 + k) * 256 + 1

/-- BUF_USED (R338). -/
def bufUsed (k : Nat) : Nat := (0x7000 + k) * 256 + 2

/-- BUF_HIGH (R338). -/
def bufHigh (k : Nat) : Nat := (0x7000 + k) * 256 + 3

/-- FLOW_ADDR (R338). -/
def flowAddr (k : Nat) : Nat := (0x7000 + k) * 256 + 4

/-- FLOW_DATA (R338). -/
def flowData (k : Nat) : Nat := (0x7000 + k) * 256 + 5

/-- QUEUE_ADDR (R338). -/
def queueAddr (k : Nat) : Nat := (0x7000 + k) * 256 + 6

/-- QUEUE_DATA (R338). -/
def queueData (k : Nat) : Nat := (0x7000 + k) * 256 + 7

/-- FLOW_MISS (R338). -/
def flowMiss (k : Nat) : Nat := (0x7000 + k) * 256 + 8

/-- PORT_MISMATCH (R338). -/
def portMismatch (k : Nat) : Nat := (0x7000 + k) * 256 + 9

/-- GATE_OVERSIZE (R338). -/
def gateOversize (k : Nat) : Nat := (0x7000 + k) * 256 + 10

/-- TAIL_DROPS (R338). -/
def tailDrops (k : Nat) : Nat := (0x7000 + k) * 256 + 11

/-- ANNOUNCED (R338). -/
def announced (k : Nat) : Nat := (0x7000 + k) * 256 + 12

/-- LEN_ADJ (R338). -/
def lenAdj (q : Nat) : Nat := (0x7020 + q) * 256 + 1

/-- PORT_RATE (R338). -/
def portRate (q : Nat) : Nat := (0x7020 + q) * 256 + 2

/-- PORT_BURST (R338). -/
def portBurst (q : Nat) : Nat := (0x7020 + q) * 256 + 3

/-- GATE_CTRL (R338). -/
def gateCtrl (q : Nat) : Nat := (0x7020 + q) * 256 + 4

/-- GATE_BASE (R338). -/
def gateBase (q : Nat) : Nat := (0x7020 + q) * 256 + 5

/-- GATE_CYCLE (R338). -/
def gateCycle (q : Nat) : Nat := (0x7020 + q) * 256 + 6

/-- GATE_ADDR (R338). -/
def gateAddr (q : Nat) : Nat := (0x7020 + q) * 256 + 7

/-- GATE_DATA (R338). -/
def gateData (q : Nat) : Nat := (0x7020 + q) * 256 + 8

/-- GATE_ARM (R338). -/
def gateArm (q : Nat) : Nat := (0x7020 + q) * 256 + 9

/-- GATE_STATUS (R338). -/
def gateStatus (q : Nat) : Nat := (0x7020 + q) * 256 + 10

/-- GATE_SWAP_TICK (R338). -/
def gateSwapTick (q : Nat) : Nat := (0x7020 + q) * 256 + 11

/-- GATE_START (R338). -/
def gateStart (q : Nat) : Nat := (0x7020 + q) * 256 + 12

/-- POL_ADDR (R338). -/
def polAddr (i : Nat) : Nat := (0x7100 + i) * 256 + 1

/-- POL_DATA (R338). -/
def polData (i : Nat) : Nat := (0x7100 + i) * 256 + 2

/-- POL_KILLED (R338). -/
def polKilled (i : Nat) : Nat := (0x7100 + i) * 256 + 3

/-- TB_CTRL (R362). -/
def tbCtrl (n : Nat) : Nat := (0x8100 + n) * 256 + 1

/-- TB_NOW (R362). -/
def tbNow (n : Nat) : Nat := (0x8100 + n) * 256 + 2

/-- TB_SET (R362). -/
def tbSet (n : Nat) : Nat := (0x8100 + n) * 256 + 3

/-- TB_STEP (R362). -/
def tbStep (n : Nat) : Nat := (0x8100 + n) * 256 + 4

/-- TB_STATUS (R362). -/
def tbStatus (n : Nat) : Nat := (0x8100 + n) * 256 + 5

/-- FREQ (R362). -/
def freq (n : Nat) : Nat := (0x8100 + n) * 256 + 6

/-- TB_NS32 (R362). -/
def tbNs32 (n : Nat) : Nat := (0x8100 + n) * 256 + 7

/-- SERVO_OFFSET (R362). -/
def servoOffset (n : Nat) : Nat := (0x8110 + n) * 256 + 1

/-- KP (R362). -/
def kp (n : Nat) : Nat := (0x8110 + n) * 256 + 2

/-- KI (R362). -/
def ki (n : Nat) : Nat := (0x8110 + n) * 256 + 3

/-- FREQ_LIMIT (R362). -/
def freqLimit (n : Nat) : Nat := (0x8110 + n) * 256 + 4

/-- STEP_THRESHOLD (R362). -/
def stepThreshold (n : Nat) : Nat := (0x8110 + n) * 256 + 5

/-- LOCK_THRESHOLD (R362). -/
def lockThreshold (n : Nat) : Nat := (0x8110 + n) * 256 + 6

/-- UPDATE_TIMEOUT (R362). -/
def updateTimeout (n : Nat) : Nat := (0x8110 + n) * 256 + 7

/-- SERVO_CTRL (R362). -/
def servoCtrl (n : Nat) : Nat := (0x8110 + n) * 256 + 8

/-- SERVO_UPDATES (R362). -/
def servoUpdates (n : Nat) : Nat := (0x8110 + n) * 256 + 9

/-- SERVO_DISCARDED (R362). -/
def servoDiscarded (n : Nat) : Nat := (0x8110 + n) * 256 + 10

/-- TMR_TARGET_0–3 (R362). -/
def tmrTarget (n i : Nat) : Nat := (0x8120 + n) * 256 + (1 + i)

/-- TMR_CTRL (R362). -/
def tmrCtrl (n : Nat) : Nat := (0x8120 + n) * 256 + 5

/-- CAPTURE_CMD (R362). -/
def captureCmd : Nat := 0x8130 * 256 + 1

/-- CAPTURE_TB0–3 (R362). -/
def captureTb (i : Nat) : Nat := 0x8130 * 256 + (2 + i)

/-- CAPTURE_TICK (R362). -/
def captureTick : Nat := 0x8130 * 256 + 6

/-- PPS_TB (R362). -/
def ppsTb : Nat := 0x8140 * 256 + 1

/-- PPS_WIDTH (R362). -/
def ppsWidth : Nat := 0x8140 * 256 + 2

/-- PPS_ADVANCE (R362). -/
def ppsAdvance : Nat := 0x8140 * 256 + 3

/-- SYNC_OUT_CTRL (R362). -/
def syncOutCtrl : Nat := 0x8140 * 256 + 4

/-- PTP_PORT_CTRL (R362). -/
def ptpPortCtrl (q : Nat) : Nat := (0x8200 + q) * 256 + 1

/-- PTP_CORRECTED (R362). -/
def ptpCorrected (q : Nat) : Nat := (0x8200 + q) * 256 + 2

/-- PTP_STAMPED (R362). -/
def ptpStamped (q : Nat) : Nat := (0x8200 + q) * 256 + 3

/-- PTP_SKIPPED (R362). -/
def ptpSkipped (q : Nat) : Nat := (0x8200 + q) * 256 + 4

/-- PTP_NO_TIME (R362). -/
def ptpNoTime (q : Nat) : Nat := (0x8200 + q) * 256 + 5

/-- TX_TS_DATA (R362). -/
def txTsData (q : Nat) : Nat := (0x8200 + q) * 256 + 6

/-- TX_TS_COUNT (R362). -/
def txTsCount (q : Nat) : Nat := (0x8200 + q) * 256 + 7

/-- TX_TS_LOST (R362). -/
def txTsLost (q : Nat) : Nat := (0x8200 + q) * 256 + 8

/-- PROT_OUT (R362). -/
def protOut (q : Nat) : Nat := (0x8300 + q) * 256 + 1

/-- PROT_IN (R362). -/
def protIn (q : Nat) : Nat := (0x8300 + q) * 256 + 2

/-- PROT_ASYM (R362). -/
def protAsym (q : Nat) : Nat := (0x8300 + q) * 256 + 3

/-- ASYM_ALARM (R362). -/
def asymAlarm (q : Nat) : Nat := (0x8300 + q) * 256 + 4

/-- SA_STAT_ADDR (R381). -/
def saStatAddr : Nat := 0x9000 * 256 + 1

/-- SA_STAT_DATA (R381). -/
def saStatData : Nat := 0x9000 * 256 + 2

/-- STAT_ECC (R381). -/
def statEcc : Nat := 0x9000 * 256 + 3

/-- STAT_ECC_LAST (R381). -/
def statEccLast : Nat := 0x9000 * 256 + 4

/-- OUT_HOST_FRAMES (R381). -/
def outHostFrames (q : Nat) : Nat := (0x9010 + q) * 256 + 1

/-- OUT_HOST_OCTETS (R381). -/
def outHostOctets (q : Nat) : Nat := (0x9010 + q) * 256 + 2

/-- OUT_LINE_FRAMES (R381). -/
def outLineFrames (q : Nat) : Nat := (0x9010 + q) * 256 + 3

/-- OUT_LINE_OCTETS (R381). -/
def outLineOctets (q : Nat) : Nat := (0x9010 + q) * 256 + 4

/-- OUT_PROTECTED (R381). -/
def outProtected (q : Nat) : Nat := (0x9010 + q) * 256 + 5

/-- OUT_BYPASSED (R381). -/
def outBypassed (q : Nat) : Nat := (0x9010 + q) * 256 + 6

/-- OUT_DROPPED (R381). -/
def outDropped (q : Nat) : Nat := (0x9010 + q) * 256 + 7

/-- OUT_HOST_ERRORS (R381). -/
def outHostErrors (q : Nat) : Nat := (0x9010 + q) * 256 + 8

/-- IN_LINE_FRAMES (R381). -/
def inLineFrames (q : Nat) : Nat := (0x9010 + q) * 256 + 9

/-- IN_LINE_OCTETS (R381). -/
def inLineOctets (q : Nat) : Nat := (0x9010 + q) * 256 + 10

/-- IN_HOST_FRAMES (R381). -/
def inHostFrames (q : Nat) : Nat := (0x9010 + q) * 256 + 11

/-- IN_HOST_OCTETS (R381). -/
def inHostOctets (q : Nat) : Nat := (0x9010 + q) * 256 + 12

/-- IN_VERIFIED (R381). -/
def inVerified (q : Nat) : Nat := (0x9010 + q) * 256 + 13

/-- IN_BYPASSED (R381). -/
def inBypassed (q : Nat) : Nat := (0x9010 + q) * 256 + 14

/-- IN_DROPPED (R381). -/
def inDropped (q : Nat) : Nat := (0x9010 + q) * 256 + 15

/-- IN_KILLED (R381). -/
def inKilled (q : Nat) : Nat := (0x9010 + q) * 256 + 16

/-- PERF_CTRL (R381). -/
def perfCtrl : Nat := 0x9100 * 256 + 1

/-- PERF_CHAIN (R381). -/
def perfChain : Nat := 0x9100 * 256 + 2

/-- PERF_WRAP (R381). -/
def perfWrap : Nat := 0x9100 * 256 + 3

/-- PERF_SAT (R381). -/
def perfSat : Nat := 0x9100 * 256 + 4

/-- PERF_SEL (R381). -/
def perfSel (n : Nat) : Nat := (0x9110 + n) * 256 + 1

/-- PERF_HW (R381). -/
def perfHw (n : Nat) : Nat := (0x9110 + n) * 256 + 2

/-- PERF_ACC (R381). -/
def perfAcc (n : Nat) : Nat := (0x9110 + n) * 256 + 3

/-- DUMP_PERIOD (R381). -/
def dumpPeriod : Nat := 0x9200 * 256 + 1

/-- DUMP_SELECT (R381). -/
def dumpSelect : Nat := 0x9200 * 256 + 2

/-- DUMP_SA_FIRST (R381). -/
def dumpSaFirst : Nat := 0x9200 * 256 + 3

/-- DUMP_SA_LAST (R381). -/
def dumpSaLast : Nat := 0x9200 * 256 + 4

/-- DUMP_REQUEST (R381). -/
def dumpRequest : Nat := 0x9200 * 256 + 5

/-- DUMP_DATA (R381). -/
def dumpData : Nat := 0x9200 * 256 + 6

/-- DUMP_LEVEL (R381). -/
def dumpLevel : Nat := 0x9200 * 256 + 7

/-- DUMP_STATUS (R381). -/
def dumpStatus : Nat := 0x9200 * 256 + 8

/-- DUMP_SEQ (R381). -/
def dumpSeq : Nat := 0x9200 * 256 + 9

/-- DUMP_SKIPPED (R381). -/
def dumpSkipped : Nat := 0x9200 * 256 + 10

/-- DUMP_STALLS (R381). -/
def dumpStalls : Nat := 0x9200 * 256 + 11

/-- FREEZE_CTRL (R381). -/
def freezeCtrl : Nat := 0x9300 * 256 + 1

/-- FREEZE_STATUS (R381). -/
def freezeStatus : Nat := 0x9300 * 256 + 2

/-- FREEZE_TICK (R381). -/
def freezeTick : Nat := 0x9300 * 256 + 3

/-- FREEZE_TIMEOUTS (R381). -/
def freezeTimeouts : Nat := 0x9300 * 256 + 4

/-- FAB_NODE_ID (R414). -/
def fabNodeId : Nat := 0xC000 * 256 + 1

/-- FAB_VERSION_MAX (R414). -/
def fabVersionMax : Nat := 0xC000 * 256 + 2

/-- FAB_UNIT_TAG (R414). -/
def fabUnitTag : Nat := 0xC000 * 256 + 3

/-- FAB_NODES (R414). -/
def fabNodes : Nat := 0xC000 * 256 + 4

/-- FAB_MSG_ERRORS (R414). -/
def fabMsgErrors : Nat := 0xC000 * 256 + 5

/-- FAB_NO_ROUTE (R414). -/
def fabNoRoute : Nat := 0xC000 * 256 + 6

/-- FAB_NOT_MEMBER (R414). -/
def fabNotMember : Nat := 0xC000 * 256 + 7

/-- FAB_DUP_LAST (R414). -/
def fabDupLast : Nat := 0xC000 * 256 + 8

/-- LINK_STATUS (R414). -/
def linkStatus (p : Nat) : Nat := (0xC010 + p) * 256 + 1

/-- LINK_TX_MSGS (R414). -/
def linkTxMsgs (p : Nat) : Nat := (0xC010 + p) * 256 + 2

/-- LINK_RX_MSGS (R414). -/
def linkRxMsgs (p : Nat) : Nat := (0xC010 + p) * 256 + 3

/-- ROUTE_ADDR (R414). -/
def routeAddr : Nat := 0xC020 * 256 + 1

/-- ROUTE_ENTRY (R414). -/
def routeEntry : Nat := 0xC020 * 256 + 2

/-- ROLE_CTRL (R414). -/
def roleCtrl (g : Nat) : Nat := (0xC100 + g) * 256 + 1

/-- ROLE_MEMBERS_A (R414). -/
def roleMembersA (g : Nat) : Nat := (0xC100 + g) * 256 + 2

/-- ROLE_MEMBERS_B (R414). -/
def roleMembersB (g : Nat) : Nat := (0xC100 + g) * 256 + 3

/-- ROLE_STATE (R414). -/
def roleState (g : Nat) : Nat := (0xC100 + g) * 256 + 4

/-- ROLE_EPOCH (R414). -/
def roleEpoch (g : Nat) : Nat := (0xC100 + g) * 256 + 5

/-- ROLE_SWITCH_TICK (R414). -/
def roleSwitchTick (g : Nat) : Nat := (0xC100 + g) * 256 + 6

/-- HEALTH (R414). -/
def health (g : Nat) : Nat := (0xC100 + g) * 256 + 7

/-- PEER_HEALTH (R414). -/
def peerHealth (g : Nat) : Nat := (0xC100 + g) * 256 + 8

/-- LEASE_EXPIRY (R414). -/
def leaseExpiry (g : Nat) : Nat := (0xC100 + g) * 256 + 9

/-- ROLE_STALE_RX (R414). -/
def roleStaleRx (g : Nat) : Nat := (0xC100 + g) * 256 + 10

/-- TAKEOVERS (R414). -/
def takeovers (g : Nat) : Nat := (0xC100 + g) * 256 + 11

/-- RESV_PER_TICK (R414). -/
def resvPerTick : Nat := 0xC200 * 256 + 1

/-- RESV_PENDING (R414). -/
def resvPending : Nat := 0xC200 * 256 + 2

/-- RESV_REFUSED (R414). -/
def resvRefused : Nat := 0xC200 * 256 + 3

/-- INSYNC_PER_TICK (R414). -/
def insyncPerTick : Nat := 0xC200 * 256 + 4

/-- INSYNC_LAG (R414). -/
def insyncLag : Nat := 0xC200 * 256 + 5

/-- RESYNC_LEFT (R414). -/
def resyncLeft : Nat := 0xC200 * 256 + 6

/-- REMOTE_DROPS (R414). -/
def remoteDrops : Nat := 0xC200 * 256 + 7

/-- CAP_KDA_VERSIONS (R435). -/
def capKdaVersions : Nat := 0x1100 * 256 + 1

/-- CAP_FAB_VERSIONS (R435). -/
def capFabVersions : Nat := 0x1100 * 256 + 2

/-- CAP_FEATURES (R435). -/
def capFeatures : Nat := 0x1100 * 256 + 3

/-- CAP_SA (R435). -/
def capSa : Nat := 0x1100 * 256 + 4

/-- CAP_SC (R435). -/
def capSc : Nat := 0x1100 * 256 + 5

/-- CAP_EVENT_SOURCES (R435). -/
def capEventSources : Nat := 0x1100 * 256 + 6

/-- CAP_PERF (R435). -/
def capPerf : Nat := 0x1100 * 256 + 7

/-- CAP_MAX_WORDS (R435). -/
def capMaxWords : Nat := 0x1100 * 256 + 8

/-- CHAN_CTRL (R435). -/
def chanCtrl (c : Nat) : Nat := (0x1200 + c) * 256 + 1

/-- CHAN_MAC (R435). -/
def chanMac (c : Nat) : Nat := (0x1200 + c) * 256 + 2

/-- CHAN_IPV4 (R435). -/
def chanIpv4 (c : Nat) : Nat := (0x1200 + c) * 256 + 3

/-- CHAN_IPV6 (R435). -/
def chanIpv6 (c : Nat) : Nat := (0x1200 + c) * 256 + 4

/-- CHAN_UDP_PORT (R435). -/
def chanUdpPort (c : Nat) : Nat := (0x1200 + c) * 256 + 5

/-- CHAN_REQUESTS (R435). -/
def chanRequests (c : Nat) : Nat := (0x1200 + c) * 256 + 6

/-- CHAN_REJECTED (R435). -/
def chanRejected (c : Nat) : Nat := (0x1200 + c) * 256 + 7

/-- CHAN_DUPLICATES (R435). -/
def chanDuplicates (c : Nat) : Nat := (0x1200 + c) * 256 + 8

/-- CHAN_RX_DROPS (R435). -/
def chanRxDrops (c : Nat) : Nat := (0x1200 + c) * 256 + 9

/-- CHAN_RESET (R435). -/
def chanReset (c : Nat) : Nat := (0x1200 + c) * 256 + 10

/-- SESSION_ID (R435). -/
def sessionId (c : Nat) : Nat := (0x1200 + c) * 256 + 11

/-- SESSION_VERSION (R435). -/
def sessionVersion (c : Nat) : Nat := (0x1200 + c) * 256 + 12

/-- EVT_SUB (R435). -/
def evtSub (c : Nat) : Nat := (0x1200 + c) * 256 + 13

/-- EVT_CTRL (R435). -/
def evtCtrl : Nat := 0xE000 * 256 + 1

/-- EVT_DATA (R435). -/
def evtData : Nat := 0xE000 * 256 + 2

/-- EVT_DATA_S (R435). -/
def evtDataS : Nat := 0xE000 * 256 + 3

/-- EVT_LEVEL (R435). -/
def evtLevel : Nat := 0xE000 * 256 + 4

/-- EVT_LEVEL_S (R435). -/
def evtLevelS : Nat := 0xE000 * 256 + 5

/-- EVT_LOST (R435). -/
def evtLost : Nat := 0xE000 * 256 + 6

/-- EVT_LOST_S (R435). -/
def evtLostS : Nat := 0xE000 * 256 + 7

/-- EVT_MSG_DROPS (R435). -/
def evtMsgDrops : Nat := 0xE000 * 256 + 8

/-- EVT_PENDING (R435). -/
def evtPending (w : Nat) : Nat := (0xE010 + w) * 256 + 1

/-- EVT_IRQ_EN (R435). -/
def evtIrqEn (w : Nat) : Nat := (0xE010 + w) * 256 + 2

/-- EVT_RECORD_EN (R435). -/
def evtRecordEn (w : Nat) : Nat := (0xE010 + w) * 256 + 3

/-- EVT_MSG_EN (R435). -/
def evtMsgEn (w : Nat) : Nat := (0xE010 + w) * 256 + 4

/-- STARTUP_STATUS (R453). -/
def startupStatus : Nat := 0xF800 * 256 + 1

/-- STARTUP_TIME (R453). -/
def startupTime : Nat := 0xF800 * 256 + 2

/-- RESET_CAUSE (R453). -/
def resetCause : Nat := 0xF800 * 256 + 3

/-- RESET_CMD (R453). -/
def resetCmd : Nat := 0xF800 * 256 + 4

/-- FW_PREFER (R453). -/
def fwPrefer : Nat := 0xF810 * 256 + 1

/-- FW_A_STATUS (R453). -/
def fwAStatus : Nat := 0xF810 * 256 + 2

/-- FW_B_STATUS (R453). -/
def fwBStatus : Nat := 0xF810 * 256 + 3

/-- FW_SVN (R453). -/
def fwSvn : Nat := 0xF810 * 256 + 4

/-- FW_SVN_COMMIT (R453). -/
def fwSvnCommit : Nat := 0xF810 * 256 + 5

/-- FW_UPDATE_SRC (R453). -/
def fwUpdateSrc : Nat := 0xF810 * 256 + 6

/-- FW_UPDATE_OP (R453). -/
def fwUpdateOp : Nat := 0xF810 * 256 + 7

/-- FW_UPDATE_STATUS (R453). -/
def fwUpdateStatus : Nat := 0xF810 * 256 + 8

/-- ARM_CTRL (R453). -/
def armCtrl : Nat := 0xF820 * 256 + 1

/-- ARM_STATUS (R453). -/
def armStatus : Nat := 0xF820 * 256 + 2

/-- HOLD_CTRL (R453). -/
def holdCtrl : Nat := 0xF820 * 256 + 3

/-- HOLD_STATUS (R453). -/
def holdStatus : Nat := 0xF820 * 256 + 4

end K

end Sys2Proof.Machine
end

