-- ==== Sys2Proof/Machine/Hash.lean ====
section
/-! DEFINITION. Hashes, message authentication and key derivation as the standards the spec names define them: SHA-2
(FIPS 180-4), HMAC (FIPS 198-1), the counter-mode KDF (SP 800-108). -/

namespace Sys2Proof.Machine

/-- The first 80 primes, whose roots give the constants of FIPS 180-4. -/
def primes : List Nat :=
  [2, 3, 5, 7, 11, 13, 17, 19, 23, 29, 31, 37, 41, 43, 47, 53, 59, 61, 67, 71, 73, 79, 83, 89, 97, 101, 103, 107, 109, 113] ++
  [127, 131, 137, 139, 149, 151, 157, 163, 167, 173, 179, 181, 191, 193, 197, 199, 211, 223, 227, 229, 233, 239, 241, 251, 257] ++
  [263, 269, 271, 277, 281, 283, 293, 307, 311, 313, 317, 331, 337, 347, 349, 353, 359, 367, 373, 379, 383, 389, 397, 401, 409]

/-- The integer root of `v` under power `k`, bit by bit from bit `n − 1`. -/
def rootBits (k v : Nat) : Nat → Nat → Nat
  | 0, r => r
  | n + 1, r => rootBits k v n (if (r + 2 ^ n) ^ k ≤ v then r + 2 ^ n else r)

/-- 64 bits of the fractional part of the square and the cube root of a prime. -/
def sqrtFrac (p : Nat) : Nat := rootBits 2 (p * 2 ^ 128) 70 0 % 2 ^ 64
def cbrtFrac (p : Nat) : Nat := rootBits 3 (p * 2 ^ 192) 70 0 % 2 ^ 64

/-- The parameters of a hash: word width, rounds, rotations, initial value, digest bytes. -/
structure Sha where
  w    : Nat
  rot  : List Nat
  ks   : List Nat
  h0   : List Nat
  size : Nat

def sha256P : Sha :=
  { w := 32, rot := [2, 13, 22, 6, 11, 25, 7, 18, 3, 17, 19, 10], ks := (primes.take 64).map (fun p => cbrtFrac p / 2 ^ 32),
    h0 := (primes.take 8).map (fun p => sqrtFrac p / 2 ^ 32), size := 32 }
def sha512P : Sha :=
  { w := 64, rot := [28, 34, 39, 14, 18, 41, 1, 8, 7, 19, 61, 6], ks := primes.map cbrtFrac,
    h0 := (primes.take 8).map sqrtFrac, size := 64 }
def sha384P : Sha := { sha512P with h0 := ((primes.drop 8).take 8).map sqrtFrac, size := 48 }

/-- Rotation right in `w` bits. -/
def rotr (w n x : Nat) : Nat := x / 2 ^ n + x % 2 ^ n * 2 ^ (w - n)

/-- Three terms combined. -/
def xor3 (a b c : Nat) : Nat := Nat.xor a (Nat.xor b c)

/-- The message schedule, newest word first. -/
def shaSched (p : Sha) : Nat → List Nat → List Nat
  | 0, l => l
  | n + 1, l =>
    let r := fun (i x : Nat) => rotr p.w (nth p.rot i) x
    let s0 := fun (x : Nat) => xor3 (r 6 x) (r 7 x) (x / 2 ^ nth p.rot 8)
    let s1 := fun (x : Nat) => xor3 (r 9 x) (r 10 x) (x / 2 ^ nth p.rot 11)
    shaSched p n (((s1 (nth l 1) + nth l 6 + s0 (nth l 14) + nth l 15) % 2 ^ p.w) :: l)

/-- The rounds over (constant, word) pairs. -/
def shaRounds (p : Sha) : List (Nat × Nat) → List Nat → List Nat
  | [], v => v
  | (k, x) :: l, v =>
    let r := fun (i x : Nat) => rotr p.w (nth p.rot i) x
    let a := nth v 0
    let e := nth v 4
    let ch := Nat.xor (Nat.land e (nth v 5)) (Nat.land (2 ^ p.w - 1 - e) (nth v 6))
    let maj := xor3 (Nat.land a (nth v 1)) (Nat.land a (nth v 2)) (Nat.land (nth v 1) (nth v 2))
    let t1 := nth v 7 + xor3 (r 3 e) (r 4 e) (r 5 e) + ch + k + x
    let t2 := xor3 (r 0 a) (r 1 a) (r 2 a) + maj
    shaRounds p l [(t1 + t2) % 2 ^ p.w, a, nth v 1, nth v 2, (nth v 3 + t1) % 2 ^ p.w, e, nth v 5, nth v 6]

/-- One block. -/
def shaBlock (p : Sha) (h : List Nat) (b : List Byte) : List Nat :=
  let ws := (chunks 16 (p.w / 8) b).map ofBytes
  let sched := (shaSched p (p.ks.length - 16) ws.reverse).reverse
  List.zipWith (fun x y => (x + y) % 2 ^ p.w) h (shaRounds p (List.zip p.ks sched) h)

/-- The digest of a message. -/
def sha (p : Sha) (m : List Byte) : List Byte :=
  let bs := 2 * p.w
  let lenB := p.w / 4
  let body := padTo bs (m ++ [0x80] ++ List.replicate lenB 0)
  let msg := body.take (body.length - lenB) ++ toBytes lenB (8 * m.length)
  (((chunks msg.length bs msg).foldl (shaBlock p) p.h0).flatMap (toBytes (p.w / 8))).take p.size

def sha256 (m : List Byte) : List Byte := sha sha256P m
def sha384 (m : List Byte) : List Byte := sha sha384P m
def sha512 (m : List Byte) : List Byte := sha sha512P m

/-- The hash a HASH field names (R201). -/
def hashOf (n : Nat) : Sha := if n = 0 then sha256P else if n = 1 then sha384P else sha512P

/-- HMAC. -/
def hmac (p : Sha) (key m : List Byte) : List Byte :=
  let bs := 2 * p.w
  let k0 := if bs < key.length then sha p key else key
  let k := k0 ++ List.replicate (bs - k0.length) 0
  sha p (k.map (Nat.xor 0x5C) ++ sha p (k.map (Nat.xor 0x36) ++ m))

/-- The counter-mode KDF with a 32-bit counter ahead of the fixed input data, `n` bytes of output. -/
def kdfCtr (p : Sha) (key fixed : List Byte) (n : Nat) : List Byte :=
  ((List.range ((n + p.size - 1) / p.size)).flatMap (fun i => hmac p key (toBytes 4 (i + 1) ++ fixed))).take n

end Sys2Proof.Machine
end

