-- ==== Sys2Proof/Machine/Puf.lean ====
section
/-! DEFINITION. Where the root comes from (R233–R237): the screening of the SRAM array, what its helper data recovers, the
fall-back block through its SECDED code. -/

namespace Sys2Proof.Machine

/-! Bits of the array (R234, R235): 65,536 bits as one number, 256 blocks of 256. -/

/-- Bits of the array, and of one block. -/
def pufBits : Nat := 65536
def pufBlock : Nat := 256

/-- The fields of `w` bits at the even places of the array. -/
def pufMask (w : Nat) : Nat := (2 ^ pufBits - 1) / (2 ^ w + 1)

/-- The array in fields of `2^n` bits, each holding how many bits of its own are set. -/
def popFields (n x : Nat) : Nat :=
  forNat n (fun i x => Nat.land x (pufMask (2 ^ i)) + Nat.land (x / 2 ^ 2 ^ i) (pufMask (2 ^ i))) (x % 2 ^ pufBits)

/-- Bits set in the array, and the most set in one of its blocks. DEDUCED (log entry 66). -/
def popArray (x : Nat) : Nat := popFields 16 x
def popWorst (x : Nat) : Nat :=
  let f := popFields 8 x
  forNat 256 (fun i m => Nat.max m (f / 2 ^ (pufBlock * i) % 2 ^ pufBlock)) 0

/-- Every two of the reads differ in at most 8 % of the bits. -/
def pufClose : List Nat → Bool
  | [] => true
  | a :: l => l.all (fun b => decide (100 * popArray (Nat.xor a b) ≤ 8 * pufBits)) && pufClose l

/-- The screening of R234 over 32 reads. DEDUCED (log entry 66). -/
def pufPasses (reads : List Nat) : Bool :=
  reads.length == 32 &&
  reads.all (fun a => decide (42 * pufBits ≤ 100 * popArray a) && decide (100 * popArray a ≤ 58 * pufBits)) &&
  pufClose reads &&
  decide (popWorst (reads.foldl (fun m a => Nat.lor m (Nat.xor a (reads.headD 0))) 0) ≤ 12)

/-! The root (R234, R235, R237). -/

/-- The root of a unit whose array has this response. FREE VALUE (log entry 6). -/
def pufRoot (response : Nat) : List Byte := toBytes 32 (Config.root response).toNat

/-- The check value of a root (R234). -/
def rootCheck (root : List Byte) : Nat := ofBytes ((sha256 root).take 16)

/-- An attempt of R235 with `flips` bits of the array wrong: the root and the bits corrected in the worst block. The code
corrects up to 24 of a block. DEDUCED (log entry 66). -/
def pufTry (helper : Option Nat) (check flips : Nat) : Option (List Byte × Nat) :=
  match helper with
  | none => none
  | some response =>
    let worst := popWorst flips
    if worst ≤ 24 ∧ rootCheck (pufRoot response) = check then some (pufRoot response, worst) else none

/-! The fall-back block (R234, R237): four words of 64 bits, each with 8 check bits. PRESUMED (log entry 66). -/

/-- The places of the data bits: those of 3 to 71 that are no power of two. -/
def hamPlaces : List Nat := (List.range 72).filter (fun i => decide (2 < i) && i != 2 ^ i.log2)

/-- The places of the set data bits, summed bit by bit; and the parity of the low `n` bits. -/
def hamSum (d : Nat) : Nat := forNat 64 (fun i a => if bit d i then Nat.xor a (hamPlaces.getD i 0) else a) 0
def parityOf (n x : Nat) : Nat := forNat n (fun i a => (a + b2n (bit x i)) % 2) 0

/-- A word with its check bits. -/
def secdedWord (d : Nat) : Nat :=
  let w := d % 2 ^ 64 + 2 ^ 64 * hamSum (d % 2 ^ 64)
  w + 2 ^ 71 * parityOf 71 w

/-- The data of a word as read: one wrong bit is corrected, two are found. -/
def secdedRead (w : Nat) : Option Nat :=
  let d := w % 2 ^ 64
  let sum := Nat.xor (hamSum d) (w / 2 ^ 64 % 128)
  if parityOf 72 w = 0 then (if sum = 0 then some d else none)
  else if sum = 0 ∨ sum = 2 ^ sum.log2 then some d
  else (hamPlaces.findIdx? (· == sum)).map (fun i => Nat.xor d (2 ^ i))

/-- The block a root makes, and the block with every bit burnt (R288). -/
def blockOf (root : List Byte) : List Nat := (List.range 4).map (fun i => secdedWord (ofBytes ((root.drop (8 * i)).take 8)))
def blockFull : List Nat := List.replicate 4 (2 ^ 72 - 1)

/-- An attempt of R237 with `flips` of its 288 bits read wrong, word 0 lowest. -/
def blockTry (block : List Nat) (flips : Nat) : Option (List Byte) :=
  let ws := (List.range 4).map (fun i => secdedRead (Nat.xor (nth block i) (flips / 2 ^ (72 * i) % 2 ^ 72)))
  if ws.all Option.isSome then some (ws.flatMap (fun w => toBytes 8 (w.getD 0))) else none

end Sys2Proof.Machine
end

