-- ==== Sys2Proof/Machine/State.lean ====
section
/-! DEFINITION. The state of the block: everything the spec gives the device, as plain data. Every dictionary object
(counters, settings, status words) is an entry of the register file `regs` under its key (Objects.lean); what lies
behind the objects is held in one record per chapter. `State.reset` is the device as a device reset leaves it. -/

namespace Sys2Proof.Machine

/-- Why a step stops. No command of this model stops: the part answers every access with an abort code (R420) and
every happening with a state. -/
inductive Fault where
  /-- Never raised by a meaning of this model. Safe: the machine stops. -/
  | unreachable
  deriving DecidableEq, Repr

/-- Why a command has no meaning. -/
inductive Refusal where
  /-- Raised by `exec` for a command that has no meaning yet. Safe: the machine stops. -/
  | notModelled (mnemonic : String)
  deriving DecidableEq, Repr

/-- The abort codes of R420. -/
inductive Code where
  | ok | noObject | readOnly | worldViolation | unsupportedValue | wrongState | lateCommit | memoryError
  | typeErr | notReady | lengthErr | skipped | formatErr | versionErr
  deriving DecidableEq, Repr

/-- The answer the dictionary gave to the last operation: its code and its words. -/
structure Reply where
  code : Code
  vals : List Word
  deriving DecidableEq, Repr

/-- What the device has sent or driven, newest first. -/
inductive Output where
  /-- A frame at port `q`'s pins of a side; `good` = its FCS is good (a killed frame's is complemented, R190). -/
  | frame (sd : Side) (q : Nat) (bytes : List Byte) (good : Bool)
  /-- The frame under way at port `q` of a side ends with an error block (R195, R196). -/
  | cut (sd : Side) (q : Nat)
  /-- A KDA reply on a channel to the address the request came from (R421). -/
  | kda (ch dst : Nat) (ws : List Word)
  /-- An event message (R433). -/
  | event (ch dst : Nat) (ws : List Word)
  /-- Bytes or words shifted out on SPI (R425). -/
  | spi (ws : List Word)
  /-- An ARP or neighbour advertisement (R423). -/
  | arp (c asker addr mac : Nat)
  /-- A fabric message on port `p` (R386). -/
  | fab (p : Nat) (m : FabMsg)
  /-- An ordered set on fabric port `p`, its slots as bytes (R72, R394). -/
  | fabSet (p : Nat) (set : List Byte)
  /-- A PEER_HB burst (R395). -/
  | peerHb (burst : List Nat)
  /-- A rising edge on PPS_OUT (R358), or a SYNC_OUT pulse (R359). -/
  | pps (tb width : Nat)
  | syncOut
  /-- The PSI that the OPU4 of group `n` carries on a side from now on (R91, R97). -/
  | psi (n : Nat) (sd : Side) (bytes : List Byte)
  /-- One injected bit error on lane `m` (R77). -/
  | inject (m : Nat)
  /-- A Layer-1 multiframe of context `c` of TSI `k`: its announcement bytes, tag and payload (R100, R101). -/
  | l1 (k c : Nat) (ann : List Byte) (tag : Nat) (payload : List Byte)
  /-- A received multiframe of context `c` of TSI `k`, deciphered (R99, R103). -/
  | l1In (k c : Nat) (payload : List Byte)
  deriving DecidableEq, Repr

/-- What no command may change: the values burnt into the antifuse of one unit (R4). -/
structure UnitId where
  variant : Nat
  step    : Nat
  serial  : List Byte
  deriving DecidableEq, Repr

/-- Background work in a tick (R39–R41): the count of the tick it last ran in, the last job whose slot has been used there, and
the core-clock offset at which that job ended. -/
structure BgSt where
  at_ : Nat
  job : Nat
  off : Nat
  deriving DecidableEq, Repr

/-- The Spinel sequencer (R30–R49) and the passing of core clocks. `target` is the TB0 time, in 2^-32 ns, at which
the next boundary of the sequencer's own grid falls; `slew` what is left of an accepted SYNC_IN error, in cc, applied
from the boundary of tick `slewFrom`; `step` a latched step (tick B, cc); `after` a correction waiting behind it; `late` the
changes that took effect late (R33, R49); `ran` per act of the sequencer that comes once a tick the tick count + 1 of its last
(R35); `pps` the last second, less the advance, that PPS_OUT has passed (R358). -/
structure TickSt where
  clock      : Nat
  start      : Nat
  elapsed    : Nat
  target     : Nat
  aligning   : Bool
  realigning : Bool
  slew       : Int
  slewFrom   : Nat
  step       : Option (Nat × Int)
  after      : Option (Nat × Int × Bool)
  lastEdge   : Option Nat
  goodRun    : Nat
  bg         : BgSt
  late       : Nat
  ran        : Tbl Nat
  pps        : Nat
  deriving DecidableEq, Repr

/-- An event FIFO (R430, R431): records oldest first, the last SEQ given, whether records were lost since, and the
word the next read returns. -/
structure Fifo where
  recs : List (List Word)
  seq  : Nat
  lost : Bool
  ptr  : Nat
  deriving DecidableEq, Repr

/-- A subscription to event messages (R433). -/
structure Sub where
  addr    : Nat
  sess    : Bool
  seq     : Nat
  frames  : Nat
  waiting : List (List Word)
  since   : Nat
  deriving DecidableEq, Repr

/-- An open secure session (R304). -/
structure Sess where
  key     : List Byte
  id      : Nat
  lastSeq : Nat
  bad     : Nat
  evN     : Nat
  seen    : Nat
  deriving DecidableEq, Repr

/-- An attachment under way on one channel (R302): which step it has reached (0 none, 1 hello taken, 2 reply ready,
3 proof taken), the bytes passing through ATTACH_DATA, and what the handshake has made (`t1` holds the hello until the reply is
ready); consecutive refusals, the tick count of REPLY_READY, the tick count a lockout ends, ATTACH_STATUS and SESSION_TIMEOUT. -/
structure Attach where
  step    : Nat
  inBuf   : List Byte
  outBuf  : List Byte
  ptr     : Nat
  t1      : List Byte
  nh      : List Byte
  nd      : List Byte
  shared  : List Byte
  bad     : Nat
  readyAt : Nat
  locked  : Option Nat
  proof   : List Byte
  status  : Nat
  timeout : Nat
  deriving DecidableEq, Repr

/-- One dictionary channel, or the debug port (R415, R421, R425). -/
structure Chan where
  queue  : List (Nat × Nat × List Word)
  held   : Option (List Word)
  kept   : List Word
  last   : Option Nat
  error  : Bool
  sess   : Option Sess
  attach : Attach
  sub    : Option Sub
  deriving DecidableEq, Repr

/-- A firmware image in flash (R438): the facts its check reads. -/
structure Image where
  headerOk : Bool
  hashOk   : Bool
  sigOk    : Bool
  svn      : Nat
  version  : Nat
  flashOk  : Bool
  deriving DecidableEq, Repr

/-- Start-up, modes and reset (R436–R452). `steps` are the start-up steps that have ended; `inReset` RESET_N low or
clocks not locked; `engine` the dictionary engine runs; `fw` the service controller's firmware runs; `onyxUp` the
objects of the Onyx chapter are served; `update` a firmware update under way (target, prefer, FW_UPDATE_SRC);
`pinLow` RESET_N held low, `rise` the clock of its last rise; `drain` a disarm waits for its last frame; `dpReset` a data-path reset under way; `exitNext` an
exit follows the HOLD entry under way. -/
structure Boot where
  inReset  : Bool
  engine   : Bool
  fw       : Bool
  onyxUp   : Bool
  steps    : List Nat
  began    : Nat
  badSerdes : List Nat
  imgA     : Image
  imgB     : Image
  update   : Option (Nat × Bool × Nat)
  drain    : Bool
  dpReset  : Bool
  exitNext : Bool
  pinLow   : Bool
  rise     : Nat
  deriving DecidableEq, Repr

/-- Life cycle and debug (R281–R297): the state decided at this start; the four word pairs of the flash state area; a
transition's target and the step of R287 it is in; enrolment running; some bit of the fall-back block burnt; a DEVID
certificate present; scan open; the debug scope, and whether authorisation opened it; the challenge, its scope, the tick count
it became ready at, the response words written, what a running
response check judges (challenge, response, scope); a reset
held back by a transition (its cause); trim values in flash. -/
structure Life where
  state   : Nat
  pairs   : List (Nat × Nat)
  trans   : Option Nat
  stepNo  : Nat
  enrolling : Bool
  blockBits : Bool
  devCert : Bool
  scan    : Bool
  scope   : Nat
  byAuth  : Bool
  chal    : List Byte
  chalScope : Nat
  chalAt  : Nat
  resp    : List Word
  checking : Option (List Byte × List Word × Nat)
  heldReset : Option Nat
  trim    : Bool
  deriving DecidableEq, Repr

/-- A time base (R339–R346): its value `base`, in 2^-32 ns, at core clock `at`; its frequency term and integrator in
1/1,024 ppb; the runs of good and bad offsets; whether the current run of updates is clamped; whether the time-domain
clock is stopped; the core clock and channel of the last TB_SET or TB_STEP (R361); the core clock of the last offset (R346); and
per timer the ns past which it waits for its target (R357). -/
structure Tb where
  base    : Nat
  at_     : Nat
  freq    : Int
  integ   : Int
  good    : Nat
  bad     : Nat
  clamped : Bool
  stopped : Bool
  setBy   : Option (Nat × Nat)
  offAt   : Nat
  tmrAt   : Tbl Nat
  deriving DecidableEq, Repr

/-- Block lock behind the decoder of one side of a port (R65): the PCS lanes that are locked. -/
structure PcsBlk where
  locked : List Nat
  deriving DecidableEq, Repr

/-- One side of an OTU4 group (R86–R92): the LOCKED logical lanes with their LLM, the alignment and defect states, ODU4-AIS
and BDI received, the MSI last received. -/
structure Otl where
  lanes   : List (Nat × Nat)
  aligned : Bool
  mfOk    : Bool
  oom     : Bool
  lof     : Bool
  lom     : Bool
  plm     : Bool
  ais     : Bool
  bdi     : Bool
  msi     : List Nat
  deriving DecidableEq, Repr

/-- One tributary as received (R90–R93): its last valid Cm and ΣCnD, runs of bad and valid justification controls, its ODUk in frame
and in multiframe, and its defects. -/
structure Trib where
  cm   : Nat
  cnd  : Nat
  inFrame : Bool
  mfOk : Bool
  bad  : Nat
  good : Nat
  loss : Bool
  oom  : Bool
  lof  : Bool
  lom  : Bool
  msim : Bool
  deriving DecidableEq, Repr

/-- A Layer-1 context (R98–R104): control word, the four handles, EXT_MF_START, whether a first enable has taken it, the next
outbound EXT_MF, the phases of the multiframe under way and of the one announced, whether that one was announced ciphered, a flip
due in the next announcement, the tag of the last multiframe, the arm, and the receiver's state: the announcements describing the
next, the current and the previous multiframe (bit 64: replaced by AIS), the last announcement where it was valid, the run of
failed ones, and by inbound handle the last accepted EXT_MF + 1. -/
structure L1Ctx where
  ctrl     : Nat
  out0     : Nat
  out1     : Nat
  in0      : Nat
  in1      : Nat
  first    : Nat
  started  : Bool
  extMf    : Nat
  phase    : Bool
  annPhase : Bool
  annEnc   : Bool
  flip     : Bool
  lastTag  : Nat
  exhaust  : Bool
  arm      : Nat
  anns     : List Nat
  lastAnn  : Option Nat
  bad      : Nat
  inSync   : Bool
  phaseIn  : Bool
  acc      : Tbl Nat
  noKey    : Bool
  ais      : Bool
  failRun  : Nat
  tagFails : Nat
  deriving DecidableEq, Repr

/-- One end's counts of a performance bin (R106, R107). -/
structure PmCnt where
  es  : Nat
  ses : Nat
  uas : Nat
  bbe : Nat
  deriving DecidableEq, Repr

/-- A performance bin (R107): the TB0 second it starts, its flags, seconds counted, near and far counts. -/
structure PmBin where
  start   : Nat
  flags   : Nat
  secs    : Nat
  near    : PmCnt
  far     : PmCnt
  deriving DecidableEq, Repr

/-- One second of history of one end: the starts of its two bins, errored blocks, a defect or error, severely
errored. -/
structure PmSec where
  b15 : Nat
  b24 : Nat
  err : Nat
  es  : Bool
  ses : Bool
  deriving DecidableEq, Repr

/-- One end's running state (R106): unavailable, the length of the run that may change it, and the last seconds. -/
structure PmEnd where
  unavail : Bool
  run     : Nat
  hist    : List PmSec
  deriving DecidableEq, Repr

/-- The performance record of one OTU4 group (R106, R107): open bins newest first (the current one, and one that has
ended but not closed), closed bins newest first, and the word PM_BIN returns next. -/
structure PmGrp where
  open15   : List PmBin
  closed15 : List PmBin
  open24   : List PmBin
  prev24   : List PmBin
  near     : PmEnd
  far      : PmEnd
  stepped  : Bool
  ptr      : Nat
  deriving DecidableEq, Repr

/-- Lanes, PCS, OTN, time-slot interchange and the Layer-1 contexts (R54–R107). `lost` the core clock + 1 at which a
lane lost its signal; `peerTaps` the transmit coefficients the peer has requested; `cdrFails` the count of R58; `mg` the receive clocks of MGA and MGB; `tsi` the two pages, `tsiOld` the page a
swap in progress leaves; `l1Skips` the Layer-1 switches skipped at this tick's commit point. -/
structure Lines where
  lost     : Tbl Nat
  peerTaps : Tbl Nat
  cdrFails : Tbl Nat
  pcs      : Tbl PcsBlk
  otl      : Tbl Otl
  trib     : Tbl Trib
  tsi      : Tbl Nat
  tsiOld   : Tbl Nat
  l1       : Tbl L1Ctx
  l1Skips  : List Nat
  pm       : Tbl PmGrp
  mgA      : Bool
  mgB      : Bool
  deriving DecidableEq, Repr


/-- An entry of a learning table (R131); `born` the core clock it was made or moved at. -/
structure LearnEnt where
  key    : Nat
  sc     : Nat
  port   : Nat
  static : Bool
  active : Bool
  born   : Nat
  deriving DecidableEq, Repr

/-- The lookup tables (R122–R138): rules by slice and number, LPM entries, the operation LPM_OP is performing (0 none),
the word of LPM_DATA, learning entries by table and slot, learn FIFOs, a running flush (operation, value, its clock),
the shadow compare's place and the mismatches to re-read, the table words whose parity is bad, and the tick count of each learning
table's last age sweep. -/
structure Tables where
  rules   : Tbl (List Word)
  lpm     : Tbl (List Word)
  lpmOp   : Nat
  lpmWord : Nat
  learn   : Tbl (Option LearnEnt)
  fifo    : Tbl (List LearnEnt)
  flush   : Tbl (Nat × Nat × Nat)
  shPos   : Nat
  shAgain : List Nat
  parity  : List Nat
  ageAt   : Tbl Nat
  deriving DecidableEq, Repr

/-- The performance counters (R369–R372): selectors in force, chained pairs in force, running, and the hardware counts
(the 32-bit count of a chained pair under its even counter; 65,536 marks a saturated one). -/
structure Perf where
  act   : Tbl Nat
  chain : Nat
  on    : Bool
  hw    : Tbl Nat
  deriving DecidableEq, Repr

/-- A secure channel entry (R140): SCI, AN_MAP (bit 31 PRESENT, bits 16:0 handle), REPLAY_WINDOW, GRACE_TICKS,
SC_CONTROL, the handle last committed and not retired, its AN, and whether its SA ran out of packet numbers and no other has
been committed since (R151). -/
structure ScEnt where
  sci    : Nat
  an     : Tbl Nat
  window : Nat
  grace  : Nat
  ctrl   : Nat
  cur    : Option Nat
  curAn  : Nat
  exh    : Bool
  deriving DecidableEq, Repr

/-- An SA entry (R143): its words by field; the state as word 7 encodes it; the tick its grace ends; PN_THRESHOLD
raised; first block confirmed; the ceiling asked for (0 none) and the nodes that confirmed it; waiting for SA_MOVE. -/
structure SaEnt where
  pn       : Nat
  ssci     : Nat
  arm      : Nat
  resv     : Bool
  node     : Nat
  epoch    : Nat
  ceiling  : Nat
  l1       : Bool
  st       : Nat
  an       : Nat
  sc       : Nat
  graceEnd : Nat
  thr      : Bool
  conf     : Bool
  asked    : Nat
  acks     : List Nat
  waitMove : Bool
  deriving DecidableEq, Repr

/-- A Zircon slot (R145): words 0–10, status, and the next word in order of a fill under way (12 once the order was
broken, none where no fill is under way). -/
structure Slot where
  words     : List Word
  complete  : Bool
  unwrapped : Bool
  zeroised  : Bool
  fill      : Option Nat
  deriving DecidableEq, Repr

/-- Statistics of a handle (R365). -/
structure SaStat where
  frames : Nat
  octets : Nat
  fails  : Nat
  drops  : Nat
  deriving DecidableEq, Repr

/-- A predictor entry (R171): 0 EMPTY, 1 PENDING, 2 SETTLED; its handle, PN, the copies of NEXT_PN and REPLAY_WINDOW, and H to
H^8 of its SA. -/
structure Pred where
  st     : Nat
  handle : Nat
  pn     : Nat
  nextPn : Nat
  window : Nat
  hs     : List Nat
  deriving DecidableEq, Repr

/-- The placement a migrated SC has left (R161): its port and node, the tick the drain ends, and whether it has ended. -/
structure Moved where
  port  : Nat
  node  : Nat
  until_ : Nat
  overl  : Bool
  deriving DecidableEq, Repr

/-- The MACsec stores (R140–R163): SC, SA and Zircon entries, per-SA statistics, predictors by port, the handles
skipped at the last commit point, the handles it evaluated with the core clock it stood at, placements SCs have left, the acceptance of an armed node migration, the scrubber's
step, whether a ZEROISE has
cleared every slot (a slot's ZEROISED is kept as its difference from this bit), and the low half an SA_STAT_DATA read has
latched. -/
structure Assoc where
  sc     : Tbl ScEnt
  sa     : Tbl SaEnt
  slot   : Tbl Slot
  stat   : Tbl SaStat
  pred   : Tbl Pred
  skips  : List Nat
  evald  : List Nat
  evalAt : Nat
  moved  : Tbl Moved
  migOk  : Bool
  scrub  : Nat
  zapped : Bool
  latch  : Option (Nat × Nat)
  deriving DecidableEq, Repr

/-- An outbound frame in the device: its port, bytes without FCS, classification result, VLAN tags, stage (0 awaiting
admission, 1 queued, 2 eligible, 3 deterministic), queue, cells, the core clocks of arrival, of eligibility (R170) and of
admission, the offset and time base of a PTP event message, and the four time bases at its arrival. -/
structure Frm where
  q      : Nat
  bytes  : List Byte
  res    : Nat
  tags   : Nat
  stage  : Nat
  qi     : Nat
  cells  : Nat
  clk    : Nat
  elig   : Nat
  adm    : Nat
  ptp    : Option Nat
  ptpTb  : Option Nat
  ing    : List Nat
  deriving DecidableEq, Repr

/-- A frame waiting in a slice's slow path (R115), with the store errors its lookups will meet (R159). -/
structure SlowFrm where
  inb   : Bool
  q     : Nat
  bytes : List Byte
  fcsOk : Bool
  overl  : Bool
  clk   : Nat
  ing   : List Nat
  ecc   : List EccHit
  deriving DecidableEq, Repr

/-- An inbound frame between its decision and its tail (R172–R193): what the classifier and the predictor decided, and
what its checks found. `sc` none is a bypassed frame; `ent` is the SC entry of its decision (R175), `det` the mode its first
beat met (R179), `clk` the core clock of its first beat at the parser, `h` its hash subkey, `wait` its deferral (R182), `dom` the
four TB_CTRL words it met (R361). -/
structure InFrm where
  q      : Nat
  bytes  : List Byte
  fcsOk  : Bool
  overl   : Bool
  flow   : Nat
  sc     : Option Nat
  ent    : ScEnt
  handle : Option Nat
  acc    : Bool
  hit    : Bool
  held   : Bool
  det    : Bool
  sf     : Bool
  pnLo   : Nat
  pn     : Nat
  secAt  : Nat
  tagAt  : Nat
  tags   : Nat
  tci    : Nat
  key    : List Byte
  salt   : List Byte
  h      : Nat
  ssci   : Nat
  epoch  : Nat
  checked : Bool
  learn  : Nat
  clk    : Nat
  ing    : List Nat
  wait   : Nat
  dom    : List Nat
  deriving DecidableEq, Repr

/-- An outbound queue (R325): its settings, its status words, its deficit and token bucket (in 1/10,000 byte, none while
full) with the core clock it was brought up to date. -/
structure Que where
  port     : Nat
  quantum  : Nat
  maxCells : Nat
  rate     : Nat
  burst    : Nat
  depth    : Nat
  depthHw  : Nat
  sojourn  : Nat
  drops    : Nat
  deficit  : Int
  tok      : Option (Int × Nat)
  deriving DecidableEq, Repr

/-- A policer (R337): settings, colour counts, its two buckets. -/
structure Pol where
  cir    : Nat
  cbs    : Nat
  pir    : Nat
  pbs    : Nat
  ctl    : Nat
  green  : Nat
  yellow : Nat
  red    : Nat
  ctok   : Option (Int × Nat)
  ptok   : Option (Int × Nat)
  deriving DecidableEq, Repr

/-- A gate control list in force or armed (R330): entries (gate states, interval in ns), cycle in ns, time base, GATE_BASE,
STRICT, and its start in 2^-32 ns. -/
structure GateList where
  ents   : List (Nat × Nat)
  cycle  : Nat
  tb     : Nat
  base   : Nat
  strict : Bool
  start  : Nat
  deriving DecidableEq, Repr

/-- The gates of a port (R330–R335): standby words (the list a swap replaced becomes the standby one), the list armed,
the list in force, and W of each class (0 none). -/
structure GateSet where
  words  : Tbl Nat
  armed  : Option GateList
  active : Option GateList
  spans  : List Nat
  deriving DecidableEq, Repr

/-- An announced frame until it has left its slice (R195–R197): port, SA handle, the core clocks at which its first beat leaves
and by which its last one has left, whether it took the hold line, its line length, and its place in `out` counted from the
oldest output. -/
structure Fly where
  q      : Nat
  handle : Option Nat
  first  : Nat
  leaves : Nat
  held   : Bool
  len    : Nat
  at_    : Nat
  deriving DecidableEq, Repr

/-- The Ethernet data path (R18–R24, R109–R198, R321–R361): frames on their way, queues, policers, gates, shapers,
line occupancy, latency measurements and transmit timestamps; the SA handle and powers of H each outbound port keeps (R167);
per slice the clock its next announcement may take and the port whose turn it is (R329); the frames in a looped line lane's
path (R57); and the frame each inbound port's verify buffer sends, with the clock its last byte leaves (R192). -/
structure Dp where
  outq     : Tbl (List Frm)
  slow     : Tbl (List SlowFrm)
  inq      : Tbl (List InFrm)
  flows    : Tbl Nat
  ques     : Tbl (Option Que)
  turn     : Tbl Nat
  portTok  : Tbl (Option (Int × Nat))
  pols     : Tbl (Option Pol)
  gates    : Tbl GateSet
  flying   : List Fly
  lineFree : Tbl Nat
  fifo     : Tbl Nat
  latSeen  : List Nat
  latOut   : Tbl (List Nat)
  latIn    : Tbl (List Nat)
  asymRef  : Tbl Int
  txTs     : Tbl (List (List Word))
  txWord   : Tbl Nat
  squelch  : Bool
  hkeep    : Tbl (Option (Nat × List Nat))
  annNext  : Tbl Nat
  annTurn  : Tbl Nat
  looped   : Tbl (List (List Byte × Bool))
  vsend    : Tbl (Nat × Nat)
  deriving DecidableEq, Repr
/-- A snapshot held by a dump or a freeze (R364): its tick, DUMP_SELECT and the SA range at it, accumulators, PERF_WRAP,
PERF_SAT, the port counters by key, and the statistics of every handle. -/
structure Snap where
  tick  : Nat
  sel   : Nat
  first : Nat
  last  : Nat
  acc   : Tbl Nat
  wrap  : Nat
  sat   : Nat
  ports : Tbl Nat
  sas   : Tbl SaStat
  deriving DecidableEq, Repr

/-- Dumps and the freeze (R372–R378): the performance counters a write since the last cc 0 concerns, a dump requested, the
snapshot held, the words of the record copied so far with their CRC (none until cc 256), the dump bank, and the tick count
at which a freeze took effect. -/
structure Stats where
  dirty  : List Nat
  req    : Bool
  snap   : Option Snap
  dump   : Option (Nat × Nat)
  bank   : List Word
  frozen : Option Nat
  deriving DecidableEq, Repr

/-- A node of the link-state database (R384): its unit tag, sequence number, four link words laid out as LINK_STATUS, the tick
count it was last heard at, and whether two unit tags use its identifier. -/
structure LsEnt where
  tag   : Nat
  seq   : Nat
  links : List Word
  at_   : Nat
  dup   : Bool
  deriving DecidableEq, Repr

/-- A role entry's state (R391–R413): the role as ROLE_STATE codes it; the active node known; the tick count it was enabled
at; per heartbeat path (fabric, PEER_HB) the tick count + 1 of the last valid heartbeat, its run of misses and of good ticks;
peer lost; the peer's tick bits agree; flags of its last valid heartbeat; the old active node of a takeover in progress, and
whether the device demotes at its end; faults found in this self-test pass; request sequence sent and received, and with a
gap open the handles recorded since; the lease expiry asked for, who granted it, whether it is a claim, and who granted the
lease held; lease lapsed; claims waiting for cc 960; handles still to resync; an active member has been heard; the
core clock of the takeover in progress. -/
structure RoleSt where
  st      : Nat
  node    : Option Nat
  since   : Nat
  seenF   : Nat
  seenP   : Nat
  missF   : Nat
  missP   : Nat
  goodF   : Nat
  goodP   : Nat
  lost    : Bool
  tickOk  : Bool
  flags   : Nat
  taking  : Option Nat
  dropAfter : Bool
  fails   : Nat
  seqTx   : Nat
  seqRx   : Option Nat
  gap     : Option (List Nat)
  want    : Nat
  grants  : List Nat
  claiming : Bool
  holders : List Nat
  lapsed  : Bool
  claims  : List (Nat × Nat)
  resync  : List Nat
  heard   : Bool
  takeAt  : Nat
  deriving DecidableEq, Repr

/-- A migration this node has accepted as its target (R413). -/
structure Target where
  sc    : Nat
  port  : Nat
  tick  : Nat
  epoch : Nat
  src   : Nat
  deriving DecidableEq, Repr

/-- The fabric (R382–R413): role entries; message and LINK_STATE sequence; the tick count + 1 of the last HELLO of a port; the
link-state database, and whether another node uses this one's identifier; routes by class · 256 + node (1 + port + 4 · hops);
per source the sequence number + 1 last flooded; the ACT_LOCK driver and the core clock of its last refresh; the group's SAs
halted by a demotion; a migration accepted as target; the self-test's step; REPLAY_SYNC's place and the start of its
rotation, and on the receiving side the last handle and the start of its rotation; the messages in a looped port's path. -/
structure FabSt where
  roles   : Tbl RoleSt
  seq     : Nat
  lsSeq   : Nat
  hello   : Tbl Nat
  db      : Tbl (Option LsEnt)
  ownDup  : Bool
  routes  : Tbl Nat
  relayed : Tbl Nat
  lock    : Bool
  lockAt  : Nat
  halted  : Bool
  target  : Option Target
  selfStep : Nat
  syncPos : Nat
  syncStart : Nat
  syncRx  : Option (Nat × Nat)
  looped  : Tbl (List FabMsg)
  deriving DecidableEq, Repr

/-- A line of the protected memory as the stack and its counter word hold it (R306–R308): the ciphertext (level 0; empty while
never written), the tag and the parity, the write counter and the WRITTEN, POISON and RETIRED bits of the counter word. A counter
line's own content is the counter words of the lines below it. -/
structure HLine where
  cipher  : List Byte
  tag     : List Byte
  par     : List Byte
  ctr     : Nat
  written : Bool
  poison  : Bool
  retired : Bool
  deriving DecidableEq, Repr

/-- The HBM behind the memory controller (R306–R317): lines by (region · 8 + level) · 2^22 + line; the keys of the enabled
regions; dirty lines of the counter cache, least recently written first; the window's line buffer (region, line, words by
number). -/
structure Hbm where
  lines : Tbl HLine
  keys  : Tbl (List Byte)
  dirty : List Nat
  buf   : Option (Nat × Nat × Tbl (Option Word))
  deriving DecidableEq, Repr

/-- A Beryl job that has started (R205–R212): its descriptor, its queue, the status a check at its start gave it (0 none),
whether an HBM read of its source was marked suspect, the key taken at its start; and what a suspension saved: the source bytes
consumed, the output bytes in place, and whether the write of some was refused. -/
structure BRun where
  desc    : List Word
  urgent  : Bool
  fail    : Nat
  suspect : Bool
  key     : List Byte
  ctx     : List Byte
  put     : Nat
  refused : Bool
  deriving DecidableEq, Repr

/-- A completion held behind a full FIFO (R211), its two words and the destination range that stays locked meanwhile (R210): in HBM,
region, first byte, bytes. -/
structure BHeld where
  words : Nat × Nat
  lock  : Bool × Nat × Nat × Nat
  deriving DecidableEq, Repr

/-- The Beryl engine (R199–R213): queues, the running and the suspended job, the completion FIFO and completions held behind
it, the word BERYL_DONE returns next, the I/O buffer by word, key registers, and the place of BERYL_DESC. -/
structure Beryl where
  urgent : List (List Word)
  normal : List (List Word)
  run    : Option BRun
  susp   : Option BRun
  done   : List (Nat × Nat)
  held   : List BHeld
  word   : Nat
  io     : Tbl Word
  regs   : Tbl (List Byte)
  ptr    : Nat
  deriving DecidableEq, Repr

/-- A loaded curve (R222). -/
structure JCurve where
  len : Nat
  p   : Nat
  a   : Nat
  b   : Nat
  gx  : Nat
  gy  : Nat
  n   : Nat
  deriving DecidableEq, Repr

/-- A Jasper partition (R215–R232): the channel that owns it, its words, curve register, address, hash length and last command;
a job present; a release zeroing it; and the fields of JASPER_RESULT. -/
structure JPart where
  owner  : Option Nat
  mem    : Tbl Word
  curve  : Option JCurve
  addr   : Nat
  hlen   : Nat
  cmd    : Nat
  job    : Bool
  zeroing : Bool
  fin    : Bool
  wiped  : Bool
  op     : Nat
  detail : Nat
  status : Nat
  deriving DecidableEq, Repr

/-- What a job of the service controller in partition 0 serves (R215): a debug challenge with its body and scope (R294), a
response check (R295), the reply and the proof of an attachment on a channel (R302), the images of a start, an update (R438). -/
inductive SvcKind where
  | challenge (body : List Byte) (scope : Nat)
  | check
  | reply (c : Nat)
  | proof (c : Nat)
  | firmware
  | update
  deriving DecidableEq, Repr

/-- A request of the service controller and the jobs it has left. -/
structure SvcReq where
  kind : SvcKind
  left : Nat
  deriving DecidableEq, Repr

/-- The Jasper engine: partitions by number, the partitions whose jobs wait in the order of their JASPER_CMD writes, the
one that runs, and what the service controller has jobs for, oldest first (the first one's job is the one in partition 0). -/
structure Jasper where
  parts : Tbl JPart
  queue : List Nat
  run   : Option Nat
  svc   : List SvcReq
  deriving DecidableEq, Repr

/-- The key-derivation block and the flash it keeps (R233–R255): the root, DEVID and OWNER_ID scalars, STORE and the KEKs; the
attempts made and the root found in this start; a derivation due; epoch advances under way; a wipe asked
for; sectors of persistent records (2 · key + 1 for B), a blank sector being empty; PKEY operation under way (operation, key, register, zeroised);
keys named invalid in this start; the owner binding (curve, key, certificate); the place of OWNER_BIND_DATA and a store of its record under way; the flash link's key and its transfer counter (R319). `found` is the
root an attempt has accepted; `rederive` says that the epoch-bound keys are being derived anew; `helper` is the array response
the helper data recovers, `check` the check value beside it (R234); `block` the four words of the fall-back block with their
check bits; `bindRecs` the two sectors of the owner binding (SEQ and record; an invalid or blank one is none), `bindFirst` that
the store under way is of a first binding (R305). -/
structure KeySt where
  root    : Option (List Byte)
  devid   : Option Nat
  owner   : Option Nat
  store   : Option (List Byte)
  keks    : List (List Byte)
  tries   : Nat
  deriving_ : Bool
  advance : Nat
  wipeDue : Bool
  wiping  : Bool
  records : Tbl (List Word)
  op      : Option (Nat × Nat × Nat × Bool)
  named   : List Nat
  binding : Option (Nat × List Byte × List Byte)
  bindPtr : Nat
  bindJob : Option (List Word)
  link    : Option (List Byte)
  linkCnt : Nat
  found   : List Byte
  rederive : Bool
  helper  : Option Nat
  check   : Nat
  block   : List Nat
  bindRecs : Tbl (Option (Nat × List Word))
  bindFirst : Bool
  deriving DecidableEq, Repr

/-- The Onyx domain (R257–R277): the log (stored entries oldest first, the last SEQ given, the next word LOG_DATA returns);
the RTC's value in 1/32,768 s at a core clock; main power present; sources fired and not yet re-armed; the seed of each
loop, and the Onyx clock its sequence began at; writes of LOOP_CTRL on their way into the domain (loop, ARM, the Onyx clock they
take effect in; R50); Onyx clocks counted up to `rtcAt`. -/
structure Onyx where
  log    : List (List Word)
  seq    : Nat
  ptr    : Nat
  rtc    : Nat
  rtcAt  : Nat
  main   : Bool
  fired  : List Nat
  seeds  : Tbl Nat
  began  : Tbl Nat
  writes : List (Nat × Nat × Nat)
  ticks  : Nat
  deriving DecidableEq, Repr

/-- The device. `phase` is TICK_PHASE in core clocks (R30); `fired` marks, by the key of the counter or register whose
read re-arms it, an event already raised since that read; `draws` counts the values drawn from the TRNG. -/
structure State where
  regs    : Tbl Nat
  phase   : Int
  unit    : UnitId
  tick    : TickSt
  tbs     : Tbl Tb
  ns      : Fifo
  sec     : Fifo
  fired   : Tbl Nat
  claims  : Tbl (Nat × Nat)
  stage   : Tbl (List Word)
  chans   : Tbl Chan
  boot    : Boot
  life    : Life
  lines   : Lines
  tables  : Tables
  perf    : Perf
  assoc   : Assoc
  dp      : Dp
  stats   : Stats
  fab     : FabSt
  hbm     : Hbm
  beryl   : Beryl
  jasper  : Jasper
  keys    : KeySt
  onyx    : Onyx
  draws   : Nat
  reply   : Reply
  out     : List Output
  pending : List Instr
  deriving DecidableEq, Repr

/-- A channel with nothing on it. -/
def State.idleChan : Chan :=
  { queue := [], held := none, kept := [], last := none, error := false, sess := none,
    attach := { step := 0, inBuf := [], outBuf := [], ptr := 0, t1 := [], nh := [], nd := [], shared := [], bad := 0,
                readyAt := 0, locked := none, proof := [], status := 0, timeout := 30 },
    sub := none }

/-- A time base after reset: not VALID, at time 0, no frequency term (R341). -/
def State.idleTb : Tb :=
  { base := 0, at_ := 0, freq := 0, integ := 0, good := 0, bad := 0, clamped := false, stopped := false, setBy := none, offAt := 0, tmrAt := [] }

/-- The device as a device reset by RESET_N leaves it. DESIGN CHOICE (log entry 2). -/
def State.reset : State :=
  { regs := [], phase := 0, unit := { variant := 0, step := 1, serial := List.replicate 16 0 },
    tick := { clock := 0, start := 0, elapsed := 0, target := 0, aligning := false, realigning := false, slew := 0,
              slewFrom := 0, step := none, after := none, lastEdge := none, goodRun := 0,
              bg := ⟨0, 0, 0⟩, late := 0, ran := [], pps := 0 },
    tbs := [], ns := ⟨[], 0, false, 0⟩, sec := ⟨[], 0, false, 0⟩, fired := [], claims := [],
    stage := [], chans := [],
    boot := { inReset := false, engine := false, fw := false, onyxUp := false, steps := [], began := 0, badSerdes := [],
              imgA := ⟨true, true, true, 0, 1, true⟩, imgB := ⟨true, true, true, 0, 1, true⟩, update := none,
              drain := false, dpReset := false, exitNext := false, pinLow := false, rise := 0 },
    life := { state := 2, pairs := [(0xC35A1E01, 0x3CA5E1FE), (0xC35A1E02, 0x3CA5E1FD), (2 ^ 32 - 1, 2 ^ 32 - 1), (2 ^ 32 - 1, 2 ^ 32 - 1)],
              trans := none, stepNo := 0, enrolling := false, blockBits := false, devCert := true, scan := false, scope := 0,
              byAuth := false, chal := [], chalScope := 0, chalAt := 0, resp := [],
              checking := none, heldReset := none, trim := true },
    lines := { lost := [], peerTaps := [], cdrFails := [], pcs := [], otl := [], trib := [], tsi := [], tsiOld := [], l1 := [], l1Skips := [], pm := [],
               mgA := false, mgB := false },
    tables := { rules := [], lpm := [], lpmOp := 0, lpmWord := 0, learn := [], fifo := [], flush := [], shPos := 0,
                shAgain := [], parity := [], ageAt := [] },
    perf := { act := [], chain := 0, on := true, hw := [] },
    assoc := { sc := [], sa := [], slot := [], stat := [], pred := [], skips := [], evald := [], evalAt := 0, moved := [], migOk := false, scrub := 0,
               zapped := false, latch := none },
    dp := { outq := [], slow := [], inq := [], flows := [], ques := [], turn := [], portTok := [], pols := [], gates := [],
            flying := [], lineFree := [], fifo := [], latSeen := [], latOut := [], latIn := [], asymRef := [], txTs := [],
            txWord := [], squelch := false, hkeep := [], annNext := [], annTurn := [], looped := [], vsend := [] },
    stats := { dirty := [], req := false, snap := none, dump := none, bank := [], frozen := none },
    fab := { roles := [], seq := 0, lsSeq := 0, hello := [], db := [], ownDup := false, routes := [], relayed := [], lock := false,
             lockAt := 0, halted := false, target := none, selfStep := 0, syncPos := 0, syncStart := 0, syncRx := none, looped := [] },
    hbm := { lines := [], keys := [], dirty := [], buf := none },
    beryl := { urgent := [], normal := [], run := none, susp := none, done := [], held := [], word := 0, io := [], regs := [], ptr := 0 },
    jasper := { parts := [], queue := [], run := none, svc := [] },
    keys := { root := none, devid := none, owner := none, store := none, keks := [], tries := 0, deriving_ := false, advance := 0,
              wipeDue := false, wiping := false, records := [], op := none, named := [], binding := none, bindPtr := 0, bindJob := none,
              link := none, linkCnt := 0, found := [], rederive := false, helper := some 0, check := rootCheck (pufRoot 0),
              block := [], bindRecs := [], bindFirst := false },
    onyx := { log := [], seq := 0, ptr := 0, rtc := 0, rtcAt := 0, main := true, fired := [], seeds := [], began := [], writes := [], ticks := 0 },
    draws := 0, reply := ⟨.ok, []⟩, out := [], pending := [] }

end Sys2Proof.Machine
end

