-- ==== Sys2Proof/Machine/Ops.lean ====
section
/-! DEFINITION. The named operations over the register file, the output log, the random number generator and the
passing of core clocks. -/

namespace Sys2Proof.Machine

/-- The value of the object at a key: the register file's entry, its default where none is listed (R12). -/
def rd (s : State) (k : Nat) : Nat := tget (dfltOf k) s.regs k

/-- Store a value at a key. -/
def wr (s : State) (k v : Nat) : State := { s with regs := tset (dfltOf k) s.regs k v }

/-- Width in bits of the object at a key. -/
def widthOf (k : Nat) : Nat :=
  match objOf k with
  | some o => o.ty.width
  | Option.none => 64

/-- A counter counts by `n` and wraps at its width (R53, R435). -/
def inc (s : State) (k n : Nat) : State := wr s k ((rd s k + n) % 2 ^ widthOf k)

/-- Bit `i` of the object at a key. -/
def rdBit (s : State) (k i : Nat) : Bool := bit (rd s k) i

/-- Bits `hi:lo` of the object at a key. -/
def rdField (s : State) (k hi lo : Nat) : Nat := bits (rd s k) hi lo

/-- Set or clear one bit of an object. -/
def wrBit (s : State) (k i : Nat) (b : Bool) : State := wr s k (setBit (rd s k) i b)

/-- Write bits `hi:lo` of an object. -/
def wrField (s : State) (k hi lo v : Nat) : State := wr s k (setBits (rd s k) hi lo v)

/-- An object read as a signed 32-bit value. -/
def rdI32 (s : State) (k : Nat) : Int := toSigned 32 (rd s k)

/-- All ones, the value "none" of a 64-bit tick object. -/
def none64 : Nat := 2 ^ 64 - 1

/-- Send or drive something at the device's edge. -/
def emit (s : State) (o : Output) : State := { s with out := o :: s.out }

/-- Take `n` bytes from the TRNG (FREE VALUE, log entry 5); the draw is counted. -/
def draw (s : State) (n : Nat) : List Byte × State :=
  ((List.range n).map (fun i => (Config.trngByte s.draws i).toNat), { s with draws := s.draws + 1 })

/-- The answer of an operation. -/
def replied (s : State) (c : Code) (vals : List Word) : State := { s with reply := ⟨c, vals⟩ }

/-- What an effect of an access gives: the state, the abort code and the words of the answer. -/
structure Res where
  st   : State
  code : Code
  vals : List Word

/-- An operation performed, with no words. -/
def okR (s : State) : Res := ⟨s, .ok, []⟩

/-- An operation performed, with words. -/
def okV (s : State) (vals : List Word) : Res := ⟨s, .ok, vals⟩

/-- An operation aborted with a code and no effect. -/
def abortR (s : State) (c : Code) : Res := ⟨s, c, []⟩

/-- The current tick number. -/
def tickNo (s : State) : Nat := rd s K.tickNumber

/-- Let the core clock pass to `c`, if it lies ahead. -/
def passTo (s : State) (c : Nat) : State := { s with tick := { s.tick with clock := Nat.max s.tick.clock c } }

/-- Let the core clock pass to offset `off` of the current tick, if it lies ahead (R35). -/
def toCc (s : State) (off : Nat) : State :=
  { s with tick := { s.tick with clock := Nat.max s.tick.clock (s.tick.start + off) } }

/-- Act `i` of the sequencer comes once a tick: its second coming in a tick does nothing. DEDUCED (log entry 10). -/
def ranNow (s : State) (i : Nat) : Bool := tget 0 s.tick.ran i == s.tick.elapsed + 1
def oncePerTick (s : State) (i : Nat) (eff : State → State) : State :=
  if ranNow s i then s
  else eff { s with tick := { s.tick with ran := tset 0 s.tick.ran i (s.tick.elapsed + 1) } }

/-- Let `n` core clocks pass. -/
def passCc (s : State) (n : Nat) : State := { s with tick := { s.tick with clock := s.tick.clock + n } }

/-- The state a command leaves: everything may differ but the queue, the unit's antifuse values and the phase of the
grid, which only a boundary moves (R30). -/
def settled (s t : State) : State := { t with pending := s.pending, unit := s.unit, phase := s.phase }

/-- The state left by a command that may restart the device: a device reset leaves the phase of the grid at 0, and nothing
else but a boundary moves it (R30, R451). -/
def settledReset (s t : State) : State :=
  { t with pending := s.pending, unit := s.unit, phase := if t.phase = 0 then 0 else s.phase }

/-- The state left by a tick boundary, which may move the phase of the grid (R43). -/
def settledTick (s t : State) : State := { t with pending := s.pending, unit := s.unit }

/-- The answers of the three kinds of command. DEDUCED (log entry 10). -/
def done (s t : State) : Host.Outcome State Fault Refusal := .next (settled s t)
def doneReset (s t : State) : Host.Outcome State Fault Refusal := .next (settledReset s t)
def doneTick (s t : State) : Host.Outcome State Fault Refusal := .next (settledTick s t)

/-- The record of channel `c` (0 SPI, 1 MGA, 2 MGB, 3 fabric, 4 debug). -/
def chan (s : State) (c : Nat) : Chan := tget State.idleChan s.chans c

/-- Replace the record of channel `c`. -/
def setChan (s : State) (c : Nat) (x : Chan) : State := { s with chans := tset State.idleChan s.chans c x }

/-- Time base `n`. -/
def tb (s : State) (n : Nat) : Tb := tget State.idleTb s.tbs n

/-- Replace time base `n`. -/
def setTb (s : State) (n : Nat) (x : Tb) : State := { s with tbs := tset State.idleTb s.tbs n x }

/-- Time base values count units of 2^-32 ns (R339); one second of them. -/
def tbSecond : Nat := 1000000000 * 2 ^ 32

/-- What a time base gains over `dc` core clocks of 0.8 ns at its frequency term (R339): 1.28 ns per time-domain
clock, five time-domain clocks to eight core clocks, scaled by 1 + FREQ/(1,024 · 10^9). DEDUCED (log entry 25). -/
def tbGain (freq : Int) (dc : Nat) : Nat :=
  ((dc : Int) * 8 * 2 ^ 32 * (1024000000000 + freq) / (10 * 1024000000000)).toNat

/-- The value of time base `x` at core clock `c`; it holds still while its clock is stopped (R341).
DEDUCED (log entry 25). -/
def tbAt (x : Tb) (c : Nat) : Nat := if x.stopped then x.base else x.base + tbGain x.freq (c - x.at_)

/-- The value of time base `n` now. -/
def tbNow (s : State) (n : Nat) : Nat := tbAt (tb s n) s.tick.clock

/-- A value in 2^-32 ns as a TIME96: seconds (48 bits), nanoseconds, sub-nanoseconds (R12, R339). -/
def toTime96 (v : Nat) : Nat :=
  v / tbSecond % 2 ^ 48 * 2 ^ 48 + v % tbSecond / 2 ^ 32 * 2 ^ 16 + v % 2 ^ 32 / 2 ^ 16

/-- A TIME96 as a value in 2^-32 ns. -/
def ofTime96 (t : Nat) : Nat := t / 2 ^ 48 * tbSecond + t / 2 ^ 16 % 2 ^ 32 * 2 ^ 32 + t % 2 ^ 16 * 2 ^ 16

/-- NS32 of a value (R340). -/
def ns32 (v : Nat) : Nat := v / 2 ^ 32 % 2 ^ 32

/-- Re-anchor a time base at the current clock, so that its frequency may change. DEDUCED (log entry 25). -/
def reanchor (s : State) (n : Nat) : Tb := { tb s n with base := tbNow s n, at_ := s.tick.clock }

/-- The time base is VALID (R341). -/
def tbValid (s : State) (n : Nat) : Bool := rdBit s (K.tbStatus n) 0

/-- The tick is aligned to a valid TB0 (R33). -/
def tickValid (s : State) : Bool := rdBit s K.tickStatus 0

/-- One tick in units of a time base, and one core clock. -/
def tickUnits : Nat := 10000 * 2 ^ 32

/-- `n` core clocks in units of a time base, rounded down (0.8 ns each). -/
def ccUnits (n : Int) : Int := n * 8 * 2 ^ 32 / 10

/-- Counter `n` of a set of performance counters adds `w` (R369, R370): a chained pair counts in 32 bits under its even
member; an unchained counter stops at 0xFFFF, the mark 65,536 saying that it would have passed it. -/
def perfBump (p : Perf) (n w : Nat) : Perf :=
  let v := tget 0 p.hw n
  if bit p.chain (n / 2) then
    if n % 2 = 0 then { p with hw := tset 0 p.hw n ((v + w) % 2 ^ 32) } else p
  else { p with hw := tset 0 p.hw n (Nat.min 65536 (v + w)) }

/-- An event of selector `sel` occurs with weight `w` (R369, R373). -/
def perfAdd (s : State) (sel w : Nat) : State :=
  if s.perf.on then { s with perf := s.perf.act.foldl (fun p e => if e.2 = sel then perfBump p e.1 w else p) s.perf }
  else s

end Sys2Proof.Machine
end

