-- ==== Sys2Proof/Machine/Flags.lean ====
section
/-! DEFINITION. The flags of the block: event sources, pending bits, record FIFOs, event-message offers and IRQ_N
(R428–R434); counters whose first count since a read raises an event. -/

namespace Sys2Proof.Machine

/-- How many sources each block of 16 defines (R428). -/
def sourcesInBlock : List Nat := [5, 8, 8, 14, 4, 7, 3, 2, 2, 7, 4, 3, 7, 3, 7, 6, 11, 7]

/-- A source number the table of R428 reaches. -/
def srcDefined (n : Nat) : Bool := decide (n % 16 < nth sourcesInBlock (n / 16))

/-- A secure source (R429). -/
def srcSecure (n : Nat) : Bool := (decide (112 ≤ n) && decide (n ≤ 159)) || (decide (176 ≤ n) && decide (n ≤ 191))

/-- The bits of group `w` that satisfy `p`, as a 32-bit mask. -/
def groupMask (p : Nat → Bool) (w : Nat) : Nat :=
  forNat 32 (fun b m => if p (32 * w + b) then m + 2 ^ b else m) 0

/-- The bits of group `w` an access of a world reaches (R428, R429): defined sources, for a non-secure access
without the secure ones. -/
def evMask (w : Nat) (secure : Bool) : Nat := groupMask (fun n => srcDefined n && (secure || !srcSecure n)) w

/-- A record FIFO holds 256 records (R431). -/
def fifoDepth : Nat := 256

/-- The next SEQ: +1, wrapping from 0xFFFF_FFFF to 1 (R430, R433). -/
def nextSeq (n : Nat) : Nat := if n + 1 ≥ 2 ^ 32 then 1 else n + 1

/-- Words 1 to 5 of a record (R430). DEDUCED (log entry 26). -/
def recBody (lost : Bool) (src tick a b : Nat) : List Word :=
  [b2n lost * 2 ^ 31 + src, tick / 2 ^ 32 % 2 ^ 32, tick % 2 ^ 32, a % 2 ^ 32, b % 2 ^ 32]

/-- Store a record, or lose it in a full FIFO; true where it was lost (R431). -/
def Fifo.put (f : Fifo) (src tick a b : Nat) : Fifo × Bool :=
  if f.recs.length < fifoDepth then
    ({ f with recs := f.recs ++ [nextSeq f.seq :: recBody f.lost src tick a b], seq := nextSeq f.seq, lost := false }, false)
  else ({ f with lost := true }, true)

/-- A raise after itself: a source with its two details. DEDUCED (log entry 26). -/
abbrev Raise := Nat × Nat × Nat

/-- Replace the non-secure (0) or the secure (1) FIFO. -/
def setFifo (s : State) (sc : Nat) (f : Fifo) : State := if sc = 1 then { s with sec := f } else { s with ns := f }

/-- The lost counter of a FIFO. -/
def lostKey (sc : Nat) : Nat := if sc = 1 then K.evtLostS else K.evtLost

/-- EVENT_OVERFLOW follows the first loss since the lost counter was last read (R431). DEDUCED (log entry 48). -/
def lossRaise (s : State) (sc k : Nat) : State × List Raise :=
  if tget 0 s.fired k = 0 then ({ s with fired := tset 0 s.fired k 1 }, [(0, sc, rd s k)]) else (s, [])

/-- Store the record in one FIFO; a loss is counted (R431). `sc` 0 = non-secure, 1 = secure. DEDUCED (log entry 48). -/
def fifoStep (s : State) (sc : Nat) (src a b : Nat) : State × List Raise :=
  let x := (if sc = 1 then s.sec else s.ns).put src (tickNo s) a b
  let s := setFifo s sc x.1
  if x.2 then lossRaise (inc s (lostKey sc) 1) sc (lostKey sc) else (s, [])

/-- Offer a record to channel `c`'s subscription (R433). DEDUCED (log entry 48). -/
def offerStep (s : State) (c : Nat) (src a b : Nat) : State × List Raise :=
  match (chan s c).sub with
  | none => (s, [])
  | some sub =>
    if srcSecure src && !sub.sess then (s, []) else
    let sub := { sub with seq := nextSeq sub.seq }
    if sub.waiting.length < 64 then
      let sub := { sub with waiting := sub.waiting ++ [sub.seq :: recBody false src (tickNo s) a b],
                            since := if sub.waiting.isEmpty then s.tick.elapsed else sub.since }
      (setChan s c { chan s c with sub := some sub }, [])
    else
      let s := inc (setChan s c { chan s c with sub := some sub }) K.evtMsgDrops 1
      (s, if src = 4 then [] else [(4, c, rd s K.evtMsgDrops)])

/-- One raise (R430): the pending bit, the records, the offers; and the raises it causes. DEDUCED (log entries 26, 48). -/
def raiseOne (s : State) (r : Raise) : State × List Raise :=
  let (src, a, b) := r
  let w := src / 32
  let s := perfAdd (wrBit s (K.evtPending w) (src % 32) true) (384 + src) 1
  let (s, l1) := if rdBit s (K.evtRecordEn w) (src % 32) then
      let (s, l) := if srcSecure src then (s, []) else fifoStep s 0 src a b
      let (s, l') := fifoStep s 1 src a b
      (s, l ++ l')
    else (s, [])
  if rdBit s (K.evtMsgEn w) (src % 32) then
    let (s, a1) := offerStep s 1 src a b
    let (s, a2) := offerStep s 2 src a b
    let (s, a3) := offerStep s 3 src a b
    (s, l1 ++ a1 ++ a2 ++ a3)
  else (s, l1)

/-- Raises in their order, each with what it causes; the chain ends by itself (EVENT_OVERFLOW is raised once per
read, a dropped EVT_MSG_LOST causes nothing), so `fuel` never cuts it short. -/
def raiseAll : Nat → List Raise → State → State
  | 0, _, s => s
  | _, [], s => s
  | n + 1, r :: l, s =>
    let (s, more) := raiseOne s r
    raiseAll n (more ++ l) s

/-- Raise source `src` with its details (R430). DEDUCED (log entries 13, 24, 26). -/
def raise (s : State) (src a b : Nat) : State := raiseAll 24 [(src, a, b)] s

/-- Raise an event only the first time since the register at `k` was last read. -/
def raiseFirst (s : State) (k src a b : Nat) : State :=
  if tget 0 s.fired k = 0 then raise { s with fired := tset 0 s.fired k 1 } src a b else s

/-- Count at `k`, and raise an event on the first count since `k` was last read. -/
def incFirst (s : State) (k src a b : Nat) : State := raiseFirst (inc s k 1) k src a b

/-- A read of the register at `k` re-arms its event. DEDUCED (log entry 48). -/
def rearm (s : State) (k : Nat) : State := { s with fired := tset 0 s.fired k 0 }

/-- IRQ_N is driven low (R432): IRQ_EN is 1 and a source is both pending and enabled. In LOST it is high (R290).
DEDUCED (log entry 48). -/
def irqLow (s : State) : Bool :=
  s.life.state != 5 && rdBit s K.evtCtrl 0 &&
  (List.range 12).any (fun w => Nat.land (rd s (K.evtPending w)) (rd s (K.evtIrqEn w)) != 0)

/-- Source numbers (R428), by their names. -/
def Ev.kdaRejected : Nat := 1
def Ev.sessionClosed : Nat := 2
def Ev.kdaQueueFull : Nat := 3
def Ev.tickOverrun : Nat := 16
def Ev.syncStepBlocked : Nat := 17
def Ev.syncStepRange : Nat := 18
def Ev.syncPhaseLimit : Nat := 19
def Ev.syncInLost : Nat := 20
def Ev.tickMisaligned : Nat := 21
def Ev.tickRealigned : Nat := 22
def Ev.clockLost : Nat := 23
def Ev.laneLos : Nat := 32
def Ev.laneCdrLost : Nat := 33
def Ev.laneTrainFail : Nat := 34
def Ev.blockLockLost : Nat := 35
def Ev.fabClkLost : Nat := 36
def Ev.fabSyncLost : Nat := 37
def Ev.fabDeskewFail : Nat := 38
def Ev.prbsLockLost : Nat := 39
def Ev.pcsHiErr : Nat := 48
def Ev.otlDeskewFail : Nat := 49
def Ev.otnLof : Nat := 50
def Ev.otnLom : Nat := 51
def Ev.otnPlm : Nat := 52
def Ev.tribMsim : Nat := 53
def Ev.gmpLoss : Nat := 54
def Ev.tsiSwapped : Nat := 55
def Ev.l1SyncLost : Nat := 56
def Ev.l1NoKey : Nat := 57
def Ev.l1TagFail : Nat := 58
def Ev.l1SwitchSkipped : Nat := 59
def Ev.l1Exhausted : Nat := 60
def Ev.pmBinClosed : Nat := 61
def Ev.slowOverflow : Nat := 64
def Ev.tableParityErr : Nat := 65
def Ev.learnFull : Nat := 66
def Ev.shadowMismatch : Nat := 67
def Ev.pnThreshold : Nat := 80
def Ev.pnExhausted : Nat := 81
def Ev.resvStall : Nat := 82
def Ev.saCommitSkipped : Nat := 83
def Ev.saMigrated : Nat := 84
def Ev.migrateLate : Nat := 85
def Ev.saEcc : Nat := 86
def Ev.verifyFail : Nat := 96
def Ev.detLate : Nat := 97
def Ev.latChanged : Nat := 98
def Ev.berylComplete : Nat := 112
def Ev.berylAuthFail : Nat := 113
def Ev.jasperComplete : Nat := 128
def Ev.jasperFault : Nat := 129
def Ev.rootFail : Nat := 144
def Ev.pufMargin : Nat := 145
def Ev.epochAdvanced : Nat := 146
def Ev.pkeyDone : Nat := 147
def Ev.pkeyInvalid : Nat := 148
def Ev.persistWiped : Nat := 149
def Ev.zeroiseDone : Nat := 150
def Ev.tamperAlarm : Nat := 160
def Ev.tamperLoopFault : Nat := 161
def Ev.tamperLogFull : Nat := 162
def Ev.tamperLogPending : Nat := 163
def Ev.lcChanged : Nat := 176
def Ev.dbgOpened : Nat := 177
def Ev.dbgAuthFail : Nat := 178
def Ev.attachFail : Nat := 192
def Ev.ownerBound : Nat := 193
def Ev.memLateAlarm : Nat := 194
def Ev.memUncorr : Nat := 195
def Ev.memCtrEnd : Nat := 196
def Ev.memMasterRefused : Nat := 197
def Ev.flashLinkFail : Nat := 198
def Ev.queueDrop : Nat := 208
def Ev.gateSwapped : Nat := 209
def Ev.gateBasePast : Nat := 210
def Ev.tbStepped : Nat := 224
def Ev.servoClamped : Nat := 225
def Ev.servoHoldover : Nat := 226
def Ev.tbTimer : Nat := 227
def Ev.ptpTsLost : Nat := 228
def Ev.ppsStopped : Nat := 229
def Ev.protAsymChanged : Nat := 230
def Ev.statEcc : Nat := 240
def Ev.perfSaturated : Nat := 241
def Ev.perfWrap : Nat := 242
def Ev.dumpDone : Nat := 243
def Ev.dumpSkipped : Nat := 244
def Ev.freezeTimeout : Nat := 245
def Ev.fabDupNode : Nat := 256
def Ev.fabVersionFail : Nat := 257
def Ev.peerPathLost : Nat := 258
def Ev.peerLost : Nat := 259
def Ev.peerFound : Nat := 260
def Ev.takeoverDone : Nat := 261
def Ev.takeoverBlocked : Nat := 262
def Ev.roleDemoted : Nat := 263
def Ev.leaseLost : Nat := 264
def Ev.healthChanged : Nat := 265
def Ev.migrateSkipped : Nat := 266
def Ev.startupDone : Nat := 272
def Ev.fwImageFail : Nat := 273
def Ev.fwFallback : Nat := 274
def Ev.hbmInitFail : Nat := 275
def Ev.armRefused : Nat := 276
def Ev.holdEntered : Nat := 277
def Ev.holdExited : Nat := 278

end Sys2Proof.Machine
end

