-- ==== Sys2Proof/Machine/Operands.lean ====
section
/-! DEFINITION. The operand forms of a dictionary access: values by type (R12, R418), the world of a requester
(R299), the checks every access passes before it has an effect (R13–R16, R282, R427, R437, R441), plain writes, and
the staging groups of R125. -/

namespace Sys2Proof.Machine

/-- The words of a value of a type (R418). -/
def encVal (ty : Ty) (v : Nat) : List Word :=
  match ty with
  | .octets n => toWords ((n + 3) / 4) (v * 2 ^ (8 * ((n + 3) / 4 * 4 - n)))
  | _ => toWords ty.words (v % 2 ^ ty.width)

/-- The value of the words of a write, none where their number is not the type's (R418). High bits beyond the type
are ignored. -/
def decVal (ty : Ty) (ws : List Word) : Option Nat :=
  if ws.length ≠ ty.words then none else
  match ty with
  | .octets n => some (ofWords ws / 2 ^ (8 * ((n + 3) / 4 * 4 - n)))
  | _ => some (ofWords ws % 2 ^ ty.width)

/-- The world of a request (R299): SPI as its attachment, MG and fabric inside the session, debug as its scope. -/
def secure (s : State) (r : Req) : Bool :=
  match r.ch with
  | 0 => (chan s 0).sess.isSome
  | 1 | 2 | 3 => r.sess && (chan s r.ch).sess.isSome
  | _ => s.life.scope == 2

/-- An identity object (R4). -/
def isIdentity (key : Nat) : Bool := decide (key / 256 = 0x1000) && (objOf key).isSome

/-- An object of the life-cycle chapter, which a closed debug port reaches too (R17, R282). -/
def isLifeCycle (key : Nat) : Bool := decide (0xF000 ≤ key / 256) && decide (key / 256 < 0xF800) && (objOf key).isSome

/-- The channel answers the IV0800 profile (R427). DEDUCED (log entry 50). -/
def inProfile (s : State) (r : Req) : Bool := decide (r.ch < 4) && rdBit s (K.chanCtrl r.ch) 4

/-- The objects of the IV0800 profile (R427). DEDUCED (log entry 50). -/
def profileHas (key : Nat) : Bool :=
  let i := key / 256
  let m := key % 256
  (i == 0x1000 && m ≤ 6) || (i == 0x9000 && (m == 1 || m == 2)) ||
  (decide (0x9010 ≤ i) && decide (i ≤ 0x902F) && decide (1 ≤ m) && decide (m ≤ 16)) ||
  (i == 0x9300 && decide (1 ≤ m) && decide (m ≤ 3))

/-- Objects hardware serves (R437): identity, capabilities, events, start-up; Onyx from the end of step 2; and, where
no image passed, secure attach on SPI by the boot ROM (R439). DEDUCED (log entry 50). -/
def hwServed (s : State) (r : Req) (key : Nat) : Bool :=
  let i := key / 256
  i == 0x1000 || i == 0x1100 || (decide (0xE000 ≤ i) && decide (i < 0xF000)) || decide (0xF800 ≤ i) ||
  (s.boot.onyxUp && decide (0xB000 ≤ i) && decide (i < 0xC000)) ||
  (rdBit s K.startupStatus 9 && r.ch == 0 && i == 0xD010 && decide (key % 256 ≤ 4))

/-- The objects a failed flash link leaves (R441). -/
def flashFailHas (key : Nat) : Bool :=
  let i := key / 256
  i == 0x1000 || i == 0x1100 || (decide (0xE000 ≤ i) && decide (i < 0xF000)) || decide (0xF800 ≤ i)

/-- What the checks before an access say. -/
inductive Gate where
  | silent
  | abort (c : Code)
  | pass
  deriving DecidableEq, Repr

/-- The checks of an access to the object at `key`, in order: the engine runs; LOST and SCRAP (R282); a closed debug
port (R15, R282), which tell nothing of the object map; the IV0800 profile (R427) and no object (R15); a failed flash link (R441);
firmware not ready (R437); the world (R14); read-only (R13). DEDUCED (log entry 50). -/
def gate (s : State) (r : Req) (key : Nat) (isWrite : Bool) : Gate :=
  if !s.boot.engine then .silent
  else if s.life.state = 5 then (if r.ch = 0 then .abort .wrongState else .silent)
  else if s.life.state = 4 && !isIdentity key then .abort .wrongState
  else if r.ch = 4 && s.life.scope = 0 && !isIdentity key && !isLifeCycle key then .abort .wrongState
  else if inProfile s r && !profileHas key then .abort .noObject
  else match objOf key with
  | none => .abort .noObject
  | some o =>
    if rdBit s K.startupStatus 10 && !flashFailHas key then .abort .notReady
    else if !s.boot.fw && !hwServed s r key then .abort .notReady
    else if o.acc.secureOnly && !(secure s r && !inProfile s r) then .abort .worldViolation
    else if isWrite && o.acc.readOnly then .abort .readOnly
    else .pass

/-- A world violation is counted and named (R320); nothing else changes (R14). DEDUCED (log entry 50). -/
def countViolation (s : State) (r : Req) (key : Nat) : State :=
  wr (inc s K.worldViolations 1) K.worldLast (r.ch * 2 ^ 28 + key)

/-- An accepted request renews the time a session may stay unused (R304). -/
def touch (s : State) (r : Req) : State :=
  match (chan s r.ch).sess with
  | none => s
  | some x => if secure s r then setChan s r.ch { chan s r.ch with sess := some { x with seen := s.tick.clock } } else s

/-- An operation on the object at `key`: its checks, then its effect; none where no reply is given.
DEDUCED (log entry 50). -/
def opRes (s : State) (r : Req) (key : Nat) (isWrite : Bool) (eff : State → Res) : Option Res :=
  match gate s r key isWrite with
  | .silent => none
  | .abort .worldViolation => some (abortR (countViolation s r key) .worldViolation)
  | .abort c => some (abortR s c)
  | .pass => some (eff s)

/-- A command that is one access: the operation's effect, and its answer. -/
def access (s : State) (r : Req) (key : Nat) (isWrite : Bool) (eff : State → Res) : State :=
  match opRes s r key isWrite eff with
  | none => s
  | some x => replied (touch x.st r) x.code x.vals

/-- A plain write by the object's row (R13, R16): reserved bits ignored, a value outside the range aborts. -/
def writeRow (s : State) (o : Obj) (key v : Nat) : Res :=
  let v := Nat.land (v % 2 ^ o.ty.width) o.mask
  match o.wk with
  | .plain => if o.ok v then okR (wr s key v) else abortR s .unsupportedValue
  | .zeroOnly => okR (if v = 0 then wr s key 0 else s)
  | .w1c => okR (wr s key (Nat.land (rd s key) (2 ^ o.ty.width - 1 - v)))
  | _ => okR s

/-- A plain write at a key. -/
def writePlain (s : State) (key v : Nat) : Res :=
  match objOf key with
  | some o => writeRow s o key v
  | none => abortR s .noObject

/-- A plain read at a key: the value in its words; a write-only object reads 0 (R13). -/
def readPlain (s : State) (key : Nat) : Res :=
  match objOf key with
  | some o => okV s (encVal o.ty (if o.acc = .wo then 0 else rd s key))
  | none => abortR s .noObject

/-- Ticks after which an unused staging claim is released (R125). DEDUCED (log entry 10). -/
def claimTicks : Nat := 100000

/-- Another channel than `ch` holds staging group `g` (R125). -/
def heldByOther (s : State) (g ch : Nat) : Bool :=
  match tget none (s.claims.map (fun e => (e.1, some e.2))) g with
  | none => false
  | some (c, _) => c != ch

/-- Claim group `g` for channel `ch`, or renew its claim (R125). -/
def claim (s : State) (g ch : Nat) : State :=
  { s with claims := tset (9, 0) s.claims g (ch, s.tick.elapsed) }

/-- Release group `g` after an accepted commit or operation (R125). -/
def release (s : State) (g : Nat) : State := { s with claims := tdel s.claims g }

/-- Release group `g` and discard its staging copy (R125, R304). -/
def discard (s : State) (g : Nat) : State := { s with claims := tdel s.claims g, stage := tdel s.stage g }

/-- A write of staging group `g` by `r`: refused while another channel holds it, else claimed and performed. -/
def claimed (s : State) (g : Nat) (r : Req) (f : State → Res) : Res :=
  if heldByOther s g r.ch then abortR s .wrongState else f (claim s g r.ch)

/-- The staging copy of group `g`. -/
def stageOf (s : State) (g : Nat) : List Word := tget [] s.stage g

/-- Replace the staging copy of group `g`. -/
def setStage (s : State) (g : Nat) (ws : List Word) : State := { s with stage := tset [] s.stage g ws }

/-- Staging group numbers. -/
def Grp.rule (j : Nat) : Nat := j
def Grp.lpm : Nat := 8
def Grp.learn (i : Nat) : Nat := 9 + i
def Grp.sc : Nat := 13
def Grp.sa : Nat := 14
def Grp.key : Nat := 15
def Grp.flow (k : Nat) : Nat := 16 + k
def Grp.queue (k : Nat) : Nat := 20 + k
def Grp.gate (q : Nat) : Nat := 24 + q
def Grp.pol (i : Nat) : Nat := 56 + i
def Grp.beryl : Nat := 60
def Grp.pkey : Nat := 61
def Grp.hbm : Nat := 62
def Grp.saStat : Nat := 63
def Grp.ownerBind : Nat := 64

end Sys2Proof.Machine
end

