-- ==== Sys2Proof/Machine/Lanes.lean ====
section
/-! DEFINITION. Line and host lanes: layouts and ports (R54–R57), lane states (R58–R66), pattern generators, checkers
and error injection (R74–R78). -/

namespace Sys2Proof.Machine

/-- Lane states (R58). -/
def Lane.off : Nat := 0
def Lane.waitSignal : Nat := 1
def Lane.cdr : Nat := 2
def Lane.training : Nat := 3
def Lane.adapt : Nat := 4
def Lane.ready : Nat := 5
def Lane.trainFailed : Nat := 6
def Lane.test : Nat := 7

/-- GROUP_LAYOUT of pair `n`, and GROUP_MODE. -/
def layout (s : State) (n : Nat) : Nat := rd s (K.groupLayout n)
def mode (s : State) (n : Nat) : Nat := rd s (K.groupMode n)

/-- The device is in HOLD, or entering or leaving it (R448). -/
def inHold (s : State) : Bool := rd s K.holdStatus != 0

/-- The ports of a layout as (lowest lane of the group, lanes) (R54); value 10 forms none of its own, 11 is OTU4. -/
def portsOf : Nat → List (Nat × Nat)
  | 1 | 2 | 5 => [(0, 1), (1, 1), (2, 1), (3, 1)]
  | 3 | 6 => [(0, 2), (2, 2)]
  | 4 | 9 => [(0, 4)]
  | 7 => [(0, 2), (2, 1), (3, 1)]
  | 8 => [(0, 1), (1, 1), (2, 2)]
  | _ => []

/-- A layout on 106.25 Gb/s PAM4 lanes (R54). -/
def pam4 (l : Nat) : Bool := decide (5 ≤ l) && decide (l ≤ 10)

/-- The lanes of the port whose lowest lane is `q`, none where `q` is no port (R7, R54, R55). -/
def portLanes (s : State) (q : Nat) : Option (List Nat) :=
  let n := q / 4
  if layout s n = 10 then
    if q % 8 = 0 && layout s (n + 1) = 10 && mode s n = mode s (n + 1) then some ((List.range 8).map (q + ·)) else none
  else
    match (portsOf (layout s n)).find? (fun p => p.1 = q % 4) with
    | some p => some ((List.range p.2).map (q + ·))
    | none => none

/-- `q` is the lowest lane of an Ethernet port. -/
def isPort (s : State) (q : Nat) : Bool := (portLanes s q).isSome

/-- A read of a counter of port `q` re-arms its event; where `q` is no port it reads its default (R108).
DEDUCED (log entry 28). -/
def portRead (q k : Nat) (s : State) : Res := if isPort s q then readPlain (rearm s k) k else okV s [dfltOf k]

/-- The rate of the port at lowest lane `q` in Mb/s (R54), 0 where `q` is no port. -/
def portRate (s : State) (q : Nat) : Nat :=
  match portLanes s q with
  | none => 0
  | some l =>
    match layout s (q / 4) with
    | 1 => 10000
    | 2 => 25000
    | 3 => 50000
    | 4 => 100000
    | 10 => 800000
    | _ => 100000 * l.length

/-- The port a lane `i` (0–31) belongs to. -/
def portOfLane (s : State) (i : Nat) : Option Nat :=
  (List.range 32).find? (fun q => match portLanes s q with | some l => l.contains i | none => false)

/-- The layout's default FEC of a port and the settings it allows (R81): 1 none, 2 RS(528,514), 3 RS(544,514). -/
def fecAllowed : Nat → List Nat
  | 1 => [1]
  | 2 | 4 => [2, 1]
  | _ => [3]

/-- The FEC in force on one side of port `q` (R81). -/
def fecOf (s : State) (q : Nat) (sd : Side) : Nat :=
  let v := match sd with | .line => rdField s (K.pcsCtrl q) 1 0 | .host => rdField s (K.pcsCtrl q) 3 2
  if v = 0 then (fecAllowed (layout s (q / 4))).headD 1 else v

/-- Lane `m` (0–63) as a lane number of its side, 0–31. -/
def laneIdx (m : Nat) : Nat := m % 32

/-- Group pair `n` carries OTU4 (R8). -/
def isOtu4 (s : State) (n : Nat) : Bool := layout s n == 11 && mode s n != 0

/-- State of lane `m`, and its change: a lane of an OTU4 group that is not in state 5 sets the sticky LOS of its side (R108). -/
def laneState (s : State) (m : Nat) : Nat := rdField s (K.laneStatus m) 3 0
def setLaneState (s : State) (m v : Nat) : State :=
  let s := wrField s (K.laneStatus m) 3 0 v
  if v ≠ Lane.ready ∧ isOtu4 s (laneIdx m / 4) then wrBit s (K.otnEvents (laneIdx m / 4)) (if m < 32 then 0 else 8) true else s

/-- The lanes of group `n` on a side that belong to a port or to the OTU4. -/
def usedLanes (s : State) (n : Nat) (sd : Side) : List Nat :=
  let off := match sd with | .line => 0 | .host => 32
  ((List.range 4).map (4 * n + ·)).filterMap (fun i =>
    if layout s n = 11 || (portOfLane s i).isSome then some (off + i) else none)

/-- The lane-derived bit of CLK_LOCKED of domain `d`, 2–17 (R52). -/
def groupClk (s : State) (d : Nat) : Bool :=
  let n := (d - 2) % 8
  let sd := if d < 10 then Side.line else Side.host
  let l := usedLanes s n sd
  layout s n != 0 && mode s n != 0 && !l.isEmpty && l.all (fun m => rdBit s (K.laneStatus m) 5)

/-- A domain's bit clears: CLK_LOST sets and CLOCK_LOST is raised, only where the bit read 1 (R52). -/
def clkFall (s : State) (d : Nat) : State :=
  if rdBit s K.clkLocked d then
    raise (wrBit (wrBit s K.clkLocked d false) K.clkLost d true) Ev.clockLost d 0
  else s

/-- Bring the bit of a group's receive domain up to date after a lane changed. -/
def refreshClk (s : State) (d : Nat) : State :=
  if groupClk s d then wrBit s K.clkLocked d true else clkFall s d

/-- As `refreshClk`, for the domain of lane `m`. -/
def refreshLane (s : State) (m : Nat) : State := refreshClk s (2 + m / 4)

/-- A lane enters state 1: no clock recovery, no signal-to-noise figure. The bit BLOCK_LOCK of a lane that leaves state 5 or enters
TEST stands until BLOCK_LOCK_LOST: the algorithm of R65 says nothing of a lane that delivers no blocks.
DESIGN CHOICE (log entry 61). -/
def laneToWait (s : State) (m : Nat) : State :=
  wr (setLaneState (wrBit s (K.laneStatus m) 5 false) m Lane.waitSignal) (K.rxSnr m) 0

/-- A lane leaves OFF with its group: state 1 in traffic, 7 in test; it stays off where the layout gives it no use,
where its SerDes failed calibration (which counts in CDR_FAILS), and in HOLD (R57, R58, R436, R448). -/
def laneStart (s : State) (m : Nat) : State :=
  let n := laneIdx m / 4
  if layout s n = 0 || inHold s then s
  else if s.boot.badSerdes.contains n then
    { s with lines := { s.lines with cdrFails := tset 0 s.lines.cdrFails m (tget 0 s.lines.cdrFails m + 1) } }
  else if mode s n = 3 then setLaneState s m Lane.test
  else laneToWait s m

/-- A lane is switched off (R57). -/
def laneStop (s : State) (m : Nat) : State :=
  { wr (wr s (K.laneStatus m) 0) (K.rxSnr m) 0 with
    lines := { s.lines with lost := tset 0 s.lines.lost m 0 } }

/-- The eight lanes of group pair `n`. -/
def groupLanes (n : Nat) : List Nat := (List.range 4).map (4 * n + ·) ++ (List.range 4).map (32 + 4 * n + ·)

/-- Forget what the framing behind group pair `n` had found: block lock, OTU4 alignment, tributaries. -/
def framingStop (s : State) (n : Nat) : State :=
  { s with lines := { s.lines with
      pcs := tkeep (fun k => k / 8 != n) s.lines.pcs
      otl := tkeep (fun k => k / 2 != n) s.lines.otl
      trib := tkeep (fun k => k / 160 != n) s.lines.trib } }

/-- The PCS status words of the ports of a group pair return to reset. -/
def pcsStop (s : State) (n : Nat) : State :=
  forNat 4 (fun i s => wr s (K.pcsStatus (4 * n + i)) 0) s

/-- A count that runs on without a command of its own, brought up to date: how far it has gone is a FREE VALUE (log entry 8). -/
def runCount (s : State) (k : Nat) : State :=
  { inc s k (Config.free 25 s.draws).toNat with draws := s.draws + 1 }

/-- The checker's counts of lane `m` are brought up to date while it is locked (R76): errored bits are among the bits compared. -/
def chkRun (s : State) (m : Nat) : State :=
  if rdBit s (K.chkStatus m) 0 then
    let n := (Config.free 25 s.draws).toNat
    { inc (inc s (K.chkBits m) n) (K.chkErrors m) ((Config.free 26 s.draws).toNat % (n + 1)) with draws := s.draws + 1 }
  else s

/-- A pair that leaves test stops its checkers (R75), with their counts as they are then. DEDUCED (log entry 54). -/
def checkersStop (s : State) (n : Nat) : State := forList (groupLanes n) (fun m s => wr (chkRun s m) (K.chkStatus m) 0) s

/-- Set GROUP_MODE of pair `n` to `v` and move its lanes (R57, R58). CLK_LOCKED bits of a group switched off clear
without a lost clock. -/
def setMode (s : State) (n v : Nat) : State :=
  let old := mode s n
  let s := wr s (K.groupMode n) v
  let s := if v = 2 then s else { s with dp := { s.dp with looped := s.dp.looped.filter (fun e => e.1 / 4 != n) } }
  let s := if old = 3 ∧ v ≠ 3 then checkersStop s n else s
  if v = 0 then
    let s := forList (groupLanes n) (fun m s => laneStop s m) s
    wrBit (wrBit (pcsStop (framingStop s n) n) K.clkLocked (2 + n) false) K.clkLocked (10 + n) false
  else if old = 0 then forList (groupLanes n) (fun m s => laneStart s m) s
  else if v = 3 && old != 3 then
    let s := forList (groupLanes n) (fun m s => if laneState s m = 0 then s else wr (setLaneState s m Lane.test) (K.rxSnr m) 0) s
    pcsStop (framingStop s n) n
  else if v != 3 && old = 3 then
    forList (groupLanes n) (fun m s => if laneState s m = Lane.test then laneToWait s m else s) s
  else s

/-- GROUP_MODE_WRITE (R57): 4–255 reserved. DEDUCED (log entry 54). -/
def grpModeEff (n v : Nat) (s : State) : Res :=
  if 3 < v then abortR s .unsupportedValue else okR (setMode s n v)
def execGroupModeWrite (r : Req) (n v : Nat) (s : State) : Host.Outcome State Fault Refusal :=
  done s (access s r (K.groupMode n) true (grpModeEff n (v % 256)))

/-- GROUP_LAYOUT_WRITE (R56): 11 refused on an OR3216-IE (R3); else only in GROUP_MODE 0; 12–255 reserved. It resets the FEC
fields of the pair's ports (R81), and clears TRAIN where the signalling is NRZ or OTU4 (R80). A PATTERN code that the new
signalling does not allow (R74) stays in PG_CTRL and in effect, a case the spec leaves open. DESIGN CHOICE (log entry 61). -/
def layoutEff (n v : Nat) (s : State) : Res :=
  if v = 11 ∧ s.unit.variant = 1 then abortR s .unsupportedValue
  else if mode s n ≠ 0 then abortR s .wrongState
  else if 11 < v then abortR s .unsupportedValue
  else
    let s := wr s (K.groupLayout n) v
    let s := forNat 4 (fun i s => wrField s (K.pcsCtrl (4 * n + i)) 3 0 0) s
    okR (if v = 0 || pam4 v then s else forNat 4 (fun i s => wrBit s (K.laneCtrl (4 * n + i)) 2 false) s)


/-- Training may be enabled on lane `m` (R61, R80): a line lane whose layout is none or PAM4. -/
def trainAllowed (s : State) (m : Nat) : Bool :=
  decide (m < 32) && (layout s (m / 4) == 0 || pam4 (layout s (m / 4)))

/-- Training runs on lane `m`: enabled, a line lane, a PAM4 layout (R61). -/
def trains (s : State) (m : Nat) : Bool := decide (m < 32) && rdBit s (K.laneCtrl m) 2 && pam4 (layout s (m / 4))

/-- LANE_CTRL_WRITE (R60, R80). A change of the receive polarity makes a locked lane relock: it goes to state 2 with CDR_LOCK 0,
without LANE_CDR_LOST or a bit of LANE_EVENTS. R60 names no state and no event. DESIGN CHOICE (log entry 61). -/
def laneCtrlEff (m v : Nat) (s : State) : Res :=
  let v := Nat.land v 0x137
  if bits v 5 4 = 3 then abortR s .unsupportedValue
  else if bit v 2 && !trainAllowed s m then abortR s .unsupportedValue
  else
    let flip := bit v 1 != rdBit s (K.laneCtrl m) 1
    let s := wr s (K.laneCtrl m) v
    okR (if flip && (laneState s m = Lane.ready || laneState s m = Lane.adapt) then
        refreshLane (wr (setLaneState (wrBit s (K.laneStatus m) 5 false) m Lane.cdr) (K.rxSnr m) 0) m
      else s)
def execLaneCtrlWrite (r : Req) (m v : Nat) (s : State) : Host.Outcome State Fault Refusal :=
  done s (access s r (K.laneCtrl m) true (laneCtrlEff m v))

/-- TX_FIR write (R62): refused while training is enabled. -/
def txFirEff (m v : Nat) (s : State) : Res :=
  if rdBit s (K.laneCtrl m) 2 then abortR s .wrongState else writePlain s (K.txFir m) v

/-- TX_FIR as the transmitter uses and a read returns it (R62): the written taps without training, with it the coefficients the
peer has requested. -/
def txFirView (s : State) (m : Nat) : Nat :=
  if rdBit s (K.laneCtrl m) 2 then tget (dfltOf (K.txFir m)) s.lines.peerTaps m else rd s (K.txFir m)

/-- The coefficients the peer has requested on lane `m`. -/
def setPeerTaps (s : State) (m v : Nat) : State :=
  { s with lines := { s.lines with peerTaps := tset (dfltOf (K.txFir m)) s.lines.peerTaps m v } }

/-- While training runs, and where it has failed, the coefficients are those the peer requested last; no command names them:
FREE VALUE (log entry 8). -/
def peerAsks (s : State) (m : Nat) : State :=
  let s' := setPeerTaps s m ((Config.free 24 (s.draws * 64 + m)).toNat % 2 ^ 30)
  { s' with draws := s.draws + 1 }

/-- LANE_SIGNAL_DETECT (R58): WAIT_SIGNAL → CDR. A lane in TEST only notes the signal. Coefficients are dropped where
the signal was absent for more than 1 ms (R63). -/
def execLaneSignalDetect (m : Nat) (s : State) : Host.Outcome State Fault Refusal :=
  let st := laneState s m
  done s (if m < 64 ∧ (st = Lane.waitSignal ∨ st = Lane.test) then
    let gone := tget 0 s.lines.lost m
    let s1 := wrBit s (K.laneStatus m) 4 true
    let s1 := if gone ≠ 0 ∧ 1250000 < s.tick.clock + 1 - gone then wrBit s1 (K.laneStatus m) 6 false else s1
    let s1 := { s1 with lines := { s1.lines with lost := tset 0 s1.lines.lost m 0 } }
    if st = Lane.waitSignal then setLaneState s1 m Lane.cdr else s1
  else s)

/-- LANE_CDR_LOCK (R58, R61, R63): CDR → TRAINING, counted, where training is due; otherwise → ADAPT. -/
def execLaneCdrLock (m : Nat) (s : State) : Host.Outcome State Fault Refusal :=
  let st := laneState s m
  done s (if m < 64 ∧ (st = Lane.cdr ∨ st = Lane.test) then
    let s1 := wrBit s (K.laneStatus m) 5 true
    let s1 := if st = Lane.test then s1
      else if trains s1 m && !rdBit s1 (K.laneStatus m) 6 then peerAsks (inc (setLaneState s1 m Lane.training) (K.trainCount m) 1) m
      else setLaneState s1 m Lane.adapt
    refreshLane s1 m
  else s)

/-- LANE_CDR_TIMEOUT (R58): CDR → WAIT_SIGNAL, counted in CDR_FAILS. -/
def execLaneCdrTimeout (m : Nat) (s : State) : Host.Outcome State Fault Refusal :=
  done s (if m < 64 ∧ laneState s m = Lane.cdr then
    let s1 := laneToWait s m
    { s1 with lines := { s1.lines with cdrFails := tset 0 s1.lines.cdrFails m (tget 0 s1.lines.cdrFails m + 1) } }
  else s)

/-- LANE_TRAIN_COMPLETE (R61, R62): TRAINING → ADAPT; the taps are what the peer requested. -/
def execLaneTrainComplete (m taps : Nat) (s : State) : Host.Outcome State Fault Refusal :=
  done s (if m < 64 ∧ laneState s m = Lane.training then
    setPeerTaps (setLaneState (wrBit s (K.laneStatus m) 6 true) m Lane.adapt) m (taps % 2 ^ 30)
  else s)

/-- LANE_TRAIN_TIMEOUT (R58): TRAINING → TRAIN_FAILED, LANE_TRAIN_FAIL. -/
def execLaneTrainTimeout (m : Nat) (s : State) : Host.Outcome State Fault Refusal :=
  done s (if m < 64 ∧ laneState s m = Lane.training then
    raise (wrBit (setLaneState (peerAsks s m) m Lane.trainFailed) (K.laneEvents m) 2 true) Ev.laneTrainFail m 0
  else s)

/-- LANE_TRAIN_RETRY (R58): TRAIN_FAILED → WAIT_SIGNAL. -/
def execLaneTrainRetry (m : Nat) (s : State) : Host.Outcome State Fault Refusal :=
  done s (if m < 64 ∧ laneState s m = Lane.trainFailed then refreshLane (laneToWait s m) m else s)

/-- LANE_ADAPT_DONE (R58): ADAPT → READY. -/
def execLaneAdaptDone (m snr : Nat) (s : State) : Host.Outcome State Fault Refusal :=
  done s (if m < 64 ∧ laneState s m = Lane.adapt then wr (setLaneState s m Lane.ready) (K.rxSnr m) (snr % 65536) else s)

/-- LANE_ADAPT_TIMEOUT (R58): ADAPT → CDR. -/
def execLaneAdaptTimeout (m : Nat) (s : State) : Host.Outcome State Fault Refusal :=
  done s (if m < 64 ∧ laneState s m = Lane.adapt then
    refreshLane (setLaneState (wrBit s (K.laneStatus m) 5 false) m Lane.cdr) m
  else s)

/-- The receiver of lane `m` is fed by the lane's own transmitter, which drives (R57, R78): a line lane in GROUP_MODE 2, or near-end
loopback in GROUP_MODE 3. -/
def loopedBack (s : State) (m : Nat) : Bool :=
  !rdBit s (K.laneCtrl m) 8 &&
  ((mode s (laneIdx m / 4) == 2 && decide (m < 32)) || (mode s (laneIdx m / 4) == 3 && rdField s (K.laneCtrl m) 5 4 == 1))

/-- The core clock at which lane `m` lost its signal. -/
def noteLost (s : State) (m : Nat) : State :=
  { s with lines := { s.lines with lost := tset 0 s.lines.lost m (s.tick.clock + 1) } }

/-- LANE_LOS (R59): any state but 0 and 7 → WAIT_SIGNAL; a lane in TEST only notes it (R80). A receiver fed by its own transmitter
has its signal (R57, R78). -/
def execLaneLos (m : Nat) (s : State) : Host.Outcome State Fault Refusal :=
  let st := laneState s m
  done s (if m < 64 ∧ st = Lane.test ∧ !loopedBack s m then
    refreshLane (noteLost (wrBit (wrBit s (K.laneStatus m) 4 false) (K.laneStatus m) 5 false) m) m
  else if m < 64 ∧ st ≠ Lane.off ∧ st ≠ Lane.test ∧ !loopedBack s m then
    let s1 := laneToWait (wrBit s (K.laneStatus m) 4 false) m
    let s1 := noteLost s1 m
    let s1 := raise (wrBit s1 (K.laneEvents m) 0 true) Ev.laneLos m 0
    refreshLane s1 m
  else s)

/-- A lane loses clock recovery (R59, R80): in ADAPT or READY it goes back to CDR, in another state only the bit clears. -/
def cdrLost (s : State) (m : Nat) : State :=
  let st := laneState s m
  if st = Lane.adapt ∨ st = Lane.ready then
    let s1 := wr (setLaneState (wrBit s (K.laneStatus m) 5 false) m Lane.cdr) (K.rxSnr m) 0
    refreshLane (raise (wrBit s1 (K.laneEvents m) 1 true) Ev.laneCdrLost m 0) m
  else if rdBit s (K.laneStatus m) 5 then refreshLane (wrBit s (K.laneStatus m) 5 false) m
  else s

/-- LANE_CDR_LOST (R59). -/
def execLaneCdrLost (m : Nat) (s : State) : Host.Outcome State Fault Refusal :=
  done s (if m < 64 then cdrLost s m else s)

/-- A lane's block lock bit counts: its port runs without FEC (R65). -/
def laneBlock (s : State) (m : Nat) : Bool :=
  match portOfLane s (laneIdx m) with
  | some q => fecOf s q (if m < 32 then .line else .host) == 1
  | none => false

/-- Key of a port side in the tables of the framing. -/
def sideKey (q : Nat) (sd : Side) : Nat := q * 2 + (match sd with | .line => 0 | .host => 1)

/-- The block-lock record of a port side. -/
def pcsBlk (s : State) (q : Nat) (sd : Side) : PcsBlk := tget ⟨[]⟩ s.lines.pcs (sideKey q sd)
def setPcsBlk (s : State) (q : Nat) (sd : Side) (x : PcsBlk) : State :=
  { s with lines := { s.lines with pcs := tset ⟨[]⟩ s.lines.pcs (sideKey q sd) x } }

/-- The receive FIFO of a port side crosses anew at block lock, in 5 or 6 cc (R51): FREE VALUE (log entry 8). On a
deterministic port a changed offset raises LAT_CHANGED and PROT_ASYM_CHANGED, from where PROT_ASYM moves anew (R184, R360). -/
def fifoRedraw (s : State) (q : Nat) (sd : Side) : State :=
  let old := tget 0 s.dp.fifo (sideKey q sd)
  let new := 5 + (Config.free 5 (s.draws * 64 + sideKey q sd)).toNat % 2
  let s := { s with dp := { s.dp with fifo := tset 0 s.dp.fifo (sideKey q sd) new }, draws := s.draws + 1 }
  if old ≠ 0 ∧ old ≠ new ∧ rdBit s (K.cipherCtrl q) 0 then
    let s := { s with dp := { s.dp with asymRef := tset 0 s.dp.asymRef q (rdI32 s (K.protAsym q)) } }
    raise (raise s Ev.latChanged q 0) Ev.protAsymChanged q 0
  else s

/-- PCS lanes of port `q` behind the decoder, as the IEEE 802.3 clauses for its rate number them (R82).
PRESUMED (log entry 61). -/
def pcsLanes (s : State) (q : Nat) : Nat :=
  match portRate s q with
  | 25000 => 1
  | 50000 => 4
  | 100000 => 20
  | 200000 => 8
  | 400000 => 16
  | 800000 => 32
  | _ => 1

/-- Block lock is reached on every PCS lane behind the decoder (R65). -/
def fecLocked (s : State) (q : Nat) (sd : Side) : Bool :=
  (List.range (pcsLanes s q)).all (fun l => (pcsBlk s q sd).locked.contains l)

/-- Bit offset of a side's fields in PCS_STATUS. -/
def sdOff : Side → Nat
  | .line => 0
  | .host => 8

/-- A lane number 0–31 on a side, as 0–63. -/
def sideLane : Side → Nat → Nat
  | .line, i => i
  | .host, i => 32 + i

/-- The decoder of a side has codewords (R65, R82): its lanes are READY and the alignment markers locked. -/
def decoding (s : State) (q : Nat) (sd : Side) : Bool :=
  rdBit s (K.pcsStatus q) (1 + sdOff sd) &&
  ((portLanes s q).getD []).all (fun i => laneState s (sideLane sd i) == Lane.ready)

/-- BLOCK_LOCK_ACQUIRED (R65, R66): `slips` the slips of the hunt. Behind the decoder each PCS lane locks, and the receive FIFO is set
when the last one has. -/
def execBlockLockAcquired (p : LockPlace) (slips : Nat) (s : State) : Host.Outcome State Fault Refusal :=
  done s (match p with
  | .lane m =>
    if m < 64 ∧ laneState s m = Lane.ready ∧ laneBlock s m then
      let s := inc (wrBit s (K.laneStatus m) 7 true) (K.blockSlips m) slips
      match portOfLane s (laneIdx m) with
      | some q => if q = laneIdx m then fifoRedraw s q (if m < 32 then .line else .host) else s
      | none => s
    else s
  | .fec q sd l =>
    if isPort s q && fecOf s q sd != 1 && decide (l < pcsLanes s q) && decoding s q sd then
      let x := pcsBlk s q sd
      let s1 := inc (setPcsBlk s q sd ⟨l :: x.locked.filter (· != l)⟩) (K.pcsBlockSlips q) slips
      if fecLocked s1 q sd && !fecLocked s q sd then fifoRedraw s1 q sd else s1
    else s)

/-- BLOCK_LOCK_LOST (R66): one slip, the event names where. -/
def execBlockLockLost (p : LockPlace) (s : State) : Host.Outcome State Fault Refusal :=
  done s (match p with
  | .lane m =>
    if m < 64 ∧ rdBit s (K.laneStatus m) 7 then
      let s := inc (wrBit s (K.laneStatus m) 7 false) (K.blockSlips m) 1
      raise (wrBit s (K.laneEvents m) 3 true) Ev.blockLockLost m 0
    else s
  | .fec q sd l =>
    let x := pcsBlk s q sd
    if x.locked.contains l then
      let s := inc (setPcsBlk s q sd ⟨x.locked.filter (· != l)⟩) (K.pcsBlockSlips q) 1
      raise s Ev.blockLockLost (2 ^ 16 + l % 32 * 2 ^ 8 + (match sd with | .line => 0 | .host => 32) + q) 0
    else s)

/-- Patterns a lane's signalling allows (R74): fabric lanes are NRZ; a lane without a layout allows every pattern. -/
def patternOk (s : State) (m p : Nat) : Bool :=
  let nrz := decide (64 ≤ m) || (let l := layout s (laneIdx m / 4); l == 0 || !pam4 l)
  let pam := decide (m < 64) && (let l := layout s (laneIdx m / 4); l == 0 || pam4 l)
  match p with
  | 0 | 1 | 3 | 4 => nrz
  | 2 | 5 | 9 | 10 => true
  | 6 | 7 | 8 => pam
  | _ => false

/-- The pattern machinery of lane `m` is in effect (R75). -/
def patternActive (s : State) (m : Nat) : Bool :=
  if m < 64 then mode s (laneIdx m / 4) == 3 else rdBit s (K.fabCtrl ((m - 64) / 4)) 1

/-- What a lane's transmitter carries. -/
inductive LaneTx where
  /-- Nothing: common mode. -/
  | idle
  /-- The lane's data stream. -/
  | traffic
  /-- The pattern of a code of R74. -/
  | pattern (p : Nat)
  /-- The bits the lane recovers, sent back (far-end loopback). -/
  | returned
  /-- A test with the generator off. -/
  | quiet
  deriving DecidableEq, Repr

/-- What lane `m` transmits (R57, R74, R75, R78, R80): far-end loopback sends the recovered bits whatever the generator; the lanes are
idle in LOST (R290). -/
def laneTx (s : State) (m : Nat) : LaneTx :=
  let gen := if rdBit s (K.pgCtrl m) 4 then LaneTx.pattern (rdField s (K.pgCtrl m) 3 0) else .quiet
  if s.life.state = 5 then .idle
  else if m < 64 then
    let n := laneIdx m / 4
    if mode s n = 0 ∨ layout s n = 0 ∨ rdBit s (K.laneCtrl m) 8 then .idle
    else if mode s n ≠ 3 then .traffic
    else if rdField s (K.laneCtrl m) 5 4 = 2 then .returned
    else gen
  else if rdBit s (K.fabCtrl ((m - 64) / 4)) 1 then gen
  else if rdBit s (K.fabCtrl ((m - 64) / 4)) 0 then .traffic else .idle

/-- The lane transmits something an error can be injected into (R77). -/
def transmits (s : State) (m : Nat) : Bool := laneTx s m != .idle

/-- The receiver of lane `m` hears its own transmitter: near-end loopback of a line or host lane, or of a fabric port (R78). -/
def nearEnd (s : State) (m : Nat) : Bool := if m < 64 then loopedBack s m else rdBit s (K.fabCtrl ((m - 64) / 4)) 2

/-- One injected error (R77). -/
def injectOne (s : State) (m : Nat) : State := if transmits s m then emit s (.inject m) else s

/-- PG_CTRL_WRITE (R74–R77): INJ_RATE 0 or 10–40; a rise of CHK_EN clears the checker's counters; INJ_ONCE injects one
error and reads 0. -/
def pgCtrlEff (m v : Nat) (s : State) : Res :=
  let k := bits v 15 8
  if !patternOk s m (v % 16) || !(k = 0 || (10 ≤ k && k ≤ 40)) then abortR s .unsupportedValue
  else
    let rise := bit v 5 && !rdBit s (K.pgCtrl m) 5
    let s := if bit v 5 then s else chkRun s m
    let s := wr s (K.pgCtrl m) (Nat.land v 0xFF3F)
    let s := if rise then wr (wr (wr (wr s (K.chkBits m) 0) (K.chkErrors m) 0) (K.chkLosses m) 0) (K.chkStatus m) 0 else s
    let s := if bit v 5 then s else wr s (K.chkStatus m) 0
    okR (if bit v 16 then injectOne s m else s)
def execPgCtrlWrite (r : Req) (m v : Nat) (s : State) : Host.Outcome State Fault Refusal :=
  done s (access s r (K.pgCtrl m) true (pgCtrlEff m v))

/-- INJ_ONCE (R77): a write of 1 to the bit, the other fields as they stand. It injects whatever the PATTERN that stands: only a
write of PATTERN selects one, and is refused where the signalling does not allow it (R74). DESIGN CHOICE (log entry 61). -/
def execInjOnce (r : Req) (m : Nat) (s : State) : Host.Outcome State Fault Refusal :=
  done s (access s r (K.pgCtrl m) true (fun s => okR (injectOne s m)))

/-- INJ_RATE_ERROR (R77): the next error of a running injection rate. -/
def execInjRateError (m : Nat) (s : State) : Host.Outcome State Fault Refusal :=
  done s (if m < 80 ∧ rdField s (K.pgCtrl m) 15 8 ≠ 0 then injectOne s m else s)

/-- PRBS_CHECKER_LOCK (R76): in near-end loopback the bits are those of the lane's own generator (R78). -/
def execPrbsCheckerLock (m : Nat) (s : State) : Host.Outcome State Fault Refusal :=
  done s (if m < 80 ∧ patternActive s m ∧ rdBit s (K.pgCtrl m) 5 ∧ (nearEnd s m → rdBit s (K.pgCtrl m) 4) then
    wr s (K.chkStatus m) 1 else s)

/-- PRBS_LOCK_LOST (R76): `bits` and `errs` counted while locked. -/
def execPrbsLockLost (m bits errs : Nat) (s : State) : Host.Outcome State Fault Refusal :=
  done s (if m < 80 ∧ rdBit s (K.chkStatus m) 0 then
    let s1 := inc (inc (inc (wr s (K.chkStatus m) 0) (K.chkBits m) bits) (K.chkErrors m) errs) (K.chkLosses m) 1
    raise s1 Ev.prbsLockLost m 0
  else s)

end Sys2Proof.Machine
end

