-- ==== Sys2Proof/Machine/Framing.lean ====
section
/-! DEFINITION. Ethernet PCS and fault signalling (R81–R85), OTN alignment and the ODU4 multiplex (R86–R94), the
time-slot interchange (R95–R97) and the performance bins (R106, R107). -/

namespace Sys2Proof.Machine

/-- Block lock of a port side: on every lane without FEC, behind the decoder with it (R65, R84). -/
def blockLocked (s : State) (q : Nat) (sd : Side) : Bool :=
  if fecOf s q sd = 1 then
    match portLanes s q with
    | some l => l.all (fun i => rdBit s (K.laneStatus (match sd with | .line => i | .host => 32 + i)) 7)
    | none => false
  else fecLocked s q sd

/-- A port side's receive side is up (R84): its lanes READY in traffic, block lock, marker lock on FEC ports, no
HI_ERR. -/
def rxUp (s : State) (q : Nat) (sd : Side) : Bool :=
  match portLanes s q with
  | none => false
  | some l =>
    (mode s (q / 4) == 1 || mode s (q / 4) == 2) &&
    l.all (fun i => laneState s (match sd with | .line => i | .host => 32 + i) == Lane.ready) &&
    blockLocked s q sd &&
    (fecOf s q sd == 1 || rdBit s (K.pcsStatus q) (1 + sdOff sd)) &&
    !rdBit s (K.pcsStatus q) (2 + sdOff sd)

/-- PCS_STATUS as read: the stored bits with LINE_UP and HOST_UP. -/
def pcsStatusView (s : State) (q : Nat) : Nat :=
  setBit (setBit (rd s (K.pcsStatus q)) 0 (rxUp s q .line)) 8 (rxUp s q .host)

/-- The data path is armed (R446). -/
def armed (s : State) : Bool := rdBit s K.armStatus 0

/-- What a port side transmits. -/
inductive TxState where
  | idle
  | data
  | localFault
  | remoteFault
  deriving DecidableEq, Repr

/-- The fault ordered set received on a side, if any (R84). -/
def faultRx (s : State) (q : Nat) (sd : Side) : Option TxState :=
  if rdBit s (K.pcsStatus q) (3 + sdOff sd) then some .localFault
  else if rdBit s (K.pcsStatus q) (4 + sdOff sd) then some .remoteFault
  else none

/-- What a side of port `q` transmits (R84, R85, R446): a line port sends local fault while the data path is disarmed
or squelched; otherwise its own receive condition first, then the other side's. -/
def txState (s : State) (q : Nat) (sd : Side) : TxState :=
  let other := match sd with | .line => Side.host | .host => .line
  if sd = .line && !armed s then .localFault
  else if !rxUp s q sd then .remoteFault
  else
    let prop := rdBit s (K.pcsCtrl q) 4
    if !rxUp s q other then (if prop then .localFault else .idle)
    else match faultRx s q other with
      | some f => if prop then f else .idle
      | none => if armed s then .data else .idle

/-- PCS_CTRL write (R81): only in GROUP_MODE 0; a FEC the port's layout does not allow is refused.
DEDUCED (log entry 28). -/
def pcsCtrlEff (q v : Nat) (s : State) : Res :=
  let v := Nat.land v 0x1F
  if mode s (q / 4) ≠ 0 then abortR s .wrongState
  else if isPort s q && !((v % 4 == 0 || (fecAllowed (layout s (q / 4))).contains (v % 4)) &&
      (bits v 3 2 == 0 || (fecAllowed (layout s (q / 4))).contains (bits v 3 2))) then abortR s .unsupportedValue
  else okR (wr s (K.pcsCtrl q) v)

/-- What the decoder of one side of port `q` has counted goes into the port's counters (R82, R108).
DESIGN CHOICE (log entry 52). -/
def fecCount (s : State) (q : Nat) (sd : Side) (o : FecObs) : State :=
  match sd with
  | .line => inc (inc (inc s (K.lineFecCorr q) o.corr) (K.lineFecUncorr q) o.bad) (K.lineFecSymbols q) o.syms
  | .host => inc (inc s (K.hostFecCorr q) o.corr) (K.hostFecUncorr q) o.bad

/-- PCS_HI_ERR (R83): 8 uncorrectable codewords, on a port with FEC; `o` what the decoder counted beside them. -/
def execPcsHiErr (q : Nat) (sd : Side) (o : FecObs) (s : State) : Host.Outcome State Fault Refusal :=
  done s (if isPort s q && fecOf s q sd != 1 then
    let s1 := wrBit s (K.pcsStatus q) (2 + sdOff sd) true
    let s1 := wrBit s1 (K.pcsEvents q) (match sd with | .line => 1 | .host => 3) true
    raise (fecCount s1 q sd { o with bad := 8 + o.bad }) Ev.pcsHiErr q 0
  else s)

/-- PCS_HI_ERR_CLEAR (R83). -/
def execPcsHiErrClear (q : Nat) (sd : Side) (o : FecObs) (s : State) : Host.Outcome State Fault Refusal :=
  done s (let s1 := wrBit s (K.pcsStatus q) (2 + sdOff sd) false
    if isPort s q && fecOf s q sd != 1 then fecCount s1 q sd o else s1)

/-- AM_LOCK_LOST (R82, R84): `o` what the decoder had counted. -/
def execAmLockLost (q : Nat) (sd : Side) (o : FecObs) (s : State) : Host.Outcome State Fault Refusal :=
  done s (if rdBit s (K.pcsStatus q) (1 + sdOff sd) then
    fecCount (wrBit (wrBit s (K.pcsStatus q) (1 + sdOff sd) false) (K.pcsEvents q) (match sd with | .line => 0 | .host => 2) true)
      q sd o
  else s)

/-- AM_LOCK_ACQUIRED (R82): on a port with FEC. -/
def execAmLockAcquired (q : Nat) (sd : Side) (s : State) : Host.Outcome State Fault Refusal :=
  done s (if isPort s q && fecOf s q sd != 1 then wrBit s (K.pcsStatus q) (1 + sdOff sd) true else s)

/-- FAULT_RECEIVED (R84): `none` ends a fault. -/
def execFaultReceived (q : Nat) (sd : Side) (f : FaultSig) (s : State) : Host.Outcome State Fault Refusal :=
  done s (if isPort s q then
    wrBit (wrBit s (K.pcsStatus q) (3 + sdOff sd) (f == .localFault)) (K.pcsStatus q) (4 + sdOff sd) (f == .remoteFault)
  else s)

/-- Record of one side of an OTU4 group. -/
def otl0 : Otl := ⟨[], false, false, false, false, false, false, false, false, []⟩
def otl (s : State) (n : Nat) (sd : Side) : Otl := tget otl0 s.lines.otl (sideKey n sd)
def setOtl (s : State) (n : Nat) (sd : Side) (x : Otl) : State :=
  { s with lines := { s.lines with otl := tset otl0 s.lines.otl (sideKey n sd) x } }

/-- Record of one received tributary. -/
def trib0 : Trib := ⟨0, 0, false, false, 0, 0, false, false, false, false, false⟩
def trib (s : State) (n : Nat) (sd : Side) (tpn : Nat) : Trib := tget trib0 s.lines.trib (sideKey n sd * 80 + tpn)
def setTrib (s : State) (n : Nat) (sd : Side) (tpn : Nat) (x : Trib) : State :=
  { s with lines := { s.lines with trib := tset trib0 s.lines.trib (sideKey n sd * 80 + tpn) x } }

/-- A lane of the group's side is not READY (OTN_STATUS.LOS). -/
def otnLos (s : State) (n : Nat) (sd : Side) : Bool :=
  isOtu4 s n && !(usedLanes s n sd).all (fun m => laneState s m == Lane.ready)

/-- The eight computed and stored bits of one side of OTN_STATUS (R108). -/
def otnSide (s : State) (n : Nat) (sd : Side) : Nat :=
  let x := otl s n sd
  if !isOtu4 s n then 0 else
  b2n (otnLos s n sd) + 2 * b2n x.aligned + 4 * b2n (!x.aligned) + 8 * b2n x.lof + 16 * b2n x.lom + 32 * b2n x.plm +
    64 * b2n x.bdi + 128 * b2n x.ais

/-- OTN_STATUS as read. -/
def otnStatusView (s : State) (n : Nat) : Nat := otnSide s n .line + 256 * otnSide s n .host

/-- Set a sticky bit of OTN_EVENTS (R108). -/
def otnSticky (s : State) (n : Nat) (sd : Side) (b : Nat) : State := wrBit s (K.otnEvents n) (b + sdOff sd) true

/-- The transmitter of the group's side sets BDI (R94): its own receiver reports LOS, LOF or LOM. -/
def sendsBdi (s : State) (n : Nat) (sd : Side) : Bool :=
  otnLos s n sd || (otl s n sd).lof || (otl s n sd).lom

/-- The ODU4 sent on each side of an OTU4 group is ODU4-AIS (R105, R446): the data path is disarmed. -/
def sendsAis (s : State) (n : Nat) : Bool := isOtu4 s n && !armed s

/-- A tributary taken from a side is replaced by ODUk-AIS (R90, R92–R94); under ODU4-AIS none passes (R105). -/
def tribAis (s : State) (n : Nat) (sd : Side) (tpn : Nat) : Bool :=
  sendsAis s n || sendsBdi s n sd || (otl s n sd).plm || (trib s n sd tpn).msim || (trib s n sd tpn).loss ||
  (trib s n sd tpn).lof || (trib s n sd tpn).lom

/-- OTL_LANE_LOCKED (R87): the logical lane in position `lane`, not LOCKED until now, confirms its candidate in three periods;
`rejects` candidates failed before it. -/
def execOtlLaneLocked (n : Nat) (sd : Side) (lane llm rejects : Nat) (s : State) : Host.Outcome State Fault Refusal :=
  done s (let x := otl s n sd
    if isOtu4 s n ∧ lane < 20 ∧ !x.lanes.any (fun e => e.1 == lane) then
      inc (setOtl s n sd { x with lanes := (lane, llm) :: x.lanes }) (K.alignRejects n) rejects
    else s)

/-- Alignment is lost: OOF (R89). -/
def misalign (s : State) (n : Nat) (sd : Side) (x : Otl) : State :=
  if x.aligned then otnSticky (setOtl s n sd { x with aligned := false, mfOk := false }) n sd 2 else setOtl s n sd x

/-- OTL_LANE_UNLOCKED (R87). -/
def execOtlLaneUnlocked (n : Nat) (sd : Side) (lane : Nat) (s : State) : Host.Outcome State Fault Refusal :=
  done s (if isOtu4 s n then
    let x := otl s n sd
    misalign s n sd { x with lanes := x.lanes.filter (fun e => e.1 != lane) }
  else s)

/-- Positions whose logical lane number another position also names (R88). -/
def otlClash (l : List (Nat × Nat)) : List Nat :=
  (l.filter (fun e => l.any (fun f => f.1 != e.1 && f.2 % 20 == e.2 % 20))).map (·.1)

/-- OTL_DESKEW (R88): with all 20 lanes LOCKED; two of one number, or a skew above 256 ns, fail it; `late` is the
latest lane. -/
def execOtlDeskew (n : Nat) (sd : Side) (skew late : Nat) (s : State) : Host.Outcome State Fault Refusal :=
  done s (let x := otl s n sd
    if isOtu4 s n ∧ x.lanes.length = 20 then
      let bad := if (otlClash x.lanes).isEmpty then (if 256 < skew then [late] else []) else otlClash x.lanes
      if bad.isEmpty then
        let s1 := otnSticky (setOtl s n sd { x with aligned := true }) n sd 1
        match sd with
        | .line => wr s1 (K.otlSkew n) (skew % 65536)
        | .host => s1
      else
        raise (misalign s n sd { x with lanes := x.lanes.filter (fun e => !bad.contains e.1) }) Ev.otlDeskewFail n 0
    else s)

/-- OTN_LOF (R89, R90): 3 ms of OOF. No row tells when a tributary's ODUk goes out of frame, so this command tells it.
DESIGN CHOICE (log entry 62). -/
def execOtnLof (p : OtnPoint) (s : State) : Host.Outcome State Fault Refusal :=
  done s (match p with
  | .otu n sd => if isOtu4 s n && !(otl s n sd).aligned then
      raise (otnSticky (setOtl s n sd { otl s n sd with lof := true }) n sd 3) Ev.otnLof n 0 else s
  | .trib n sd t => if isOtu4 s n ∧ t < 80 then
      raise (setTrib s n sd t { trib s n sd t with inFrame := false, mfOk := false, lof := true }) Ev.otnLof n 0 else s)

/-- OTN_LOF_CLEAR (R89): 3 ms in frame. -/
def execOtnLofClear (p : OtnPoint) (s : State) : Host.Outcome State Fault Refusal :=
  done s (match p with
  | .otu n sd => if (otl s n sd).aligned then setOtl s n sd { otl s n sd with lof := false } else s
  | .trib n sd t => if isOtu4 s n ∧ t < 80 then setTrib s n sd t { trib s n sd t with inFrame := true, lof := false } else s)

/-- MULTIFRAME_ALIGNED (R89, R90): on frames, so a tributary whose multiframe aligns is in frame. -/
def execMultiframeAligned (p : OtnPoint) (s : State) : Host.Outcome State Fault Refusal :=
  done s (match p with
  | .otu n sd => if isOtu4 s n && (otl s n sd).aligned then setOtl s n sd { otl s n sd with mfOk := true, oom := false } else s
  | .trib n sd t => if isOtu4 s n ∧ t < 80 then
      setTrib s n sd t { trib s n sd t with inFrame := true, mfOk := true, oom := false } else s)

/-- OUT_OF_MULTIFRAME (R89, R90): 5 consecutive MFAS mismatches. -/
def execOutOfMultiframe (p : OtnPoint) (s : State) : Host.Outcome State Fault Refusal :=
  done s (match p with
  | .otu n sd => if isOtu4 s n then setOtl s n sd { otl s n sd with mfOk := false, oom := true } else s
  | .trib n sd t => if isOtu4 s n ∧ t < 80 then setTrib s n sd t { trib s n sd t with mfOk := false, oom := true } else s)

/-- OTN_LOM (R89, R90): 3 ms of OOM. -/
def execOtnLom (p : OtnPoint) (s : State) : Host.Outcome State Fault Refusal :=
  done s (match p with
  | .otu n sd => if isOtu4 s n && (otl s n sd).oom then
      raise (otnSticky (setOtl s n sd { otl s n sd with lom := true }) n sd 4) Ev.otnLom n 0 else s
  | .trib n sd t => if (trib s n sd t).oom then
      raise (setTrib s n sd t { trib s n sd t with lom := true }) Ev.otnLom n 0 else s)

/-- OTN_LOM_CLEAR (R89): 3 ms aligned. -/
def execOtnLomClear (p : OtnPoint) (s : State) : Host.Outcome State Fault Refusal :=
  done s (match p with
  | .otu n sd => if (otl s n sd).aligned && (otl s n sd).mfOk then setOtl s n sd { otl s n sd with lom := false } else s
  | .trib n sd t => if (trib s n sd t).inFrame && (trib s n sd t).mfOk then
      setTrib s n sd t { trib s n sd t with lom := false } else s)

/-- Entry `e` of page `pg` of TSI `k`, and its change (R95). -/
def tsiAt (s : State) (k pg e : Nat) : Nat := tget 0 s.lines.tsi ((k * 2 + pg) * 320 + e)
def setTsi (s : State) (k pg e v : Nat) : State :=
  { s with lines := { s.lines with tsi := tset 0 s.lines.tsi ((k * 2 + pg) * 320 + e) v } }

/-- Active page of direction `d` and destination group `g` of TSI `k` (R97). -/
def tsiPage (s : State) (k d g : Nat) : Nat := b2n (rdBit s (K.tsiActive k) (2 * d + g))

/-- The standby page: the one no swap has made active (R95). -/
def tsiStandby (s : State) (k : Nat) : Nat := 1 - tsiPage s k 0 0

/-- Slots of a tributary type (R91), none for ODUflex. -/
def tribSlots : Nat → Option Nat
  | 0 => some 1
  | 1 => some 2
  | 2 | 3 => some 8
  | _ => none

/-- Entries of page `pg` of TSI `k`, direction `d`, destination group `g`, as (slot, entry). -/
def tsiGroup (s : State) (k pg d g : Nat) : List (Nat × Nat) :=
  (List.range 80).map (fun i => (160 * d + 80 * g + i, tsiAt s k pg (160 * d + 80 * g + i)))

/-- Fields of a TSI entry (R95). -/
def tsiValid (v : Nat) : Bool := bit v 31
def tsiCipher (v : Nat) : Bool := bit v 30
def tsiType (v : Nat) : Nat := bits v 29 27
def tsiCtx (v : Nat) : Nat := bits v 23 16
def tsiSrcG (v : Nat) : Nat := bits v 15 15
def tsiSrcT (v : Nat) : Nat := bits v 14 8
def tsiDstT (v : Nat) : Nat := bits v 6 0

/-- Received slots of TPN `t` in an MSI (R92). -/
def msiSlots (msi : List Nat) (t : Nat) : Nat := msi.countP (fun b => b == 128 + t)

/-- MSI judgement of tributary `t` of a side (R92): some valid entry of the active page takes it and its type's slot
count differs from the received one. -/
def msiBad (s : State) (n : Nat) (sd : Side) (msi : List Nat) (t : Nat) : Bool :=
  let k := n / 2
  let d := match sd with | .host => 0 | .line => 1
  (List.range 2).any (fun g =>
    let l := (tsiGroup s k (tsiPage s k d g) d g).filter (fun e =>
      tsiValid e.2 && tsiSrcG e.2 == n % 2 && tsiSrcT e.2 == t)
    match l with
    | [] => false
    | e :: _ => msiSlots msi t != (tribSlots (tsiType e.2)).getD l.length)

/-- OTN_PSI_RX (R92, R108): the overhead received on a side. A PT other than 0x21 with PT checking on sets PLM; a tributary whose
received slot count does not match its type sets MSIM; `ais` and `bdi` say whether ODU4-AIS and BDI come with it. -/
def execOtnPsiRx (n : Nat) (sd : Side) (pt : Nat) (msi : List Nat) (ais bdi : Bool) (s : State) : Host.Outcome State Fault Refusal :=
  done s (if isOtu4 s n then
    let x := otl s n sd
    let plm := decide (pt ≠ 0x21) && rdBit s (K.otnCtrl n) 4
    let s1 := setOtl s n sd { x with plm := plm, ais := ais, bdi := bdi, msi := msi }
    let s1 := if ais then otnSticky s1 n sd 7 else s1
    let s1 := if bdi then otnSticky s1 n sd 6 else s1
    let s1 := if plm && !x.plm then raise (otnSticky s1 n sd 5) Ev.otnPlm n 0 else s1
    forNat 80 (fun t s2 =>
      let bad := msiBad s2 n sd msi t
      let old := (trib s2 n sd t).msim
      if bad == old then s2 else
      let s2 := setTrib s2 n sd t { trib s2 n sd t with msim := bad }
      if bad then raise s2 Ev.tribMsim n 0 else s2) s1
  else s)

/-- The entry of the active page that takes tributary `t` of a side, with the number of its slots (R95). -/
def tribEntry (s : State) (n : Nat) (sd : Side) (t : Nat) : Option (Nat × Nat) :=
  let k := n / 2
  let d := match sd with | .host => 0 | .line => 1
  ((List.range 2).filterMap (fun g =>
    match (tsiGroup s k (tsiPage s k d g) d g).filter (fun e => tsiValid e.2 && tsiSrcG e.2 == n % 2 && tsiSrcT e.2 == t) with
    | [] => none
    | e :: l => some (e.2, l.length + 1))).head?

/-- Rates of the tributaries of a fixed rate in kb/s and their tolerance in 10^-6, as ITU-T G.709 gives them.
PRESUMED (log entry 62). -/
def tribRate : Nat → Option (Nat × Nat)
  | 0 => some (1244160, 20)
  | 1 => some (2498775, 20)
  | 2 => some (10037274, 20)
  | 3 => some (10399525, 100)
  | _ => none

/-- The least and the greatest Cm of tributary `t` of a side (R93): 15,200 bytes of its slots a multiframe at the rates of client and
server with their tolerances; any Cm up to 15,200 for ODUflex and for a tributary no entry takes. PRESUMED (log entry 62). -/
def cmRange (s : State) (n : Nat) (sd : Side) (t : Nat) : Nat × Nat :=
  match tribEntry s n sd t with
  | none => (0, 15200)
  | some (v, slots) =>
    match tribRate (tsiType v) with
    | none => (0, 15200)
    | some (f, tol) =>
      let srv := 1301709 * slots
      (f * (1000000 - tol) * 15200 / (srv * 1000020), f * (1000000 + tol) * 15200 / (srv * 999980) + 1)

/-- GMP_JC_RX (R93): a value whose CRC-8 or CRC-5 fails or whose Cm lies outside the tributary's range is replaced by the last
valid one and counted; five in a row declare loss of mapping, two valid ones end it. -/
def execGmpJcRx (n : Nat) (sd : Side) (tpn cm cnd : Nat) (crcOk : Bool) (s : State) : Host.Outcome State Fault Refusal :=
  done s (if isOtu4 s n ∧ tpn < 80 then
    let x := trib s n sd tpn
    if crcOk && decide ((cmRange s n sd tpn).1 ≤ cm) && decide (cm ≤ (cmRange s n sd tpn).2) then
      setTrib s n sd tpn { x with cm := cm, cnd := cnd, bad := 0, good := x.good + 1, loss := x.loss && decide (x.good + 1 < 2) }
    else
      let s1 := inc (setTrib s n sd tpn { x with bad := x.bad + 1, good := 0, loss := x.loss || decide (5 ≤ x.bad + 1) })
        (K.gmpErrors n) 1
      if !x.loss && decide (5 ≤ x.bad + 1) then raise s1 Ev.gmpLoss n 0 else s1
  else s)

/-- A change of a kind the commit window makes may be armed for tick `t` (R38): the grid is aligned, two ticks ahead
and at most 2^31. DEDUCED (log entry 11). -/
def armOk (s : State) (t : Nat) : Bool :=
  tickValid s && decide (tickNo s + 2 ≤ t) && decide (t - tickNo s ≤ 2 ^ 31)

/-- A change armed for tick `t` is due at the current tick: the low 32 bits of the two, subtracted as a signed difference, say
that the tick is not before `t`; 2^31 ticks ahead is not due (R38). DEDUCED (log entry 11). -/
def dueNow (s : State) (t : Nat) : Bool := decide (0 ≤ toSigned 32 ((tickNo s + 2 ^ 64 - t) % 2 ^ 32))

/-- A change armed for tick `t` takes effect now; where an alignment or a realignment has passed over `t`, it is counted as late
(R33, R49). -/
def markLate (s : State) (t : Nat) : State :=
  if t = tickNo s then s else { s with tick := { s.tick with late := s.tick.late + 1 } }

/-- A swap of TSI `k` is armed or in progress (R96). -/
def tsiBusy (s : State) (k : Nat) : Bool := rdField s (K.tsiStatus k) 1 0 != 0

/-- TSI_DATA_WRITE (R95, R96, R3): the standby entry at TSI_ADDR; reserved types, slots beyond 79 and contexts beyond
159 are refused; the address advances. With bit 15 of TSI_ADDR the write aborts (R108, which names no code), with wrong-state.
DESIGN CHOICE (log entry 62). -/
def tsiDataEff (k v : Nat) (s : State) : Res :=
  let a := rd s (K.tsiAddr k)
  let e := a % 512
  if tsiCipher v ∧ s.unit.variant = 1 then abortR s .unsupportedValue
  else if tsiBusy s k || bit a 15 then abortR s .wrongState
  else if 4 < tsiType v || 79 < tsiSrcT v || 79 < tsiDstT v || 159 < tsiCtx v then
    abortR s .unsupportedValue
  else okR (wr (setTsi s k (tsiStandby s k) e (Nat.land v 0xF8FFFF7F)) (K.tsiAddr k) ((e + 1) % 320))
def execTsiDataWrite (r : Req) (k v : Nat) (s : State) : Host.Outcome State Fault Refusal :=
  done s (access s r (K.tsiData k) true (tsiDataEff k (v % 2 ^ 32)))

/-- A read of TSI_DATA: the page TSI_ADDR bit 15 selects; the address advances. -/
def tsiDataRead (k : Nat) (s : State) : Res :=
  let a := rd s (K.tsiAddr k)
  let e := a % 512
  let pg := if bit a 15 then tsiPage s k (e / 160) (e / 80 % 2) else tsiStandby s k
  okV (wr s (K.tsiAddr k) ((e + 1) % 320 + a / 2 ^ 15 * 2 ^ 15)) [tsiAt s k pg e]

/-- TSI_COPY (R95). -/
def tsiCopyEff (k v : Nat) (s : State) : Res :=
  if v ≠ 1 then abortR s .unsupportedValue
  else if tsiBusy s k then abortR s .wrongState
  else okR (forNat 320 (fun e s => setTsi s k (tsiStandby s k) e (tsiAt s k (1 - tsiStandby s k) e)) s)
def execTsiCopy (r : Req) (k : Nat) (s : State) : Host.Outcome State Fault Refusal :=
  done s (access s r (K.tsiCopy k) true (tsiCopyEff k 1))

/-- Layer-1 context `c` of TSI `k`. -/
def l1Ctx0 : L1Ctx :=
  { ctrl := 0x200, out0 := 0, out1 := 0, in0 := 0, in1 := 0, first := 0, started := false, extMf := 0, phase := false,
    annPhase := false, annEnc := false, flip := false, lastTag := 0, exhaust := false, arm := none64, anns := [], lastAnn := none,
    bad := 0, inSync := false, phaseIn := false, acc := [], noKey := false, ais := false, failRun := 0, tagFails := 0 }
def l1Ctx (s : State) (k c : Nat) : L1Ctx := tget l1Ctx0 s.lines.l1 (k * 160 + c)
def setL1 (s : State) (k c : Nat) (x : L1Ctx) : State :=
  { s with lines := { s.lines with l1 := tset l1Ctx0 s.lines.l1 (k * 160 + c) x } }

/-- One entry of a standby page is faulty (R96): its tributary's entries differ in more than the slot, their number is
not its type's, another tributary of the group has its source, or its context is disabled. -/
def tsiFaulty (s : State) (k : Nat) (grp : List (Nat × Nat)) (v : Nat) : Bool :=
  let same := grp.filter (fun e => tsiValid e.2 && tsiDstT e.2 == tsiDstT v)
  tsiValid v &&
  (same.any (fun e => e.2 != v) ||
   (match tribSlots (tsiType v) with | some c => same.length != c | none => false) ||
   grp.any (fun e => tsiValid e.2 && tsiDstT e.2 != tsiDstT v && tsiSrcG e.2 == tsiSrcG v && tsiSrcT e.2 == tsiSrcT v) ||
   (tsiCipher v && !bit (l1Ctx s k (tsiCtx v)).ctrl 31))

/-- The first faulty entry of the standby page (R96). -/
def tsiFirstFault (s : State) (k : Nat) : Option Nat :=
  let pg := tsiStandby s k
  ((List.range 4).flatMap (fun dg =>
    let grp := tsiGroup s k pg (dg / 2) (dg % 2)
    grp.filterMap (fun e => if tsiFaulty s k grp e.2 then some e.1 else none))).head?

/-- TSI_SWAP_ARM (R96): armed within the limits of R38 once the standby page has no fault. -/
def tsiSwapEff (k t : Nat) (s : State) : Res :=
  if tsiBusy s k then abortR s .wrongState
  else if !armOk s t then abortR s .lateCommit
  else match tsiFirstFault s k with
    | some e => ⟨wr s (K.tsiErrEntry k) e, .unsupportedValue, []⟩
    | none => okR (wrBit (wr s (K.tsiSwapTick k) t) (K.tsiStatus k) 0 true)
def execTsiSwapArm (r : Req) (k t : Nat) (s : State) : Host.Outcome State Fault Refusal :=
  done s (access s r (K.tsiSwapTick k) true (tsiSwapEff k (t % 2 ^ 64)))

/-- The PSI that the OPU4 sent to destination group `g` of direction `d` carries (R91): PT 0x21, then one MSI byte per slot of the
active page: bit 7 and the TPN of a valid entry, 0x00 for an unoccupied slot. -/
def psiTx (s : State) (k d g : Nat) : List Byte :=
  0x21 :: (tsiGroup s k (tsiPage s k d g) d g).map (fun e => if tsiValid e.2 then 128 + tsiDstT e.2 else 0)

/-- A destination group takes the new page, and its MSI with it (R97); the last one ends the swap. -/
def tsiGroupSwap (s : State) (k d g : Nat) : State :=
  let old := tget 0 s.lines.tsiOld k
  if rdBit s (K.tsiStatus k) 1 && tsiPage s k d g == old then
    let s := wrBit s (K.tsiActive k) (2 * d + g) (old == 0)
    let s := emit s (.psi (2 * k + g) (if d = 0 then .line else .host) (psiTx s k d g))
    if rd s (K.tsiActive k) = (if old = 0 then 15 else 0) then
      raise (wr s (K.tsiStatus k) 0) Ev.tsiSwapped k 0
    else s
  else s

/-- TSI_GROUP_SWAP (R97): the group's next ODU4 multiframe boundary. -/
def execTsiGroupSwap (k d g : Nat) (s : State) : Host.Outcome State Fault Refusal :=
  done s (if k < 4 ∧ d < 2 ∧ g < 2 then tsiGroupSwap s k d g else s)

/-- The commit point of an armed swap (R97): in progress from the page that was active; a group that runs no OTU4 has
no multiframe to wait for. DEDUCED (log entries 17, 19). -/
def tsiCommit (s : State) (k : Nat) : State :=
  if rdBit s (K.tsiStatus k) 0 && dueNow s (rd s (K.tsiSwapTick k)) then
    let s := markLate s (rd s (K.tsiSwapTick k))
    let s := { s with lines := { s.lines with tsiOld := tset 0 s.lines.tsiOld k (tsiPage s k 0 0) } }
    let s := wr (wr s (K.tsiStatus k) 2) (K.tsiSwapTick k) none64
    forNat 4 (fun i s => if isOtu4 s (2 * k + i % 2) then s else tsiGroupSwap s k (i / 2) (i % 2)) s
  else s

/-- The record of OTU4 group `n`'s performance. -/
def pmEnd0 : PmEnd := ⟨false, 0, []⟩
def pm0 : PmGrp := ⟨[], [], [], [], pmEnd0, pmEnd0, false, 0⟩
def pmGrp (s : State) (n : Nat) : PmGrp := tget pm0 s.lines.pm n
def setPm (s : State) (n : Nat) (x : PmGrp) : State := { s with lines := { s.lines with pm := tset pm0 s.lines.pm n x } }

/-- Blocks in a second errored that make it severely errored (R106). -/
def sesBlocks : Nat := 128458

/-- Move the counts of one second within a bin: `un` from available to unavailable, or back (R106). -/
def pmMove (c : PmCnt) (x : PmSec) (un : Bool) : PmCnt :=
  if un then { c with es := c.es - 1, ses := c.ses - 1, uas := c.uas + 1 }
  else { es := c.es + b2n x.es, ses := c.ses, uas := c.uas - 1, bbe := c.bbe + x.err }

/-- One second counted in a bin, available or not (R106). -/
def pmAdd (c : PmCnt) (x : PmSec) (un : Bool) : PmCnt :=
  if un then { c with uas := c.uas + 1 }
  else { c with es := c.es + b2n x.es, ses := c.ses + b2n x.ses, bbe := c.bbe + (if x.ses then 0 else x.err) }

/-- Apply a change of counts of one end to the bin that starts at `st`. -/
def pmUpd (l : List PmBin) (st : Nat) (farEnd : Bool) (f : PmCnt → PmCnt) : List PmBin :=
  l.map (fun b => if b.start = st then (if farEnd then { b with far := f b.far } else { b with near := f b.near }) else b)

/-- One end takes a second: its bins, and the ten-second rule of unavailable time (R106). -/
def pmEndStep (g : PmGrp) (farEnd : Bool) (x : PmSec) : PmGrp :=
  let e := if farEnd then g.far else g.near
  let on := fun (g : PmGrp) (y : PmSec) (f : PmCnt → PmCnt) =>
    { g with open15 := pmUpd g.open15 y.b15 farEnd f, open24 := pmUpd g.open24 y.b24 farEnd f }
  let g := on g x (fun c => pmAdd c x e.unavail)
  let turn := if e.unavail then !x.ses else x.ses
  let run := if turn then e.run + 1 else 0
  let hist := (x :: e.hist).take 10
  let flip := decide (10 ≤ run)
  let g := if flip then forList hist (fun y g => on g y (fun c => pmMove c y (!e.unavail))) g else g
  let e := { unavail := if flip then !e.unavail else e.unavail, run := if flip then 0 else run, hist := hist }
  if farEnd then { g with far := e } else { g with near := e }

/-- A new bin at start `st`. -/
def pmNew (st flags : Nat) : PmBin := ⟨st, flags, 0, ⟨0, 0, 0, 0⟩, ⟨0, 0, 0, 0⟩⟩

/-- Seconds of the clock PM counts by: TB0's while it is VALID, else the free-running tick's (R107). -/
def pmNow (s : State) : Nat := if tbValid s 0 then tbNow s 0 / tbSecond else tickNo s / 100000

/-- An OTU4 group's error counts of a second: SM BIP-8 and BEI, and what the FEC decoders of both sides counted where OTN_CTRL
switches them on (R86, R108). -/
def otnCount (s : State) (n : Nat) (near far : PmObs) (line host : FecObs) : State :=
  let s := inc (inc s (K.lineBip8 n) near.errs) (K.lineBei n) far.errs
  let s := if rdBit s (K.otnCtrl n) 0 then inc (inc s (K.otnLineFecCorr n) line.syms) (K.otnLineFecUncorr n) line.bad else s
  if rdBit s (K.otnCtrl n) 1 then inc (inc s (K.otnHostFecCorr n) host.syms) (K.otnHostFecUncorr n) host.bad else s

/-- PM_SECOND (R106): the second that has just ended, near and far end; `defect` a defect at some point in it, to which the group's own
LOS, LOF, LOM and AIS at its end are added. -/
def execPmSecond (n : Nat) (near far : PmObs) (line host : FecObs) (s : State) : Host.Outcome State Fault Refusal :=
  done s (if n < 8 ∧ s.unit.variant ≠ 1 then
    let s := if isOtu4 s n then otnCount s n near far line host else s
    let g := pmGrp s n
    let now := pmNow s - 1
    let st15 := now / 900 * 900
    let off := rd s (K.pmDayOffset n)
    let st24 := (now + 86400 - off) / 86400 * 86400 + off - 86400
    let flags := 1 + (if g.stepped then 2 else 0) + (if mode s n = 1 && layout s n = 11 then 0 else 4) +
      (if tbValid s 0 then 0 else 8)
    let push := fun (l : List PmBin) (st : Nat) =>
      match l with
      | b :: t => if b.start = st then { b with flags := Nat.lor b.flags (flags % 8), secs := b.secs + 1 } :: t
                  else { pmNew st flags with secs := 1 } :: b :: t
      | [] => [{ pmNew st flags with secs := 1 }]
    let near := { near with defect := near.defect || (isOtu4 s n && (sendsBdi s n .line || (otl s n .line).ais)) }
    let g := { g with open15 := push g.open15 st15, open24 := push g.open24 st24, stepped := false }
    let sec := fun (o : PmObs) =>
      (⟨st15, st24, o.errored, decide (0 < o.errored) || o.defect, decide (sesBlocks ≤ o.errored) || o.defect⟩ : PmSec)
    setPm s n (pmEndStep (pmEndStep g false (sec near)) true (sec far))
  else s)

/-- TB0 steps by a second or more: the bins under way are SUSPECT, and so will be the one the next second falls in (R107). -/
def pmStepped (s : State) : State :=
  let mark := fun (l : List PmBin) =>
    match l with
    | b :: t => { b with flags := Nat.lor b.flags 2 } :: t
    | [] => []
  forNat 8 (fun n s =>
    let g := pmGrp s n
    setPm s n { g with open15 := mark g.open15, open24 := mark g.open24, stepped := true }) s

/-- PM_BIN_CLOSE (R107): 10 s after its end a bin closes; 16 closed 15-minute bins and one 24-hour bin are kept. -/
def execPmBinClose (n : Nat) (day : Bool) (s : State) : Host.Outcome State Fault Refusal :=
  done s (let g := pmGrp s n
    match (if day then g.open24 else g.open15) with
    | cur :: b :: _ =>
      if pmNow s < b.start + (if day then 86400 else 900) + 10 then s else
      let g := if day then { g with open24 := [cur], prev24 := [b] }
        else { g with open15 := [cur], closed15 := (b :: g.closed15).take 16 }
      raise (setPm s n g) Ev.pmBinClosed n 0
    | _ => s)

/-- The ten words of a record (R107). -/
def pmWords (b : PmBin) : List Word :=
  [b.start % 2 ^ 32, b.flags + b.secs % 2 ^ 16 * 2 ^ 16, b.near.es, b.near.ses, b.near.uas, b.near.bbe,
   b.far.es, b.far.ses, b.far.uas, b.far.bbe].map (· % 2 ^ 32)

/-- The record PM_SELECT names, empty where none is kept. -/
def pmSelected (s : State) (n : Nat) : List Word :=
  let g := pmGrp s n
  let v := rd s (K.pmSelect n)
  let b := if v = 0 then g.open15.head? else if v ≤ 16 then g.closed15[v - 1]?
    else if v = 17 then g.open24.head? else g.prev24.head?
  match b with
  | some b => pmWords b
  | none => []

/-- PM_SELECT_WRITE (R108): 19–255 reserved; PM_BIN returns to word 0. -/
def pmSelectEff (n v : Nat) (s : State) : Res :=
  if 18 < v then abortR s .unsupportedValue
  else okR (setPm (wr s (K.pmSelect n) v) n { pmGrp s n with ptr := 0 })
def execPmSelectWrite (r : Req) (n v : Nat) (s : State) : Host.Outcome State Fault Refusal :=
  done s (access s r (K.pmSelect n) true (pmSelectEff n (v % 256)))

/-- A read of PM_BIN: ten words, then 0. -/
def pmBinRead (n : Nat) (s : State) : Res :=
  let g := pmGrp s n
  okV (setPm s n { g with ptr := g.ptr + 1 }) [nth (pmSelected s n) g.ptr]

end Sys2Proof.Machine
end

