-- ==== Sys2Proof/Machine/Tick.lean ====
section
/-! DEFINITION. The Spinel sequencer (R30–R49): the length of a tick, corrections from SYNC_IN, alignment and
realignment, and the background jobs' bookkeeping (R39–R41). What else a boundary and a commit point do stands in
Commit.lean. -/

namespace Sys2Proof.Machine

/-- TICK_PHASE lies within ±4,000 ns, 5,000 cc (R30). -/
def phaseLimit : Int := 5000

/-- A key commit is armed for a tick from `a` to `b` (R44): an arm set, or a Layer-1 phase switch. -/
def keyArmed (s : State) (a b : Nat) : Bool :=
  let hit := fun (t : Nat) => t != none64 && decide (a ≤ t) && decide (t ≤ b)
  (List.range 15).any (fun i => hit (rd s (K.armTick (i + 1)))) || s.lines.l1.any (fun e => hit e.2.arm)

/-- Tick `t` is one of the eight from the tick of count `b` on (R44). -/
def stepWindow (s : State) (b t : Nat) : Bool :=
  decide (tickNo s + (b - s.tick.elapsed) ≤ t) && decide (t ≤ tickNo s + (b - s.tick.elapsed) + 7)

/-- An arm write that names tick `t` for a key commit meets a latched step, or a further one latched behind it (R44). -/
def stepBlocks (s : State) (t : Nat) : Bool :=
  (match s.tick.step with
   | none => false
   | some (b, _) => stepWindow s b t) ||
  (match s.tick.after with
   | some (b, _, true) => stepWindow s b t
   | _ => false)

/-- A key-commit arm write is in time (R38, R44, R52). -/
def armKeyOk (s : State) (t : Nat) : Bool := armOk s t && !stepBlocks s t

/-- TB0's value at core clock `c`, and the first core clock at which it reaches `v` (R31). -/
def clockOf (x : Tb) (v : Nat) : Nat :=
  let num : Int := (v - x.base : Nat) * (10 * 1024000000000)
  let den : Int := 8 * 2 ^ 32 * (1024000000000 + x.freq)
  x.at_ + ((num + den - 1) / den).toNat

/-- The phase of the grid in units of a time base. -/
def phaseUnits (s : State) : Int := ccUnits s.phase

/-- The number of the boundary of the R30 grid at TB0 value `v`. -/
def gridNo (s : State) (v : Nat) : Nat := (((v : Int) - phaseUnits s + tickUnits / 2) / tickUnits).toNat % 2 ^ 64

/-- The first boundary of the R30 grid at or after TB0 value `v` (R33, R49). -/
def gridNext (s : State) (v : Nat) : Nat :=
  (((((v : Int) - phaseUnits s) + tickUnits - 1) / tickUnits) * tickUnits + phaseUnits s).toNat

/-- The correction that the boundary of count `idx` takes, in cc, and what is left (R43–R45): a latched step, or the
next clamped part of a slew, clipped at the phase limit. DEDUCED (log entry 18). -/
def correction (s : State) (idx : Nat) : Int × State :=
  let k := s.tick
  let clip := fun (c : Int) => clampInt (-phaseLimit - s.phase) (phaseLimit - s.phase) c
  match k.step with
  | some (b, c) =>
    if b ≤ idx then
      let c' := clip c
      let s := { s with tick := { k with step := none } }
      let s := wrBit (inc s K.syncSteps 1) K.tickStatus 4 false
      let s := if c' ≠ c then raise s Ev.syncPhaseLimit 0 0 else s
      let s := match k.after with
        | some (b', e, true) => wrBit { s with tick := { s.tick with step := some (b', e), after := none } } K.tickStatus 4 true
        | some (b', e, false) => { s with tick := { s.tick with slew := e, slewFrom := b', after := none } }
        | none => s
      (c', s)
    else (0, s)
  | none =>
    if k.slew ≠ 0 ∧ k.slewFrom ≤ idx then
      let want := clampInt (-100) 100 k.slew
      let c' := clip want
      if c' = want then (c', { s with tick := { k with slew := k.slew - want } })
      else (c', raise { s with tick := { k with slew := 0 } } Ev.syncPhaseLimit 0 0)
    else (0, s)

/-- The half period and two periods of the selected SYNC_IN signal in core clocks (R42, R46). -/
def syncPeriod (s : State) : Nat := if rd s K.syncSource = 1 then 1250000000 else 12500

/-- An error in picoseconds in whole core clocks of 800 ps, an exact half rounded upward. A slew, too, moves whole core clocks,
so what is left below one core clock is dropped: R43 says only that a step is rounded to a whole cc. DESIGN CHOICE
(log entry 60). -/
def psToCc (e : Int) : Int := (e + 400) / 800

/-- The phase error of an edge `ps` picoseconds after cc 0 of this tick (R42), against the grid a pending step will
leave (R44). -/
def syncErr (s : State) (ps : Nat) : Int :=
  let x : Int := (ps : Int) - rdI32 s K.syncDelay * 1000 - (match s.tick.step with | some (_, c) => c * 800 | none => 0)
  (x + 5000000) % 10000000 - 5000000

/-- An accepted edge on the aligned grid (R43, R44). DEDUCED (log entry 18). -/
def syncCorrect (s : State) (ps : Nat) : State :=
  let e := syncErr s ps
  let s := wr s K.syncError (ofSigned 32 e)
  let good := if absNat e ≤ 80000 then s.tick.goodRun + 1 else 0
  let s := { s with tick := { s.tick with goodRun := good } }
  let s := if 4 ≤ good then wrBit s K.tickStatus 2 true else s
  let first := s.tick.elapsed + (if (ps + 799) / 800 + 4096 ≤ 12500 ∧ !s.tick.realigning then 1 else 2)
  let b := match s.tick.step with | some (b, _) => Nat.max first (b + 1) | none => first
  let bTick := tickNo s + (b - s.tick.elapsed)
  let stepEn := rd s K.syncStepEn == 1
  let overl := stepEn && decide (2500000 < absNat e)
  let want := stepEn && decide (rd s K.syncStepThreshold * 1000 < absNat e) && decide (absNat e ≤ 2500000)
  let blocked := want && keyArmed s bTick (bTick + 7)
  let s := if blocked then raise s Ev.syncStepBlocked 0 0 else s
  let s := if overl then raise s Ev.syncStepRange 0 0 else s
  let isStep := want && !blocked
  let c := psToCc e
  match s.tick.step with
  | some _ => { s with tick := { s.tick with after := if c = 0 then none else some (b, c, isStep) } }
  | none =>
    if isStep then wrBit { s with tick := { s.tick with step := some (b, c), slew := 0 } } K.tickStatus 4 true
    else { s with tick := { s.tick with slew := c, slewFrom := b } }

/-- SYNC_IN_EDGE (R42–R46): a rising edge `ps` picoseconds after cc 0 of the current tick. An edge less than half a
period after the last accepted one is a glitch; without an aligned grid an edge only counts. -/
def execSyncInEdge (ps : Nat) (s : State) : Host.Outcome State Fault Refusal :=
  done s (let s1 := toCc s (ps / 800)
    if rd s K.syncSource = 0 || !s.boot.engine then s
    else match s1.tick.lastEdge with
      | some c => if s1.tick.start + ps / 800 < c + syncPeriod s / 2 then inc s1 K.syncGlitches 1 else
          let s2 := inc { s1 with tick := { s1.tick with lastEdge := some (s1.tick.start + ps / 800) } } K.syncEdges 1
          if tickValid s2 then syncCorrect s2 ps else s2
      | none =>
        let s2 := inc { s1 with tick := { s1.tick with lastEdge := some (s1.tick.start + ps / 800) } } K.syncEdges 1
        if tickValid s2 then syncCorrect s2 ps else s2)

/-- SYNC_IN_LOST (R46): two periods without an accepted edge; a slew in progress finishes. -/
def execSyncInLost (s : State) : Host.Outcome State Fault Refusal :=
  done s (if rd s K.syncSource = 0 then s else
    raise (wrBit { s with tick := { s.tick with lastEdge := none, goodRun := 0 } } K.tickStatus 2 false)
      Ev.syncInLost 0 0)

/-- A write of SYNC_SOURCE: a new source starts without an accepted edge. DEDUCED (log entry 18). -/
def syncSourceEff (v : Nat) (s : State) : Res :=
  if 2 < v then abortR s .unsupportedValue
  else okR (wrBit { wr s K.syncSource v with tick := { s.tick with lastEdge := none, goodRun := 0 } } K.tickStatus 2 false)

/-- TICK_REALIGN (R49): 1 requests a realignment, 0 withdraws one not yet performed. DEDUCED (log entry 18). -/
def tickRealignEff (v : Nat) (s : State) : Res :=
  if 1 < v then abortR s .unsupportedValue else okR (wrBit s K.tickStatus 5 (v == 1))
def execTickRealign (r : Req) (v : Nat) (s : State) : Host.Outcome State Fault Refusal :=
  done s (access s r K.tickRealign true (tickRealignEff (v % 256)))

/-- TB0's grid at value `v` differs from R30 by more than 1 cc. -/
def offGrid (s : State) (v : Nat) : Bool :=
  let off := ((v : Int) - phaseUnits s + tickUnits / 2) % tickUnits - tickUnits / 2
  decide (ccUnits 1 < off) || decide (off < -(ccUnits 1))

/-- TB0 stops being VALID, or the time domain is lost: the tick runs free (R33, R42, R52). A slew in progress is
abandoned, and with it a latched step, which has no aligned grid left to move. DESIGN CHOICE (log entry 60). -/
def tickInvalid (s : State) : State :=
  if tickValid s then
    let s := { s with tick := { s.tick with slew := 0, step := none, after := none, goodRun := 0, aligning := false, realigning := false } }
    wrBit (wrBit (wrBit s K.tickStatus 0 false) K.tickStatus 2 false) K.tickStatus 4 false
  else { s with tick := { s.tick with aligning := false } }

/-- The TB0 time at which an alignment or a realignment tick under way ends (R33, R49): the first boundary of the R30 grid
at least 1,280 cc after the tick's cc 0, with a step that falls due at that boundary taken into the grid. -/
def alignTarget (s : State) : Nat :=
  let c := match s.tick.step with
    | some (b, c) => if b ≤ s.tick.elapsed + 1 then clampInt (-phaseLimit - s.phase) (phaseLimit - s.phase) c else 0
    | none => 0
  gridNext { s with phase := s.phase + c }
    (((tbNow s 0 : Int) - tbGain (tb s 0).freq (s.tick.clock - s.tick.start)).toNat + (ccUnits 1280).toNat)

/-- A step of TB0 in an alignment or a realignment tick: it still ends on the R30 grid, by the new time, where that boundary lies
ahead. Where it has passed, the tick keeps its length at TB0's rate as in R48 and ends off the grid, MISALIGNED.
DESIGN CHOICE (log entry 60). -/
def alignStep (s : State) (d : Int) : State :=
  let t := alignTarget s
  if tbNow s 0 < t then { s with tick := { s.tick with target := t } }
  else wrBit { s with tick := { s.tick with target := ((s.tick.target : Int) + d).toNat } } K.tickStatus 3 true

/-- TB0's time steps by `d` units: the tick keeps counting and is MISALIGNED; the event is raised where the grid now differs
from R30 by more than 1 cc (R48). DEDUCED (log entry 18). -/
def tickTbStep (s : State) (d : Int) : State :=
  if s.tick.aligning || s.tick.realigning then alignStep s d
  else if !tickValid s then s else
  let s := wrBit { s with tick := { s.tick with target := ((s.tick.target : Int) + d).toNat } } K.tickStatus 3 true
  if offGrid s s.tick.target || gridNo s s.tick.target != (tickNo s + 1) % 2 ^ 64 then
    raise s Ev.tickMisaligned 0 0
  else s

/-- The tick that begins is an alignment tick, or the realignment tick a pending request asks for, free of key commits for eight
ticks (R33, R49). -/
def alignBegin (s : State) : State :=
  if !tickValid s && tbValid s 0 then
    { s with tick := { s.tick with aligning := true, target := alignTarget s } }
  else if rdBit s K.tickStatus 5 && tickValid s && !keyArmed s (tickNo s) (tickNo s + 7) then
    wrBit { s with tick := { s.tick with realigning := true, target := alignTarget s } } K.tickStatus 5 false
  else s

/-- The number the tick that begins takes (R31–R33, R49): after an alignment or realignment tick the one R30 gives, else one
more; and an alignment or a requested realignment that the new tick begins. DEDUCED (log entry 18). -/
def boundaryNumber (s : State) (old target : Nat) (ends : Bool) : State :=
  if ends then
    let new := gridNo s target
    let s := wr s K.tickNumber new
    let s := { s with tick := { s.tick with aligning := false, realigning := false } }
    let s := wrBit (wrBit s K.tickStatus 0 true) K.tickStatus 3 (offGrid s target)
    alignBegin (raise s Ev.tickRealigned (old % 2 ^ 32) (new % 2 ^ 32))
  else alignBegin (wr s K.tickNumber ((old + 1) % 2 ^ 64))

/-- The core clock of a boundary: where TB0 reaches `target` on an aligned or aligning grid, else 12,500 cc on (R30, R33). -/
def boundaryClock (s : State) (run : Bool) (target : Nat) : Nat :=
  Nat.max (s.tick.start + 1) (Nat.max s.tick.clock (if run then clockOf (tb s 0) target else s.tick.start + 12500))

/-- The correction the coming boundary takes, in cc, with the state it leaves: none without an aligned grid (R42), and at the
end of a realignment tick a latched step alone. DESIGN CHOICE (log entry 60). -/
def boundaryMove (s : State) : Int × State :=
  let idx := s.tick.elapsed + 1
  let due := match s.tick.step with
    | some (b, _) => decide (b ≤ idx)
    | none => false
  if tickValid s && (due || !s.tick.realigning) then correction s idx else (0, s)

/-- The core clock at which the current tick ends (R32): a boundary that ends a realignment tick has its step in the grid it
ends on. -/
def tickEnd (s : State) : Nat :=
  let x := boundaryMove s
  boundaryClock s (tickValid s || s.tick.aligning) (((s.tick.target : Int) + if s.tick.realigning then 0 else ccUnits x.1).toNat)

/-- The boundary of a tick: its core clock and TB0 time, the phase and the tick number (R30–R33, R43, R49); an alignment or
realignment tick ends on the R30 grid. DEDUCED (log entry 18). -/
def boundary (s : State) : State :=
  let old := tickNo s
  let ends := s.tick.aligning || s.tick.realigning
  let x := boundaryMove s
  let target : Nat := ((x.2.tick.target : Int) + if ends then 0 else ccUnits x.1).toNat
  let at_ := tickEnd s
  let s := wr x.2 K.tickLength ((at_ - x.2.tick.start) % 2 ^ 32)
  let s := { s with phase := s.phase + x.1,
                    tick := { s.tick with clock := at_, start := at_, elapsed := s.tick.elapsed + 1, target := target + tickUnits } }
  boundaryNumber (wr s K.tickTime (toTime96 (tbNow s 0))) old target ends

/-! Background work (R39–R41). -/

/-- The budget of a job in cc (R39). -/
def bgBudget (job : Nat) : Nat := nth [0, 1024, 2048, 2048, 1536, 2048] job

/-- The offset of the guard band, the last 256 cc of the tick (R39). -/
def bgGuard (s : State) : Nat := tickEnd s - 256 - s.tick.start

/-- The offset at which the step of job `job` starts in this tick (R39): at cc 1,024 or where the last job ended, in the fixed
order of the jobs, one step a tick; none once its slot has passed or the guard band has begun. -/
def bgSlot (s : State) (job : Nat) : Option Nat :=
  let b := s.tick.bg
  let run := b.at_ == s.tick.elapsed && b.job != 0
  let off := Nat.max (Nat.max 1024 (s.tick.clock - s.tick.start)) (if run then b.off else 0)
  if (!run || decide (b.job < job)) && decide (off < bgGuard s) then some off else none

/-- Job `job` uses its slot from offset `off` (R39, R40): its step ends within its budget and before the guard band, or is
suspended at most 32 cc after them; its core clocks are counted (R373). The offset in those bounds is a FREE VALUE (log entry 8). -/
def bgRun (s : State) (job off : Nat) (ends : Bool) : State :=
  let lim := Nat.min (off + bgBudget job) (bgGuard s)
  let x := (Config.free 1 (s.tick.elapsed * 8 + job)).toNat
  let stop := if ends then off + 1 + x % (lim - off) else lim + x % 33
  let s := toCc s off
  let s := perfAdd { s with tick := { s.tick with bg := ⟨s.tick.elapsed, job, stop⟩ } } (799 + job) (stop - off)
  if rd s K.bgHighWater < stop then wr s K.bgHighWater stop else s

/-- The step of a background job: `eff` is what it does, in the job's slot of this tick or not at all (R39). -/
def bgStep (s : State) (job : Nat) (eff : State → State) : State :=
  match bgSlot s job with
  | none => s
  | some off => eff (bgRun s job off true)

/-- The step of job `job` does not finish in this tick (R40): the suspension is counted, the first since the counter was read
raises TICK_OVERRUN, and the job's slot is used with its work where it was, so that the slot of the next tick completes this
step before a new one is begun. -/
def bgSuspend (s : State) (job : Nat) : State :=
  match bgSlot s job with
  | none => s
  | some off => incFirst (perfAdd (bgRun s job off false) (804 + job) 1) (K.bgOverrun job) Ev.tickOverrun job 0

/-- BG_OVERRUN_READ (R40, R53): the read re-arms TICK_OVERRUN for the job. -/
def execBgOverrunRead (r : Req) (job : Nat) (s : State) : Host.Outcome State Fault Refusal :=
  done s (access s r (K.bgOverrun job) false (fun s => readPlain (rearm s (K.bgOverrun job)) (K.bgOverrun job)))

end Sys2Proof.Machine
end

