-- ==== Sys2Proof/Machine/Tables.lean ====
section
/-! DEFINITION. Classification tables (R116–R136): rules, the longest-prefix table, the learning tables, and the
staging claims of R125. -/

namespace Sys2Proof.Machine

/-- The entry after `e` of `n`. -/
def nextEntry (n e : Nat) : Nat := (e + 1) % n

/-- The entry and word after `(e, w)` in a window of `n` entries of `len` words (R124). -/
def winNext (n len e w : Nat) : Nat × Nat := if w + 1 < len then (e, w + 1) else (nextEntry n e, 0)

/-- ACTION of a result word (R116). -/
def resAction (v : Nat) : Nat := bits v 31 29

/-- Words of a rule; the live rule `r` of slice `j`, zeros where none was written (R123). -/
def ruleWords : Nat := 22
def liveRule (s : State) (j r : Nat) : List Word :=
  let l := tget [] s.tables.rules (j * 4096 + r)
  if l.isEmpty then List.replicate ruleWords 0 else l
def setRule (s : State) (j r : Nat) (ws : List Word) : State :=
  let ws := if ws = List.replicate ruleWords 0 then [] else ws
  let par := s.tables.parity.filter (· != j * 2 ^ 18 + r)
  { s with tables := { s.tables with rules := tset [] s.tables.rules (j * 4096 + r) ws, parity := par } }

/-- Rule and word of RULE_ADDR, and its value. -/
def ruleAt (s : State) (j : Nat) : Nat × Nat := (rdField s (K.ruleAddr j) 11 0, rdField s (K.ruleAddr j) 20 16)

/-- Point RULE_ADDR at `(e, w)`; at word 0 of another rule a new staging copy is loaded (R124). -/
def ruleTo (s : State) (j e w : Nat) (load : Bool) : State :=
  let s := wr s (K.ruleAddr j) (w * 2 ^ 16 + e)
  if load then setStage s (Grp.rule j) (liveRule s j e) else s

/-- RULE_ADDR_WRITE (R124, R125): a word beyond 21 is refused; the rule is copied from the live table. -/
def ruleAddrEff (j : Nat) (r : Req) (v : Nat) (s : State) : Res :=
  let e := bits v 11 0
  let w := bits v 20 16
  if ruleWords ≤ w then abortR s .unsupportedValue
  else claimed s (Grp.rule j) r (fun s => okR (ruleTo s j e w true))
def execRuleAddrWrite (r : Req) (j v : Nat) (s : State) : Host.Outcome State Fault Refusal :=
  done s (access s r (K.ruleAddr j) true (ruleAddrEff j r (v % 2 ^ 32)))

/-- The staging copy in use: the one loaded, else the live rule. -/
def ruleCopy (s : State) (j : Nat) : List Word :=
  let c := stageOf s (Grp.rule j)
  if c.isEmpty then liveRule s j (ruleAt s j).1 else c

/-- A rule whose VALUE has a bit outside MASK (R124). -/
def ruleBad (c : List Word) : Bool :=
  (List.range 10).any (fun i => Nat.land (nth c i) (2 ^ 32 - 1 - nth c (10 + i)) != 0)

/-- RULE_DATA_WRITE (R117, R123–R125): one word into the staging copy; word 21 commits the whole rule at once. -/
def ruleDataEff (j : Nat) (r : Req) (v : Nat) (s : State) : Res :=
  let (e, w) := ruleAt s j
  if w = 20 && 4 < resAction v then
    (if heldByOther s (Grp.rule j) r.ch then abortR s .wrongState else abortR s .unsupportedValue)
  else claimed s (Grp.rule j) r (fun s =>
    let c := lset (ruleCopy s j) w (if w = 21 then v / 2 ^ 31 * 2 ^ 31 else v)
    if w < 21 then okR (ruleTo (setStage s (Grp.rule j) c) j e (w + 1) false)
    else if ruleBad c then ⟨ruleTo s j e 0 true, .unsupportedValue, []⟩
    else okR (ruleTo (release (setRule s j e c) (Grp.rule j)) j ((e + 1) % 4096) 0 true))
def execRuleDataWrite (r : Req) (j v : Nat) (s : State) : Host.Outcome State Fault Refusal :=
  done s (access s r (K.ruleData j) true (ruleDataEff j r (v % 2 ^ 32)))

/-- A read of RULE_DATA: the live word; the pointer advances (R124). -/
def ruleDataRead (j : Nat) (s : State) : Res :=
  let (e, w) := ruleAt s j
  let (e', w') := winNext 4096 ruleWords e w
  okV (ruleTo s j e' w' (w' == 0)) [nth (liveRule s j e) w]

/-- STAGING_CLAIM_TIMEOUT (R125): 100,000 ticks without a write release the group and discard its copy.
DEDUCED (log entry 10). -/
def execStagingClaimTimeout (grp : Nat) (s : State) : Host.Outcome State Fault Refusal :=
  done s (match s.claims.find? (fun e => e.1 == grp) with
    | some (_, _, t) => if t + claimTicks ≤ s.tick.elapsed then discard s grp else s
    | none => s)

/-- Writes of the port defaults (R117): SECURE, BYPASS or DROP. -/
def portDefaultEff (k v : Nat) (s : State) : Res :=
  if 1 ≤ resAction v ∧ resAction v ≤ 3 then okR (wr s k v) else abortR s .unsupportedValue

/-! The longest-prefix table. -/

/-- LPM entry `e`, zeros where unused (R127). -/
def lpmEntry (s : State) (e : Nat) : List Word :=
  let l := tget [] s.tables.lpm e
  if l.isEmpty then [0, 0, 0, 0] else l
def setLpm (s : State) (e : Nat) (ws : List Word) : State :=
  let ws := if ws = [0, 0, 0, 0] then [] else ws
  let par := s.tables.parity.filter (· != 8 * 2 ^ 18 + e)
  { s with tables := { s.tables with lpm := tset [] s.tables.lpm e ws, parity := par } }

/-- Bits of an address of a family, and the address with bits below `len` cleared (R130). -/
def lpmBits (v6 : Bool) : Nat := if v6 then 128 else 32
def lpmMask (v6 : Bool) (len a : Nat) : Nat := a / 2 ^ (lpmBits v6 - len) * 2 ^ (lpmBits v6 - len)

/-- A candidate bucket, `h` = 0 or 1, of a prefix (R126): FREE VALUE (log entry 7). -/
def lpmCand (h : Nat) (v6 : Bool) (len k : Nat) : Nat := (Config.lpmBucket h (len + 256 * b2n v6) k).toNat

/-- The key an entry (or its even half and `odd`) holds. -/
def lpmKeyOf (v6 : Bool) (even odd : List Word) : Nat :=
  if v6 then ofWords [nth even 1, nth even 2, nth odd 1, nth odd 2] else nth even 1

/-- The slot of bucket `b` that holds prefix `k`/`len` (R130). -/
def lpmInBucket (s : State) (v6 : Bool) (len k b : Nat) : Option Nat :=
  (List.range 8).find? (fun i =>
    let e := lpmEntry s (8 * b + i)
    let w := nth e 0
    bit w 31 && bit w 30 == v6 && !bit w 29 && bits w 23 16 == len && (!v6 || i % 2 == 0) &&
    lpmKeyOf v6 e (lpmEntry s (8 * b + i + 1)) == k)

/-- Where a prefix stands: entry number of its first slot. -/
def lpmPlace (s : State) (v6 : Bool) (len k : Nat) : Option Nat :=
  let a := lpmCand 0 v6 len k
  let b := lpmCand 1 v6 len k
  match lpmInBucket s v6 len k a with
  | some i => some (8 * a + i)
  | none => (lpmInBucket s v6 len k b).map (8 * b + ·)

/-- A length is enabled in its family's filter (R128). -/
def lpmEnabled (s : State) (v6 : Bool) (len : Nat) : Bool :=
  decide (1 ≤ len) && decide (len ≤ lpmBits v6) && rdBit s (if v6 then K.lpmLenV6 else K.lpmLenV4) (len - 1)

/-- Lengths a filter enables, longest first. -/
def lpmLens (s : State) (v6 : Bool) : List Nat :=
  ((List.range (lpmBits v6)).map (lpmBits v6 - ·)).filter (lpmEnabled s v6)

/-- The result a prefix at entry `e` gives. -/
def lpmResultAt (s : State) (v6 : Bool) (e : Nat) : Nat := nth (lpmEntry s (if v6 then e + 1 else e)) 3

/-- The probe of R130: the longest enabled length that hits, else the family's default. -/
def lpmLookup (s : State) (v6 : Bool) (a : Nat) : Nat :=
  match (lpmLens s v6).findSome? (fun len => (lpmPlace s v6 len (lpmMask v6 len a)).map (lpmResultAt s v6)) with
  | some x => x
  | none => rd s (if v6 then K.lpmDefaultV6 else K.lpmDefaultV4)

/-- Entries a probe reads (R130): both candidate buckets of every enabled length. -/
def lpmProbed (s : State) (v6 : Bool) (a : Nat) : List Nat :=
  (lpmLens s v6).flatMap (fun len =>
    let k := lpmMask v6 len a
    (List.range 8).map (8 * lpmCand 0 v6 len k + ·) ++ (List.range 8).map (8 * lpmCand 1 v6 len k + ·))

/-- A length still holds entries (R128). -/
def lpmLenUsed (s : State) (v6 : Bool) (len : Nat) : Bool :=
  s.tables.lpm.any (fun e => bit (nth e.2 0) 31 && bit (nth e.2 0) 30 == v6 && bits (nth e.2 0) 23 16 == len)

/-- Writes of LPM_LEN_V4 and LPM_LEN_V6 (R128). -/
def lpmLenEff (v6 : Bool) (v : Nat) (s : State) : Res :=
  let k := if v6 then K.lpmLenV6 else K.lpmLenV4
  let n := lpmBits v6
  if 6 < (List.range n).countP (bit v) then abortR s .unsupportedValue
  else if (List.range n).any (fun i => rdBit s k i && !bit v i && lpmLenUsed s v6 (i + 1)) then abortR s .wrongState
  else okR (wr s k v)

/-- Writes of a length-0 result (R117, R128). -/
def lpmDefaultEff (k v : Nat) (s : State) : Res :=
  if 3 < resAction v then abortR s .unsupportedValue else okR (wr s k v)

/-- LPM_STATUS.BUSY. -/
def lpmBusy (s : State) : Bool := rdBit s K.lpmStatus 31

/-- Writes of LPM_KEY, LPM_PREFIX and LPM_RESULT (R117, R125, R129). -/
def lpmOperandEff (r : Req) (k v : Nat) (s : State) : Res :=
  if lpmBusy s then abortR s .wrongState
  else if k = K.lpmResult && 3 < resAction v then
    (if heldByOther s Grp.lpm r.ch then abortR s .wrongState else abortR s .unsupportedValue)
  else claimed s Grp.lpm r (fun s => okR (wr s k (if k = K.lpmPrefix then Nat.land v 0x1FF else v)))

/-- A write of LPM_OP (R129): accepted, BUSY until LPM_OP_DONE. DEDUCED (log entry 19). -/
def lpmOpEff (r : Req) (v : Nat) (s : State) : Res :=
  if lpmBusy s then abortR s .wrongState
  else if heldByOther s Grp.lpm r.ch then abortR s .wrongState
  else if v = 0 ∨ 3 < v then abortR s .unsupportedValue
  else
    let s := release s Grp.lpm
    okR (wr { s with tables := { s.tables with lpmOp := v } } K.lpmStatus (2 ^ 31))
def execLpmInsert (r : Req) (s : State) : Host.Outcome State Fault Refusal :=
  done s (access s r K.lpmOp true (lpmOpEff r 1))
def execLpmDelete (r : Req) (s : State) : Host.Outcome State Fault Refusal :=
  done s (access s r K.lpmOp true (lpmOpEff r 2))
def execLpmFind (r : Req) (s : State) : Host.Outcome State Fault Refusal :=
  done s (access s r K.lpmOp true (lpmOpEff r 3))

/-- Free places of bucket `b`: slots, or even slots of free pairs. -/
def lpmFree (s : State) (v6 : Bool) (b : Nat) : List Nat :=
  ((List.range 8).map (8 * b + ·)).filter (fun e =>
    nth (lpmEntry s e) 0 == 0 && (!v6 || (e % 2 == 0 && nth (lpmEntry s (e + 1)) 0 == 0)))

/-- Free places an insert may take (R129): those of the candidate bucket with more free slots, bucket `a` on a tie. Where that
bucket has no free pair for an IPv6 prefix the other one is taken, a case the spec does not name. DESIGN CHOICE (log entry 63). -/
def lpmRoom (s : State) (v6 : Bool) (a b : Nat) : List Nat :=
  let (x, y) := if (lpmFree s false a).length < (lpmFree s false b).length then (b, a) else (a, b)
  if (lpmFree s v6 x).isEmpty then lpmFree s v6 y else lpmFree s v6 x

/-- Write a prefix at entry `e` (R127). -/
def lpmWrite (s : State) (v6 : Bool) (len k res e : Nat) : State :=
  if v6 then
    let ws := toWords 4 k
    setLpm (setLpm s (e + 1) [2 ^ 31 + 2 ^ 30 + 2 ^ 29 + len * 2 ^ 16, nth ws 2, nth ws 3, res]) e
      [2 ^ 31 + 2 ^ 30 + len * 2 ^ 16, nth ws 0, nth ws 1, 0]
  else setLpm s e [2 ^ 31 + len * 2 ^ 16, k, 0, res]

/-- The outcome of an operation: status and placement. -/
def lpmAnswer (s : State) (st e : Nat) : State :=
  let s := wr s K.lpmUsed s.tables.lpm.length
  wr { s with tables := { s.tables with lpmOp := 0 } } K.lpmStatus (st * 2 ^ 28 + e)

/-- The operation of LPM_OP on LPM_KEY, LPM_PREFIX and LPM_RESULT (R128, R129). Which free slot of the chosen bucket an
insert takes is internal: FREE VALUE (log entry 8). DEDUCED (log entry 19). -/
def lpmPerform (s : State) : State :=
  let p := rd s K.lpmPrefix
  let v6 := bit p 8
  let len := bits p 7 0
  let a := if v6 then rd s K.lpmKey else rd s K.lpmKey / 2 ^ 96
  let k := lpmMask v6 (Nat.min len (lpmBits v6)) a
  let at_ := if lpmEnabled s v6 len then lpmPlace s v6 len k else none
  match s.tables.lpmOp with
  | 1 =>
    if !lpmEnabled s v6 len then lpmAnswer s 5 0
    else match at_ with
    | some e =>
      let h := if v6 then e + 1 else e
      lpmAnswer (setLpm s h (lset (lpmEntry s h) 3 (rd s K.lpmResult))) 2 e
    | none =>
      let f := lpmRoom s v6 (lpmCand 0 v6 len k) (lpmCand 1 v6 len k)
      if f.isEmpty then lpmAnswer (inc s K.lpmRefused 1) 4 0
      else
        let e := nth f ((Config.free 2 k).toNat % f.length)
        lpmAnswer (lpmWrite s v6 len k (rd s K.lpmResult) e) 1 e
  | 2 =>
    match at_ with
    | some e => lpmAnswer (let s := setLpm s e [0, 0, 0, 0]; if v6 then setLpm s (e + 1) [0, 0, 0, 0] else s) 1 e
    | none => lpmAnswer s 3 0
  | _ =>
    match at_ with
    | some e => lpmAnswer s 1 e
    | none => lpmAnswer s 3 0

/-- LPM_OP_DONE (R129): the operation under way completes. -/
def execLpmOpDone (s : State) : Host.Outcome State Fault Refusal :=
  done s (if s.tables.lpmOp = 0 then s else lpmPerform s)

/-- A write of LPM_ADDR, and a read of LPM_DATA: four words of an entry, then the next entry's. -/
def lpmAddrEff (v : Nat) (s : State) : Res :=
  if 262143 < v then abortR s .unsupportedValue
  else okR (wr { s with tables := { s.tables with lpmWord := 0 } } K.lpmAddr v)
def lpmDataRead (s : State) : Res :=
  let e := rd s K.lpmAddr
  let (e', w') := winNext 262144 4 e s.tables.lpmWord
  okV (wr { s with tables := { s.tables with lpmWord := w' } } K.lpmAddr e') [nth (lpmEntry s e) s.tables.lpmWord]

/-! The learning tables. -/

/-- Entry `n` of learning table `i`, and its change. -/
def learnAt (s : State) (i n : Nat) : Option LearnEnt := tget none s.tables.learn (i * 131072 + n)
def setLearn (s : State) (i n : Nat) (x : Option LearnEnt) : State :=
  let par := s.tables.parity.filter (· != (9 + i) * 2 ^ 18 + n)
  let s := { s with tables := { s.tables with learn := tset none s.tables.learn (i * 131072 + n) x, parity := par } }
  wr s (K.learnUsed i) (s.tables.learn.countP (fun e => e.1 / 131072 == i))

/-- The eight entries of a key's bucket (R131): FREE VALUE (log entry 7). -/
def learnBucketOf (key : Nat) : List Nat := (List.range 8).map (8 * (Config.learnBucket 0 key).toNat + ·)

/-- Where a key stands in table `i`. -/
def learnFindAt (s : State) (i key : Nat) : Option Nat :=
  (learnBucketOf key).find? (fun n => match learnAt s i n with | some x => x.key == key | none => false)

/-- Entry slots of a key's bucket that are free; and the slot a new entry replaces: the lowest dynamic one that is not
ACTIVE (R132). -/
def learnFree (s : State) (i key : Nat) : List Nat := (learnBucketOf key).filter (fun n => (learnAt s i n).isNone)
def learnVictim (s : State) (i key : Nat) (anyDynamic : Bool) : Option Nat :=
  let dyn := fun (idle : Bool) (n : Nat) => match learnAt s i n with
    | some x => !x.static && (!idle || !x.active)
    | none => false
  match (learnBucketOf key).find? (dyn true) with
  | some n => some n
  | none => if anyDynamic then (learnBucketOf key).find? (dyn false) else none

/-- One learned address reaches the table (R132). -/
def learnApply (s : State) (i : Nat) (x : LearnEnt) : State :=
  match learnFindAt s i x.key with
  | some n =>
    match learnAt s i n with
    | some y =>
      if y.sc = x.sc ∧ y.port = x.port then setLearn s i n (some { y with active := true })
      else if y.static then inc s (K.learnConflict i) 1
      else inc (setLearn s i n (some { x with static := false, active := true, born := s.tick.clock })) (K.macMoves i) 1
    | none => s
  | none =>
    let x := { x with static := false, active := true, born := s.tick.clock }
    let f := learnFree s i x.key
    if f.isEmpty then
      match learnVictim s i x.key false with
      | some n => setLearn s i n (some x)
      | none => incFirst s (K.learnFull i) Ev.learnFull (4 + i) 0
    else setLearn s i (nth f ((Config.free 3 x.key).toNat % f.length)) (some x)

/-- The learn FIFO of table `i`. -/
def learnFifo (s : State) (i : Nat) : List LearnEnt := tget [] s.tables.fifo i
def setLearnFifo (s : State) (i : Nat) (l : List LearnEnt) : State :=
  { s with tables := { s.tables with fifo := tset [] s.tables.fifo i l } }

/-- A frame teaches table `i` its source (R131, R132): a refresh acts at once; anything else passes the FIFO, merged
with an entry of its address already there, or lost where it is full. A merged learn keeps the first one's SC and port, which
the spec leaves open. DESIGN CHOICE (log entry 63). -/
def learnOffer (s : State) (i key sc port : Nat) : State :=
  let same := match learnFindAt s i key with
    | some n => (match learnAt s i n with | some y => y.sc == sc && y.port == port | none => false)
    | none => false
  if same then learnApply s i ⟨key, sc, port, false, true, 0⟩
  else if (learnFifo s i).any (fun x => x.key == key) then s
  else if 64 ≤ (learnFifo s i).length then inc s (K.learnFifoDrops i) 1
  else setLearnFifo s i (learnFifo s i ++ [⟨key, sc, port, false, true, 0⟩])

/-- LEARN_FIFO_RETIRE (R132): the oldest learn is evaluated. -/
def execLearnFifoRetire (i : Nat) (s : State) : Host.Outcome State Fault Refusal :=
  done s (if i < 4 then
    match learnFifo s i with
    | x :: l => learnApply (setLearnFifo s i l) i x
    | [] => s
  else s)

/-- Writes of LEARN_KEY and LEARN_VALUE (R125). -/
def learnOperandEff (i : Nat) (r : Req) (k v : Nat) (s : State) : Res :=
  claimed s (Grp.learn i) r (fun s => writePlain s k v)

/-- Set LEARN_STATUS: the status, BUSY as it stands. -/
def learnAnswer (s : State) (i st : Nat) : State := wrField s (K.learnStatus i) 30 28 st

/-- A flush is running. -/
def learnBusy (s : State) (i : Nat) : Bool := rdBit s (K.learnStatus i) 31

/-- A write of LEARN_OP (R125, R131, R134): insert static, delete and find act at once; a flush is BUSY until it
completes, and a second one is refused meanwhile. DEDUCED (log entry 19). -/
def learnOpEff (i : Nat) (r : Req) (v : Nat) (s : State) : Res :=
  let key := rd s (K.learnKey i)
  let val := rd s (K.learnValue i)
  if heldByOther s (Grp.learn i) r.ch then abortR s .wrongState
  else if v = 0 ∨ 6 < v then abortR s .unsupportedValue
  else if 4 ≤ v && learnBusy s i then abortR s .wrongState
  else
    let s := release s (Grp.learn i)
    let ent : LearnEnt := ⟨key, bits val 15 0, bits val 20 16, true, false, s.tick.clock⟩
    okR (match v with
      | 1 =>
        match learnFindAt s i key with
        | some n => learnAnswer (setLearn s i n (some ent)) i 1
        | none =>
          let f := learnFree s i key
          if f.isEmpty then
            match learnVictim s i key true with
            | some n => learnAnswer (setLearn s i n (some ent)) i 1
            | none => learnAnswer s i 4
          else learnAnswer (setLearn s i (nth f ((Config.free 3 key).toNat % f.length)) (some ent)) i 1
      | 2 =>
        match learnFindAt s i key with
        | some n => learnAnswer (setLearn s i n none) i 1
        | none => learnAnswer s i 3
      | 3 =>
        match learnFindAt s i key with
        | some n =>
          match learnAt s i n with
          | some y => learnAnswer (wr s (K.learnValue i)
              (b2n y.static * 2 ^ 31 + b2n y.active * 2 ^ 30 + y.port * 2 ^ 16 + y.sc)) i 1
          | none => s
        | none => learnAnswer s i 3
      | _ => wr { s with tables := { s.tables with flush := tset (0, 0, 0) s.tables.flush i (v, val, s.tick.clock) } }
          (K.learnStatus i) (2 ^ 31))
def execLearnInsertStatic (r : Req) (i : Nat) (s : State) : Host.Outcome State Fault Refusal :=
  done s (access s r (K.learnOp i) true (learnOpEff i r 1))
def execLearnDelete (r : Req) (i : Nat) (s : State) : Host.Outcome State Fault Refusal :=
  done s (access s r (K.learnOp i) true (learnOpEff i r 2))
def execLearnFind (r : Req) (i : Nat) (s : State) : Host.Outcome State Fault Refusal :=
  done s (access s r (K.learnOp i) true (learnOpEff i r 3))
def execLearnFlushAll (r : Req) (i : Nat) (s : State) : Host.Outcome State Fault Refusal :=
  done s (access s r (K.learnOp i) true (learnOpEff i r 4))
def execLearnFlushPort (r : Req) (i : Nat) (s : State) : Host.Outcome State Fault Refusal :=
  done s (access s r (K.learnOp i) true (learnOpEff i r 5))
def execLearnFlushSc (r : Req) (i : Nat) (s : State) : Host.Outcome State Fault Refusal :=
  done s (access s r (K.learnOp i) true (learnOpEff i r 6))

/-- Keep the entries of table `i` that satisfy `p`. -/
def learnKeep (s : State) (i : Nat) (p : Nat → LearnEnt → Bool) : State :=
  let s := { s with tables := { s.tables with learn := s.tables.learn.filter (fun e =>
      e.1 / 131072 != i || (match e.2 with | some x => p e.1 x | none => false)) } }
  wr s (K.learnUsed i) (s.tables.learn.countP (fun e => e.1 / 131072 == i))

/-- LEARN_FLUSH_DONE (R134): the walk removes the dynamic entries its operation names. An entry made or moved while it
ran survives where the walker had passed: FREE VALUE (log entry 8). -/
def execLearnFlushDone (i : Nat) (s : State) : Host.Outcome State Fault Refusal :=
  done s (match tget (0, 0, 0) s.tables.flush i with
    | (op, val, t) =>
      if op = 0 ∨ 4 ≤ i then s else
      let hit := fun (x : LearnEnt) => op == 4 || (op == 5 && x.port == bits val 20 16) || (op == 6 && x.sc == bits val 15 0)
      let s1 := learnKeep s i (fun n x => x.static || !hit x || (decide (t < x.born) && bit (Config.free 4 n).toNat 0))
      wr { s1 with tables := { s1.tables with flush := tset (0, 0, 0) s1.tables.flush i (0, 0, 0) } }
        (K.learnStatus i) (2 ^ 28))

/-- A sweep of table `i` is due (R134): A × 50,000 ticks since the last one, or since reset. DESIGN CHOICE (log entry 63). -/
def ageDue (s : State) (i : Nat) : Bool :=
  rd s (K.ageTime i) != 0 && decide (rd s (K.ageTime i) * 50000 ≤ s.tick.elapsed - tget 0 s.tables.ageAt i)

/-- AGE_SWEEP (R134): where a sweep is due, a dynamic entry that is not ACTIVE goes, the others lose ACTIVE; static entries
stay. DEDUCED (log entry 19). -/
def execAgeSweep (i : Nat) (s : State) : Host.Outcome State Fault Refusal :=
  done s (if i < 4 ∧ ageDue s i then
    let s1 := learnKeep s i (fun _ x => x.static || x.active)
    { s1 with tables := { s1.tables with
        learn := s1.tables.learn.map (fun e =>
          if e.1 / 131072 = i then (e.1, e.2.map (fun x => { x with active := false })) else e),
        ageAt := tset 0 s1.tables.ageAt i s.tick.elapsed } }
  else s)

/-- SLOW_OVERFLOW_READ (R115): the read re-arms the event. -/
def execSlowOverflowRead (r : Req) (j : Nat) (s : State) : Host.Outcome State Fault Refusal :=
  done s (access s r (K.slowOverflow j) false (fun s => readPlain (rearm s (K.slowOverflow j)) (K.slowOverflow j)))

/-- LEARN_FULL_READ (R132): the read re-arms the event. -/
def execLearnFullRead (r : Req) (i : Nat) (s : State) : Host.Outcome State Fault Refusal :=
  done s (access s r (K.learnFull i) false (fun s => readPlain (rearm s (K.learnFull i)) (K.learnFull i)))

/-! Parity (R135): table 0–7 the rules of a slice, 8 the LPM, 9 + i a learning table. -/

/-- Words of the tables whose parity has gone bad (R135): `t · 2^18 + e` for entry `e` of slice `t`'s rules, of the LPM pool
(`t` = 8) or of slice i's learning table (`t` = 9 + i). -/
def spoil (s : State) (l : List Nat) : State :=
  match l with
  | [] => s
  | _ => { s with tables := { s.tables with parity := l ++ s.tables.parity } }

/-- Parity bits of a table entry are bad. -/
def parityBad (s : State) (t e : Nat) : Bool := s.tables.parity.contains (t * 2 ^ 18 + e)

/-- A parity error met by a lookup of slice `j`: counted and raised; a learning entry is removed. -/
def parityHit (s : State) (j t e : Nat) : State :=
  let s := raise (inc s (K.tableParity j) 1) Ev.tableParityErr t e
  if 9 ≤ t then setLearn s (t - 9) e none else s

end Sys2Proof.Machine
end

