-- ==== Sys2Proof/Machine/Assoc.lean ====
section
/-! DEFINITION. Secure channels, security associations and key slots (R140–R163): the three stores' windows, staging,
retiring, what a commit point does to arm sets and migrations, and the scrubber. -/

namespace Sys2Proof.Machine

/-- SA states (R143). -/
def Sa.idle : Nat := 0
def Sa.staged : Nat := 1
def Sa.active : Nat := 2
def Sa.grace : Nat := 3
def Sa.retired : Nat := 4
def Sa.exhausted : Nat := 5
def Sa.skipped : Nat := 6
def Sa.fault : Nat := 7

/-- Entries as reset leaves them (R140: VALIDATE and REPLAY_PROTECT 1, GRACE_TICKS 200). -/
def sc0 : ScEnt := ⟨0, [], 0, 200, 0xC00, none, 0, false⟩
def sa0 : SaEnt := ⟨0, 0, 0, false, 0, 0, 0, false, 0, 0, 0, 0, false, false, 0, [], false⟩
def slot0 : Slot := ⟨List.replicate 11 0, false, false, false, none⟩
def stat0 : SaStat := ⟨0, 0, 0, 0⟩
def pred0 : Pred := ⟨0, 0, 0, 0, 0, []⟩

/-- Entries of the stores, and their changes. A slot that changes takes the powers of H kept for it along (R167). -/
def scAt (s : State) (i : Nat) : ScEnt := tget sc0 s.assoc.sc i
def setSc (s : State) (i : Nat) (x : ScEnt) : State := { s with assoc := { s.assoc with sc := tset sc0 s.assoc.sc i x } }
def saAt (s : State) (h : Nat) : SaEnt := tget sa0 s.assoc.sa h
def setSa (s : State) (h : Nat) (x : SaEnt) : State := { s with assoc := { s.assoc with sa := tset sa0 s.assoc.sa h x } }
def slotFlip (s : State) (x : Slot) : Slot := { x with zeroised := x.zeroised != s.assoc.zapped }
def slotAt (s : State) (h : Nat) : Slot := slotFlip s (tget slot0 s.assoc.slot h)
def setSlot (s : State) (h : Nat) (x : Slot) : State :=
  { s with assoc := { s.assoc with slot := tset slot0 s.assoc.slot h (slotFlip s x) },
           dp := { s.dp with hkeep := s.dp.hkeep.filter (fun e => (e.2.map (·.1)) != some h) } }
def statAt (s : State) (h : Nat) : SaStat := tget stat0 s.assoc.stat h
def setStat (s : State) (h : Nat) (x : SaStat) : State := { s with assoc := { s.assoc with stat := tset stat0 s.assoc.stat h x } }
def predAt (s : State) (q : Nat) : Pred := tget pred0 s.assoc.pred q
def setPred (s : State) (q : Nat) (x : Pred) : State := { s with assoc := { s.assoc with pred := tset pred0 s.assoc.pred q x } }

/-- Fields of SC_CONTROL (R140). -/
def ScEnt.valid (e : ScEnt) : Bool := bit e.ctrl 31
def ScEnt.inbound (e : ScEnt) : Bool := bit e.ctrl 30
def ScEnt.port (e : ScEnt) : Nat := bits e.ctrl 28 24
def ScEnt.suite (e : ScEnt) : Nat := bits e.ctrl 22 20
def ScEnt.xpn (e : ScEnt) : Bool := decide (2 ≤ e.suite)
def ScEnt.confBytes (e : ScEnt) : Nat := nth [0, 30, 50] (bits e.ctrl 19 18)
def ScEnt.tagsClear (e : ScEnt) : Nat := bits e.ctrl 17 16
def ScEnt.encrypt (e : ScEnt) : Bool := bit e.ctrl 15
def ScEnt.includeSci (e : ScEnt) : Bool := bit e.ctrl 14
def ScEnt.useEs (e : ScEnt) : Bool := bit e.ctrl 13
def ScEnt.useScb (e : ScEnt) : Bool := bit e.ctrl 12
def ScEnt.validate (e : ScEnt) : Bool := bit e.ctrl 11
def ScEnt.replay (e : ScEnt) : Bool := bit e.ctrl 10

/-- The handle AN_MAP names at an AN. -/
def ScEnt.handle (e : ScEnt) (an : Nat) : Option Nat := if bit (tget 0 e.an an) 31 then some (tget 0 e.an an % 2 ^ 17) else none

/-- The key length in bytes of a suite. -/
def suiteKey (suite : Nat) : Nat := if suite % 2 = 0 then 16 else 32

/-- Predictor entries of a handle become EMPTY (R175). -/
def predDrop (s : State) (p : Nat → Bool) : State :=
  { s with assoc := { s.assoc with pred := s.assoc.pred.filter (fun e => !p e.2.handle) } }

/-- An SA changes state; its predictor entries empty where the state is one of R175's. -/
def saState (s : State) (h st : Nat) : State :=
  let s := setSa s h { saAt s h with st := st }
  if st = Sa.retired ∨ st = Sa.exhausted ∨ st = Sa.fault ∨ st = Sa.idle then predDrop s (· == h) else s

/-- SC_STATUS (R140). -/
def scStatus (s : State) (e : ScEnt) : Nat :=
  let acc := fun (a : Nat) => match e.handle a with
    | some h => e.inbound && ((saAt s h).st == Sa.active || (saAt s h).st == Sa.grace)
    | none => false
  b2n (acc 3) * 128 + b2n (acc 2) * 64 + b2n (acc 1) * 32 + b2n (acc 0) * 16 + b2n e.cur.isSome * 4 + e.curAn

/-- The ten words of SC entry `i`. -/
def scWords (s : State) (i : Nat) : List Word :=
  let e := scAt s i
  [e.sci / 2 ^ 32 % 2 ^ 32, e.sci % 2 ^ 32] ++ (List.range 4).map (tget 0 e.an) ++ [if e.inbound then e.window else 0, e.grace, scStatus s e, e.ctrl]

/-- Point SC_ADDR; with `load` a new staging copy is taken. -/
def scTo (s : State) (e w : Nat) (load : Bool) : State :=
  let s := wr s K.scAddr (w * 2 ^ 16 + e)
  if load then setStage s Grp.sc (scWords s e) else s
def scPtr (s : State) : Nat × Nat := (rdField s K.scAddr 15 0, rdField s K.scAddr 19 16)

/-- SC_ADDR_WRITE (R140): a word beyond 9 is refused. -/
def scAddrEff (r : Req) (v : Nat) (s : State) : Res :=
  let w := bits v 19 16
  if 9 < w then abortR s .unsupportedValue else claimed s Grp.sc r (fun s => okR (scTo s (bits v 15 0) w true))
def execScAddrWrite (r : Req) (v : Nat) (s : State) : Host.Outcome State Fault Refusal :=
  done s (access s r K.scAddr true (scAddrEff r (v % 2 ^ 32)))

/-- The entry a staging copy stands for, on top of the live one. -/
def scFrom (e : ScEnt) (c : List Word) : ScEnt :=
  let ctrl := Nat.land (nth c 9) 0xDF7FFC00
  { e with sci := nth c 0 * 2 ^ 32 + nth c 1, window := if bit ctrl 30 then nth c 6 else 0, grace := nth c 7 % 2 ^ 16,
           ctrl := ctrl }

/-- The lowest lane `q` is that of a port faster than 100 Gb/s under the current GROUP_LAYOUT, whatever GROUP_MODE holds
(R54, R141): the lane counts of the layouts above 4, and 800GbE where both pairs of it have layout 10. -/
def fastPort (s : State) (q : Nat) : Bool :=
  let l := layout s (q / 4)
  if l = 10 then q % 8 == 0 && layout s (q / 4 + 1) == 10
  else pam4 l && (portsOf l).any (fun p => p.1 == q % 4 && decide (1 < p.2))

/-- A suite of 32-bit packet numbers on a port faster than 100 Gb/s (R141, R142). -/
def tooFast (s : State) (e : ScEnt) : Bool := !e.xpn && fastPort s e.port

/-- The states of an SA that hold its SC (R141, R147). -/
def saLive (st : Nat) : Bool := st == Sa.staged || st == Sa.skipped || st == Sa.active || st == Sa.grace

/-- The checks of a word-9 commit in their order (R140, R141, R153). -/
def scCheck (s : State) (old new : ScEnt) : Option Code :=
  if 3 < new.suite || bits new.ctrl 19 18 == 3 || new.tagsClear == 3 || new.grace == 0 then some .unsupportedValue
  else if old.an.any (fun w => bit w.2 31) && (new.inbound != old.inbound || new.port != old.port ||
      new.suite != old.suite || new.sci != old.sci) then some .wrongState
  else if old.valid && !new.valid && (List.range 4).any (fun a =>
      match old.handle a with | some h => saLive (saAt s h).st | none => false) then some .wrongState
  else if new.valid && tooFast s new then some .unsupportedValue
  else if new.inbound && new.xpn && decide (2 ^ 30 < new.window) then some .unsupportedValue
  else none

/-- The handles an SC's AN_MAP names. -/
def scHandles (e : ScEnt) : List Nat := (List.range 4).filterMap e.handle

/-- Entry `e` is stored: the predictor entries of its handles empty (R175); a migration's record of it ends where the entry
now stands for another channel (R161). -/
def scPut (s : State) (e : Nat) (new : ScEnt) : State :=
  let old := scAt s e
  let same := new.inbound == old.inbound && new.port == old.port && new.suite == old.suite && new.sci == old.sci
  let s := if same then s else { s with assoc := { s.assoc with moved := tdel s.assoc.moved e } }
  predDrop (setSc s e new) (fun h => (scHandles new).contains h)

/-- SC_DATA_WRITE (R140, R141): words 2–5 and 8 are ignored; word 9 commits the copy. -/
def scDataEff (r : Req) (v : Nat) (s : State) : Res :=
  claimed s Grp.sc r (fun s =>
    let (e, w) := scPtr s
    let c0 := stageOf s Grp.sc
    let c := if c0.isEmpty then scWords s e else c0
    let c := if (2 ≤ w && w ≤ 5) || w = 8 then c else lset c w v
    if w < 9 then okR (scTo (setStage s Grp.sc c) e (w + 1) false)
    else
      let old := scAt s e
      let new := scFrom old c
      match scCheck s old new with
      | some code => ⟨scTo s e 0 true, code, []⟩
      | none =>
        okR (scTo (release (scPut s e new) Grp.sc) (nextEntry 65536 e) 0 true))
def execScDataWrite (r : Req) (v : Nat) (s : State) : Host.Outcome State Fault Refusal :=
  done s (access s r K.scData true (scDataEff r (v % 2 ^ 32)))

/-- A read of SC_DATA: the live word. -/
def scDataRead (s : State) : Res :=
  let (e, w) := scPtr s
  let (e', w') := winNext 65536 10 e w
  okV (scTo s e' w' (w' == 0)) [nth (scWords s e) w]

/-- The eight words of SA entry `h` (R143). -/
def saWords (s : State) (h : Nat) : List Word :=
  let e := saAt s h
  [e.pn / 2 ^ 32 % 2 ^ 32, e.pn % 2 ^ 32, e.ssci, e.arm, b2n e.resv * 2 ^ 31 + e.node * 2 ^ 16 + e.epoch,
   e.ceiling / 2 ^ 32 % 2 ^ 32, e.ceiling % 2 ^ 32, b2n e.l1 * 2 ^ 29 + e.st * 2 ^ 26 + e.an * 2 ^ 16 + e.sc]

/-- The staging group of the SA window holds the copy and, behind it, the words as loaded. -/
def saTo (s : State) (h w : Nat) (load : Bool) : State :=
  let s := wr s K.saAddr (w * 2 ^ 20 + h)
  if load then setStage s Grp.sa (saWords s h ++ saWords s h) else s
def saPtr (s : State) : Nat × Nat := (rdField s K.saAddr 16 0, rdField s K.saAddr 22 20)

/-- SA_ADDR_WRITE (R143). -/
def saAddrEff (r : Req) (v : Nat) (s : State) : Res :=
  claimed s Grp.sa r (fun s => okR (saTo s (bits v 16 0) (bits v 22 20) true))
def execSaAddrWrite (r : Req) (v : Nat) (s : State) : Host.Outcome State Fault Refusal :=
  done s (access s r K.saAddr true (saAddrEff r (v % 2 ^ 32)))

/-- The entry a staging copy stands for; STATE, EPOCH and CEILING are the device's. -/
def saFrom (e : SaEnt) (c : List Word) : SaEnt :=
  { e with pn := nth c 0 * 2 ^ 32 + nth c 1, ssci := nth c 2, arm := nth c 3 % 16, resv := bit (nth c 4) 31,
           node := bits (nth c 4) 23 16, l1 := bit (nth c 7) 29, an := bits (nth c 7) 17 16, sc := bits (nth c 7) 15 0 }

/-- The SA's SC is outbound, and reservation applies to it (R147, R149). -/
def resvApplies (s : State) (e : SaEnt) : Bool := e.resv && !e.l1 && !(scAt s e.sc).inbound

/-- Another AN of SC `c` than `an` names a STAGED or SKIPPED SA of arm set `set` ≠ 0 (R143, R147). -/
def armClash (s : State) (c an set : Nat) : Bool :=
  set != 0 && (List.range 4).any (fun a => a != an &&
    (match (scAt s c).handle a with
     | some h => (saAt s h).arm == set && ((saAt s h).st == Sa.staged || (saAt s h).st == Sa.skipped)
     | none => false))

/-- The checks of a STAGE write in their order (R147). -/
def stageCheck (s : State) (h : Nat) (old new : SaEnt) : Option Code :=
  let c := scAt s new.sc
  if old.st = Sa.active ∨ old.st = Sa.grace then some .wrongState
  else if !new.l1 && !c.valid then some .wrongState
  else if !new.l1 && (match c.handle new.an with | some g => g != h && saLive (saAt s g).st | none => false) then
    some .wrongState
  else if !new.l1 && armClash s new.sc new.an new.arm then some .wrongState
  else if !new.l1 && tooFast s c then some .unsupportedValue
  else if new.pn = 0 then some .unsupportedValue
  else if !new.l1 && !c.xpn && decide (0xFFFFFFFE < new.pn) then some .unsupportedValue
  else none

/-- Stage (R147): STAGED, entered in AN_MAP; statistics restart (R366); with a reservation the ceiling starts at
NEXT_PN and a first block is wanted. -/
def stageSa (s : State) (h : Nat) (new : SaEnt) : State :=
  let new := { new with st := Sa.staged, thr := false, conf := false, asked := 0, acks := [], waitMove := false,
                        ceiling := if resvApplies s new then new.pn else new.ceiling }
  let s := predDrop (setSa s h new) (· == h)
  let s := setStat s h stat0
  if new.l1 then s
  else
    let c := scAt s new.sc
    setSc s new.sc { c with an := tset 0 c.an new.an (2 ^ 31 + h) }

/-- Retire (R148): the AN_MAP entry that names the handle clears, and CUR_VALID where it is the current SA.
DEDUCED (log entry 16). -/
def retireSa (s : State) (h : Nat) : State :=
  let e := saAt s h
  let s := saState s h Sa.retired
  let c := scAt s e.sc
  if e.l1 then s
  else
    let an := if c.handle e.an = some h then tset 0 c.an e.an 0 else c.an
    setSc s e.sc { c with an := an, cur := if c.cur = some h then none else c.cur }

/-- The writable fields of an SA entry's word (R143): a write of its reserved and read-only bits changes nothing (R16). -/
def saMask (w : Nat) : Nat := nth [2 ^ 32 - 1, 2 ^ 32 - 1, 2 ^ 32 - 1, 0xF, 0x80FF0000, 0, 0, 0x2003FFFF] w

/-- A field of word `w` of a copy differs from the one loaded. -/
def saChanged (c : List Word) (w : Nat) : Bool := Nat.land (nth c w) (saMask w) != Nat.land (nth c (8 + w)) (saMask w)

/-- The commit of word 7 with neither STAGE nor RETIRE (R143). -/
def saPlain (s : State) (h : Nat) (c : List Word) : Option Code × State :=
  let old := saAt s h
  let new := saFrom old c
  if old.st = Sa.active ∨ old.st = Sa.grace then (some .wrongState, s)
  else if old.st = Sa.staged ∨ old.st = Sa.skipped then
    if [0, 1, 4].any (saChanged c) || new.l1 != old.l1 || new.an != old.an || new.sc != old.sc then (some .wrongState, s)
    else if !old.l1 && new.arm != old.arm && armClash s old.sc old.an new.arm then (some .wrongState, s)
    else (none, setSa s h { old with ssci := new.ssci, arm := new.arm })
  else (none, setSa s h new)

/-- The commit point evaluates the armed commit of handle `h` (R37). -/
def evaluated (s : State) (h : Nat) : State := { s with assoc := { s.assoc with evald := s.assoc.evald ++ [h] } }

/-- A management write that reaches slot `h` in the clock in which the commit point evaluated its commit stalls 1 cc and is
counted (R37). -/
def commitStall (s : State) (h : Nat) : State :=
  if s.assoc.evald.contains h && s.tick.clock == s.assoc.evalAt then inc (passCc s 1) K.commitStalls 1 else s

/-- The write of word 7 (R143, R147, R148). DESIGN CHOICE (log entry 12). -/
def saCommit (s : State) (h : Nat) (c : List Word) : Option Code × State :=
  let w := nth c 7
  let old := saAt s h
  if bit w 31 && bit w 30 then (some .unsupportedValue, s)
  else if bit w 31 then
    let new := saFrom old c
    match stageCheck s h old new with
    | some code => (some code, s)
    | none => (none, stageSa s h new)
  else if bit w 30 then
    if (old.st = Sa.active ∨ old.st = Sa.grace) ∧ (List.range 7).any (saChanged c) then (some .wrongState, s)
    else (none, retireSa s h)
  else saPlain s h c

/-- A write of SA_DATA (R143): words 5 and 6 are ignored; word 7 commits. -/
def saDataEff (r : Req) (v : Nat) (s : State) : Res :=
  claimed s Grp.sa r (fun s =>
    let (h, w) := saPtr s
    let c0 := stageOf s Grp.sa
    let c := if c0.isEmpty then saWords s h ++ saWords s h else c0
    let c := if w = 5 || w = 6 then c else lset c w v
    if w < 7 then okR (saTo (setStage s Grp.sa c) h (w + 1) false)
    else
      match saCommit (commitStall s h) h c with
      | (some code, s) => ⟨saTo s h 0 true, code, []⟩
      | (none, s) => okR (saTo (release s Grp.sa) (nextEntry 131072 h) 0 true))
def execSaDataWrite (r : Req) (v : Nat) (s : State) : Host.Outcome State Fault Refusal :=
  done s (access s r K.saData true (saDataEff r (v % 2 ^ 32)))

/-- SA_STAGE (R147): a write of SA_DATA word 7 with STAGE set. -/
def execSaStage (r : Req) (v : Nat) (s : State) : Host.Outcome State Fault Refusal :=
  done s (access s r K.saData true (saDataEff r (setBit (v % 2 ^ 32) 31 true)))

/-- SA_RETIRE (R148): a write of SA_DATA word 7 with RETIRE set. -/
def execSaRetire (r : Req) (v : Nat) (s : State) : Host.Outcome State Fault Refusal :=
  done s (access s r K.saData true (saDataEff r (setBit (v % 2 ^ 32) 30 true)))

/-- A read of SA_DATA: the live word. -/
def saDataRead (s : State) : Res :=
  let (h, w) := saPtr s
  let (h', w') := winNext 131072 8 h w
  okV (saTo s h' w' (w' == 0)) [nth (saWords s h) w]

/-! Key slots. -/

/-- The handles a Layer-1 context's outbound cipher uses now (R104, R145): those of its active phase, while enabled. -/
def l1Uses (s : State) (h : Nat) : Bool :=
  s.lines.l1.any (fun e => bit e.2.ctrl 31 && (if e.2.phase then e.2.out1 else e.2.out0) == h)

/-- A slot whose key is in use: writes to it are refused (R145). DEDUCED (log entry 15). -/
def slotProtected (s : State) (h : Nat) : Bool :=
  (saAt s h).st == Sa.active || (saAt s h).st == Sa.grace || l1Uses s h

/-- ROOT_STATUS values (R239), and KEY_BLOCK (R273). -/
def Root.none : Nat := 0
def Root.ready : Nat := 1
def Root.failed : Nat := 2
def Root.cleared : Nat := 3
def keyBlock (s : State) : Bool := rdBit s K.onyxStatus 3

/-- Slot and word of KEY_ADDR; the window has no staging copy. -/
def keyTo (s : State) (h w : Nat) : State := wr s K.keyAddr (w * 2 ^ 24 + h)
def keyPtr (s : State) : Nat × Nat := (rdField s K.keyAddr 16 0, rdField s K.keyAddr 27 24)
def keyNext (h w : Nat) : Nat × Nat := winNext 131072 12 h w

/-- KEY_ADDR_WRITE: a word beyond 11 is refused. -/
def keyAddrEff (r : Req) (v : Nat) (s : State) : Res :=
  let w := bits v 27 24
  if 11 < w then abortR s .unsupportedValue else claimed s Grp.key r (fun s => okR (keyTo s (bits v 16 0) w))
def execKeyAddrWrite (r : Req) (v : Nat) (s : State) : Host.Outcome State Fault Refusal :=
  done s (access s r K.keyAddr true (keyAddrEff r (v % 2 ^ 32)))

/-- One word into a fill (R145): word 0 starts it, words written in order 0 to 10 complete it. DEDUCED (log entry 15). -/
def slotFill (x : Slot) (w v : Nat) : Slot :=
  if w = 0 then { x with words := lset x.words 0 v, complete := false, fill := some 1 }
  else match x.fill with
    | none => x
    | some n =>
      let x := { x with words := lset x.words w v }
      if n = w then
        if w = 10 then { x with complete := true, unwrapped := false, zeroised := false, fill := none }
        else { x with fill := some (w + 1) }
      else { x with fill := some 12 }

/-- KEY_DATA writes that are closed (R238, R246, R274). DEDUCED (log entry 15). -/
def keyClosed (s : State) (w : Nat) : Bool :=
  rd s K.rootStatus == Root.failed || (decide (w ≤ 10) && (rd s K.plaintextKeyEn == 0 || keyBlock s))

/-- KEY_DATA_WRITE (R145). A completed fill releases the group. DEDUCED (log entry 15). -/
def keyDataEff (r : Req) (v : Nat) (s : State) : Res :=
  let (h, w) := keyPtr s
  let x := slotAt s h
  if heldByOther s Grp.key r.ch then abortR s .wrongState
  else if keyClosed s w || slotProtected s h then abortR s .wrongState
  else if 1 ≤ w ∧ w ≤ 10 ∧ x.fill.isNone then abortR s .wrongState
  else
    let s := commitStall (claim s Grp.key r.ch) h
    let y := if w = 11 then x else slotFill x w v
    let s := if w = 11 then s else setSlot s h y
    let s := if w = 10 ∧ y.complete then release s Grp.key else s
    let (h', w') := keyNext h w
    okR (keyTo s h' w')
def execKeyDataWrite (r : Req) (v : Nat) (s : State) : Host.Outcome State Fault Refusal :=
  done s (access s r K.keyData true (keyDataEff r (v % 2 ^ 32)))

/-- A read of KEY_DATA: words 0–10 read 0, word 11 the status. -/
def keyDataRead (s : State) : Res :=
  let (h, w) := keyPtr s
  let x := slotAt s h
  let (h', w') := keyNext h w
  okV (keyTo s h' w') [if w = 11 then b2n x.zeroised * 4 + b2n x.unwrapped * 2 + b2n x.complete else 0]

/-- The key of `n` bytes and the salt of a slot. -/
def slotKey (x : Slot) (n : Nat) : List Byte := (wordsToBytes (x.words.take 8)).take n
def slotSalt (x : Slot) : List Byte := wordsToBytes (x.words.drop 8)

/-- A slot cleared by ZEROISE or by an uncorrectable error (R145, R159). -/
def slotClear (s : State) (h : Nat) : State :=
  predDrop (setSlot s h { slot0 with zeroised := true }) (· == h)

/-! Arming and committing. -/

/-- A stage is complete (R149). -/
def stageComplete (s : State) (h : Nat) : Bool :=
  let e := saAt s h
  (e.st == Sa.staged || e.st == Sa.skipped) && (slotAt s h).complete &&
  (e.l1 || ((scAt s e.sc).valid && (scAt s e.sc).handle e.an == some h)) && (!resvApplies s e || e.conf)

/-- An arm register of a key commit is written (R44, R154): re-armed or disarmed only while TICK_NUMBER < T − 1. -/
def armWrite (s : State) (old t : Nat) : Option Code :=
  if old ≠ none64 ∧ old ≤ tickNo s + 1 then some .lateCommit
  else if t = none64 then none
  else if armKeyOk s t then none else some .lateCommit

/-- ARM_TICK_WRITE (R38, R154). -/
def armTickEff (i t : Nat) (s : State) : Res :=
  match armWrite s (rd s (K.armTick i)) t with
  | some code => abortR s code
  | none => okR (wr s (K.armTick i) t)
def execArmTickWrite (r : Req) (set t : Nat) (s : State) : Host.Outcome State Fault Refusal :=
  done s (access s r (K.armTick set) true (armTickEff set (t % 2 ^ 64)))

/-- The node of an SA is this one (R402). -/
def saLocal (s : State) (e : SaEnt) : Bool := e.node == rd s K.fabNodeId

/-- Pass 1 of a commit over one set (R155): the new SA of each SC, the skipped handles. DEDUCED (log entry 16). -/
def commitPass1 (set : Nat) (s : State) (new : Tbl Nat) : State × Tbl Nat :=
  s.assoc.sa.foldl (fun (s, new) (h, _) =>
    let e := saAt s h
    if e.arm != set || e.l1 || !(e.st == Sa.staged || e.st == Sa.skipped) then (s, new)
    else
    let s := evaluated s h
    if !stageComplete s h then
      ({ saState s h Sa.skipped with assoc := { (saState s h Sa.skipped).assoc with skips := s.assoc.skips ++ [h] } }, new)
    else
      let s := match tget (2 ^ 17) new e.sc with
        | g => if g < 2 ^ 17 then retireSa s g else s
      (s, tset (2 ^ 17) new e.sc h)) (s, new)

/-- Pass 2 of a commit for one SC (R155): `h` becomes its current SA; the SA that was ACTIVE retires outbound, enters
grace inbound, where older graces retire first. DEDUCED (log entry 16). -/
def commitSwitch (s : State) (c h : Nat) : State :=
  let x := scAt s c
  let s := if x.inbound then
      let s := (scHandles x).foldl (fun s g =>
        if (saAt s g).st = Sa.grace ∧ (saAt s g).sc = c then retireSa s g else s) s
      match x.cur with
      | some g => if (saAt s g).st = Sa.active ∧ g ≠ h then
          setSa s g { saAt s g with st := Sa.grace, graceEnd := (tickNo s + x.grace) % 2 ^ 64 } else s
      | none => s
    else
      match x.cur with
      | some g => if (saAt s g).st = Sa.active ∧ g ≠ h then retireSa s g else s
      | none => s
  let s := setSa s h { saAt s h with st := Sa.active }
  setSc s c { scAt s c with cur := some h, curAn := (saAt s h).an, exh := false }

/-- The arm sets due at this commit point (R155): committed in rising order, then disarmed; skips are counted at cc 32.
DEDUCED (log entries 16, 17). -/
def commitSets (s : State) : State :=
  let due := ((List.range 15).map (· + 1)).filter (fun i => rd s (K.armTick i) != none64 && dueNow s (rd s (K.armTick i)))
  let s := { s with assoc := { s.assoc with skips := [], evald := [], evalAt := s.tick.clock } }
  let s := due.foldl (fun s i => markLate s (rd s (K.armTick i))) s
  let (s, new) := due.foldl (fun (s, new) i => commitPass1 i s new) (s, ([] : Tbl Nat))
  let s := new.foldl (fun s e => commitSwitch s e.1 e.2) s
  due.foldl (fun s i => wr s (K.armTick i) none64) s

/-- GRACE_END (R156): at the commit point of tick E + GRACE_TICKS the SA becomes RETIRED. DEDUCED (log entry 10). -/
def execGraceEnd (h : Nat) (s : State) : Host.Outcome State Fault Refusal :=
  done s (let s := toCc s 16
    if (saAt s h).st = Sa.grace ∧ dueNow s (saAt s h).graceEnd then retireSa s h else s)

/-- The report of skipped commits at cc 32 (R155). DEDUCED (log entry 16). -/
def skipReport (s : State) : State :=
  match s.assoc.skips with
  | [] => s
  | h :: l =>
    let lo := l.foldl Nat.min h
    let hi := l.foldl Nat.max h
    let s := inc s K.commitSkipped (l.length + 1)
    let s := wr (wr (wr (wr s K.skipTick (tickNo s)) K.skipCount (l.length + 1)) K.skipFirst lo) K.skipLast hi
    raise { s with assoc := { s.assoc with skips := [] } } Ev.saCommitSkipped (lo % 2 ^ 32) (l.length + 1)

/-! The scrubber. -/

/-- An uncorrectable error of one entry (R159): store 0 SA, 1 SC, 2 key slot. DESIGN CHOICE (log entry 59). -/
def eccHard (s : State) (t i : Nat) : State :=
  let s := match t with
    | 0 => saState s i Sa.fault
    | 1 => let s := setSc s i { scAt s i with ctrl := setBit (scAt s i).ctrl 31 false }
           predDrop s (fun h => (scHandles (scAt s i)).contains h)
    | _ => slotClear s i
  raise (wr (inc s K.scrubUncorr 1) K.scrubLast (t * 2 ^ 28 + i)) Ev.saEcc (t * 2 ^ 28 + i) 0

/-- An error found in a store: corrected, or uncorrectable. DESIGN CHOICE (log entry 59). -/
def eccHit (s : State) (e : EccHit) : State :=
  if 2 < e.table then s else if e.hard then eccHard s e.table e.index else inc s K.scrubCorrected 1

/-- SCRUB_STEP (R159): 128 SA entries, 64 SC entries and 128 slots; `hits` the errors it finds among them. A pass is
1,024 steps. DESIGN CHOICE (log entry 59). -/
def execScrubStep (hits : List EccHit) (s : State) : Host.Outcome State Fault Refusal :=
  done s (bgStep s 4 (fun s =>
    let n := s.assoc.scrub
    let inStep := fun (e : EccHit) => if e.table = 1 then e.index / 64 == n else e.index / 128 == n
    let s1 := (hits.filter inStep).foldl eccHit s
    let s1 := { s1 with assoc := { s1.assoc with scrub := (n + 1) % 1024 } }
    if n + 1 = 1024 then inc s1 K.scrubPasses 1 else s1))

/-! Reads that re-arm. -/

/-- RESV_DROPS_READ (R152). -/
def execResvDropsRead (r : Req) (s : State) : Host.Outcome State Fault Refusal :=
  done s (access s r K.resvDrops false (fun s => readPlain (rearm s K.resvDrops) K.resvDrops))

/-- MIGRATE_LATE_READ (R161). -/
def execMigrateLateRead (r : Req) (s : State) : Host.Outcome State Fault Refusal :=
  done s (access s r K.migrateLate false (fun s => readPlain (rearm s K.migrateLate) K.migrateLate))

/-- A layout that would put a valid SC of 32-bit packet numbers on a port above 100 Gb/s (R142). DEDUCED (log entry 54). -/
def layoutTooFast (s : State) (n v : Nat) : Bool :=
  let t := wr s (K.groupLayout n) v
  s.assoc.sc.any (fun e => e.2.valid && tooFast t e.2 && !tooFast s e.2)

/-- GROUP_LAYOUT_WRITE (R56, R142). DEDUCED (log entry 54). -/
def groupLayoutEff (n v : Nat) (s : State) : Res :=
  if layoutTooFast s n v then abortR s .wrongState else layoutEff n v s
def execGroupLayoutWrite (r : Req) (n v : Nat) (s : State) : Host.Outcome State Fault Refusal :=
  done s (access s r (K.groupLayout n) true (groupLayoutEff n (v % 256)))

end Sys2Proof.Machine
end

