-- ==== Sys2Proof/Machine/Parse.lean ====
section
/-! DEFINITION. The parser (R109–R115): field set, malformations, the fast and the slow window. A frame is its bytes from
the destination address up to but excluding the FCS; its length counts the four FCS bytes. -/

namespace Sys2Proof.Machine

/-- What the parser finds in a frame. `l3At` and `l4At` are byte offsets; `slow` says that the walk left the window;
`bad` the malformation of the L3 or L4 headers, if any; `done` that the upper-layer header was reached. -/
structure Parsed where
  tags    : List Nat
  etype   : Nat
  at_     : Nat
  sectag  : Bool
  tci     : Nat
  sl      : Nat
  pn      : Nat
  sci     : Nat
  secAt   : Nat
  l3      : Nat
  proto   : Nat
  dscp    : Nat
  frag    : Bool
  sip     : Nat
  dip     : Nat
  flow    : Nat
  sport   : Nat
  dport   : Nat
  tcpf    : Nat
  l4At    : Nat
  extN    : Nat
  bad     : Option Nat
  overl    : Bool

/-- Byte `i` and `n` bytes of a frame. -/
def byteAt (b : List Byte) (i : Nat) : Nat := nth b i
def half (b : List Byte) (i : Nat) : Nat := fieldBE b i 2

/-- VLAN tags from offset `at_` (R109): their TCI halfwords, and the offset of the EtherType behind them.
PRESUMED (log entry 20). -/
def walkTags (b : List Byte) : Nat → Nat → List Nat × Nat
  | 0, i => ([], i)
  | n + 1, i =>
    if (half b i = 0x8100 ∨ half b i = 0x88A8) ∧ i + 2 ≤ b.length then
      let (l, j) := walkTags b n (i + 4)
      (half b (i + 2) :: l, j)
    else ([], i)

/-- An IPv6 header number that names an extension header. PRESUMED (log entry 20). -/
def isExt (h : Nat) : Bool := h == 0 || h == 43 || h == 44 || h == 51 || h == 60 || h == 135

/-- Walk of an IPv6 extension chain: the upper-layer protocol and its offset, headers walked, whether a fragment header
names a later fragment; `.bad` where a header runs past `stop`. At most `n` headers, none starting at or past `win`. Behind
the fragment header of a non-first fragment the chain is walked on, a point the spec leaves open. DESIGN CHOICE (log entry 63). -/
inductive Chain where
  | upper (proto at_ n : Nat) (frag : Bool)
  | bad
  | unended (frag : Bool)

def walkExt (b : List Byte) (stop win : Nat) : Nat → Nat → Nat → Nat → Bool → Chain
  | 0, h, i, k, fr => if isExt h then .unended fr else if i < win then .upper h i k fr else .unended fr
  | n + 1, h, i, k, fr =>
    if !isExt h then (if i < win then .upper h i k fr else .unended fr)
    else if stop < i + 8 then .bad
    else if win < i + 8 then .unended fr
    else
      let len := if h = 44 then 8 else if h = 51 then (byteAt b (i + 1) + 2) * 4 else (byteAt b (i + 1) + 1) * 8
      if stop < i + len then .bad
      else walkExt b stop win n (byteAt b i) (i + len) (k + 1) (fr || (h == 44 && half b (i + 2) / 8 != 0))

/-- The ones'-complement sum of halfwords. -/
def sum16 (l : List Byte) : Nat :=
  let t := (chunks l.length 2 l).foldl (fun a x => a + ofBytes (x ++ List.replicate (2 - x.length) 0)) 0
  let t := t % 65536 + t / 65536
  t % 65536 + t / 65536

/-- The L2 part of a frame: tags, EtherType and SecTAG (R109, R111). More than two tags leave a SecTAG unread. L3 reads 3 for
every frame that is neither IPv4 nor IPv6: the spec names no frame for which it reads 0. DESIGN CHOICE (log entry 63). -/
def parseL2 (b : List Byte) : Parsed :=
  let (tags, i) := walkTags b 6 12
  let e := half b i
  let sec := e == 0x88E5 && decide (tags.length ≤ 2)
  let tci := byteAt b (i + 2)
  let sciLen := if bit tci 5 then 8 else 0
  { tags := tags, etype := e, at_ := i, sectag := sec, tci := if sec then tci else 0, sl := if sec then byteAt b (i + 3) else 0,
    pn := if sec then fieldBE b (i + 4) 4 else 0, sci := if sec && bit tci 5 then fieldBE b (i + 8) 8 else 0,
    secAt := i + 8 + sciLen, l3 := 3, proto := 0, dscp := 0, frag := false, sip := 0, dip := 0, flow := 0, sport := 0,
    dport := 0, tcpf := 0, l4At := 0, extN := 0, bad := none, overl := false }

/-- The TCP, UDP or ICMP fields at `i` (R110); reason 4 where a TCP or UDP header is cut off by the end of the frame.
PRESUMED (log entry 20). -/
def parseL4 (b : List Byte) (p : Parsed) (proto i : Nat) : Parsed :=
  let p := { p with proto := proto, l4At := i }
  if p.frag then p
  else if proto = 6 then
    if b.length < i + 20 ∨ b.length < i + byteAt b (i + 12) / 16 * 4 then { p with bad := some 4 }
    else { p with sport := half b i, dport := half b (i + 2), tcpf := byteAt b (i + 13) }
  else if proto = 17 then
    if b.length < i + 8 then { p with bad := some 4 } else { p with sport := half b i, dport := half b (i + 2) }
  else if proto = 1 ∨ proto = 58 then { p with dport := byteAt b i * 256 }
  else p

/-- The IPv4 header at `i` (R110, R113). -/
def parseV4 (b : List Byte) (p : Parsed) (i : Nat) : Parsed :=
  let ihl := byteAt b i % 16
  if byteAt b i / 16 ≠ 4 ∨ ihl < 5 ∨ b.length < i + 4 * ihl ∨ sum16 ((b.drop i).take (4 * ihl)) ≠ 0xFFFF ∨
      b.length < i + half b (i + 2) then { p with bad := some 3 }
  else
    let p := { p with l3 := 1, dscp := byteAt b (i + 1) / 4, frag := half b (i + 6) % 8192 != 0,
                      sip := fieldBE b (i + 12) 4, dip := fieldBE b (i + 16) 4 }
    parseL4 b p (byteAt b (i + 9)) (i + 4 * ihl)

/-- The IPv6 header at `i`, with a window of `win` bytes and `n` extension headers (R109, R113, R114). Of an upper-layer header
that straddles the window's end the fields inside the window are read. DEDUCED (log entry 63). -/
def parseV6 (b : List Byte) (p : Parsed) (i win n : Nat) : Parsed :=
  let stop := i + 40 + half b (i + 4)
  if b.length < i + 40 ∨ b.length < stop then { p with bad := some 3 }
  else
    let p := { p with l3 := 2, dscp := fieldBE b i 4 / 2 ^ 22 % 64, flow := fieldBE b i 4 % 2 ^ 20,
                      sip := fieldBE b (i + 8) 16, dip := fieldBE b (i + 24) 16 }
    match walkExt b (Nat.min stop b.length) win n (byteAt b (i + 6)) (i + 40) 0 false with
    | .bad => { p with l3 := 3, bad := some 3 }
    | .unended fr => { p with frag := fr, overl := true }
    | .upper proto j k fr =>
      let need := if proto = 6 then 14 else if proto = 17 then 4 else 1
      let x := parseL4 b { p with frag := fr, extN := k } proto j
      if fr || decide (j + need ≤ win) || decide (b.length < j + need) then x
      else { x with sport := if j + 2 ≤ win then x.sport else 0, dport := if j + 4 ≤ win then x.dport else 0,
                    tcpf := 0, bad := if j + 13 ≤ win then x.bad else none, overl := true }

/-- The headers behind the tags, in a window of `win` bytes and `n` extension headers. -/
def parseL3 (b : List Byte) (p : Parsed) (win n : Nat) : Parsed :=
  if p.sectag then p
  else if p.etype = 0x0800 then parseV4 b p (p.at_ + 2)
  else if p.etype = 0x86DD then parseV6 b p (p.at_ + 2) win n
  else p

/-- The fields after the second tag as R113 defines them where they are not parsed: L3 reads 3, the rest 0. -/
def noUpper (p : Parsed) : Parsed :=
  { p with l3 := 3, proto := 0, dscp := 0, frag := false, sip := 0, dip := 0, flow := 0, sport := 0, dport := 0, tcpf := 0,
           bad := none, overl := false }

/-- The fast parser (R109): 128 bytes, two tags, two extension headers. PRESUMED (log entry 20). -/
def parseFast (b : List Byte) : Parsed :=
  let p := parseL2 b
  if 2 < p.tags.length then { noUpper p with overl := decide (p.tags.length ≤ 4) } else parseL3 b p 128 2

/-- The slow parser (R114): 256 bytes, eight extension headers. PRESUMED (log entry 20). -/
def parseSlow (b : List Byte) : Parsed := parseL3 b (parseL2 b) 256 8

/-- SecTAG malformations (R113, reason 2). -/
def badSecTag (b : List Byte) (p : Parsed) : Bool :=
  p.sectag && (bit p.tci 7 || (bit p.tci 6 && bit p.tci 5) || (!bit p.tci 3 && bit p.tci 2) || decide (48 ≤ p.sl) ||
    decide (b.length < p.secAt + 16) || (p.sl != 0 && b.length - 16 - p.secAt != p.sl))

/-- The malformation of a frame, its lowest reason (R113): length limits `lo`..`hi` of its side (R22). -/
def malformed (b : List Byte) (fcsOk : Bool) (hi : Nat) (p : Parsed) : Option Nat :=
  if b.length + 4 < 64 ∨ hi < b.length + 4 then some 0
  else if !fcsOk then some 1
  else if badSecTag b p then some 2
  else match p.bad with
    | some r => some r
    | none => if 4 < p.tags.length then some 5 else none

/-- The key of R110 as ten words, W9 first; `cut` says that the fields behind the second tag were not parsed. -/
def keyWords (b : List Byte) (p : Parsed) (q : Nat) (slow cut : Bool) : List Word :=
  let dm := fieldBE b 0 6
  let sm := fieldBE b 6 6
  let t0 := nth p.tags 0
  let v6 := p.l3 == 2
  let et := if cut then 0 else p.etype
  [dm / 2 ^ 16, dm % 2 ^ 16 * 2 ^ 16 + sm / 2 ^ 32, sm % 2 ^ 32,
   et * 2 ^ 16 + t0 % 4096 * 16 + t0 / 2 ^ 13 * 2 + b2n p.sectag,
   nth p.tags 1 % 4096 * 2 ^ 20 + Nat.min 3 p.tags.length * 2 ^ 18 + p.l3 * 2 ^ 16 + p.proto * 256 + p.dscp * 4 +
     b2n p.frag * 2 + b2n slow,
   if v6 then p.sip / 2 ^ 96 else p.sip, if v6 then p.dip / 2 ^ 96 else p.dip, p.flow, p.sport * 2 ^ 16 + p.dport,
   q * 2 ^ 27 + p.tci * 2 ^ 19 + p.tcpf * 2 ^ 11]

/-- VID0 with the destination or source address, the key of a learning table (R131). -/
def macKey (p : Parsed) (mac : Nat) : Nat := nth p.tags 0 % 4096 * 2 ^ 48 + mac

end Sys2Proof.Machine
end

