-- ==== Sys2Proof/Machine/Sched.lean ====
section
/-! DEFINITION. Queues, flows, shapers, gate control lists and policers (R321–R338): their windows and their time-driven
parts. -/

namespace Sys2Proof.Machine

/-- A token bucket brought up to core clock `c` (R328): RATE Mb/s credits RATE/10,000 bytes a core clock, never beyond
BURST; an unshaped bucket is full. -/
def bucketAt (rate burst : Nat) (t : Option (Int × Nat)) (c : Nat) : Int :=
  match t with
  | none => burst * 10000
  | some (v, c0) => if rate = 0 then burst * 10000 else
      let x := v + (c - c0 : Nat) * rate
      if (burst * 10000 : Int) < x then burst * 10000 else x

/-- Take `n` bytes from a bucket. -/
def bucketTake (rate burst : Nat) (t : Option (Int × Nat)) (c n : Nat) : Option (Int × Nat) :=
  some (bucketAt rate burst t c - n * 10000, c)

/-- A bucket under new settings keeps its content, clipped (R328). DEDUCED (log entry 55). -/
def bucketKeep (rate burst rate' burst' : Nat) (t : Option (Int × Nat)) (c : Nat) : Option (Int × Nat) :=
  let x := bucketAt rate burst t c
  some (if rate' = 0 then burst' * 10000 else if (burst' * 10000 : Int) < x then burst' * 10000 else x, c)

/-! Flows and queues. -/

/-- The flow entry of slice `k`, and its change. -/
def flowAt (s : State) (k f : Nat) : Nat := tget 0 s.dp.flows (k * 1024 + f)

/-- FLOW_DATA_WRITE (R324): QBASE a multiple of 8; the address advances. DEDUCED (log entry 55). -/
def flowDataEff (k : Nat) (r : Req) (v : Nat) (s : State) : Res :=
  if heldByOther s (Grp.flow k) r.ch then abortR s .wrongState
  else if v % 8 ≠ 0 then abortR (claim s (Grp.flow k) r.ch) .unsupportedValue
  else
    let f := rd s (K.flowAddr k)
    let s := { s with dp := { s.dp with flows := tset 0 s.dp.flows (k * 1024 + f) (Nat.land v 0x80000FFF) } }
    okR (wr (release s (Grp.flow k)) (K.flowAddr k) ((f + 1) % 1024))
def execFlowDataWrite (r : Req) (k v : Nat) (s : State) : Host.Outcome State Fault Refusal :=
  done s (access s r (K.flowData k) true (flowDataEff k r (v % 2 ^ 32)))

/-- A write of FLOW_ADDR, and a read of FLOW_DATA. -/
def flowAddrEff (k : Nat) (r : Req) (v : Nat) (s : State) : Res :=
  claimed s (Grp.flow k) r (fun s => okR (wr s (K.flowAddr k) (v % 1024)))
def flowDataRead (k : Nat) (s : State) : Res :=
  let f := rd s (K.flowAddr k)
  okV (wr s (K.flowAddr k) ((f + 1) % 1024)) [flowAt s k f]

/-- Queue `i` of slice `k`, as reset leaves it where it was never set (R325), and its change. -/
def que0 (k : Nat) : Que := ⟨8 * k, 1536, 4096, 0, 16384, 0, 0, 0, 0, 0, none⟩
def queAt (s : State) (k i : Nat) : Que := (tget none s.dp.ques (k * 4096 + i)).getD (que0 k)
def setQue (s : State) (k i : Nat) (x : Que) : State :=
  { s with dp := { s.dp with ques := tset none s.dp.ques (k * 4096 + i) (if x = que0 k then none else some x) } }

/-- The eight words of a queue. -/
def queWords (x : Que) : List Word :=
  [x.port * 2 ^ 24 + x.quantum, x.maxCells, x.rate, x.burst, x.depth, x.depthHw, x.sojourn, x.drops]

def quePtr (s : State) (k : Nat) : Nat × Nat := (rdField s (K.queueAddr k) 11 0, rdField s (K.queueAddr k) 18 16)
def queTo (s : State) (k i w : Nat) (load : Bool) : State :=
  let s := wr s (K.queueAddr k) (w * 2 ^ 16 + i)
  if load then setStage s (Grp.queue k) (queWords (queAt s k i)) else s

/-- QUEUE_ADDR_WRITE (R325). -/
def queueAddrEff (k : Nat) (r : Req) (v : Nat) (s : State) : Res :=
  claimed s (Grp.queue k) r (fun s => okR (queTo s k (bits v 11 0) (bits v 18 16) true))
def execQueueAddrWrite (r : Req) (k v : Nat) (s : State) : Host.Outcome State Fault Refusal :=
  done s (access s r (K.queueAddr k) true (queueAddrEff k r (v % 2 ^ 32)))

/-- The settings a copy gives a queue; with CLEAR_HW its high-water words restart. -/
def queFrom (s : State) (x : Que) (c : List Word) : Que :=
  let rate := nth c 2 % 2 ^ 20
  let burst := nth c 3 % 2 ^ 24
  let clr := bit (nth c 3) 31
  { x with port := bits (nth c 0) 28 24, quantum := nth c 0 % 2 ^ 16, maxCells := nth c 1 % 2 ^ 21, rate := rate,
           burst := burst, depthHw := if clr then x.depth else x.depthHw, sojourn := if clr then 0 else x.sojourn,
           tok := bucketKeep x.rate x.burst rate burst x.tok s.tick.clock }

/-- The checks of a queue commit (R325). -/
def queCheck (k : Nat) (old new : Que) : Option Code :=
  if new.port / 8 ≠ k ∨ new.quantum < 64 ∨ 1048576 < new.maxCells ∨ 800000 < new.rate ∨ new.burst < 64 then
    some .unsupportedValue
  else if new.port ≠ old.port ∧ old.depth ≠ 0 then some .wrongState else none

/-- QUEUE_DATA_WRITE (R325): word 3 commits words 0–3, the pointer then at word 4; words 4–7 are ignored.
DEDUCED (log entry 55). -/
def queueDataEff (k : Nat) (r : Req) (v : Nat) (s : State) : Res :=
  claimed s (Grp.queue k) r (fun s =>
    let (i, w) := quePtr s k
    let c0 := stageOf s (Grp.queue k)
    let c := if c0.isEmpty then queWords (queAt s k i) else c0
    if w < 3 then okR (queTo (setStage s (Grp.queue k) (lset c w v)) k i (w + 1) false)
    else if w = 3 then
      let old := queAt s k i
      let new := queFrom s old (lset c 3 v)
      match queCheck k old new with
      | some code => ⟨queTo s k i 0 true, code, []⟩
      | none => okR (queTo (release (setQue s k i new) (Grp.queue k)) k i 4 true)
    else
      let (i', w') := winNext 4096 8 i w
      okR (queTo s k i' w' (w' == 0)))
def execQueueDataWrite (r : Req) (k v : Nat) (s : State) : Host.Outcome State Fault Refusal :=
  done s (access s r (K.queueData k) true (queueDataEff k r (v % 2 ^ 32)))

/-- A read of QUEUE_DATA. -/
def queueDataRead (k : Nat) (s : State) : Res :=
  let (i, w) := quePtr s k
  let (i', w') := winNext 4096 8 i w
  okV (queTo s k i' w' (w' == 0)) [nth (queWords (queAt s k i)) w]

/-- TAIL_DROPS_READ (R321). -/
def execTailDropsRead (r : Req) (k : Nat) (s : State) : Host.Outcome State Fault Refusal :=
  done s (access s r (K.tailDrops k) false (fun s => readPlain (rearm s (K.tailDrops k)) (K.tailDrops k)))

/-- A write of BUF_LIMIT (R322): the four limits within the buffer. -/
def bufLimitEff (k v : Nat) (s : State) : Res :=
  let sum := (List.range 4).foldl (fun a i => a + if i = k then v else rd s (K.bufLimit i)) 0
  if 1048576 < v ∨ 1048576 < sum then abortR s .unsupportedValue else okR (wr s (K.bufLimit k) v)

/-- The port's token bucket, and a write of PORT_RATE or PORT_BURST (R328). -/
def portBucket (s : State) (q : Nat) : Int :=
  bucketAt (rd s (K.portRate q)) (rd s (K.portBurst q)) (tget none s.dp.portTok q) s.tick.clock
def setPortTok (s : State) (q : Nat) (t : Option (Int × Nat)) : State :=
  { s with dp := { s.dp with portTok := tset none s.dp.portTok q t } }
def portShaperEff (q k v : Nat) (s : State) : Res :=
  let rate := rd s (K.portRate q)
  let burst := rd s (K.portBurst q)
  let x := writePlain s k v
  if x.code = .ok then
    okR (setPortTok x.st q
      (bucketKeep rate burst (rd x.st (K.portRate q)) (rd x.st (K.portBurst q)) (tget none s.dp.portTok q) s.tick.clock))
  else x

/-! Policers. -/

/-- Policer `n` of slice `i`, and its change (R337). -/
def pol0 : Pol := ⟨0, 16384, 0, 16384, 0, 0, 0, 0, none, none⟩
def polAt (s : State) (i n : Nat) : Pol := (tget none s.dp.pols (i * 1024 + n)).getD pol0
def setPol (s : State) (i n : Nat) (x : Pol) : State :=
  { s with dp := { s.dp with pols := tset none s.dp.pols (i * 1024 + n) (if x = pol0 then none else some x) } }

/-- The eight words of a policer. -/
def polWords (x : Pol) : List Word := [x.cir, x.cbs, x.pir, x.pbs, x.ctl, x.green, x.yellow, x.red]
def polPtr (s : State) (i : Nat) : Nat × Nat := (rdField s (K.polAddr i) 9 0, rdField s (K.polAddr i) 18 16)
def polTo (s : State) (i n w : Nat) (load : Bool) : State :=
  let s := wr s (K.polAddr i) (w * 2 ^ 16 + n)
  if load then setStage s (Grp.pol i) (polWords (polAt s i n)) else s

/-- POL_ADDR_WRITE (R337). -/
def polAddrEff (i : Nat) (r : Req) (v : Nat) (s : State) : Res :=
  claimed s (Grp.pol i) r (fun s => okR (polTo s i (bits v 9 0) (bits v 18 16) true))
def execPolAddrWrite (r : Req) (i v : Nat) (s : State) : Host.Outcome State Fault Refusal :=
  done s (access s r (K.polAddr i) true (polAddrEff i r (v % 2 ^ 32)))

/-- The settings a copy gives a policer. -/
def polFrom (s : State) (x : Pol) (c : List Word) : Pol :=
  let cir := nth c 0 % 2 ^ 20
  let cbs := nth c 1 % 2 ^ 24
  let pir := nth c 2 % 2 ^ 20
  let pbs := nth c 3 % 2 ^ 24
  { x with cir := cir, cbs := cbs, pir := pir, pbs := pbs, ctl := Nat.land (nth c 4) 0xFF01,
           ctok := bucketKeep x.cir x.cbs cir cbs x.ctok s.tick.clock,
           ptok := bucketKeep x.pir x.pbs pir pbs x.ptok s.tick.clock }

/-- A policer's settings within R337's ranges. -/
def polOk (x : Pol) : Bool :=
  decide (x.cir ≤ 800000) && decide (64 ≤ x.cbs) && decide (x.cir ≤ x.pir) && decide (x.pir ≤ 800000) &&
  decide (64 ≤ x.pbs) && decide (-64 ≤ toSigned 8 (bits x.ctl 15 8))

/-- POL_DATA_WRITE (R337): word 4 commits words 0–4, the pointer then at word 5; words 5–7 are ignored.
DEDUCED (log entry 55). -/
def polDataEff (i : Nat) (r : Req) (v : Nat) (s : State) : Res :=
  claimed s (Grp.pol i) r (fun s =>
    let (n, w) := polPtr s i
    let c0 := stageOf s (Grp.pol i)
    let c := if c0.isEmpty then polWords (polAt s i n) else c0
    if w < 4 then okR (polTo (setStage s (Grp.pol i) (lset c w v)) i n (w + 1) false)
    else if w = 4 then
      let new := polFrom s (polAt s i n) (lset c 4 v)
      if polOk new then okR (polTo (release (setPol s i n new) (Grp.pol i)) i n 5 true)
      else ⟨polTo s i n 0 true, .unsupportedValue, []⟩
    else
      let (n', w') := winNext 1024 8 n w
      okR (polTo s i n' w' (w' == 0)))
def execPolDataWrite (r : Req) (i v : Nat) (s : State) : Host.Outcome State Fault Refusal :=
  done s (access s r (K.polData i) true (polDataEff i r (v % 2 ^ 32)))

/-- A read of POL_DATA. -/
def polDataRead (i : Nat) (s : State) : Res :=
  let (n, w) := polPtr s i
  let (n', w') := winNext 1024 8 n w
  okV (polTo s i n' w' (w' == 0)) [nth (polWords (polAt s i n)) w]

/-- The two-rate three-colour meter of RFC 2698, colour-blind, on a delivered length (R337): false where the frame is
red, or yellow under YELLOW_DROP. -/
def polMeter (s : State) (i n len : Nat) : State × Bool :=
  let x := polAt s i n
  if x.cir = 0 then (setPol s i n { x with green := (x.green + 1) % 2 ^ 32 }, true)
  else
    let adj := (len : Int) + toSigned 8 (bits x.ctl 15 8)
    let b : Int := (if adj < 1 then 1 else adj) * 10000
    let c := s.tick.clock
    let tc := bucketAt x.cir x.cbs x.ctok c
    let tp := bucketAt x.pir x.pbs x.ptok c
    if tp < b then (setPol s i n { x with red := (x.red + 1) % 2 ^ 32, ctok := some (tc, c), ptok := some (tp, c) }, false)
    else if tc < b then
      (setPol s i n { x with yellow := (x.yellow + 1) % 2 ^ 32, ctok := some (tc, c), ptok := some (tp - b, c) },
       !bit x.ctl 0)
    else (setPol s i n { x with green := (x.green + 1) % 2 ^ 32, ctok := some (tc - b, c), ptok := some (tp - b, c) }, true)

/-! Gate control lists. -/

/-- One nanosecond in units of a time base. -/
def nsU : Nat := 2 ^ 32

/-- The gates of port `q`, and their change. -/
def gate0 : GateSet := ⟨[], none, none, []⟩
def gateAt (s : State) (q : Nat) : GateSet := tget gate0 s.dp.gates q
def setGate (s : State) (q : Nat) (x : GateSet) : State := { s with dp := { s.dp with gates := tset gate0 s.dp.gates q x } }

/-- GATE_STATUS.ARMED and ACTIVE. -/
def gateArmed (s : State) (q : Nat) : Bool := rdBit s (K.gateStatus q) 1

/-- Writes of GATE_CTRL, GATE_BASE and GATE_CYCLE (R331). -/
def gateParamEff (q k : Nat) (r : Req) (v : Nat) (s : State) : Res :=
  if gateArmed s q then abortR s .wrongState
  else if heldByOther s (Grp.gate q) r.ch then abortR s .wrongState
  else
    let v := if k = K.gateCtrl q then Nat.land v 0x07FF0013 else v
    if k = K.gateCtrl q && decide (1024 < bits v 26 16) then abortR s .unsupportedValue
    else writePlain (claim s (Grp.gate q) r.ch) k v

/-- A write of GATE_ADDR. -/
def gateAddrEff (q : Nat) (r : Req) (v : Nat) (s : State) : Res :=
  claimed s (Grp.gate q) r (fun s => okR (wr s (K.gateAddr q) (Nat.land v 0x87FF)))

/-- GATE_DATA_WRITE (R330, R331): a word of the standby list; the address advances. -/
def gateDataEff (q : Nat) (r : Req) (v : Nat) (s : State) : Res :=
  let a := rd s (K.gateAddr q)
  if gateArmed s q || bit a 15 then abortR s .wrongState
  else claimed s (Grp.gate q) r (fun s =>
    let x := gateAt s q
    let v := if a % 2 = 0 then v % 256 else v
    okR (wr (setGate s q { x with words := tset 0 x.words (a % 2048) v }) (K.gateAddr q) ((a + 1) % 2048)))
def execGateDataWrite (r : Req) (q v : Nat) (s : State) : Host.Outcome State Fault Refusal :=
  done s (access s r (K.gateData q) true (gateDataEff q r (v % 2 ^ 32)))

/-- Words of a list as GATE_DATA shows them. -/
def gateWordsOf (l : List (Nat × Nat)) : List Nat := l.flatMap (fun e => [e.1, e.2])

/-- A read of GATE_DATA: the standby list, or with bit 15 the active one. -/
def gateDataRead (q : Nat) (s : State) : Res :=
  let a := rd s (K.gateAddr q)
  let x := gateAt s q
  let v := if bit a 15 then
      (match x.active with | some l => nth (gateWordsOf l.ents) (a % 2048) | none => 0)
    else tget 0 x.words (a % 2048)
  okV (wr s (K.gateAddr q) (a / 2 ^ 15 * 2 ^ 15 + (a + 1) % 2048)) [v]

/-- D of R332 in core clocks: 68 with RS FEC, 56 without. -/
def gateDelay (s : State) (q : Nat) : Nat := if fecOf s q .line = 1 then 56 else 68

/-- A value of GATE_BASE or GATE_START in units of a time base, and back. -/
def baseUnits (v : Nat) : Nat := (v / 2 ^ 32 * 1000000000 + v % 2 ^ 32) * nsU
def unitsBase (u : Nat) : Nat := u / tbSecond % 2 ^ 48 * 2 ^ 32 + u % tbSecond / nsU

/-- The standby list as GATE_CTRL describes it. -/
def gateStandby (s : State) (q : Nat) : List (Nat × Nat) :=
  (List.range (rdField s (K.gateCtrl q) 26 16)).map (fun i =>
    (tget 0 (gateAt s q).words (2 * i), tget 0 (gateAt s q).words (2 * i + 1)))

/-- A list within R330. -/
def gateListOk (ents : List (Nat × Nat)) (cycle : Nat) : Bool :=
  decide (1 ≤ ents.length) && decide (ents.length ≤ 1024) && decide (1000 ≤ cycle) && decide (cycle ≤ 1000000000) &&
  ents.all (fun e => decide (32 ≤ e.2) && decide (e.2 ≤ 1000000000)) &&
  decide ((ents.map (·.2)).foldl (· + ·) 0 ≤ cycle)

/-- The tick that contains TB0 time `u` (R332): the current one up to its end, then nominal ticks. -/
def tickOf (s : State) (u : Int) : Nat :=
  if u < s.tick.target then tickNo s else tickNo s + 1 + ((u - s.tick.target) / tickUnits).toNat

/-- S − D of a start, converted to TB0 time with the offset between the time bases now. -/
def gateSwapTime (s : State) (q n start : Nat) : Int :=
  (start : Int) - ccUnits (gateDelay s q) - tbNow s n + tbNow s 0

/-- The first start at or after `u` whose swap tick is at least two ahead. -/
def gateStart (s : State) (q n base cyc : Nat) : Nat → Nat → Nat
  | 0, m => base + m * cyc
  | f + 1, m =>
    if tickNo s + 2 ≤ tickOf s (gateSwapTime s q n (base + m * cyc)) then base + m * cyc
    else gateStart s q n base cyc f (m + 1)

/-- GATE_STATUS.RESULT. -/
def gateResult (s : State) (q v : Nat) : State := wrField s (K.gateStatus q) 7 4 v

/-- GATE_ARM (R331, R38): 1 arms the standby list, 2 disarms, GATE_START being that of the active list again.
DEDUCED (log entry 55). -/
def gateArmEff (q : Nat) (r : Req) (v : Nat) (s : State) : Res :=
  if v = 2 then
    if heldByOther s (Grp.gate q) r.ch then abortR s .wrongState
    else if !gateArmed s q then okR (release s (Grp.gate q))
    else if rd s (K.gateSwapTick q) ≤ tickNo s + 1 then abortR s .lateCommit
    else
      let s := setGate (release s (Grp.gate q)) q { gateAt s q with armed := none }
      let start := match (gateAt s q).active with | some g => unitsBase g.start | none => 0
      okR (wr (wr (wrBit s (K.gateStatus q) 1 false) (K.gateSwapTick q) none64) (K.gateStart q) start)
  else if v ≠ 1 then abortR s .unsupportedValue
  else if gateArmed s q || heldByOther s (Grp.gate q) r.ch then abortR s .wrongState
  else
    let n := rdField s (K.gateCtrl q) 1 0
    let strict := rdBit s (K.gateCtrl q) 4
    let ents := gateStandby s q
    let cycle := rd s (K.gateCycle q)
    if !gateListOk ents cycle then ⟨gateResult s q 3, .unsupportedValue, []⟩
    else if !tbValid s n then ⟨gateResult s q 5, .wrongState, []⟩
    else if !tickValid s then abortR s .lateCommit
    else
      let now := tbNow s n
      let base := baseUnits (rd s (K.gateBase q))
      let cyc := cycle * nsU
      let m0 := (now + 20000 * nsU - base + cyc - 1) / cyc
      let start := gateStart s q n base cyc 32 m0
      let t := tickOf s (gateSwapTime s q n start)
      if strict && start != base then ⟨raise (gateResult s q 2) Ev.gateBasePast q 0, .lateCommit, []⟩
      else if 2 ^ 31 < t - tickNo s then ⟨gateResult s q 4, .unsupportedValue, []⟩
      else
        let s := setGate (release s (Grp.gate q)) q
          { gateAt s q with armed := some ⟨ents, cycle, n, rd s (K.gateBase q), strict, start⟩ }
        let s := wrBit (gateResult s q 1) (K.gateStatus q) 1 true
        okR (wr (wr s (K.gateSwapTick q) t) (K.gateStart q) (unitsBase start))
def execGateArm (r : Req) (q : Nat) (s : State) : Host.Outcome State Fault Refusal :=
  done s (access s r (K.gateArm q) true (gateArmEff q r 1))
def execGateDisarm (r : Req) (q : Nat) (s : State) : Host.Outcome State Fault Refusal :=
  done s (access s r (K.gateArm q) true (gateArmEff q r 2))

/-- Index of the entry in force `p` into a cycle. -/
def gateIdx : List (Nat × Nat) → Nat → Nat
  | [], _ => 0
  | [_], _ => 0
  | e :: l, p => if p < e.2 * nsU then 0 else gateIdx l (p - e.2 * nsU) + 1

/-- The entry of a list that governs time `u` (R330, R333): entry 0 before its start. -/
def gateEntry (g : GateList) (u : Int) : Nat :=
  if u < g.start then 0 else gateIdx g.ents ((u - g.start).toNat % (g.cycle * nsU))
def gateMask (g : GateList) (u : Int) : Nat := (g.ents.getD (gateEntry g u) (255, 0)).1

/-- Time base `n` moved by `cc` core clocks. -/
def tbPlus (s : State) (n : Nat) (cc : Int) : Int := (tbNow s n : Int) + ccUnits cc

/-- The gate states now, a closing acting D ahead of its time and an opening 4 cc later (R332). -/
def gatesNow (s : State) (q : Nat) (g : GateList) : Nat :=
  let d : Int := gateDelay s q
  Nat.land (gateMask g (tbPlus s g.tb d)) (gateMask g (tbPlus s g.tb (d - 4)))

/-- GATES, ENTRY and LEAD_IN brought up to date (R332, R335). -/
def gateRefresh (s : State) (q : Nat) : State :=
  match (gateAt s q).active with
  | none => s
  | some g =>
    let u := tbPlus s g.tb (gateDelay s q)
    let s := wrField (wrField s (K.gateStatus q) 15 8 (gatesNow s q g)) (K.gateStatus q) 26 16 (gateEntry g u)
    wrBit s (K.gateStatus q) 2 (decide (u < g.start))

/-- GATE_EVENT (R332): the gate states of the current time take effect. -/
def execGateEvent (q : Nat) (s : State) : Host.Outcome State Fault Refusal := done s (gateRefresh s q)

/-- Every active list on time base `n` continues from its new time (R335). DEDUCED (log entry 55). -/
def gateFollow (s : State) (n : Nat) : State :=
  s.dp.gates.foldl (fun s e => match e.2.active with
    | some g => if g.tb = n then gateRefresh s e.1 else s
    | none => s) s

/-- The longest time in ns class `tc` stays open in one go over the cycle; none where it never closes. -/
def gateSpan (g : GateList) (tc : Nat) : Option Nat :=
  let used := (g.ents.dropLast.map (·.2)).foldl (· + ·) 0
  let ents := g.ents.dropLast ++ [((g.ents.getLastD (0, 0)).1, g.cycle - used)]
  if ents.all (fun e => bit e.1 tc) then none
  else some ((ents ++ ents).foldl (fun (m, run) e =>
    let run := if bit e.1 tc then run + e.2 else 0
    (Nat.max m run, run)) (0, 0)).1

/-- The swap of an armed list at the commit point of T (R333, R334): the old list becomes the standby one.
DEDUCED (log entries 17, 19). -/
def gateCommit (s : State) (q : Nat) : State :=
  let x := gateAt s q
  match x.armed with
  | none => s
  | some g =>
    if dueNow s (rd s (K.gateSwapTick q)) then
      let s := markLate s (rd s (K.gateSwapTick q))
      let ws := match x.active with
        | some o => (gateWordsOf o.ents).foldl (fun (t, i) v => (tset 0 t i v, i + 1)) (([] : Tbl Nat), 0) |>.1
        | none => []
      let s := match x.active with
        | some o => wr (wr (wr s (K.gateCtrl q) (o.ents.length * 2 ^ 16 + b2n o.strict * 16 + o.tb)) (K.gateBase q) o.base)
            (K.gateCycle q) o.cycle
        | none => s
      let s := setGate s q ⟨ws, none, some g, (List.range 8).map (fun t => (gateSpan g t).getD 0)⟩
      let s := wr (wrBit (wrBit s (K.gateStatus q) 1 false) (K.gateStatus q) 0 true) (K.gateSwapTick q) none64
      raise (gateRefresh s q) Ev.gateSwapped q 0
    else s

/-- Class `tc` of a list stays open from time `u` for `need` units, over entry boundaries and cycle ends.
DEDUCED (log entry 55). -/
def gateOpenFor (g : GateList) (tc : Nat) : Nat → Int → Int → Bool
  | 0, _, _ => true
  | f + 1, u, need =>
    if need ≤ 0 then true
    else if !bit (gateMask g u) tc then false
    else
      let next : Int :=
        if u < g.start then g.start
        else
          let p := (u - g.start).toNat % (g.cycle * nsU)
          let i := gateIdx g.ents p
          let stop := if i + 1 = g.ents.length then g.cycle else ((g.ents.take (i + 1)).map (·.2)).foldl (· + ·) 0
          u + ((stop * nsU : Nat) : Int) - p
      if need ≤ next - u then true else gateOpenFor g tc f next (need - (next - u))

/-- A head of `cc` core clocks on the line fits its gate (R334): the gate stays open until D and the frame have passed,
over a swap already armed. DEDUCED (log entry 55). -/
def gateFits (s : State) (q tc cc : Nat) : Bool :=
  let x := gateAt s q
  let d : Int := gateDelay s q
  let need := ccUnits cc
  let swapIn : Int := match x.armed with
    | some _ => ccUnits (12500 * (rd s (K.gateSwapTick q) - tickNo s : Nat) + 16 - (s.tick.clock - s.tick.start : Nat)) + ccUnits d
    | none => need + 1
  let n := 2 * 1024 + 2
  let first := if swapIn < need + ccUnits d then swapIn - ccUnits d else need
  (match x.active with
   | some g => gateOpenFor g tc n (tbPlus s g.tb d) first
   | none => true) &&
  (match x.armed with
   | some g => decide (need ≤ first) || gateOpenFor g tc n (tbPlus s g.tb d + first) (need - first)
   | none => true)

end Sys2Proof.Machine
end

