-- ==== Sys2Proof/Machine/Classify.lean ====
section
/-! DEFINITION. The classifier (R113–R120): handling of malformed frames, the rules' match, and the one result of a
frame. -/

namespace Sys2Proof.Machine

/-- Actions of a result word (R116), and its fields. -/
def Act.secure : Nat := 1
def Act.bypass : Nat := 2
def Act.drop : Nat := 3
def Act.mark : Nat := 4
def resTc (v : Nat) : Nat := bits v 28 26
def resFlow (v : Nat) : Nat := bits v 25 16
def resSc (v : Nat) : Nat := bits v 15 0

/-- A valid rule matches a key (R122). -/
def ruleMatch (rule key : List Word) : Bool :=
  bit (nth rule 21) 31 &&
  (List.range 10).all (fun i => Nat.land (nth key i) (nth rule (10 + i)) == Nat.land (nth rule i) (nth rule (10 + i)))

/-- The matching rule of slice `j` with the lowest number. -/
def ruleFind (s : State) (j : Nat) (key : List Word) : Option (Nat × List Word) :=
  (s.tables.rules.find? (fun e => e.1 / 4096 == j && ruleMatch e.2 key)).map (fun e => (e.1 % 4096, e.2))

/-- The address the longest-prefix stage looks up (R130): none for a frame without IP fields (R118). -/
def lpmAddress (s : State) (j : Nat) (p : Parsed) : Option Nat :=
  if p.l3 ≠ 1 ∧ p.l3 ≠ 2 then none
  else match rdField s (K.classCtrl j) 1 0 with
    | 0 => some p.dip
    | 1 => some p.sip
    | _ => none

/-- The learned result of an outbound frame of slice `j` and port `q` (R133). -/
def learnedRes (s : State) (j q : Nat) (key : Nat) : Option Nat :=
  match (learnFindAt s j key).bind (learnAt s j) with
  | some x => if x.port = q then
      some (Act.secure * 2 ^ 29 + bits (rd s (K.outDefault q)) 28 16 * 2 ^ 16 + (x.sc + rd s (K.learnOffset j)) % 65536)
    else none
  | none => none

/-- The words a frame's lookups read and find with bad parity (R135): of the slice's rules, all compared with the key at once,
and of the buckets the prefix probe and the learning lookup read. -/
def parityFound (s : State) (j : Nat) (inb : Bool) (p : Parsed) (mac : Nat) : List (Nat × Nat) :=
  let a := (s.tables.parity.filter (fun w => w / 2 ^ 18 == j)).map (fun w => (j, w % 2 ^ 18))
  let b := (match lpmAddress s j p with
    | some x => ((lpmProbed s (p.l3 == 2) x).filter (parityBad s 8)).map (fun e => (8, e))
    | none => [])
  let c := if inb then [] else ((learnBucketOf mac).filter (parityBad s (9 + j))).map (fun e => (9 + j, e))
  (a ++ b ++ c).eraseDups

/-- The resolution of R118: the state, and the result word; none where a parity error drops the frame. -/
def classify (s : State) (j : Nat) (inb : Bool) (q : Nat) (b : List Byte) (p : Parsed) (slow cut : Bool) :
    State × Option Nat :=
  let rule := ruleFind s j (keyWords b p q slow cut)
  let mac := macKey p (fieldBE b 0 6)
  match parityFound s j inb p mac with
  | x :: l => ((x :: l).foldl (fun s e => parityHit s j e.1 e.2) s, none)
  | [] =>
    let r := (rule.map (fun x => nth x.2 20)).getD 0
    let mark := if resAction r = Act.mark then some r else none
    let lpm := ((lpmAddress s j p).map (lpmLookup s (p.l3 == 2))).getD 0
    let res :=
      if 1 ≤ resAction r ∧ resAction r ≤ 3 then r
      else if 1 ≤ resAction lpm ∧ resAction lpm ≤ 3 then lpm
      else match (if inb then none else learnedRes s j q mac) with
        | some x => x
        | none => rd s (if inb then K.inDefault q else K.outDefault q)
    (s, some (match mark with
      | some m => setBits res 28 16 (bits m 28 16)
      | none => res))

/-- Count a malformation in its slice (R113). -/
def malfCount (s : State) (j reason : Nat) : State := inc s (K.malfCount j reason) 1

/-- The malformation of a frame's headers (R113, reasons 2–5). -/
def hdrReason (b : List Byte) (p : Parsed) : Option Nat := malformed (b ++ List.replicate (60 - b.length) 0) true 1000000 p

/-- What becomes of a frame at the parser: dropped under a reason, on to the slow path, or classified with these fields
(`slow` the SLOW bit, `cut` the fields behind the second tag unparsed). -/
inductive Front where
  | drop
  | slowPath
  | go (p : Parsed) (slow cut : Bool)

/-- The fields of a frame with a malformation of reason 3 to 5 under MALF_ACTION 1, or its drop (R113). -/
def frontBad (s : State) (j reason : Nat) (p : Parsed) : Front :=
  if reason < 3 || !rdBit s (K.classCtrl j) 4 then .drop
  else .go (noUpper p) false (reason == 5)

/-- The handling of a frame whose headers are the fast parser's `p`; a frame beyond the fast window takes the slow path
but on a deterministic port (R114). -/
def frontFast (s : State) (j : Nat) (det : Bool) (b : List Byte) (p : Parsed) : Front :=
  match hdrReason b p with
  | some r => frontBad s j r p
  | none =>
    if p.overl then (if det then .go p true (decide (2 < p.tags.length)) else .slowPath)
    else .go p false (decide (2 < p.tags.length))

/-- The handling behind the slow parser (R114). -/
def frontSlow (s : State) (j : Nat) (b : List Byte) (p : Parsed) : Front :=
  match hdrReason b p with
  | some r => frontBad s j r p
  | none => .go p p.overl false

/-- The fields of a frame that finds the slow-path queue full under SLOW_FULL_ACTION 0 (R115). -/
def frontFull (p : Parsed) : Front := .go p true (decide (2 < p.tags.length))

/-- The slow-path queue of slice `j`, and its change. -/
def slowQ (s : State) (j : Nat) : List SlowFrm := tget [] s.dp.slow j
def setSlowQ (s : State) (j : Nat) (l : List SlowFrm) : State := { s with dp := { s.dp with slow := tset [] s.dp.slow j l } }

/-- A frame comes to the slow path (R115): queued, or the overflow counted; what then becomes of it. -/
def slowEnter (s : State) (j : Nat) (f : SlowFrm) (p : Parsed) : State × Front :=
  if (slowQ s j).length < 64 then (setSlowQ s j (slowQ s j ++ [f]), .slowPath)
  else
    let s := incFirst s (K.slowOverflow j) Ev.slowOverflow j 0
    (s, if rdBit s (K.classCtrl j) 5 then .drop else frontFull p)

/-- Port `q` runs in deterministic-latency mode (R179). -/
def detEn (s : State) (q : Nat) : Bool := rdBit s (K.cipherCtrl q) 0

/-- The four time bases now. -/
def tbsNow (s : State) : List Nat := (List.range 4).map (tbNow s)

/-- Core clocks a frame of `n` bytes takes at `rate` Mb/s, rounded up. -/
def lineCc (rate n : Nat) : Nat := if rate = 0 then 0 else (n * 10000 + rate - 1) / rate

end Sys2Proof.Machine
end

