-- ==== Sys2Proof/Machine/Ptp.lean ====
section
/-! DEFINITION. Latency of a port (R176–R184), and PTP (R347–R355): recognition, residence correction, endpoint stamps,
the transmit-timestamp FIFO. -/

namespace Sys2Proof.Machine

/-- Components of R177 in core clocks: lane receive, FIFO crossing, PCS decode and encode of a port side. -/
def laneRxCc (s : State) (q : Nat) : Nat := if pam4 (layout s (q / 4)) then 12 else 8
def fifoCc (s : State) (q : Nat) (sd : Side) : Nat :=
  match tget 0 s.dp.fifo (sideKey q sd) with
  | 0 => 5 + (Config.free 5 (sideKey q sd)).toNat % 2
  | n => n
def pcsDecodeCc (s : State) (q : Nat) (sd : Side) : Nat :=
  match fecOf s q sd with
  | 2 => if portRate s q = 25000 then 296 else 104
  | 3 => if portRate s q ≤ 50000 then 176 else if portRate s q ≤ 200000 then 112 else if portRate s q ≤ 400000 then 80 else 64
  | _ => 16
def pcsEncodeCc (s : State) (q : Nat) (sd : Side) : Nat := if fecOf s q sd = 1 then 12 else 24

/-- Latency in core clocks around a core of `mid` (R177): lane, FIFO and decoder of side `i`, framer, encoder and lane of
side `o`. DEDUCED (log entry 23). -/
def latencyCc (s : State) (q : Nat) (i o : Side) (mid : Nat) : Nat :=
  laneRxCc s q + fifoCc s q i + pcsDecodeCc s q i + mid + 8 + pcsEncodeCc s q o + 8

/-- Both sides of a port are up. -/
def portUp (s : State) (q : Nat) : Bool := rxUp s q .line && rxUp s q .host

/-- LAT_OUT_NOMINAL and LAT_IN_NOMINAL in ps (R198). DEDUCED (log entry 23). -/
def latOutNom (s : State) (q : Nat) : Nat :=
  if portUp s q then 800 * latencyCc s q .host .line (if detEn s q then 102 else 96) else 0
def latInNom (s : State) (q : Nat) : Nat :=
  if portUp s q then 800 * latencyCc s q .line .host (if detEn s q then 80 else 68) else 0

/-- The time base of a port's latency reports. -/
def latTb (s : State) (q : Nat) : Nat := rdField s (K.cipherCtrl q) 5 4

/-- LAT_STATUS as read. -/
def latStatusView (s : State) (q : Nat) : Nat :=
  b2n (detEn s q && portUp s q && tbValid s (latTb s q)) + 2 * b2n (detEn s q && !tbValid s (latTb s q))

/-- The first frame of a tick on a deterministic port is measured (R184): nominal plus up to 2 cc of placement and
alignment (R182), FREE VALUE (log entry 8), plus the `wait` cc it was deferred (R182, R183). `dir` 0 outbound, 1 inbound.
DEDUCED (log entry 23). -/
def latMeasure (s : State) (q dir wait : Nat) : State :=
  let key := q * 2 + dir
  if !detEn s q || s.dp.latSeen.contains key then s
  else
    let s := { s with dp := { s.dp with latSeen := key :: s.dp.latSeen } }
    if !tbValid s (latTb s q) then s
    else
      let v := (if dir = 0 then latOutNom s q else latInNom s q) +
        800 * ((Config.free 6 (s.tick.elapsed * 64 + key)).toNat % 3 + wait)
      let (kl, kn, kx) := if dir = 0 then (K.latOutLast q, K.latOutMin q, K.latOutMax q)
        else (K.latInLast q, K.latInMin q, K.latInMax q)
      let s := wr (wr (wr s kl v) kn (Nat.min v (rd s kn))) kx (Nat.max v (rd s kx))
      if dir = 0 then { s with dp := { s.dp with latOut := tset [] s.dp.latOut q ((v :: tget [] s.dp.latOut q).take 16) } }
      else { s with dp := { s.dp with latIn := tset [] s.dp.latIn q ((v :: tget [] s.dp.latIn q).take 16) } }

/-- Core clocks a frame waits for an alignment-marker group of the transmitting PCS to pass (R182): FREE VALUE (log entry 8). -/
def amWait (s : State) (q : Nat) : Nat := (Config.free 27 (s.tick.clock * 64 + q)).toNat

/-- PROT_OUT, PROT_IN and PROT_ASYM of a deterministic port at a tick boundary (R360). -/
def protUpdate (s : State) (q : Nat) : State :=
  let lo := tget [] s.dp.latOut q
  let li := tget [] s.dp.latIn q
  if !detEn s q || !tbValid s (latTb s q) || lo.isEmpty || li.isEmpty then s
  else
    let mean := fun (l : List Nat) => l.foldl (· + ·) 0 / l.length
    let asym : Int := (mean lo : Int) - mean li
    let s := wr (wr (wr s (K.protOut q) (mean lo)) (K.protIn q) (mean li)) (K.protAsym q) (ofSigned 32 asym)
    if (rd s (K.asymAlarm q) : Int) < (asym - tget 0 s.dp.asymRef q).natAbs then
      raise { s with dp := { s.dp with asymRef := tset 0 s.dp.asymRef q asym } } Ev.protAsymChanged q 0
    else s

/-! PTP. -/

/-- MODE of PTP_PORT_CTRL. -/
def ptpMode (s : State) (q : Nat) : Nat := rdField s (K.ptpPortCtrl q) 1 0

/-- Where the PTP header of a plaintext frame starts, and the offset of its UDP checksum, if it is an event message
(R349). -/
def ptpFind (b : List Byte) (p : Parsed) : Option (Nat × Option Nat) :=
  let at_ : Option (Nat × Option Nat) :=
    if p.sectag || 2 < p.tags.length then none
    else if p.etype = 0x88F7 then some (p.at_ + 2, none)
    else if p.bad.isNone && p.proto = 17 && p.dport = 319 && (p.l3 = 1 || (p.l3 = 2 && p.extN = 0)) then
      some (p.l4At + 8, some (p.l4At + 6))
    else none
  match at_ with
  | some (o, c) => if o + 34 ≤ b.length ∧ byteAt b (o + 1) % 16 = 2 ∧ byteAt b o % 16 ≤ 3 then some (o, c) else none
  | none => none

/-- The TB_CTRL words a message meets where it is recognised, and the time base its domain has there (R350, R361). -/
def tbCtrls (s : State) : List Nat := (List.range 4).map (fun n => rd s (K.tbCtrl n))
def domBase (ws : List Nat) (dom : Nat) : Option Nat := (List.range 4).find? (fun n => bit (nth ws n) 8 && bits (nth ws n) 23 16 == dom)

/-- The time base of a message's domain (R350). -/
def ptpBase (s : State) (dom : Nat) : Option Nat := domBase (tbCtrls s) dom

/-- Bytes replaced from offset `i`. -/
def putBytes (b : List Byte) (i : Nat) (v : List Byte) : List Byte := (b.take i ++ v ++ b.drop (i + v.length)).take b.length

/-- The UDP checksum after a rewrite (R352): 0 over IPv4, adjusted incrementally over IPv6. PRESUMED (log entry 20). -/
def udpFix (p : Parsed) (c : Option Nat) (old new : List Byte) : List Byte :=
  match c with
  | none => new
  | some i =>
    if p.l3 = 1 then putBytes new i [0, 0]
    else
      let pairs := (List.range ((new.length - i) / 2 + 1)).foldl (fun a k =>
        let m := half old (i + 2 + 2 * k)
        let m' := half new (i + 2 + 2 * k)
        if m = m' then a else a + (65535 - m) + m') (65535 - half old i)
      let t := pairs % 65536 + pairs / 65536
      let t := t % 65536 + t / 65536
      let r := 65535 - t
      putBytes new i (toBytes 2 (if r = 0 then 65535 else r))

/-- A multiple of 100 ps in units of 2^-32 ns, nearest to `v`; R347 reports the nearest unit of 2^-16 ns to it. -/
def round100 (v : Nat) : Nat :=
  let n := (v * 10 + 2 ^ 31) / 2 ^ 32
  (n * 2 ^ 32 * 2 + 10 * 2 ^ 16) / (20 * 2 ^ 16) * 2 ^ 16

/-- A capture's error within ±0.4 ns (R347) in steps of 100 ps, in units of 2^-32 ns: FREE VALUE (log entry 8).
DEDUCED (log entry 23). -/
def captureError (i n : Nat) : Int := (((Config.free i n).toNat % 9 : Nat) : Int) * (2 ^ 32 / 10) - 4 * (2 ^ 32 / 10)

/-- correctionField of the header at `o`. DEDUCED (log entry 23). -/
def ptpCorr (b : List Byte) (o : Nat) : Nat := fieldBE b (o + 8) 8
def maxCorr : Nat := 2 ^ 63 - 1

/-- Residence `ps` of a transparent clock added to a message (R351–R353), scaled by the frequency of its time base `n`, or of TB0.
DEDUCED (log entry 23). -/
def ptpTransparent (s : State) (q : Nat) (n : Option Nat) (b : List Byte) (p : Parsed) (o : Nat) (c : Option Nat) (ps : Nat) :
    State × List Byte :=
  let n := n.getD 0
  let res : Int := (ps : Int) * 65536 * (1024000000000 + (tb s n).freq) / (1000 * 1024000000000)
  let old := ptpCorr b o
  if old = maxCorr then (s, b)
  else
    let v := toSigned 64 old + res
    let overl := decide ((maxCorr : Int) < v)
    let b' := udpFix p c b (putBytes b (o + 8) (toBytes 8 (if overl then maxCorr else ofSigned 64 v)))
    (inc s (if overl then K.ptpSkipped q else K.ptpCorrected q) 1, b')

/-- Entries of a port's transmit-timestamp FIFO. -/
def txTs (s : State) (q : Nat) : List (List Word) := tget [] s.dp.txTs q
def setTxTs (s : State) (q : Nat) (l : List (List Word)) : State :=
  wr { s with dp := { s.dp with txTs := tset [] s.dp.txTs q l } } (K.txTsCount q) l.length

/-- An egress time enters the FIFO, or is lost (R355). -/
def txTsPut (s : State) (q n : Nat) (b : List Byte) (o e : Nat) : State :=
  let t := toTime96 e
  if 64 ≤ (txTs s q).length then incFirst s (K.txTsLost q) Ev.ptpTsLost q 0
  else
    let w0 := byteAt b o % 16 * 2 ^ 28 + n * 2 ^ 26 + byteAt b (o + 4) * 2 ^ 16 + half b (o + 30)
    inc (setTxTs s q (txTs s q ++ [[w0, t / 2 ^ 64 % 2 ^ 32, t / 2 ^ 48 % 2 ^ 16 * 2 ^ 16 + t % 2 ^ 16, t / 2 ^ 16 % 2 ^ 32]]))
      (K.ptpStamped q) 1

/-- Endpoint mode's frames without a usable time base (R350). -/
def ptpNoBase (s : State) (q : Nat) (n : Option Nat) : Option State :=
  match n with
  | none => some (inc s (K.ptpSkipped q) 1)
  | some n => if tbValid s n then none else some (inc (inc s (K.ptpSkipped q) 1) (K.ptpNoTime q) 1)

/-- An outbound event message in endpoint mode (R354), with its egress `cc` core clocks from now. -/
def ptpEgress (s : State) (q : Nat) (b : List Byte) (p : Parsed) (o : Nat) (c : Option Nat) (n : Option Nat) (cc : Nat) :
    State × List Byte :=
  match ptpNoBase s q n, n with
  | some s', _ => (s', b)
  | none, none => (s, b)
  | none, some n =>
    let e := round100 (tbNow s n + tbGain (tb s n).freq cc)
    if byteAt b o % 16 = 0 && !bit (byteAt b (o + 6)) 1 && rdBit s (K.ptpPortCtrl q) 4 then
      let t := toTime96 e
      let b' := putBytes (putBytes b (o + 34) (toBytes 10 (t / 2 ^ 16)))
        (o + 8) (toBytes 8 (ofSigned 64 (toSigned 64 (ptpCorr b o) + (t % 2 ^ 16 : Nat))))
      (inc s (K.ptpStamped q) 1, udpFix p c b b')
    else (txTsPut s q n b o e, b)

/-- An inbound event message in endpoint mode (R356); `n` its time base, `ing` the time bases at its capture, `idx` names the
capture. -/
def ptpIngress (s : State) (q : Nat) (n : Option Nat) (b : List Byte) (p : Parsed) (o : Nat) (c : Option Nat) (ing : List Nat) (idx : Nat) :
    State × List Byte :=
  match ptpNoBase s q n, n with
  | some s', _ => (s', b)
  | none, none => (s, b)
  | none, some n =>
    let t := toTime96 (round100 ((nth ing n : Int) + captureError 7 idx).toNat)
    let ns := (t / 2 ^ 48 * 1000000000 + t / 2 ^ 16 % 2 ^ 32) % 2 ^ 32
    let b' := putBytes (putBytes b (o + 16) (toBytes 4 ns))
      (o + 8) (toBytes 8 (ofSigned 64 (toSigned 64 (ptpCorr b o) - (t % 2 ^ 16 : Nat))))
    (inc s (K.ptpStamped q) 1, udpFix p c b b')

/-- The header lies within the first 128 bytes of the frame as it leaves, `shift` bytes further on (R349); otherwise the
frame counts as skipped. -/
def ptpWithin (o shift : Nat) : Bool := decide (o + shift + 34 ≤ 128)

/-- TX_TS_DATA_READ (R355): the entry leaves with its word 3; an empty FIFO reads 0. -/
def txTsRead (q : Nat) (s : State) : Res :=
  match txTs s q with
  | [] => okV s [0]
  | e :: l =>
    let w := tget 0 s.dp.txWord q
    let s := { s with dp := { s.dp with txWord := tset 0 s.dp.txWord q ((w + 1) % 4) } }
    okV (if w = 3 then setTxTs s q l else s) [nth e w]
def execTxTsDataRead (r : Req) (q : Nat) (s : State) : Host.Outcome State Fault Refusal :=
  done s (access s r (K.txTsData q) false (txTsRead q))

/-- TX_TS_LOST_READ (R355): the read re-arms PTP_TS_LOST. -/
def execTxTsLostRead (r : Req) (q : Nat) (s : State) : Host.Outcome State Fault Refusal :=
  done s (access s r (K.txTsLost q) false (portRead q (K.txTsLost q)))

end Sys2Proof.Machine
end

