-- ==== Sys2Proof/Machine/Outbound.lean ====
section
/-! DEFINITION. The outbound data path (R18, R19, R165–R187, R321–R329): frames in from the host, admission, eligibility,
the scheduler's choice and what announcing a frame does. -/

namespace Sys2Proof.Machine

/-- The outbound frames of port `q` in the device, oldest first, and their change. -/
def outQ (s : State) (q : Nat) : List Frm := tget [] s.dp.outq q
def setOutQ (s : State) (q : Nat) (l : List Frm) : State := { s with dp := { s.dp with outq := tset [] s.dp.outq q l } }

/-- Cells of a host frame of `n` bytes without FCS (R321). -/
def cellsOf (n : Nat) : Nat := (n + 4 + 63) / 64

/-- Cells taken from and given back to slice `k` (R321). DEDUCED (log entry 21). -/
def cellsTake (s : State) (k n : Nat) : State :=
  let s := wr s (K.bufUsed k) (rd s (K.bufUsed k) + n)
  if rd s (K.bufHigh k) < rd s (K.bufUsed k) then wr s (K.bufHigh k) (rd s (K.bufUsed k)) else s
def cellsFree (s : State) (k n : Nat) : State := wr s (K.bufUsed k) (rd s (K.bufUsed k) - n)

/-- An outbound frame discarded before announcement (R368). -/
def outDrop (s : State) (q cells : Nat) : State := cellsFree (inc s (K.outDropped q) 1) (q / 8) cells

/-- An SC index names a valid outbound entry (R119). -/
def scOut (s : State) (sc : Nat) : Bool := (scAt s sc).valid && !(scAt s sc).inbound

/-- The errors that the lookups of a frame of secure channel `idx` meet: in the channel's entry, and in the SA entry and the
key slot of handle `h` (R159). DESIGN CHOICE (log entry 59). -/
def lookupHits (s : State) (idx : Nat) (h : Option Nat) (ecc : List EccHit) : State :=
  (ecc.filter (fun e => if e.table = 1 then e.index == idx else some e.index == h)).foldl eccHit s

/-- What a host frame brings with it to the end of its classification: the core clock its last beat entered the parser at, the
mode its first beat met (R179), the time bases at its capture and the store errors its lookups meet. -/
structure OutArr where
  clk : Nat
  det : Bool
  ing : List Nat
  ecc : List EccHit

/-- A frame with its result goes on to admission, or on a deterministic port to its announcement (R119, R170, R181). -/
def outResolved (s : State) (q : Nat) (b : List Byte) (p : Parsed) (res : Nat) (a : OutArr) : State :=
  let cells := cellsOf b.length
  let s := if resAction res = Act.secure then lookupHits s (resSc res) (scAt s (resSc res)).cur a.ecc else s
  if resAction res = Act.drop then outDrop s q cells
  else if resAction res = Act.secure && !scOut s (resSc res) then outDrop (inc s (K.scMiss (q / 8)) 1) q cells
  else
    let ptp := if ptpMode s q = 0 then none else (ptpFind b p).map (·.1)
    let base := ptp.bind (fun o => ptpBase s (byteAt b (o + 4)))
    let elig := if a.det then a.clk + 74 else Nat.max (a.clk + 72) s.tick.clock
    setOutQ s q (outQ s q ++
      [⟨q, b, res, p.tags.length, if a.det then 3 else 0, 0, cells, a.clk, elig, 0, ptp, base, a.ing⟩])

/-- A frame classified with its fields. -/
def outClassify (s : State) (q : Nat) (b : List Byte) (p : Parsed) (slow cut : Bool) (a : OutArr) : State :=
  match classify s (q / 8) false q b p slow cut with
  | (s, none) => outDrop s q (cellsOf b.length)
  | (s, some res) => outResolved s q b p res a

/-- What the parser says of an outbound frame is carried out. -/
def outFront (s : State) (q : Nat) (b : List Byte) (fr : Front) (a : OutArr) : State :=
  match fr with
  | .drop => outDrop s q (cellsOf b.length)
  | .slowPath => s
  | .go p slow cut => outClassify s q b p slow cut a

/-- HOST_FRAME_RX (R18, R109–R119, R170): a frame at the host pins of port `q`; a port that is not up receives none.
`par` and `ecc` are the table words gone bad since and the store errors its lookups meet (R135, R159).
PRESUMED (log entry 20); DESIGN CHOICE (log entry 59). -/
def execHostFrameRx (q : Nat) (bytes : List Nat) (fcsOk : Bool) (par : List Nat) (ecc : List EccHit)
    (s : State) : Host.Outcome State Fault Refusal :=
  done s (if !isPort s q || !rxUp s q .host then s else
    let b := bytes.map (· % 256)
    let j := q / 8
    let s1 := inc (inc (spoil s par) (K.outHostFrames q) 1) (K.outHostOctets q) (b.length + 4)
    let s1 := if fcsOk then s1 else inc s1 (K.outHostErrors q) 1
    let s1 := cellsTake s1 j (cellsOf b.length)
    let p := parseFast b
    let a : OutArr := ⟨s1.tick.clock, detEn s1 q, tbsNow s1, ecc⟩
    match malformed b fcsOk 10240 p with
    | some r =>
      let s1 := malfCount s1 j r
      outFront s1 q b (if r < 3 then .drop else frontBad s1 j r p) a
    | none =>
      match frontFast s1 j (detEn s1 q) b p with
      | .slowPath =>
        let (s2, fr) := slowEnter s1 j ⟨false, q, b, true, false, s1.tick.clock, tbsNow s1, ecc⟩ p
        outFront s2 q b fr a
      | fr => outFront s1 q b fr a)

/-- The first frame of port `q` in stage `n`, and the others. -/
def takeStage (l : List Frm) (n : Nat) : Option (Frm × List Frm) :=
  match l with
  | [] => none
  | f :: t => if f.stage = n then some (f, t) else (takeStage t n).map (fun e => (e.1, f :: e.2))

/-- Replace the first frame in stage `n`. -/
def mapStage (l : List Frm) (n : Nat) (g : Frm → Frm) : List Frm :=
  match l with
  | [] => []
  | f :: t => if f.stage = n then g f :: t else f :: mapStage t n g

/-- A tail drop (R321). -/
def tailDrop (s : State) (k i q cells : Nat) : State :=
  let x := queAt s k i
  let s := setQue s k i { x with drops := (x.drops + 1) % 2 ^ 32 }
  outDrop (incFirst s (K.tailDrops k) Ev.queueDrop k 0) q cells

/-- Cells in use in the whole buffer. -/
def bufAll (s : State) : Nat := (List.range 4).foldl (fun a k => a + rd s (K.bufUsed k)) 0

/-- QUEUE_ADMISSION (R321, R324): the oldest frame awaiting it enters its queue, or is dropped. -/
def execQueueAdmission (q : Nat) (s : State) : Host.Outcome State Fault Refusal :=
  done s (match takeStage (outQ s q) 0 with
  | none => s
  | some (f, rest) =>
    let k := q / 8
    let e := flowAt s k (resFlow f.res)
    let i := e % 4096 + resTc f.res
    let x := queAt s k i
    if !bit e 31 then outDrop (inc (setOutQ s q rest) (K.flowMiss k) 1) q f.cells
    else if x.port ≠ q then outDrop (inc (setOutQ s q rest) (K.portMismatch k) 1) q f.cells
    else if x.maxCells < x.depth + f.cells ∨ rd s (K.bufLimit k) < rd s (K.bufUsed k) ∨ 1048576 < bufAll s then
      tailDrop (setOutQ s q rest) k i q f.cells
    else
      let d := x.depth + f.cells
      let s := setQue s k i { x with depth := d, depthHw := Nat.max x.depthHw d }
      setOutQ s q (mapStage (outQ s q) 0 (fun f => { f with stage := 1, qi := i, adm := s.tick.clock })))

/-- A queued frame leaves its queue unannounced or announced: depth, and the deficit of an emptied queue (R327). -/
def queLeave (s : State) (f : Frm) : State :=
  if f.stage = 3 then s
  else
    let x := queAt s (f.q / 8) f.qi
    let d := x.depth - f.cells
    setQue s (f.q / 8) f.qi { x with depth := d, deficit := if d = 0 then 0 else x.deficit }

/-- A frame's host tags are fewer than its channel keeps in clear (R187). -/
def tagShort (s : State) (f : Frm) : Bool :=
  resAction f.res == Act.secure && scOut s (resSc f.res) && decide (f.tags < (scAt s (resSc f.res)).tagsClear)

/-- FRAME_ELIGIBLE (R170, R187): the oldest queued frame that is not yet eligible becomes so, 72 cc after its last beat entered
the parser or with its slow-path result. A bad host FCS was found with the frame's other malformations, before admission. -/
def execFrameEligible (q : Nat) (s : State) : Host.Outcome State Fault Refusal :=
  done s (match takeStage (outQ s q) 1 with
  | none => s
  | some (f, rest) =>
    let s := passTo s f.elig
    if tagShort s f then outDrop (queLeave (inc (setOutQ s q rest) (K.tagShort q) 1) f) q f.cells
    else setOutQ s q (mapStage (outQ s q) 1 (fun f => { f with stage := 2 })))

/-! SecTAG insertion. -/

/-- Bytes a frame grows by (R24, R185). -/
def expansion (e : ScEnt) : Nat := if e.includeSci then 32 else 24

/-- The line length of a frame with its FCS, as announced. -/
def lineLen (s : State) (f : Frm) : Nat :=
  f.bytes.length + 4 + (if resAction f.res = Act.secure ∧ scOut s (resSc f.res) then expansion (scAt s (resSc f.res)) else 0)

/-- The IV of a frame (R150). -/
def frameIv (xpn : Bool) (sci ssci pn : Nat) (salt : List Byte) : List Byte :=
  if xpn then xorBytes salt (toBytes 4 ssci ++ toBytes 8 pn) else toBytes 8 sci ++ toBytes 4 pn

/-- TCI and AN (R185, R186). -/
def tciOf (e : ScEnt) (an : Nat) : Nat :=
  b2n (e.useEs && !e.includeSci) * 64 + b2n e.includeSci * 32 + b2n (e.useScb && !e.includeSci) * 16 +
  b2n e.encrypt * 12 + an % 4

/-- The protected frame without FCS, with hash subkey `h` (R167, R185, R186). -/
def protect (e : ScEnt) (a : SaEnt) (x : Slot) (h pn : Nat) (b : List Byte) : List Byte :=
  let tags := (b.drop 12).take (4 * e.tagsClear)
  let data := b.drop (12 + 4 * e.tagsClear)
  let tag := [0x88, 0xE5, tciOf e a.an, if data.length < 48 then data.length else 0] ++ toBytes 4 pn ++
    (if e.includeSci then toBytes 8 e.sci else [])
  let clear := if e.encrypt then e.confBytes else data.length
  let aad := b.take 12 ++ tag ++ data.take clear
  let (ct, icv) := gcmSealH h (slotKey x (suiteKey e.suite)) (frameIv e.xpn e.sci a.ssci pn (slotSalt x)) aad (data.drop clear)
  b.take 12 ++ tags ++ tag ++ data.take clear ++ ct ++ icv

/-! Announcing. -/

/-- The all-ones packet number of a suite (R151). -/
def pnEnd (e : ScEnt) : Nat := if e.xpn then 2 ^ 64 - 1 else 2 ^ 32 - 1

/-- What the outbound SA of a frame's channel says at announcement. -/
inductive Grant where
  | drop
  | sent (line : List Byte) (squelched : Bool)

/-- Add to an SA's statistics (R365). -/
def statAdd (s : State) (h frames octets fails drops : Nat) : State :=
  let x := statAt s h
  setStat s h ⟨(x.frames + frames) % 2 ^ 64, (x.octets + octets) % 2 ^ 64, (x.fails + fails) % 2 ^ 32, (x.drops + drops) % 2 ^ 32⟩

/-- The powers of H that the key-context unit keeps for port `q`: those of handle `h`, formed anew for another SA (R167). -/
def keepHash (s : State) (q h : Nat) (key : List Byte) : State × Nat :=
  match tget none s.dp.hkeep q with
  | some (g, hs) => if g = h then (s, nth hs 0) else
      let n := hashKey key
      ({ s with dp := { s.dp with hkeep := tset none s.dp.hkeep q (some (h, hashPowers n)) } }, n)
  | none =>
    let n := hashKey key
    ({ s with dp := { s.dp with hkeep := tset none s.dp.hkeep q (some (h, hashPowers n)) } }, n)

/-- A frame of channel `c`, whose SA ran out of packet numbers and was not followed by another (R151). -/
def exhausted (s : State) (h : Nat) : State :=
  let s := inc s K.exhaustedDrops 1
  if (saAt s h).st = Sa.exhausted ∨ (saAt s h).st = Sa.active then statAdd s h 0 0 0 1 else s

/-- An SA takes its next packet number for a frame of port `q` and channel `c`, or the frame is dropped (R151, R152, R157,
R402). DEDUCED (log entry 21). -/
def grantSa (s : State) (q c h : Nat) (b : List Byte) : State × Grant :=
  let e := scAt s c
  let a := saAt s h
  if !saLocal s a then (inc s K.remoteDrops 1, .drop)
  else if e.exh || a.st == Sa.exhausted then (exhausted s h, .drop)
  else if a.st ≠ Sa.active then (inc s K.outNoSa 1, .drop)
  else if a.pn = pnEnd e then
    (raise (saState (setSc (exhausted s h) c { e with exh := true }) h Sa.exhausted) Ev.pnExhausted h 0, .drop)
  else if resvApplies s a && decide (a.ceiling ≤ a.pn) then
    (incFirst (statAdd s h 0 0 0 1) K.resvDrops Ev.resvStall h 0, .drop)
  else
    let lim := rd s (if e.xpn then K.pnThreshold64 else K.pnThreshold32)
    let hitThr := a.pn == lim && !a.thr
    let s := setSa s h { a with pn := a.pn + 1, thr := a.thr || hitThr }
    let s := if hitThr then raise s Ev.pnThreshold h 0 else s
    let len := b.length + 4 + expansion e
    if (slotAt s h).complete then
      let (s, n) := keepHash s q h (slotKey (slotAt s h) (suiteKey e.suite))
      (statAdd s h 1 len 0 0, .sent (protect e a (slotAt s h) n a.pn b) false)
    else (statAdd (inc s K.outNoSa 1) h 1 len 1 0, .sent [] true)

/-- The SA of a frame to be announced: none for a bypassed frame; the frame's tags are held once more to the channel, which may
have changed since it became eligible (R187). DEDUCED (log entry 16). -/
def grant (s : State) (f : Frm) (b : List Byte) : State × Option Nat × Grant :=
  if resAction f.res ≠ Act.secure then (s, none, .sent b false)
  else
    let e := scAt s (resSc f.res)
    if !scOut s (resSc f.res) then (inc s (K.scMiss (f.q / 8)) 1, none, .drop)
    else if tagShort s f then (inc s (K.tagShort f.q) 1, none, .drop)
    else match e.cur with
      | none => (inc s (if e.exh then K.exhaustedDrops else K.outNoSa) 1, none, .drop)
      | some h => let (s, g) := grantSa s f.q (resSc f.res) h b; (s, some h, g)

/-- Core clocks from an announcement to the frame's first beat leaving the slice (R168, R169): 24 for an idle start. -/
def firstCc (idle : Bool) : Nat := if idle then 24 else 28

/-- The core clock from which the next announcement of a port may go (R327): 36 cc before the port falls idle. -/
def annFree (s : State) (q : Nat) : Nat := tget 0 s.dp.lineFree q - 36
def portIdle (s : State) (q : Nat) : Bool := decide (tget 0 s.dp.lineFree q ≤ s.tick.clock)

/-- A PTP event message of a frame about to be announced is corrected or stamped (R351, R354). DEDUCED (log entry 23). -/
def ptpOut (s : State) (f : Frm) : State × List Byte :=
  match f.ptp with
  | none => (s, f.bytes)
  | some _ =>
    let p := parseFast f.bytes
    match ptpFind f.bytes p with
    | none => (s, f.bytes)
    | some (o, c) =>
      let e := scAt s (resSc f.res)
      let sec := resAction f.res == Act.secure
      let shift := if sec then (if e.includeSci then 16 else 8) else 0
      if !ptpWithin o shift then (inc s (K.ptpSkipped f.q) 1, f.bytes)
      else
        let wait := annFree s f.q - s.tick.clock
        let det := f.stage == 3
        let idle := portIdle s f.q && !det
        let d := gateDelay s f.q - (if idle then 4 else 0)
        if ptpMode s f.q = 1 then
          let held := (s.tick.clock - f.clk) - (if det then 74 else 72)
          let base := latencyCc s f.q .host .line (if idle then 96 else if det then 102 else 100)
          let ser := lineCc (portRate s f.q) (f.bytes.length + 4)
          let jit : Int := captureError 9 (s.tick.clock * 32 + f.q) * 1000 / 2 ^ 32
          let ps : Int := (base + ser + held + wait) * 800
          ptpTransparent s f.q f.ptpTb f.bytes p o c (ps + jit).toNat
        else if ptpMode s f.q = 2 then ptpEgress s f.q f.bytes p o c f.ptpTb (wait + d)
        else (s, f.bytes)

/-- A frame goes out on the line, and into the lane's own receiver where the group loops (R57). -/
def lineOut (s : State) (q : Nat) (b : List Byte) : State :=
  let s := emit s (.frame .line q b true)
  if mode s (q / 4) = 2 then
    { s with dp := { s.dp with looped := tset [] s.dp.looped q (tget [] s.dp.looped q ++ [(b, true)]) } }
  else s

/-- A frame is announced (R19, R168, R169, R185, R348): its SA and PN, its bytes on the line, its counts; false where it was
dropped instead. The frame has already left its queue; `wait` is a deterministic frame's deferral. DEDUCED (log entry 21). -/
def announce (s : State) (f : Frm) (wait : Nat) : State × Bool :=
  let q := f.q
  let j := q / 8
  match grant s f (ptpOut s f).2 with
  | (s, _, .drop) => (outDrop s q f.cells, false)
  | (s, h, .sent line sq) =>
    let len := lineLen s f
    let det := f.stage == 3
    let idle := portIdle s q && !det
    let held := det || idle
    let start := Nat.max s.tick.clock (annFree s q)
    let first := start + firstCc idle
    let s := { s with dp := { s.dp with annNext := tset 0 s.dp.annNext j (start + 1) } }
    let s := cellsFree (inc s (K.announced j) 1) j f.cells
    let s := perfAdd s (64 + q) 1
    let s := match h with
      | some h => perfAdd s (256 + h % 32) 1
      | none => s
    let s := if sq then s else
      let s := (ptpOut s f).1
      let s := inc (perfAdd (perfAdd s (16 + j) 1) (24 + j) len) (K.sliceFrames j) 1
      let s := if held then perfAdd (inc s (K.sliceHeld j) 1) (32 + j) 1 else s
      let s := perfAdd (inc (inc s (K.outLineFrames q) 1) (K.outLineOctets q) len) (128 + q) len
      let s := inc s (if h.isSome then K.outProtected q else K.outBypassed q) 1
      let fly : Fly := ⟨q, h, first, first + (len + 127) / 128, held, len, s.out.length⟩
      latMeasure (lineOut { s with dp := { s.dp with flying := fly :: s.dp.flying.filter (fun x => s.tick.clock < x.leaves) } }
        q line) q 0 wait
    let busy := first + 8 + lineCc (portRate s q) (len + 20)
    (if sq then s else { s with dp := { s.dp with lineFree := tset 0 s.dp.lineFree q busy } }, true)

/-! The scheduler. -/

/-- Wire length of a frame (R326). -/
def wlen (s : State) (f : Frm) : Nat :=
  let n := (lineLen s f : Int) + rdI32 s (K.lenAdj f.q)
  if n < 1 then 1 else n.toNat

/-- The head of each queue of port `q`: the first queued frame with that queue number. -/
def heads (l : List Frm) : List Frm :=
  l.foldl (fun a f => if f.stage = 1 ∨ f.stage = 2 then (if a.any (fun g => g.qi == f.qi) then a else a ++ [f]) else a) []

/-- The channel of a frame waits for its SA_MOVE (R413), or its SA belongs to a group this device was demoted in (R393). -/
def waitsMove (s : State) (f : Frm) : Bool :=
  resAction f.res == Act.secure && (match (scAt s (resSc f.res)).cur with
    | some h => (saAt s h).waitMove || (s.fab.halted && saLocal s (saAt s h))
    | none => false)

/-- The heads of class `tc` of port `q` that are ready (R327). -/
def readyHeads (s : State) (q tc : Nat) : List Frm :=
  let rate := portRate s q
  (heads (outQ s q)).filter (fun f =>
    f.stage == 2 && f.qi % 8 == tc && !waitsMove s f &&
    (let x := queAt s (q / 8) f.qi; decide (0 ≤ bucketAt x.rate x.burst x.tok s.tick.clock)) &&
    gateFits s q tc (lineCc rate (wlen s f)))

/-- The next queue in index order after `c`. -/
def nextHead (l : List Frm) (c : Nat) : Option Frm :=
  let best := fun (p : Frm → Bool) => (l.filter p).foldl (fun (a : Option Frm) f => match a with
    | some g => if f.qi < g.qi then some f else some g
    | none => some f) none
  match best (fun f => decide (c < f.qi)) with
  | some f => some f
  | none => best (fun _ => true)

/-- The turn passes until a deficit covers a head (R327). -/
def drrPass (s : State) (k : Nat) (l : List Frm) : Nat → Nat → Option (State × Frm)
  | 0, _ => none
  | n + 1, c =>
    match nextHead l c with
    | none => none
    | some f =>
      let x := queAt s k f.qi
      let d := x.deficit + x.quantum
      let s := setQue s k f.qi { x with deficit := d }
      if (wlen s f : Int) ≤ d then some (s, f) else drrPass s k l n f.qi

/-- drr_turn of a class's ready queues (R327). -/
def drrTurn (s : State) (q tc : Nat) (l : List Frm) : Option (State × Frm) :=
  let k := q / 8
  let c := tget 0 s.dp.turn (q * 8 + tc)
  let keep := l.find? (fun f => f.qi + 1 == c && decide ((wlen s f : Int) ≤ (queAt s k f.qi).deficit))
  match keep with
  | some f => some (s, f)
  | none =>
    (drrPass s k l (l.length * 256 + 256) (c - 1)).map (fun e =>
      ({ e.1 with dp := { e.1.dp with turn := tset 0 e.1.dp.turn (q * 8 + tc) (e.2.qi + 1) } }, e.2))

/-- A frame is taken out of its port's list. DEDUCED (log entry 21). -/
def dropFrame (s : State) (f : Frm) : State := queLeave (setOutQ s f.q ((outQ s f.q).erase f)) f

/-- Heads longer than the longest open span of their class are discarded (R334). -/
def oversize (s : State) (q : Nat) : State :=
  let x := gateAt s q
  (heads (outQ s q)).foldl (fun s f =>
    let w := nth x.spans (f.qi % 8)
    if x.active.isSome && w != 0 && decide (ccUnits (lineCc (portRate s q) (wlen s f)) > (w * nsU : Nat)) then
      outDrop (inc (dropFrame s f) (K.gateOversize (q / 8)) 1) q f.cells
    else s) s

/-- A port announces nothing while it is no port, its line side sends faults, the slices are squelched, the data path is
not passing (R323, R446, R447). DEDUCED (log entry 55). -/
def mayAnnounce (s : State) (q : Nat) : Bool :=
  isPort s q && armed s && !s.boot.drain && !s.dp.squelch && !inHold s &&
  (txState s q .line == .data || txState s q .line == .idle)

/-- Charge a frame's wire length and note its waiting time (R325, R327, R328). -/
def charge (s : State) (f : Frm) (w : Nat) : State :=
  let k := f.q / 8
  let x := queAt s k f.qi
  let ns := Nat.min (2 ^ 32 - 1) ((s.tick.clock - f.adm) * 8 / 10)
  let s := setQue s k f.qi { x with deficit := x.deficit - w, tok := bucketTake x.rate x.burst x.tok s.tick.clock w,
                                    sojourn := Nat.max x.sojourn ns }
  setPortTok s f.q (bucketTake (rd s (K.portRate f.q)) (rd s (K.portBurst f.q)) (tget none s.dp.portTok f.q) s.tick.clock w)

/-- The gate of class `tc` is open (R330). -/
def openNow (s : State) (q tc : Nat) : Bool :=
  match (gateAt s q).active with | some g => bit (gatesNow s q g) tc | none => true

/-- The slice's turn passes to the port after `q` (R329). -/
def turnTo (s : State) (q : Nat) : State :=
  { s with dp := { s.dp with annTurn := tset 0 s.dp.annTurn (q / 8) ((q + 1) % 8) } }

/-- The choice of R327 over the classes from `tc` down: `fuel` classes are left. A frame found without a usable channel or
SA is dropped and the choice is over. DEDUCED (log entry 21). -/
def schedule (s : State) (q : Nat) : Nat → State
  | 0 => s
  | tc + 1 =>
    let l := if openNow s q tc then readyHeads s q tc else []
    match (if l.isEmpty then none else drrTurn s q tc l) with
    | none => schedule s q tc
    | some (s1, f) =>
      let w := wlen s1 f
      let (s2, ok) := announce (setOutQ s1 q ((outQ s1 q).erase f)) f 0
      if ok then turnTo (queLeave (charge s2 f w) f) q else queLeave s2 f

/-- The core clock of port `q`'s next announcement: now, or where its line and its slice take another one (R168, R327, R329). -/
def annClock (s : State) (q : Nat) : Nat := Nat.max s.tick.clock (Nat.max (annFree s q) (tget 0 s.dp.annNext (q / 8)))

/-- Port `p` may announce a queued frame in this clock (R327). -/
def wants (s : State) (p : Nat) : Bool :=
  mayAnnounce s p && !detEn s p && decide (annFree s p ≤ s.tick.clock) && decide (0 ≤ portBucket s p) &&
  (List.range 8).any (fun tc => openNow s p tc && !(readyHeads s p tc).isEmpty)

/-- Port `p` has a deterministic frame whose announcement is due (R181, R183). -/
def detWants (s : State) (p : Nat) : Bool :=
  mayAnnounce s p && (match takeStage (outQ s p) 3 with
    | some (f, _) => decide (Nat.max f.elig (annFree s p) ≤ s.tick.clock)
    | none => false)

/-- Places from the slice's rotating pointer to port `p`. -/
def turnDist (s : State) (p : Nat) : Nat := (p + 8 - tget 0 s.dp.annTurn (p / 8)) % 8

/-- Port `q` is passed over in this clock (R329): a deterministic port of its slice goes first, and a port that may announce too
and stands earlier in rotating order. DESIGN CHOICE (log entry 64). -/
def passedOver (s : State) (q : Nat) : Bool :=
  ((List.range 8).map (8 * (q / 8) + ·)).any (fun p =>
    detWants s p || (decide (turnDist s p < turnDist s q) && wants s p))

/-- SCHEDULER_ANNOUNCE (R326–R334): port `q` announces in the first clock its line and its slice leave it, but for a clock in
which another port of the slice goes first; it then announces behind that port. While the port is deterministic its queued frames stay
queued (R336). DEDUCED (log entry 21). -/
def execSchedulerAnnounce (q : Nat) (s : State) : Host.Outcome State Fault Refusal :=
  done s (if !mayAnnounce s q || detEn s q then s
    else
      let s1 := passTo s (annClock s q)
      if decide (portBucket s1 q < 0) || passedOver s1 q then s
      else schedule (oversize (gateRefresh s1 q) q) q 8)

/-- DET_ANNOUNCE (R181, R183, R187): the oldest frame of a deterministic port is announced 74 cc after its last beat entered the
parser; where the port's previous frame is then still on the line, as soon as it is free; `am` = its start falls in an alignment-marker group and waits (R182).
DEDUCED (log entry 21). -/
def execDetAnnounce (q : Nat) (am : Bool) (s : State) : Host.Outcome State Fault Refusal :=
  done s (if !mayAnnounce s q then s else
    match takeStage (outQ s q) 3 with
    | none => s
    | some (f, rest) =>
      let late := annFree s q - f.elig
      let s1 := setOutQ (passTo s (Nat.max f.elig (annFree s q))) q rest
      if tagShort s1 f then outDrop (inc s1 (K.tagShort q) 1) q f.cells
      else
        let s1 := if 0 < late then incFirst s1 (K.detLate q) Ev.detLate q 0 else s1
        let s1 := if am then inc s1 (K.detAmDefer q) 1 else s1
        (announce s1 f (late + if am then amWait s1 q else 0)).1)

/-- DET_LATE_READ (R183). -/
def execDetLateRead (r : Req) (q : Nat) (s : State) : Host.Outcome State Fault Refusal :=
  done s (access s r (K.detLate q) false (portRead q (K.detLate q)))

/-- CIPHER_CTRL_WRITE (R179): DET_EN on one port of a slice pair at a time, and never with VERIFY_SF.
DEDUCED (log entry 21). -/
def cipherCtrlEff (q v : Nat) (s : State) : Res :=
  let v := Nat.land v 0x33
  let others := (List.range 8).any (fun i => 8 * (q / 8) + i != q && detEn s (8 * (q / 8) + i) && isPort s (8 * (q / 8) + i))
  let det := detEn s q
  let sf := rdBit s (K.cipherCtrl q) 1
  if (bit v 0 && (bit v 1 || (!det && (sf || others)))) || (bit v 1 && !sf && det) then abortR s .wrongState
  else okR (wr s (K.cipherCtrl q) v)
def execCipherCtrlWrite (r : Req) (q v : Nat) (s : State) : Host.Outcome State Fault Refusal :=
  done s (access s r (K.cipherCtrl q) true (cipherCtrlEff q (v % 2 ^ 32)))

/-- LAT_CLEAR (R198): 1 restarts the minima and maxima. -/
def latClearEff (q v : Nat) (s : State) : Res :=
  if v ≠ 1 then abortR s .unsupportedValue
  else okR (wr (wr (wr (wr s (K.latOutMin q) (2 ^ 32 - 1)) (K.latOutMax q) 0) (K.latInMin q) (2 ^ 32 - 1)) (K.latInMax q) 0)
def execLatClear (r : Req) (q : Nat) (s : State) : Host.Outcome State Fault Refusal :=
  done s (access s r (K.latClear q) true (latClearEff q 1))

end Sys2Proof.Machine
end

