-- ==== Sys2Proof/Machine/Inbound.lean ====
section
/-! DEFINITION. The inbound data path (R119, R120, R150–R153, R171–R193): frames in from the line, the secure channel, the
predictor, the checks at cc 64 and what the verdict at the tail does; the slow path's completion. -/

namespace Sys2Proof.Machine

/-- The inbound frames of port `q` between their decision and their tail, oldest first, and their change. -/
def inQ (s : State) (q : Nat) : List InFrm := tget [] s.dp.inq q
def setInQ (s : State) (q : Nat) (l : List InFrm) : State := { s with dp := { s.dp with inq := tset [] s.dp.inq q l } }

/-- An inbound frame dropped before the host saw any of it (R368). -/
def inDrop (s : State) (q : Nat) : State := inc s (K.inDropped q) 1

/-- The inbound slice of a port. -/
def ibOf (q : Nat) : Nat := 4 + q / 8

/-- Inbound frames pass: the data path is armed and not stopping, and the host side can carry them (R84, R446, R447). -/
def inPasses (s : State) (q : Nat) : Bool :=
  armed s && !s.boot.drain && !s.dp.squelch && (txState s q .host == .data || txState s q .host == .idle)

/-- SCI and index of a frame with a SecTAG (R120). -/
def sciOf (s : State) (q : Nat) (b : List Byte) (p : Parsed) : Nat × Nat :=
  if bit p.tci 5 then (p.sci, p.sci % 65536)
  else if bit p.tci 6 then (fieldBE b 6 6 * 65536 + 1, rd s (K.implicitScIndex q))
  else (rd s (K.implicitSci q), rd s (K.implicitScIndex q))

/-- An SA that accepts inbound frames (R144). -/
def saAccepts (s : State) (h : Nat) : Bool := (saAt s h).st == Sa.active || (saAt s h).st == Sa.grace

/-- Core clocks from a frame's first beat to its last, at the rate its line brings `n` bytes. -/
def beatsCc (rate n : Nat) : Nat := if n ≤ 128 then 0 else lineCc rate n

/-- The core clock, counted from parser entry, until which port `q`'s hold line keeps beats of a frame (R165, R174); a frame on
the miss path whose first beat entered the parser at `clk` keeps it for 12 cc behind its last beat. -/
def holdUntil (s : State) (q : Nat) : Nat := tget 0 s.dp.lineFree (32 + q)
def holdFor (s : State) (q clk n : Nat) : State :=
  let until_ := Nat.max (holdUntil s q) (clk + 12 + beatsCc (portRate s q) n)
  { s with dp := { s.dp with lineFree := tset 0 s.dp.lineFree (32 + q) until_ } }

/-- What a line frame brings with it: the core clock of its first beat at the parser, the mode that beat met (R179), the time
bases at its capture and the store errors its lookups meet. -/
structure InArr where
  clk   : Nat
  det   : Bool
  fcsOk : Bool
  overl : Bool
  ing   : List Nat
  ecc   : List EccHit

/-- A frame as the classifier hands it on. -/
def inFrm0 (s : State) (q : Nat) (b : List Byte) (p : Parsed) (res : Nat) (a : InArr) : InFrm :=
  { q := q, bytes := b, fcsOk := a.fcsOk, overl := a.overl, flow := resFlow res, sc := none, ent := sc0, handle := none, acc := true,
    hit := true, held := a.det || decide (a.clk < holdUntil s q), det := a.det, sf := rdBit s (K.cipherCtrl q) 1, pnLo := p.pn,
    pn := 0, secAt := p.secAt, tagAt := p.at_, tags := p.tags.length, tci := p.tci, key := [], salt := [], h := 0, ssci := 0,
    epoch := 0, checked := false, learn := macKey p (fieldBE b 6 6), clk := a.clk, ing := a.ing, wait := 0, dom := [] }

/-- A frame joins its port's frames; one on the miss path fills the hold line. -/
def inPush (s : State) (f : InFrm) : State :=
  let s := setInQ s f.q (inQ s f.q ++ [f])
  if f.held then holdFor s f.q f.clk (f.bytes.length + 4) else s

/-- The entry is SETTLED behind a miss of SA `h` with PN `pn`, from the SA entry the store returned (R171, R172); the SA's H and
its powers come with it. -/
def settle (s : State) (q h pn : Nat) : State :=
  let e := scAt s (saAt s h).sc
  setPred s q ⟨2, h, pn, (saAt s h).pn, e.window, hashPowers (hashKey (slotKey (slotAt s h) (suiteKey e.suite)))⟩

/-- The recovered packet number (R150). DEDUCED (log entry 22). -/
def recoverPn (xpn : Bool) (next window lo : Nat) : Nat :=
  if !xpn then lo
  else
    let lowest := Nat.max (next - window) 1
    if lowest % 2 ^ 32 ≤ lo then lowest / 2 ^ 32 * 2 ^ 32 + lo else (lowest / 2 ^ 32 + 1) % 2 ^ 32 * 2 ^ 32 + lo

/-- An entry that is PENDING settles 64 cc after the first beat of the miss it waits for, which a frame decided at or behind that
clock finds done although the checks of that miss are still to come (R172, R174). DEDUCED (log entry 22). -/
def settleDue (s : State) (q clk : Nat) : State :=
  let x := predAt s q
  match ((inQ s q).filter (fun f => !f.checked && !f.hit && f.handle.isSome)).getLast? with
  | some g =>
    if x.st = 1 ∧ g.handle = some x.handle ∧ g.clk + 64 ≤ clk + 40 then
      settle s q x.handle (recoverPn g.ent.xpn (saAt s x.handle).pn g.ent.window g.pnLo)
    else s
  | none => s

/-- The predictor's decision (R172): hit, or miss; a frame whose AN names no handle misses and leaves the entry alone.
DEDUCED (log entry 22). -/
def predict (s : State) (f : InFrm) (h : Option Nat) : State × InFrm :=
  let i := f.q / 8
  let s := settleDue s f.q f.clk
  let x := predAt s f.q
  match h with
  | none => (perfAdd (inc s (K.predMiss f.q) 1) (44 + i) 1, { f with hit := false, held := true, acc := false })
  | some h =>
    let f := { f with handle := some h, acc := saAccepts s h }
    if x.st = 2 ∧ x.handle = h ∧ f.pnLo = (x.pn + 1) % 2 ^ 32 then
      (setPred s f.q { x with pn := x.pn + 1 }, { f with pn := x.pn + 1 })
    else
      let s := perfAdd (perfAdd (inc s (K.predMiss f.q) 1) (44 + i) 1) (256 + h % 32) 1
      (setPred s f.q { x with st := 1, handle := h }, { f with hit := false, held := true })

/-- A frame with its result (R119, R120). -/
def inResolved (s : State) (q : Nat) (b : List Byte) (p : Parsed) (res : Nat) (a : InArr) : State :=
  let j := ibOf q
  let f := inFrm0 s q b p res a
  if resAction res = Act.bypass then inPush s f
  else if resAction res ≠ Act.secure then inDrop s q
  else if !p.sectag then inDrop (inc s (K.noTag j) 1) q
  else
    let (sci, idx) := sciOf s q b p
    let s := lookupHits s idx ((scAt s idx).handle (p.tci % 4)) a.ecc
    let e := scAt s idx
    if !(e.valid && e.inbound) then inDrop (inc s (K.scMiss j) 1) q
    else if e.sci ≠ sci then inDrop (inc s (K.scMismatch j) 1) q
    else
      let (s, f) := predict s { f with sc := some idx, ent := e } (e.handle (p.tci % 4))
      inPush s f

/-- What the parser says of an inbound frame is carried out. -/
def inFront (s : State) (q : Nat) (b : List Byte) (fr : Front) (a : InArr) : State :=
  match fr with
  | .drop => inDrop s q
  | .slowPath => s
  | .go p slow cut =>
    if !inPasses s q then inDrop s q
    else match classify s (ibOf q) true q b p slow cut with
      | (s, none) => inDrop s q
      | (s, some res) => inResolved s q b p res a

/-- A frame at the line pins of port `q` as the receiver takes it: any frame, or in a looped group only the one that the lane's
own transmitter sent next (R57). -/
def lineIn (s : State) (q : Nat) (b : List Byte) (fcsOk : Bool) : Option State :=
  if mode s (q / 4) ≠ 2 then some s
  else match tget [] s.dp.looped q with
    | x :: l => if x = (b, fcsOk) then some { s with dp := { s.dp with looped := tset [] s.dp.looped q l } } else none
    | [] => none

/-- LINE_FRAME_RX (R109–R120, R172, R190): a frame at the line pins of port `q`. A short frame is dropped; one over length
or with a bad FCS is known only at its tail and goes on; it is counted once, under the lowest reason it shows. `par` and
`ecc` are the table words gone bad since and the store errors its lookups meet (R135, R159). DESIGN CHOICE (log entry 59). -/
def execLineFrameRx (q : Nat) (bytes : List Nat) (fcsOk : Bool) (par : List Nat) (ecc : List EccHit)
    (s : State) : Host.Outcome State Fault Refusal :=
  let b := bytes.map (· % 256)
  done s (if !isPort s q || !rxUp s q .line then s else match lineIn s q b fcsOk with
  | none => s
  | some s0 =>
    let j := ibOf q
    let len := b.length + 4
    let s1 := perfAdd (inc (inc (spoil s0 par) (K.inLineFrames q) 1) (K.inLineOctets q) len) (160 + q) len
    let p := parseFast b
    let overl := decide (10272 < len)
    let s1 := match malformed b fcsOk 10272 p with
      | some r => malfCount s1 j r
      | none => s1
    let a : InArr := ⟨s1.tick.clock, detEn s1 q, fcsOk, overl, tbsNow s1, ecc⟩
    if len < 64 || !inPasses s1 q then inDrop s1 q
    else match frontFast s1 j (detEn s1 q) b p with
      | .slowPath =>
        let (s2, fr) := slowEnter s1 j ⟨true, q, b, fcsOk, overl, s1.tick.clock, tbsNow s1, ecc⟩ p
        inFront s2 q b fr a
      | fr => inFront s1 q b fr a)

/-- SLOW_PATH_DONE (R114, R115): the slow parser of slice `j` completes its oldest frame, which goes on with its result;
an inbound frame's timing counts as if its first beat had come 64 cc before. Neither is in deterministic mode (R114). -/
def execSlowPathDone (j : Nat) (s : State) : Host.Outcome State Fault Refusal :=
  done s (match slowQ s j with
  | [] => s
  | f :: l =>
    let s1 := perfAdd (inc (setSlowQ s j l) (K.slowFrames j) 1) (192 + j) 1
    let p := parseSlow f.bytes
    let s1 := match hdrReason f.bytes p with
      | some r => if f.fcsOk && !f.overl then malfCount s1 j r else s1
      | none => s1
    let fr := frontSlow s1 j f.bytes p
    if f.inb then inFront s1 f.q f.bytes fr ⟨s1.tick.clock - 64, false, f.fcsOk, f.overl, f.ing, f.ecc⟩
    else outFront s1 f.q f.bytes fr ⟨f.clk, false, f.ing, f.ecc⟩)

/-- The first frame of a list that is not checked yet is replaced. -/
def mapUnchecked (l : List InFrm) (g : InFrm → List InFrm) : List InFrm :=
  match l with
  | [] => []
  | f :: t => if f.checked then f :: mapUnchecked t g else g f ++ t

/-- The entry settles 24 cc after its last miss (R172, R174). DEDUCED (log entry 22). -/
def predSettle (s : State) (q h pn : Nat) : State :=
  let x := predAt s q
  let later := ((inQ s q).filter (fun f => !f.checked)).drop 1
  if x.st = 1 ∧ x.handle = h ∧ !later.any (fun f => !f.hit && f.handle.isSome) then settle s q h pn else s

/-- A late miss takes the miss path (R173), and the frames of its port decided behind it that would overtake it do too (R174). -/
def holdBehind (s : State) (q : Nat) : List InFrm → State
  | [] => s
  | f :: t =>
    let held := f.held || decide (f.clk < holdUntil s q)
    let s := if held then holdFor s q f.clk (f.bytes.length + 4) else s
    let s := setInQ s q (inQ s q ++ [{ f with held := held }])
    holdBehind s q t
def lateMiss (s : State) (f : InFrm) : State :=
  let l := inQ s f.q
  let s := holdFor s f.q f.clk (f.bytes.length + 4)
  let s := setInQ s f.q (l.filter (·.checked))
  holdBehind s f.q (l.filter (fun g => !g.checked))

/-- A migrated channel's frame at its old placement (R161): none where it is at its place, else whether the drain is over. The
old placement is another port, or this node where the SA `a` now belongs to another. -/
def movedFrom (s : State) (q sc : Nat) (a : SaEnt) : Option Bool :=
  match s.assoc.moved.find? (fun e => e.1 == sc) with
  | some (_, m) => if m.port = q ∧ ((scAt s sc).port ≠ q ∨ !saLocal s a) then some m.overl else none
  | none => none

/-- What the checks of R188 and the SA say: the state with its counts, and true where the frame passes.
DEDUCED (log entry 22). -/
def inChecks (s : State) (f : InFrm) (sc h : Nat) (e : ScEnt) (pn next window : Nat) : State × Bool :=
  let a := saAt s h
  let pnMax := if e.xpn then 2 ^ 64 - 1 else 2 ^ 32 - 1
  let moved := movedFrom s f.q sc a
  if f.tags ≠ e.tagsClear then (inc s (K.tagMismatch f.q) 1, false)
  else if moved = some true then (incFirst s K.migrateLate Ev.migrateLate f.q 0, false)
  else if !f.acc then (inc s K.inNotUsingSa 1, false)
  else if !saLocal s a && moved.isNone then (inc s K.remoteDrops 1, false)
  else if !(slotAt s h).complete then (inc s K.inNotUsingSa 1, false)
  else if pn = pnMax ∨ (e.replay ∧ pn < Nat.max (next - window) 1) then
    (statAdd (inc s K.inLate 1) h 0 0 0 1, false)
  else (s, true)

/-- Bytes the verify buffer of a slice holds (R192): the frames before their verdict, and those being sent. -/
def vbufUsed (s : State) (j : Nat) : Nat :=
  s.dp.inq.foldl (fun a e => if ibOf e.1 = j then
    e.2.foldl (fun a f => if f.checked ∧ f.sf then a + f.bytes.length + 4 else a) a else a)
    (s.dp.vsend.foldl (fun a e => if ibOf e.1 = j ∧ s.tick.clock < e.2.2 then a + e.2.1 else a) 0)

/-- A frame that passed its checks enters its slice. -/
def inEnter (s : State) (f : InFrm) : State :=
  let j := ibOf f.q
  let s := perfAdd (perfAdd (inc s (K.sliceFrames j) 1) (16 + j) 1) (24 + j) (f.bytes.length + 4)
  let s := if f.held then perfAdd (inc s (K.sliceHeld j) 1) (32 + j) 1 else s
  let s := setInQ s f.q (mapUnchecked (inQ s f.q) (fun _ => [{ f with checked := true, dom := tbCtrls s }]))
  let v := vbufUsed s j
  if f.sf ∧ rd s (K.vbufHigh j) < v then wr s (K.vbufHigh j) v else s

/-- A frame that failed its checks is gone. -/
def inRefuse (s : State) (f : InFrm) : State :=
  inDrop (setInQ s f.q (mapUnchecked (inQ s f.q) (fun _ => []))) f.q

/-- An alignment-marker group of the host-side PCS defers a deterministic frame (R182). -/
def inDefer (s : State) (f : InFrm) (am : Bool) : State × InFrm :=
  if f.det && am then (inc s (K.detAmDefer f.q) 1, { f with wait := amWait s f.q }) else (s, f)

/-- INBOUND_CHECKS (R150, R153, R158, R173, R175, R188): cc 64 of the oldest frame not yet checked, under the SC entry of its
decision. `granted`: its SA request, if it made one, was granted in time; `am`: its start at the host side falls in an
alignment-marker group. DEDUCED (log entry 22). -/
def execInboundChecks (q : Nat) (granted am : Bool) (s : State) : Host.Outcome State Fault Refusal :=
  done s (match (inQ s q).find? (fun f => !f.checked) with
  | none => s
  | some f =>
    let s := passTo s (f.clk + 64)
    match f.sc, f.handle with
    | none, _ => let (s, f) := inDefer s f am; inEnter s f
    | some _, none =>
      let e := f.ent
      inRefuse (if f.tags ≠ e.tagsClear then inc s (K.tagMismatch q) 1 else inc s K.inNotUsingSa 1) f
    | some sc, some h =>
      if !f.hit && !granted then inRefuse (inc s K.saBankLate 1) f
      else
        let e := f.ent
        let a := saAt s h
        let x := predAt s q
        let copy := f.hit && x.st != 0 && x.handle == h
        let next := if copy then x.nextPn else a.pn
        let window := if copy then x.window else e.window
        let pn := recoverPn e.xpn next window f.pnLo
        let late := f.hit && e.xpn && pn != f.pn
        let s := if f.hit then
            (if late then perfAdd (inc s (K.predMiss q) 1) (44 + q / 8) 1 else perfAdd (inc s (K.predHit q) 1) (40 + q / 8) 1)
          else predSettle s q h pn
        let s := if late && copy then setPred s q { x with pn := pn } else s
        let key := slotKey (slotAt s h) (suiteKey e.suite)
        let y := predAt s q
        let f := { f with pn := pn, held := f.held || late, key := key,
                          h := if y.st = 2 ∧ y.handle = h ∧ !y.hs.isEmpty then nth y.hs 0 else hashKey key,
                          salt := slotSalt (slotAt s h), ssci := a.ssci, epoch := a.epoch }
        match inChecks s f sc h e pn next window with
        | (s, true) => let (s, f) := inDefer s f am; inEnter (if late then lateMiss s f else s) f
        | (s, false) => inRefuse s f)

/-- The plaintext of a protected frame and its verdict (R164, R186, R189), under the SC entry of its decision (R175). -/
def unprotect (f : InFrm) : List Byte × Bool :=
  let e := f.ent
  let b := f.bytes
  let n := b.length - 16
  let tag := (b.take f.secAt).drop f.tagAt
  let data := (b.take n).drop f.secAt
  let clear := if bit f.tci 3 then e.confBytes else data.length
  let aad := b.take 12 ++ tag ++ data.take clear
  let (pt, ok) := gcmOpenH f.h f.key (frameIv e.xpn e.sci f.ssci f.pn f.salt) aad (data.drop clear) (b.drop n)
  (b.take 12 ++ (b.take f.tagAt).drop 12 ++ data.take clear ++ pt, ok)

/-- The host frame of a line frame before its verdict: itself where it is bypassed, its plaintext where it is protected. -/
def inPlain (f : InFrm) : List Byte × Bool := if f.handle.isSome then unprotect f else (f.bytes, true)

/-- Core clocks from a frame's first beat at the parser to its first beat leaving the slice (R175), and the beats of 128 bytes
that have left before clock `stop`. -/
def inFirst (f : InFrm) : Nat := f.clk + if f.held then 80 else 68
def inBeats (s : State) (f : InFrm) (stop : Nat) : Nat :=
  let n := f.bytes.length + 4
  (List.range ((n + 127) / 128)).countP (fun k =>
    decide (inFirst f + (if k = 0 then 0 else lineCc (portRate s f.q) (Nat.min n (128 * (k + 1)))) < stop))

/-- A PTP event message of an inbound frame (R349, R351, R356). DEDUCED (log entry 23). -/
def ptpIn (s : State) (f : InFrm) (b : List Byte) : State × List Byte :=
  let p := parseFast b
  if ptpMode s f.q = 0 then (s, b)
  else match ptpFind b p with
    | none => (s, b)
    | some (o, c) =>
      if !ptpWithin o 0 then (inc s (K.ptpSkipped f.q) 1, b)
      else if ptpMode s f.q = 1 then
        let hold := if f.sf then lineCc (portRate s f.q) (f.bytes.length + 4) else 0
        let jit : Int := captureError 9 (f.clk * 32 + f.q) * 1000 / 2 ^ 32
        let ps : Int := (latencyCc s f.q .line .host (if f.held then 80 else 68) + hold) * 800
        ptpTransparent s f.q (domBase f.dom (byteAt b (o + 4))) b p o c (ps + jit).toNat
      else if ptpMode s f.q = 2 then ptpIngress s f.q (domBase f.dom (byteAt b (o + 4))) b p o c f.ing (f.clk * 32 + f.q)
      else (s, b)

/-- The frame leaves for the host (R20, R131, R189–R192, R337): metered; killed or dropped where it failed or is red. `count`
the statistics of a frame delivered with a good FCS; `teach` what a verified frame that is not dropped teaches.
DEDUCED (log entry 22). -/
def deliver (s : State) (f : InFrm) (b : List Byte) (failed : Bool) (teach count : State → State) : State :=
  let q := f.q
  let b := b ++ List.replicate (60 - b.length) 0
  let (s, pass) := polMeter s (q / 8) f.flow (b.length + 4)
  let s := if pass then s else inc s (K.polKilled (q / 8)) 1
  let s := if failed then inc s (if f.sf then K.verifyDropped q else K.verifyKilled q) 1 else s
  let s := if !failed && (pass || !f.sf) then teach s else s
  let until_ := s.tick.clock + lineCc (portRate s q) (b.length + 24)
  let s := if f.sf && !failed && pass then
      { s with dp := { s.dp with vsend := tset (0, 0) s.dp.vsend q (b.length + 4, until_) } }
    else s
  if failed || !pass then
    if f.sf then inDrop s q else emit (latMeasure (inc s (K.inKilled q) 1) q 1 f.wait) (.frame .host q b false)
  else
    let s := perfAdd (inc (inc s (K.inHostFrames q) 1) (K.inHostOctets q) (b.length + 4)) (96 + q) 1
    emit (latMeasure (count s) q 1 f.wait) (.frame .host q b true)

/-- A failed verification is recorded (R191). DEDUCED (log entry 22). -/
def verifyFail (s : State) (f : InFrm) (h : Nat) : State :=
  let v := 2 ^ 31 + (if f.sf then 2 ^ 30 else 0) + h
  raiseFirst (wr s (K.verifyLast f.q) v) (K.verifyLast f.q) Ev.verifyFail v 0

/-- NEXT_PN rises behind a verified frame (R153, R161), in the SA and in the predictor's copy (R171).
DEDUCED (log entry 22). -/
def pnRaise (s : State) (f : InFrm) (h : Nat) : State :=
  let a := saAt s h
  if a.pn ≤ f.pn then
    let s := setSa s h { a with pn := f.pn + 1 }
    let x := predAt s f.q
    if x.st ≠ 0 ∧ x.handle = h then setPred s f.q { x with nextPn := f.pn + 1 } else s
  else s

/-- VERIFY_TAIL (R153, R189–R193): the verdict on port `q`'s oldest checked frame as its last beat leaves the slice.
DEDUCED (log entry 22). -/
def execVerifyTail (q : Nat) (s : State) : Host.Outcome State Fault Refusal :=
  done s (match inQ s q with
  | [] => s
  | f :: rest =>
    if !f.checked then s else
    let s := passTo (setInQ s q rest) (inFirst f + beatsCc (portRate s q) (f.bytes.length + 4))
    let bad := !f.fcsOk || f.overl
    match f.sc, f.handle with
    | some sc, some h =>
      let (pt, ok) := inPlain f
      let (s, b) := ptpIn s f pt
      let len := f.bytes.length + 4
      if bad then deliver (verifyFail s f h) f b true id id
      else if ok then
        let s := pnRaise (inc s (K.inVerified q) 1) f h
        let teach := fun s => if rd s (K.learnEn q) = 1 then learnOffer s (q / 8) f.learn sc q else s
        deliver s f b false teach (fun s => statAdd s h 1 len 0 0)
      else
        let s := statAdd s h 0 0 1 0
        if !f.ent.validate && !bit f.tci 3 then deliver (inc s (K.checkDelivered q) 1) f b false id id
        else deliver (verifyFail s f h) f b true id id
    | _, _ =>
      let (s, b) := ptpIn s f f.bytes
      deliver s f b bad id (fun s => inc s (K.inBypassed q) 1))

/-- VERIFY_LAST_READ (R191): the read re-arms VERIFY_FAIL. -/
def execVerifyLastRead (r : Req) (q : Nat) (s : State) : Host.Outcome State Fault Refusal :=
  done s (access s r (K.verifyLast q) false (portRead q (K.verifyLast q)))

end Sys2Proof.Machine
end

