-- ==== Sys2Proof/Machine/Layer1.lean ====
section
/-! DEFINITION. The Layer-1 tributary cipher (R98–R104): contexts, their window and switch arms, multiframes out,
announcements and tags in. -/

namespace Sys2Proof.Machine

/-- Fields of a context's word 0 (R108). DEDUCED (log entry 14). -/
def L1Ctx.enabled (x : L1Ctx) : Bool := bit x.ctrl 31
def L1Ctx.ctid (x : L1Ctx) : Nat := bits x.ctrl 23 16
def L1Ctx.aisAfter (x : L1Ctx) : Nat := bits x.ctrl 11 8

/-- The handle of a phase. -/
def L1Ctx.outHandle (x : L1Ctx) (ph : Bool) : Nat := if ph then x.out1 else x.out0
def L1Ctx.inHandle (x : L1Ctx) (ph : Bool) : Nat := if ph then x.in1 else x.in0

/-- The received tributary is replaced by ODUk-AIS (R102, R103). -/
def L1Ctx.aisIn (x : L1Ctx) : Bool := x.enabled && (!x.inSync || x.noKey || x.ais)

/-- The nine words of a context (R108): words 5 and 6 read the live EXT_MF while it is enabled, else EXT_MF_START. -/
def l1Words (x : L1Ctx) : List Word :=
  let ext := if x.enabled then x.extMf else x.first
  [x.ctrl, x.out0, x.out1, x.in0, x.in1, ext / 2 ^ 32 % 2 ^ 16, ext % 2 ^ 32,
   b2n x.phase + 2 * b2n x.phaseIn + 4 * b2n x.inSync + 8 * b2n x.aisIn + 16 * b2n x.exhaust + 32 * b2n (x.arm != none64),
   x.tagFails]

/-- Context and word of L1_ADDR, and the place after them. -/
def l1Ptr (s : State) (k : Nat) : Nat × Nat := (rdField s (K.l1Addr k) 7 0, rdField s (K.l1Addr k) 11 8)
def l1Advance (s : State) (k : Nat) : State :=
  let (c, w) := l1Ptr s k
  let (c', w') := winNext 160 9 c w
  wr s (K.l1Addr k) (w' * 256 + c')

/-- Word 0 of a context written (R101, R108): the first enable takes EXT_MF_START, a later one resumes from the last value; disabling
forgets what the receiver had found. -/
def l1Enable (x : L1Ctx) (v : Nat) : L1Ctx :=
  let x := { x with ctrl := Nat.land v 0x80FF0F00 }
  if !x.enabled then { x with inSync := false, anns := [], lastAnn := none, bad := 0, noKey := false, ais := false, failRun := 0 }
  else if x.started then x
  else { x with started := true, extMf := x.first }

/-- A word written to a context; none where it is refused (R104, R108). A handle of the active outbound phase is refused only while
the context is enabled: without that no handle of phase 0 could ever be set. A write of the read-only words 7 and 8 is ignored
and advances. DESIGN CHOICE (log entry 62). -/
def l1Put (s : State) (x : L1Ctx) (w v : Nat) : Except Code L1Ctx :=
  match w with
  | 0 => if bit v 31 && s.unit.variant == 1 then .error .unsupportedValue else .ok (l1Enable x v)
  | 1 => if x.enabled && !x.phase then .error .wrongState else .ok { x with out0 := v % 2 ^ 17 }
  | 2 => if x.enabled && x.phase then .error .wrongState else .ok { x with out1 := v % 2 ^ 17 }
  | 3 => .ok { x with in0 := v % 2 ^ 17 }
  | 4 => .ok { x with in1 := v % 2 ^ 17 }
  | 5 => if x.enabled then .error .wrongState else .ok { x with first := v % 2 ^ 16 * 2 ^ 32 + x.first % 2 ^ 32 }
  | 6 => if x.enabled then .error .wrongState else .ok { x with first := x.first / 2 ^ 32 * 2 ^ 32 + v }
  | _ => .ok x

/-- L1_DATA_WRITE (R108, R3): one word; L1_ADDR advances. DEDUCED (log entry 14). -/
def l1DataEff (k v : Nat) (s : State) : Res :=
  let (c, w) := l1Ptr s k
  match l1Put s (l1Ctx s k c) w v with
  | .error e => abortR s e
  | .ok x => okR (l1Advance (setL1 s k c x) k)
def execL1DataWrite (r : Req) (k v : Nat) (s : State) : Host.Outcome State Fault Refusal :=
  done s (access s r (K.l1Data k) true (l1DataEff k (v % 2 ^ 32)))

/-- A read of L1_DATA. -/
def l1DataRead (k : Nat) (s : State) : Res :=
  let (c, w) := l1Ptr s k
  okV (l1Advance s k) [nth (l1Words (l1Ctx s k c)) w]

/-- L1_SWITCH_ARM (R104, R38, R44): the selected context's arm; T, or all ones to disarm. -/
def l1SwitchEff (k t : Nat) (s : State) : Res :=
  let c := rd s (K.l1SwitchSel k)
  let x := l1Ctx s k c
  match armWrite s x.arm t with
  | some code => abortR s code
  | none => okR (setL1 s k c { x with arm := t })
def execL1SwitchArm (r : Req) (k t : Nat) (s : State) : Host.Outcome State Fault Refusal :=
  done s (access s r (K.l1SwitchTick k) true (l1SwitchEff k (t % 2 ^ 64)))

/-- The commit point of a context's switch (R104): skipped, to be reported at cc 32 (R35), where the idle phase's stage is
incomplete; else the phase
flips in the next announcement. A Layer-1 SA is committed by this switch alone. DEDUCED (log entry 14). -/
def l1Commit (s : State) (i : Nat) : State :=
  let k := i / 160
  let c := i % 160
  let x := l1Ctx s k c
  if x.arm = none64 || !dueNow s x.arm then s
  else
    let h := x.outHandle (!(x.annPhase != x.flip))
    let s := evaluated (markLate (setL1 s k c { x with arm := none64 }) x.arm) h
    if !stageComplete s h then { s with lines := { s.lines with l1Skips := s.lines.l1Skips ++ [i] } }
    else setL1 (saState s h Sa.active) k c { x with arm := none64, flip := !x.flip }

/-- The report of skipped switches at cc 32 (R35, R104). The event names context c of pair k as k · 256 + c, a number R430 does not
give. DESIGN CHOICE (log entry 62). -/
def l1SkipReport (s : State) : State :=
  s.lines.l1Skips.foldl (fun s i => raise (inc s K.commitSkipped 1) Ev.l1SwitchSkipped (i / 160 * 256 + i % 160) 0)
    { s with lines := { s.lines with l1Skips := [] } }

/-- Every armed context, in order of pair and context. DEDUCED (log entries 14, 17). -/
def l1Commits (s : State) : State := s.lines.l1.foldl (fun s e => l1Commit s e.1) s

/-- The eight announcement bytes of a multiframe, as one number (R100). -/
def l1Ann (ext : Nat) (ph enc : Bool) (ctid : Nat) : Nat := ext * 2 ^ 16 + (64 + 32 * b2n ph + 16 * b2n enc) * 256 + ctid

/-- The announcement with its CRC. DEDUCED (log entry 14). -/
def l1AnnBytes (a : Nat) : List Byte := toBytes 8 a ++ toBytes 2 (crcMsb 16 0x1021 0xFFFF (toBytes 8 a))

/-- IV and additional data of a multiframe (R99). -/
def l1Iv (salt : List Byte) (ctid ext : Nat) : List Byte := xorBytes salt (ctid :: toBytes 6 ext ++ [0, 0, 0, 0, 0])
def l1Aad (a : Nat) : List Byte := toBytes 8 a ++ List.replicate 8 0

/-- An active entry of direction `d` passes its tributary through context `c` (R95): only such a tributary has multiframes of the
context. -/
def l1Named (s : State) (k d c : Nat) : Bool :=
  (List.range 2).any (fun g =>
    (tsiGroup s k (tsiPage s k d g) d g).any (fun e => tsiValid e.2 && tsiCipher e.2 && tsiCtx e.2 == c))

/-- The store errors that a context's use of handle `h` meets, in its SA entry and its key slot (R159).
DESIGN CHOICE (log entry 59). -/
def l1Hits (s : State) (h : Nat) (ecc : List EccHit) : State := lookupHits s (2 ^ 20) (some h) ecc

/-- What the multiframe under way announces of the next one (R100, R101): its EXT_MF, and ENC where it will be ciphered, which the last
EXT_MF ends; then the last value is announced once more with ENC = 0. DESIGN CHOICE (log entry 62). -/
def l1Next (x : L1Ctx) : Nat × Bool :=
  let ext := if x.annEnc && x.extMf != 2 ^ 48 - 1 then x.extMf + 1 else x.extMf
  (ext, x.enabled && !x.exhaust && !(x.annEnc && x.extMf == 2 ^ 48 - 1))

/-- L1_MULTIFRAME_TX (R99–R101): one outbound multiframe of the tributary that passes context `c`. It is ciphered where the one before
announced so, else it passes clear with a tag of 0; past the last EXT_MF, without a key, or while the data path is disarmed, AIS
takes its place. DEDUCED (log entry 14). -/
def execL1MultiframeTx (k c : Nat) (payload : List Nat) (ecc : List EccHit) (s : State) : Host.Outcome State Fault Refusal :=
  done s (if 4 ≤ k ∨ 160 ≤ c ∨ !l1Named s k 0 c then s else
    let x := l1Ctx s k c
    let p := payload.map (· % 256)
    let ph := x.annPhase
    let next := x.annPhase != x.flip
    let (ext', enc') := l1Next x
    let ann := l1AnnBytes (l1Ann ext' next enc' x.ctid)
    let x' := { x with phase := ph, annPhase := next, flip := false, annEnc := enc', extMf := ext' }
    if x.exhaust then s
    else if !x.annEnc then
      let s := setL1 s k c { x' with lastTag := 0 }
      if armed s then emit s (.l1 k c ann x.lastTag p) else s
    else
      let s := l1Hits s (x.outHandle ph) ecc
      let slot := slotAt s (x.outHandle ph)
      let (ct, tag) := gcmSeal (slotKey slot 32) (l1Iv (slotSalt slot) x.ctid x.extMf) (l1Aad (l1Ann x.extMf ph true x.ctid)) p
      let pass := slot.complete && armed s
      let last := x.extMf == 2 ^ 48 - 1
      let s := setL1 s k c { x' with exhaust := last, lastTag := if pass then ofBytes (tag.take 8) else 0 }
      let s := if pass then emit s (.l1 k c ann x.lastTag ct) else s
      if last then raise s Ev.l1Exhausted (k * 256 + c) 0 else s)

/-- The fields of a stored announcement; bit 64 marks a multiframe replaced by AIS. -/
def annExt (a : Nat) : Nat := a / 2 ^ 16 % 2 ^ 48
def annPh (a : Nat) : Bool := bit a 13
def annEnc (a : Nat) : Bool := bit a 12

/-- Mark a multiframe replaced by AIS. -/
def annAis (a : Nat) : Nat := a % 2 ^ 64 + 2 ^ 64

/-- The EXT_MF the next announcement must carry (R102): in sync it follows the one before, which a failed announcement continues; out
of sync it follows the last announcement, if that was valid. -/
def l1Expect (x : L1Ctx) : Option Nat :=
  (if x.inSync then x.anns.head? else x.lastAnn).map (fun p => (annExt p + 1) % 2 ^ 48)

/-- L1_ANNOUNCE_RX (R100, R102): the eight announcement bytes and their CRC, in the multiframe before the one they describe. Two
consecutive valid announcements give sync, two failed ones lose it; with the sync the multiframe under way is lost, the one before
stands (R103). The Layer-1 events name context c of pair k as k · 256 + c, a number R430 does not give. DEDUCED (log entry 14);
DESIGN CHOICE (log entry 62). -/
def execL1AnnounceRx (k c : Nat) (ann : List Nat) (s : State) : Host.Outcome State Fault Refusal :=
  done s (if 4 ≤ k ∨ 160 ≤ c ∨ !l1Named s k 1 c then s else
    let x := l1Ctx s k c
    if !x.enabled then s else
    let b := ann.map (· % 256)
    let a := ofBytes (b.take 8)
    let valid := b == l1AnnBytes a && a % 256 == x.ctid && decide (tget 0 x.acc (x.inHandle (annPh a)) ≤ annExt a)
    let inStep := valid && l1Expect x == some (annExt a)
    let bad := if inStep then 0 else x.bad + 1
    let sync := inStep || (x.inSync && decide (bad < 2))
    let own : Nat := match x.anns.head? with
      | some p => if x.inSync && !inStep then l1Ann ((annExt p + 1) % 2 ^ 48) (annPh p) (annEnc p) x.ctid else a
      | none => a
    let ph := annPh own
    let key := annEnc own && sync && !(slotAt s (x.inHandle ph)).complete
    let lost := x.inSync && !sync
    let x' := { x with bad := bad, inSync := sync, phaseIn := ph, noKey := key, lastAnn := if valid then some a else none,
                       acc := if inStep then tset 0 x.acc (x.inHandle ph) (annExt a + 1) else x.acc }
    let old := match x.anns with
      | a1 :: l => (if lost then annAis a1 else a1) :: l.take 1
      | [] => []
    let s := setL1 s k c { x' with anns := (if x'.aisIn then annAis own else own % 2 ^ 64) :: old }
    let s := if lost then raise s Ev.l1SyncLost (k * 256 + c) 0 else s
    if key then raise s Ev.l1NoKey (k * 256 + c) 0 else s)

/-- L1_TAG_RX (R99, R103): the tag of the previous multiframe, whose ciphertext is `cipher`. That multiframe was delivered unless AIS
took its place or the data path is disarmed (R105); then its tag is judged. DEDUCED (log entry 14). -/
def execL1TagRx (k c : Nat) (cipher : List Nat) (tag : Nat) (ecc : List EccHit) (s : State) : Host.Outcome State Fault Refusal :=
  done s (if 4 ≤ k ∨ 160 ≤ c ∨ !l1Named s k 1 c then s else
    let x := l1Ctx s k c
    let c' := cipher.map (· % 256)
    match x.anns with
    | [a0, a1, a] =>
      let deliver := fun (s : State) (p : List Byte) => if bit a 64 || !armed s then s else emit s (.l1In k c p)
      if !x.enabled then s
      else if !annEnc a then deliver s c'
      else
        let s := l1Hits s (x.inHandle (annPh a)) ecc
        let slot := slotAt s (x.inHandle (annPh a))
        if !slot.complete then s
        else
          let (pt, _) := gcmOpen (slotKey slot 32) (l1Iv (slotSalt slot) x.ctid (annExt a)) [] c' []
          let t := gcmTag (slotKey slot 32) (l1Iv (slotSalt slot) x.ctid (annExt a)) (l1Aad (a % 2 ^ 64)) c'
          let ok := ofBytes (t.take 8) == tag % 2 ^ 64
          let run := if ok then 0 else x.failRun + 1
          let ais := !ok && ((x.aisAfter != 0 && decide (x.aisAfter ≤ run)) || x.ais)
          let x' := { x with failRun := run, ais := ais, tagFails := if ok then x.tagFails else (x.tagFails + 1) % 2 ^ 32 }
          let s := setL1 s k c { x' with anns := [if x'.aisIn then annAis a0 else a0 % 2 ^ 64, a1, a] }
          let s := deliver s pt
          if ok then s else raise s Ev.l1TagFail (k * 256 + c) 0
    | _ => s)

end Sys2Proof.Machine
end

