-- ==== Sys2Proof/Machine/Time.lean ====
section
/-! DEFINITION. The time bases (R339–R346), captures and timers (R342, R357) and the PPS and SYNC_OUT outputs (R358,
R359). -/

namespace Sys2Proof.Machine

/-- Servo states (R362). -/
def Servo.free : Nat := 0
def Servo.acquiring : Nat := 1
def Servo.locked : Nat := 2
def Servo.holdover : Nat := 3
def servo (s : State) (n : Nat) : Nat := rdField s (K.tbStatus n) 2 1

/-- The servo's state changes; TICK_STATUS shows TB0's holdover (R346). -/
def setServo (s : State) (n v : Nat) : State :=
  let s := wrField s (K.tbStatus n) 2 1 v
  if n = 0 then wrBit s K.tickStatus 1 (v == Servo.holdover) else s

/-- The range of a time base in units of 2^-32 ns (R339). -/
def tbRange : Nat := 2 ^ 48 * tbSecond

/-- The second, less PPS_ADVANCE, that time base `n` is in (R358), and PPS_OUT waiting for the next one of PPS_TB. -/
def ppsSecond (s : State) (n : Nat) : Nat := (tbNow s n + rd s K.ppsAdvance * 2 ^ 32) / tbSecond
def ppsFrom (s : State) : State := { s with tick := { s.tick with pps := ppsSecond s (rd s K.ppsTb) } }

/-- A step of time base `n` to value `v` (R343): counted, raised with its size in ns, and followed by the tick's check, the
gates, the performance bins and PPS_OUT. A timer that a step takes back before the time it waits from waits from the new time
(R357). DEDUCED (log entries 11, 25). -/
def tbStepTo (s : State) (n v : Nat) : State :=
  let old := tbNow s n
  let d : Int := (v : Int) - old
  let waits := (tb s n).tmrAt.map (fun e => (e.1, Nat.min e.2 (v / 2 ^ 32 - 1)))
  let s := setTb s n { reanchor s n with base := v, tmrAt := waits }
  let s := if rd s K.ppsTb = n then ppsFrom s else s
  let s := wrField s (K.tbStatus n) 31 16 (rdField s (K.tbStatus n) 31 16 + 1)
  let s := raise s Ev.tbStepped n (ofSigned 32 (clampInt (-(2 ^ 31)) (2 ^ 31 - 1) (d / 2 ^ 32)))
  let s := if n = 0 then tickTbStep s d else s
  let s := if n = 0 ∧ tbSecond ≤ d.natAbs then pmStepped s else s
  gateFollow s n

/-- A set or a step of time base `n` by a channel is on record for its core clock (R361). -/
def tbSetBy (s : State) (r : Req) (n : Nat) : State := setTb s n { tb s n with setBy := some (s.tick.clock, r.ch) }

/-- Another channel sets or steps time base `n` in this core clock (R361). -/
def tbSetNow (s : State) (r : Req) (n : Nat) : Bool :=
  match (tb s n).setBy with
  | some (t, c) => t == s.tick.clock && c != r.ch
  | none => false

/-- TB_SET (R341, R343): the time is loaded; nanoseconds below 10^9. -/
def tbSetEff (r : Req) (n v : Nat) (s : State) : Res :=
  if 1000000000 ≤ v / 2 ^ 16 % 2 ^ 32 then abortR s .unsupportedValue
  else okR (tbSetBy (wrBit (tbStepTo s n (ofTime96 v)) (K.tbStatus n) 0 true) r n)
def execTbSet (r : Req) (n v : Nat) (s : State) : Host.Outcome State Fault Refusal :=
  done s (access s r (K.tbSet n) true (tbSetEff r n (v % 2 ^ 96)))

/-- A value moved by picoseconds, within the range. -/
def tbMoved (v : Nat) (ps : Int) : Nat := (((v : Int) + ps * 2 ^ 32 / 1000) % (tbRange : Int)).toNat

/-- TB_STEP (R343): a signed step in ps. -/
def tbStepEff (r : Req) (n : Nat) (ps : Int) (s : State) : Res := okR (tbSetBy (tbStepTo s n (tbMoved (tbNow s n) ps)) r n)
def execTbStep (r : Req) (n : Nat) (ps : Int) (s : State) : Host.Outcome State Fault Refusal :=
  done s (access s r (K.tbStep n) true (tbStepEff r n (toSigned 64 (ofSigned 64 ps))))

/-- Time base `n` stops being VALID (R341, R344): its servo is FREE, the tick and PPS_OUT that follow it stop.
DEDUCED (log entry 25). -/
def tbInvalidate (s : State) (n : Nat) : State :=
  let was := tbValid s n
  let s := setServo (wrBit s (K.tbStatus n) 0 false) n Servo.free
  let s := setTb s n { tb s n with good := 0, bad := 0, clamped := false }
  let s := if n = 0 then tickInvalid s else s
  if was && rd s K.ppsTb == n then raise s Ev.ppsStopped n 0 else s

/-- A write of TB_CTRL (R350, R362): no two enabled time bases of one domain; bit 1 invalidates. -/
def tbCtrlEff (n v : Nat) (s : State) : Res :=
  let clash := bit v 8 && (List.range 4).any (fun m => m != n && rdBit s (K.tbCtrl m) 8 && rdField s (K.tbCtrl m) 23 16 == bits v 23 16)
  if clash then abortR s .wrongState
  else
    let s := wr s (K.tbCtrl n) (Nat.land v 0x00FF0111)
    okR (if bit v 1 then tbInvalidate s n else s)

/-- TB_INVALIDATE (R341): TB_CTRL.INVALIDATE with the other fields as they stand. -/
def execTbInvalidate (r : Req) (n : Nat) (s : State) : Host.Outcome State Fault Refusal :=
  done s (access s r (K.tbCtrl n) true (fun s => tbCtrlEff n (setBit (rd s (K.tbCtrl n)) 1 true) s))

/-- A quotient in 1/1,024 ppb; how an inexact one rounds is open: FREE VALUE (log entry 8). -/
def fxDiv (a d : Int) (i : Nat) : Int := a / d + (if a % d = 0 then 0 else ((Config.free 10 i).toNat % 2 : Nat))

/-- One update of the servo by an offset in ps (R344, R345). DEDUCED (log entry 25). -/
def servoUpdate (s : State) (n : Nat) (o : Int) : State :=
  let s := inc (wr s (K.servoOffset n) (ofSigned 64 o)) (K.servoUpdates n) 1
  let s := setTb s n { tb s n with offAt := s.tick.clock }
  let st := servo s n
  if st = Servo.free ∨ (rdBit s (K.tbCtrl n) 0 ∧ rd s (K.stepThreshold n) < o.natAbs) then
    let s := tbStepTo s n (tbMoved (tbNow s n) (-o))
    let s := setTb s n { tb s n with good := 0, bad := 0, clamped := false }
    setServo (wrBit s (K.tbStatus n) 0 true) n Servo.acquiring
  else
    let x := reanchor s n
    let lim : Int := rd s (K.freqLimit n) * 1024
    let i := rd s (K.servoUpdates n) * 4 + n
    let iRaw := x.integ - fxDiv (rd s (K.ki n) * o) 64000 (2 * i)
    let integ := clampInt (-lim) lim iRaw
    let fRaw := integ - fxDiv (rd s (K.kp n) * o) 64000 (2 * i + 1)
    let freq := clampInt (-lim) lim fRaw
    let clamped := decide (lim ≤ iRaw.natAbs) || decide (lim ≤ fRaw.natAbs)
    let inLock := decide (o.natAbs ≤ rd s (K.lockThreshold n))
    let good := if inLock then x.good + 1 else 0
    let bad := if inLock then 0 else x.bad + 1
    let st := if st = Servo.acquiring ∧ 8 ≤ good then Servo.locked else st
    let st := if st = Servo.locked ∧ 4 ≤ bad then Servo.acquiring else st
    let st := if st = Servo.holdover then Servo.acquiring else st
    let s := setTb s n { x with integ := integ, freq := freq, good := good, bad := bad, clamped := clamped }
    let s := setServo (wr s (K.freq n) (ofSigned 32 freq)) n st
    if clamped && !x.clamped then raise s Ev.servoClamped n 0 else s

/-- SERVO_OFFSET (R344, R361): an offset in the core clock in which another channel sets or steps the time base is discarded and
counted. DESIGN CHOICE (log entry 12). -/
def servoOffsetEff (r : Req) (n : Nat) (o : Int) (s : State) : Res :=
  okR (if tbSetNow s r n then inc s (K.servoDiscarded n) 1 else servoUpdate s n o)
def execServoOffset (r : Req) (n : Nat) (o : Int) (s : State) : Host.Outcome State Fault Refusal :=
  done s (access s r (K.servoOffset n) true (servoOffsetEff r n (toSigned 64 (ofSigned 64 o))))

/-- The servo enters HOLDOVER from ACQUIRING or LOCKED (R346): its frequency is the integrator. DEDUCED (log entry 25). -/
def toHoldover (s : State) (n : Nat) : State :=
  if servo s n = Servo.acquiring ∨ servo s n = Servo.locked then
    let x := reanchor s n
    let s := wr (setTb s n { x with freq := x.integ }) (K.freq n) (ofSigned 32 x.integ)
    raise (setServo s n Servo.holdover) Ev.servoHoldover n 0
  else s

/-- FORCE_HOLDOVER (R346): bit 0 of SERVO_CTRL. DEDUCED (log entry 25). -/
def servoCtrlEff (n v : Nat) (s : State) : Res := okR (if bit v 0 then toHoldover s n else s)
def execForceHoldover (r : Req) (n : Nat) (s : State) : Host.Outcome State Fault Refusal :=
  done s (access s r (K.servoCtrl n) true (servoCtrlEff n 1))

/-- UPDATE_TIMEOUT ms, of 1,250,000 core clocks each, have passed since the last offset (R346). DEDUCED (log entry 25). -/
def servoStale (s : State) (n : Nat) : Bool := decide ((tb s n).offAt + rd s (K.updateTimeout n) * 1250000 ≤ s.tick.clock)

/-- SERVO_UPDATE_TIMEOUT (R346): UPDATE_TIMEOUT ms without an offset. -/
def execServoUpdateTimeout (n : Nat) (s : State) : Host.Outcome State Fault Refusal :=
  done s (if n < 4 ∧ servoStale s n then toHoldover s n else s)

/-- TB_NOW_READ (R342): one instant. -/
def tbNowRead (n : Nat) (s : State) : Res := okV s (encVal .time96 (toTime96 (tbNow s n)))
def execTbNowRead (r : Req) (n : Nat) (s : State) : Host.Outcome State Fault Refusal :=
  done s (access s r (K.tbNow n) false (tbNowRead n))

/-- CAPTURE_CMD (R342). -/
def captureEff (v : Nat) (s : State) : Res :=
  if v ≠ 1 then abortR s .unsupportedValue
  else okR (wr (forNat 4 (fun i t => wr t (K.captureTb i) (toTime96 (tbNow s i))) s) K.captureTick (tickNo s))
def execCaptureCmd (r : Req) (s : State) : Host.Outcome State Fault Refusal :=
  done s (access s r K.captureCmd true (captureEff 1))

/-- Timer `t` of time base `n` fires (R357, R359): a pulse with OUT set, else the event. DEDUCED (log entry 11). -/
def timerFire (s : State) (n t : Nat) (late : Bool) : State :=
  let s := wrBit s (K.tmrCtrl n) t false
  let s := if late then wrBit s (K.tmrCtrl n) (8 + t) true else s
  if rdBit s (K.tmrCtrl n) (4 + t) then (if rdField s K.syncOutCtrl 1 0 = 3 then emit s .syncOut else s)
  else raise s Ev.tbTimer n t

/-- A timer's target is at or behind the time by the signed comparison (R357). DEDUCED (log entry 11). -/
def timerPast (s : State) (n t : Nat) : Bool :=
  decide (toSigned 32 ((rd s (K.tmrTarget n t) + 2 ^ 32 - ns32 (tbNow s n)) % 2 ^ 32) ≤ 0)

/-- Timer `t` of time base `n` waits for its target from now on; under SIGNED one that is past fires at once (R357, R361). -/
def timerWait (s : State) (n t : Nat) : State :=
  let x := tb s n
  let s := setTb s n { x with tmrAt := tset 0 x.tmrAt t (tbNow s n / 2 ^ 32) }
  if rdBit s (K.tbCtrl n) 4 && !x.stopped && timerPast s n t then timerFire s n t true else s

/-- TMR_CTRL_WRITE (R357): setting EN_t arms a timer and clears its LATE. DEDUCED (log entry 11). -/
def tmrCtrlEff (n v : Nat) (s : State) : Res :=
  let late := rdField s (K.tmrCtrl n) 11 8
  let s := wr s (K.tmrCtrl n) (v % 256 + Nat.land late (15 - v % 16) * 256)
  okR (forNat 4 (fun t s => if bit v t then timerWait s n t else s) s)
def execTmrCtrlWrite (r : Req) (n v : Nat) (s : State) : Host.Outcome State Fault Refusal :=
  done s (access s r (K.tmrCtrl n) true (tmrCtrlEff n (v % 2 ^ 32)))

/-- TMR_TARGET written (R357, R361): a timer already armed waits for the new target. DEDUCED (log entry 11). -/
def tmrTargetEff (n t k v : Nat) (s : State) : Res :=
  let s := wr s k v
  okR (if rdBit s (K.tmrCtrl n) t then timerWait s n t else s)

/-- An armed timer has reached its target (R357): under SIGNED by the comparison; under EXTEND the time has come to the target's
NS32 since the timer waits. -/
def timerDue (s : State) (n t : Nat) : Bool :=
  if rdBit s (K.tbCtrl n) 4 then timerPast s n t
  else
    let a := tget 0 (tb s n).tmrAt t
    let d := (rd s (K.tmrTarget n t) + 2 ^ 32 - a % 2 ^ 32) % 2 ^ 32
    decide (a + (if d = 0 then 2 ^ 32 else d) ≤ tbNow s n / 2 ^ 32)

/-- TB_TIMER_FIRE (R357): NS32 reaches the target of an armed timer; no timer fires while its clock is stopped. -/
def execTbTimerFire (n t : Nat) (s : State) : Host.Outcome State Fault Refusal :=
  done s (if n < 4 ∧ t < 4 ∧ rdBit s (K.tmrCtrl n) t ∧ !(tb s n).stopped ∧ timerDue s n t then timerFire s n t false else s)

/-- PPS_TB and PPS_ADVANCE written (R358, R362): PPS_OUT waits for the next second of the new setting. DEDUCED (log entry 25). -/
def ppsEff (k v : Nat) (s : State) : Res :=
  let x := writePlain s k v
  { x with st := if x.code = .ok then ppsFrom x.st else x.st }

/-- PPS_PULSE (R358, R359): PPS_TB has passed a whole second less the advance, once per second; only while it is VALID. -/
def execPpsPulse (s : State) : Host.Outcome State Fault Refusal :=
  done s (if tbValid s (rd s K.ppsTb) && decide (s.tick.pps < ppsSecond s (rd s K.ppsTb)) then
    let s1 := emit (ppsFrom s) (.pps (rd s K.ppsTb) (rd s K.ppsWidth))
    if rdField s K.syncOutCtrl 1 0 = 1 then emit s1 .syncOut else s1
  else s)

end Sys2Proof.Machine
end

