-- ==== Sys2Proof/Machine/Stats.lean ====
section
/-! DEFINITION. Statistics, performance counters, dumps and the freeze (R363–R381). -/

namespace Sys2Proof.Machine

/-- A read during a freeze returns the frozen values (R378). -/
def frozenSnap (s : State) : Option Snap := if s.stats.frozen.isSome then s.stats.snap else none

/-- Words of a statistics entry (R365). -/
def statWords (x : SaStat) : List Word := toWords 2 x.frames ++ toWords 2 x.octets ++ [x.fails % 2 ^ 32, x.drops % 2 ^ 32]

/-- The statistics of a handle as SA_STAT_DATA shows them. -/
def statView (s : State) (h : Nat) : SaStat :=
  match frozenSnap s with
  | some n => tget stat0 n.sas h
  | none => statAt s h

/-- SA_STAT_ADDR: a handle and a word 0–5 (R381). -/
def saStatAddrEff (r : Req) (v : Nat) (s : State) : Res :=
  if 5 < bits v 22 20 then abortR s .unsupportedValue
  else claimed s Grp.saStat r (fun s => okR (wr s K.saStatAddr (Nat.land v 0x71FFFF)))

/-- One read of SA_STAT_DATA (R366): the high word of a 64-bit counter latches its low word for the next read.
DEDUCED (log entry 27). -/
def saStatRead (s : State) : Res :=
  let a := rd s K.saStatAddr
  let h := bits a 16 0
  let w := bits a 22 20
  let ws := statWords (statView s h)
  let v := match s.assoc.latch with
    | some (a', low) => if (w = 1 ∨ w = 3) ∧ a' = a then low else nth ws w
    | none => nth ws w
  let next := if w < 5 then a + 2 ^ 20 else (h + 1) % 131072
  let latch := if w = 0 ∨ w = 2 then some (a + 2 ^ 20, nth ws (w + 1)) else none
  okV (wr { s with assoc := { s.assoc with latch := latch } } K.saStatAddr next) [v]

/-- An uncorrectable word of a statistics entry: the entry becomes zero, is counted, recorded and raised (R367).
DESIGN CHOICE (log entry 59). -/
def statEccHit (s : State) (h : Nat) : State :=
  raise (wr (inc (setStat s h stat0) K.statEcc 1) K.statEccLast h) Ev.statEcc h 0

/-- A read of SA_STAT_DATA goes to the store: neither to the snapshot of a freeze nor to a latched low word (R366, R378).
DESIGN CHOICE (log entry 59). -/
def statFromStore (s : State) : Bool :=
  let a := rd s K.saStatAddr
  (frozenSnap s).isNone && (match s.assoc.latch with
    | some (a', _) => !(a' == a && (bits a 22 20 == 1 || bits a 22 20 == 3))
    | none => true)

/-- SA_STAT_DATA_READ (R365–R367); `bad` = the entry that it reads is found uncorrectable.
DESIGN CHOICE (log entry 59). -/
def saStatReadEff (bad : Bool) (s : State) : Res :=
  saStatRead (if bad && statFromStore s then statEccHit s (rdField s K.saStatAddr 16 0) else s)
def execSaStatDataRead (r : Req) (bad : Bool) (s : State) : Host.Outcome State Fault Refusal :=
  done s (access s r K.saStatData false (saStatReadEff bad))

/-- A port counter as its object shows it (R368, R378). -/
def portStatView (s : State) (key : Nat) : Nat :=
  match frozenSnap s with
  | some n => tget 0 n.ports key
  | none => rd s key

/-- The selectors R373 lists. -/
def perfSelOk (v : Nat) : Bool :=
  decide (v ≤ 2) || (decide (16 ≤ v) && decide (v ≤ 47)) || (decide (64 ≤ v) && decide (v ≤ 199)) ||
  (decide (256 ≤ v) && decide (v ≤ 321)) || (decide (384 ≤ v) && decide (v ≤ 772)) || (decide (800 ≤ v) && decide (v ≤ 809))

/-- PERF_SEL_WRITE (R372, R373). -/
def perfSelEff (n v : Nat) (s : State) : Res :=
  let v := v % 1024
  if !perfSelOk v then abortR s .unsupportedValue
  else okR { wr s (K.perfSel n) v with stats := { s.stats with dirty := n :: s.stats.dirty } }
def execPerfSelWrite (r : Req) (n v : Nat) (s : State) : Host.Outcome State Fault Refusal :=
  done s (access s r (K.perfSel n) true (perfSelEff n v))

/-- PERF_CHAIN_WRITE (R370, R372): the counters concerned are those of the pairs whose bit changes.
DEDUCED (log entry 27). -/
def perfChainEff (v : Nat) (s : State) : Res :=
  let v := v % 2 ^ 32
  let hit := (List.range 64).filter (fun n => bit v (n / 2) != rdBit s K.perfChain (n / 2))
  okR { wr s K.perfChain v with stats := { s.stats with dirty := hit ++ s.stats.dirty } }
def execPerfChainWrite (r : Req) (v : Nat) (s : State) : Host.Outcome State Fault Refusal :=
  done s (access s r K.perfChain true (perfChainEff v))

/-- PERF_CTRL_WRITE (R372): ENABLE takes effect at the next cc 0. -/
def perfCtrlEff (v : Nat) (s : State) : Res := okR (wr s K.perfCtrl (v % 2))
def execPerfCtrlWrite (r : Req) (v : Nat) (s : State) : Host.Outcome State Fault Refusal :=
  done s (access s r K.perfCtrl true (perfCtrlEff v))

/-- What a selector that counts clocks has counted in `dc` core clocks of this tick: the core clock itself (R373); for the
selectors whose count is a matter of timing a FREE VALUE within their weight and the job's budget (log entry 8). -/
def clockCount (s : State) (sel dc : Nat) : Nat :=
  let f := fun (most : Nat) => (Config.free 11 (s.tick.elapsed * 1024 + sel)).toNat % (Nat.min dc most + 1)
  if sel = 1 then dc
  else if 288 ≤ sel ∧ sel < 320 then f dc
  else if sel = 320 ∨ sel = 321 then f (dc / 4 + 1)
  else 0

/-- The hardware counters with the clocks counted up to `dc` core clocks into the tick. DEDUCED (log entry 27). -/
def perfHws (s : State) (dc : Nat) : Perf :=
  if s.perf.on then s.perf.act.foldl (fun p e => perfBump p e.1 (clockCount s e.2 dc)) s.perf else s.perf

/-- PERF_HW (R370): 16 bits of a chained pair's count in each of its counters, a stopped counter 0xFFFF. -/
def perfHwView (s : State) (n : Nat) : Nat :=
  let p := perfHws s (s.tick.clock - s.tick.start)
  if bit p.chain (n / 2) then
    let v := tget 0 p.hw (n / 2 * 2)
    if n % 2 = 0 then v % 65536 else v / 65536 % 65536
  else Nat.min 65535 (tget 0 p.hw n)

/-- PERF_ACC (R378). -/
def perfAccView (s : State) (n : Nat) : Nat :=
  match frozenSnap s with
  | some x => tget 0 x.acc n
  | none => rd s (K.perfAcc n)

/-- The fold of counter `n` with hardware count `v` (R369–R372), and the raises it causes. -/
def foldOne (s : State) (p : Perf) (n : Nat) : State × List (Nat × Nat) :=
  if s.stats.dirty.contains n then
    (wrBit (wrBit (wr s (K.perfAcc n) 0) K.perfWrap n false) K.perfSat n false, [])
  else
    let v := tget 0 p.hw n
    let sat := v == 65536
    let a := rd s (K.perfAcc n) + (if sat then 65535 else v)
    let s1 := wr s (K.perfAcc n) (a % 2 ^ 48)
    let (s2, l) := if sat then (wrBit s1 K.perfSat n true, [(Ev.perfSaturated, n)]) else (s1, [])
    if 2 ^ 48 ≤ a then (wrBit s2 K.perfWrap n true, l ++ [(Ev.perfWrap, n)]) else (s2, l)

/-- The fold at cc 0 of a new tick, the tick that ended having been `len` core clocks long (R369–R372); the boundary itself counts
in the new interval (R369, R373). -/
def perfFold (s : State) (len : Nat) : State :=
  let p := perfHws s len
  let (s, l) := forNat 64 (fun n (x : State × List (Nat × Nat)) =>
    let (s, l) := foldOne x.1 p n
    (s, x.2 ++ l)) (s, [])
  let act := forNat 64 (fun n t => tset 0 t n (rd s (K.perfSel n))) []
  let s := { s with perf := { act := act, chain := rd s K.perfChain, on := rdBit s K.perfCtrl 0, hw := [] }, stats := { s.stats with dirty := [] } }
  let s := perfAdd s 2 1
  forList l (fun e s => raise s e.1 e.2 0) s

/-- The snapshot of this tick (R364). -/
def snapNow (s : State) : Snap :=
  let acc := forNat 64 (fun n t => tset 0 t n (rd s (K.perfAcc n))) []
  let ports := forNat 32 (fun q t => forNat 16 (fun m t => tset 0 t ((0x9010 + q) * 256 + m + 1) (rd s ((0x9010 + q) * 256 + m + 1))) t) []
  { tick := tickNo s, sel := rd s K.dumpSelect, first := rd s K.dumpSaFirst, last := rd s K.dumpSaLast, acc := acc,
    wrap := rd s K.perfWrap, sat := rd s K.perfSat, ports := ports, sas := s.assoc.stat }

/-- A dump falls due at a tick boundary (R374, R376): it takes the snapshot, or is skipped where one is held. -/
def dumpDue (s : State) : State :=
  let per := rd s K.dumpPeriod
  let due := s.stats.req || (per != 0 && tickNo s % per == 0)
  let s := { s with stats := { s.stats with req := false } }
  if !due then s
  else match s.stats.snap with
  | some _ => raise (inc s K.dumpSkipped 1) Ev.dumpSkipped 0 0
  | none => { s with stats := { s.stats with snap := some (snapNow s) } }

/-- DUMP_REQUEST (R374): only 1 is taken. -/
def dumpRequestEff (v : Nat) (s : State) : Res :=
  if v ≠ 1 then abortR s .unsupportedValue else okR { s with stats := { s.stats with req := true } }
def execDumpRequest (r : Req) (s : State) : Host.Outcome State Fault Refusal :=
  done s (access s r K.dumpRequest true (dumpRequestEff 1))

/-- A write of the SA range: its ends stay in order (R377). -/
def dumpSaFirstEff (v : Nat) (s : State) : Res :=
  if rd s K.dumpSaLast < v then abortR s .unsupportedValue else writePlain s K.dumpSaFirst v
def dumpSaLastEff (v : Nat) (s : State) : Res :=
  if v < rd s K.dumpSaFirst then abortR s .unsupportedValue else writePlain s K.dumpSaLast v

/-- DUMP_START (R35, R374, R377): at cc 256 the dump due in this tick starts. -/
def execDumpStart (s : State) : Host.Outcome State Fault Refusal :=
  done s (if s.stats.snap.isSome && s.stats.frozen.isNone && s.stats.dump.isNone then
    wrBit (inc { toCc s 256 with stats := { s.stats with dump := some (0, 0xFFFFFFFF) } } K.dumpSeq 1) K.dumpStatus 0 true
  else toCc s 256)

/-- Words of the performance and port sections, and of the SA section (R377). -/
def dumpPerfLen (n : Snap) : Nat := if bit n.sel 0 then 128 else 0
def dumpPortLen (n : Snap) : Nat := if bit n.sel 1 then 1024 else 0
def dumpSaLen (n : Snap) : Nat := if bit n.sel 2 then 6 * (n.last + 1 - n.first) else 0

/-- The words of a record. -/
def dumpLen (n : Snap) : Nat := 8 + dumpPerfLen n + dumpPortLen n + dumpSaLen n + 1

/-- Word `i` of a record but its CRC (R377). DEDUCED (log entry 27). -/
def dumpWord (n : Snap) (seq i : Nat) : Word :=
  let p := 8 + dumpPerfLen n
  let a := p + dumpPortLen n
  if i < 8 then
    nth [0x4B440001, seq, n.tick / 2 ^ 32 % 2 ^ 32, n.tick % 2 ^ 32, n.sel, dumpLen n, n.first, n.last] i
  else if i < p then
    let c := (i - 8) / 2
    let v := tget 0 n.acc c
    if i % 2 = 0 then b2n (bit n.wrap c) * 2 ^ 31 + b2n (bit n.sat c) * 2 ^ 30 + v / 2 ^ 32 % 65536 else v % 2 ^ 32
  else if i < a then
    let c := (i - p) / 2
    let v := tget 0 n.ports ((0x9010 + c / 16) * 256 + c % 16 + 1)
    if (i - p) % 2 = 0 then v / 2 ^ 32 % 2 ^ 32 else v % 2 ^ 32
  else
    let k := i - a
    nth (statWords (tget stat0 n.sas (n.first + k / 6))) (k % 6)

/-- Copy `k` words of the record from word `i` on: the words and the CRC register after them. -/
def dumpCopy (n : Snap) (seq : Nat) : Nat → Nat → Nat → List Word → List Word × Nat × Nat
  | 0, i, crc, out => (out.reverse, i, crc)
  | k + 1, i, crc, out =>
    if i + 1 < dumpLen n then
      let w := dumpWord n seq i
      dumpCopy n seq k (i + 1) ((toBytes 4 w).foldl crc32Byte crc) (w :: out)
    else if i + 1 = dumpLen n then ((Nat.xor crc 0xFFFFFFFF :: out).reverse, i + 1, crc)
    else (out.reverse, i, crc)

/-- DUMP_CHUNK (R374–R376): at most 1,024 words and never more than the bank's free space; a full bank stalls the step. -/
def execDumpChunk (s : State) : Host.Outcome State Fault Refusal :=
  done s (match s.stats.dump, s.stats.snap with
    | some (i, crc), some n => bgStep s 3 (fun s1 =>
      let room := 4096 - s.stats.bank.length
      if room = 0 then wrBit (inc s1 K.dumpStalls 1) K.dumpStatus 1 true
      else
        let (ws, i', crc') := dumpCopy n (rd s K.dumpSeq) (Nat.min 1024 room) i crc []
        let bank := s.stats.bank ++ ws
        let s2 := wrBit (wr s1 K.dumpLevel bank.length) K.dumpStatus 1 false
        if i' < dumpLen n then { s2 with stats := { s.stats with bank := bank, dump := some (i', crc') } }
        else raise (wrBit { s2 with stats := { s.stats with bank := bank, dump := none, snap := none } } K.dumpStatus 0 false) Ev.dumpDone 0 0)
    | _, _ => s)

/-- One read of DUMP_DATA (R375): the oldest word, freed. DEDUCED (log entry 27). -/
def dumpDataRead (s : State) : Res :=
  match s.stats.bank with
  | [] => abortR s .wrongState
  | w :: l => okV (wr { s with stats := { s.stats with bank := l } } K.dumpLevel l.length) [w]
def execDumpDataRead (r : Req) (s : State) : Host.Outcome State Fault Refusal :=
  done s (access s r K.dumpData false dumpDataRead)

/-- The freeze ends (R378). -/
def freezeEnd (s : State) : State :=
  let s := wr (wrBit s K.freezeStatus 0 false) K.freezeTick none64
  { s with stats := { s.stats with frozen := none, snap := if s.stats.frozen.isSome then none else s.stats.snap } }

/-- FREEZE_CTRL (R378): 1 requests a freeze, 2 releases it or withdraws the request; other values are reserved. A request
while a freeze holds changes nothing. DEDUCED (log entry 27). -/
def freezeCtrlEff (v : Nat) (s : State) : Res :=
  if v = 1 then okR (if s.stats.frozen.isSome then s else wrBit s K.freezeStatus 1 true)
  else if v = 2 then okR (wrBit (freezeEnd s) K.freezeStatus 1 false)
  else abortR s .unsupportedValue

/-- FREEZE_REQUEST and FREEZE_RELEASE (R378). -/
def execFreezeRequest (r : Req) (s : State) : Host.Outcome State Fault Refusal :=
  done s (access s r K.freezeCtrl true (freezeCtrlEff 1))
def execFreezeRelease (r : Req) (s : State) : Host.Outcome State Fault Refusal :=
  done s (access s r K.freezeCtrl true (freezeCtrlEff 2))

/-- FREEZE_ENGAGE (R378, R380): at a cc 0 at which no dump holds the snapshot. DEDUCED (log entry 27). -/
def execFreezeEngage (s : State) : Host.Outcome State Fault Refusal :=
  done s (if rdBit s K.freezeStatus 1 && s.stats.snap.isNone && s.tick.clock == s.tick.start then
    wr (wrBit (wrBit { s with stats := { s.stats with snap := some (snapNow s), frozen := some s.tick.elapsed } }
      K.freezeStatus 1 false) K.freezeStatus 0 true) K.freezeTick (tickNo s)
  else s)

/-- FREEZE_TIMEOUT (R378): a freeze not released within 100,000 ticks. DEDUCED (log entry 10). -/
def execFreezeTimeout (s : State) : Host.Outcome State Fault Refusal :=
  done s (match s.stats.frozen with
    | some t => if t + 100000 ≤ s.tick.elapsed then raise (inc (freezeEnd s) K.freezeTimeouts 1) Ev.freezeTimeout 0 0 else s
    | none => s)

end Sys2Proof.Machine
end

