-- ==== Sys2Proof/Machine/Fabric.lean ====
section
/-! DEFINITION. The fabric's ports (R67–R73), links, link-state database, routes and messages (R382–R390). -/

namespace Sys2Proof

/-- The header and payload words of a message (R387), and the CRC-32 over them (R386, R475). -/
def FabMsg.crcWords (m : FabMsg) : List Word :=
  [m.typ * 2 ^ 24 + m.src * 2 ^ 16 + m.dst * 256 + m.ttl * 16 + m.ver % 4 * 4 + b2n m.bcast * 2,
   m.payload.length * 2 ^ 16 + m.seq] ++ (if m.ver < 2 then [] else [m.epoch, m.group * 2 ^ 24]) ++ m.payload
def FabMsg.sum (m : FabMsg) : Nat := Machine.crc32Words m.crcWords

/-- A message as it is sent, with its CRC; and one that arrives undamaged (R388). -/
def FabMsg.sealed (m : FabMsg) : FabMsg := { m with clean := true, crc := m.sum }
def FabMsg.good (m : FabMsg) : Bool := m.clean && m.crc == m.sum

end Sys2Proof

namespace Sys2Proof.Machine

/-! Ports. -/

/-- FAB_STATUS bits (R80): sync of D0–D3, CLK, deskewed, up. -/
def fabUp (s : State) (p : Nat) : Bool := rdBit s (K.fabStatus p) 6

/-- The port carries traffic: enabled and not in test (R75). -/
def fabOn (s : State) (p : Nat) : Bool := rdBit s (K.fabCtrl p) 0 && !rdBit s (K.fabCtrl p) 1

/-- The port's five lanes are looped to its own receivers (R78). -/
def fabLoop (s : State) (p : Nat) : Bool := rdBit s (K.fabCtrl p) 2

/-- The link of a port leaves (R383). -/
def linkLeave (s : State) (p : Nat) : State :=
  { wr s (K.linkStatus p) 0 with fab := { s.fab with hello := tset 0 s.fab.hello p 0 } }

/-- Bring FAB_STATUS bit 6 up to date (R73); a port that goes down takes its link with it. -/
def fabRefresh (s : State) (p : Nat) : State :=
  let up := fabOn s p && rdField s (K.fabStatus p) 5 0 == 63
  let t := wrBit s (K.fabStatus p) 6 up
  if fabUp s p && !up then linkLeave t p else t

/-- FAB_CTRL_WRITE (R78, R80): a port that is switched off, or into test, has nothing in sync. -/
def fabCtrlEff (p v : Nat) (s : State) : Res :=
  let t := wr { s with fab := { s.fab with looped := tset [] s.fab.looped p [] } } (K.fabCtrl p) (Nat.land v 0xFF7)
  let t := if bit v 1 then t else forNat 4 (fun d s => wr s (K.chkStatus (64 + 4 * p + d)) 0) t
  if !bit v 0 && !bit v 1 then
    okR (fabRefresh (wrBit (wrField t (K.fabStatus p) 5 0 0) K.clkLocked (18 + p) false) p)
  else if bit v 1 || !bit v 0 then okR (fabRefresh (wrBit (wrField t (K.fabStatus p) 3 0 0) (K.fabStatus p) 5 false) p)
  else okR (fabRefresh t p)
def execFabCtrlWrite (r : Req) (p v : Nat) (s : State) : Host.Outcome State Fault Refusal :=
  done s (access s r (K.fabCtrl p) true (fabCtrlEff p (v % 2 ^ 32)))

/-- A fabric port's CLK lane is lost (R68, R52); a looped port receives its own (R78). -/
def fabClkLost (s : State) (p : Nat) : State :=
  if rdBit s (K.fabStatus p) 4 && !fabLoop s p then
    let t := fabRefresh (wrField s (K.fabStatus p) 5 0 0) p
    clkFall (raise (wrBit t (K.fabEvents p) 0 true) Ev.fabClkLost p 0) (18 + p)
  else s

/-- FAB_CLK_LOST (R68). -/
def execFabClkLost (p : Nat) (s : State) : Host.Outcome State Fault Refusal :=
  done s (if p < 4 then fabClkLost s p else s)

/-- A fabric port's CLK lane is present and locked (R52, R68). -/
def fabClkBack (s : State) (p : Nat) : State :=
  if rdBit s (K.fabCtrl p) 0 || rdBit s (K.fabCtrl p) 1 then
    wrBit (wrBit s (K.fabStatus p) 4 true) K.clkLocked (18 + p) true
  else s

/-- FAB_CLK_RETURN (R68). -/
def execFabClkReturn (p : Nat) (s : State) : Host.Outcome State Fault Refusal :=
  done s (if p < 4 then fabClkBack s p else s)

/-- FAB_SYNC_ACQUIRED (R71): the data lanes are evaluated only while CLK is present. -/
def execFabSyncAcquired (p d : Nat) (s : State) : Host.Outcome State Fault Refusal :=
  done s (if p < 4 ∧ d < 4 ∧ rdBit s (K.fabStatus p) 4 ∧ fabOn s p then
    fabRefresh (wrBit s (K.fabStatus p) d true) p
  else s)

/-- FAB_SYNC_LOST (R69, R71): `errs` code errors since the last report. DEDUCED (log entry 13). -/
def execFabSyncLost (p d errs : Nat) (s : State) : Host.Outcome State Fault Refusal :=
  done s (if p < 4 ∧ d < 4 ∧ rdBit s (K.fabStatus p) d then
    let s1 := wrBit (wrBit (inc s (K.fabCodeErrors p) errs) (K.fabStatus p) d false) (K.fabStatus p) 5 false
    raise (wrBit (fabRefresh s1 p) (K.fabEvents p) 1 true) Ev.fabSyncLost (64 + 4 * p + d) 0
  else s)

/-- FAB_ALIGN_SET_RX (R73): a skew of up to 32 characters is taken out. -/
def execFabAlignSetRx (p skew : Nat) (s : State) : Host.Outcome State Fault Refusal :=
  done s (if p < 4 ∧ rdField s (K.fabStatus p) 4 0 = 31 then
    let s1 := wr s (K.fabSkew p) (Nat.min 255 skew)
    if skew ≤ 32 then fabRefresh (wrBit s1 (K.fabStatus p) 5 true) p
    else raise (wrBit (fabRefresh (wrBit s1 (K.fabStatus p) 5 false) p) (K.fabEvents p) 2 true) Ev.fabDeskewFail p 0
  else s)

/-- FAB_ALIGN_SET_SEND (R72, R386): K28.5 and 0xA1 on every lane. -/
def execFabAlignSetSend (p : Nat) (s : State) : Host.Outcome State Fault Refusal :=
  done s (if p < 4 ∧ fabOn s p then emit s (.fabSet p (List.replicate 4 0xBC ++ List.replicate 4 0xA1)) else s)

/-! Messages. -/

/-- This node (R382) and its unit tag (R383). -/
def nodeId (s : State) : Nat := rd s K.fabNodeId
def unitTag (s : State) : Nat := crc32 s.unit.serial

/-- Message types (R388). -/
def Msg.hello : Nat := 0x01
def Msg.linkState : Nat := 0x02
def Msg.kda : Nat := 0x03
def Msg.takeover : Nat := 0x10
def Msg.stale : Nat := 0x11
def Msg.renew : Nat := 0x12
def Msg.claim : Nat := 0x13
def Msg.answer : Nat := 0x14
def Msg.resvReq : Nat := 0x20
def Msg.resvConf : Nat := 0x21
def Msg.moveCheck : Nat := 0x30
def Msg.move : Nat := 0x31
def Msg.final : Nat := 0x32
def Msg.replay : Nat := 0x33
def Msg.moveAnswer : Nat := 0x34

/-- The types of R388. -/
def msgKnown (t : Nat) : Bool :=
  [0x01, 0x02, 0x03, 0x10, 0x11, 0x12, 0x13, 0x14, 0x20, 0x21, 0x30, 0x31, 0x32, 0x33, 0x34].contains t

/-- The version a type is sent under: the first that has it (R388). DEDUCED (log entry 29). -/
def msgVer (t : Nat) : Nat := if t < 0x10 then 1 else if t < 0x30 then 2 else 3

/-- The link of port `p` is joined (R383), and at class `v` or higher (R385). -/
def joined (s : State) (p : Nat) : Bool := rdBit s (K.linkStatus p) 0
def joinedAt (s : State) (p v : Nat) : Bool := joined s p && decide (v ≤ rdField s (K.linkStatus p) 3 2)

/-- The route to a node under class `v`: its port (R385). -/
def routeTo (s : State) (v n : Nat) : Option Nat :=
  match tget 0 s.fab.routes (v * 256 + n) with
  | 0 => none
  | e => some ((e - 1) % 4)

/-- A node can be reached in class `v`. -/
def reaches (s : State) (v n : Nat) : Bool := (routeTo s v n).isSome

/-- Send a message on a port, with its CRC formed anew (R386); on a looped port it comes back (R78). DEDUCED (log entry 29). -/
def fabOut (s : State) (p : Nat) (m : FabMsg) : State :=
  let s := inc (emit s (.fab p m.sealed)) (K.linkTxMsgs p) 1
  if fabLoop s p then { s with fab := { s.fab with looped := tset [] s.fab.looped p (tget [] s.fab.looped p ++ [m.sealed]) } }
  else s

/-- A message of this node, with the next sequence number (R387). DEDUCED (log entry 29). -/
def fabMsg (s : State) (typ dst : Nat) (bcast : Bool) (group epoch : Nat) (pl : List Word) : FabMsg × State :=
  let q := s.fab.seq
  ({ ver := msgVer typ, typ := typ, ttl := 15, src := nodeId s, dst := dst, bcast := bcast, seq := q, group := group,
     epoch := epoch, payload := pl, clean := true, crc := 0 }, { s with fab := { s.fab with seq := (q + 1) % 65536 } })

/-- Send to a node along its route; a node the table cannot reach is counted (R385). DEDUCED (log entry 29). -/
def fabSend (s : State) (typ dst group epoch : Nat) (pl : List Word) : State :=
  match routeTo s (msgVer typ) dst with
  | none => inc s K.fabNoRoute 1
  | some p => let (m, s) := fabMsg s typ dst false group epoch pl; fabOut s p m

/-- Send on every joined link of the message's class but `skip` (R384). -/
def fabFlood (s : State) (m : FabMsg) (skip : Option Nat) : State :=
  forNat 4 (fun p s => if joinedAt s p m.ver && skip != some p then fabOut s p m else s) s

/-- Flood a message of this node. -/
def fabCast (s : State) (typ group epoch : Nat) (pl : List Word) : State :=
  let (m, s) := fabMsg s typ 0 true group epoch pl
  fabFlood s m none

/-- A message as port `p` receives it: any message, or on a looped port only the one the port sent next (R78). -/
def fabTake (s : State) (p : Nat) (m : FabMsg) : Option State :=
  if !fabLoop s p then some s
  else match tget [] s.fab.looped p with
    | x :: l => if x = m then some { s with fab := { s.fab with looped := tset [] s.fab.looped p l } } else none
    | [] => none

/-- A message that arrives damaged or of an unknown type is discarded and counted (R386, R388); one with TTL 0 is dropped
(R387). -/
def fabIn (s : State) (p : Nat) (m : FabMsg) (f : State → State) : State :=
  match fabTake s p m with
  | none => s
  | some s =>
  if !m.good || !msgKnown m.typ then inc s K.fabMsgErrors 1
  else
    let s := inc s (K.linkRxMsgs p) 1
    if m.ttl = 0 then s else f s

/-- The port a message for this node came in at: that of the route to its sender. -/
def portFrom (s : State) (m : FabMsg) : Nat := (routeTo s (Nat.max 1 (Nat.min 3 m.ver)) m.src).getD 0

/-- A message for this node, or for every node (R387). -/
def fabMine (s : State) (m : FabMsg) (typ : Nat) (f : State → State) : State :=
  fabIn s (portFrom s m) m (fun s => if m.typ = typ && (m.bcast || m.dst == nodeId s) then f s else s)

/-! Links and routes. -/

/-- A duplicate identifier is found (R383, R384). -/
def dupNode (s : State) (n : Nat) : State := raise (wr s K.fabDupLast n) Ev.fabDupNode n 0

/-- HELLO_SEND (R383). DEDUCED (log entry 10). -/
def execHelloSend (p : Nat) (s : State) : Host.Outcome State Fault Refusal :=
  done s (if p < 4 ∧ fabUp s p then
    let (m, s) := fabMsg s Msg.hello (rdField s (K.linkStatus p) 15 8) false 0 0
      [nodeId s, unitTag s, p, 1, rd s K.fabVersionMax]
    fabOut s p m
  else s)

/-- HELLO_RX (R383): the link joins at the highest common version, which stays until the port goes down.
DEDUCED (log entry 29). -/
def helloRx (s : State) (p : Nat) (m : FabMsg) : State :=
  let n := nth m.payload 0 % 256
  let lo := nth m.payload 3
  let hi := nth m.payload 4
  let mine := rd s K.fabVersionMax
  if n = nodeId s then dupNode (linkLeave s p) n
  else if hi < 1 ∨ hi < lo ∨ mine < lo then raise (linkLeave s p) Ev.fabVersionFail p 0
  else
    let s := { s with fab := { s.fab with hello := tset 0 s.fab.hello p (s.tick.elapsed + 1) } }
    if joined s p then s
    else wr s (K.linkStatus p) (1 + Nat.min hi mine * 4 + n * 256 + nth m.payload 2 % 4 * 65536)
def execHelloRx (p : Nat) (m : FabMsg) (s : State) : Host.Outcome State Fault Refusal :=
  done s (if p < 4 ∧ fabUp s p then fabIn s p m (fun s => if m.typ = Msg.hello then helloRx s p m else s) else s)

/-- HELLO_TIMEOUT (R383): 300 ticks without a HELLO. -/
def execHelloTimeout (p : Nat) (s : State) : Host.Outcome State Fault Refusal :=
  done s (if p < 4 ∧ joined s p ∧ tget 0 s.fab.hello p + 299 ≤ s.tick.elapsed then linkLeave s p else s)

/-- The link words of this node's LINK_STATE. -/
def ownLinks (s : State) : List Word := (List.range 4).map (fun p => rd s (K.linkStatus p))

/-- LINK_STATE_SEND (R384). DEDUCED (log entry 10). -/
def execLinkStateSend (s : State) : Host.Outcome State Fault Refusal :=
  done s (let q := (s.fab.lsSeq + 1) % 2 ^ 32
    let s1 := { s with fab := { s.fab with lsSeq := q } }
    if (List.range 4).any (joined s) then fabCast s1 Msg.linkState 0 0 ([unitTag s, q] ++ ownLinks s) else s1)

/-- Nodes in the database, this one included (R414). -/
def countNodes (s : State) : State := wr s K.fabNodes (s.fab.db.length + 1)

/-- A LINK_STATE of another node enters the database and is forwarded once (R384). DEDUCED (log entry 29). -/
def linkStateRx (s : State) (p : Nat) (m : FabMsg) : State :=
  let tag := nth m.payload 0
  let q := nth m.payload 1
  if m.src = nodeId s then
    if tag = unitTag s then s
    else dupNode { s with fab := { s.fab with ownDup := true } } m.src
  else
    let old := tget none s.fab.db m.src
    let seen := match old with
      | some e => e.tag == tag && e.seq == q
      | none => false
    if seen then s
    else
      let dup := match old with
        | some e => e.dup || e.tag != tag
        | none => false
      let was := match old with | some e => e.dup | none => false
      let e : LsEnt := ⟨tag, q, (m.payload.drop 2).take 4, s.tick.elapsed, dup⟩
      let s := countNodes { s with fab := { s.fab with db := tset none s.fab.db m.src (some e) } }
      let s := if dup && !was then dupNode s m.src else s
      fabFlood s { m with ttl := m.ttl - 1 } (some p)

/-- LINK_STATE_RX (R384). -/
def execLinkStateRx (p : Nat) (m : FabMsg) (s : State) : Host.Outcome State Fault Refusal :=
  done s (if p < 4 ∧ joined s p then fabIn s p m (fun s => if m.typ = Msg.linkState then linkStateRx s p m else s) else s)

/-- LINK_STATE_AGE (R384): 3 s, 300,000 ticks, without a LINK_STATE. -/
def execLinkStateAge (n : Nat) (s : State) : Host.Outcome State Fault Refusal :=
  done s (match tget none s.fab.db n with
    | some e => if e.at_ + 300000 ≤ s.tick.elapsed then countNodes { s with fab := { s.fab with db := tdel s.fab.db n } } else s
    | none => s)

/-- A candidate route: node, next-hop node, port. -/
abbrev Cand := Nat × Nat × Nat

/-- The better of two candidates for one node: the lower next hop, then the lower port (R385). -/
def candMin (a b : Cand) : Cand :=
  if b.2.1 < a.2.1 ∨ (b.2.1 = a.2.1 ∧ b.2.2 < a.2.2) then b else a

/-- The best candidate of a node among those of one distance. -/
def candBest (l : List Cand) (n : Nat) : Option Cand :=
  l.foldl (fun a c => if c.1 = n then (match a with | some x => some (candMin x c) | none => some c) else a) none

/-- The neighbours a list of link words names at class `v`. -/
def linkNodes (l : List Word) (v : Nat) : List Nat :=
  l.filterMap (fun w => if bit w 0 && decide (v ≤ bits w 3 2) then some (bits w 15 8) else none)

/-- A node that takes part in routes (R384). -/
def routable (s : State) (n : Nat) : Bool :=
  n != nodeId s && (match tget none s.fab.db n with | some e => !e.dup | none => true)

/-- Enter one distance's candidates into a table of routes and go on from them (R385). -/
def routeGrow (s : State) (v : Nat) : Nat → Nat → List Cand → Tbl Nat → Tbl Nat
  | 0, _, _, t => t
  | fuel + 1, hops, cands, t =>
    let fresh := cands.filter (fun c => tget 0 t (v * 256 + c.1) == 0)
    let best := (List.range 256).filterMap (candBest fresh)
    let t := best.foldl (fun t c => tset 0 t (v * 256 + c.1) (1 + c.2.2 + 4 * hops)) t
    let next := best.flatMap (fun c =>
      match tget none s.fab.db c.1 with
      | some e => ((linkNodes e.links v).filter (routable s)).map (fun n => (n, c.2.1, c.2.2))
      | none => [])
    if best.isEmpty then t else routeGrow s v fuel (hops + 1) next t

/-- The routes of class `v` (R385): at most 15 hops; none while this node's own identifier is a duplicate (R384). -/
def routesOf (s : State) (v : Nat) (t : Tbl Nat) : Tbl Nat :=
  let first := (List.range 4).filterMap (fun p =>
    let w := rd s (K.linkStatus p)
    let n := bits w 15 8
    if joinedAt s p v && routable s n then some (n, n, p) else none)
  if s.fab.ownDup then t else routeGrow s v 15 1 first t

/-- ROUTE_RECOMPUTE (R385). -/
def execRouteRecompute (s : State) : Host.Outcome State Fault Refusal :=
  done s { s with fab := { s.fab with routes := routesOf s 3 (routesOf s 2 (routesOf s 1 [])) } }

/-- ROUTE_ENTRY (R414). -/
def routeEntryView (s : State) : Nat :=
  let n := rd s K.routeAddr
  forNat 3 (fun i a =>
    match tget 0 s.fab.routes ((i + 1) * 256 + n) with
    | 0 => a
    | e => a + 2 ^ i + (e - 1) % 4 * 2 ^ (8 + 2 * i) + (e - 1) / 4 * 2 ^ (16 + 4 * i)) 0

/-- FAB_MSG_RELAY (R384, R385, R387, R389): a message for another node goes on along its class's route, a broadcast once on
every other joined link. -/
def fabRelay (s : State) (p : Nat) (m : FabMsg) : State :=
  if m.bcast then
    if m.src = nodeId s ∨ tget 0 s.fab.relayed m.src = m.seq + 1 then s
    else fabFlood { s with fab := { s.fab with relayed := tset 0 s.fab.relayed m.src (m.seq + 1) } } { m with ttl := m.ttl - 1 } (some p)
  else if m.dst = nodeId s then s
  else match routeTo s (Nat.max 1 (Nat.min 3 m.ver)) m.dst with
    | none => inc s K.fabNoRoute 1
    | some o => fabOut s o { m with ttl := m.ttl - 1 }
def execFabMsgRelay (p : Nat) (m : FabMsg) (s : State) : Host.Outcome State Fault Refusal :=
  done s (if p < 4 ∧ joined s p then fabIn s p m (fun s => fabRelay s p m) else s)

end Sys2Proof.Machine
end

