-- ==== Sys2Proof/Machine/Role.lean ====
section
/-! DEFINITION. Redundant operation: role entries and role epochs (R391–R393), heartbeats and ACT_LOCK (R394–R397), leases
(R398–R401), the standby's self-test (R402–R404) and takeover (R409–R412). -/

namespace Sys2Proof.Machine

/-- A role entry as reset leaves it. -/
def role0 : RoleSt :=
  { st := 0, node := none, since := 0, seenF := 0, seenP := 0, missF := 0, missP := 0, goodF := 0, goodP := 0, lost := false,
    tickOk := true, flags := 0, taking := none, dropAfter := false, fails := 0, seqTx := 0, seqRx := none, gap := none,
    want := none64, grants := [], claiming := false, holders := [], lapsed := false, claims := [], resync := [], heard := false,
    takeAt := 0 }
def roleAt (s : State) (g : Nat) : RoleSt := tget role0 s.fab.roles g
def setRole (s : State) (g : Nat) (x : RoleSt) : State := { s with fab := { s.fab with roles := tset role0 s.fab.roles g x } }

/-- Fields of ROLE_CTRL (R414). -/
def roleEn (s : State) (g : Nat) : Bool := rdBit s (K.roleCtrl g) 31
def rolePair (s : State) (g : Nat) : Bool := roleEn s g && rdField s (K.roleCtrl g) 29 28 == 1
def roleLease (s : State) (g : Nat) : Bool := roleEn s g && rdField s (K.roleCtrl g) 29 28 == 2
def roleGroup (s : State) (g : Nat) : Nat := rdField s (K.roleCtrl g) 23 16
def roleHbPort (s : State) (g : Nat) : Nat := rdField s (K.roleCtrl g) 1 0

/-- The other members of entry `g`, member 0 in the top byte of ROLE_MEMBERS_A (R414). -/
def roleMembers (s : State) (g : Nat) : List Nat :=
  (toBytes 4 (rd s (K.roleMembersA g)) ++ toBytes 4 (rd s (K.roleMembersB g))).take (rdField s (K.roleCtrl g) 11 8)

/-- The peer of a pair. -/
def rolePeer (s : State) (g : Nat) : Nat := rdField s (K.roleMembersA g) 31 24

/-- The entry that holds a group. -/
def entryOf (s : State) (grp : Nat) : Option Nat := (List.range 4).find? (fun g => roleEn s g && roleGroup s g == grp)

/-- The role is one of the active ones, a standby one (R414). -/
def roleActive (x : RoleSt) : Bool := x.st == 2 || x.st == 3 || x.st == 5
def roleStandby (x : RoleSt) : Bool := x.st == 1 || x.st == 4

/-- The entry this device is active through, or is taking over. -/
def activeEntry (s : State) : Option Nat := (List.range 4).find? (fun g => roleActive (roleAt s g))
def busyElsewhere (s : State) (g : Nat) : Bool :=
  (List.range 4).any (fun k => k != g && (roleActive (roleAt s k) || (roleAt s k).taking.isSome))

/-- A member can be reached, but not in class 2: the group never leaves the standby role (R390). DEDUCED (log entry 30). -/
def classBlocked (s : State) (g : Nat) : Bool := (roleMembers s g).any (fun n => reaches s 1 n && !reaches s 2 n)

/-- ACT_LOCK reads high: this device does not drive it, and no other one does, which no command tells. FREE VALUE
(log entry 8). DEDUCED (log entry 30). -/
def lockHigh (s : State) : Bool := !s.fab.lock && bit (Config.free 12 s.tick.clock).toNat 0

/-- HEALTH of an entry, and a change of it; bit 7 follows bits 5:0 and raises HEALTH_CHANGED when it changes (R404). -/
def eligible (s : State) (g : Nat) : Bool := rdBit s (K.health g) 7
def setHealth (s : State) (g v : Nat) : State :=
  let v := v % 128 + (if v % 64 = 63 then 128 else 0)
  let old := eligible s g
  let s := wr s (K.health g) v
  if eligible s g != old then raise s Ev.healthChanged g 0 else s

/-- A fault clears bit `i` of every enabled entry's HEALTH at once (R404). -/
def healthClear (s : State) (i : Nat) : State :=
  forNat 4 (fun g s => if roleEn s g then setHealth s g (setBit (rd s (K.health g)) i false) else s) s

/-- The epoch of an entry. -/
def roleEpochOf (s : State) (g : Nat) : Nat := rd s (K.roleEpoch g)

/-- Send a message of group entry `g` to a node (R387). -/
def roleSend (s : State) (g typ dst : Nat) (pl : List Word) : State :=
  fabSend s typ dst (roleGroup s g) (roleEpochOf s g) pl

/-- A node in a payload; all ones where none is known. -/
def nodeWord (n : Option Nat) : Word := n.getD (2 ^ 32 - 1)
def wordNode (w : Word) : Option Nat := if w < 256 then some w else none

/-- ROLE_TAKEOVER's and ROLE_STALE's payload (R388). DEDUCED (log entry 29). -/
def roleWords (s : State) (g : Nat) : List Word := [roleEpochOf s g, nodeWord (roleAt s g).node]

/-- The check of a group message (R392): the entry it is for, or none where it is discarded. -/
def groupCheck (s : State) (m : FabMsg) : State × Option Nat :=
  match entryOf s m.group with
  | none => (inc s K.fabNotMember 1, none)
  | some g =>
    if m.epoch = roleEpochOf s g then (s, some g)
    else (fabSend (inc s (K.roleStaleRx g) 1) Msg.stale m.src m.group (roleEpochOf s g) (roleWords s g), none)

/-- A group message of a type, checked. DEDUCED (log entry 30). -/
def groupRx (s : State) (m : FabMsg) (typ : Nat) (f : State → Nat → State) : State :=
  fabMine s m typ (fun s =>
    if m.ver < 2 then s
    else match groupCheck s m with
    | (s, some g) => f s g
    | (s, none) => s)

/-- The active member demotes (R393): it stops announcing the group's frames and releases ACT_LOCK.
DEDUCED (log entry 30). -/
def demote (s : State) (g : Nat) : State :=
  let x := roleAt s g
  if !roleActive x then (if x.taking.isSome then setRole s g { x with dropAfter := true } else s)
  else
    let s := setRole s g { x with st := 1, resync := [], want := none64, grants := [], holders := [], dropAfter := false }
    let s := wr { s with fab := { s.fab with lock := if rolePair s g then false else s.fab.lock, halted := true } } K.resyncLeft 0
    raise s Ev.roleDemoted g 0

/-- The node learns of a role epoch and an active node from `src` (R393). DEDUCED (log entry 30). -/
def resolve (s : State) (g epoch : Nat) (node : Option Nat) (src : Nat) : State :=
  let x := roleAt s g
  let d := toSigned 32 ((epoch + 2 ^ 32 - roleEpochOf s g) % 2 ^ 32)
  if 0 < d then
    let s := demote s g
    let x := roleAt s g
    let s := setRole s g { x with node := node, st := if x.st = 4 then 1 else x.st, lapsed := false, claiming := false, heard := true }
    wr s (K.roleEpoch g) (epoch % 2 ^ 32)
  else if d < 0 then roleSend s g Msg.takeover src (roleWords s g)
  else
    match node, x.node with
    | some a, some b =>
      if a = b then s
      else if a < b then
        let s := if b = nodeId s then demote s g else s
        setRole s g { roleAt s g with node := some a, heard := true }
      else s
    | some a, none => setRole s g { x with node := some a, heard := true }
    | none, _ => s

/-- ROLE_TAKEOVER_RX and ROLE_STALE_RX (R393). DEDUCED (log entry 30). -/
def resolveRx (s : State) (m : FabMsg) (typ : Nat) : State :=
  fabMine s m typ (fun s =>
    match entryOf s m.group with
    | some g => resolve s g (nth m.payload 0) (wordNode (nth m.payload 1)) m.src
    | none => s)
def execRoleTakeoverRx (m : FabMsg) (s : State) : Host.Outcome State Fault Refusal := done s (resolveRx s m Msg.takeover)
def execRoleStaleRx (m : FabMsg) (s : State) : Host.Outcome State Fault Refusal := done s (resolveRx s m Msg.stale)

/-! ROLE_CTRL. -/

/-- The checks of a write that enables entry `g` (R391, R414). -/
def roleCtrlOk (s : State) (g v : Nat) : Bool :=
  let mode := bits v 29 28
  let n := bits v 11 8
  let grp := bits v 23 16
  let others := (List.range 4).filter (fun k => k != g && roleEn s k)
  (mode == 1 || mode == 2) && grp != 0 && decide (1 ≤ n) && decide (n ≤ 7) &&
  !(others.any (fun k => roleGroup s k == grp)) &&
  (if mode = 1 then n == 1 && !(others.any (rolePair s)) else decide (2 ≤ n))

/-- An entry is switched off: an active member releases ACT_LOCK. DEDUCED (log entry 31). -/
def roleOff (s : State) (g : Nat) : State :=
  let pair := rolePair s g
  let s := wr (wr (wr (setRole s g role0) (K.roleEpoch g) 0) (K.health g) 0) (K.peerHealth g) 0
  let s := wr (wr (wr s (K.leaseExpiry g) none64) (K.roleSwitchTick g) none64) K.resyncLeft 0
  { s with fab := { s.fab with lock := if pair then false else s.fab.lock, halted := false } }

/-- ROLE_CTRL_WRITE (R391, R414): a reserved MODE aborts (R16); writable while ENABLE is 0, except to clear it.
DEDUCED (log entry 31). -/
def roleCtrlEff (g v : Nat) (s : State) : Res :=
  let v := Nat.land v 0xB8FF0F03
  if bits v 29 28 = 0 ∨ bits v 29 28 = 3 then abortR s .unsupportedValue
  else if roleEn s g then
    if bit v 31 then abortR s .wrongState else okR (wr (roleOff s g) (K.roleCtrl g) v)
  else if !bit v 31 then okR (wr s (K.roleCtrl g) v)
  else if !roleCtrlOk s g v then abortR s .unsupportedValue
  else okR (setRole (wr (roleOff s g) (K.roleCtrl g) v) g { role0 with st := 1, since := s.tick.elapsed })
def execRoleCtrlWrite (r : Req) (g v : Nat) (s : State) : Host.Outcome State Fault Refusal :=
  done s (access s r (K.roleCtrl g) true (roleCtrlEff g (v % 2 ^ 32)))

/-- ROLE_MEMBERS_A and _B are writable only while ENABLE is 0 (R414). -/
def roleMembersEff (g key v : Nat) (s : State) : Res :=
  if roleEn s g then abortR s .wrongState else writePlain s key v

/-- A write of FAB_NODE_ID (R382): refused while a port is enabled. -/
def fabNodeIdEff (v : Nat) (s : State) : Res :=
  if (List.range 4).any (fun p => rdBit s (K.fabCtrl p) 0) then abortR s .wrongState else writePlain s K.fabNodeId v

/-- ROLE_STATE (R414). -/
def roleStateView (s : State) (g : Nat) : Nat :=
  let x := roleAt s g
  x.st + x.node.getD 0 * 2 ^ 8 + b2n x.lost * 2 ^ 16 + b2n (decide (0 < x.missF)) * 2 ^ 17 + b2n (decide (0 < x.missP)) * 2 ^ 18 +
  b2n (lockHigh s) * 2 ^ 19

/-! Becoming active. -/

/-- A local outbound SA reserves its packet numbers (R405). -/
def reserves (s : State) (e : SaEnt) : Bool := resvApplies s e && saLocal s e

/-- The next ceiling to ask for: 2^16 more, never beyond the all-ones packet number (R152). -/
def ceilNext (s : State) (e : SaEnt) : Nat := Nat.min (e.ceiling + 65536) (pnEnd (scAt s e.sc))

/-- The ceiling of an SA rises with a confirmed block (R405). DEDUCED (log entry 32). -/
def ceilRaise (s : State) (h c : Nat) : State :=
  let e := saAt s h
  setSa s h { e with ceiling := Nat.max e.ceiling c, conf := true, asked := 0, acks := [] }

/-- The placements of an SC are this node's again. -/
def movedClear (s : State) (sc : Nat) : State := { s with assoc := { s.assoc with moved := tdel s.assoc.moved sc } }

/-- A takeover is decided (R409, R391): ACT_LOCK, the epoch, ROLE_TAKEOVER; the sweep follows. A second active group is
refused. DEDUCED (log entry 30). -/
def takeover (s : State) (g : Nat) : State :=
  let x := roleAt s g
  if classBlocked s g then s
  else if busyElsewhere s g then
    if x.st = 4 then s else raise (setRole s g { x with st := 4 }) Ev.takeoverBlocked g 0
  else
    let pair := rolePair s g
    let old := match x.node with
      | some n => if n = nodeId s ∧ pair then rolePeer s g else n
      | none => if pair then rolePeer s g else nodeId s
    let s := wr s (K.roleEpoch g) ((roleEpochOf s g + 1) % 2 ^ 32)
    let x := { x with st := 1, node := some (nodeId s), taking := some old, claiming := false, lapsed := false, takeAt := s.tick.clock }
    let s := setRole s g x
    let s := if pair then { s with fab := { s.fab with lock := true, lockAt := s.tick.clock } } else s
    fabCast s Msg.takeover (roleGroup s g) (roleEpochOf s g) (roleWords s g)

/-- One SA of the placement sweep (R409). DEDUCED (log entry 32). -/
def sweepOne (old : Nat) (s : State) (h : Nat) : State :=
  let e := saAt s h
  if e.node ≠ old then s
  else
    let e := { e with node := nodeId s, epoch := (e.epoch + 1) % 65536, asked := 0, acks := [] }
    let resv := resvApplies s e
    let e := if resv then { e with pn := e.ceiling, ceiling := ceilNext s e, conf := true } else e
    movedClear (predDrop (setSa s h e) (· == h)) e.sc

/-- A migration not yet committed is skipped (R413). -/
def migSkip (s : State) : State :=
  let s := if rd s K.migTick = none64 then s else raise (wr s K.migTick none64) Ev.migrateSkipped (rd s K.migSc) 0
  match s.fab.target with
  | some t => raise { s with fab := { s.fab with target := none } } Ev.migrateSkipped t.sc 0
  | none => s

/-- A migration of an SC with an SA at node `n` is armed here. -/
def migTouches (s : State) (n : Nat) : Bool :=
  let on := fun (sc : Nat) => (scHandles (scAt s sc)).any (fun h => (saAt s h).node == n)
  (rd s K.migTick != none64 && on (rd s K.migSc)) || (match s.fab.target with | some t => on t.sc | none => false)

/-- The sweep of entry `g` ends and announcements begin, 4,160 cc after the decision (R409, R412). -/
def takeoverDone (s : State) (g : Nat) : State :=
  let x := roleAt s g
  match x.taking with
  | none => s
  | some old =>
    let s := passTo s (x.takeAt + 4160)
    let s := if migTouches s old then migSkip s else s
    let s := (s.assoc.sa.map (·.1)).foldl (sweepOne old) s
    let s := setRole { s with fab := { s.fab with halted := false } } g { x with st := 3, taking := none, dropAfter := false }
    let s := raise (inc s (K.takeovers g) 1) Ev.takeoverDone g 0
    if x.dropAfter then demote s g else s

/-- TAKEOVER_DONE (R409). -/
def execTakeoverDone (s : State) : Host.Outcome State Fault Refusal := done s (forNat 4 (fun g s => takeoverDone s g) s)

/-- ROLE_PREFER_ACTIVE_TIMEOUT (R414): no active member heard within 2 ticks and, in pair mode, ACT_LOCK high. The entry
becomes active without a sweep. DEDUCED (log entry 31). -/
def execRolePreferActiveTimeout (g : Nat) (s : State) : Host.Outcome State Fault Refusal :=
  done s (let x := roleAt s g
    let pair := rolePair s g
    if g < 4 ∧ roleEn s g ∧ rdBit s (K.roleCtrl g) 27 ∧ x.st = 1 ∧ x.taking = none ∧ !x.heard ∧ x.since + 2 ≤ s.tick.elapsed ∧
        !classBlocked s g ∧ (!pair ∨ lockHigh s) then
      if busyElsewhere s g then raise (setRole s g { x with st := 4 }) Ev.takeoverBlocked g 0
      else
        let s := wr s (K.roleEpoch g) ((roleEpochOf s g + 1) % 2 ^ 32)
        let s := setRole s g { x with st := 3, node := some (nodeId s), heard := true }
        { s with fab := { s.fab with lock := s.fab.lock || pair, lockAt := s.tick.clock, halted := false } }
    else s)

/-! Heartbeats. -/

/-- CRC-8 with polynomial 0x07 (R394). -/
def crc8 (l : List Byte) : Nat := crcMsb 8 0x07 0 l

/-- The flags byte: ACTIVE and ELIGIBLE (R394). -/
def hbFlags (s : State) (g : Nat) : Nat := b2n (roleActive (roleAt s g)) * 128 + b2n (eligible s g) * 64

/-- The heartbeat ordered set (R394). -/
def hbSet (s : State) (g : Nat) : List Byte :=
  let body := [0xB5, nodeId s, roleGroup s g, hbFlags s g, rd s (K.health g)] ++ toBytes 3 (tickNo s) ++
    toBytes 2 (roleEpochOf s g) ++ [0]
  List.replicate 4 0xBC ++ body ++ [crc8 body]

/-- The PEER_HB burst (R395). -/
def hbBurst (s : State) (g : Nat) : List Byte :=
  let body := [nodeId s, hbFlags s g, tickNo s % 256]
  [0xAB] ++ body ++ [crc8 body]

/-- Heartbeats of a pair at cc 64, and the refresh of the ACT_LOCK driver (R394, R395, R397). -/
def hbSend (s : State) (g : Nat) : State :=
  if !rolePair s g then s
  else
    let s := if roleActive (roleAt s g) && !s.fab.lock then demote s g else s
    let s := { s with fab := { s.fab with lockAt := if s.fab.lock then s.tick.clock else s.fab.lockAt } }
    let s := if fabUp s (roleHbPort s g) then emit s (.fabSet (roleHbPort s g) (hbSet s g)) else s
    emit s (.peerHb (hbBurst s g))

/-- HEARTBEAT_SEND (R35, R394). -/
def execHeartbeatSend (s : State) : Host.Outcome State Fault Refusal := done s (oncePerTick s 1 (fun s => forNat 4 (fun g s => hbSend s g) (toCc s 64)))

/-- ACT_LOCK_WATCHDOG (R397): 16,384 cc without a refresh. -/
def execActLockWatchdog (s : State) : Host.Outcome State Fault Refusal :=
  done s (if s.fab.lockAt + 16384 ≤ s.tick.clock then { s with fab := { s.fab with lock := false } } else s)

/-- A valid heartbeat of the peer of entry `g` (R396): `low` the tick bits it carries, of `w` bits; `ep` its epoch's low 16
bits where it names them. The path it came on is marked by the caller. DEDUCED (log entry 30). -/
def hbTake (s : State) (g flags low w : Nat) (ep : Option Nat) : State :=
  let x := roleAt s g
  let act := bit flags 7
  let x := { x with flags := flags, tickOk := low == tickNo s % 2 ^ w, heard := x.heard || act,
                    node := if act && !roleActive x && x.taking.isNone then some (rolePeer s g) else x.node }
  let s := setRole s g x
  let s := if x.tickOk then s else setHealth s g (setBit (rd s (K.health g)) 3 false)
  match ep with
  | some e =>
    let d := toSigned 16 ((e + 65536 - roleEpochOf s g % 65536) % 65536)
    if act && 0 < d && !roleActive x && x.taking.isNone then wr s (K.roleEpoch g) (((roleEpochOf s g : Int) + d).toNat % 2 ^ 32) else s
  | none => s

/-- FAB_HEARTBEAT_RX (R394, R396): `set` the sixteen bytes of the ordered set. A looped port receives its own alone (R78). -/
def execFabHeartbeatRx (p : Nat) (set : List Byte) (s : State) : Host.Outcome State Fault Refusal :=
  let b := fun (i : Nat) => nth set i
  done s (match (List.range 4).find? (fun g => rolePair s g && roleHbPort s g == p) with
    | some g =>
      if p < 4 ∧ fabUp s p ∧ !fabLoop s p ∧ b 4 = 0xB5 ∧ crc8 ((set.drop 4).take 11) = b 15 ∧ b 5 = rolePeer s g ∧ b 6 = roleGroup s g then
        let s1 := wr (setRole s g { roleAt s g with seenF := s.tick.elapsed + 1 }) (K.peerHealth g) (b 8)
        hbTake s1 g (b 7) (b 9 * 65536 + b 10 * 256 + b 11) 24 (some (b 12 * 256 + b 13))
      else s
    | none => s)

/-- PEER_HB_RX (R395, R396): `burst` its five bytes. The burst names no group: one pair exists per device. -/
def execPeerHbRx (burst : List Byte) (s : State) : Host.Outcome State Fault Refusal :=
  let b := fun (i : Nat) => nth burst i
  done s (match (List.range 4).find? (rolePair s) with
    | some g =>
      if b 0 = 0xAB ∧ crc8 ((burst.drop 1).take 3) = b 4 ∧ b 1 = rolePeer s g then
        hbTake (setRole s g { roleAt s g with seenP := s.tick.elapsed + 1 }) g (b 2) (b 3) 8 none
      else s
    | none => s)

/-- One path at cc 448 (R396): its runs of misses and of ticks with a heartbeat, and whether this is its first miss.
DEDUCED (log entry 30). -/
def pathCheck (now seen miss good : Nat) : Nat × Nat × Bool :=
  if seen = now + 1 then (0, good + 1, false) else (miss + 1, 0, miss == 0)

/-- The handles an active member resyncs: its local SAs with RESV (R407). -/
def resyncList (s : State) : List Nat :=
  (s.assoc.sa.filter (fun e => reserves s e.2 && saLive e.2.st)).map (·.1)

/-- An active member starts to resync a standby (R407). -/
def resyncStart (s : State) (g : Nat) : State :=
  let l := resyncList s
  wr (setRole s g { roleAt s g with st := if l.isEmpty then 2 else 5, resync := l }) K.resyncLeft l.length

/-- The judgement of a pair at cc 448 (R396, R397, R407, R409). DEDUCED (log entry 30). -/
def hbCheck (s : State) (g : Nat) : State :=
  if !rolePair s g then s
  else
    let now := s.tick.elapsed
    let x := roleAt s g
    let (mF, gF, firstF) := pathCheck now x.seenF x.missF x.goodF
    let (mP, gP, firstP) := pathCheck now x.seenP x.missP x.goodP
    let s := setRole s g { x with missF := mF, goodF := gF, missP := mP, goodP := gP }
    let s := if firstF then raise s Ev.peerPathLost g 0 else s
    let s := if firstP then raise s Ev.peerPathLost g 0 else s
    let s := if !x.lost && decide (2 ≤ mF) && decide (2 ≤ mP) then raise (setRole s g { roleAt s g with lost := true }) Ev.peerLost g 0 else s
    let s := if x.lost && (decide (2 ≤ gF) || decide (2 ≤ gP)) then raise (setRole s g { roleAt s g with lost := false }) Ev.peerFound g 0 else s
    let x := roleAt s g
    let present := !x.lost && (mF == 0 || mP == 0)
    if roleActive x then
      if x.lost && x.st != 3 then wr (setRole s g { x with st := 3, resync := [] }) K.resyncLeft 0
      else if present && x.st == 3 then resyncStart s g
      else s
    else if x.taking.isSome then s
    else
      let s := if x.st = 4 ∧ !x.lost then setRole s g { x with st := 1 } else s
      let x := roleAt s g
      if !eligible s g then s
      else if x.lost then
        if lockHigh s then takeover s g
        else if x.st = 4 then s
        else raise (setRole s g { x with st := 4 }) Ev.takeoverBlocked g 0
      else if present && !bit x.flags 7 && x.node == some (rolePeer s g) && lockHigh s then takeover s g
      else s

/-- HEARTBEAT_CHECK (R396). DEDUCED (log entry 30). -/
def execHeartbeatCheck (s : State) : Host.Outcome State Fault Refusal := 
  done s (oncePerTick s 2 (fun s => forNat 4 (fun g s => hbCheck s g) (toCc s 448)))

/-! Leases. -/

/-- Nodes of the group, and whether `n` of them are a majority (R398). -/
def majority (s : State) (g n : Nat) : Bool := decide ((roleMembers s g).length + 1 < 2 * n)

/-- A tick as two payload words. -/
def tickWords (t : Nat) : List Word := toWords 2 t
def wordsTick (l : List Word) (i : Nat) : Nat := nth l i * 2 ^ 32 + nth l (i + 1)

/-- The active member asks for its lease at cc 128 (R398). -/
def leaseRenew (s : State) (g : Nat) : State :=
  if roleLease s g && roleActive (roleAt s g) then
    let t := (tickNo s + 2) % 2 ^ 64
    let s := setRole s g { roleAt s g with want := t, grants := [nodeId s], claiming := false }
    (roleMembers s g).foldl (fun s n => roleSend s g Msg.renew n (tickWords t)) s
  else s

/-- LEASE_RENEW_RX (R398): granted to the active node this member knows. -/
def execLeaseRenewRx (m : FabMsg) (s : State) : Host.Outcome State Fault Refusal :=
  done s (groupRx s m Msg.renew (fun s g =>
    let t := wordsTick m.payload 0
    if !roleLease s g then s
    else if (roleAt s g).node = some m.src then
      let s := wr (setRole s g { roleAt s g with lapsed := false, heard := true }) (K.leaseExpiry g) t
      roleSend s g Msg.answer m.src (2 ^ 31 :: tickWords t)
    else roleSend s g Msg.answer m.src (0 :: tickWords t)))

/-- LEASE_ANSWER_RX (R398, R400): a majority holds the lease, or wins the claim. A member that grants a member just taken over
joins it as a standby (R407). -/
def execLeaseAnswerRx (m : FabMsg) (s : State) : Host.Outcome State Fault Refusal :=
  done s (groupRx s m Msg.answer (fun s g =>
    let x := roleAt s g
    let t := wordsTick m.payload 1
    if !roleLease s g || !bit (nth m.payload 0) 31 || t != x.want || x.want == none64 || x.grants.contains m.src || !(roleMembers s g).contains m.src then s
    else
      let x := { x with grants := m.src :: x.grants }
      let s := setRole s g x
      if !majority s g x.grants.length then s
      else
        let s := wr (setRole s g { x with holders := x.grants.filter (· != nodeId s) }) (K.leaseExpiry g) t
        if roleActive x then (if x.st = 3 then resyncStart s g else s)
        else if x.claiming && eligible s g && x.taking.isNone then takeover s g
        else s))

/-- LEASE_EXPIRY at cc 16 (R399): without a majority for a later expiry the active member demotes; a member regards the lease
as lapsed. -/
def execLeaseExpiry (g : Nat) (s : State) : Host.Outcome State Fault Refusal :=
  done s (let s := toCc s 16
    let t := rd s (K.leaseExpiry g)
    if g < 4 ∧ roleLease s g ∧ t ≠ none64 ∧ dueNow s t ∧ !(roleAt s g).lapsed then
      let s1 := setRole s g { roleAt s g with lapsed := true }
      if roleActive (roleAt s g) then raise (demote s1 g) Ev.leaseLost g 0 else s1
    else s)

/-- An eligible standby claims a lapsed lease at cc 32 (R400). -/
def leaseClaim (s : State) (g : Nat) : State :=
  let x := roleAt s g
  if roleLease s g && x.lapsed && roleStandby x && x.taking.isNone && eligible s g && !classBlocked s g then
    let t := (tickNo s + 2) % 2 ^ 64
    let s := setRole s g { x with claiming := true, want := t, grants := [], claims := x.claims ++ [(nodeId s, t)] }
    (roleMembers s g).foldl (fun s n => roleSend s g Msg.claim n (tickWords t)) s
  else s

/-- LEASE_CLAIM_RX (R400). -/
def execLeaseClaimRx (m : FabMsg) (s : State) : Host.Outcome State Fault Refusal :=
  done s (groupRx s m Msg.claim (fun s g =>
    if roleLease s g && (roleMembers s g).contains m.src then
      setRole s g { roleAt s g with claims := (roleAt s g).claims ++ [(m.src, wordsTick m.payload 0)] }
    else s))

/-- One entry's claims at cc 960 (R400): the lowest claimant, while no lease granted here is unexpired. -/
def claimDecide (s : State) (g : Nat) : State :=
  let x := roleAt s g
  match x.claims with
  | [] => s
  | c :: l =>
    let best := l.foldl (fun a b => if b.1 < a.1 then b else a) c
    let held := rd s (K.leaseExpiry g) != none64 && !dueNow s (rd s (K.leaseExpiry g))
    let win := fun (n : Nat) => !held && n == best.1
    let s := setRole s g { x with claims := [], claiming := x.claiming && win (nodeId s), grants := if x.claiming && win (nodeId s) then [nodeId s] else x.grants }
    let s := if held then s else wr (setRole s g { roleAt s g with lapsed := false }) (K.leaseExpiry g) best.2
    (c :: l).foldl (fun s e =>
      if e.1 = nodeId s then s
      else roleSend s g Msg.answer e.1 ((if win e.1 then 2 ^ 31 else 0) :: tickWords e.2)) s

/-- LEASE_CLAIM_DECIDE (R400). -/
def execLeaseClaimDecide (s : State) : Host.Outcome State Fault Refusal :=
  done s (oncePerTick s 3 (fun s => forNat 4 (fun g s => if roleLease s g then claimDecide s g else s) (toCc s 960)))

/-- COMMIT_REPORT (R35, R155, R400): at cc 32 skipped commits are reported and lease claims are sent. -/
def execCommitReport (s : State) : Host.Outcome State Fault Refusal :=
  done s (forNat 4 (fun g s => leaseClaim s g) (l1SkipReport (skipReport (toCc s 32))))

/-! The self-test. -/

/-- The conditions of R404 that name no handle, found failed. -/
def healthFaults (s : State) (g : Nat) : Nat :=
  let x := roleAt s g
  let tick := tickValid s && !rdBit s K.tickStatus 3 && x.tickOk
  (if rd s K.rootStatus = Root.ready then 0 else 16) + (if tick then 0 else 8) + (if x.gap.isSome then 4 else 0) +
  (if rd s K.insyncLag ≤ 100 then 0 else 64)

/-- The conditions of R404 for a handle, found failed (KEYS_OK, RESV_OK, PORTS_OK). -/
def handleFaults (s : State) (h : Nat) : Nat :=
  let e := saAt s h
  let remote := !saLocal s e && saLive e.st && !e.l1
  let needKey := e.st == Sa.active || e.st == Sa.grace || ((e.st == Sa.staged) && e.arm != 0 && rd s (K.armTick e.arm) != none64)
  if !remote then 0
  else
    (if needKey && !(slotAt s h).complete then 2 else 0) +
    (if resvApplies s e && e.st != Sa.grace && !e.conf then 4 else 0) +
    (if portUp s (scAt s e.sc).port then 0 else 32)

/-- STANDBY_SELFTEST_STEP (R403, R404): step j below 8 tests slice j, the others 1,024 handles each; a bit clears in the step
that finds a fault and sets at the end of a pass without one. -/
def execStandbySelftestStep (sliceOk : Bool) (s : State) : Host.Outcome State Fault Refusal :=
  done s (if !(List.range 4).any (fun g => roleEn s g && roleStandby (roleAt s g)) then s
  else bgStep s 5 (fun s =>
    let n := s.fab.selfStep
    let lo := (n - 8) * 1024
    let hs := if n < 8 then [] else (s.assoc.sa.map (·.1)).filter (fun h => decide (lo ≤ h) && decide (h < lo + 1024))
    let f0 := if n < 8 ∧ !sliceOk then 1 else 0
    let f1 := hs.foldl (fun a h => Nat.lor a (handleFaults s h)) f0
    let s1 := forNat 4 (fun g s =>
      if roleEn s g && roleStandby (roleAt s g) then
        let f := Nat.lor f1 (if classBlocked s g then 127 else healthFaults s g)
        let x := roleAt s g
        let all := Nat.lor x.fails f
        let h := Nat.land (rd s (K.health g) % 128) (127 - f % 128)
        let h := if n = 135 then Nat.lor h (127 - all % 128) else h
        setHealth (setRole s g { x with fails := if n = 135 then 0 else all }) g h
      else s) s
    { s1 with fab := { s1.fab with selfStep := (n + 1) % 136 } }))

/-- A background job has a step to do (R39): dirty counter lines outside HOLD (R448), a compare that runs and is not paused
(R138), a dump under way with room in its bank (R375), the scrubber always, a standby role to test. -/
def bgWork (s : State) (job : Nat) : Bool :=
  match job with
  | 1 => !s.hbm.dirty.isEmpty && !inHold s
  | 2 => rdBit s K.shadowCtrl 0 && !rdBit s K.shadowCtrl 1
  | 3 => s.stats.dump.isSome && decide (s.stats.bank.length < 4096)
  | 4 => true
  | 5 => (List.range 4).any (fun g => roleEn s g && roleStandby (roleAt s g))
  | _ => false

/-- BG_JOB_SUSPEND (R40): a job with a step to do does not finish it in this tick. -/
def execBgJobSuspend (job : Nat) (s : State) : Host.Outcome State Fault Refusal :=
  done s (if bgWork s job then bgSuspend s job else s)

end Sys2Proof.Machine
end

