-- ==== Sys2Proof/Machine/Reserve.lean ====
section
/-! DEFINITION. Packet-number reservation and replay continuity (R405–R408), migration (R160–R162, R413) and the planned
switchover (R411). -/

namespace Sys2Proof.Machine

/-- A list in pieces of `n`. -/
def pieces (n : Nat) : Nat → List Nat → List (List Nat)
  | 0, _ => []
  | _, [] => []
  | k + 1, l => l.take n :: pieces n k (l.drop n)

/-- An SA needs a block (R147, R152): a stage waiting for its first, or a margin below 2^15. -/
def needsFirst (s : State) (e : SaEnt) : Bool := reserves s e && (e.st == Sa.staged || e.st == Sa.skipped) && !e.conf
def needsMore (s : State) (e : SaEnt) : Bool :=
  reserves s e && (e.st == Sa.active || ((e.st == Sa.staged || e.st == Sa.skipped) && e.conf)) &&
  decide (e.ceiling < e.pn + 32768) && decide (e.ceiling < ceilNext s e)

/-- Handles that need a block, those below the margin first, each in handle order (R405). -/
def resvNeeds (s : State) : List Nat :=
  (s.assoc.sa.filter (fun e => needsMore s e.2)).map (·.1) ++ (s.assoc.sa.filter (fun e => needsFirst s e.2)).map (·.1)

/-- A block confirmed locally (R406). -/
def confirmLocal (s : State) (h : Nat) : State := ceilRaise s h (ceilNext s (saAt s h))

/-- RESV_PENDING: SAs waiting for a standby (R406). -/
def resvCount (s : State) : State := wr s K.resvPending (s.assoc.sa.filter (fun e => e.2.asked != 0)).length

/-- The receivers of a request (R405). DEDUCED (log entry 32). -/
def resvTo (s : State) (g : Nat) : List Nat := if rolePair s g then [rolePeer s g] else (roleAt s g).holders

/-- An entry of a request: its handle and the ceiling asked for (R388). -/
def resvEntry (s : State) (h : Nat) : List Word := h :: toWords 2 (saAt s h).asked

/-- One message of a request, to every receiver (R405). DEDUCED (log entry 29). -/
def resvMsg (g : Nat) (s : State) (hs : List Nat) : State :=
  let x := roleAt s g
  let q := (x.seqTx + 1) % 2 ^ 32
  let s := setRole s g { x with seqTx := q }
  (resvTo s g).foldl (fun s n => roleSend s g Msg.resvReq n (q :: hs.flatMap (resvEntry s))) s

/-- The ceiling an entry asks for: unconfirmed answers of an earlier ceiling no longer count. -/
def resvAsk (s : State) (h : Nat) : State :=
  let e := saAt s h
  let c := ceilNext s e
  if e.asked = c then s else setSa s h { e with asked := c, acks := [] }

/-- Request blocks for handles (R405): at most RESV_PER_TICK entries, 84 a message. -/
def resvRequest (s : State) (g : Nat) (hs : List Nat) : State :=
  let hs := hs.take (rd s K.resvPerTick)
  let s := hs.foldl resvAsk s
  (pieces 84 25 hs).foldl (resvMsg g) s

/-- The reservation phase of an active entry (R405–R407). -/
def resvPhase (s : State) (g : Nat) : State :=
  let x := roleAt s g
  let needs := resvNeeds s
  if x.st = 3 then needs.foldl confirmLocal s
  else
    let s := (needs.filter x.resync.contains).foldl confirmLocal s
    resvRequest s g (needs.filter (fun h => !x.resync.contains h) ++ x.resync)

/-- RESERVATION_SEND (R35, R398, R405, R406): at cc 128. -/
def execReservationSend (s : State) : Host.Outcome State Fault Refusal :=
  done s (oncePerTick s 4 (fun s =>
    let s1 := toCc s 128
    let s2 := match activeEntry s1 with
      | some g => resvPhase s1 g
      | none => if (List.range 4).any (roleEn s1) then s1 else (resvNeeds s1).foldl confirmLocal s1
    resvCount (forNat 4 (fun g s => leaseRenew s g) s2)))

/-- The entries of a request or an answer. -/
def resvEntries (l : List Word) : List (Nat × Nat) :=
  (List.range (l.length / 3)).map (fun i => (nth l (3 * i), nth l (3 * i + 1) * 2 ^ 32 + nth l (3 * i + 2)))

/-- Every remote SA that must have a recorded ceiling has been recorded since a gap opened: a resync has covered it
(R405). DEDUCED (log entry 32). -/
def gapCovered (s : State) (l : List Nat) : Bool :=
  s.assoc.sa.all (fun e => saLocal s e.2 || !resvApplies s e.2 || !saLive e.2.st || e.2.st == Sa.grace || l.contains e.1)

/-- One entry received (R405): recorded, or refused; the answer's words. DEDUCED (log entry 32). -/
def resvRecord (src : Nat) (s : State) (e : Nat × Nat) : State × List Word :=
  let h := e.1 % 2 ^ 17
  let a := saAt s h
  if !saLocal s a && a.node == src && a.resv && (a.st == Sa.staged || a.st == Sa.skipped || a.st == Sa.active) then
    let c := Nat.max a.ceiling e.2
    (setSa s h { a with ceiling := c, conf := true }, h :: toWords 2 c)
  else (s, (2 ^ 31 + h) :: toWords 2 a.ceiling)

/-- RESV_REQ_RX (R405): answered only after every record is written. -/
def execResvReqRx (m : FabMsg) (s : State) : Host.Outcome State Fault Refusal :=
  done s (groupRx s m Msg.resvReq (fun s g =>
    let q := nth m.payload 0
    let es := resvEntries (m.payload.drop 1)
    let x := roleAt s g
    let gap := match x.seqRx with
      | some k => q != (k + 1) % 2 ^ 32
      | none => false
    let (s, ws) := es.foldl (fun (a : State × List Word) e => let (t, w) := resvRecord m.src a.1 e; (t, a.2 ++ w)) (s, [])
    let since := if gap then some (es.map (·.1)) else x.gap.map (fun l => l ++ es.map (·.1))
    let since := match since with
      | some l => if gapCovered s l then none else some l
      | none => none
    let s := setRole s g { x with seqRx := some q, gap := since }
    let s := if gap then setHealth s g (setBit (rd s (K.health g)) 2 false) else s
    roleSend s g Msg.resvConf m.src (q :: ws)))

/-- One entry of an answer (R405, R407): the ceiling rises once every receiver has confirmed it. -/
def resvAnswer (g src : Nat) (s : State) (e : Nat × Nat) : State :=
  let h := e.1 % 2 ^ 17
  let a := saAt s h
  if bit e.1 31 then inc s K.resvRefused 1
  else if a.asked = 0 ∨ e.2 < a.asked ∨ !(resvTo s g).contains src then s
  else
    let acks := if a.acks.contains src then a.acks else src :: a.acks
    if (resvTo s g).all acks.contains then
      let synced := decide (a.ceiling ≤ a.asked)
      let s := ceilRaise s h a.asked
      if synced then setRole s g { roleAt s g with resync := (roleAt s g).resync.filter (· != h) } else s
    else setSa s h { a with acks := acks }

/-- RESV_CONF_RX (R405, R407). -/
def execResvConfRx (m : FabMsg) (s : State) : Host.Outcome State Fault Refusal :=
  done s (groupRx s m Msg.resvConf (fun s g =>
    let s := resvCount ((resvEntries (m.payload.drop 1)).foldl (resvAnswer g m.src) s)
    let x := roleAt s g
    if x.st = 5 then
      let s := wr s K.resyncLeft x.resync.length
      if x.resync.isEmpty then setRole s g { x with st := 2 } else s
    else s))

/-! Replay continuity. -/

/-- Local inbound SAs whose NEXT_PN the standby keeps (R408). DEDUCED (log entry 29). -/
def replayList (s : State) : List Nat :=
  (s.assoc.sa.filter (fun e => saLocal s e.2 && !e.2.l1 && (scAt s e.2.sc).inbound && (e.2.st == Sa.active || e.2.st == Sa.grace))).map (·.1)

/-- Members reachable in class 3 (R390, R408). -/
def replayTo (s : State) (g : Nat) : List Nat := (roleMembers s g).filter (reaches s 3)

/-- REPLAY_SYNC_SEND (R408): from cc 1,024 at most INSYNC_PER_TICK entries a tick, 85 a message, in rotating handle order. -/
def execReplaySyncSend (s : State) : Host.Outcome State Fault Refusal :=
  done s (oncePerTick s 5 (fun s =>
    let s := toCc s 1024
    match activeEntry s with
    | none => s
    | some g =>
      let n := rd s K.insyncPerTick
      if n = 0 ∨ rd s K.fabVersionMax < 3 ∨ (replayTo s g).isEmpty then wr s K.insyncLag (2 ^ 32 - 1)
      else
        let left := (replayList s).filter (fun h => decide (s.fab.syncPos ≤ h))
        let now := left.take n
        let start := if s.fab.syncPos = 0 then s.tick.elapsed else s.fab.syncStart
        let ended := decide (left.length ≤ n)
        let next := if ended then 0 else (now.getLast?.getD 0) + 1
        let s1 := if ended && !now.isEmpty then wr s K.insyncLag (s.tick.elapsed + 1 - start) else s
        let s1 := { s1 with fab := { s1.fab with syncPos := next, syncStart := start } }
        (pieces 85 25 now).foldl (fun s hs =>
          (replayTo s g).foldl (fun s d => roleSend s g Msg.replay d (hs.flatMap (fun h => h :: toWords 2 (saAt s h).pn))) s) s1))

/-- REPLAY_SYNC_RX (R408): a mirror's NEXT_PN only rises; the lag is the length of the sender's last full rotation. -/
def execReplaySyncRx (m : FabMsg) (s : State) : Host.Outcome State Fault Refusal :=
  done s (groupRx s m Msg.replay (fun s _ =>
    let es := resvEntries m.payload
    let s := es.foldl (fun s e =>
      let h := e.1 % 2 ^ 17
      let a := saAt s h
      if !saLocal s a && a.node == m.src then setSa s h { a with pn := Nat.max a.pn e.2 } else s) s
    match es.head?, es.getLast? with
    | some a, some b =>
      match s.fab.syncRx with
      | some (last, start) =>
        if a.1 ≤ last then
          wr { s with fab := { s.fab with syncRx := some (b.1, s.tick.elapsed) } } K.insyncLag (Nat.max 1 (s.tick.elapsed - start))
        else { s with fab := { s.fab with syncRx := some (b.1, start) } }
      | none => { s with fab := { s.fab with syncRx := some (b.1, s.tick.elapsed) } }
    | _, _ => s))

/-! Migration. -/

/-- Outbound frames of channels `p` queued at their placement are dropped under MIGRATE_LATE (R160).
DEDUCED (log entry 24). -/
def lateDrop (s : State) (p : Nat → Bool) : State :=
  forNat 32 (fun q s =>
    ((outQ s q).filter (fun f => f.stage != 0 && resAction f.res == Act.secure && p (resSc f.res))).foldl (fun s f =>
      outDrop (inc (dropFrame s f) K.migrateLate 1) q f.cells) s) s

/-- The new EPOCH of a channel's SAs: one more than its current SA's, or its first SA's. -/
def migEpoch (s : State) (sc : Nat) : Nat :=
  let e := scAt s sc
  let h := e.cur.getD ((scHandles e).headD 0)
  ((saAt s h).epoch + 1) % 65536

/-- MIG_TICK (R160, R38, R390, R413): arms; refused while one is armed; a node out of reach of class 3 is refused.
DEDUCED (log entry 24). -/
def migTickEff (t : Nat) (s : State) : Res :=
  let n := rd s K.migNode
  if rd s K.migTick ≠ none64 then abortR s .wrongState
  else if t = none64 then okR s
  else if n ≠ nodeId s ∧ !reaches s 3 n then abortR s .unsupportedValue
  else if !armOk s t then abortR s .lateCommit
  else
    let s := wr { s with assoc := { s.assoc with migOk := false } } K.migTick t
    let sc := rd s K.migSc
    okR (if n = nodeId s then s
    else fabSend s Msg.moveCheck n 0 0 ([sc, rd s K.migPort] ++ tickWords t ++ [migEpoch s sc]))
def execMigTickWrite (r : Req) (t : Nat) (s : State) : Host.Outcome State Fault Refusal :=
  done s (access s r K.migTick true (migTickEff (t % 2 ^ 64)))

/-- The SAs of a channel move to a node and port (R160): EPOCH + 1, an outbound SA with RESV continues from its CEILING.
DEDUCED (log entry 24). -/
def migMove (s : State) (sc port node : Nat) (wait : Bool) : State :=
  let e := scAt s sc
  let old := e.port
  let s := lateDrop s (· == sc)
  let s := (scHandles e).foldl (fun s h =>
    let a := saAt s h
    let pn := if resvApplies s a then a.ceiling else a.pn
    predDrop (setSa s h { a with epoch := (a.epoch + 1) % 65536, node := node, pn := pn, asked := 0, acks := [], waitMove := wait && !e.inbound }) (· == h)) s
  let s := setSc s sc { scAt s sc with ctrl := setBits (scAt s sc).ctrl 28 24 port }
  let m : Moved := ⟨old, nodeId s, (tickNo s + 2) % 2 ^ 64, false⟩
  let s := if wait then movedClear s sc else { s with assoc := { s.assoc with moved := tset ⟨0, 0, 0, true⟩ s.assoc.moved sc m } }
  raise s Ev.saMigrated sc 0

/-- SA_MOVE's payload (R388): each SA's handle, live NEXT_PN and CEILING. DEDUCED (log entry 29). -/
def moveWords (s : State) (sc : Nat) : List Word :=
  (scHandles (scAt s sc)).flatMap (fun h => h :: (toWords 2 (saAt s h).pn ++ toWords 2 (saAt s h).ceiling))

/-- The migrations due at this commit point (R160, R413). DEDUCED (log entries 17, 24). -/
def migCommit (s : State) : State :=
  let t := rd s K.migTick
  let s :=
    if t ≠ none64 ∧ dueNow s t then
      let sc := rd s K.migSc
      let n := rd s K.migNode
      let s1 := wr (markLate s t) K.migTick none64
      if n = nodeId s then migMove s1 sc (rd s K.migPort) n false
      else if s.assoc.migOk then fabSend (migMove s1 sc (rd s K.migPort) n false) Msg.move n 0 0 (moveWords s sc)
      else raise s1 Ev.migrateSkipped sc 0
    else s
  match s.fab.target with
  | some x => if dueNow s x.tick then migMove (markLate { s with fab := { s.fab with target := none } } x.tick) x.sc x.port (nodeId s) true else s
  | none => s

/-- SA_MOVE_CHECK_RX (R413): every SA of the channel remote with a complete key, the port one of this node's.
DEDUCED (log entry 32). -/
def execSaMoveCheckRx (m : FabMsg) (s : State) : Host.Outcome State Fault Refusal :=
  done s (fabMine s m Msg.moveCheck (fun s =>
    let sc := nth m.payload 0 % 65536
    let port := nth m.payload 1
    let ok := (scHandles (scAt s sc)).all (fun h => !saLocal s (saAt s h) && (slotAt s h).complete) && isPort s port &&
      s.fab.target.isNone
    let x : Target := ⟨sc, port, wordsTick m.payload 2, nth m.payload 4 % 65536, m.src⟩
    let s := if ok then { s with fab := { s.fab with target := some x } } else s
    let reason := (Config.free 13 (if isPort s port then 1 else 2)).toNat % 2 ^ 31
    fabSend s Msg.moveAnswer m.src 0 0 [if ok then 2 ^ 31 else reason]))

/-- MOVE_ANSWER_RX (R413). -/
def execMoveAnswerRx (m : FabMsg) (s : State) : Host.Outcome State Fault Refusal :=
  done s (fabMine s m Msg.moveAnswer (fun s =>
    if rd s K.migTick ≠ none64 ∧ rd s K.migNode = m.src then
      { s with assoc := { s.assoc with migOk := bit (nth m.payload 0) 31 } }
    else s))

/-- SA_MOVE_RX (R413, R161): outbound goes on at the CEILING with RESV, else at NEXT_PN; inbound NEXT_PN only rises.
DEDUCED (log entry 32). -/
def execSaMoveRx (m : FabMsg) (s : State) : Host.Outcome State Fault Refusal :=
  done s (fabMine s m Msg.move (fun s =>
    (List.range (m.payload.length / 5)).foldl (fun s i =>
      let h := nth m.payload (5 * i) % 2 ^ 17
      let pn := wordsTick m.payload (5 * i + 1)
      let c := wordsTick m.payload (5 * i + 3)
      let a := saAt s h
      if !saLocal s a then s
      else if (scAt s a.sc).inbound then setSa s h { a with pn := Nat.max a.pn pn }
      else if !a.waitMove then s
      else setSa s h { a with pn := if resvApplies s a then c else pn, ceiling := c, waitMove := false }) s))

/-- SA_FINAL's payload (R367, R388): each SA's handle and its folded statistics entry. -/
def finalWords (s : State) (sc : Nat) : List Word :=
  (scHandles (scAt s sc)).flatMap (fun h => h :: statWords (statAt s h))

/-- SA_FINAL_RX (R367, R413): the old owner's entry is added. DEDUCED (log entry 32). -/
def execSaFinalRx (m : FabMsg) (s : State) : Host.Outcome State Fault Refusal :=
  done s (fabMine s m Msg.final (fun s =>
    (List.range (m.payload.length / 7)).foldl (fun s i =>
      let h := nth m.payload (7 * i) % 2 ^ 17
      if saLocal s (saAt s h) then
        statAdd s h (wordsTick m.payload (7 * i + 1)) (wordsTick m.payload (7 * i + 3)) (nth m.payload (7 * i + 5)) (nth m.payload (7 * i + 6))
      else s) s))

/-- MIGRATION_DRAIN_END (R161, R413): from the commit point of T + 2 the old placement drops, and SA_FINAL is sent to the new
node. DEDUCED (log entry 24). -/
def execMigrationDrainEnd (s : State) : Host.Outcome State Fault Refusal :=
  done s ((toCc s 16).assoc.moved.foldl (fun s (sc, m) =>
    if !m.overl ∧ dueNow s m.until_ then
      let s := { s with assoc := { s.assoc with moved := tset ⟨0, 0, 0, true⟩ s.assoc.moved sc { m with overl := true } } }
      match (scHandles (scAt s sc)).map (fun h => (saAt s h).node) with
      | n :: _ => if n = nodeId s then s else fabSend s Msg.final n 0 0 (finalWords s sc)
      | [] => s
    else s) (toCc s 16))

/-! The planned switchover. -/

/-- ROLE_SWITCH_TICK (R411, R38). DEDUCED (log entry 31). -/
def roleSwitchEff (g t : Nat) (s : State) : Res :=
  let old := rd s (K.roleSwitchTick g)
  if !roleActive (roleAt s g) then abortR s .wrongState
  else if old ≠ none64 ∧ old ≤ tickNo s + 1 then abortR s .lateCommit
  else if t = none64 then okR (wr s (K.roleSwitchTick g) t)
  else if armOk s t then okR (wr s (K.roleSwitchTick g) t) else abortR s .lateCommit
def execRoleSwitchArm (r : Req) (g t : Nat) (s : State) : Host.Outcome State Fault Refusal :=
  done s (access s r (K.roleSwitchTick g) true (roleSwitchEff g (t % 2 ^ 64)))

/-- The switchovers due at this commit point (R411): the active member demotes; what is queued is late, what arrives has the
drain interval of R161. DEDUCED (log entries 17, 31). -/
def switchCommit (s : State) : State :=
  forNat 4 (fun g s =>
    let t := rd s (K.roleSwitchTick g)
    if t = none64 ∨ !dueNow s t then s
    else
      let s := wr (markLate s t) (K.roleSwitchTick g) none64
      if !roleActive (roleAt s g) then s
      else
        let mine := fun (sc : Nat) => (scHandles (scAt s sc)).any (fun h => saLocal s (saAt s h))
        let until_ := (tickNo s + 2) % 2 ^ 64
        let s1 := lateDrop (demote s g) mine
        (s1.assoc.sc.map (·.1)).foldl (fun s sc =>
          if mine sc then
            let m : Moved := ⟨(scAt s sc).port, nodeId s, until_, false⟩
            { s with assoc := { s.assoc with moved := tset ⟨0, 0, 0, true⟩ s.assoc.moved sc m } }
          else s) s1) s

end Sys2Proof.Machine
end

