-- ==== Sys2Proof/Machine/Hbm.lean ====
section
/-! DEFINITION. Protected external memory (R299–R318): lines, counters, poison, retirement, regions, the HBM window; and the
shadow compare (R136–R138), which reads it. -/

namespace Sys2Proof.Machine

/-- A line never written, with nothing wrong (R309). -/
def hline0 : HLine := ⟨[], [], [], 0, false, false, false⟩

/-- The key of line `line` of level `lvl` of region `r`: level 0 holds data lines (R308). -/
def lineKey (r lvl line : Nat) : Nat := (r * 8 + lvl) * 2 ^ 22 + line
def hlineAt (s : State) (k : Nat) : HLine := tget hline0 s.hbm.lines k
def setHline (s : State) (k : Nat) (x : HLine) : State := { s with hbm := { s.hbm with lines := tset hline0 s.hbm.lines k x } }

/-- How the objects name a line (R320). -/
def lineName (r lvl line : Nat) : Nat := r * 2 ^ 26 + lvl * 2 ^ 23 + line

/-- Bytes of a region, and lines of one (R306). -/
def regionBytes : Nat := 201326592

/-- A counter line above line `line` of level `lvl` satisfies `p` (R308). -/
def above (s : State) (r lvl line : Nat) (p : HLine → Bool) : Bool :=
  (List.range 6).any (fun k => decide (lvl ≤ k) && p (hlineAt s (lineKey r (k + 1) (line / 8 ^ (k + 1 - lvl)))))

/-! What a line holds (R306, R307). -/

/-- The line's address in the stack, in lines (R306): the regions' user lines, then the counter lines, region by region and level by
level, an order the spec leaves open. DESIGN CHOICE (log entry 33). -/
def userLines : Nat := 3145728
def ctrLines (lvl : Nat) : Nat := userLines / 8 ^ lvl
def regionCtrLines : Nat := forNat 6 (fun i n => n + ctrLines (i + 1)) 0
def lineAddr (r lvl line : Nat) : Nat :=
  if lvl = 0 then r * userLines + line
  else 64 * userLines + r * regionCtrLines + forNat (lvl - 1) (fun i n => n + ctrLines (i + 1)) 0 + line

/-- The bytes of the stack at which the tag and the parity of a line stand (R306). -/
def tagByte (r lvl line : Nat) : Nat := 64 * (64 * userLines + 64 * regionCtrLines) + 8 * lineAddr r lvl line
def parByte (r lvl line : Nat) : Nat := 72 * (64 * userLines + 64 * regionCtrLines) + 2 * lineAddr r lvl line

/-- A region's keys for encryption and for tags (R307). -/
def encKey (s : State) (r : Nat) : List Byte := (tget [] s.hbm.keys r).take 32
def tagKey (s : State) (r : Nat) : List Byte := (tget [] s.hbm.keys r).drop 32

/-- A counter block: line address, write counter and index (R307). -/
def lineBlock (addr ctr i : Nat) : List Byte := toBytes 16 (addr * 2 ^ 100 + ctr * 2 ^ 39 + i * 2 ^ 37)

/-- A line's 64 bytes under the encryption key (R307): its own inverse. -/
def lineCrypt (key : List Byte) (addr ctr : Nat) (b : List Byte) : List Byte :=
  xorBytes b ((List.range 4).flatMap (fun i => aesEnc key (lineBlock addr ctr i)))

/-- The tag of a line of 64 bytes (R307). -/
def lineTag (key : List Byte) (addr ctr : Nat) (c : List Byte) : List Byte :=
  (toBytes 16 (Nat.xor (ofBytes (aesEnc key (lineBlock addr ctr 3))) (ghash (hashKey key) c))).take 8

/-- The parity of a codeword's 72 other symbols (R307): Reed–Solomon over GF(2^8) with the field polynomial 0x11D and the generator
roots 1 and 2, which the spec does not give. PRESUMED (log entry 33). -/
def rsMul (a b : Nat) : Nat :=
  (forNat 8 (fun i x => (if bit b i then Nat.xor x.1 x.2 else x.1, if bit x.2 7 then Nat.xor (x.2 * 2 % 256) 0x1D else x.2 * 2)) (0, a)).1
def rsParity (l : List Byte) : List Byte :=
  let r := l.foldl (fun (r : Nat × Nat) d => let f := Nat.xor d r.1; (Nat.xor r.2 (rsMul f 3), rsMul f 2)) (0, 0)
  [r.1, r.2]

/-- The data of a line, deciphered: zeros until it is first written (R309). -/
def lineData (s : State) (r line : Nat) : List Byte :=
  let x := hlineAt s (lineKey r 0 line)
  if x.written then lineCrypt (encKey s r) (lineAddr r 0 line) x.ctr x.cipher else List.replicate 64 0

/-- Line `line` is stored with data `b` under its counter (R307, R313). -/
def lineSeal (s : State) (r line : Nat) (b : List Byte) : State :=
  let k := lineKey r 0 line
  let x := hlineAt s k
  let c := lineCrypt (encKey s r) (lineAddr r 0 line) x.ctr b
  let t := lineTag (tagKey s r) (lineAddr r 0 line) x.ctr c
  setHline s k { x with cipher := c, tag := t, par := rsParity (c ++ t), written := true, poison := false }

/-- The counter word of a line, and the content of a counter line: its eight children's words (R307, R308). -/
def ctrWord (x : HLine) : Nat := x.ctr * 8 + b2n x.written * 4 + b2n x.poison * 2 + b2n x.retired
def ctrLine (s : State) (r lvl line : Nat) : List Byte :=
  (List.range 8).flatMap (fun i => toBytes 8 (ctrWord (hlineAt s (lineKey r (lvl - 1) (line * 8 + i)))))

/-- A counter line is stored: authenticated, not encrypted (R307). -/
def ctrSeal (s : State) (r lvl line : Nat) : State :=
  let k := lineKey r lvl line
  let x := hlineAt s k
  let c := ctrLine s r lvl line
  let t := lineTag (tagKey s r) (lineAddr r lvl line) x.ctr c
  setHline s k { x with tag := t, par := rsParity (c ++ t) }

/-- The region is ready for accesses, and the worlds it admits (R301, R309). -/
def regionReady (s : State) (r : Nat) : Bool := rdBit s (K.regionStatus r) 0
def regionWorld (s : State) (r : Nat) : Nat := rdField s (K.regionCtrl r) 2 1
def worldMay (s : State) (r : Nat) (sec write : Bool) : Bool :=
  match regionWorld s r with
  | 0 => true
  | 1 => sec || !write
  | _ => sec

/-! Counters. -/

/-- The end of a write counter (R314). -/
def ctrEnd : Nat := 2 ^ 61 - 1

/-- The counter of a line rises by 1; at its end the line retires (R314). -/
def ctrRaise (s : State) (r lvl line : Nat) : State :=
  let k := lineKey r lvl line
  let x := hlineAt s k
  if ctrEnd ≤ x.ctr then s
  else if x.ctr + 1 = ctrEnd then
    raise (inc (setHline s k { x with ctr := ctrEnd, retired := true }) K.memRetired 1) Ev.memCtrEnd (lineName r lvl line) 0
  else setHline s k { x with ctr := x.ctr + 1 }

/-- Dirty lines the counter cache holds (R315). -/
def cacheLines : Nat := 32768

/-- The dirty list changes with the object that counts it. -/
def setDirty (s : State) (l : List Nat) : State := wr { s with hbm := { s.hbm with dirty := l } } K.ctrCacheDirty l.length

/-- A counter line is written in the cache: it is the most recently written one. DEDUCED (log entry 33). -/
def touchCtr (s : State) (k : Nat) : State := setDirty s (s.hbm.dirty.filter (· != k) ++ [k])

/-- The least recently written dirty line is written back, and its parent counter rises in the cache (R315).
DEDUCED (log entry 33). -/
def writeBack (s : State) : State :=
  match s.hbm.dirty with
  | [] => s
  | k :: l =>
    let r := k / 2 ^ 25
    let lvl := k / 2 ^ 22 % 8
    let line := k % 2 ^ 22
    let s := ctrSeal (ctrRaise (setDirty s l) r lvl line) r lvl line
    if lvl < 6 then touchCtr s (lineKey r (lvl + 1) (line / 8)) else s

/-- The counter of a written data line stands in its level-1 line; a cache full of dirty lines first writes one back. -/
def dirtyCtr (s : State) (r line : Nat) : State :=
  let k := lineKey r 1 (line / 8)
  let s := if cacheLines ≤ s.hbm.dirty.length && !s.hbm.dirty.contains k then writeBack s else s
  touchCtr s k

/-- HBM_COUNTER_WRITEBACK (R315): up to 8 dirty lines; in HOLD the HBM refreshes itself (R448). -/
def execHbmCounterWriteback (s : State) : Host.Outcome State Fault Refusal :=
  done s (if inHold s then s else bgStep s 1 (fun s => forNat 8 (fun _ s => writeBack s) s))

/-! Reads and the late alarm. -/

/-- A line is poisoned; a poisoned counter line is a fault of the region's tree (R311). DEDUCED (log entry 33). -/
def poisonLine (s : State) (r lvl line : Nat) : State :=
  let k := lineKey r lvl line
  let s := setHline s k { hlineAt s k with poison := true }
  if lvl = 0 then s else wrBit s (K.regionStatus r) 2 true

/-- A comparison fails after delivery (R311); reading MEM_LAST re-arms the event (R320). -/
def lateAlarm (s : State) (r lvl line : Nat) : State :=
  let s := perfAdd (inc (poisonLine s r lvl line) K.memTagFails 1) 772 1
  raiseFirst (wr s K.memLast (lineName r lvl line)) K.memLast Ev.memLateAlarm (lineName r lvl line) 0

/-- A read whose result is used only after every check (R310, R312): the 64 bytes, or none for an error. A miss that finds the
counter cache full of dirty lines writes one back (R315). DEDUCED (log entry 33). -/
def memRead (s : State) (r line : Nat) (f : MemFault) : State × Option (List Byte) :=
  let s := perfAdd s 768 1
  let miss := (Config.free 14 (rd s K.tickLength + s.tick.clock)).toNat % 2
  let s := perfAdd s 770 miss
  let s := if decide (cacheLines ≤ s.hbm.dirty.length) && miss == 1 then writeBack s else s
  let x := hlineAt s (lineKey r 0 line)
  if x.poison || above s r 0 line (·.poison) then (s, none)
  else
    let good := some (lineData s r line)
    match f with
    | .good => (s, good)
    | .oneSymbol => (perfAdd (inc s K.memCorrected 1) 771 1, good)
    | .undecodable =>
      if !x.written then (s, good)
      else (raise (inc (poisonLine s r 0 line) K.memUncorr 1) Ev.memUncorr (lineName r 0 line) 0, none)
    | .badTag lvl =>
      if lvl = 0 && !x.written then (s, good)
      else if 6 < lvl then (s, good)
      else (lateAlarm s r lvl (line / 8 ^ lvl), none)

/-! Writes. -/

/-- What a write ended in, as HBM_STATUS codes it (R313, R320): 1 done, 2 poisoned, 3 check failed in merge, 4 retired. -/
abbrev Wrote := Nat

/-- Write the bytes given of a line (R313): all 64 replace it, fewer are merged into what a verified read of it, with outcome `f`,
gives; a merge read that fails leaves the line poisoned and unwritten. DEDUCED (log entry 33). -/
def memWrite (s : State) (r line : Nat) (p : List (Option Byte)) (f : MemFault) : State × Wrote :=
  let k := lineKey r 0 line
  let x := hlineAt s k
  let full := p.all (·.isSome)
  if x.retired || above s r 0 line (·.retired) then (s, 4)
  else if above s r 0 line (·.poison) || (!full && x.poison) then (s, 2)
  else
    match (if full then (s, some (lineData s r line)) else memRead s r line f) with
    | (s, some old) =>
      let data := List.zipWith (fun (n : Option Byte) o => n.getD o) p old
      (dirtyCtr (lineSeal (ctrRaise (perfAdd s 769 1) r 0 line) r line data) r line, 1)
    | (s, none) => (s, 3)

/-- An internal master's request that the controller refuses (R301). -/
def masterRefused (s : State) : State := incFirst s K.masterRefused Ev.memMasterRefused 0 0

/-- Bytes of a region by internal reads: none where a line gives an error. `n` lines from byte `off`. -/
def readLines (s : State) (r first : Nat) : Nat → State × Option (List Byte)
  | 0 => (s, some [])
  | n + 1 =>
    let (s, a) := readLines s r first n
    let (s, b) := memRead s r (first + n) .good
    match a, b with
    | some a, some b => (s, some (a ++ b))
    | _, _ => (s, none)
def readBytes (s : State) (r off n : Nat) : State × Option (List Byte) :=
  let first := off / 64
  let cnt := if n = 0 then 0 else (off + n - 1) / 64 + 1 - first
  let (s, b) := readLines s r first cnt
  (s, b.map (fun l => (l.drop (off % 64)).take n))

/-- The part of a byte string at byte `off` that falls in line `line`. -/
def patchOf (off : Nat) (b : List Byte) (line : Nat) : List (Option Byte) :=
  (List.range 64).map (fun i =>
    let a := line * 64 + i
    if off ≤ a then b[a - off]? else none)

/-- Write bytes of a region line by line, `f` the outcome of the merge reads; false where a line refuses. -/
def writeBytes (s : State) (r off : Nat) (b : List Byte) (f : MemFault) : State × Bool :=
  let first := off / 64
  let cnt := if b.isEmpty then 0 else (off + b.length - 1) / 64 + 1 - first
  forNat cnt (fun i (a : State × Bool) =>
    let (s, w) := memWrite a.1 r (first + i) (patchOf off b (first + i)) f
    (s, a.2 && w == 1)) (s, true)

/-! Ranges of Beryl jobs. -/

/-- Fields of a job descriptor (R201). -/
def dWord (d : List Word) (k hi lo : Nat) : Nat := bits (nth d k) hi lo
def dOp (d : List Word) : Nat := dWord d 0 31 24
def dTagLen (d : List Word) : Nat := dWord d 0 15 8
def dLen (d : List Word) : Nat := dWord d 4 24 0
def dGcm (d : List Word) : Bool := dOp d == 6 || dOp d == 7
def dAad (d : List Word) : Nat := if dGcm d then dWord d 5 16 0 else 0

/-- Bytes of a job's output area (R202). -/
def outLen (d : List Word) : Nat :=
  let n := dLen d
  match dOp d with
  | 0x01 | 0x02 | 0x03 | 0x04 | 0x05 => n
  | 0x06 => n + dTagLen d
  | 0x07 => n - dTagLen d
  | 0x08 | 0x0D => dTagLen d
  | 0x0A => 32
  | 0x0B => 48
  | 0x0C => 64
  | 0x10 => n + 8
  | 0x11 | 0x13 => n - 8
  | 0x12 => (n + 7) / 8 * 8 + 8
  | _ => 0

/-- A range: in HBM, its region, first byte, bytes. -/
abbrev Rng := Bool × Nat × Nat × Nat
def srcRange (d : List Word) : Rng := (dWord d 1 31 31 == 1, dWord d 1 29 24, nth d 2 % 2 ^ 32 * 16, dAad d + dLen d)
def dstRange (d : List Word) : Rng := (dWord d 1 15 15 == 1, dWord d 1 13 8, nth d 3 % 2 ^ 32 * 16, outLen d)

/-- Two ranges share a byte. -/
def overlaps (a b : Rng) : Bool :=
  a.1 == b.1 && (!a.1 || a.2.1 == b.2.1) && decide (a.2.2.1 < b.2.2.1 + b.2.2.2) && decide (b.2.2.1 < a.2.2.1 + a.2.2.2) &&
  decide (0 < a.2.2.2) && decide (0 < b.2.2.2)

/-- The jobs that have started (R210). -/
def startedJobs (s : State) : List BRun := s.beryl.run.toList ++ s.beryl.susp.toList

/-- A range meets one that a job has locked, from its start until its completion is posted, which a full FIFO holds back (R210,
R211). DEDUCED (log entry 34). -/
def berylLocked (s : State) (a : Rng) : Bool :=
  (startedJobs s).any (fun j => overlaps a (dstRange j.desc)) || s.beryl.held.any (fun e => overlaps a e.lock)

/-- A region is named by a job that is queued, running or suspended (R316). -/
def berylNames (s : State) (r : Nat) : Bool :=
  (s.beryl.urgent ++ s.beryl.normal ++ (startedJobs s).map (·.desc)).any (fun d =>
    ((srcRange d).1 && (srcRange d).2.1 == r) || ((dstRange d).1 && (dstRange d).2.1 == r))

/-! Regions. -/

/-- The shadow compare names a region (R136). -/
def shadowNames (s : State) (r : Nat) : Bool := rdBit s K.shadowCtrl 0 && rdField s K.shadowCtrl 13 8 == r

/-- REGION_STATUS with IN_USE (R316, R320), and the counts of a region's poisoned and retired lines. -/
def regionStatusView (s : State) (r : Nat) : Nat := setBit (rd s (K.regionStatus r)) 3 (shadowNames s r || berylNames s r)
def regionCount (s : State) (r : Nat) (p : HLine → Bool) : Nat := (s.hbm.lines.filter (fun e => e.1 / 2 ^ 25 == r && p e.2)).length

/-- The lines of a region start anew, its keys and cached counters are gone (R309). -/
def regionWipe (s : State) (r : Nat) : State :=
  setDirty { s with hbm := { s.hbm with lines := tkeep (fun k => k / 2 ^ 25 != r) s.hbm.lines, keys := tdel s.hbm.keys r } }
    (s.hbm.dirty.filter (fun k => k / 2 ^ 25 != r))

/-- A write of REGION_CTRL (R309, R316, R443): enabling draws the region's two keys. -/
def regionCtrlEff (r v : Nat) (s : State) : Res :=
  let en := rdBit s (K.regionCtrl r) 0
  if bits v 2 1 = 3 then abortR s .unsupportedValue
  else if en && bits v 2 1 != regionWorld s r then abortR s .wrongState
  else if en && !bit v 0 then
    if shadowNames s r || berylNames s r then abortR s .wrongState
    else okR (wr (wr (regionWipe s r) (K.regionStatus r) 0) (K.regionCtrl r) (v % 8))
  else if !en && bit v 0 then
    if rdBit s K.startupStatus 11 then abortR s .wrongState
    else
      let (k, s) := draw (regionWipe s r) 64
      okR (wr (wr { s with hbm := { s.hbm with keys := tset [] s.hbm.keys r k } } (K.regionStatus r) 2) (K.regionCtrl r) (v % 8))
  else okR (wr s (K.regionCtrl r) (v % 8))

/-- REGION_ENABLE and REGION_DISABLE (R309, R316): REGION_CTRL written with ENABLE set, or clear. -/
def execRegionEnable (r : Req) (n v : Nat) (s : State) : Host.Outcome State Fault Refusal :=
  done s (access s r (K.regionCtrl n) true (regionCtrlEff n (setBit (v % 2 ^ 32) 0 true)))
def execRegionDisable (r : Req) (n v : Nat) (s : State) : Host.Outcome State Fault Refusal :=
  done s (access s r (K.regionCtrl n) true (regionCtrlEff n (setBit (v % 2 ^ 32) 0 false)))

/-- REGION_INIT_DONE (R309). -/
def execRegionInitDone (n : Nat) (s : State) : Host.Outcome State Fault Refusal :=
  done s (if n < 64 ∧ rdBit s (K.regionStatus n) 1 then wr s (K.regionStatus n) 1 else s)

/-! The window. -/

/-- Region and byte offset of HBM_ADDR. -/
def hbmPtr (s : State) : Nat × Nat := (rdField s K.hbmAddr 37 32, rdField s K.hbmAddr 27 0)

/-- The last result (R320). -/
def hbmResult (s : State) (v : Nat) : State := wrField s K.hbmStatus 7 0 v

/-- The line buffer's bytes. -/
def bufPatch (ws : Tbl (Option Word)) : List (Option Byte) :=
  (List.range 16).flatMap (fun i => match tget none ws i with
    | some w => (toBytes 4 w).map some
    | none => List.replicate 4 none)

/-- Write the line buffer, if one is pending (R317): the abort code where the write is refused. A region that no longer admits the
world of the channel (`q` accesses object `k`) is a world violation, and the buffer stays (R301). `f` is the outcome of a merge
read. DEDUCED (log entry 33). -/
def bufFlush (s : State) (q : Req) (k : Nat) (f : MemFault) : State × Option Code :=
  match s.hbm.buf with
  | none => (s, none)
  | some (r, line, ws) =>
    if !worldMay s r (secure s q) true then (countViolation s q k, some .worldViolation) else
    let s := { s with hbm := { s.hbm with buf := none } }
    if !regionReady s r || inHold s then (hbmResult s 5, some .wrongState)
    else
      let (s, w) := memWrite s r line (bufPatch ws) f
      (hbmResult s w, if w = 1 then none else some .memoryError)

/-- HBM_ADDR_WRITE (R317): a pending buffer is written first. DEDUCED (log entry 33). -/
def hbmAddrEff (r : Req) (v : Nat) (f : MemFault) (s : State) : Res :=
  let off := bits v 27 0
  if regionBytes - 4 < off ∨ off % 4 ≠ 0 then abortR s .unsupportedValue
  else claimed s Grp.hbm r (fun s =>
    match bufFlush s r K.hbmAddr f with
    | (s, some c) => abortR s c
    | (s, none) => okR (wr s K.hbmAddr (bits v 37 32 * 2 ^ 32 + off)))
def execHbmAddrWrite (r : Req) (v : Nat) (f : MemFault) (s : State) : Host.Outcome State Fault Refusal :=
  done s (access s r K.hbmAddr true (hbmAddrEff r (v % 2 ^ 64) f))

/-- The address after one word; at the end of a region it starts over. DEDUCED (log entry 33). -/
def hbmNext (s : State) : State :=
  let (r, off) := hbmPtr s
  wr s K.hbmAddr (r * 2 ^ 32 + (off + 4) % regionBytes)

/-- An access of the window the region's world does not admit: counted as any world violation, nothing else (R301, R320). -/
def hbmViolation (s : State) (r : Req) : Res := abortR (countViolation s r K.hbmData) .worldViolation

/-- HBM_DATA_WRITE (R301, R313, R317): words gather in the line buffer, word 15 writes it. -/
def hbmDataEff (r : Req) (v : Nat) (f : MemFault) (s : State) : Res :=
  let (n, off) := hbmPtr s
  if heldByOther s Grp.hbm r.ch then abortR s .wrongState
  else if !worldMay s n (secure s r) true then hbmViolation s r
  else if !regionReady s n || inHold s then abortR (hbmResult s 5) .wrongState
  else if berylLocked s (true, n, off, 4) then abortR s .wrongState
  else
    let s := claim s Grp.hbm r.ch
    let ws := match s.hbm.buf with | some (_, _, ws) => ws | none => []
    let s := { s with hbm := { s.hbm with buf := some (n, off / 64, tset none ws (off / 4 % 16) (some v)) } }
    if off / 4 % 16 = 15 then
      match bufFlush s r K.hbmData f with
      | (s, some c) => abortR s c
      | (s, none) => okR (hbmNext s)
    else okR (hbmNext s)
def execHbmDataWrite (r : Req) (v : Nat) (f : MemFault) (s : State) : Host.Outcome State Fault Refusal :=
  done s (access s r K.hbmData true (hbmDataEff r (v % 2 ^ 32) f))

/-- A read of HBM_DATA (R312, R317): a pending buffer of the channel is written first; the reply waits for the check. -/
def hbmDataRead (r : Req) (f : MemFault) (s : State) : Res :=
  let (n, off) := hbmPtr s
  if !worldMay s n (secure s r) false then hbmViolation s r
  else if !regionReady s n || inHold s then abortR (hbmResult s 5) .wrongState
  else if berylLocked s (true, n, off, 4) then abortR s .wrongState
  else
    match (if heldByOther s Grp.hbm r.ch then (s, none) else bufFlush s r K.hbmData .good) with
    | (s, some c) => abortR s c
    | (s, none) =>
      match memRead s n (off / 64) f with
      | (s, some b) => okV (hbmNext (hbmResult s 1)) [ofBytes ((b.drop (off % 64)).take 4)]
      | (s, none) => abortR (hbmResult s 2) .memoryError
def execHbmDataRead (r : Req) (f : MemFault) (s : State) : Host.Outcome State Fault Refusal :=
  done s (access s r K.hbmData false (hbmDataRead r f))

/-- HBM_FLUSH (R317). -/
def hbmFlushEff (r : Req) (v : Nat) (f : MemFault) (s : State) : Res :=
  if v ≠ 1 then abortR s .unsupportedValue
  else claimed s Grp.hbm r (fun s =>
    match bufFlush s r K.hbmFlush f with
    | (s, some c) => abortR s c
    | (s, none) => okR (release s Grp.hbm))
def execHbmFlush (r : Req) (f : MemFault) (s : State) : Host.Outcome State Fault Refusal :=
  done s (access s r K.hbmFlush true (hbmFlushEff r 1 f))

/-! Happenings at the controller. -/

/-- Region `n`, line `line` lies in the source of the running Beryl job: its result becomes suspect (R311, R312). -/
def berylSuspect (s : State) (n line : Nat) : State :=
  match s.beryl.run with
  | some j => if overlaps (true, n, line * 64, 64) (srcRange j.desc) then { s with beryl := { s.beryl with run := some { j with suspect := true } } } else s
  | none => s

/-- The world of an internal master's requests (R299). -/
def masterSecure : Master → Bool
  | .beryl | .service => true
  | _ => false

/-- HBM_READ_DELIVER (R301, R310): data goes to the consumer before its tag check, whose failure MEM_LATE_ALARM tells; a
refused request, a poisoned or an undecodable line makes the consumer's read fail. DEDUCED (log entry 33). -/
def execHbmReadDeliver (m : Master) (n line : Nat) (f : MemFault) (s : State) : Host.Outcome State Fault Refusal :=
  let mark := fun (s : State) => if m = .beryl then berylSuspect s n line else s
  done s (if !regionReady s n || !(m = .beryl || worldMay s n (masterSecure m) false) then mark (masterRefused s)
  else
    let g := match f with | .badTag _ => MemFault.good | x => x
    match memRead s n line g with
    | (s, some _) => s
    | (s, none) => mark s)

/-- MEM_LATE_ALARM (R311). DEDUCED (log entry 33). -/
def execMemLateAlarm (region level line : Nat) (s : State) : Host.Outcome State Fault Refusal :=
  done s (if region < 64 ∧ level ≤ 6 ∧ regionReady s region then
    let s1 := lateAlarm s region level line
    match s1.beryl.run with
    | some j =>
      let first := line * 8 ^ level
      if overlaps (true, region, first * 64, 8 ^ level * 64) (srcRange j.desc) then
        { s1 with beryl := { s1.beryl with run := some { j with suspect := true } } }
      else s1
    | none => s1
  else s)

/-- MEM_LAST_READ and MASTER_REFUSED_READ (R320). -/
def execMemLastRead (r : Req) (s : State) : Host.Outcome State Fault Refusal :=
  done s (access s r K.memLast false (fun s => readPlain (rearm s K.memLast) K.memLast))
def execMasterRefusedRead (r : Req) (s : State) : Host.Outcome State Fault Refusal :=
  done s (access s r K.masterRefused false (fun s => readPlain (rearm s K.masterRefused) K.masterRefused))

/-! The shadow compare. -/

/-- A write of SHADOW_CTRL (R136): enabling needs a region that is not secure-only and holds the 8 MiB. -/
def shadowCtrlEff (v : Nat) (s : State) : Res :=
  let v := Nat.land v 0x3F03
  if bit v 0 && (regionWorld s (bits v 13 8) == 2 || decide (regionBytes < rd s K.shadowBase + 8388608)) then abortR s .unsupportedValue
  else okR (wr s K.shadowCtrl v)

/-- Entry `i` of the compare, rules of slice i / 4,096 first, then LPM entries (R137): its live words, and the byte of its
shadow. -/
def shadowLive (s : State) (i : Nat) : List Word :=
  if i < 32768 then liveRule s (i / 4096) (i % 4096) else lpmEntry s (i - 32768)
def shadowByte (s : State) (i : Nat) : Nat :=
  rd s K.shadowBase + (if i < 32768 then i / 4096 * 524288 + i % 4096 * 128 else 4194304 + (i - 32768) * 16)

/-- How SHADOW_LAST names an entry. -/
def shadowName (i : Nat) : Nat := if i < 32768 then i / 4096 * 2 ^ 28 + i % 4096 else 8 * 2 ^ 28 + (i - 32768)

/-- One compare of an entry: none where the shadow read was suspect, else whether they are equal; an entry of bad parity is
not (R135). -/
def shadowEqual (s : State) (i : Nat) (suspect : Bool) : State × Option Bool :=
  let l := shadowLive s i
  let (s, b) := readBytes s (rdField s K.shadowCtrl 13 8) (shadowByte s i) (4 * l.length)
  match b with
  | some b => if suspect then (s, none) else (s, some (b == wordsToBytes l && !(if i < 32768 then parityBad s (i / 4096) (i % 4096) else parityBad s 8 (i - 32768))))
  | none => (s, none)

/-- One entry of a step: `again` says that it differed before. DEDUCED (log entry 33). -/
def shadowOne (suspects : List Nat) (s : State) (i : Nat) (again : Bool) : State :=
  let push := fun (s : State) (m : Bool) => { s with tables := { s.tables with shAgain := s.tables.shAgain ++ [2 * i + b2n m] } }
  match shadowEqual s i (suspects.contains i) with
  | (s, none) => push (inc s K.shadowSuspect 1) again
  | (s, some true) => s
  | (s, some false) =>
    if again then raise (wr (inc s K.shadowMismatch 1) K.shadowLast (shadowName i)) Ev.shadowMismatch (shadowName i) 0
    else push s true

/-- SHADOW_COMPARE_STEP (R137, R138): what the last step left over, then 32 rules or 256 LPM entries; `suspect` the entries
whose shadow read is marked suspect. -/
def execShadowCompareStep (suspect : List Nat) (s : State) : Host.Outcome State Fault Refusal :=
  let n := rdField s K.shadowCtrl 13 8
  done s (if !rdBit s K.shadowCtrl 0 || rdBit s K.shadowCtrl 1 then s
  else bgStep s 2 (fun s =>
    if !regionReady s n || regionWorld s n == 2 then inc (masterRefused s) K.shadowSuspect 1
    else
    let pos := s.tables.shPos
    let left := s.tables.shAgain
    let now := if pos < 1024 then (List.range 32).map (pos * 32 + ·) else (List.range 256).map (32768 + (pos - 1024) * 256 + ·)
    let s1 := { s with tables := { s.tables with shAgain := [], shPos := (pos + 1) % 2048 } }
    let s1 := left.foldl (fun s e => shadowOne suspect s (e / 2) (e % 2 == 1)) s1
    let s1 := now.foldl (fun s i => shadowOne suspect s i false) s1
    if pos = 2047 then inc s1 K.shadowPasses 1 else s1))

end Sys2Proof.Machine
end

