-- ==== Sys2Proof/Machine/Beryl.lean ====
section
/-! DEFINITION. The Beryl lookaside engine (R199–R214): descriptors, queues, jobs, completions, aborts and its part of
ZEROISE. -/

namespace Sys2Proof.Machine

/-- CLEARING: the engine is at its part of a ZEROISE (R213). -/
def berylClearing (s : State) : Bool := rdBit s K.berylStatus 2

/-- Completions the FIFO holds (R211). -/
def berylDoneMax : Nat := 64

/-- BERYL_STATUS (R214). -/
def berylStatusView (s : State) : Nat :=
  let b := s.beryl
  b2n b.run.isSome + 2 * b2n b.susp.isSome + 4 * b2n (berylClearing s) + 8 * b2n (decide (berylDoneMax ≤ b.done.length)) +
    2 ^ 8 * b.urgent.length + 2 ^ 16 * b.normal.length + 2 ^ 24 * b.done.length

/-- BERYL_KEYREG_STATUS (R214). -/
def keyregStatusView (s : State) : Nat := forNat 16 (fun k m => if (tget [] s.beryl.regs k).isEmpty then m else m + 2 ^ k) 0

/-! Descriptors. -/

/-- The bits of each descriptor word that R201 names. -/
def descMask : List Nat :=
  [2 ^ 32 - 1, 0xBF00BF30, 2 ^ 32 - 1, 2 ^ 32 - 1, 0x1FFFFFF, 0x1FFFF, 2 ^ 32 - 1, 2 ^ 32 - 1, 2 ^ 32 - 1, 2 ^ 32 - 1, 0xF1FFFF,
   2 ^ 32 - 1, 2 ^ 32 - 1, 2 ^ 32 - 1, 2 ^ 32 - 1, 2 ^ 32 - 1, 2 ^ 32 - 1, 2 ^ 32 - 1, 2 ^ 32 - 1, 0]

/-- The staged descriptor: zeros until words are written. -/
def descStage (s : State) : List Word :=
  let l := stageOf s Grp.beryl
  if l.isEmpty then List.replicate 20 0 else l

/-- The word BERYL_DESC moves next. DEDUCED (log entry 34). -/
def descNext (s : State) : State := { s with beryl := { s.beryl with ptr := (s.beryl.ptr + 1) % 20 } }

/-- BERYL_DESC_WRITE (R200). DEDUCED (log entry 34). -/
def berylDescEff (r : Req) (v : Nat) (s : State) : Res :=
  claimed s Grp.beryl r (fun s =>
    let p := s.beryl.ptr
    okR (descNext (setStage s Grp.beryl (lset (descStage s) p (Nat.land v (nth descMask p))))))
def execBerylDescWrite (r : Req) (v : Nat) (s : State) : Host.Outcome State Fault Refusal :=
  done s (access s r K.berylDesc true (berylDescEff r (v % 2 ^ 32)))

/-- A read of BERYL_DESC: the staged word, the inline key as 0 (R214). -/
def berylDescRead (s : State) : Res :=
  let p := s.beryl.ptr
  okV (descNext s) [if 11 ≤ p ∧ p ≤ 18 then 0 else nth (descStage s) p]

/-- Fields of a descriptor (R201). -/
def dKeySrc (d : List Word) : Nat := dWord d 0 23 22
def dKeySel (d : List Word) : Nat := dWord d 0 19 16
def dHash (d : List Word) : Sha := hashOf (dWord d 1 5 4)

/-- Bytes KEY_LEN selects. -/
def dKeyLen (d : List Word) : Nat := 16 + 8 * dWord d 0 21 20

/-- An operation on a plain hash, and the operations that enter a key (R202, R274). -/
def opHash (op : Nat) : Bool := decide (0x0A ≤ op) && decide (op ≤ 0x0C)
def opKeyEntry (op : Nat) : Bool := decide (0x14 ≤ op) && decide (op ≤ 0x16)

/-- The tag length an operation takes (R201). DEDUCED (log entry 34). -/
def tagLenOk (d : List Word) : Bool :=
  let t := dTagLen d
  match dOp d with
  | 0x06 | 0x07 => decide (12 ≤ t) && decide (t ≤ 16)
  | 0x08 | 0x09 => decide (8 ≤ t) && decide (t ≤ 16)
  | 0x0D | 0x0E => decide (16 ≤ t) && decide (t ≤ (dHash d).size)
  | _ => t == 0

/-- Operation and source length (R202). DEDUCED (log entry 34). -/
def opLenOk (d : List Word) : Bool :=
  let n := dLen d
  let t := dTagLen d
  let upTo := fun (lo hi : Nat) => decide (lo ≤ n) && decide (n ≤ hi)
  match dOp d with
  | 0x01 | 0x02 | 0x03 | 0x04 => upTo 0 (2 ^ 24) && n % 16 == 0
  | 0x05 => upTo 1 (2 ^ 24)
  | 0x06 | 0x08 | 0x0A | 0x0B | 0x0C | 0x0D => upTo 0 (2 ^ 24)
  | 0x07 | 0x09 | 0x0E => upTo t (2 ^ 24)
  | 0x10 => upTo 16 512 && n % 8 == 0
  | 0x11 => upTo 24 520 && n % 8 == 0
  | 0x12 => upTo 1 512
  | 0x13 => upTo 16 520 && n % 8 == 0
  | 0x14 => n == 56
  | 0x15 => n == 24 || n == 32 || n == 40
  | 0x16 => upTo 1 256
  | _ => false

/-- The descriptor is within R201 to R203. DEDUCED (log entry 34). -/
def descOk (d : List Word) : Bool :=
  opLenOk d && tagLenOk d && dWord d 0 21 20 != 3 && dWord d 1 5 4 != 3 && (!dGcm d || decide (dWord d 5 16 0 ≤ 65536)) &&
  (opHash (dOp d) == (dKeySrc d == 3)) &&
  ((srcRange d).1 || (decide ((srcRange d).2.2.1 + (srcRange d).2.2.2 ≤ 32768) && !overlaps (srcRange d) (dstRange d)))

/-- BERYL_SUBMIT_URGENT and BERYL_SUBMIT_NORMAL (R200, R201, R213, R274). -/
def berylSubmitEff (r : Req) (v : Nat) (s : State) : Res :=
  if v ≠ 1 ∧ v ≠ 2 then abortR s .unsupportedValue
  else claimed s Grp.beryl r (fun s =>
    let d := descStage s
    let full := if v = 1 then decide (8 ≤ s.beryl.urgent.length) else decide (32 ≤ s.beryl.normal.length)
    if !descOk d then abortR s .unsupportedValue
    else if full || berylClearing s || (keyBlock s && opKeyEntry (dOp d)) then abortR s .wrongState
    else
      let b := { s.beryl with ptr := 0 }
      let b := if v = 1 then { b with urgent := b.urgent ++ [d] } else { b with normal := b.normal ++ [d] }
      okR (discard { s with beryl := b } Grp.beryl))
def execBerylSubmitUrgent (r : Req) (s : State) : Host.Outcome State Fault Refusal :=
  done s (access s r K.berylSubmit true (berylSubmitEff r 1))
def execBerylSubmitNormal (r : Req) (s : State) : Host.Outcome State Fault Refusal :=
  done s (access s r K.berylSubmit true (berylSubmitEff r 2))

/-! Bytes of the engine's buffers. -/

/-- `n` bytes of the I/O buffer from byte `off`, a multiple of 16. -/
def ioBytes (s : State) (off n : Nat) : List Byte :=
  ((List.range ((n + 3) / 4)).flatMap (fun i => toBytes 4 (tget 0 s.beryl.io (off / 4 + i)))).take n

/-- Write bytes into the I/O buffer; the bytes of a last word beyond them stay. -/
def ioPut (s : State) (off : Nat) (b : List Byte) : State :=
  let io := forNat ((b.length + 3) / 4) (fun i io =>
    let k := off / 4 + i
    let x := (b.drop (4 * i)).take 4
    tset 0 io k (ofBytes (x ++ (toBytes 4 (tget 0 io k)).drop x.length))) s.beryl.io
  { s with beryl := { s.beryl with io := io } }

/-- `len` source bytes of a job from byte `pos`: none where the controller refuses a read or returns an error (R301, R312). A
refused read counts once: one that HBM_READ_DELIVER told has made the job's result suspect. -/
def berylSrc (s : State) (j : BRun) (pos len : Nat) : State × Option (List Byte) :=
  let (hbm, n, off, _) := srcRange j.desc
  if !hbm then (s, some (ioBytes s (off + pos) len))
  else if len = 0 then (s, some [])
  else if regionReady s n then readBytes s n (off + pos) len
  else (if j.suspect then s else masterRefused s, none)

/-- Write bytes at byte `pos` of a job's destination, `f` the outcome of the merge reads; false where a write is refused or a merge
read fails (R211, R313). -/
def berylPut (s : State) (d : List Word) (pos : Nat) (b : List Byte) (f : MemFault) : State × Bool :=
  let (hbm, n, off, _) := dstRange d
  if !hbm then (ioPut s (off + pos) b, true)
  else if b.isEmpty then (s, true)
  else if regionReady s n then writeBytes s n (off + pos) b f
  else (masterRefused s, false)

/-- Zero a job's whole output area (R209, R212). -/
def berylZero (s : State) (j : BRun) : State :=
  if j.fail = 0 then (berylPut s j.desc 0 (List.replicate (outLen j.desc) 0) .good).1 else s

/-! Completions. -/

/-- Post a completion, or hold it behind a full FIFO (R211); `lock` is the range that stays locked until it is posted (R210). -/
def berylPost (s : State) (d : List Word) (urgent : Bool) (st n : Nat) (lock : Rng) : State :=
  let e := (dWord d 0 7 0 * 2 ^ 24 + b2n urgent * 2 ^ 16 + st, n)
  if berylDoneMax ≤ s.beryl.done.length || !s.beryl.held.isEmpty then
    { s with beryl := { s.beryl with held := s.beryl.held ++ [⟨e, lock⟩] } }
  else
    let s1 := inc { s with beryl := { s.beryl with done := s.beryl.done ++ [e] } } K.berylJobs 1
    if s.beryl.done.isEmpty then raise s1 Ev.berylComplete 0 0 else s1

/-- Source bytes processed by a job that stopped on its way: FREE VALUE, at most its length (log entry 8).
DEDUCED (log entry 34). -/
def berylPartly (s : State) (d : List Word) : Nat := (Config.free 15 (rd s K.berylJobs + s.beryl.held.length)).toNat % (dLen d + 1)

/-- A started job stops: its output area is zeroed and it completes with `st` (R212, R213). -/
def berylStop (s : State) (j : BRun) (st : Nat) : State := berylPost (berylZero s j) j.desc j.urgent st (berylPartly s j.desc) (dstRange j.desc)

/-- A queued job ends with `st`, nothing processed. -/
def berylDrop (s : State) (urgent : Bool) (l : List (List Word)) (st : Nat) : State :=
  l.foldl (fun s d => berylPost s d urgent st 0 (false, 0, 0, 0)) s

/-! Jobs. -/

/-- The key register or KEK a job names is empty (R211, R243, R244). DEDUCED (log entry 34). -/
def berylKeySrc (s : State) (d : List Word) : List Byte :=
  match dKeySrc d with
  | 0 => wordsToBytes ((d.drop 11).take 8)
  | 1 => tget [] s.beryl.regs (dKeySel d)
  | 2 => s.keys.keks.getD (dKeySel d) []
  | _ => []

/-- The status a job's start gives it, 0 for none (R203, R210, R211). -/
def berylStartStatus (s : State) (d : List Word) : Nat :=
  let src := srcRange d
  let dst := dstRange d
  let out := fun (a : Rng) => decide ((if a.1 then regionBytes else 32768) < a.2.2.1 + a.2.2.2)
  if dKeySrc d != 3 && (berylKeySrc s d).isEmpty then 4
  else if out src || (decide (0 < dst.2.2.2) && out dst) || overlaps src dst || berylLocked s src || berylLocked s dst then 5
  else 0

/-- A job leaves its queue and starts. DEDUCED (log entry 34). -/
def berylStart (s : State) (d : List Word) (urgent : Bool) : State :=
  let key := ((berylKeySrc s d) ++ List.replicate 32 0).take (dKeyLen d)
  { s with beryl := { s.beryl with run := some ⟨d, urgent, berylStartStatus s d, false, key, [], 0, false⟩ } }

/-- BERYL_JOB_START (R205, R211, R213). -/
def execBerylJobStart (s : State) : Host.Outcome State Fault Refusal :=
  done s (if s.beryl.run.isSome || decide (berylDoneMax ≤ s.beryl.done.length) || berylClearing s then s
  else match s.beryl.urgent with
  | d :: l => berylStart { s with beryl := { s.beryl with urgent := l } } d true
  | [] =>
    match s.beryl.susp with
    | some j => { s with beryl := { s.beryl with run := some j, susp := none } }
    | none =>
      match s.beryl.normal with
      | d :: l => berylStart { s with beryl := { s.beryl with normal := l } } d false
      | [] => s)

/-- What an operation gives for its source: none where its check fails (R202). -/
def berylCompute (d : List Word) (key src : List Byte) : Option (List Byte) :=
  let iv := wordsToBytes ((d.drop 6).take 4)
  let t := dTagLen d
  let aad := src.take (dAad d)
  let x := src.drop (dAad d)
  let body := x.take (x.length - t)
  let tag := x.drop (x.length - t)
  match dOp d with
  | 0x01 => some (ecbEnc key x)
  | 0x02 => some (ecbDec key x)
  | 0x03 => some (cbcEnc key iv x)
  | 0x04 => some (cbcDec key iv x)
  | 0x05 => some (ctr128 key iv x)
  | 0x06 => let (c, g) := gcmSeal key (iv.take 12) aad x; some (c ++ g.take t)
  | 0x07 => if (gcmTag key (iv.take 12) aad body).take t = tag then some (gcmOpen key (iv.take 12) aad body tag).1 else none
  | 0x08 => some ((cmac key x).take t)
  | 0x09 => if (cmac key body).take t = tag then some [] else none
  | 0x0A => some (sha256 x)
  | 0x0B => some (sha384 x)
  | 0x0C => some (sha512 x)
  | 0x0D => some ((hmac (dHash d) key x).take t)
  | 0x0E => if (hmac (dHash d) key body).take t = tag then some [] else none
  | 0x10 => some (kwWrap key x)
  | 0x11 => kwUnwrap key x
  | 0x12 => some (kwpWrap key x)
  | 0x13 => kwpUnwrap key x
  | 0x14 => (kwpUnwrap key x).bind (fun p => if p.length = 44 then some p else none)
  | 0x15 => kwpUnwrap key x
  | 0x16 => some (kdfCtr (dHash d) key x (dKeyLen d))
  | _ => none

/-- The output that the first source bytes of a job give: nothing where the operation ends in a digest or a tag. -/
def berylStream (d : List Word) (key src : List Byte) : List Byte :=
  let iv := wordsToBytes ((d.drop 6).take 4)
  let x := src.drop (dAad d)
  match dOp d with
  | 0x01 => ecbEnc key x
  | 0x02 => ecbDec key x
  | 0x03 => cbcEnc key iv x
  | 0x04 => cbcDec key iv x
  | 0x05 => ctr128 key iv x
  | 0x06 => gctr key (iv.take 12 ++ [0, 0, 0, 2]) x
  | 0x07 => gctr key (iv.take 12 ++ [0, 0, 0, 2]) (x.take (dLen d - dTagLen d))
  | _ => []

/-- The source position, a multiple of 16 bytes, that a job has reached when it is suspended: FREE VALUE (log entry 8). -/
def berylReached (s : State) (j : BRun) : Nat :=
  let from_ := j.ctx.length / 16
  let last := (dAad j.desc + dLen j.desc) / 16
  16 * (from_ + (Config.free 28 (rd s K.berylPreempts)).toNat % (last - from_ + 1))

/-- A job goes on to source position `pos` and stops there (R205): the context saved stands as the source bytes consumed, of which the
chaining value, the counter, the GHASH accumulator and the hash state are functions; the output they give is in place. -/
def berylAdvance (s : State) (j : BRun) (pos : Nat) : State × BRun :=
  match berylSrc s j j.ctx.length (pos - j.ctx.length) with
  | (s, none) => (s, { j with suspect := true })
  | (s, some b) =>
    let ctx := j.ctx ++ b
    let out := berylStream j.desc j.key ctx
    let (s, ok) := berylPut s j.desc j.put (out.drop j.put) .good
    (s, { j with ctx := ctx, put := out.length, refused := j.refused || !ok })

/-- BERYL_SUSPEND (R205): only operations below 0x10. -/
def execBerylSuspend (s : State) : Host.Outcome State Fault Refusal :=
  done s (match s.beryl.run with
  | some j =>
    if !j.urgent && j.fail == 0 && decide (dOp j.desc < 0x10) && !s.beryl.urgent.isEmpty && !berylClearing s then
      let (s, j) := berylAdvance s j (berylReached s j)
      inc { s with beryl := { s.beryl with run := none, susp := some j } } K.berylPreempts 1
    else s
  | none => s)

/-- The slot a blob was unwrapped for is written whole (R145, R206, R207). -/
def slotUnwrap (s : State) (h : Nat) (p : List Byte) : State :=
  setSlot s h { words := (chunks 11 4 p).map ofBytes, complete := true, unwrapped := true, zeroised := false, fill := none }

/-- Key register `k` is written with a key of 16, 24 or 32 bytes (R204). -/
def setKeyreg (s : State) (k : Nat) (b : List Byte) : State :=
  let n := if b.isEmpty then 0 else if b.length ≤ 16 then 16 else if b.length ≤ 24 then 24 else 32
  { s with beryl := { s.beryl with regs := tset [] s.beryl.regs k ((b ++ List.replicate 32 0).take n) } }

/-- The output of a job that passed, and its status (R206, R211). -/
def berylDeliver (s : State) (j : BRun) (out : List Byte) (f : MemFault) : State × Nat :=
  let d := j.desc
  match dOp d with
  | 0x14 => let h := dWord d 10 16 0; if slotProtected s h then (s, 3) else (slotUnwrap s h out, 1)
  | 0x15 | 0x16 => (setKeyreg s (dWord d 10 23 20) out, 1)
  | _ =>
    match berylPut s d j.put (out.drop j.put) f with
    | (s, true) => if j.refused then (berylZero s j, 7) else (s, 1)
    | (s, false) => (berylZero s j, 7)

/-- The end of the running job (R209–R212), `f` the outcome of the merge reads of its output. DEDUCED (log entry 34). -/
def berylFinish (s : State) (j : BRun) (suspect : Bool) (f : MemFault) : State :=
  let d := j.desc
  let s := { s with beryl := { s.beryl with run := none } }
  if j.fail ≠ 0 then berylPost s d j.urgent j.fail 0 (dstRange d)
  else
    match berylSrc s j j.ctx.length (dAad d + dLen d - j.ctx.length) with
    | (s, none) => berylStop s j 6
    | (s, some rest) =>
      if suspect && (srcRange d).1 then berylStop s j 6
      else match berylCompute d j.key (j.ctx ++ rest) with
      | none => berylPost (raise (inc (berylZero s j) K.berylAuthFails 1) Ev.berylAuthFail 0 0) d j.urgent 2 (dLen d) (dstRange d)
      | some out => let (s, st) := berylDeliver s j out f; berylPost s d j.urgent st (dLen d) (dstRange d)

/-- BERYL_JOB_DONE (R202–R211). -/
def execBerylJobDone (srcSuspect : Bool) (f : MemFault) (s : State) : Host.Outcome State Fault Refusal :=
  done s (match s.beryl.run with
  | some j => if berylClearing s then s else berylFinish s j (srcSuspect || j.suspect) f
  | none => s)

/-- A read of BERYL_DONE (R211): word 1 removes the entry, and a held completion takes its place. -/
def berylDoneRead (s : State) : Res :=
  match s.beryl.done with
  | [] => okV s [0]
  | (a, b) :: l =>
    if s.beryl.word = 0 then okV { s with beryl := { s.beryl with word := 1 } } [a]
    else
      let s := { s with beryl := { s.beryl with word := 0, done := l } }
      match s.beryl.held with
      | [] => okV s [b]
      | e :: t => okV (inc { s with beryl := { s.beryl with done := l ++ [e.words], held := t } } K.berylJobs 1) [b]
def execBerylDoneRead (r : Req) (s : State) : Host.Outcome State Fault Refusal :=
  done s (access s r K.berylDone false berylDoneRead)

/-! Aborts. -/

/-- The running job and the suspended job stop with `st` where `p` holds of them (R212). -/
def berylStopRun (s : State) (p : BRun → Bool) (st : Nat) : State :=
  let s := match s.beryl.run with
    | some j => if p j then berylStop { s with beryl := { s.beryl with run := none } } j st else s
    | none => s
  match s.beryl.susp with
  | some j => if p j then berylStop { s with beryl := { s.beryl with susp := none } } j st else s
  | none => s

/-- Every job ends with `st`, in the order of R212. -/
def berylStopAll (s : State) (st : Nat) : State :=
  let u := s.beryl.urgent
  let n := s.beryl.normal
  let s := berylStopRun { s with beryl := { s.beryl with urgent := [], normal := [] } } (fun _ => true) st
  berylDrop (berylDrop s true u st) false n st

/-- BERYL_ABORT (R212); while CLEARING the jobs end as R213 says. DEDUCED (log entry 34). -/
def berylAbortEff (v : Nat) (s : State) : Res :=
  if v = 0 ∨ 3 < v then abortR s .unsupportedValue
  else if berylClearing s then okR s
  else if v = 1 then okR (berylStopRun s (fun j => !j.urgent) 8)
  else if v = 2 then okR (berylStopRun s (fun j => j.urgent) 8)
  else okR (berylStopAll s 8)
def execBerylAbortNormal (r : Req) (s : State) : Host.Outcome State Fault Refusal :=
  done s (access s r K.berylAbort true (berylAbortEff 1))
def execBerylAbortUrgent (r : Req) (s : State) : Host.Outcome State Fault Refusal :=
  done s (access s r K.berylAbort true (berylAbortEff 2))
def execBerylAbortAll (r : Req) (s : State) : Host.Outcome State Fault Refusal :=
  done s (access s r K.berylAbort true (berylAbortEff 3))

/-! Key registers and the I/O buffer. -/

/-- BERYL_KEYREG_CLEAR (R204, R214). -/
def berylKeyregClearEff (v : Nat) (s : State) : Res :=
  okR { s with beryl := { s.beryl with regs := tkeep (fun k => !bit v k) s.beryl.regs } }
def execBerylKeyregClear (r : Req) (v : Nat) (s : State) : Host.Outcome State Fault Refusal :=
  done s (access s r K.berylKeyregClear true (berylKeyregClearEff (v % 2 ^ 16)))

/-- The word BERYL_IO_DATA moves, refused in a locked range (R210). -/
def berylIoAt (s : State) (f : Nat → State → Res) : Res :=
  let a := rd s K.berylIoAddr % 8192
  if berylLocked s (false, 0, 4 * a, 4) then abortR s .wrongState
  else f a (wr s K.berylIoAddr ((a + 1) % 8192))
def berylIoRead (s : State) : Res := berylIoAt s (fun a s => okV s [tget 0 s.beryl.io a])
def berylIoEff (v : Nat) (s : State) : Res :=
  berylIoAt s (fun a s => okR { s with beryl := { s.beryl with io := tset 0 s.beryl.io a v } })
def execBerylIoDataAccess (r : Req) (a : Acc) (s : State) : Host.Outcome State Fault Refusal :=
  done s (match a with
  | .read => access s r K.berylIoData false berylIoRead
  | .write v => access s r K.berylIoData true (berylIoEff (v % 2 ^ 32)))

/-! ZEROISE. -/

/-- A descriptor without its inline key. -/
def descNoKey (d : List Word) : List Word := d.take 11 ++ List.replicate 8 0 ++ d.drop 19

/-- What ZEROISE clears at once (R213). -/
def berylZeroise (s : State) : State :=
  let b := s.beryl
  let off := fun (j : BRun) => { j with desc := descNoKey j.desc, key := [], ctx := [], put := 0 }
  wrBit { s with beryl := { b with regs := [], run := b.run.map off, susp := b.susp.map off,
                                   urgent := b.urgent.map descNoKey, normal := b.normal.map descNoKey } } K.berylStatus 2 true

/-- The rest of it: the output areas, the I/O buffer, and every job ZEROISED (R213). -/
def berylCleared (s : State) : State :=
  if berylClearing s then
    let s := berylStopAll (wrBit s K.berylStatus 2 false) 9
    { s with beryl := { s.beryl with io := [] } }
  else s

/-- BERYL_CLEAR_DONE (R213). -/
def execBerylClearDone (s : State) : Host.Outcome State Fault Refusal := done s (berylCleared s)

end Sys2Proof.Machine
end

