-- ==== Sys2Proof/Machine/Ecc.lean ====
section
/-! DEFINITION. The arithmetic the standards of R220 and R222 define: modular powers and inverses, short Weierstrass
curves, ECDSA (FIPS 186-5), X25519 (RFC 7748), the RSA primitives (RFC 8017), Miller–Rabin. -/

namespace Sys2Proof.Machine

/-- Bits of a number. -/
def bitLen (n : Nat) : Nat := if n = 0 then 0 else n.log2 + 1

/-- `b^e mod m` over the `n` low bits of `e`, most significant first. -/
def powBits (b e m : Nat) : Nat → Nat → Nat
  | 0, acc => acc
  | n + 1, acc => powBits b e m n (let a := acc * acc % m; if bit e n then a * b % m else a)
def powMod (b e m : Nat) : Nat := powBits (b % m) e m (bitLen e) (1 % m)

/-- Subtraction mod `p`, and the inverse mod a prime. -/
def subMod (p a b : Nat) : Nat := (a + p - b % p) % p
def invPrime (p a : Nat) : Nat := powMod a (p - 2) p

/-- Extended Euclid: the gcd and a coefficient of `a`. -/
def egcd : Nat → Int → Int → Int → Int → Int × Int
  | 0, a, _, x, _ => (a, x)
  | n + 1, a, b, x, y => if b = 0 then (a, x) else egcd n b (a % b) y (x - a / b * y)

/-- The inverse of `a` mod `m`, none where there is none. -/
def invMod (m a : Nat) : Option Nat :=
  let (g, x) := egcd (2 * bitLen m + 2) a m 1 0
  if g = 1 then some (x % (m : Int)).toNat else none

/-! Curves y² = x³ + ax + b of prime order (R220, R222). -/

/-- A point; none is the point at infinity. -/
abbrev Pt := Option (Nat × Nat)

def ptAdd (c : JCurve) : Pt → Pt → Pt
  | none, q => q
  | p, none => p
  | some (x1, y1), some (x2, y2) =>
    if x1 = x2 ∧ (y1 + y2) % c.p = 0 then none
    else
      let l := if x1 = x2 then (3 * x1 * x1 + c.a) * invPrime c.p (2 * y1 % c.p) % c.p
        else subMod c.p y2 y1 * invPrime c.p (subMod c.p x2 x1) % c.p
      let x3 := subMod c.p (subMod c.p (l * l) x1) x2
      some (x3, subMod c.p (l * subMod c.p x1 x3) y1)

/-- `k · q` over the `n` low bits of `k`. -/
def ptMulBits (c : JCurve) (k : Nat) (q : Pt) : Nat → Pt → Pt
  | 0, acc => acc
  | n + 1, acc => ptMulBits c k q n (let d := ptAdd c acc acc; if bit k n then ptAdd c d q else d)
def ptMul (c : JCurve) (k : Nat) (q : Pt) : Pt := ptMulBits c k q (bitLen k) none

/-- A point satisfies the curve equation. -/
def onCurve (c : JCurve) (x y : Nat) : Bool := y * y % c.p == (x * x * x + c.a * x + c.b) % c.p

def curveG (c : JCurve) : Pt := some (c.gx, c.gy)

/-- The built-in curves of R219. -/
def p256 : JCurve :=
  let p := 2 ^ 256 - 2 ^ 224 + 2 ^ 192 + 2 ^ 96 - 1
  { len := 256, p := p, a := p - 3,
    b := 0x5AC635D8AA3A93E7B3EBBD55769886BC651D06B0CC53B0F63BCE3C3E27D2604B,
    gx := 0x6B17D1F2E12C4247F8BCE6E563A440F277037D812DEB33A0F4A13945D898C296,
    gy := 0x4FE342E2FE1A7F9B8EE7EB4A7C0F9E162BCE33576B315ECECBB6406837BF51F5,
    n := 0xFFFFFFFF00000000FFFFFFFFFFFFFFFFBCE6FAADA7179E84F3B9CAC2FC632551 }
def p384 : JCurve :=
  let p := 2 ^ 384 - 2 ^ 128 - 2 ^ 96 + 2 ^ 32 - 1
  { len := 384, p := p, a := p - 3,
    b := 0xB3312FA7E23EE7E4988E056BE3F82D19181D9C6EFE8141120314088F5013875AC656398D8A2ED19D2A85C8EDD3EC2AEF,
    gx := 0xAA87CA22BE8B05378EB1C71EF320AD746E1D3B628BA79B9859F741E082542A385502F25DBF55296C3A545E3872760AB7,
    gy := 0x3617DE4A96262C6F5D9E98BF9292DC29F8F41DBD289A147CE9DA3113B5F0B8C00A60B1CE1D7E819D7A431D7C90EA0E5F,
    n := 0xFFFFFFFFFFFFFFFFFFFFFFFFFFFFFFFFFFFFFFFFFFFFFFFFC7634D81F4372DDF581A0DB248B0A77AECEC196ACCC52973 }
def p521 : JCurve :=
  let p := 2 ^ 521 - 1
  { len := 521, p := p, a := p - 3,
    b := 0x0051953EB9618E1C9A1F929A21A0B68540EEA2DA725B99B315F3B8B489918EF109E156193951EC7E937B1652C0BD3BB1BF073573DF883D2C34F1EF451FD46B503F00,
    gx := 0x00C6858E06B70404E9CD9E3ECB662395B4429C648139053FB521F828AF606B4D3DBAA14B5E77EFE75928FE1DC127A2FFA8DE3348B3C1856A429BF97E7E31C2E5BD66,
    gy := 0x011839296A789A3BC0045C8A5FB42C7D1BD998F54449579B446817AFBD17273E662C97EE72995EF42640C550B9013FAD0761353C7086A272C24088BE94769FD16650,
    n := 2 ^ 521 - 2 ^ 260 + 0xA51868783BF2F966B7FCC0148F709A5D03BB5C9B8899C47AEBB6FB71E91386409 }

/-- The number a hash gives: its leftmost bits, as many as n has (FIPS 186-5). -/
def hashNum (c : JCurve) (h : List Byte) : Nat := ofBytes h / 2 ^ (8 * h.length - bitLen c.n)

/-- ECDSA with nonce `k`: r and s. -/
def ecdsaSign (c : JCurve) (d e k : Nat) : Nat × Nat :=
  match ptMul c k (curveG c) with
  | none => (0, 0)
  | some (x, _) =>
    let r := x % c.n
    (r, invPrime c.n k * (e + r * d) % c.n)

/-- ECDSA verification with r and s in range. -/
def ecdsaOk (c : JCurve) (q : Pt) (e r s : Nat) : Bool :=
  let w := invPrime c.n s
  match ptAdd c (ptMul c (e * w % c.n) (curveG c)) (ptMul c (r * w % c.n) q) with
  | none => false
  | some (x, _) => x % c.n == r

/-- An ECDSA signature over a hash by a public key, as the service controller checks one. -/
def ecdsaVerify (c : JCurve) (qx qy : Nat) (h : List Byte) (r s : Nat) : Bool :=
  decide (qx < c.p) && decide (qy < c.p) && !(qx == 0 && qy == 0) && onCurve c qx qy &&
  decide (0 < r) && decide (r < c.n) && decide (0 < s) && decide (s < c.n) && ecdsaOk c (some (qx, qy)) (hashNum c h) r s

/-! X25519 (RFC 7748); byte strings are little-endian. -/

def p25519 : Nat := 2 ^ 255 - 19

/-- The value of a little-endian string, and `n` bytes of a value. -/
def ofLe (b : List Byte) : Nat := ofBytes b.reverse
def toLe (n v : Nat) : List Byte := (toBytes n v).reverse

/-- A clamped scalar. -/
def clampScalar (k : List Byte) : Nat := ofLe k / 8 % 2 ^ 251 * 8 + 2 ^ 254

/-- The Montgomery ladder over the `n` low bits. -/
def ladder (k x1 : Nat) : Nat → (Nat × Nat × Nat × Nat) → (Nat × Nat × Nat × Nat)
  | 0, s => s
  | n + 1, (x2, z2, x3, z3) =>
    let p := p25519
    let sw := bit k n
    let (x2, x3) := if sw then (x3, x2) else (x2, x3)
    let (z2, z3) := if sw then (z3, z2) else (z2, z3)
    let a := (x2 + z2) % p
    let b := subMod p x2 z2
    let aa := a * a % p
    let bb := b * b % p
    let e := subMod p aa bb
    let da := subMod p x3 z3 * a % p
    let cb := (x3 + z3) % p * b % p
    let x3 := (da + cb) * (da + cb) % p
    let z3 := x1 * (subMod p da cb * subMod p da cb % p) % p
    let x2 := aa * bb % p
    let z2 := e * ((aa + 121665 * e) % p) % p
    if sw then ladder k x1 n (x3, z3, x2, z2) else ladder k x1 n (x2, z2, x3, z3)

/-- X25519 of a scalar string and a u coordinate below the prime. -/
def x25519 (k : List Byte) (u : Nat) : Nat :=
  let (x2, z2, _, _) := ladder (clampScalar k) u 255 (1, 0, u, 1)
  x2 * invPrime p25519 z2 % p25519

/-! Miller–Rabin. -/

/-- `m` without its factors of two, and how many there are. -/
def oddPart : Nat → Nat → Nat → Nat × Nat
  | 0, m, k => (m, k)
  | n + 1, m, k => if m ≠ 0 ∧ m % 2 = 0 then oddPart n (m / 2) (k + 1) else (m, k)

/-- One round with base `a`. -/
def mrRound (m a : Nat) : Bool :=
  let (d, k) := oddPart (bitLen m) (m - 1) 0
  let x := powMod a d m
  x == 1 || (List.range k).any (fun i => powMod x (2 ^ i) m == m - 1)

/-- A number passes its rounds with bases made from draws. -/
def mrPass (m : Nat) (bases : List Nat) : Bool :=
  if m < 4 then decide (2 ≤ m) else decide (m % 2 = 1) && bases.all (fun b => mrRound m (2 + b % (m - 3)))

end Sys2Proof.Machine
end

