-- ==== Sys2Proof/Machine/Jasper.lean ====
section
/-! DEFINITION. The Jasper public-key engine (R215–R232): partitions, operations, jobs, aborts and its part of ZEROISE. -/

namespace Sys2Proof.Machine

/-- A free partition. -/
def jpart0 : JPart := ⟨none, [], none, 0, 32, 0, false, false, false, false, 0, 0, 0⟩
def jpart (s : State) (p : Nat) : JPart := tget jpart0 s.jasper.parts p
def setJpart (s : State) (p : Nat) (x : JPart) : State :=
  { s with jasper := { s.jasper with parts := tset jpart0 s.jasper.parts p x } }

/-- The partition of the caller's session (R216); the debug port has no session. -/
def jMine (s : State) (r : Req) : Option Nat :=
  if 4 ≤ r.ch then none else [1, 2, 3].find? (fun p => (jpart s p).owner == some r.ch)

/-- An access to the caller's partition: refused until the caller holds one (R216). -/
def jOwn (r : Req) (s : State) (f : Nat → Res) : Res :=
  match jMine s r with
  | some p => f p
  | none => abortR s .wrongState

/-- JASPER_STATUS (R232). DEDUCED (log entry 35). -/
def jasperStatusView (s : State) : Nat :=
  let owned := fun (p : Nat) => if p = 0 then s.boot.fw else (jpart s p).owner.isSome
  b2n s.jasper.run.isSome + 4 * s.jasper.run.getD 0 +
    forNat 4 (fun p m => m + b2n (owned p) * 2 ^ (4 + p) + b2n (s.jasper.queue.contains p) * 2 ^ (8 + p)) 0 +
    b2n ([1, 2, 3].any (fun p => (jpart s p).zeroing)) * 2 ^ 12

/-- JASPER_RESULT of a partition (R232). -/
def jResult (x : JPart) : Nat :=
  b2n x.fin * 2 ^ 31 + b2n x.job * 2 ^ 30 + b2n x.wiped * 2 ^ 29 + x.op * 2 ^ 16 + x.detail * 2 ^ 8 + x.status

/-! Completions. -/

/-- A completion is posted (R232). DEDUCED (log entry 35). -/
def jPost (s : State) (p : Nat) : State := raise (inc s K.jasperJobs 1) Ev.jasperComplete p 0

/-- The job of partition `p` leaves the engine. -/
def jLeave (s : State) (p : Nat) : State :=
  let j := s.jasper
  { s with jasper := { j with queue := j.queue.filter (· != p), run := if j.run = some p then none else j.run } }

/-- The job of partition `p` completes with a status (R225). -/
def jComplete (s : State) (p detail status : Nat) : State :=
  let x := jpart s p
  jPost (setJpart (jLeave s p) p { x with job := false, fin := true, op := bits x.cmd 31 24, detail := detail, status := status }) p

/-! The service controller's jobs in partition 0 (R215, R224, R254). DEDUCED (log entry 65). -/

/-- A number for each request the service controller can have under way. -/
def SvcKind.tag : SvcKind → Nat
  | .challenge _ _ => 0
  | .check => 1
  | .firmware => 2
  | .update => 3
  | .reply c => 4 + 2 * c
  | .proof c => 5 + 2 * c

/-- The request needs a key that ZEROISE clears: DEVID signs it (R241, R254). -/
def SvcKind.needsKey : SvcKind → Bool
  | .challenge _ _ | .reply _ => true
  | .check | .proof _ | .firmware | .update => false

/-- A job of partition 0 waits or runs; some job of the request `k` is still to complete. -/
def svcIn (s : State) : Bool := s.jasper.run == some 0 || s.jasper.queue.contains 0
def svcBusy (s : State) (k : SvcKind) : Bool := s.jasper.svc.any (fun j => j.kind.tag == k.tag)

def setSvc (s : State) (l : List SvcReq) : State := { s with jasper := { s.jasper with svc := l } }

/-- The oldest request's next job takes partition 0 when that is free (R224). -/
def svcEnter (s : State) : State :=
  if svcIn s || s.jasper.svc.isEmpty then s else { s with jasper := { s.jasper with queue := s.jasper.queue ++ [0] } }

/-- A request `k` is given up: nothing of it waits, and a job of it in the engine is its last. -/
def svcDrop (s : State) (k : SvcKind) : State :=
  let n := b2n (svcIn s)
  let head := (s.jasper.svc.take n).map (fun j => if j.kind.tag = k.tag then ⟨j.kind, 1⟩ else j)
  setSvc s (head ++ (s.jasper.svc.drop n).filter (fun j => j.kind.tag != k.tag))

/-- A request `k` of `n` jobs; one made again starts over. -/
def svcIssue (s : State) (k : SvcKind) (n : Nat) : State :=
  let s := svcDrop s k
  if n = 0 then s
  else match s.jasper.svc with
    | j :: l => if j.kind.tag = k.tag then setSvc s (⟨k, n + 1⟩ :: l) else svcEnter (setSvc s (s.jasper.svc ++ [⟨k, n⟩]))
    | [] => svcEnter (setSvc s [⟨k, n⟩])

/-- ZEROISE meets the job in partition 0 (R230, R254): it completes; it is issued again, or the request fails. -/
def svcZeroised (s : State) : State :=
  let l := match s.jasper.svc with
    | j :: t => if j.kind.needsKey then t else j :: t
    | [] => []
  svcEnter (setSvc (jPost (jLeave s 0) 0) l)

/-! Claim, release, abort. -/

/-- A write of JASPER_CLAIM (R216, R217). -/
def jRelease (s : State) (p : Nat) : State := setJpart (jLeave s p) p { jpart0 with zeroing := true }

/-- The partition of a session that ends is released (R217). -/
def jReleaseChan (s : State) (ch : Nat) : State :=
  match jMine s ⟨ch, true, 0⟩ with
  | some p => jRelease s p
  | none => s

def jasperClaimEff (r : Req) (v : Nat) (s : State) : Res :=
  if 1 < v then abortR s .unsupportedValue
  else match jMine s r with
  | some p => okR (if v = 0 then jRelease s p else s)
  | none =>
    if v = 0 then okR s
    else if 4 ≤ r.ch then abortR s .wrongState
    else match [1, 2, 3].find? (fun p => (jpart s p).owner.isNone && !(jpart s p).zeroing) with
      | some p => okR (setJpart s p { jpart s p with owner := some r.ch })
      | none => abortR s .wrongState
def execJasperClaim (r : Req) (s : State) : Host.Outcome State Fault Refusal :=
  done s (access s r K.jasperClaim true (jasperClaimEff r 1))
def execJasperRelease (r : Req) (s : State) : Host.Outcome State Fault Refusal :=
  done s (access s r K.jasperClaim true (jasperClaimEff r 0))

/-- JASPER_ZEROING_DONE (R217). -/
def execJasperZeroingDone (p : Nat) (s : State) : Host.Outcome State Fault Refusal :=
  done s (if (jpart s p).zeroing then setJpart s p { jpart s p with zeroing := false } else s)

/-- JASPER_ABORT (R229). -/
def jasperAbortEff (r : Req) (v : Nat) (s : State) : Res :=
  if v ≠ 1 then abortR s .unsupportedValue
  else jOwn r s (fun p =>
    if (jpart s p).job then okR (jComplete (setJpart s p { jpart s p with mem := [], curve := none, wiped := true }) p 0 12)
    else okR s)
def execJasperAbort (r : Req) (s : State) : Host.Outcome State Fault Refusal :=
  done s (access s r K.jasperAbort true (jasperAbortEff r 1))

/-! The window and the plain members. -/

/-- The word JASPER_DATA moves (R218). -/
def jDataAt (r : Req) (s : State) (f : Nat → JPart → State × List Word) : Res :=
  jOwn r s (fun p => let x := jpart s p
    if x.job then abortR s .wrongState
    else let (s, l) := f p { x with addr := (x.addr + 1) % 1024 }; okV s l)
def jasperDataRead (r : Req) (s : State) : Res :=
  jDataAt r s (fun p y => (setJpart s p y, [tget 0 y.mem (jpart s p).addr]))
def jasperDataEff (r : Req) (v : Nat) (s : State) : Res :=
  jDataAt r s (fun p y => (setJpart s p { y with mem := tset 0 y.mem (jpart s p).addr v }, []))
def execJasperDataAccess (r : Req) (a : Acc) (s : State) : Host.Outcome State Fault Refusal :=
  done s (match a with
  | .read => access s r K.jasperData false (jasperDataRead r)
  | .write v => access s r K.jasperData true (jasperDataEff r (v % 2 ^ 32)))

/-- Writes of JASPER_ADDR and JASPER_HLEN, and reads of the caller's members (R216, R218, R232). -/
def jasperAddrEff (r : Req) (v : Nat) (s : State) : Res :=
  jOwn r s (fun p => if (jpart s p).job then abortR s .wrongState else okR (setJpart s p { jpart s p with addr := v % 1024 }))
def jasperHlenEff (r : Req) (v : Nat) (s : State) : Res :=
  jOwn r s (fun p => if v < 20 ∨ 64 < v then abortR s .unsupportedValue else okR (setJpart s p { jpart s p with hlen := v }))
def jasperClaimRead (r : Req) (s : State) : Res := okV s [(jMine s r).getD 0]
def jasperMemberRead (r : Req) (f : JPart → Nat) (s : State) : Res := jOwn r s (fun p => okV s [f (jpart s p)])

/-- A read of JASPER_ABORT: 0, for a caller with a partition (R216, R232). -/
def jasperAbortRead (r : Req) (s : State) : Res := jasperMemberRead r (fun _ => 0) s

/-- JASPER_RESULT_READ: the read clears WIPED (R232). -/
def jasperResultRead (r : Req) (s : State) : Res :=
  jOwn r s (fun p => okV (setJpart s p { jpart s p with wiped := false }) [jResult (jpart s p)])
def execJasperResultRead (r : Req) (s : State) : Host.Outcome State Fault Refusal :=
  done s (access s r K.jasperResult false (jasperResultRead r))

/-! Commands (R219, R220). -/

/-- Operations by their codes. -/
def opEc (op : Nat) : Bool := decide (1 ≤ op) && decide (op ≤ 5)
def opX (op : Nat) : Bool := op == 8 || op == 9
def opRsa (op : Nat) : Bool := op == 0x10 || op == 0x11

/-- OP, CURVE and LEN of a command are within R219. DEDUCED (log entry 35). -/
def jCmdOk (v : Nat) : Bool :=
  let op := bits v 31 24
  let curve := bits v 23 20
  let len := bits v 12 0
  if opEc op then decide (curve ≤ 2) || curve == 4
  else if opX op then curve == 3
  else if opRsa op then decide (1024 ≤ len) && decide (len ≤ 4096) && len % 64 == 0
  else if op = 0x18 then decide (64 ≤ len) && decide (len ≤ 4096) && len % 64 == 0
  else op == 0x20 && decide (192 ≤ len) && decide (len ≤ 521)

/-- A write of JASPER_CMD (R219, R224). -/
def jasperCmdEff (r : Req) (v : Nat) (s : State) : Res :=
  jOwn r s (fun p =>
    if !jCmdOk v then abortR s .unsupportedValue
    else if (jpart s p).job then abortR s .wrongState
    else
      let s := setJpart s p { jpart s p with cmd := Nat.land v 0xFFF01FFF, job := true, fin := false }
      okR { s with jasper := { s.jasper with queue := s.jasper.queue ++ [p] } })

/-- A command of operation `op`: JASPER_CMD written with `op` in OP. -/
def jasperCmd (r : Req) (op v : Nat) (s : State) : Host.Outcome State Fault Refusal :=
  done s (access s r K.jasperCmd true (jasperCmdEff r (setBits (v % 2 ^ 32) 31 24 op)))

def execEcdsaSign (r : Req) (v : Nat) (s : State) : Host.Outcome State Fault Refusal := jasperCmd r 1 v s
def execEcdsaVerify (r : Req) (v : Nat) (s : State) : Host.Outcome State Fault Refusal := jasperCmd r 2 v s
def execEcKeygen (r : Req) (v : Nat) (s : State) : Host.Outcome State Fault Refusal := jasperCmd r 3 v s
def execEcdh (r : Req) (v : Nat) (s : State) : Host.Outcome State Fault Refusal := jasperCmd r 4 v s
def execEcValidate (r : Req) (v : Nat) (s : State) : Host.Outcome State Fault Refusal := jasperCmd r 5 v s
def execX25519 (r : Req) (v : Nat) (s : State) : Host.Outcome State Fault Refusal := jasperCmd r 8 v s
def execX25519Keygen (r : Req) (v : Nat) (s : State) : Host.Outcome State Fault Refusal := jasperCmd r 9 v s
def execRsaPublic (r : Req) (v : Nat) (s : State) : Host.Outcome State Fault Refusal := jasperCmd r 0x10 v s
def execRsaPrivate (r : Req) (v : Nat) (s : State) : Host.Outcome State Fault Refusal := jasperCmd r 0x11 v s
def execModInv (r : Req) (v : Nat) (s : State) : Host.Outcome State Fault Refusal := jasperCmd r 0x18 v s
def execCurveLoad (r : Req) (v : Nat) (s : State) : Host.Outcome State Fault Refusal := jasperCmd r 0x20 v s

/-- JASPER_JOB_START (R222, R224): a CURVE_LOAD clears the curve register when it starts. -/
def execJasperJobStart (s : State) : Host.Outcome State Fault Refusal :=
  done s (match s.jasper.run, s.jasper.queue with
  | none, p :: l =>
    let x := jpart s p
    let s := if p = 0 then s else setJpart s p { x with curve := if bits x.cmd 31 24 = 0x20 then none else x.curve }
    { s with jasper := { s.jasper with queue := l, run := some p } }
  | _, _ => s)

/-! Operands (R218). -/

/-- Bytes of slot `k`, from byte `o`. -/
def jIn (x : JPart) (k o n : Nat) : List Byte :=
  ((List.range ((n + 3) / 4)).flatMap (fun i => toBytes 4 (tget 0 x.mem (128 * k + o / 4 + i)))).take n
def jNum (x : JPart) (k n : Nat) : Nat := ofBytes (jIn x k 0 n)

/-- Slot `k` holds bytes, and zeros beyond them. -/
def jOut (x : JPart) (k : Nat) (b : List Byte) : JPart :=
  let ws := bytesToWords 128 b
  { x with mem := forNat 128 (fun i m => tset 0 m (128 * k + i) (nth ws i)) x.mem }

/-- Output slots of an operation. -/
def jOuts (op : Nat) : List Nat :=
  match op with
  | 0x01 => [2, 3]
  | 0x03 => [0, 4, 5]
  | 0x04 | 0x08 => [6]
  | 0x09 => [0, 6]
  | 0x10 | 0x11 => [3]
  | 0x18 => [2]
  | _ => []

/-- What an operation ends in: a detail, a status, and outputs by slot. -/
abbrev JEnd := Nat × Nat × List (Nat × List Byte)
def jFail (status : Nat) : JEnd := (0, status, [])
def jDone (l : List (Nat × List Byte)) : JEnd := (0, 1, l)

/-- The first condition that holds gives the status (R226). -/
def jFirst : List (Bool × Nat) → JEnd → JEnd
  | [], e => e
  | (b, st) :: l, e => if b then jFail st else jFirst l e

/-- A scalar by the TRNG (R221). -/
def drawScalar (s : State) (n : Nat) : Nat × State :=
  let k := bitLen n + 64
  let (b, s) := draw s ((k + 7) / 8)
  (ofBytes b % 2 ^ k % (n - 1) + 1, s)

/-- The curve a command names. -/
def jCurve (x : JPart) : Option JCurve :=
  match bits x.cmd 23 20 with
  | 0 => some p256
  | 1 => some p384
  | 2 => some p521
  | 4 => x.curve
  | _ => none

/-- ECDSA signing (R223): a nonce that gives a zero is drawn again. None: `n` draws gave zeros, and the signing goes on. -/
def jSign (c : JCurve) (d e : Nat) : Nat → State → Option (Nat × Nat) × State
  | 0, s => (none, s)
  | n + 1, s =>
    let (k, s) := drawScalar s c.n
    let (r, t) := ecdsaSign c d e k
    if r = 0 ∨ t = 0 then jSign c d e n (inc s K.jasperRedraws 1) else (some (r, t), s)

/-- Draws that one JASPER_JOB_DONE covers; a signing that needs more stays in the engine (log entry 5). -/
def signDraws : Nat := 128

/-- A P-256 signature by a key of the key tree over a SHA-256 value. -/
def signBy (s : State) (d : Nat) (h : List Byte) : Option (List Byte) × State :=
  match jSign p256 d (hashNum p256 h) signDraws s with
  | (some (r, t), s) => (some (toBytes 32 r ++ toBytes 32 t), s)
  | (none, s) => (none, s)

/-- The elliptic-curve operations (R220, R225–R227). None: a signing that draws on (R223). -/
def jEc (s : State) (x : JPart) (op : Nat) (c : JCurve) : State × Option JEnd :=
  let l := (c.len + 7) / 8
  let o := fun (k v : Nat) => (k, toBytes l v)
  let d := jNum x 0 l
  let e := hashNum c (jIn x 1 0 x.hlen)
  let qx := jNum x 4 l
  let qy := jNum x 5 l
  let badD := d == 0 || decide (c.n ≤ d)
  let point := [(decide (c.p ≤ qx) || decide (c.p ≤ qy), 4), (qx == 0 && qy == 0, 6), (!onCurve c qx qy, 5)]
  match op with
  | 0x01 =>
    if badD then (s, some (jFail 3))
    else match jSign c d e signDraws s with
      | (some (r, t), s) => (s, some (jDone [o 2 r, o 3 t]))
      | (none, s) => (s, none)
  | 0x02 =>
    let r := jNum x 2 l
    let t := jNum x 3 l
    let bad := r == 0 || decide (c.n ≤ r) || t == 0 || decide (c.n ≤ t)
    (s, some (jFirst (point ++ [(bad, 3), (!ecdsaOk c (some (qx, qy)) e r t, 2)]) (jDone [])))
  | 0x03 =>
    let (d, s) := drawScalar s c.n
    match ptMul c d (curveG c) with
    | some (x, y) => (s, some (jDone [o 0 d, o 4 x, o 5 y]))
    | none => (s, some (jDone [o 0 d, o 4 0, o 5 0]))
  | 0x04 =>
    (s, some (jFirst (point ++ [(badD, 3)]) (jDone [o 6 (match ptMul c d (some (qx, qy)) with | some (x, _) => x | none => 0)])))
  | _ => (s, some (jFirst point (jDone [])))

/-- X25519 (R220, R228): the scalar of a key generation is 32 bytes drawn. DEDUCED (log entry 35). -/
def jX (s : State) (x : JPart) (op : Nat) : State × JEnd :=
  if op = 8 then
    let u := ofLe (jIn x 4 0 32) % 2 ^ 255
    let z := x25519 (jIn x 0 0 32) u
    (s, jFirst [(decide (p25519 ≤ u), 4), (z == 0, 8)] (jDone [(6, toLe 32 z)]))
  else
    let (k, s) := draw s 32
    (s, jDone [(0, k), (6, toLe 32 (x25519 k 9))])

/-- RSA (R220, R221, R225): the private operation by its CRT parts, its result checked by the public one. -/
def jRsa (s : State) (x : JPart) (op len : Nat) (selfCheckOk : Bool) : State × JEnd :=
  let l := len / 8
  let h := len / 16
  let n := jNum x 0 l
  let e := ofBytes (jIn x 1 0 4)
  let m := jNum x 2 l
  let bad := decide (n ≤ m) || n % 2 == 0 || decide (n < 2 ^ (len - 1)) || e % 2 == 0 || decide (e < 3)
  if bad then (s, jFail 4)
  else if op = 0x10 then (s, jDone [(3, toBytes l (powMod m e n))])
  else
    let p := ofBytes (jIn x 4 0 h)
    let q := ofBytes (jIn x 4 256 h)
    let m1 := powMod m (ofBytes (jIn x 5 0 h)) p
    let m2 := powMod m (ofBytes (jIn x 5 256 h)) q
    let r := (m2 + ofBytes (jIn x 6 0 h) * subMod p m1 m2 % p * q) % n
    if selfCheckOk && powMod r e n == m then (s, jDone [(3, toBytes l r)])
    else (raise (inc s K.jasperFaults 1) Ev.jasperFault (s.jasper.run.getD 0) 0, jFail 11)

/-- MOD_INV (R220, R225). -/
def jModInv (x : JPart) (len : Nat) : JEnd :=
  let l := len / 8
  let m := jNum x 0 l
  let a := jNum x 1 l
  match invMod m a with
  | some v => jFirst [(decide (m ≤ a) || m % 2 == 0 || decide (m < 3), 4), (a == 0, 7)] (jDone [(2, toBytes l v)])
  | none => jFirst [(decide (m ≤ a) || m % 2 == 0 || decide (m < 3), 4)] (jFail 7)

/-- Bases of 40 rounds of Miller–Rabin (R222). DEDUCED (log entry 35). -/
def drawBases (s : State) (l : Nat) : List Nat × State :=
  forNat 40 (fun _ (a : List Nat × State) => let (b, s) := draw a.2 (l + 8); (a.1 ++ [ofBytes b], s)) ([], s)

/-- CURVE_LOAD (R222): the curve register, detail and status. DEDUCED (log entry 35). -/
def jLoad (s : State) (x : JPart) (len : Nat) : State × Option JCurve × Nat × Nat :=
  let l := (len + 7) / 8
  let c : JCurve := { len := len, p := jNum x 0 l, a := jNum x 1 l, b := jNum x 2 l, gx := jNum x 3 l, gy := jNum x 4 l, n := jNum x 5 l }
  let (bp, s) := drawBases s l
  let (bn, s) := drawBases s l
  let range := bit c.p (len - 1) && decide (c.p < 2 ^ len) && [c.a, c.b, c.gx, c.gy].all (fun v => decide (v < c.p))
  let gap : Int := (c.n : Int) - (c.p + 1)
  let checks : List Bool :=
    [mrPass c.p bp, mrPass c.n bn, c.b != 0, (4 * c.a ^ 3 + 27 * c.b ^ 2) % c.p != 0,
     onCurve c c.gx c.gy && !(c.gx == 0 && c.gy == 0), decide (gap * gap ≤ 4 * c.p), c.n != c.p,
     (List.range 100).all (fun k => powMod c.p (k + 1) c.n != 1 % c.n), ptMul c c.n (curveG c) == none]
  if !range then (s, none, 0, 4)
  else match (List.range 9).find? (fun i => !checks.getD i true) with
    | some i => (s, none, i + 1, 9)
    | none => (s, some c, 0, 1)

/-- The end of the running job (R220–R228): outputs, or zeros in their slots where the status is not OK (R225). -/
def jFinish (s : State) (p : Nat) (selfCheckOk : Bool) : State :=
  let x := jpart s p
  let op := bits x.cmd 31 24
  let len := bits x.cmd 12 0
  if op = 0x20 then
    let (s, c, detail, status) := jLoad s x len
    jComplete (setJpart s p { jpart s p with curve := c }) p detail status
  else
    let some_ := fun (e : State × JEnd) => (e.1, some e.2)
    let (s, e) :=
      if opEc op then
        match jCurve x with
        | some c => jEc s x op c
        | none => (s, some (jFail 10))
      else some_ (if opX op then jX s x op
      else if opRsa op then jRsa s x op len selfCheckOk
      else (s, jModInv x len))
    match e with
    | none => s
    | some (detail, status, outs) =>
      let y := jpart s p
      let y := if status = 1 then outs.foldl (fun y e => jOut y e.1 e.2) y else (jOuts op).foldl (fun y k => jOut y k []) y
      jComplete (setJpart s p y) p detail status

/-- The challenge is ready (R294, R295): signed by DEVID, good from now; none while the signing draws on. Without DEVID the
request fails (R254). -/
def chalSign (s : State) (body : List Byte) (scope : Nat) : Option State × State :=
  match s.keys.devid with
  | none => (some s, s)
  | some d =>
    match signBy s d (sha256 body) with
    | (some sig, s) =>
      (some { s with life := { s.life with chal := body ++ sig, chalScope := scope, chalAt := s.tick.elapsed, resp := [] } }, s)
    | (none, s) => (none, s)

/-- The running job of partition 0 completes, with what its request has of it; the next one takes its place.
DEDUCED (log entry 65). -/
def svcFinish (s : State) : State :=
  match s.jasper.svc with
  | [] => jPost (jLeave s 0) 0
  | j :: t =>
    let next := if 1 < j.left then ⟨j.kind, j.left - 1⟩ :: t else t
    let leave := fun (s : State) => svcEnter (setSvc (jPost (jLeave s 0) 0) next)
    match j.kind, j.left with
    | .challenge body scope, 1 =>
      match chalSign s body scope with
      | (some s, _) => leave s
      | (none, s) => s
    | _, _ => leave s

/-- JASPER_JOB_DONE. -/
def execJasperJobDone (selfCheckOk : Bool) (s : State) : Host.Outcome State Fault Refusal :=
  done s (match s.jasper.run with
  | some 0 => svcFinish s
  | some p => jFinish s p selfCheckOk
  | none => s)

/-- ZEROISE (R230): memory and curves cleared in every partition, every job ZEROISED, claims kept. The service controller's job
is issued again where it needs no cleared key (R254). -/
def jasperZeroise (s : State) : State :=
  let jobs := s.jasper.run.toList ++ s.jasper.queue
  let s := forNat 4 (fun p s => setJpart s p { jpart s p with mem := [], curve := none, wiped := true }) s
  jobs.foldl (fun s p => if p = 0 then svcZeroised s else jComplete s p 0 13) s

end Sys2Proof.Machine
end

