-- ==== Sys2Proof/Machine/Keys.lean ====
section
/-! DEFINITION. The root, the key tree, the owner epoch, persistent keys and ZEROISE (R233–R256). -/

namespace Sys2Proof.Machine

/-- A change of the key-derivation block. -/
def setKeys (s : State) (k : KeySt) : State := { s with keys := k }

/-- A start-up step has ended (R436): 1 to 4, 5 for 5a, 50 for 5b, 6, 7, 8; 51 marks that 5a has begun. -/
def stepEnded (s : State) (n : Nat) : Bool := s.boot.steps.contains n
def endStep (s : State) (n : Nat) : State :=
  if stepEnded s n then s else { s with boot := { s.boot with steps := s.boot.steps ++ [n] } }

/-! The key tree (R240, R241). -/

/-- The bytes of an ASCII string. -/
def ascii (t : String) : List Byte := t.toList.map Char.toNat

/-- The KDF of R240: label, zero byte, context, length in bits. -/
def kdf (key label ctx : List Byte) (len : Nat) : List Byte :=
  kdfCtr sha256P key (label ++ [0] ++ ctx ++ toBytes 4 (8 * len)) len

/-- A P-256 private scalar of 320 derived bits. -/
def scalarOf (b : List Byte) : Nat := ofBytes b % (p256.n - 1) + 1

def epochOf (s : State) : Nat := rd s K.ownerEpoch
def epochEnd : Nat := 4095

/-- The epoch-bound keys, none at epoch 4,095 or without a root (R243, R244). -/
def deriveEpoch (s : State) : State :=
  let k := s.keys
  let e := toBytes 4 (epochOf s)
  match k.root with
  | some root =>
    if epochOf s < epochEnd then
      let owner := scalarOf (kdf root (ascii "OR-OWNID") e 40)
      let store := kdf root (ascii "OR-STORE") e 32
      let keks := (List.range 16).map (fun i => kdf root (ascii "OR-KEK") (e ++ toBytes 4 i) 32)
      setKeys s { k with owner := some owner, store := some store, keks := keks }
    else setKeys s { k with owner := none, store := none, keks := [] }
  | none => setKeys s { k with owner := none, store := none, keks := [] }

/-- Every derived key and the root are gone. -/
def dropKeys (s : State) : State :=
  setKeys s { s.keys with root := none, devid := none, owner := none, store := none, keks := [], deriving_ := false, found := [],
                          rederive := false }

/-- KEK_STATUS and the public keys (R256). -/
def kekStatusView (s : State) : Nat :=
  (if s.keys.keks.isEmpty then 0 else 2 ^ 16 - 1) + 2 ^ 16 * b2n s.keys.store.isSome + 2 ^ 17 * b2n s.keys.owner.isSome +
    2 ^ 18 * b2n s.keys.devid.isSome
def pubOf (d : Option Nat) : Nat :=
  match d.bind (fun d => ptMul p256 d (curveG p256)) with
  | some (x, y) => x * 2 ^ 256 + y
  | none => 0

/-! Reconstruction (R235–R239). -/

/-- The attempts a reconstruction may take. -/
def rootTries : Nat := 9

/-- Reconstruction is under way: step 5a has begun and neither accepted a root nor failed. -/
def rebuilding (s : State) : Bool :=
  stepEnded s 51 && !stepEnded s 5 && rd s K.rootStatus == Root.none && !s.keys.deriving_

/-- The key-derivation block is held disabled: in SCRAP, from step 3 of the transition on (R288). -/
def keysOff (s : State) : Bool := s.life.state == 4 || (s.life.trans == some 4 && s.life.stepNo == 3)

/-- What an attempt with `flips` bits read wrong ends in: a root and the bits its worst block needed (R235, R237). -/
def rootTry (s : State) (flips : Nat) : Option (List Byte × Nat) :=
  if rd s K.rootSource = 1 then pufTry s.keys.helper s.keys.check flips
  else (blockTry s.keys.block flips).map (fun root => (root, 0))

/-- The data path stops where no root was found (R238): nothing is armed, and no arm or disarm waits. DEDUCED (log entry 36). -/
def rootStop (s : State) : State :=
  let s := wrField s K.armStatus 2 0 0
  { s with boot := { s.boot with drain := false } }

/-- PUF_ATTEMPT_DONE (R235–R238): a root is accepted, or the attempt failed. -/
def execPufAttemptDone (flips : Nat) (s : State) : Host.Outcome State Fault Refusal :=
  done s (if !rebuilding s || keysOff s then s
  else
    let n := s.keys.tries + 1
    let s := wr (setKeys s { s.keys with tries := n }) K.pufAttempts n
    match rootTry s flips with
    | some (root, w) =>
      let s := wr (setKeys s { s.keys with deriving_ := true, found := root }) K.pufWorst w
      if 18 < w then raise s Ev.pufMargin 0 0 else s
    | none =>
      if rootTries ≤ n then healthClear (raise (endStep (rootStop (wr s K.rootStatus Root.failed)) 5) Ev.rootFail 0 0) 4
      else s)

/-- The key of the identity (R241). -/
def devidFrom (root : List Byte) : Nat := scalarOf (kdf root (ascii "OR-DEVID") [0, 0, 0, 0] 40)

/-- KEY_DERIVATION_DONE (R240, R241): the tree of a root accepted; or the epoch-bound keys after an advance (R243), which
EPOCH_ADVANCED follows. -/
def execKeyDerivationDone (s : State) : Host.Outcome State Fault Refusal :=
  done s (if keysOff s then s
  else if s.keys.deriving_ then
    let k := { s.keys with root := some s.keys.found, devid := some (devidFrom s.keys.found), deriving_ := false, found := [] }
    deriveEpoch (wr (setKeys s k) K.rootStatus Root.ready)
  else if s.keys.rederive then
    raise (deriveEpoch (setKeys s { s.keys with rederive := false })) Ev.epochAdvanced (epochOf s) 0
  else s)

/-! The owner epoch (R242–R244). -/

/-- DEBUG_CONSENT takes a value; debug that authorisation opened beyond it closes (R293). -/
def setConsent (s : State) (v : Nat) : State :=
  let s := wr s K.debugConsent v
  if s.life.byAuth && decide (v < s.life.scope) then { s with life := { s.life with scope := 0, byAuth := false } } else s

/-- An advance starts. -/
def advanceStart (s : State) : State := setKeys s { s.keys with advance := s.keys.advance + 1 }

/-- An advance completes; at epoch 4,095 it changes nothing (R243, R244). With a root held the epoch-bound keys are derived anew
before EPOCH_ADVANCED; without one it is raised now. DEDUCED (log entry 36). -/
def advanceOne (s : State) : State :=
  if s.keys.advance = 0 then s
  else
    let s := setKeys s { s.keys with advance := s.keys.advance - 1 }
    if epochEnd ≤ epochOf s then s
    else
      let s := setConsent (wr s K.ownerEpoch (epochOf s + 1)) 0
      let k := { s.keys with owner := none, store := none, keks := [] }
      if s.keys.root.isSome then setKeys s { k with rederive := true }
      else raise (setKeys s k) Ev.epochAdvanced (epochOf s) 0

/-- Step 2 of a life-cycle transition ends with its advance (R287). -/
def lcAdvanced (s : State) : State :=
  if s.life.trans.isSome && s.life.stepNo == 2 && s.keys.advance == 0 then { s with life := { s.life with stepNo := 3 } } else s

/-- ZEROISE_STATUS (R256). DEDUCED (log entry 37). -/
def clearing (s : State) : Bool := rdBit s K.zeroiseStatus 0

/-- EPOCH_ADVANCE_WRITE (R243, R251, R255). DEDUCED (log entry 54). -/
def epochAdvanceEff (v : Nat) (s : State) : Res :=
  if 0 < s.keys.advance ∨ s.keys.rederive ∨ s.keys.wiping ∨ clearing s then abortR s .wrongState
  else if v ≠ epochOf s + 1 then abortR s .unsupportedValue
  else okR (advanceStart s)
def execEpochAdvanceWrite (r : Req) (v : Nat) (s : State) : Host.Outcome State Fault Refusal :=
  done s (access s r K.epochAdvance true (epochAdvanceEff (v % 2 ^ 16)))

/-- EPOCH_ADVANCE_DONE (R243). -/
def execEpochAdvanceDone (s : State) : Host.Outcome State Fault Refusal := done s (lcAdvanced (advanceOne s))

/-- EPOCH_LEFT (R244). DESIGN CHOICE (log entry 2). -/
def epochLeftView (s : State) : Nat := 4094 - epochOf s

/-- PLAINTEXT_KEY_EN (R246). -/
def plaintextKeyEff (v : Nat) (s : State) : Res :=
  if 1 < v then abortR s .unsupportedValue
  else if v = 1 ∧ rd s K.plaintextKeyEn = 0 then abortR s .wrongState
  else okR (wr s K.plaintextKeyEn v)
def execPlaintextKeyEnWrite (r : Req) (v : Nat) (s : State) : Host.Outcome State Fault Refusal :=
  done s (access s r K.plaintextKeyEn true (plaintextKeyEff (v % 256)))

/-! Persistent records (R247–R250). -/

/-- The record of a sector; a blank one reads all ones. -/
def recordAt (s : State) (n : Nat) : List Word := tget [] s.keys.records n
def setRecord (s : State) (n : Nat) (ws : List Word) : State :=
  setKeys s { s.keys with records := tset [] s.keys.records n ws }

def ones : Nat := 2 ^ 32 - 1
def commitWord : Nat := 0xA5C33C5A

/-- The record of key `k` under STORE. -/
def mkRecord (store : List Byte) (k seq epoch : Nat) (key : List Byte) : List Word :=
  let w0 := 2 ^ 24 + k * 2 ^ 16 + key.length * 2 ^ 8
  let blob := bytesToWords 12 (kwpWrap store (toBytes 4 w0 ++ toBytes 4 epoch ++ key))
  let body := [w0, seq, epoch] ++ (blob ++ List.replicate 12 ones).take 12
  body ++ [crc32Words body, commitWord]

/-- The key a record holds, where its unwrap passes. -/
def recordKey (s : State) (ws : List Word) : Option (List Byte) :=
  let len := bits (nth ws 0) 15 8
  match s.keys.store with
  | none => none
  | some store =>
    (kwpUnwrap store ((wordsToBytes ((ws.drop 3).take 12)).take (len + 16))).bind (fun p =>
      if p.take 8 = toBytes 4 (nth ws 0) ++ toBytes 4 (nth ws 2) ∧ p.length = len + 8 then some (p.drop 8) else none)

/-- The class of a sector (R248): 0 BLANK, 1 VALID, 2 INVALID, 3 STALE. A record of an earlier epoch cannot be unwrapped,
and one met while STORE is not held is taken at its words. DEDUCED (log entry 36). -/
def classOf (s : State) (n : Nat) : Nat :=
  let ws := recordAt s n
  let w0 := nth ws 0
  let len := bits w0 15 8
  if ws.all (· == ones) then 0
  else if nth ws 16 ≠ commitWord ∨ nth ws 15 ≠ crc32Words (ws.take 15) ∨ bits w0 31 24 ≠ 1 ∨ bits w0 23 16 ≠ n / 2 ∨ bits w0 7 0 ≠ 0 ∨
    ¬ (len = 16 ∨ len = 24 ∨ len = 32) then 2
  else if nth ws 2 < epochOf s then 3
  else if nth ws 2 = epochOf s ∧ (s.keys.store.isNone ∨ (recordKey s ws).isSome) then 1
  else 2

/-- The current record of key `k` (R248): 0 for A, 1 for B. DEDUCED (log entry 36). -/
def currentRec (s : State) (k : Nat) : Option Nat :=
  let a := classOf s (2 * k) == 1
  let b := classOf s (2 * k + 1) == 1
  if a && b then some (if nth (recordAt s (2 * k)) 1 < nth (recordAt s (2 * k + 1)) 1 then 1 else 0)
  else if a then some 0
  else if b then some 1
  else none

/-- PKEY_INVALID is raised once per start for a key with no valid and some invalid record (R248). -/
def nameInvalid (s : State) : State :=
  forNat 32 (fun k s =>
    if (currentRec s k).isNone && (classOf s (2 * k) == 2 || classOf s (2 * k + 1) == 2) && !s.keys.named.contains k then
      raise (setKeys s { s.keys with named := s.keys.named ++ [k] }) Ev.pkeyInvalid k 0
    else s) s

/-- PKEY_RECORD_SCAN (R248): the start-up scan ends step 5a. -/
def execPkeyRecordScan (s : State) : Host.Outcome State Fault Refusal :=
  done s (if stepEnded s 51 && !stepEnded s 5 && rd s K.rootStatus == Root.ready then
    let s1 := nameInvalid s
    endStep (forNat 64 (fun n s => if classOf s n = 3 then setRecord s n [] else s) s1) 5
  else s)

/-- PKEY_INFO and PKEY_SEQ (R256). -/
def pkeyInfoView (s : State) : Nat :=
  let k := rd s K.pkeySel
  let c := currentRec s k
  classOf s (2 * k) * 2 ^ 30 + classOf s (2 * k + 1) * 2 ^ 28 + c.getD 0 * 2 ^ 24 + b2n c.isNone * 2 ^ 23 +
    (match c with | some b => bits (nth (recordAt s (2 * k + b)) 0) 15 8 | none => 0)
def pkeySeqView (s : State) : Nat :=
  let k := rd s K.pkeySel
  match currentRec s k with
  | some b => nth (recordAt s (2 * k + b)) 1
  | none => 0

/-- PKEY_SEL and PKEY_REG: one staging group with PKEY_OP (R250). -/
def pkeySelEff (r : Req) (v : Nat) (s : State) : Res :=
  if 31 < v then abortR s .unsupportedValue else claimed s Grp.pkey r (fun s => okR (wr s K.pkeySel v))
def pkeyRegEff (r : Req) (v : Nat) (s : State) : Res :=
  if 15 < v then abortR s .unsupportedValue else claimed s Grp.pkey r (fun s => okR (wr s K.pkeyReg v))

/-- A write of PKEY_OP (R250, R251, R255, R274). -/
def pkeyOpEff (r : Req) (v : Nat) (s : State) : Res :=
  if v = 0 ∨ 3 < v then abortR s .unsupportedValue
  else claimed s Grp.pkey r (fun s =>
    if s.keys.op.isSome || s.keys.wiping || clearing s || (v == 2 && keyBlock s) then abortR s .wrongState
    else okR (release (wrBit (setKeys s { s.keys with op := some (v, rd s K.pkeySel, rd s K.pkeyReg, false) }) K.pkeyStatus 31 true) Grp.pkey))
def execPkeyStore (r : Req) (s : State) : Host.Outcome State Fault Refusal :=
  done s (access s r K.pkeyOp true (pkeyOpEff r 1))
def execPkeyLoad (r : Req) (s : State) : Host.Outcome State Fault Refusal :=
  done s (access s r K.pkeyOp true (pkeyOpEff r 2))
def execPkeyErase (r : Req) (s : State) : Host.Outcome State Fault Refusal :=
  done s (access s r K.pkeyOp true (pkeyOpEff r 3))

/-- What a write of a sector leaves that did not reach its end: blank, or the words without their COMMIT (R249, R255). FREE
VALUE between the two (log entry 8). DEDUCED (log entry 36). -/
def tornSector (s : State) (n : Nat) (ws : List Word) : State :=
  let f := (Config.free 16 (n + 64 * s.tick.clock)).toNat % 2
  setRecord s n (if f = 0 then [] else lset ws 16 ones)

/-- A store of key `k` from register `reg`: its result (R249). DEDUCED (log entry 36). -/
def pkeyStore (s : State) (k reg : Nat) (flashOk zeroised : Bool) (store : List Byte) : State × Nat :=
  let cur := currentRec s k
  let seq := match cur with | some b => nth (recordAt s (2 * k + b)) 1 | none => 0
  let target := 2 * k + (match cur with | some b => 1 - b | none => 0)
  let rec_ := mkRecord store k (seq + 1) (epochOf s) (tget [] s.beryl.regs reg)
  if seq = 0xFFFFFFFE then (s, if zeroised then 6 else 4)
  else if zeroised then (tornSector s target rec_, 6)
  else if !flashOk then (tornSector s target rec_, 5)
  else (setRecord s target rec_, 1)

/-- Persistent records can be worked on (R250). -/
def pkeyReady (s : State) : Bool := rd s K.rootStatus == Root.ready && decide (epochOf s < epochEnd)

/-- The end of a PKEY operation: its result (R250, R255). -/
def pkeyResult (s : State) (op k reg : Nat) (zeroised flashOk : Bool) : State × Nat :=
  let ready := pkeyReady s
  let s := if ready then nameInvalid s else s
  match op with
  | 1 =>
    if zeroised then pkeyStore s k reg flashOk true (List.replicate 32 0)
    else if !ready || s.keys.store.isNone || (tget [] s.beryl.regs reg).isEmpty then (s, 3)
    else pkeyStore s k reg flashOk false (s.keys.store.getD [])
  | 2 =>
    if zeroised then (setKeyreg s reg [], 6)
    else if !ready || s.keys.store.isNone then (s, 3)
    else match currentRec s k with
      | none => (s, 2)
      | some b =>
        match recordKey s (recordAt s (2 * k + b)) with
        | some key => if flashOk then (setKeyreg s reg key, 1) else (s, 5)
        | none => (s, 2)
  | _ =>
    if !ready && !zeroised then (s, 3)
    else if flashOk then (setRecord (setRecord s (2 * k) []) (2 * k + 1) [], 1)
    else (s, 5)

/-- The operation under way ends (R250). -/
def pkeyFinish (s : State) (flashOk : Bool) : State :=
  match s.keys.op with
  | none => s
  | some (op, k, reg, z) =>
    let (s, res) := pkeyResult (setKeys s { s.keys with op := none }) op k reg z flashOk
    raise (wr s K.pkeyStatus res) Ev.pkeyDone 0 0

/-- PKEY_OP_DONE. -/
def execPkeyOpDone (flashOk : Bool) (s : State) : Host.Outcome State Fault Refusal := done s (pkeyFinish s flashOk)

/-! The persistent wipe (R251). -/

/-- ZEROISE_PENDING (R266). -/
def zeroisePending (s : State) : Bool := rdBit s K.onyxStatus 2

/-- A wipe starts: its epoch advance comes first. DEDUCED (log entry 36). -/
def wipeStart (s : State) : State :=
  wrBit (advanceStart (setKeys s { s.keys with wiping := true, wipeDue := false })) K.zeroiseStatus 1 true

/-- A wipe asked for starts when CLEARING has fallen, no wipe runs and no transition is under way (R253, R265).
DEDUCED (log entry 36). -/
def wipeIfDue (s : State) : State :=
  if s.keys.wipeDue && !clearing s && !s.keys.wiping && s.life.trans.isNone then wipeStart s else s

/-- The wipe ends: what its advance had left to do, every record sector, ZEROISE_PENDING (R251, R266). -/
def wipeEnd (s : State) : State :=
  let s := forNat s.keys.advance (fun _ s => advanceOne s) s
  let s := wrBit (setKeys s { s.keys with wiping := false, records := [] }) K.zeroiseStatus 1 false
  wrBit (raise s Ev.persistWiped 0 0) K.onyxStatus 2 false

/-- PERSIST_WIPE_DONE. DEDUCED (log entry 36). -/
def execPersistWipeDone (s : State) : Host.Outcome State Fault Refusal :=
  done s (if s.keys.wiping then wipeIfDue (wipeEnd s) else s)

/-! ZEROISE (R252–R255). -/

/-- The clock from which no beat leaves a slice after a ZEROISE now (R195). -/
def squelchClock (s : State) : Nat := s.tick.clock + 5

/-- The output at place `i` from the oldest is replaced. -/
def outEdit (i : Nat) (g : Output → List Output) : List Output → List Output
  | [] => []
  | o :: t => if t.length = i then g o ++ t else o :: outEdit i g t

/-- A frame that has left nothing is taken back from its counters (R197, R198, R368). -/
def flyUncount (s : State) (f : Fly) : State :=
  let less := fun s k n => inc s k (2 ^ 64 - n)
  let s := less (less (less s (K.sliceFrames (f.q / 8)) 1) (K.outLineFrames f.q) 1) (K.outLineOctets f.q) f.len
  let s := if f.held then less s (K.sliceHeld (f.q / 8)) 1 else s
  less s (if f.handle.isSome then K.outProtected f.q else K.outBypassed f.q) 1

/-- An announced outbound frame meets the squelch (R195–R197): one whose last beat still leaves in time is whole; a started one
is cut behind the beats that left and ends with an error block; one not started is gone. -/
def flyCut (s : State) (f : Fly) : State :=
  let stop := squelchClock s
  if f.leaves ≤ stop then s
  else
    let s := inc s (K.squelched (f.q / 8)) 1
    let s := match f.handle with
      | some h => statAdd s h 0 0 1 0
      | none => s
    if stop ≤ f.first then { flyUncount s f with out := outEdit f.at_ (fun _ => []) s.out }
    else
      let cut := fun o => match o with
        | Output.frame sd q b _ => [Output.cut sd q, .frame sd q (b.take (128 * (stop - f.first))) false]
        | o => [o]
      { s with out := outEdit f.at_ cut s.out }

/-- An inbound frame in its slice meets the squelch (R195–R197): the plaintext of the beats that have left reaches the host and
ends with an error block; a frame of which nothing has left is gone. -/
def inCut (s : State) (f : InFrm) : State :=
  let s := inc s (K.squelched (ibOf f.q)) 1
  let n := if f.checked && !f.sf then inBeats s f (squelchClock s) else 0
  if n = 0 then inDrop s f.q
  else emit (emit s (.frame .host f.q ((inPlain f).1.take (128 * n)) false)) (.cut .host f.q)

/-- The slices stop (R195–R197): truncated and not yet started frames are counted, the data path is disarmed, an arm or a
disarm that waits is withdrawn. A looped line carries what was whole. DEDUCED (log entry 37). -/
def squelch (s : State) : State :=
  let looped := s.dp.flying.foldl (fun l f => if squelchClock s < f.leaves then tset [] l f.q ((tget [] l f.q).dropLast) else l)
    s.dp.looped
  let s := s.dp.flying.foldl flyCut s
  let s := s.dp.inq.foldl (fun s e => e.2.foldl inCut s) s
  let s := wrField { s with dp := { s.dp with looped := looped } } K.armStatus 2 0 0
  { s with dp := { s.dp with flying := [], inq := [], squelch := true }, boot := { s.boot with drain := false } }

/-- Slots, predictors, arm sets and Layer-1 switches (R157, R195). DEDUCED (log entry 37). -/
def zeroiseSlots (s : State) : State :=
  let s := forNat 15 (fun i s => wr s (K.armTick (i + 1)) none64) s
  let l1 := s.lines.l1.map (fun e => (e.1, { e.2 with arm := none64 }))
  { s with assoc := { s.assoc with slot := [], zapped := true, pred := [] }, lines := { s.lines with l1 := l1 },
           dp := { s.dp with hkeep := [] } }

/-- The root and every derived key (R239, R253, R255). An advance whose keys were being derived anew is complete: no root is held
(R243). DEDUCED (log entry 36). -/
def zeroiseRoot (s : State) : State :=
  let stopped := rebuilding s || s.keys.deriving_
  let s := if s.keys.root.isSome || stopped then wr s K.rootStatus Root.cleared else s
  let s := if stepEnded s 51 then endStep s 5 else s
  let s := if s.keys.rederive then raise s Ev.epochAdvanced (epochOf s) 0 else s
  dropKeys s

/-- A PKEY store or load under way ends ZEROISED; an erase that had begun runs to completion (R255). -/
def zeroisePkey (s : State) : State :=
  match s.keys.op with
  | some (op, k, reg, z) => setKeys s { s.keys with op := some (op, k, reg, z || op != 3 || pkeyReady s) }
  | none => s

/-- Debug that authorisation opened closes (R296). -/
def closeDebug (s : State) : State :=
  if s.life.byAuth then { s with life := { s.life with scope := 0, byAuth := false } } else s

/-- Every group pair in loopback or test falls back to traffic (R79). DEDUCED (log entry 37). -/
def zeroiseGroups (s : State) : State := forNat 8 (fun n s => if 2 ≤ mode s n then setMode s n 1 else s) s

/-- The ZEROISE line is asserted by source `src` (R252); while CLEARING it merges. DEDUCED (log entry 37). -/
def zeroise (s : State) (src : Nat) : State :=
  let s := inc s K.zeroiseCount 1
  if clearing s then s
  else
    let s := wr (wrBit s K.zeroiseStatus 0 true) K.zeroiseLast src
    let s := zeroiseRoot (zeroisePkey (zeroiseSlots (squelch s)))
    let s := jasperZeroise (berylZeroise s)
    let s := zeroiseGroups (closeDebug s)
    healthClear (forNat 4 (fun g s => if roleEn s g then demote s g else s) s) 1

/-- CLEARING falls (R253). DEDUCED (log entry 37). -/
def clearingEnd (s : State) : State :=
  if !clearing s then s
  else
    let s := wrBit (berylCleared s) K.zeroiseStatus 0 false
    raise s Ev.zeroiseDone (rd s K.zeroiseLast) 0

/-- ZEROISE_CLEARING_DONE: step 2 of a transition follows, or the wipe asked for (R253, R287). -/
def execZeroiseClearingDone (s : State) : Host.Outcome State Fault Refusal :=
  done s (if !clearing s then s
  else
    let s := clearingEnd s
    if s.life.trans.isSome && s.life.stepNo == 1 then advanceStart { s with life := { s.life with stepNo := 2 } } else wipeIfDue s)

/-- A write of ZEROISE_CMD (R252). -/
def zeroiseCmdEff (v : Nat) (s : State) : Res :=
  if v = 0x2E500001 then okR (zeroise s 1)
  else if v = 0x2E500003 then
    let s := zeroise s 2
    okR (setKeys s { s.keys with wipeDue := true })
  else abortR s .unsupportedValue
def execZeroiseCmd (r : Req) (s : State) : Host.Outcome State Fault Refusal :=
  done s (access s r K.zeroiseCmd true (zeroiseCmdEff 0x2E500001))
def execZeroiseCmdWipe (r : Req) (s : State) : Host.Outcome State Fault Refusal :=
  done s (access s r K.zeroiseCmd true (zeroiseCmdEff 0x2E500003))

end Sys2Proof.Machine
end

