-- ==== Sys2Proof/Machine/Onyx.lean ====
section
/-! DEFINITION. Tamper monitoring and the Onyx domain (R257–R280): sources, loops, responses, the RTC and the log. -/

namespace Sys2Proof.Machine

/-- Bits of ONYX_STATUS (R280). -/
def rtcValid (s : State) : Bool := rdBit s K.onyxStatus 0
def backupOsc (s : State) : Bool := rdBit s K.onyxStatus 1
def onyxLost (s : State) : Bool := rdBit s K.onyxStatus 5

/-- Start-up is complete (R436). -/
def startupDone (s : State) : Bool := rdBit s K.startupStatus 8

/-! The RTC (R269, R277). -/

/-- Periods of 1/32,768 s in `dc` core clocks; the RC oscillator's rate, from when the RTC last took a value, is a FREE VALUE
within ±2 % in steps of 0.01 % (log entry 8). -/
def rtcTicks (s : State) (dc : Nat) : Nat :=
  let rate := if backupOsc s then 9800 + (Config.free 17 (s.onyx.rtc + 2 ^ 47 * s.onyx.rtcAt)).toNat % 401 else 10000
  dc * 262144 * rate / 10 ^ 14

/-- The RTC now: 32-bit seconds and a 15-bit fraction. -/
def rtcNow (s : State) : Nat := (s.onyx.rtc + rtcTicks s (s.tick.clock - s.onyx.rtcAt)) % 2 ^ 47

/-- Onyx clocks counted until now (R277). -/
def onyxNow (s : State) : Nat := s.onyx.ticks + rtcTicks s (s.tick.clock - s.onyx.rtcAt)

/-- The RTC takes a value now. -/
def rtcSet (s : State) (v : Nat) : State :=
  { s with onyx := { s.onyx with rtc := v % 2 ^ 47, rtcAt := s.tick.clock, ticks := onyxNow s } }

/-- ONYX_RTC_WRITE (R269). -/
def onyxRtcEff (v : Nat) (s : State) : Res := okR (wrBit (rtcSet s v) K.onyxStatus 0 true)
def execOnyxRtcWrite (r : Req) (v : Nat) (s : State) : Host.Outcome State Fault Refusal :=
  done s (access s r K.onyxRtc true (onyxRtcEff (v % 2 ^ 64)))

/-- RTC_SYNC_TB0 (R269). -/
def rtcSyncEff (v : Nat) (s : State) : Res :=
  if v ≠ 1 then abortR s .unsupportedValue
  else if !tbValid s 0 then abortR s .wrongState
  else okR (wr s K.rtcSyncTb0 1)
def execRtcSyncTb0 (r : Req) (s : State) : Host.Outcome State Fault Refusal :=
  done s (access s r K.rtcSyncTb0 true (rtcSyncEff 1))

/-- RTC_SYNC_LOAD: the TB0 second that begins. -/
def execRtcSyncLoad (s : State) : Host.Outcome State Fault Refusal :=
  done s (if rd s K.rtcSyncTb0 = 1 then
    wrBit (wr (rtcSet s (tbNow s 0 / tbSecond % 2 ^ 32 * 32768)) K.rtcSyncTb0 0) K.onyxStatus 0 true
  else s)

/-! The log (R270–R274). -/

/-- Entries the log holds. -/
def logMax : Nat := 64

/-- Where the last acknowledged entry stands: the entries up to it are acknowledged. -/
def ackedLen (s : State) : Nat :=
  match s.onyx.log.findIdx? (fun e => nth e 0 == rd s K.logAck) with
  | some i => i + 1
  | none => 0

def logCountView (s : State) : Nat := s.onyx.log.length
def logNewestView (s : State) : Nat := nth (s.onyx.log.getLastD []) 0

/-- Events are raised only while main power is present (R264, R280). -/
def onyxRaise (s : State) (src a : Nat) : State := if s.onyx.main then raise s src a 0 else s

/-- KEY_BLOCK sets (R273). -/
def keyBlockSet (s : State) : State := onyxRaise (wrBit s K.onyxStatus 3 true) Ev.tamperLogPending 0

/-- The conditions at a start (R273): alarms of the time before are reported there (R280). DEDUCED (log entry 38). -/
def keyBlockAtStart (s : State) : State :=
  if onyxLost s || decide (ackedLen s < s.onyx.log.length) then keyBlockSet s else s

/-- A log entry for source `src` (R270, R271). -/
def logEntry (s : State) (src detail : Nat) : State :=
  let seq := nextSeq s.onyx.seq
  let t := rtcNow s
  let w1 := src * 2 ^ 24 + b2n (backupOsc s) * 2 ^ 19 + b2n (s.onyx.main && !startupDone s) * 2 ^ 18 + b2n (rd s K.holdStatus == 2) * 2 ^ 17 +
    b2n (!s.onyx.main) * 2 ^ 16 + detail % 2 ^ 16
  let e := [seq, w1, t / 32768, b2n (rtcValid s) * 2 ^ 31 + t % 32768]
  let full := decide (logMax ≤ s.onyx.log.length)
  let s1 := { s with onyx := { s.onyx with seq := seq } }
  if !full then { s1 with onyx := { s1.onyx with log := s.onyx.log ++ [e] } }
  else if 0 < ackedLen s then { s1 with onyx := { s1.onyx with log := s.onyx.log.drop 1 ++ [e], ptr := s.onyx.ptr - 4 } }
  else onyxRaise (wrBit (inc s1 K.logLost 1) K.onyxStatus 4 true) Ev.tamperLogFull 0

/-- A read of LOG_DATA (R271). -/
def logDataRead (s : State) : Res :=
  let ws := s.onyx.log.flatten
  let p := s.onyx.ptr
  okV { s with onyx := { s.onyx with ptr := if p < ws.length then p + 1 else p } } [nth ws p]
def execLogDataRead (r : Req) (s : State) : Host.Outcome State Fault Refusal :=
  done s (access s r K.logData false logDataRead)

/-- LOG_ACK (R271, R274). DEDUCED (log entry 38). -/
def logAckEff (v : Nat) (s : State) : Res :=
  let open_ := fun (s : State) => wrBit (wrBit s K.onyxStatus 3 false) K.onyxStatus 5 false
  let rewind := fun (s : State) => { s with onyx := { s.onyx with ptr := 0 } }
  match s.onyx.log.findIdx? (fun e => nth e 0 == v) with
  | some i =>
    let newer := decide (ackedLen s < i + 1)
    let s1 := rewind (if newer then wrBit (wr s K.logAck v) K.onyxStatus 4 false else s)
    okR (if i + 1 = s.onyx.log.length then open_ s1 else s1)
  | none => if v = 0 ∧ s.onyx.log = [] ∧ onyxLost s then okR (rewind (open_ s)) else abortR s .unsupportedValue
def execLogAck (r : Req) (v : Nat) (s : State) : Host.Outcome State Fault Refusal :=
  done s (access s r K.logAck true (logAckEff (v % 2 ^ 32)))

/-- FLAG_CLEAR (R268). -/
def flagClearEff (v : Nat) (s : State) : Res := okR (wr s K.tamperFlags (Nat.land (rd s K.tamperFlags) (2 ^ 32 - 1 - v)))
def execFlagClear (r : Req) (v : Nat) (s : State) : Host.Outcome State Fault Refusal :=
  done s (access s r K.flagClear true (flagClearEff (v % 2 ^ 32)))

/-! Sources (R257–R260, R264, R268). -/

/-- What every source does when it fires: its flag, its entry, TAMPER_ALARM, KEY_BLOCK before start-up is complete.
DEDUCED (log entry 38). -/
def fire (s : State) (src detail : Nat) : State :=
  let s := logEntry (wrBit s K.tamperFlags src true) src detail
  let s := onyxRaise s Ev.tamperAlarm src
  if s.onyx.main && !startupDone s && !keyBlock s then keyBlockSet s else s

/-- The sources one firing suppresses: a rail's three; itself for the others (R259). The sources of one quantity re-arm
together. -/
def railOf (src : Nat) : List Nat := if 26 ≤ src then [src] else (List.range 3).map (fun i => 8 + (src - 8) / 3 * 3 + i)
def quantityOf (src : Nat) : List Nat := if src = 26 ∨ src = 27 then [26, 27] else railOf src

/-- A source that can fire (R259, R260, R264): nothing that suppresses it has fired, and it is powered and not masked. -/
def canFire (s : State) (src : Nat) : Bool :=
  !(railOf src).any (fun n => s.onyx.fired.contains n) &&
  (s.onyx.main || decide (23 ≤ src ∧ src ≤ 25) || src == 28) &&
  !(s.boot.pinLow && [8, 11, 14, 17, 20, 26].contains src)

/-- A source fires if it can. DEDUCED (log entry 38). -/
def fireOnce (s : State) (src detail : Nat) : State :=
  if canFire s src then fire { s with onyx := { s.onyx with fired := s.onyx.fired ++ [src] } } src detail else s

/-- Die temperature in whole °C, as a log entry gives it (R270). DEDUCED (log entry 38). -/
def tempDetail (dc : Int) : Nat := ofSigned 16 (dc / 10)

/-- The thresholds of R258 in µV: nominal (0 for VBAT), low, high, by rail: VCORE, VSERDES 0.9 V, VSERDES 1.2 V, VIO, VHBM, VBAT. -/
def railLimits : List (Nat × Nat × Nat) :=
  [(750000, 705000, 795000), (900000, 846000, 954000), (1200000, 1128000, 1272000), (1800000, 1692000, 1908000),
   (1100000, 1034000, 1166000), (0, 2400000, 3750000)]
def railLimit (rail : Nat) : Nat × Nat × Nat := railLimits.getD rail (0, 0, 0)

/-- Kind 0 low, 1 high, 2 glitch: level `v` of a rail lies beyond that threshold. A step of VBAT has no level of its own. -/
def beyond (rail kind v : Nat) : Bool :=
  let (nominal, low, high) := railLimit rail
  match kind with
  | 0 => decide (v < low)
  | 1 => decide (high < v)
  | _ => decide (0 < nominal ∧ (100 * v < 85 * nominal ∨ 115 * nominal < 100 * v))

/-- How long a low source's dwell has run, in ns, of an excursion of `ns`: from the rise of RESET_N at most (R260). -/
def dwell (s : State) (rail kind ns : Nat) : Nat :=
  if kind = 0 ∧ rail < 5 then Nat.min ns ((s.tick.clock - s.boot.rise) * 4 / 5) else ns

/-- What a rail did fires its source of `kind` (R258, R259): 10 µs beyond the low or the high threshold, 1 ns beyond ±15 %, a step
of VBAT of more than 300 mV within 1 µs. DEDUCED (log entry 67). -/
def railFires (s : State) (d : RailDev) (kind : Nat) : Bool :=
  if kind = 2 ∧ d.rail = 5 then decide (300000 < d.uv - d.was ∨ 300000 < d.was - d.uv) && decide (d.rise ≤ 1000)
  else beyond d.rail kind d.uv && decide ((if kind = 2 then 1 else 10000) ≤ dwell s d.rail kind d.ns)

/-- MON_NOW's bits of a rail by its level now (R280). -/
def monNowSet (s : State) (d : RailDev) : State :=
  forNat 3 (fun kind s => wrBit s K.monNow (8 + 3 * d.rail + kind) (beyond d.rail kind d.now)) s

/-- The order in which the sources of a rail meet their conditions: a glitch at once, the others by their dwell. -/
def railKinds : List Nat := [2, 0, 1]

/-- MONITOR_FIRE (R258–R260): what the monitors of the supply rails have seen, the lowest rail first (R272). -/
def execMonitorFire (ds : List RailDev) (s : State) : Host.Outcome State Fault Refusal :=
  done s (forList (List.range 6) (fun rail s =>
    forList (ds.filter (fun d => d.rail == rail)) (fun d s =>
      forList railKinds (fun kind s => if railFires s d kind then fireOnce s (8 + 3 * rail + kind) 0 else s)
        (if s.onyx.main || rail == 5 then monNowSet s d else s)) s) s)

/-- MONITOR_REARM (R259): every source of the quantity re-arms. -/
def execMonitorRearm (src : Nat) (s : State) : Host.Outcome State Fault Refusal :=
  done s (if src < 8 ∨ 28 < src then s
  else
    let s := { s with onyx := { s.onyx with fired := s.onyx.fired.filter (fun n => !(quantityOf src).contains n) } }
    if src = 28 then s else (quantityOf src).foldl (fun s n => wrBit s K.monNow n false) s)

/-- TEMP_SAMPLE (R258, R259): tenths of a degree. DEDUCED (log entry 38). -/
def execTempSample (dc : Int) (s : State) : Host.Outcome State Fault Refusal :=
  done s (if !s.onyx.main then s
  else
    let s := wr s K.tempNow (ofSigned 32 dc)
    let s := wrBit (wrBit s K.monNow 26 (decide (dc < -450))) K.monNow 27 (decide (1150 < dc))
    if dc < -450 then fireOnce s 26 (tempDetail dc) else if 1150 < dc then fireOnce s 27 (tempDetail dc) else s)

/-! Loops (R261–R265). -/

/-- A loop's sequence starts with a fresh seed (R261). -/
def loopSeed (s : State) (n : Nat) : State :=
  let (b, s) := draw s 2
  { s with onyx := { s.onyx with seeds := tset 0 s.onyx.seeds n (ofBytes b), began := tset 0 s.onyx.began n (onyxNow s) } }

/-- The 16-bit LFSR after `i` shifts from a seed; its polynomial is a FREE VALUE (log entry 8). -/
def lfsrAt (seed : Nat) : Nat → Nat
  | 0 => seed
  | i + 1 => (Config.free 29 (lfsrAt seed i)).toNat % 2 ^ 16

/-- The half-bit loop `n` sends now: two half-bits of 8 Onyx clocks a code bit, a 1 as high then low (R261). A loop in OFF drives
TLn_DRV low (R262). DEDUCED (log entry 67). -/
def tlDrive (s : State) (n : Nat) : Bool :=
  let half := (onyxNow s - tget 0 s.onyx.began n) / 8
  let code := bit (lfsrAt (tget 0 s.onyx.seeds n) (half / 2)) 0
  rd s (K.loopState n) != 0 && (code != (half % 2 == 1))

/-- A level read on TLn_SNS does not match the half-bit sent (R261): 0 low, 1 high, 2 between, 3 another sequence. -/
def mismatch (s : State) (n level : Nat) : Bool := decide (2 ≤ level) || (level == 1) != tlDrive s n

/-- A write of LOOP_CTRL takes effect (R262). DEDUCED (log entry 38). -/
def loopTake (s : State) (n arm : Nat) : State :=
  let st := rd s (K.loopState n)
  if arm = 0 then wr s (K.loopState n) 0
  else if st = 1 ∨ st = 2 then s
  else loopSeed (wr s (K.loopState n) 1) n

/-- Writes that have reached the domain take effect, in their order (R50, R279). DEDUCED (log entry 67). -/
def loopWrites (s : State) : State :=
  let now := onyxNow s
  let due := s.onyx.writes.filter (fun w => decide (w.2.2 ≤ now))
  due.foldl (fun s w => loopTake s w.1 w.2.1)
    { s with onyx := { s.onyx with writes := s.onyx.writes.filter (fun w => !decide (w.2.2 ≤ now)) } }

/-- LOOP_STATE (R262). -/
def loopStateView (s : State) (n : Nat) : Nat := rd (loopWrites s) (K.loopState n)

/-- A write of LOOP_CTRL: its place in the handshake of R50 takes up to 3 Onyx clocks. FREE VALUE (log entry 8).
DEDUCED (log entry 67). -/
def loopCtrlEff (n v : Nat) (s : State) : Res :=
  let s := loopWrites s
  let at_ := onyxNow s + (Config.free 30 (n + 8 * s.tick.clock)).toNat % 4
  okR (loopWrites { wr s (K.loopCtrl n) (v % 2) with onyx := { s.onyx with writes := s.onyx.writes ++ [(n, v % 2, at_)] } })
def execLoopArm (r : Req) (loop : Nat) (s : State) : Host.Outcome State Fault Refusal :=
  done s (access s r (K.loopCtrl loop) true (loopCtrlEff loop 1))
def execLoopDisarm (r : Req) (loop : Nat) (s : State) : Host.Outcome State Fault Refusal :=
  done s (access s r (K.loopCtrl loop) true (loopCtrlEff loop 0))

/-- LOOP_SETTLED and LOOP_FAULT (R262). -/
def execLoopSettled (loop : Nat) (s : State) : Host.Outcome State Fault Refusal :=
  done s (let s := loopWrites s
    if loop < 8 ∧ rd s (K.loopState loop) = 1 then wr s (K.loopState loop) 2 else s)
def execLoopFault (loop : Nat) (s : State) : Host.Outcome State Fault Refusal :=
  done s (let s := loopWrites s
    if loop < 8 ∧ rd s (K.loopState loop) = 1 then onyxRaise (wr s (K.loopState loop) 4) Ev.tamperLoopFault loop else s)

/-- The level a list of samples gives loop `n`, where it is one the loop alarms on: ARMED, and a mismatch (R261, R262). -/
def loopAlarm (s : State) (samples : List (Nat × Nat)) (n : Nat) : Option Nat :=
  (samples.find? (fun e => e.1 == n)).bind (fun e =>
    if rd s (K.loopState n) = 2 ∧ mismatch s n (e.2 % 4) then some (e.2 % 4) else none)

/-- TAMPER_LOOP_ALARM (R262, R264–R266, R272): the levels of one Onyx clock. With main power one ZEROISE at once and the wipe after
it; a wipe that runs covers it. One entry a loop, in their order. DEDUCED (log entry 38). -/
def execTamperLoopAlarm (samples : List (Nat × Nat)) (s : State) : Host.Outcome State Fault Refusal :=
  done s (let s := loopWrites s
    let hit := (List.range 8).filterMap (fun n => (loopAlarm s samples n).map (fun level => (n, level)))
    if hit.isEmpty then s
    else
      let s := hit.foldl (fun s e => inc (wr s (K.loopState e.1) 3) (K.loopAlarms e.1) 1) (wrBit s K.onyxStatus 2 true)
      let s := if s.onyx.main then
          let s := zeroise s 3
          setKeys s { s.keys with wipeDue := s.keys.wipeDue || !s.keys.wiping }
        else s
      hit.foldl (fun s e => fire s e.1 e.2) s)

/-! Onyx clock and power (R264, R275, R277). -/

/-- The RC oscillator takes over, and the crystal takes over once more (R52, R277). -/
def crystalFail (s : State) : State :=
  clkFall (fireOnce (wrBit (rtcSet s (rtcNow s)) K.onyxStatus 1 true) 28 0) 24
def crystalBack (s : State) : State :=
  if backupOsc s then
    let s1 := rtcSet { s with onyx := { s.onyx with fired := s.onyx.fired.filter (· != 28) } } (rtcNow s)
    wrBit (if s.boot.engine then wrBit s1 K.clkLocked 24 true else s1) K.onyxStatus 1 false
  else s

/-- ONYX_CRYSTAL_FAIL and ONYX_CRYSTAL_RESTORE. -/
def execOnyxCrystalFail (s : State) : Host.Outcome State Fault Refusal := done s (crystalFail s)
def execOnyxCrystalRestore (s : State) : Host.Outcome State Fault Refusal := done s (crystalBack s)

/-- Onyx takes its supply from VBAT: without main power always; with it where the cell is the higher supply (R275). FREE VALUE
(log entry 8). -/
def fromVbat (s : State) (main : Bool) : Bool := !main || (Config.free 18 s.tick.clock).toNat % 2 == 1

/-- ONYX_POWER_ON (R275). DEDUCED (log entry 38). -/
def execOnyxPowerOn (s : State) : Host.Outcome State Fault Refusal :=
  done s (let s1 := forNat 8 (fun n s => wr (wr (wr s (K.loopCtrl n) 0) (K.loopState n) 0) (K.loopAlarms n) 0) s
    let s1 := wr (wr (wr (wr s1 K.tamperFlags 0) K.logAck 0) K.logLost 0) K.rtcSyncTb0 0
    let o := { s1.onyx with log := [], seq := 0, ptr := 0, rtc := 0, rtcAt := s.tick.clock, fired := [], seeds := [], began := [], writes := [], ticks := 0 }
    wrBit (wr { s1 with onyx := o } K.onyxStatus 32) K.onyxStatus 6 (fromVbat s s.onyx.main))

/-- MAIN_POWER_CHANGE (R264, R275). -/
def execMainPowerChange (present : Bool) (s : State) : Host.Outcome State Fault Refusal :=
  done s (wrBit { s with onyx := { s.onyx with main := present } } K.onyxStatus 6 (fromVbat s present))

end Sys2Proof.Machine
end

