-- ==== Sys2Proof/Machine/Life.lean ====
section
/-! DEFINITION. Life-cycle states and debug authorisation (R281–R298). -/

namespace Sys2Proof.Machine

/-- Life-cycle state codes (R281). -/
def Lc.fab : Nat := 0
def Lc.enrol : Nat := 1
def Lc.owned : Nat := 2
def Lc.returned : Nat := 3
def Lc.scrap : Nat := 4
def Lc.lost : Nat := 5

/-- The words of pair `k` when taken (R283). -/
def pairWords (k : Nat) : Nat × Nat := (0xC35A1E00 + k, 0x3CA5E200 - 1 - k)
def pairBlank : Nat × Nat := (2 ^ 32 - 1, 2 ^ 32 - 1)

/-- The state the pairs give (R284). DEDUCED (log entry 39). -/
def decideLife (pairs : List (Nat × Nat)) : Nat :=
  let pair := fun (k : Nat) => pairs.getD (k - 1) pairBlank
  let taken := fun (k : Nat) => pair k == pairWords k
  if [1, 2, 3, 4].any (fun k => !taken k && pair k != pairBlank) then Lc.lost
  else if taken 4 then Lc.scrap
  else if taken 3 then (if taken 1 && taken 2 then Lc.returned else Lc.lost)
  else if taken 2 then (if taken 1 then Lc.owned else Lc.lost)
  else if taken 1 then Lc.enrol
  else Lc.fab

/-- Scan and debug as a state allows them (R281). DEDUCED (log entry 50). -/
def lifeAccess (s : State) (st : Nat) : State :=
  { s with life := { s.life with state := st, scan := st == Lc.fab, byAuth := false,
                                 scope := if st = Lc.fab ∨ st = Lc.enrol ∨ st = Lc.returned then 2 else 0 } }

/-- LC_STATUS and DBG_STATE (R298). -/
def cleanup (s : State) : Bool := rdBit s K.lcStatus 4
def lcStatusView (s : State) : Nat := b2n s.life.trans.isSome + 2 * s.life.stepNo + 16 * b2n (cleanup s)
def dbgStateView (s : State) : Nat := b2n s.life.scan + 2 * s.life.scope + 8 * b2n s.life.byAuth

/-! Transitions (R285–R289). -/

/-- A transition the table of R285 lists, through the debug port or a session. DEDUCED (log entry 39). -/
def lcListed (st target : Nat) (dbg : Bool) : Bool :=
  (dbg && st == Lc.fab && target == Lc.enrol) || (st == Lc.enrol && target == Lc.owned) ||
  (!dbg && st == Lc.owned && target == Lc.returned) ||
  (target == Lc.scrap && (st == Lc.fab || st == Lc.enrol || st == Lc.returned || (!dbg && st == Lc.owned)))

/-- A write of LC_REQUEST (R285–R287). DEDUCED (log entry 39). -/
def lcRequestEff (r : Req) (v : Nat) (s : State) : Res :=
  let t := v - 0x4C430000
  if v < 0x4C430000 ∨ !lcListed s.life.state t (r.ch == 4) then abortR s .unsupportedValue
  else if s.life.trans.isSome || cleanup s || clearing s || s.keys.wiping || zeroisePending s || armed s || rd s K.monNow != 0 ||
    (t == Lc.owned && (rd s K.rootSource == 0 || !s.life.devCert || s.life.enrolling)) then abortR s .wrongState
  else if t = Lc.returned ∨ t = Lc.scrap then
    let s := zeroise s 5
    okR { s with life := { s.life with trans := some t, stepNo := 1 } }
  else okR { s with life := { s.life with trans := some t, stepNo := 3 } }

/-- LC_TO_ENROL, LC_TO_OWNED, LC_TO_RETURNED, LC_TO_SCRAP. -/
def execLcToEnrol (r : Req) (s : State) : Host.Outcome State Fault Refusal :=
  done s (access s r K.lcRequest true (lcRequestEff r 0x4C430001))
def execLcToOwned (r : Req) (s : State) : Host.Outcome State Fault Refusal :=
  done s (access s r K.lcRequest true (lcRequestEff r 0x4C430002))
def execLcToReturned (r : Req) (s : State) : Host.Outcome State Fault Refusal :=
  done s (access s r K.lcRequest true (lcRequestEff r 0x4C430003))
def execLcToScrap (r : Req) (s : State) : Host.Outcome State Fault Refusal :=
  done s (access s r K.lcRequest true (lcRequestEff r 0x4C430004))

/-- The window closes (R287, R288): the pair taken, the new state and its cleanup; or a pair left partial, and the state as
it was until the next start. DEDUCED (log entry 39). -/
def lcWindow (s : State) (t : Nat) (readBackOk : Bool) : State :=
  let s := { s with life := { s.life with trans := none, stepNo := 0 } }
  let pair := if readBackOk then pairWords t else ((pairWords t).1, 2 ^ 32 - 1)
  let s := { s with life := { s.life with pairs := lset s.life.pairs (t - 1) pair } }
  if readBackOk then
    let s := raise (lifeAccess s t) Ev.lcChanged 0 0
    let s := if t = Lc.scrap then { dropKeys s with life := { s.life with enrolling := false } } else s
    if t = Lc.returned ∨ t = Lc.scrap then wrBit s K.lcStatus 4 true else s
  else s

/-- An erased image. -/
def imageGone : Image := ⟨false, false, false, 0, 0, true⟩

/-- The cleanup of the state (R288): what it names is blank or burnt when it ends. DEDUCED (log entry 42). -/
def cleanupRun (s : State) : State :=
  let s := setConsent (setKeys s { s.keys with records := [], binding := none, bindRecs := [] }) 0
  let s := if s.life.state = Lc.scrap then
      let s := setKeys s { s.keys with helper := none, check := 0, block := blockFull }
      wr { s with life := { s.life with blockBits := true, devCert := false, trim := false },
                  boot := { s.boot with imgA := imageGone, imgB := imageGone } } K.fwPrefer 0
    else s
  wrBit s K.lcStatus 4 false

/-- LC_CLEANUP_DONE. -/
def execLcCleanupDone (s : State) : Host.Outcome State Fault Refusal := done s (if cleanup s then cleanupRun s else s)

/-! Enrolment (R233, R234, R292). -/

/-- ENROL_START. DEDUCED (log entry 39). -/
def enrolEff (v : Nat) (s : State) : Res :=
  if v ≠ 1 then abortR s .unsupportedValue
  else if s.life.state ≠ Lc.enrol ∨ s.life.enrolling ∨ rd s K.rootSource ≠ 0 ∨ s.life.trans.isSome then abortR s .wrongState
  else okR { wr s K.enrolResult 3 with life := { s.life with enrolling := true } }
def execEnrolStart (r : Req) (s : State) : Host.Outcome State Fault Refusal :=
  done s (access s r K.enrolStart true (enrolEff 1))

/-- Step 2 of enrolment on a pass (R234, R292): the helper data of the last read's response and the check value. DEDUCED (log
entry 66). -/
def enrolPuf (s : State) (response : Nat) : State × List Byte :=
  (setKeys s { s.keys with helper := some response, check := rootCheck (pufRoot response) }, pufRoot response)

/-- Step 2 on a failure: a root from the TRNG burnt into the fall-back block. -/
def enrolBlock (s : State) : State × List Byte :=
  let (root, s) := draw s 32
  ({ setKeys s { s.keys with block := blockOf root } with life := { s.life with blockBits := true } }, root)

/-- Steps 3 and 4: ROOT_SOURCE burnt, DEVID derived. -/
def enrolSource (s : State) (src : Nat) (root : List Byte) : State :=
  setKeys (wr (wr s K.enrolResult src) K.rootSource src) { s.keys with devid := some (devidFrom root) }

/-- ENROL_DONE (R292). -/
def execEnrolDone (reads : List Nat) (flashOk : Bool) (s : State) : Host.Outcome State Fault Refusal :=
  done s (if !s.life.enrolling then s
  else
    let s := { s with life := { s.life with enrolling := false } }
    if s.life.blockBits then wr s K.enrolResult 4
    else
      let pass := pufPasses reads
      let (s, root) := if pass then enrolPuf s (reads.getLastD 0) else enrolBlock s
      if !flashOk then wr s K.enrolResult 5 else enrolSource s (if pass then 1 else 2) root)

/-! Reopening debug (R293–R296). -/

/-- DEBUG_CONSENT_WRITE (R293). -/
def consentEff (v : Nat) (s : State) : Res := if 2 < v then abortR s .unsupportedValue else okR (setConsent s v)
def execDebugConsentWrite (r : Req) (v : Nat) (s : State) : Host.Outcome State Fault Refusal :=
  done s (access s r K.debugConsent true (consentEff (v % 256)))

/-- Ticks a challenge stays good (R295). DEDUCED (log entry 10). -/
def chalTicks : Nat := 6000000

/-- A challenge is good for a response. -/
def chalGood (s : State) : Bool := !s.life.chal.isEmpty && decide (s.tick.elapsed < s.life.chalAt + chalTicks)

/-- DBG_CHALLENGE and DBG_RESULT (R298). -/
def dbgChallengeView (s : State) : Nat := if chalGood s then ofBytes s.life.chal else 0
def dbgResultView (s : State) : Nat :=
  rd s K.dbgResult + b2n (s.life.checking.isSome || svcBusy s (.challenge [] 0)) * 2 ^ 31

/-- The part of a challenge that is signed (R294). -/
def chalBody (s : State) (scope : Nat) (nonce : List Byte) : List Byte :=
  [0, 1, scope, s.life.state] ++ s.unit.serial ++ toBytes 4 (epochOf s) ++ nonce ++ List.replicate 8 0

/-- DBG_REQUEST (R294): an earlier challenge is gone, and the new one goes to Jasper partition 0 to be signed.
DEDUCED (log entry 39). -/
def dbgRequestEff (v : Nat) (s : State) : Res :=
  if v ≠ 1 ∧ v ≠ 2 then abortR s .unsupportedValue
  else if s.keys.devid = none ∨ s.life.state ≠ Lc.owned ∨ rd s K.debugConsent < v ∨ 8 ≤ rd s K.dbgFails then abortR s .wrongState
  else
    let (nonce, s) := draw s 32
    okR (svcIssue { s with life := { s.life with chal := [], resp := [] } } (.challenge (chalBody s v nonce) v) 1)
def execDbgRequest (r : Req) (v : Nat) (s : State) : Host.Outcome State Fault Refusal :=
  done s (access s r K.dbgRequest true (dbgRequestEff (v % 256)))

/-- DBG_RESPONSE_WRITE (R295): the 24th word starts the check and uses the challenge up. DEDUCED (log entry 39). -/
def dbgResponseEff (v : Nat) (s : State) : Res :=
  if !chalGood s || s.life.checking.isSome then abortR s .wrongState
  else
    let l := s.life
    let ws := l.resp ++ [v]
    if ws.length < 24 then okR { s with life := { l with resp := ws } }
    else okR (svcIssue { s with life := { l with resp := [], chal := [], checking := some (l.chal, ws, l.chalScope) } } .check 1)
def execDbgResponseWrite (r : Req) (v : Nat) (s : State) : Host.Outcome State Fault Refusal :=
  done s (access s r K.dbgResponse true (dbgResponseEff (v % 2 ^ 32)))

/-- The response carries the service's signature over the challenge. -/
def toerathSigned (chal : List Byte) (resp : List Word) : Bool :=
  let key := Config.toerathKey.toNat
  let b := wordsToBytes resp
  ecdsaVerify p384 (key / 2 ^ 384) (key % 2 ^ 384) (sha384 (chal.take 64)) (ofBytes (b.take 48)) (ofBytes (b.drop 48))

/-- DBG_CHECK_DONE (R295): once the verification in Jasper has completed. DEDUCED (log entry 39). -/
def execDbgCheckDone (s : State) : Host.Outcome State Fault Refusal :=
  done s (match s.life.checking with
  | none => s
  | some (chal, resp, scope) =>
    if svcBusy s .check then s
    else
    let s := { s with life := { s.life with checking := none } }
    let res := if !Config.toerathKeyOk then 4 else if !toerathSigned chal resp then 2
      else if rd s K.debugConsent < scope ∨ s.life.state ≠ Lc.owned then 3 else 1
    let s := wr s K.dbgResult res
    if res = 1 then
      raise (wr { s with life := { s.life with scope := scope, byAuth := true } } K.dbgFails 0) Ev.dbgOpened 0 0
    else raise (wr s K.dbgFails (Nat.min 8 (rd s K.dbgFails + 1))) Ev.dbgAuthFail 0 0)

/-- DBG_CHALLENGE_EXPIRE (R295). -/
def execDbgChallengeExpire (s : State) : Host.Outcome State Fault Refusal :=
  done s (if chalGood s then s else { s with life := { s.life with chal := [], resp := [] } })

end Sys2Proof.Machine
end

