-- ==== Sys2Proof/Machine/Attach.lean ====
section
/-! DEFINITION. Secure attach, sessions and the owner binding (R302–R305). -/

namespace Sys2Proof.Machine

/-- A change of the attachment of channel `c`. -/
def attach (s : State) (c : Nat) : Attach := (chan s c).attach
def setAttach (s : State) (c : Nat) (a : Attach) : State := setChan s c { chan s c with attach := a }

/-! Sessions (R304). -/

/-- The staging groups a channel has claimed are released, their copies discarded (R125, R304). -/
def discardAll (s : State) (c : Nat) : State :=
  (s.claims.filter (fun e => e.2.1 == c)).foldl (fun s e =>
    let s := discard s e.1
    if e.1 = Grp.hbm then { s with hbm := { s.hbm with buf := none } }
    else if e.1 = Grp.beryl then { s with beryl := { s.beryl with ptr := 0 } }
    else s) s

/-- The session of channel `c` ends (R304, R422, R434). -/
def endSession (s : State) (c : Nat) : State :=
  let x := chan s c
  match x.sess with
  | none => s
  | some _ =>
    let s := jReleaseChan s c
    let sub := match x.sub with | some b => if b.sess then none else some b | none => none
    let st := if x.attach.step = 0 then 0 else x.attach.status
    let s := setChan s c { x with sess := none, sub := sub, attach := { x.attach with status := st } }
    raise (wr (wr (discardAll s c) (K.sessionId c) 0) (K.sessionVersion c) 0) Ev.sessionClosed c 0

/-- A new session of channel `c` (R304, R422); an old one ends in the same clock. DEDUCED (log entry 40). -/
def openSession (s : State) (c : Nat) : State :=
  let s := endSession s c
  let a := attach s c
  let key := kdf a.shared (ascii "OR-SESS") (a.nd ++ a.nh) 32
  let (b, s) := if c = 0 then ([], s) else draw s 4
  let id := if c = 0 then 0 else ofBytes b % (2 ^ 32 - 1) + 1
  let x := chan s c
  let a := { a with step := 0, status := 2, bad := 0, shared := [], nd := [], nh := [], t1 := [], proof := [] }
  let s := setChan s c { x with sess := some ⟨key, id, 0, 0, 0, s.tick.clock⟩, attach := a }
  if c = 0 then s else wr (wr s (K.sessionId c) id) (K.sessionVersion c) 2

/-- Core clocks of SESSION_TIMEOUT seconds. -/
def timeoutCc (s : State) (c : Nat) : Nat := (attach s c).timeout * 1250000000

/-- SESSION_TIMEOUT (R304). -/
def execSessionTimeout (c : Nat) (s : State) : Host.Outcome State Fault Refusal :=
  done s (match (chan s c).sess with
  | some x => if x.seen + timeoutCc s c ≤ s.tick.clock then endSession s c else s
  | none => s)

/-- SESSION_TIMEOUT written (R320). -/
def sessionTimeoutEff (r : Req) (v : Nat) (s : State) : Res :=
  if v < 1 ∨ 3600 < v ∨ 4 ≤ r.ch then abortR s .unsupportedValue else okR (setAttach s r.ch { attach s r.ch with timeout := v })

/-! The handshake (R302, R303). -/

/-- Ticks a proof may take and a lockout lasts, refusals that lock (R303). DEDUCED (log entry 10). -/
def proofTicks : Nat := 6000000
def lockTicks : Nat := 100000
def refusalMax : Nat := 8

/-- The attachment of channel `c` is refused (R303). DEDUCED (log entry 40). -/
def refuse (s : State) (c code : Nat) : State :=
  let a := attach s c
  let bad := Nat.min refusalMax (a.bad + 1)
  let lock := decide (refusalMax ≤ bad)
  let a := { a with step := 0, status := if lock then 8 else code, bad := bad, locked := if lock then some (s.tick.elapsed + lockTicks) else a.locked, outBuf := [], t1 := [], nh := [], nd := [], shared := [], proof := [] }
  raise (setAttach s c a) Ev.attachFail c 0

/-- A lockout is in force. DEDUCED (log entry 40). -/
def lockedOut (s : State) (c : Nat) : Bool :=
  match (attach s c).locked with
  | some t => decide (s.tick.elapsed < t)
  | none => false

/-- Bytes of a hello. -/
def helloLen : Nat := 96

/-- Jobs in partition 0 (R302): EC_KEYGEN, ECDH and ECDSA_SIGN for a reply; ECDSA_VERIFY for a proof, and EC_VALIDATE where a key is
presented for a first binding. -/
def replyJobs : Nat := 3
def proofJobs (s : State) (c : Nat) (p : List Byte) : Nat :=
  if c = 0 ∧ s.keys.binding = none ∧ fieldBE p 0 4 % 2 = 1 then 2 else 1

/-- A write of ATTACH_CTRL (R302–R304). DEDUCED (log entry 40). -/
def attachCtrlEff (r : Req) (v : Nat) (s : State) : Res :=
  let c := r.ch
  let a := attach s c
  let fresh := { a with inBuf := [], ptr := 0 }
  if v = 0 ∨ 3 < v then abortR s .unsupportedValue
  else if 4 ≤ c then abortR s .wrongState
  else if v = 1 then
    if lockedOut s c then okR (raise (setAttach s c { fresh with status := 8 }) Ev.attachFail c 0)
    else
      let hello := (a.inBuf ++ List.replicate helloLen 0).take helloLen
      let a := { fresh with step := 1, status := 0, t1 := hello, nh := [], nd := [], shared := [], outBuf := [], proof := [], locked := none }
      okR (svcIssue (svcDrop (setAttach s c a) (.proof c)) (.reply c) replyJobs)
  else if v = 2 then
    if a.step ≠ 2 then abortR s .wrongState
    else if a.readyAt + proofTicks < s.tick.elapsed then okR (refuse (setAttach s c fresh) c 7)
    else okR (svcIssue (setAttach s c { fresh with step := 3, proof := a.inBuf }) (.proof c) (proofJobs s c a.inBuf))
  else okR (endSession (setAttach s c fresh) c)

/-- ATTACH_HELLO, ATTACH_PROOF and ATTACH_END. DEDUCED (log entry 40). -/
def execAttachHello (r : Req) (s : State) : Host.Outcome State Fault Refusal :=
  done s (access s r K.attachCtrl true (attachCtrlEff r 1))
def execAttachProof (r : Req) (s : State) : Host.Outcome State Fault Refusal :=
  done s (access s r K.attachCtrl true (attachCtrlEff r 2))
def execAttachEnd (r : Req) (s : State) : Host.Outcome State Fault Refusal :=
  done s (access s r K.attachCtrl true (attachCtrlEff r 3))

/-- ATTACH_DATA: a write adds to what the host sends, a read takes the next word of the reply (R302).
DEDUCED (log entry 40). -/
def attachDataEff (r : Req) (v : Nat) (s : State) : Res :=
  let a := attach s r.ch
  if 4 ≤ r.ch ∨ 1024 ≤ a.inBuf.length then abortR s .wrongState
  else okR (setAttach s r.ch { a with inBuf := a.inBuf ++ toBytes 4 v })
def attachDataRead (r : Req) (s : State) : Res :=
  let a := attach s r.ch
  if 4 ≤ r.ch then abortR s .wrongState
  else okV (setAttach s r.ch { a with ptr := a.ptr + 1 }) [nth (bytesToWords 256 a.outBuf) a.ptr]
def execAttachDataAccess (r : Req) (a : Acc) (s : State) : Host.Outcome State Fault Refusal :=
  done s (match a with
  | .read => access s r K.attachData false (attachDataRead r)
  | .write v => access s r K.attachData true (attachDataEff r (v % 2 ^ 32)))

/-- Members of the caller's attachment (R320). -/
def attachMemberRead (r : Req) (f : Attach → Nat) (s : State) : Res := okV s [f (attach s r.ch)]

/-- DEVID may attach (R254, R303). -/
def devidOf (s : State) : Option Nat :=
  if s.life.state = Lc.fab ∨ s.life.state = Lc.scrap ∨ s.life.state = Lc.lost then none else s.keys.devid

/-- A P-256 or P-384 point in range and on its curve (R227). -/
def pointOk (c : JCurve) (x y : Nat) : Bool := decide (x < c.p) && decide (y < c.p) && !(x == 0 && y == 0) && onCurve c x y

/-- The certificate as the reply carries it: at most what 1,024 bytes leave. DEDUCED (log entry 40). -/
def certBytes : List Byte := (Config.devidCert.map BitVec.toNat).take 864

/-- ATTACH_REPLY_READY (R302, R303): once the jobs in Jasper have completed, the reply is signed, or the attachment is refused. A
signing that draws on (R223) leaves the reply unready. -/
def execAttachReplyReady (c : Nat) (s : State) : Host.Outcome State Fault Refusal :=
  done s (let a := attach s c
    if 4 ≤ c ∨ a.step ≠ 1 ∨ svcBusy s (.reply c) then s
    else
      let hello := a.t1
      let x := fieldBE hello 32 32
      let y := fieldBE hello 64 32
      match devidOf s with
      | none => refuse s c 3
      | some devid =>
        let (nd, s) := draw s 32
        let (d, s) := drawScalar s p256.n
        if !pointOk p256 x y then refuse s c 5
        else
          let pub := toBytes 64 (pubOf (some d))
          let shared := match ptMul p256 d (some (x, y)) with | some (x, _) => toBytes 32 x | none => toBytes 32 0
          let t1 := sha256 (hello ++ nd ++ pub)
          match signBy s devid t1 with
          | (none, s) => s
          | (some sig, s) =>
            let out := nd ++ pub ++ sig ++ certBytes
            setAttach s c { attach s c with step := 2, status := 1, outBuf := out, ptr := 0, t1 := t1, nh := hello.take 32, nd := nd, shared := shared, readyAt := s.tick.elapsed })

/-- The verdict on a proof (R302, R303, R305): the status, and the binding it makes. -/
def proofVerdict (s : State) (c : Nat) : Nat × Option (Nat × List Byte × List Byte) :=
  let a := attach s c
  let p := a.proof
  let h := fieldBE p 0 4
  let curve := h / 2 ^ 24
  let withKey := h % 2 == 1
  let n := if curve = 0 then 64 else 96
  let jc := if curve = 0 then p256 else p384
  let sent := (p.drop 4).take n
  let sig := if withKey then p.drop (4 + n) else p.drop 4
  let t2 := sha256 (a.t1 ++ ascii "OR-HOST" ++ p.take 4 ++ (if withKey then sent else []))
  let formOk := decide (curve ≤ 1) && sig.length == n && p.length == 4 + n + (if withKey then n else 0)
  let signed := fun (key : List Byte) =>
    ecdsaVerify jc (ofBytes (key.take (n / 2))) (ofBytes (key.drop (n / 2))) t2 (ofBytes (sig.take (n / 2))) (ofBytes (sig.drop (n / 2)))
  match s.keys.binding with
  | none =>
    if c ≠ 0 ∨ !withKey then (4, none)
    else if !formOk then (6, none)
    else if !pointOk jc (ofBytes (sent.take (n / 2))) (ofBytes (sent.drop (n / 2))) then (5, none)
    else if signed sent then (2, some (curve, sent, [])) else (6, none)
  | some (bc, key, _) =>
    if !formOk || curve != bc || (withKey && sent != key) then (6, none)
    else if signed key then (2, none) else (6, none)

/-- A binding record: the curve byte and the public key, a first binding carrying no certificate (R305). -/
def bindWords (curve : Nat) (key : List Byte) : List Word :=
  bytesToWords 64 ([curve] ++ key ++ List.replicate (3 - key.length % 4) 0)

/-- A store of a binding record starts. DEDUCED (log entry 40). -/
def bindStart (s : State) (ws : List Word) (first : Bool) : State :=
  setKeys s { s.keys with bindJob := some ws, bindFirst := first }

/-- ATTACH_OPEN (R302–R305), once the jobs in Jasper have completed: a first binding goes to flash (R249). -/
def execAttachOpen (c : Nat) (s : State) : Host.Outcome State Fault Refusal :=
  done s (if 4 ≤ c ∨ (attach s c).step ≠ 3 ∨ svcBusy s (.proof c) then s
  else
    let (st, bind) := proofVerdict s c
    if st = 2 then
      let s := openSession s c
      match bind with
      | some (curve, key, _) => bindStart s (bindWords curve key) true
      | none => s
    else refuse s c st)

/-- ATTACH_EXPIRE and ATTACH_LOCKOUT_END (R303). -/
def execAttachExpire (c : Nat) (s : State) : Host.Outcome State Fault Refusal :=
  done s (if c < 4 ∧ (attach s c).step = 2 ∧ (attach s c).readyAt + proofTicks < s.tick.elapsed then refuse s c 7 else s)
def execAttachLockoutEnd (c : Nat) (s : State) : Host.Outcome State Fault Refusal :=
  done s (if c < 4 ∧ !lockedOut s c then setAttach s c { attach s c with locked := none } else s)

/-! The owner binding (R305). -/

/-- OWNER_BIND and OWNER_BIND_WRITE as read (R320). -/
def ownerBindView (s : State) : Nat :=
  match s.keys.binding with
  | some (c, _, cert) => 1 + 2 * c + 4 * b2n !cert.isEmpty
  | none => 0
def ownerBindWriteView (s : State) : Nat := b2n s.keys.bindJob.isSome

/-- The word OWNER_BIND_DATA moves next. -/
def bindPtr (s : State) : Nat := Nat.min s.keys.bindPtr (stageOf s Grp.ownerBind).length

/-- OWNER_BIND_DATA, up to 1,024 words. -/
def ownerBindDataEff (r : Req) (v : Nat) (s : State) : Res :=
  let p := bindPtr s
  if 1024 ≤ p then abortR s .wrongState
  else claimed s Grp.ownerBind r (fun s =>
    let ws := stageOf s Grp.ownerBind
    okR (setKeys (setStage s Grp.ownerBind (ws.take p ++ [v] ++ ws.drop (p + 1))) { s.keys with bindPtr := p + 1 }))
def ownerBindDataRead (s : State) : Res :=
  let p := bindPtr s
  okV (setKeys s { s.keys with bindPtr := p + 1 }) [nth (stageOf s Grp.ownerBind) p]

/-- A binding record: curve byte, public key, certificate. DEDUCED (log entry 40). -/
def bindRecord (ws : List Word) : Option (Nat × List Byte × List Byte) :=
  let b := wordsToBytes ws
  let curve := nth b 0
  let n := if curve = 0 then 64 else 96
  if 1 < curve ∨ b.length < 1 + n then none
  else some (curve, (b.drop 1).take n, if ws.length ≤ (1 + n + 3) / 4 then [] else b.drop (1 + n))

/-- OWNER_BIND_WRITE (R305). DEDUCED (log entry 40). -/
def ownerBindEff (r : Req) (v : Nat) (s : State) : Res :=
  if v ≠ 1 then abortR s .unsupportedValue
  else claimed s Grp.ownerBind r (fun s =>
    let ws := stageOf s Grp.ownerBind
    if (bindRecord ws).isNone then abortR s .unsupportedValue
    else if s.keys.bindJob.isSome then abortR s .wrongState
    else
      let s := bindStart s ws false
      okR (discard (setKeys s { s.keys with bindPtr := 0 }) Grp.ownerBind))
def execOwnerBindWrite (r : Req) (s : State) : Host.Outcome State Fault Refusal :=
  done s (access s r K.ownerBindWrite true (ownerBindEff r 1))

/-- The current record of the binding (R248, R249): the valid one with the higher SEQ, A where both are equal. -/
def bindCurrent (t : Tbl (Option (Nat × List Word))) : Option (Nat × Nat × List Word) :=
  match tget none t 0, tget none t 1 with
  | some a, some b => some (if a.1 < b.1 then (1, b) else (0, a))
  | some a, none => some (0, a)
  | none, some b => some (1, b)
  | none, none => none

/-- The store ends (R249, R305): the record that is not current takes the new one, or is left blank or invalid; the current one
stands. After the last SEQ nothing is written. DEDUCED (log entry 40). -/
def ownerBindEnd (s : State) (flashOk : Bool) : State :=
  match s.keys.bindJob with
  | some ws =>
    let cur := bindCurrent s.keys.bindRecs
    let seq := match cur with | some (_, n, _) => n | none => 0
    let target := match cur with | some (i, _) => 1 - i | none => 0
    let recs := if seq = 0xFFFFFFFE then s.keys.bindRecs
      else tset none s.keys.bindRecs target (if flashOk then some (seq + 1, ws) else none)
    let binding := (bindCurrent recs).bind (fun e => bindRecord e.2.2)
    let first := s.keys.bindFirst && flashOk
    let s := setKeys s { s.keys with bindJob := none, bindFirst := false, bindRecs := recs, binding := binding }
    if first then raise s Ev.ownerBound 0 0 else s
  | none => s
def execOwnerBindDone (flashOk : Bool) (s : State) : Host.Outcome State Fault Refusal := done s (ownerBindEnd s flashOk)

end Sys2Proof.Machine
end

