-- ==== Sys2Proof/Machine/Startup.lean ====
section
/-! DEFINITION. Start-up, modes and reset (R436–R453, R267, R319). -/

namespace Sys2Proof.Machine

/-- A two-way outcome the spec leaves open, `i` naming it. FREE VALUE (log entry 8). -/
def freeBit (s : State) (i : Nat) : Bool := bit (Config.free 19 (i + 256 * s.tick.clock)).toNat 0

/-! What a reset finds under way. -/

/-- Flash work a reset cuts short leaves the old contents, the new ones, or a torn sector (R249, R255, R440).
DEDUCED (log entry 41). -/
def tornPkey (s : State) : State :=
  match s.keys.op with
  | some (1, k, reg, z) =>
    if !z && (!pkeyReady s || s.keys.store.isNone || (tget [] s.beryl.regs reg).isEmpty) then s
    else (pkeyStore s k reg true (z || freeBit s 1) (s.keys.store.getD (List.replicate 32 0))).1
  | some (3, k, _, z) =>
    if !z && !pkeyReady s then s
    else
    let gone := fun (s : State) (n : Nat) => if freeBit s (8 + n) then setRecord s n [] else s
    gone (gone s (2 * k)) (2 * k + 1)
  | _ => s

/-- Epoch advances under way have reached the flash or not (R243). -/
def tornEpoch (s : State) : State :=
  forNat s.keys.advance (fun i s => if freeBit s (2 + 4 * i) then advanceOne s else { s with keys := { s.keys with advance := s.keys.advance - 1 } }) s

/-- The target of an update may have been erased (R440). -/
def setImage (s : State) (which : Nat) (i : Image) : State :=
  if which = 0 then { s with boot := { s.boot with imgA := i } } else { s with boot := { s.boot with imgB := i } }

/-- An update ends with its target invalid where it was erased (R440). DEDUCED (log entry 41). -/
def tornUpdate (s : State) (gone : Bool) : State :=
  match s.boot.update with
  | some (which, _, _) =>
    let s := { s with boot := { s.boot with update := none } }
    if gone then setImage s which imageGone else s
  | none => s

/-- An enrolment that a reset interrupts (R292): before step 2 has written anything; with the helper data and check value
written, or the block burnt in part or in whole; with ROOT_SOURCE burnt as well. FREE VALUES (log entry 8).
DEDUCED (log entry 66). -/
def tornEnrol (s : State) : State :=
  if !s.life.enrolling then s
  else
    let s := { s with life := { s.life with enrolling := false } }
    if s.life.blockBits then s
    else
      let puf := (enrolPuf s (Config.free 31 s.tick.clock).toNat).1
      let block := (enrolBlock s).1
      match (Config.free 19 (3 + 256 * s.tick.clock)).toNat % 6 with
      | 0 => s
      | 1 => puf
      | 2 => wr puf K.rootSource 1
      | 3 => block
      | 4 => wr block K.rootSource 2
      | _ => setKeys block { block.keys with block := block.keys.block.take 2 }

/-- All of it. A record store of the owner binding leaves the old or the new record (R249, R305). DEDUCED (log entry 41). -/
def tornFlash (s : State) (updateGone : Bool) : State :=
  ownerBindEnd (tornEnrol (tornUpdate (tornEpoch (tornPkey s)) updateGone)) (freeBit s 4)

/-- Power lost inside a transition: in its window the pair may be blank, partial or taken (R287, R290).
DEDUCED (log entry 41). -/
def tornLife (s : State) : State :=
  match s.life.trans with
  | some t =>
    if s.life.stepNo = 3 then
      let w := pairWords t
      let pair := if freeBit s 5 then (if freeBit s 6 then w else (w.1, 2 ^ 32 - 1)) else (if freeBit s 6 then (w.1, 2 ^ 32 - 1) else pairBlank)
      { s with life := { s.life with pairs := lset s.life.pairs (t - 1) pair } }
    else s
  | none => s

/-! The resets (R450, R451). -/

/-- Objects that live in the Onyx domain, in flash or in antifuse. DEDUCED (log entry 41). -/
def survives (k : Nat) : Bool :=
  let i := k / 256
  (decide (0xB000 ≤ i) && decide (i < 0xB040)) ||
  [K.ownerEpoch, K.debugConsent, K.fwPrefer, K.fwSvn, K.rootSource].contains k

/-- The device reset of cause `cause`; it lasts while RESET_N is low. DEDUCED (log entry 41). -/
def deviceReset (s : State) (cause : Nat) : State :=
  let t := tornFlash s (freeBit s 7)
  let r := State.reset
  let onyx := { t.onyx with rtc := rtcNow t, rtcAt := 0, ptr := 0, ticks := onyxNow t }
  let keys := { r.keys with records := t.keys.records, binding := t.keys.binding, bindRecs := t.keys.bindRecs, helper := t.keys.helper,
                            check := t.keys.check, block := t.keys.block }
  let life := { r.life with state := t.life.state, pairs := t.life.pairs, blockBits := t.life.blockBits, devCert := t.life.devCert,
                            trim := t.life.trim }
  let boot := { r.boot with imgA := t.boot.imgA, imgB := t.boot.imgB, inReset := t.boot.pinLow, pinLow := t.boot.pinLow }
  wr { r with regs := tkeep survives t.regs, unit := s.unit, pending := s.pending, out := s.out, draws := t.draws, onyx := onyx, keys := keys, life := life, boot := boot } K.resetCause cause

/-- A start begins: fresh loop seeds (R261) and the KEY_BLOCK conditions (R273). -/
def startBegin (s : State) : State :=
  keyBlockAtStart (forNat 8 (fun n s => if rdBit s (K.loopCtrl n) 0 then loopSeed s n else s) s)

/-- Objects a controller reset returns to their defaults: the key hierarchy's states, the start's own results. -/
def restarted : List Nat :=
  [K.rootStatus, K.pufAttempts, K.pufWorst, K.pkeyStatus, K.plaintextKeyEn, K.zeroiseCount, K.fwVersion, K.fwImage, K.fwAStatus, K.fwBStatus,
   K.fwUpdateStatus, K.flStatus, K.lcStatus, K.enrolResult, K.dbgResult, K.dbgFails, K.startupTime]

/-- The controller reset of cause `cause` (1 watchdog, 2 command); a start follows. DEDUCED (log entry 41). -/
def controllerReset (s : State) (cause : Nat) : State :=
  let s := tornFlash s true
  let s := closeDebug (forNat 4 (fun c s => endSession s c) s)
  let s := forNat 5 (fun c s => setAttach s c { State.idleChan.attach with timeout := (attach s c).timeout }) s
  let s := forList restarted (fun k s => wr s k (dfltOf k)) s
  let s := wr s K.startupStatus (2048 * b2n (rdBit s K.startupStatus 11))
  let s := wrBit (wrBit (wr s K.berylStatus (dfltOf K.berylStatus)) K.zeroiseStatus 1 false) K.lcStatus 4 false
  let s := dropKeys s
  let s := setKeys s { s.keys with tries := 0, advance := 0, wipeDue := false, wiping := false, op := none, named := [], bindPtr := 0, link := none, linkCnt := 0 }
  let life := { s.life with chal := [], resp := [], checking := none }
  let boot := { s.boot with fw := false, onyxUp := false, steps := [1, 6, 7], began := s.tick.clock }
  let s := { s with jasper := State.reset.jasper, beryl := State.reset.beryl, life := life, boot := boot, fab := { s.fab with lock := false } }
  let c := rd s K.resetCause
  startBegin (wr s K.resetCause (setBits (setBits c 7 4 cause) 31 16 ((bits c 31 16 + 1) % 2 ^ 16)))

/-- A lane's group is in use. -/
def usedGroups (s : State) : List Nat := (List.range 8).filter (fun n => mode s n != 0)

/-- The lanes, the PCS and the framers stop; no clock counts as lost. DEDUCED (log entry 41). -/
def lanesOff (s : State) : State :=
  forList (usedGroups s) (fun n s =>
    let s := forList (groupLanes n) (fun m s => laneStop s m) s
    wrBit (wrBit (pcsStop (framingStop s n) n) K.clkLocked (2 + n) false) K.clkLocked (10 + n) false) s

/-- They start again in state 1 (R449, R451). -/
def lanesOn (s : State) : State :=
  forList (usedGroups s) (fun n s => forList (groupLanes n) (fun m s => laneStart s m) s) s

/-- The data-path reset: the packet buffer and every frame are gone (R451). DEDUCED (log entry 41). -/
def datapathReset (s : State) : State :=
  let ques := s.dp.ques.map (fun e => (e.1, e.2.map (fun q => { q with depth := 0, deficit := 0 })))
  let dp := { s.dp with outq := [], slow := [], inq := [], flying := [], ques := ques }
  let s := wrField (forNat 4 (fun k s => wr s (K.bufUsed k) 0) { s with dp := dp, assoc := { s.assoc with pred := [] } }) K.armStatus 2 0 0
  lanesOff { s with fab := { s.fab with lock := false }, boot := { s.boot with dpReset := true } }

/-- DATAPATH_RESET_DONE. -/
def execDatapathResetDone (s : State) : Host.Outcome State Fault Refusal :=
  done s (if s.boot.dpReset then lanesOn { s with boot := { s.boot with dpReset := false } } else s)

/-- Kinds of reset: 1 RESET_N low, 2 VCORE, 3 clock loss, 4 the command, 5 watchdog, 6 controller command, 7 data path.
DEDUCED (log entry 41). -/
def doReset (s : State) (kind : Nat) : State :=
  match kind with
  | 5 => controllerReset s 1
  | 6 => controllerReset s 2
  | 7 => datapathReset s
  | k => deviceReset s k

/-- A device reset outranks a controller reset, and that a data-path reset, when several are held back.
DEDUCED (log entry 41). -/
def resetRank (kind : Nat) : Nat := if kind = 7 then 1 else if kind = 5 ∨ kind = 6 then 2 else 3

/-- Ask for a reset: held back while a life-cycle transition runs its steps 1 to 3 (R287, R450). DEDUCED (log entry 41). -/
def requestReset (s : State) (kind : Nat) : State :=
  if s.life.trans.isSome then
    let old := s.life.heldReset
    let new := match old with | some o => if resetRank o < resetRank kind then kind else o | none => kind
    { s with life := { s.life with heldReset := some new } }
  else doReset s kind

/-- RESET_N_ASSERT and RESET_N_RELEASE (R260, R436, R450): the pin, and the reset it asks for. -/
def execResetNAssert (s : State) : Host.Outcome State Fault Refusal :=
  doneReset s (requestReset { s with boot := { s.boot with pinLow := true } } 1)
def execResetNRelease (s : State) : Host.Outcome State Fault Refusal :=
  done s (if !s.boot.pinLow then s
  else
    let b := { s.boot with pinLow := false, rise := s.tick.clock }
    { s with boot := if s.boot.inReset then { b with inReset := false, began := s.tick.clock } else b })

/-- VCORE_POWER_ON: power is lost, a transition with it (R287, R290). -/
def execVcorePowerOn (s : State) : Host.Outcome State Fault Refusal := doneReset s (deviceReset (tornLife s) 2)

/-- CONTROLLER_WATCHDOG. -/
def execControllerWatchdog (s : State) : Host.Outcome State Fault Refusal := doneReset s (requestReset s 5)

/-- A write of RESET_CMD (R450). -/
def resetCmdEff (v : Nat) (s : State) : Res :=
  if v = 0x52530001 then okR (requestReset s 4)
  else if v = 0x52530002 then okR (requestReset s 6)
  else if v = 0x52530003 then (if armed s then abortR s .wrongState else okR (requestReset s 7))
  else abortR s .unsupportedValue
def execResetCmdDevice (r : Req) (s : State) : Host.Outcome State Fault Refusal :=
  doneReset s (access s r K.resetCmd true (resetCmdEff 0x52530001))
def execResetCmdController (r : Req) (s : State) : Host.Outcome State Fault Refusal :=
  doneReset s (access s r K.resetCmd true (resetCmdEff 0x52530002))
def execResetCmdDatapath (r : Req) (s : State) : Host.Outcome State Fault Refusal :=
  doneReset s (access s r K.resetCmd true (resetCmdEff 0x52530003))

/-- LC_WINDOW_DONE (R287): a wipe that waited follows, then a reset that was held back. -/
def execLcWindowDone (readBackOk : Bool) (s : State) : Host.Outcome State Fault Refusal :=
  doneReset s (match s.life.trans with
  | some t =>
    if s.life.stepNo ≠ 3 then s
    else
      let held := s.life.heldReset
      let s := wipeIfDue (lcWindow { s with life := { s.life with heldReset := none } } t readBackOk)
      match held with
      | some k => doReset s k
      | none => s
  | none => s)

/-! The power-up order (R436). -/

/-- The management domain's bit: every MG port whose channel is enabled has a locked clock (R52). DEDUCED (log entry 42). -/
def mgLocked (s : State) : Bool :=
  let on := fun (c : Nat) => rdBit s (K.chanCtrl c) 0
  (on 1 || on 2) && (!on 1 || s.lines.mgA) && (!on 2 || s.lines.mgB)

/-- CLOCK_LOCK: step 1. DEDUCED (log entry 42). -/
def execClockLock (ok : Bool) (s : State) : Host.Outcome State Fault Refusal :=
  done s (if s.boot.inReset || s.boot.engine || !ok then s
  else
    let s := endStep { s with boot := { s.boot with engine := true }, lines := { s.lines with mgA := true, mgB := true } } 1
    let s := wrBit (wrBit (wrBit s K.clkLocked 0 true) K.clkLocked 1 true) K.clkLocked 23 true
    startBegin (wrBit (wrBit s K.clkLocked 24 (!backupOsc s)) K.clkLocked 22 (mgLocked s)))

/-- A flash transfer has failed for good (R319). -/
def flashFailed (s : State) : State := raise (inc s K.flFails 1) Ev.flashLinkFail 0 0

/-- FLASH_LINK_ESTABLISH: step 2, with `bad` tries that failed (R319, R441). DEDUCED (log entry 42). -/
def execFlashLinkEstablish (bad : Nat) (s : State) : Host.Outcome State Fault Refusal :=
  done s (if !stepEnded s 1 || stepEnded s 2 || rdBit s K.startupStatus 10 then s
  else if bad ≤ 3 then
    let (n, s) := draw (inc s K.flRetries bad) 32
    let s := wrBit s K.flStatus 0 true
    let s := setKeys s { s.keys with link := some (kdf (toBytes 32 Config.pairingKey.toNat) (ascii "OR-FLINK") n 32), linkCnt := 0 }
    let s := endStep { s with boot := { s.boot with onyxUp := true } } 2
    if zeroisePending s then s else endStep s 3
  else
    let s := flashFailed (wrBit (inc s K.flRetries 3) K.startupStatus 10 true)
    { s with life := { s.life with scan := false, scope := 0, byAuth := false } })

/-- FLASH_TRANSFER (R319): a transfer, retried where `bad` tries failed; the fourth failure ends the operation under way. -/
def execFlashTransfer (bad : Nat) (s : State) : Host.Outcome State Fault Refusal :=
  done s (if s.keys.link.isNone then s
  else
    let s := inc (setKeys s { s.keys with linkCnt := s.keys.linkCnt + 1 + Nat.min bad 3 }) K.flRetries (Nat.min bad 3)
    if bad < 4 then s
    else
      let s := ownerBindEnd (pkeyFinish (flashFailed s) false) false
      match s.boot.update with
      | some _ => wr (tornUpdate s (freeBit s 7)) K.fwUpdateStatus 4
      | none => s)

/-- PENDING_ZEROISE_RUN: step 3 (R267). -/
def execPendingZeroiseRun (s : State) : Host.Outcome State Fault Refusal :=
  done s (if !stepEnded s 2 || stepEnded s 3 then s
  else if zeroisePending s then endStep (clearingEnd (wipeEnd (wipeStart (zeroise s 4)))) 3
  else endStep s 3)

/-- ROOT_RECONSTRUCTION: step 5a begins (R235); a unit without a root source has none to rebuild. DEDUCED (log entry 42). -/
def execRootReconstruction (s : State) : Host.Outcome State Fault Refusal :=
  done s (if !stepEnded s 4 || stepEnded s 51 then s
  else
    let s := endStep (setKeys s { s.keys with tries := 0 }) 51
    if rd s K.rootSource = 0 then endStep s 5 else s)

/-! Firmware (R438–R440). -/

/-- The images by number, and the status object of each. -/
def imageOf (s : State) (which : Nat) : Image := if which = 0 then s.boot.imgA else s.boot.imgB
def imageStatus (which : Nat) : Nat := if which = 0 then K.fwAStatus else K.fwBStatus

/-- The verdict of R438, as FW_A_STATUS codes it. DEDUCED (log entry 43). -/
def imageVerdict (s : State) (i : Image) : Nat :=
  if !i.flashOk then 6 else if !i.headerOk then 2 else if !i.hashOk then 3 else if !i.sigOk then 4
  else if i.svn < rd s K.fwSvn then 5 else 1

/-- Jobs in partition 0 an image takes: the verification of its signature, where the check comes to it. DEDUCED (log entry 43). -/
def imageJobs (i : Image) : Nat := b2n (i.flashOk && i.headerOk && i.hashOk)

/-- Jobs of step 5b: those of the preferred image, and of the other where the first does not pass (R439). -/
def startJobs (s : State) : Nat :=
  let p := rd s K.fwPrefer
  imageJobs (imageOf s p) + if imageVerdict s (imageOf s p) = 1 then 0 else imageJobs (imageOf s (1 - p))

/-- LIFECYCLE_READ: step 4 (R284, R289, R442); start-up stops in LOST and in SCRAP, and step 5b begins after it otherwise.
DEDUCED (log entry 42). -/
def execLifecycleRead (s : State) : Host.Outcome State Fault Refusal :=
  done s (if !stepEnded s 3 || stepEnded s 4 then s
  else
    let st := decideLife s.life.pairs
    let s := lifeAccess s st
    let s := if st = Lc.returned ∨ st = Lc.scrap then cleanupRun s else s
    if st = Lc.lost ∨ st = Lc.scrap then s else svcIssue (endStep s 4) .firmware (startJobs s))

/-- One image is tried (R439): it runs, or FW_IMAGE_FAIL names it and the reason. DEDUCED (log entry 43). -/
def tryImage (s : State) (which : Nat) : State × Bool :=
  let v := imageVerdict s (imageOf s which)
  let s := wr s (imageStatus which) v
  if v = 1 then
    (wr (wr { s with boot := { s.boot with fw := true } } K.fwVersion (imageOf s which).version) K.fwImage which, true)
  else (raise s Ev.fwImageFail which v, false)

/-- FIRMWARE_CHECK: step 5b, once its jobs in Jasper have completed. -/
def execFirmwareCheck (s : State) : Host.Outcome State Fault Refusal :=
  done s (if !stepEnded s 4 || stepEnded s 50 || svcBusy s .firmware then s
  else
    let p := rd s K.fwPrefer
    match tryImage s p with
    | (s, true) => endStep s 50
    | (s, false) =>
      match tryImage s (1 - p) with
      | (s, true) => endStep (raise s Ev.fwFallback 0 0) 50
      | (s, false) => endStep (wrBit s K.startupStatus 9 true) 50)

/-- Flash is out of reach (R441). -/
def flashDown (s : State) : Bool := rdBit s K.startupStatus 10

/-- What the staged bytes are (R438): the header is read; whether the public key's hash and the signature pass are facts of the
bytes and of keys only Kergan holds. FREE VALUES (log entry 8). DEDUCED (log entry 43). -/
def stagedImage (b : List Byte) : Image :=
  let w := bytesToWords 8 (b.take 20)
  let n := ofBytes b
  { headerOk := nth w 0 == 0x4B444657 && decide (nth w 2 ≤ 31) && nth w 4 == crc32Words (w.take 4),
    hashOk := bit (Config.free 22 n).toNat 0, sigOk := bit (Config.free 23 n).toNat 0, svn := nth w 2, version := nth w 1, flashOk := true }

/-- The largest image. -/
def imageMax : Nat := 4194304

/-- The staged image by verified reads: none where a line is suspect, the region not ready, or `memOk` says so.
DEDUCED (log entry 43). -/
def readStaged (s : State) (src : Nat) (memOk : Bool) : State × Option Image :=
  let r := bits src 37 32
  let off := bits src 27 0
  if !memOk || !regionReady s r || inHold s then (s, none)
  else
    match readBytes s r off 20 with
    | (s, none) => (s, none)
    | (s, some h) =>
      let len := fieldBE h 12 4
      if imageMax < len ∨ len < 20 ∨ regionBytes < off + len then (s, some imageGone)
      else
        let (s, b) := readBytes s r off len
        (s, b.map stagedImage)

/-- A write of FW_UPDATE_OP (R440, R441): the verification of the staged image's signature goes to Jasper. DEDUCED (log entry 43). -/
def fwUpdateEff (v : Nat) (s : State) : Res :=
  if ¬ (v = 1 ∨ v = 2 ∨ v = 0x81 ∨ v = 0x82) then abortR s .unsupportedValue
  else
    let which := v % 4 - 1
    if flashDown s || s.boot.update.isSome || (s.boot.fw && rd s K.fwImage == which) then abortR s .wrongState
    else
      let src := rd s K.fwUpdateSrc
      let s1 := wr { s with boot := { s.boot with update := some (which, bit v 7, src) } } K.fwUpdateStatus (2 ^ 31)
      okR (svcIssue s1 .update (match (readStaged s src true).2 with | some i => imageJobs i | none => 0))
def execFwUpdateA (r : Req) (prefer : Bool) (s : State) : Host.Outcome State Fault Refusal :=
  done s (access s r K.fwUpdateOp true (fwUpdateEff (1 + 128 * b2n prefer)))
def execFwUpdateB (r : Req) (prefer : Bool) (s : State) : Host.Outcome State Fault Refusal :=
  done s (access s r K.fwUpdateOp true (fwUpdateEff (2 + 128 * b2n prefer)))

/-- FW_UPDATE_DONE (R440), once its job in Jasper has completed; ZEROISE has that job issued again (R254). DEDUCED (log entry 43). -/
def execFwUpdateDone (memOk flashOk : Bool) (s : State) : Host.Outcome State Fault Refusal :=
  done s (match s.boot.update with
  | none => s
  | some (which, prefer, src) =>
    if svcBusy s .update then s
    else
      let fin := fun (s : State) (v : Nat) => wr s K.fwUpdateStatus v
      let s := { s with boot := { s.boot with update := none } }
      match readStaged s src memOk with
      | (s, none) => fin s 3
      | (s, some i) =>
        if imageVerdict s i ≠ 1 then fin s 2
        else if !flashOk then fin (setImage s which imageGone) 4
        else
          let s := setImage s which i
          fin (if prefer then wr s K.fwPrefer which else s) 1)

/-- FW_PREFER and FW_SVN_COMMIT (R440, R441). -/
def fwPreferEff (v : Nat) (s : State) : Res :=
  if 1 < v then abortR s .unsupportedValue
  else if flashDown s then abortR s .wrongState
  else okR (wr s K.fwPrefer v)
def execFwPreferWrite (r : Req) (v : Nat) (s : State) : Host.Outcome State Fault Refusal :=
  done s (access s r K.fwPrefer true (fwPreferEff (v % 256)))
def fwSvnEff (v : Nat) (s : State) : Res :=
  if flashDown s then abortR s .wrongState
  else if !s.boot.fw ∨ v ≠ (imageOf s (rd s K.fwImage)).svn then abortR s .unsupportedValue
  else okR (wr s K.fwSvn (Nat.max v (rd s K.fwSvn)))
def execFwSvnCommit (r : Req) (v : Nat) (s : State) : Host.Outcome State Fault Refusal :=
  done s (access s r K.fwSvnCommit true (fwSvnEff (v % 256)))

/-! Steps 6 to 8. -/

/-- HBM_INIT: step 6 (R443). -/
def execHbmInit (ok : Bool) (s : State) : Host.Outcome State Fault Refusal :=
  done s (if !stepEnded s 1 || stepEnded s 6 then s
  else
    let s := endStep s 6
    if ok then s else raise (wrBit s K.startupStatus 11 true) Ev.hbmInitFail 0 0)

/-- SERDES_CALIBRATION: step 7. -/
def execSerdesCalibration (badGroups : List Nat) (s : State) : Host.Outcome State Fault Refusal :=
  done s (if !stepEnded s 1 || stepEnded s 7 then s
  else endStep { s with boot := { s.boot with badSerdes := badGroups } } 7)

/-- STARTUP_COMPLETE: step 8. STARTUP_TIME counts µs of 1,250 core clocks. DEDUCED (log entry 42). -/
def execStartupComplete (s : State) : Host.Outcome State Fault Refusal :=
  done s (if [1, 2, 3, 4, 5, 50, 6, 7].all (stepEnded s) && !startupDone s then
    raise (wr (wrBit (endStep s 8) K.startupStatus 8 true) K.startupTime ((s.tick.clock - s.boot.began) / 1250 % 2 ^ 32)) Ev.startupDone 0 0
  else s)

/-- STARTUP_STATUS with its STEP (R453): the chain of steps 1 to 5, then 6 and 7, then 8. DEDUCED (log entry 42). -/
def stepView (s : State) : Nat :=
  if stepEnded s 8 then 8
  else if stepEnded s 5 && stepEnded s 50 then 6
  else if stepEnded s 4 then 5
  else if stepEnded s 3 then 4
  else if stepEnded s 2 then 3
  else if stepEnded s 1 then 2
  else if s.boot.inReset then 0 else 1
def startupStatusView (s : State) : Nat := setBits (rd s K.startupStatus) 3 0 (stepView s)

/-! Arming (R445–R447). -/

/-- A life-cycle transition or cleanup runs. -/
def lifeBusy (s : State) : Bool := s.life.trans.isSome || cleanup s

/-- Why an arm is refused (R445); 0 where it is not. DEDUCED (log entry 44). -/
def armRefusal (s : State) : Nat :=
  if !startupDone s then 1
  else if rdBit s K.startupStatus 9 || flashDown s then 2
  else if rd s K.rootStatus = Root.none ∨ rd s K.rootStatus = Root.failed then 3
  else if clearing s || s.keys.wiping || zeroisePending s then 4
  else if inHold s then 5
  else if lifeBusy s then 6
  else 0

/-- A write of ARM_CTRL: the later of an arm and a disarm stands (R452). DEDUCED (log entry 44). -/
def armCtrlEff (v : Nat) (s : State) : Res :=
  if v = 1 then
    let why := armRefusal s
    if why ≠ 0 then abortR (raise (wrField s K.armStatus 15 8 why) Ev.armRefused why 0) .wrongState
    else okR (wrField s K.armStatus 2 1 1)
  else if v = 2 then okR (wrField s K.armStatus 2 1 2)
  else abortR s .unsupportedValue
def execDatapathArm (r : Req) (s : State) : Host.Outcome State Fault Refusal :=
  done s (access s r K.armCtrl true (armCtrlEff 1))
def execDatapathDisarm (r : Req) (s : State) : Host.Outcome State Fault Refusal :=
  done s (access s r K.armCtrl true (armCtrlEff 2))

/-- DISARM_DRAINED (R447): the last frame has left its slice. -/
def execDisarmDrained (s : State) : Host.Outcome State Fault Refusal :=
  done s (if s.boot.drain && s.dp.inq.all (·.2.isEmpty) then
    let last := s.dp.flying.foldl (fun t f => Nat.max t f.leaves) s.tick.clock
    let s := { s with tick := { s.tick with clock := last }, dp := { s.dp with flying := [] } }
    wrBit { s with boot := { s.boot with drain := false } } K.armStatus 0 false
  else s)

/-- SLICE_STATUS (R198): armed, squelched. -/
def sliceStatusView (s : State) (j : Nat) : Nat :=
  setBit (setBit (rd s (K.sliceStatus j)) 0 (armed s)) 1 s.dp.squelch

/-! HOLD (R448, R449). -/

/-- HOLD cannot be entered. DEDUCED (log entry 44). -/
def holdRefused (s : State) : Bool :=
  rdField s K.armStatus 1 0 != 0 || s.boot.drain || (List.range 4).any (fun g => roleActive (roleAt s g)) || lifeBusy s ||
  !startupDone s || rd s K.holdStatus == 3

/-- A write of HOLD_CTRL. DEDUCED (log entry 44). -/
def holdCtrlEff (v : Nat) (s : State) : Res :=
  let st := rd s K.holdStatus
  if v = 1 then
    if holdRefused s then abortR s .wrongState
    else if st = 0 then okR (wr (wr s K.holdCtrl 1) K.holdStatus 1)
    else okR { wr s K.holdCtrl 1 with boot := { s.boot with exitNext := false } }
  else if v = 0 then
    let s := wr s K.holdCtrl 0
    okR (if st = 1 then { s with boot := { s.boot with exitNext := true } } else if st = 2 then wr s K.holdStatus 3 else s)
  else abortR s .unsupportedValue
def execHoldEnter (r : Req) (s : State) : Host.Outcome State Fault Refusal :=
  done s (access s r K.holdCtrl true (holdCtrlEff 1))
def execHoldExit (r : Req) (s : State) : Host.Outcome State Fault Refusal :=
  done s (access s r K.holdCtrl true (holdCtrlEff 0))

/-- HOLD_ENTRY_DONE: the lanes are off, PORTS_OK clears; an exit asked for meanwhile follows (R452). -/
def execHoldEntryDone (s : State) : Host.Outcome State Fault Refusal :=
  done s (if rd s K.holdStatus ≠ 1 then s
  else
    let s := raise (healthClear (lanesOff (wr s K.holdStatus 2)) 5) Ev.holdEntered 0 0
    if s.boot.exitNext then wr { s with boot := { s.boot with exitNext := false } } K.holdStatus 3 else s)

/-- HOLD_EXIT_DONE: the lanes restart. -/
def execHoldExitDone (s : State) : Host.Outcome State Fault Refusal :=
  done s (if rd s K.holdStatus = 3 then raise (lanesOn (wr s K.holdStatus 0)) Ev.holdExited 0 0 else s)

end Sys2Proof.Machine
end

