-- ==== Sys2Proof/Machine/Chan.lean ====
section
/-! DEFINITION. Channels and events (R415, R423, R425, R429–R435), and lost and returned clocks (R52). -/

namespace Sys2Proof.Machine

/-! Channel resets (R304, R423, R425). -/

/-- A reset of channel `c`: its session, subscription, requests and replies are gone; refusals and a lockout of attach stand.
DEDUCED (log entry 44). -/
def resetChan (s : State) (c : Nat) : State :=
  let s := endSession s c
  let a := attach s c
  let keep := { State.idleChan.attach with bad := a.bad, locked := a.locked, timeout := a.timeout, status := if lockedOut s c then 8 else 0 }
  setChan s c { State.idleChan with attach := keep }

/-- SPI_CHANNEL_RESET. -/
def execSpiChannelReset (s : State) : Host.Outcome State Fault Refusal := done s (if s.boot.engine then resetChan s 0 else s)

/-- One MG port's receive clock stops (R52): the management bit falls where that port's channel is enabled. -/
def mgClockStop (s : State) (c : Nat) : State :=
  let s := { s with lines := { s.lines with mgA := s.lines.mgA && c != 1, mgB := s.lines.mgB && c != 2 } }
  if mgLocked s then s else clkFall s 22

/-- MG_LINK_LOSS (R423, R52): without its link the port has no receive clock, which CLOCK_RETURNED gives it back.
DEDUCED (log entry 44). -/
def execMgLinkLoss (c : Nat) (s : State) : Host.Outcome State Fault Refusal :=
  done s (if c = 1 ∨ c = 2 then mgClockStop (resetChan s c) c else s)

/-- CHAN_RESET written. DEDUCED (log entry 44). -/
def chanResetEff (c v : Nat) (s : State) : Res := if v ≠ 1 then abortR s .unsupportedValue else okR (resetChan s c)
def execChanReset (r : Req) (c : Nat) (s : State) : Host.Outcome State Fault Refusal :=
  done s (access s r (K.chanReset c) true (chanResetEff c 1))

/-- The management bit of CLK_LOCKED follows the enables (R52). -/
def mgRefresh (s : State) : State := wrBit s K.clkLocked 22 (s.boot.engine && mgLocked s)

/-- A write of CHAN_CTRL (R435): SPI reads ENABLE 1; Ethernet and UDP apply to the MG ports. -/
def chanCtrlEff (c v : Nat) (s : State) : Res :=
  let v := if c = 0 then Nat.land v 16 + 1 else if c = 3 then Nat.land v 17 else Nat.land v 23
  okR (mgRefresh (wr s (K.chanCtrl c) v))

/-- Members of a channel object that do not apply to it read 0 and ignore writes (R435). -/
def chanHas (c m : Nat) : Bool :=
  if m = 2 ∨ m = 3 ∨ m = 4 ∨ m = 5 then c == 1 || c == 2
  else if m = 9 ∨ m = 11 ∨ m = 12 ∨ m = 13 then c != 0
  else true

/-- MG_ARP_REQUEST (R423): the port answers for its own addresses; in LOST it stays silent (R282). -/
def execMgArpRequest (c : Nat) (v6 : Bool) (target asker : Nat) (s : State) : Host.Outcome State Fault Refusal :=
  done s (let own := if v6 then rd s (K.chanIpv6 c) else rd s (K.chanIpv4 c)
    if (c = 1 ∨ c = 2) ∧ s.boot.engine ∧ s.life.state ≠ 5 ∧ rdBit s (K.chanCtrl c) 0 ∧ own ≠ 0 ∧ own = target then
      emit s (.arp c asker target (rd s (K.chanMac c)))
    else s)

/-- CHAN_REJECTED_READ and CHAN_RX_DROPS_READ: the read re-arms the event. -/
def execChanRejectedRead (r : Req) (c : Nat) (s : State) : Host.Outcome State Fault Refusal :=
  done s (access s r (K.chanRejected c) false (fun s => readPlain (rearm s (K.chanRejected c)) (K.chanRejected c)))
def execChanRxDropsRead (r : Req) (c : Nat) (s : State) : Host.Outcome State Fault Refusal :=
  done s (access s r (K.chanRxDrops c) false (fun s => readPlain (rearm s (K.chanRxDrops c)) (K.chanRxDrops c)))

/-! Record FIFOs (R430, R431). -/

/-- One word of the oldest record; the record leaves with its word 5; an empty FIFO reads 0. -/
def fifoRead (f : Fifo) : Word × Fifo :=
  match f.recs with
  | [] => (0, f)
  | x :: l => if 5 ≤ f.ptr then (nth x 5, { f with recs := l, ptr := 0 }) else (nth x f.ptr, { f with ptr := f.ptr + 1 })

/-- EVT_DATA_READ and EVT_DATA_S_READ. DEDUCED (log entry 48). -/
def evtDataRead (s : State) : Res := let (w, f) := fifoRead s.ns; okV { s with ns := f } [w]
def evtDataSRead (s : State) : Res := let (w, f) := fifoRead s.sec; okV { s with sec := f } [w]
def execEvtDataRead (r : Req) (s : State) : Host.Outcome State Fault Refusal := done s (access s r K.evtData false evtDataRead)
def execEvtDataSRead (r : Req) (s : State) : Host.Outcome State Fault Refusal := done s (access s r K.evtDataS false evtDataSRead)

/-- EVT_LOST_READ: the read re-arms EVENT_OVERFLOW for that FIFO. -/
def execEvtLostRead (r : Req) (sec : Bool) (s : State) : Host.Outcome State Fault Refusal :=
  done s (let k := if sec then K.evtLostS else K.evtLost
    access s r k false (fun s => readPlain (rearm s k) k))

/-- EVT_PENDING_CLEAR (R429, R430): a non-secure access reaches no secure source. -/
def evtPendingEff (r : Req) (w v : Nat) (s : State) : Res :=
  let old := rd s (K.evtPending w)
  let clr := Nat.land v (evMask w (secure s r))
  okR (wr s (K.evtPending w) (old - Nat.land old clr))
def execEvtPendingClear (r : Req) (w v : Nat) (s : State) : Host.Outcome State Fault Refusal :=
  done s (access s r (K.evtPending w) true (evtPendingEff r w (v % 2 ^ 32)))

/-- Writes and reads of the enables of group `w` (R428, R429): bits an access does not reach keep their value and read 0. -/
def evtEnableEff (r : Req) (w k v : Nat) (s : State) : Res :=
  let m := evMask w (secure s r)
  let old := rd s k
  okR (wr s k (old - Nat.land old m + Nat.land v m))
def evtGroupRead (r : Req) (w k : Nat) (s : State) : Res := okV s [Nat.land (rd s k) (evMask w (secure s r))]

/-! Subscriptions and messages (R433). -/

/-- A write of EVT_SUB: only a request on the channel can subscribe on it. DEDUCED (log entry 48). -/
def evtSubEff (r : Req) (c v : Nat) (s : State) : Res :=
  if 1 < v then abortR s .unsupportedValue
  else if c = 0 then okR s
  else if v = 0 then okR (setChan s c { chan s c with sub := none })
  else if r.ch ≠ c then abortR s .wrongState
  else okR (setChan s c { chan s c with sub := some ⟨r.src, secure s r && !inProfile s r, 0, 0, [], 0⟩ })
def execEvtSubscribe (r : Req) (c : Nat) (s : State) : Host.Outcome State Fault Refusal :=
  done s (access s r (K.evtSub c) true (evtSubEff r c 1))
def execEvtUnsubscribe (r : Req) (c : Nat) (s : State) : Host.Outcome State Fault Refusal :=
  done s (access s r (K.evtSub c) true (evtSubEff r c 0))

/-- The tag of a frame inside a session (R304, R417): the upper 64 bits of GMAC. -/
def kdaTag (x : Sess) (seq : Nat) (ws : List Word) : List Word :=
  bytesToWords 2 ((gcmTag x.key (toBytes 4 x.id ++ toBytes 8 seq) (wordsToBytes ws) []).take 8)

/-- Send a KDA frame to an address of channel `c`; on the fabric as a message to the node (R424). -/
def kdaSend (s : State) (c dst : Nat) (ws : List Word) : State :=
  if c = 3 then fabSend s Msg.kda dst 0 0 ws else emit s (.kda c dst ws)

/-- Records a message holds. -/
def msgRecs : Nat := 8

/-- EVT_MSG_SEND: 8 records wait, or a tick has begun since the first. DEDUCED (log entry 48). -/
def execEvtMsgSend (c : Nat) (s : State) : Host.Outcome State Fault Refusal :=
  done s (match (chan s c).sub with
  | none => s
  | some b =>
    if b.waiting.isEmpty || (decide (b.waiting.length < msgRecs) && decide (s.tick.elapsed ≤ b.since)) then s
    else
      let s := if b.waiting.length < msgRecs then toCc s 1024 else s
      let body := (b.waiting.take msgRecs).flatten
      let x := chan s c
      let left := { b with waiting := b.waiting.drop msgRecs, frames := b.frames + 1 }
      match (if b.sess then x.sess else none) with
      | some t =>
        let seq := 2 ^ 62 + t.evN
        let ws := [2 * 2 ^ 28 + 2 * 2 ^ 24, t.id, seq / 2 ^ 32, seq % 2 ^ 32, body.length] ++ body
        let s := setChan s c { x with sub := some left, sess := some { t with evN := t.evN + 1 } }
        kdaSend s c b.addr (ws ++ kdaTag t seq ws)
      | none =>
        let ws := [2 ^ 28 + 2 * 2 ^ 24, b.frames % 2 ^ 16 * 2 ^ 16 + body.length] ++ body
        kdaSend (setChan s c { x with sub := some left }) c b.addr ws)

/-! Clocks (R52). -/

/-- The time domain stops: every time base holds its value (R341), the tick runs free. DEDUCED (log entry 25). -/
def timeStop (s : State) : State :=
  let s := clkFall s 23
  forNat 4 (fun n s =>
    let s := tbInvalidate s n
    setTb s n { reanchor s n with stopped := true }) (tickInvalid s)

/-- CLOCK_LOST. DEDUCED (log entry 44). -/
def execClockLost (d : Nat) (s : State) : Host.Outcome State Fault Refusal :=
  doneReset s (if !s.boot.engine then s
  else if d ≤ 1 then requestReset s 3
  else if d < 18 then
    let off := if d < 10 then 0 else 32
    forNat 4 (fun i s => cdrLost s (off + 4 * ((d - 2) % 8) + i)) s
  else if d < 22 then fabClkLost s (d - 18)
  else if d = 22 then
    let on := (List.range 2).filter (fun i => rdBit s (K.chanCtrl (1 + i)) 0)
    let s := { s with lines := { s.lines with mgA := false, mgB := false } }
    forList on (fun i s => resetChan s (1 + i)) (clkFall s 22)
  else if d = 23 then (if (tb s 0).stopped then s else timeStop s)
  else if d = 24 then crystalFail s
  else s)

/-- CLOCK_RETURNED (R52, R341): time bases count on from the values they held. -/
def execClockReturned (d : Nat) (s : State) : Host.Outcome State Fault Refusal :=
  done s (if !s.boot.engine then s
  else if 2 ≤ d ∧ d < 18 then refreshClk s d
  else if 18 ≤ d ∧ d < 22 then fabClkBack s (d - 18)
  else if d = 22 then mgRefresh { s with lines := { s.lines with mgA := true, mgB := true } }
  else if d = 23 then
    wrBit (forNat 4 (fun n s => let x := tb s n; setTb s n (if x.stopped then { x with at_ := s.tick.clock, stopped := false } else x)) s)
      K.clkLocked 23 true
  else if d = 24 then crystalBack s
  else s)

end Sys2Proof.Machine
end

