-- ==== Sys2Proof/Machine/Dict.lean ====
section
/-! DEFINITION. The object dictionary (R12–R17): what a read of each object returns, and what a write of it does. An object
with no rule of its own is read from the register file and written by its row of Objects.lean. -/

namespace Sys2Proof.Machine

/-- The type of the object at a key. -/
def typeOf (k : Nat) : Ty :=
  match objOf k with
  | some o => o.ty
  | none => .u32

/-- A read that returns a value. -/
def valR (k v : Nat) (s : State) : Res := okV s (encVal (typeOf k) v)

/-- A read of the register file; reading a counter re-arms the event of its first count. -/
def plainRead (k : Nat) (s : State) : Res := readPlain (rearm s k) k

/-- A read that gives the default (R3, R108, R435). DESIGN CHOICE (log entry 2); DEDUCED (log entry 28). -/
def dfltRead (k : Nat) (s : State) : Res := valR k (dfltOf k) s

/-- A write that is ignored. DEDUCED (log entry 28). -/
def ignored (s : State) : Res := okR s

/-! Views of status objects. -/

/-- GROUP_STATUS (R80). -/
def groupStatusView (s : State) (n : Nat) : Nat :=
  let part := if n % 2 = 0 then n + 1 else n - 1
  let incomplete := layout s n == 10 && (layout s part != 10 || mode s n != mode s part)
  let up := fun (q : Nat) => isPort s q && rxUp s q .line && rxUp s q .host
  let bits_ := if layout s n = 11 then b2n ((otl s n .line).aligned && (otl s n .host).aligned)
    else (List.range 4).foldl (fun a i => a + 2 ^ i * b2n (up (4 * n + i))) 0
  bits_ + 256 * b2n incomplete

/-- COMMIT_NEXT (R53): the lowest tick any change is armed for. DEDUCED (log entry 17). -/
def commitNextView (s : State) : Nat :=
  let l := (List.range 15).map (fun i => rd s (K.armTick (i + 1))) ++ s.lines.l1.map (·.2.arm) ++ (List.range 4).map (fun k => rd s (K.tsiSwapTick k)) ++
    (List.range 32).map (fun q => if gateArmed s q then rd s (K.gateSwapTick q) else none64) ++ [rd s K.migTick] ++
    (match s.fab.target with | some x => [x.tick] | none => []) ++
    (if rdBit s K.armStatus 1 || rdBit s K.armStatus 2 then [(tickNo s + 1) % 2 ^ 64] else []) ++ (List.range 4).map (fun g => rd s (K.roleSwitchTick g))
  l.foldl Nat.min none64

/-- LANE_STATUS and BLOCK_SLIPS of a lane (R80): lane-level block lock belongs to ports without FEC. -/
def laneStatusView (s : State) (m : Nat) : Nat := setBit (rd s (K.laneStatus m)) 7 (rdBit s (K.laneStatus m) 7 && laneBlock s m)

/-! Counts that run without a command of their own: a read brings them up to date. -/

/-- BLOCK_SLIPS of a lane that hunts (R65, R66). -/
def slipRun (s : State) (m : Nat) : State :=
  if laneState s m = Lane.ready ∧ !rdBit s (K.laneStatus m) 7 then runCount s (K.blockSlips m) else s

/-- BLOCK_SLIPS behind the decoders of port `q` while one hunts (R65, R82). -/
def fecSlipRun (s : State) (q : Nat) : State :=
  if [Side.line, Side.host].any (fun sd => fecOf s q sd != 1 && decoding s q sd && !fecLocked s q sd) then
    runCount s (K.pcsBlockSlips q)
  else s

/-- FAB_CODE_ERRORS of port `p` while a lane is evaluated (R68–R70). -/
def codeRun (s : State) (p : Nat) : State :=
  if rdBit s (K.fabCtrl p) 0 && rdBit s (K.fabStatus p) 4 then runCount s (K.fabCodeErrors p) else s

/-- ALIGN_REJECTS of group `n` while a lane of one side hunts (R87). -/
def rejectRun (s : State) (n : Nat) : State :=
  if isOtu4 s n && [Side.line, Side.host].any (fun sd => decide ((otl s n sd).lanes.length < 20)) then
    runCount s (K.alignRejects n)
  else s

/-! Reads, by the range of the index. -/

/-- Identity, capabilities, channels. -/
def read1 (i m k : Nat) (s : State) : Res :=
  if i = 0x1000 then
    (if m = 2 then valR k s.unit.variant s else if m = 3 then valR k s.unit.step s
     else if m = 4 then valR k (ofBytes (s.unit.serial.take 16)) s else plainRead k s)
  else if k = K.capFeatures then valR k (if s.unit.variant = 1 then 14 else 15) s
  else if 0x1200 ≤ i then
    let c := i - 0x1200
    if !chanHas c m then valR k 0 s
    else if m = 13 then valR k (b2n (chan s c).sub.isSome) s
    else plainRead k s
  else plainRead k s

/-- Lanes and groups. -/
def read2 (i m k : Nat) (s : State) : Res :=
  if i < 0x2040 ∧ m = 2 then valR k (laneStatusView s (i - 0x2000)) s
  else if i < 0x2040 ∧ m = 4 then valR k (txFirView s (i - 0x2000)) s
  else if i < 0x2040 ∧ m = 7 then (if laneBlock s (i - 0x2000) then plainRead k (slipRun s (i - 0x2000)) else valR k 0 s)
  else if 0x2100 ≤ i ∧ i < 0x2108 ∧ m = 4 then valR k (groupStatusView s (i - 0x2100)) s
  else if 0x2200 ≤ i ∧ i < 0x2204 ∧ m = 3 then plainRead k (codeRun s (i - 0x2200))
  else if 0x2300 ≤ i ∧ i < 0x2350 ∧ (m = 4 ∨ m = 5) then plainRead k (chkRun s (i - 0x2300))
  else plainRead k s

/-- Framing. -/
def read3 (i m k : Nat) (s : State) : Res :=
  if i < 0x3100 then
    let q := i - 0x3000
    if !isPort s q then dfltRead k s
    else if m = 2 then valR k (pcsStatusView s q) s
    else if m = 8 then plainRead k (fecSlipRun s q)
    else plainRead k s
  else if s.unit.variant = 1 then (if 0x3300 ≤ i ∧ m = 2 then valR k l1Ctx0.ctrl s else dfltRead k s)
  else if i < 0x3180 then
    (if m = 2 then valR k (otnStatusView s (i - 0x3100)) s
     else if m = 10 then plainRead k (rejectRun s (i - 0x3100)) else plainRead k s)
  else if i < 0x3200 then (if m = 3 then pmBinRead (i - 0x3180) s else plainRead k s)
  else if i < 0x3300 then (if m = 5 then tsiDataRead (i - 0x3200) s else plainRead k s)
  else if m = 2 then l1DataRead (i - 0x3300) s
  else if m = 4 then valR k (l1Ctx s (i - 0x3300) (rd s (K.l1SwitchSel (i - 0x3300)))).arm s
  else plainRead k s

/-- Classification. -/
def read4 (i m k : Nat) (s : State) : Res :=
  if i < 0x4010 ∧ m = 3 then ruleDataRead (i - 0x4000) s
  else if k = K.lpmData then lpmDataRead s
  else plainRead k s

/-- Secure channels and associations. -/
def read5 (k : Nat) (s : State) : Res :=
  if k = K.scData then scDataRead s
  else if k = K.saData then saDataRead s
  else if k = K.keyData then keyDataRead s
  else plainRead k s

/-- Slices, ciphers, latency. -/
def read6 (i m k : Nat) (s : State) : Res :=
  if i < 0x6100 then
    (if m = 1 then valR k (sliceStatusView s (i - 0x6000)) s else if m = 5 ∧ i < 0x6004 then valR k 0 s else plainRead k s)
  else if !isPort s (i % 256) then dfltRead k s
  else if i < 0x6200 then plainRead k s
  else
    let q := i - 0x6200
    if m = 1 then valR k (latStatusView s q) s
    else if m = 2 then valR k (latOutNom s q) s
    else if m = 3 then valR k (latInNom s q) s
    else plainRead k s

/-- Scheduling. -/
def read7 (i m k : Nat) (s : State) : Res :=
  if i < 0x7020 then
    (if m = 5 then flowDataRead (i - 0x7000) s else if m = 7 then queueDataRead (i - 0x7000) s else plainRead k s)
  else if i < 0x7100 then
    let q := i - 0x7020
    if !isPort s q then dfltRead k s
    else if m = 8 then gateDataRead q s
    else plainRead k s
  else if m = 2 then polDataRead (i - 0x7100) s
  else plainRead k s

/-- Tick, clocks, time. -/
def read8 (i m k : Nat) (s : State) : Res :=
  if k = K.tickPhase then valR k (ofSigned 32 (s.phase * 800)) s
  else if k = K.tickRealign then valR k (b2n (rdBit s K.tickStatus 5)) s
  else if k = K.commitNext then valR k (commitNextView s) s
  else if 0x8100 ≤ i ∧ i < 0x8104 ∧ m = 2 then tbNowRead (i - 0x8100) s
  else if 0x8100 ≤ i ∧ i < 0x8104 ∧ m = 7 then valR k (ns32 (tbNow s (i - 0x8100))) s
  else if 0x8200 ≤ i ∧ !isPort s (i % 256) then dfltRead k s
  else if 0x8200 ≤ i ∧ i < 0x8300 ∧ m = 6 then txTsRead (i - 0x8200) s
  else plainRead k s

/-- Statistics; a channel in the profile reaches handles up to 0x1FFF (R427). -/
def read9 (r : Req) (i m k : Nat) (s : State) : Res :=
  if k = K.saStatData then
    (if inProfile s r && decide (0x1FFF < rdField s K.saStatAddr 16 0) then abortR s .unsupportedValue else saStatRead s)
  else if 0x9010 ≤ i ∧ i < 0x9030 then (if !isPort s (i - 0x9010) then dfltRead k s else if m = 0 then plainRead k s else valR k (portStatView s k) s)
  else if 0x9110 ≤ i ∧ i < 0x9150 ∧ m = 2 then valR k (perfHwView s (i - 0x9110)) s
  else if 0x9110 ≤ i ∧ i < 0x9150 ∧ m = 3 then valR k (perfAccView s (i - 0x9110)) s
  else if k = K.dumpData then dumpDataRead s
  else plainRead k s

/-- Beryl, Jasper, keys. -/
def readA (r : Req) (k : Nat) (s : State) : Res :=
  if k = K.berylStatus then valR k (berylStatusView s) s
  else if k = K.berylDesc then berylDescRead s
  else if k = K.berylDone then berylDoneRead s
  else if k = K.berylIoData then berylIoRead s
  else if k = K.berylKeyregStatus then valR k (keyregStatusView s) s
  else if k = K.jasperStatus then valR k (jasperStatusView s) s
  else if k = K.jasperClaim then jasperClaimRead r s
  else if k = K.jasperAddr then jasperMemberRead r (·.addr) s
  else if k = K.jasperData then jasperDataRead r s
  else if k = K.jasperCmd then jasperMemberRead r (·.cmd) s
  else if k = K.jasperHlen then jasperMemberRead r (·.hlen) s
  else if k = K.jasperResult then jasperResultRead r s
  else if k = K.jasperAbort then jasperAbortRead r s
  else if k = K.epochLeft then valR k (epochLeftView s) s
  else if k = K.kekStatus then valR k (kekStatusView s) s
  else if k = K.devidPub then valR k (pubOf s.keys.devid) s
  else if k = K.ownerIdPub then valR k (pubOf s.keys.owner) s
  else if k = K.pkeyInfo then valR k (pkeyInfoView s) s
  else if k = K.pkeySeq then valR k (pkeySeqView s) s
  else plainRead k s

/-- Onyx. -/
def readB (k : Nat) (s : State) : Res :=
  if k = K.onyxRtc then valR k (rtcNow s) s
  else if k = K.logData then logDataRead s
  else if k = K.logCount then valR k (logCountView s) s
  else if k = K.logNewest then valR k (logNewestView s) s
  else if 0xB030 ≤ k / 256 ∧ k / 256 < 0xB038 ∧ k % 256 = 2 then valR k (loopStateView s (k / 256 - 0xB030)) s
  else plainRead k s

/-- Fabric and roles. -/
def readC (i m k : Nat) (s : State) : Res :=
  if k = K.fabUnitTag then valR k (unitTag s) s
  else if k = K.routeEntry then valR k (routeEntryView s) s
  else if 0xC100 ≤ i ∧ i < 0xC104 ∧ m = 4 then valR k (roleStateView s (i - 0xC100)) s
  else plainRead k s

/-- Worlds, attach, memory. A read through the window meets a good line here (HBM_DATA_READ has every outcome of a line). -/
def readD (r : Req) (i m k : Nat) (s : State) : Res :=
  if k = K.worldCaller then valR k (b2n (secure s r && !inProfile s r)) s
  else if k = K.attachData then attachDataRead r s
  else if k = K.attachStatus then attachMemberRead r (·.status) s
  else if k = K.attachFails then attachMemberRead r (·.bad) s
  else if k = K.sessionTimeout then attachMemberRead r (·.timeout) s
  else if k = K.ownerBind then valR k (ownerBindView s) s
  else if k = K.ownerBindData then ownerBindDataRead s
  else if k = K.ownerBindWrite then valR k (ownerBindWriteView s) s
  else if k = K.hbmData then hbmDataRead r .good s
  else if 0xD100 ≤ i ∧ i < 0xD140 then
    let n := i - 0xD100
    if m = 2 then valR k (regionStatusView s n) s
    else if m = 3 then valR k (regionCount s n (·.poison)) s
    else if m = 4 then valR k (regionCount s n (·.retired)) s
    else plainRead k s
  else plainRead k s

/-- Events. -/
def readE (r : Req) (i m k : Nat) (s : State) : Res :=
  if k = K.evtData then evtDataRead s
  else if k = K.evtDataS then evtDataSRead s
  else if k = K.evtLevel then valR k s.ns.recs.length s
  else if k = K.evtLevelS then valR k s.sec.recs.length s
  else if 0xE010 ≤ i ∧ 1 ≤ m then evtGroupRead r (i - 0xE010) k s
  else plainRead k s

/-- Life cycle, debug, start-up. -/
def readF (k : Nat) (s : State) : Res :=
  if k = K.lcState then valR k s.life.state s
  else if k = K.lcStatus then valR k (lcStatusView s) s
  else if k = K.dbgState then valR k (dbgStateView s) s
  else if k = K.dbgChallenge then valR k (dbgChallengeView s) s
  else if k = K.dbgResult then valR k (dbgResultView s) s
  else if k = K.startupStatus then valR k (startupStatusView s) s
  else plainRead k s

/-- A read of the object at `k`, its checks passed. A write-only object reads 0 (R13). -/
def dictRead (r : Req) (k : Nat) (s : State) : Res :=
  let i := k / 256
  let m := k % 256
  match objOf k with
  | none => abortR s .noObject
  | some o =>
    if o.acc = .wo then valR k 0 s
    else match i / 0x1000 with
    | 1 => read1 i m k s
    | 2 => read2 i m k s
    | 3 => read3 i m k s
    | 4 => read4 i m k s
    | 5 => read5 k s
    | 6 => read6 i m k s
    | 7 => read7 i m k s
    | 8 => read8 i m k s
    | 9 => read9 r i m k s
    | 10 => readA r k s
    | 11 => readB k s
    | 12 => readC i m k s
    | 13 => readD r i m k s
    | 14 => readE r i m k s
    | _ => readF k s

/-! Writes, by the range of the index. -/

def write1 (r : Req) (i m k v : Nat) (s : State) : Res :=
  let c := i - 0x1200
  if i < 0x1200 then writePlain s k v
  else if !chanHas c m then ignored s
  else if m = 1 then chanCtrlEff c v s
  else if m = 10 then chanResetEff c v s
  else if m = 13 then evtSubEff r c v s
  else writePlain s k v

def write2 (i m k v : Nat) (s : State) : Res :=
  if i < 0x2040 then
    (if m = 1 then laneCtrlEff (i - 0x2000) v s else if m = 4 then txFirEff (i - 0x2000) v s else writePlain s k v)
  else if i < 0x2200 then
    (if m = 1 then groupLayoutEff (i - 0x2100) v s else if m = 2 then grpModeEff (i - 0x2100) v s else writePlain s k v)
  else if i < 0x2300 then (if m = 1 then fabCtrlEff (i - 0x2200) v s else writePlain s k v)
  else if m = 1 then pgCtrlEff (i - 0x2300) v s
  else writePlain s k v

def write3 (i m k v : Nat) (s : State) : Res :=
  if i < 0x3100 then (if m = 1 then pcsCtrlEff (i - 0x3000) v s else writePlain s k v)
  else if i < 0x3180 then writePlain s k v
  else if i < 0x3200 then (if m = 2 then pmSelectEff (i - 0x3180) v s else writePlain s k v)
  else if i < 0x3300 then
    let n := i - 0x3200
    if m = 2 then tsiSwapEff n v s else if m = 5 then tsiDataEff n v s else if m = 6 then tsiCopyEff n v s else writePlain s k v
  else
    let n := i - 0x3300
    if m = 2 then l1DataEff n v s else if m = 4 then l1SwitchEff n v s else writePlain s k v

def write4 (r : Req) (i m k v : Nat) (s : State) : Res :=
  if i < 0x4010 then
    (if m = 2 then ruleAddrEff (i - 0x4000) r v s else if m = 3 then ruleDataEff (i - 0x4000) r v s else writePlain s k v)
  else if i < 0x4100 then (if m = 1 ∨ m = 2 then portDefaultEff k v s else writePlain s k v)
  else if i = 0x4100 then
    if m = 1 then lpmLenEff false v s else if m = 2 then lpmLenEff true v s
    else if m = 3 ∨ m = 4 then lpmDefaultEff k v s
    else if 5 ≤ m ∧ m ≤ 7 then lpmOperandEff r k v s
    else if m = 8 then lpmOpEff r v s
    else if m = 12 then lpmAddrEff v s
    else writePlain s k v
  else if i < 0x4300 then
    let n := i - 0x4200
    if m = 3 ∨ m = 4 then learnOperandEff n r k v s else if m = 5 then learnOpEff n r v s else writePlain s k v
  else if k = K.shadowCtrl then shadowCtrlEff v s
  else writePlain s k v

def write5 (r : Req) (i m k v : Nat) (s : State) : Res :=
  if k = K.scAddr then scAddrEff r v s else if k = K.scData then scDataEff r v s
  else if k = K.saAddr then saAddrEff r v s else if k = K.saData then saDataEff r v s
  else if k = K.keyAddr then keyAddrEff r v s else if k = K.keyData then keyDataEff r v s
  else if i = 0x5030 ∧ 1 ≤ m then armTickEff m v s
  else if k = K.migTick then migTickEff v s
  else writePlain s k v

def write6 (i m k v : Nat) (s : State) : Res :=
  if 0x6100 ≤ i ∧ i < 0x6200 ∧ m = 1 then cipherCtrlEff (i - 0x6100) v s
  else if 0x6200 ≤ i ∧ m = 10 then latClearEff (i - 0x6200) v s
  else writePlain s k v

def write7 (r : Req) (i m k v : Nat) (s : State) : Res :=
  if i < 0x7020 then
    let n := i - 0x7000
    if m = 1 then bufLimitEff n v s else if m = 4 then flowAddrEff n r v s else if m = 5 then flowDataEff n r v s
    else if m = 6 then queueAddrEff n r v s else if m = 7 then queueDataEff n r v s else writePlain s k v
  else if i < 0x7100 then
    let q := i - 0x7020
    if m = 2 ∨ m = 3 then portShaperEff q k v s
    else if 4 ≤ m ∧ m ≤ 6 then gateParamEff q k r v s
    else if m = 7 then gateAddrEff q r v s else if m = 8 then gateDataEff q r v s else if m = 9 then gateArmEff q r v s
    else writePlain s k v
  else if m = 1 then polAddrEff (i - 0x7100) r v s
  else if m = 2 then polDataEff (i - 0x7100) r v s
  else writePlain s k v

def write8 (r : Req) (i m k v : Nat) (s : State) : Res :=
  if k = K.tickRealign then tickRealignEff v s
  else if k = K.syncSource then syncSourceEff v s
  else if 0x8100 ≤ i ∧ i < 0x8104 then
    let n := i - 0x8100
    if m = 1 then tbCtrlEff n v s else if m = 3 then tbSetEff r n v s else if m = 4 then tbStepEff r n (toSigned 64 v) s else writePlain s k v
  else if 0x8110 ≤ i ∧ i < 0x8114 then
    let n := i - 0x8110
    if m = 1 then servoOffsetEff r n (toSigned 64 v) s else if m = 8 then servoCtrlEff n v s else writePlain s k v
  else if 0x8120 ≤ i ∧ i < 0x8124 then
    let n := i - 0x8120
    if m = 5 then tmrCtrlEff n v s else if 1 ≤ m ∧ m ≤ 4 then tmrTargetEff n (m - 1) k v s else writePlain s k v
  else if k = K.ppsTb ∨ k = K.ppsAdvance then ppsEff k v s
  else if k = K.captureCmd then captureEff v s
  else writePlain s k v

def write9 (r : Req) (i m k v : Nat) (s : State) : Res :=
  if k = K.saStatAddr then (if inProfile s r && decide (0x1FFF < bits v 16 0) then abortR s .unsupportedValue else saStatAddrEff r v s)
  else if k = K.perfCtrl then perfCtrlEff v s
  else if k = K.perfChain then perfChainEff v s
  else if 0x9110 ≤ i ∧ i < 0x9150 ∧ m = 1 then perfSelEff (i - 0x9110) v s
  else if k = K.dumpSaFirst then dumpSaFirstEff v s
  else if k = K.dumpSaLast then dumpSaLastEff v s
  else if k = K.dumpRequest then dumpRequestEff v s
  else if k = K.freezeCtrl then freezeCtrlEff v s
  else writePlain s k v

def writeA (r : Req) (k v : Nat) (s : State) : Res :=
  if k = K.berylDesc then berylDescEff r v s
  else if k = K.berylSubmit then berylSubmitEff r v s
  else if k = K.berylAbort then berylAbortEff v s
  else if k = K.berylIoData then berylIoEff v s
  else if k = K.berylKeyregClear then berylKeyregClearEff v s
  else if k = K.jasperClaim then jasperClaimEff r v s
  else if k = K.jasperAddr then jasperAddrEff r v s
  else if k = K.jasperData then jasperDataEff r v s
  else if k = K.jasperCmd then jasperCmdEff r v s
  else if k = K.jasperHlen then jasperHlenEff r v s
  else if k = K.jasperAbort then jasperAbortEff r v s
  else if k = K.epochAdvance then epochAdvanceEff v s
  else if k = K.pkeySel then pkeySelEff r v s
  else if k = K.pkeyReg then pkeyRegEff r v s
  else if k = K.pkeyOp then pkeyOpEff r v s
  else if k = K.zeroiseCmd then zeroiseCmdEff v s
  else if k = K.plaintextKeyEn then plaintextKeyEff v s
  else writePlain s k v

def writeB (i m k v : Nat) (s : State) : Res :=
  if k = K.onyxRtc then onyxRtcEff v s
  else if k = K.rtcSyncTb0 then rtcSyncEff v s
  else if k = K.flagClear then flagClearEff v s
  else if k = K.logAck then logAckEff v s
  else if 0xB030 ≤ i ∧ i < 0xB038 ∧ m = 1 then loopCtrlEff (i - 0xB030) v s
  else writePlain s k v

def writeC (i m k v : Nat) (s : State) : Res :=
  if k = K.fabNodeId then fabNodeIdEff v s
  else if 0xC100 ≤ i ∧ i < 0xC104 then
    let g := i - 0xC100
    if m = 1 then roleCtrlEff g v s else if m = 2 ∨ m = 3 then roleMembersEff g k v s else if m = 6 then roleSwitchEff g v s
    else writePlain s k v
  else writePlain s k v

def writeD (r : Req) (i m k v : Nat) (s : State) : Res :=
  if k = K.attachCtrl then attachCtrlEff r v s
  else if k = K.attachData then attachDataEff r v s
  else if k = K.sessionTimeout then sessionTimeoutEff r v s
  else if k = K.ownerBindData then ownerBindDataEff r v s
  else if k = K.ownerBindWrite then ownerBindEff r v s
  else if 0xD100 ≤ i ∧ i < 0xD140 ∧ m = 1 then regionCtrlEff (i - 0xD100) v s
  else if k = K.hbmAddr then hbmAddrEff r v .good s
  else if k = K.hbmData then hbmDataEff r v .good s
  else if k = K.hbmFlush then hbmFlushEff r v .good s
  else writePlain s k v

def writeE (r : Req) (i m k v : Nat) (s : State) : Res :=
  if 0xE010 ≤ i ∧ m = 1 then evtPendingEff r (i - 0xE010) v s
  else if 0xE010 ≤ i ∧ 2 ≤ m then evtEnableEff r (i - 0xE010) k v s
  else writePlain s k v

def writeF (r : Req) (k v : Nat) (s : State) : Res :=
  if k = K.lcRequest then lcRequestEff r v s
  else if k = K.enrolStart then enrolEff v s
  else if k = K.dbgRequest then dbgRequestEff v s
  else if k = K.dbgResponse then dbgResponseEff v s
  else if k = K.debugConsent then consentEff v s
  else if k = K.resetCmd then resetCmdEff v s
  else if k = K.fwPrefer then fwPreferEff v s
  else if k = K.fwSvnCommit then fwSvnEff v s
  else if k = K.fwUpdateOp then fwUpdateEff v s
  else if k = K.armCtrl then armCtrlEff v s
  else if k = K.holdCtrl then holdCtrlEff v s
  else writePlain s k v

/-- A write of the object at `k`, its checks passed; bits above the type's width are ignored (R418). -/
def dictWrite (r : Req) (k v : Nat) (s : State) : Res :=
  let i := k / 256
  let m := k % 256
  let v := v % 2 ^ widthOf k
  match i / 0x1000 with
  | 1 => write1 r i m k v s
  | 2 => write2 i m k v s
  | 3 => write3 i m k v s
  | 4 => write4 r i m k v s
  | 5 => write5 r i m k v s
  | 6 => write6 i m k v s
  | 7 => write7 r i m k v s
  | 8 => write8 r i m k v s
  | 9 => write9 r i m k v s
  | 10 => writeA r k v s
  | 11 => writeB i m k v s
  | 12 => writeC i m k v s
  | 13 => writeD r i m k v s
  | 14 => writeE r i m k v s
  | _ => writeF r k v s

/-- REGISTER_WRITE (R13–R16). -/
def execRegisterWrite (r : Req) (key v : Nat) (s : State) : Host.Outcome State Fault Refusal :=
  doneReset s (access s r key true (dictWrite r key v))

end Sys2Proof.Machine
end

