-- ==== Sys2Proof/Machine/Kda.lean ====
section
/-! DEFINITION. KDA frames and the SPI target (R415–R426, R476). -/

namespace Sys2Proof.Machine

/-- Abort codes as R420 numbers them. -/
def codeNum : Code → Nat
  | .ok => 0
  | .noObject => 1
  | .readOnly => 2
  | .worldViolation => 3
  | .unsupportedValue => 4
  | .wrongState => 5
  | .lateCommit => 6
  | .memoryError => 7
  | .typeErr => 8
  | .notReady => 9
  | .lengthErr => 10
  | .skipped => 11
  | .formatErr => 12
  | .versionErr => 13

/-! Operations (R418, R426). -/

/-- Words of an operation's value: those of the object's type; one where no object lies. -/
def typeWords (k : Nat) : Nat := (typeOf k).words
def isWindow (k : Nat) : Bool := match typeOf k with | .window => true | _ => false

/-- The most words a window operation moves. DEDUCED (log entry 45). -/
def winMax : Nat := 250

/-- READ. -/
def kdaRead (r : Req) (k : Nat) (s : State) : Option Res := opRes s r k false (dictRead r k)

/-- WRITE: a value of the wrong word count aborts with TYPE. -/
def kdaWrite (r : Req) (k : Nat) (ws : List Word) (s : State) : Option Res :=
  opRes s r k true (fun s =>
    match decVal (typeOf k) ws with
    | some v => dictWrite r k v s
    | none => abortR s .typeErr)

/-- WINDOW_READ of `n` words: it stops at the first word that aborts, with the words moved before it. -/
def winRead (r : Req) (k : Nat) : Nat → State → List Word → Option Res
  | 0, s, acc => some (okV s acc)
  | n + 1, s, acc =>
    match opRes s r k false (dictRead r k) with
    | none => none
    | some x => if x.code = .ok then winRead r k n x.st (acc ++ x.vals) else some ⟨x.st, x.code, acc⟩
def kdaWinRead (r : Req) (k n : Nat) (s : State) : Option Res :=
  if n = 0 ∨ winMax < n ∨ !isWindow k then opRes s r k false (fun s => abortR s .typeErr) else winRead r k n s []

/-- WINDOW_WRITE: the number of words moved is its one result value where it aborts. -/
def winWrite (r : Req) (k : Nat) : List Word → State → Nat → Option Res
  | [], s, _ => some (okR s)
  | w :: l, s, moved =>
    match opRes s r k true (dictWrite r k w) with
    | none => none
    | some x => if x.code = .ok then winWrite r k l x.st (moved + 1) else some ⟨x.st, x.code, [moved]⟩
def kdaWinWrite (r : Req) (k : Nat) (ws : List Word) (s : State) : Option Res :=
  if ws = [] ∨ winMax < ws.length ∨ !isWindow k then opRes s r k true (fun s => abortR s .typeErr) else winWrite r k ws s 0

/-- The answer of one operation commanded by itself. -/
def opAnswer (s : State) (r : Req) (x : Option Res) : State :=
  match x with
  | none => s
  | some x => replied (touch x.st r) x.code x.vals

/-- KDA_READ, KDA_WRITE, KDA_WINDOW_READ and KDA_WINDOW_WRITE. -/
def execKdaRead (r : Req) (key : Nat) (s : State) : Host.Outcome State Fault Refusal := done s (opAnswer s r (kdaRead r key s))
def execKdaWrite (r : Req) (key : Nat) (ws : List Nat) (s : State) : Host.Outcome State Fault Refusal :=
  doneReset s (opAnswer s r (kdaWrite r key ws s))
def execKdaWindowRead (r : Req) (key n : Nat) (s : State) : Host.Outcome State Fault Refusal :=
  done s (opAnswer s r (kdaWinRead r key n s))
def execKdaWindowWrite (r : Req) (key : Nat) (ws : List Nat) (s : State) : Host.Outcome State Fault Refusal :=
  done s (opAnswer s r (kdaWinWrite r key ws s))

/-! Frames (R417, R419–R422). -/

/-- A header: version, session, sequence number, body length, header length, and whether the frame carries a tag. -/
structure KdaHdr where
  ver  : Nat
  ops  : Nat
  sid  : Nat
  seq  : Nat
  len  : Nat
  hlen : Nat

/-- Read a header; one of an unknown version is laid out as version 1. -/
def kdaHdr (ws : List Word) : KdaHdr :=
  let w := nth ws 0
  let ver := bits w 31 28
  if ver = 2 then ⟨2, bits w 23 16, nth ws 1 % 2 ^ 32, nth ws 2 % 2 ^ 32 * 2 ^ 32 + nth ws 3 % 2 ^ 32, nth ws 4 % 2 ^ 16, 5⟩
  else ⟨ver, bits w 23 16, 0, bits (nth ws 1) 31 16, nth ws 1 % 2 ^ 16, 2⟩

/-- The frame of channel `c` carries a tag. -/
def kdaTagged (c : Nat) (h : KdaHdr) : Bool := c != 0 && h.ver == 2 && h.sid != 0

/-- Words the header promises. -/
def kdaNeed (c : Nat) (h : KdaHdr) : Nat := h.hlen + h.len + 2 * b2n (kdaTagged c h)

/-- One operation of a body. -/
structure KdaOp where
  opc : Nat
  key : Nat
  n   : Nat
  ws  : List Word
  deriving DecidableEq, Repr

/-- The operations of a body: none where one runs past it, or words are left over (R420). DEDUCED (log entry 45). -/
def kdaOps : Nat → List Word → Option (List KdaOp)
  | 0, [] => some []
  | 0, _ => none
  | _ + 1, [] => none
  | n + 1, w :: l =>
    let opc := bits w 31 28
    let key := bits w 23 0
    let take := if opc = 2 then typeWords key else if opc = 3 then 1 else if opc = 4 then 1 + nth l 0 else 0
    if l.length < take then none
    else
      let args := if opc = 4 then (l.take take).drop 1 else l.take take
      (kdaOps n (l.drop take)).map (fun t => ⟨opc, key, nth l 0, args⟩ :: t)

/-- The words a reply may still hold, and those an operation would add (R419). -/
def kdaRoom : Nat := 256
def kdaResult (o : KdaOp) : Nat := if o.opc = 1 then typeWords o.key else if o.opc = 3 then o.n else 0

/-- Run one operation. -/
def kdaOp (r : Req) (o : KdaOp) (s : State) : Option Res :=
  match o.opc with
  | 1 => kdaRead r o.key s
  | 2 => kdaWrite r o.key o.ws s
  | 3 => kdaWinRead r o.key o.n s
  | 4 => kdaWinWrite r o.key o.ws s
  | _ => some (abortR s .typeErr)

/-- The status word of an operation: for an aborted window write the words moved, none of which follow (R426).
DEDUCED (log entry 45). -/
def kdaStatus (o : KdaOp) (x : Res) : List Word :=
  if o.opc = 4 then [x.vals.headD 0 * 2 ^ 16 + codeNum x.code] else (x.vals.length * 2 ^ 16 + codeNum x.code) :: x.vals

/-- Run operations in order; after the first abort the rest are SKIPPED. `used` counts the reply's words so far. None where
the channel gives no reply. DEDUCED (log entry 45). -/
def kdaRun (r : Req) : List KdaOp → State → Nat → Code → List Word → Option (State × Code × List Word)
  | [], s, _, c, acc => some (s, c, acc)
  | o :: l, s, used, c, acc =>
    if c ≠ .ok then kdaRun r l s used c (acc ++ [codeNum .skipped])
    else if kdaRoom < used + 1 + kdaResult o then kdaRun r l s used .lengthErr (acc ++ [codeNum .lengthErr])
    else
      match kdaOp r o s with
      | none => none
      | some x => let t := kdaStatus o x; kdaRun r l x.st (used + t.length) x.code (acc ++ t)

/-- A reply (R417, R421); its VER is 1 or 2 whatever the request's was. DEDUCED (log entry 45). -/
def kdaReply (s : State) (c : Nat) (h : KdaHdr) (status ops : Nat) (body : List Word) : List Word :=
  let w0 := (if h.ver = 2 then 2 else 1) * 2 ^ 28 + 2 ^ 24 + ops * 2 ^ 16 + status * 2 ^ 8
  if h.ver = 2 then
    let seq := h.seq % 2 ^ 63 + 2 ^ 63
    let ws := [w0, h.sid, seq / 2 ^ 32, seq % 2 ^ 32, body.length] ++ body
    match (if kdaTagged c h then (chan s c).sess else none) with
    | some x => ws ++ kdaTag x seq ws
    | none => ws
  else [w0, h.seq % 2 ^ 16 * 2 ^ 16 + body.length] ++ body

/-- Hold a reply on SPI, or send it. DEDUCED (log entry 45). -/
def kdaAnswer (s : State) (c src : Nat) (ws : List Word) : State :=
  if c = 0 then setChan s 0 { chan s 0 with held := some ws } else kdaSend s c src ws

/-- A frame is discarded unanswered and counted; on SPI it sets ERROR (R422, R476). -/
def kdaReject (s : State) (c : Nat) (named : Bool) : State :=
  let s := if named then incFirst s (K.chanRejected c) Ev.kdaRejected c 0 else inc s (K.chanRejected c) 1
  if c = 0 then setChan s 0 { chan s 0 with error := true } else s

/-- A frame code (R420): answered, nothing executed. -/
def kdaRefuse (s : State) (c src : Nat) (h : KdaHdr) (code : Code) : State :=
  let s := kdaAnswer s c src (kdaReply s c h (codeNum code) 0 [])
  if c = 0 then setChan s 0 { chan s 0 with error := true } else s

/-- Refused requests in a row that close a session (R304). -/
def badMax : Nat := 8

/-- A request in the session fails its tag, or is stale. -/
def kdaBad (s : State) (c : Nat) (x : Sess) : State :=
  let s := kdaReject (setChan s c { chan s c with sess := some { x with bad := x.bad + 1 } }) c true
  if badMax ≤ x.bad + 1 then endSession s c else s

/-- The frame executes (R418, R419, R421): its reply is kept. DEDUCED (log entry 46). -/
def kdaExecute (s : State) (c src : Nat) (h : KdaHdr) (ws : List Word) : State :=
  match kdaOps h.ops ((ws.drop h.hlen).take h.len) with
  | none => kdaRefuse s c src h .formatErr
  | some ops =>
    let r : Req := ⟨c, kdaTagged c h, src⟩
    let used := h.hlen + 2 * b2n (kdaTagged c h)
    match kdaRun r ops s used .ok [] with
    | none => s
    | some (t, code, body) =>
      if !t.boot.engine then t
      else
        let out := kdaReply s c h (codeNum code) h.ops body
        let t := inc (touch t r) (K.chanRequests c) 1
        kdaAnswer (setChan t c { chan t c with last := some h.seq, kept := out }) c src out

/-- The format of a frame (R417, R420): on an MG port what follows the frame is padding (R423). DEDUCED (log entry 45). -/
def kdaFormOk (c : Nat) (h : KdaHdr) (ws : List Word) : Bool :=
  let need := kdaNeed c h
  (if c = 1 ∨ c = 2 then decide (need ≤ ws.length) else ws.length == need) && decide (need ≤ 256) && decide (1 ≤ h.ops) &&
  decide (h.ops ≤ 64)

/-- A duplicate of the last executed request is answered again, any other frame executed (R421). DEDUCED (log entry 45). -/
def kdaFresh (s : State) (c src : Nat) (h : KdaHdr) (ws : List Word) : State :=
  let x := chan s c
  if x.last = some h.seq then kdaAnswer (inc s (K.chanDuplicates c) 1) c src x.kept
  else if !kdaFormOk c h ws then kdaRefuse s c src h .formatErr
  else kdaExecute s c src h ws

/-- The checks of a frame in a session (R304, R421, R422). DEDUCED (log entry 45). -/
def kdaInSession (s : State) (c src : Nat) (h : KdaHdr) (ws : List Word) : State :=
  match (chan s c).sess with
  | none => kdaReject s c false
  | some x =>
    if h.sid ≠ x.id then kdaReject s c false
    else
      let n := kdaNeed c h - 2
      let whole := decide (n + 2 ≤ ws.length)
      if !whole || (ws.drop n).take 2 != kdaTag x h.seq (ws.take n) then kdaBad s c x
      else if (chan s c).last = some h.seq then kdaFresh s c src h ws
      else if 2 ^ 62 ≤ h.seq ∨ h.seq < x.lastSeq then kdaBad s c x
      else
        let s := setChan s c { chan s c with sess := some { x with lastSeq := h.seq + 1, bad := 0 } }
        kdaFresh s c src h ws

/-- A frame is no request (R476). DEDUCED (log entry 45). -/
def notRequest (ws : List Word) : Bool := bits (nth ws 0) 27 24 != 0

/-- A frame is taken from its channel (R417, R420, R422, R427): version, session, then its operations.
DEDUCED (log entries 45, 46). -/
def kdaServe (s : State) (c src : Nat) (ws : List Word) : State :=
  let h := kdaHdr ws
  if notRequest ws then kdaReject s c true
  else if (h.ver ≠ 1 ∧ h.ver ≠ 2) ∨ (h.ver = 2 ∧ rdBit s (K.chanCtrl c) 4) then kdaRefuse s c src h .versionErr
  else if kdaTagged c h then kdaInSession s c src h ws
  else kdaFresh s c src h ws

/-- Requests a channel holds: one in execution, three waiting (R423, R424). -/
def queueMax : Nat := 4

/-- A frame arrives on MGA, MGB or the fabric; one that is no request takes no place in the queue (R476).
DEDUCED (log entry 45). -/
def kdaArrive (s : State) (c src : Nat) (ws : List Word) : State :=
  let s := if c = 3 then (match routeTo s 1 src with | some p => inc s (K.linkRxMsgs p) 1 | none => s) else s
  let open_ := c == 3 || rdBit s (K.chanCtrl c) 1 || rdBit s (K.chanCtrl c) 2
  if c = 0 ∨ 3 < c ∨ !s.boot.engine ∨ s.life.state = Lc.lost ∨ !rdBit s (K.chanCtrl c) 0 ∨ !open_ then s
  else if notRequest ws then kdaReject s c true
  else
    let x := chan s c
    if queueMax ≤ x.queue.length then incFirst s (K.chanRxDrops c) Ev.kdaQueueFull c 0
    else setChan s c { x with queue := x.queue ++ [(s.tick.clock, src, ws)] }

/-- The channel that has waited longest; ties in the order SPI, MGA, MGB, fabric (R415). DEDUCED (log entry 46). -/
def nextChan (s : State) : Option Nat :=
  (List.range 4).foldl (fun best c =>
    match (chan s c).queue with
    | [] => best
    | (t, _, _) :: _ =>
      match best with
      | none => some c
      | some b => (match (chan s b).queue with | (u, _, _) :: _ => if t < u then some c else best | [] => some c)) none

/-- KDA_REQUEST: a frame arrives, or the engine takes the next frame. A reset that the frame causes empties the queues.
DEDUCED (log entry 46). -/
def execKdaRequest (a : KdaIn) (s : State) : Host.Outcome State Fault Refusal :=
  doneReset s (match a with
  | .arrive c src ws => kdaArrive s c src ws
  | .serve =>
    match nextChan s with
    | none => s
    | some c =>
      match (chan s c).queue with
      | [] => s
      | (_, src, ws) :: l => kdaServe (setChan s c { chan s c with queue := l }) c src ws)

/-! The SPI target (R425). -/

/-- A request is executing on SPI. DEDUCED (log entry 47). -/
def spiBusy (s : State) : Bool := !(chan s 0).queue.isEmpty

/-- SPI_WRITE_REQUEST. DEDUCED (log entry 47). -/
def execSpiWriteRequest (ws : List Nat) (whole : Bool) (s : State) : Host.Outcome State Fault Refusal :=
  done s (let x := chan s 0
    if !s.boot.engine then s
    else if spiBusy s then setChan s 0 { x with error := true }
    else if !whole then setChan s 0 { x with held := none, error := true }
    else if notRequest ws then kdaReject (setChan s 0 { x with held := none, error := false }) 0 true
    else setChan s 0 { x with held := none, error := false, queue := [(s.tick.clock, 0, ws)] })

/-- The status byte. DEDUCED (log entry 47). -/
def spiStatus (s : State) : Nat :=
  let x := chan s 0
  b2n (spiBusy s) + 2 * b2n x.held.isSome + 4 * b2n (irqLow s) + 8 * b2n x.error + 128 * b2n s.boot.engine

/-- SPI_READ_STATUS. DEDUCED (log entry 47). -/
def execSpiReadStatus (s : State) : Host.Outcome State Fault Refusal := done s (emit s (.spi [spiStatus s]))

/-- SPI_READ_REPLY: `n` words of the held reply; all ones where none is held, and beyond its end. DEDUCED (log entry 47). -/
def execSpiReadReply (n : Nat) (s : State) : Host.Outcome State Fault Refusal :=
  done s (emit s (.spi ((List.range n).map (fun i => ((chan s 0).held.getD []).getD i (2 ^ 32 - 1)))))

end Sys2Proof.Machine
end

