-- ==== Sys2Proof/Machine/Commit.lean ====
section
/-! DEFINITION. The two phases of a tick that everything else hangs on (R34–R38): the boundary at cc 0 and the commit
point at cc 16. -/

namespace Sys2Proof.Machine

/-- What the boundary does beside moving the tick (R35, R184, R359, R360, R369, R374): the fold of the performance
counters over the tick that ended, the counter snapshot, the measurements of the deterministic ports, and SYNC_OUT.
DEDUCED (log entry 18). -/
def boundaryEff (s : State) : State :=
  let from_ := s.tick.start
  let s := boundary s
  let s := perfFold s (s.tick.start - from_)
  let s := dumpDue s
  let s := forNat 32 (fun q s => protUpdate s q) s
  let s := { s with dp := { s.dp with latSeen := [] } }
  if rdField s K.syncOutCtrl 1 0 = 2 then emit s .syncOut else s

/-- TICK_BOUNDARY (R35): cc 0 of the next tick; before the clocks are locked there is none (R437). -/
def execTickBoundary (s : State) : Host.Outcome State Fault Refusal :=
  doneTick s (if s.boot.engine then boundaryEff s else s)

/-- An arm or a disarm accepted in the tick before takes effect (R446, R447). DEDUCED (log entry 17). -/
def armCommit (s : State) : State :=
  let arm := rdBit s K.armStatus 1
  let disarm := rdBit s K.armStatus 2
  let s := wrField s K.armStatus 2 1 0
  if arm then
    { wrBit s K.armStatus 0 true with dp := { s.dp with squelch := false }, boot := { s.boot with drain := false },
                                      assoc := { s.assoc with pred := [] } }
  else if disarm && armed s then { s with boot := { s.boot with drain := true } }
  else s

/-- COMMIT_POINT (R35, R36): the key switches and Layer-1 phase switches of this tick, then the page and list selects,
then migrations, arming and planned switchovers. DESIGN CHOICE (log entry 12); DEDUCED (log entries 17, 18). -/
def commitEff (s : State) : State :=
  let s := toCc s 16
  let s := l1Commits (commitSets s)
  let s := forNat 4 (fun k s => tsiCommit s k) s
  let s := forNat 32 (fun q s => gateCommit s q) s
  switchCommit (armCommit (migCommit s))
def execCommitPoint (s : State) : Host.Outcome State Fault Refusal :=
  done s (if s.boot.engine then commitEff s else s)

end Sys2Proof.Machine
end

