-- ==== Sys2Proof/Machine/Dispatch.lean ====
section
/-! DEFINITION. One arm per command: a direct call of its meaning. -/

namespace Sys2Proof.Machine

/-- The effect of a command on everything but the queue. -/
def exec (i : Instr) (s : State) : Host.Outcome State Fault Refusal :=
  match i with
  | .registerWrite r key v => Sys2Proof.Machine.execRegisterWrite r key v s
  | .kdaRequest a => Sys2Proof.Machine.execKdaRequest a s
  | .kdaRead r key => Sys2Proof.Machine.execKdaRead r key s
  | .kdaWrite r key ws => Sys2Proof.Machine.execKdaWrite r key ws s
  | .kdaWindowRead r key n => Sys2Proof.Machine.execKdaWindowRead r key n s
  | .kdaWindowWrite r key ws => Sys2Proof.Machine.execKdaWindowWrite r key ws s
  | .spiWriteRequest ws whole => Sys2Proof.Machine.execSpiWriteRequest ws whole s
  | .spiReadStatus => Sys2Proof.Machine.execSpiReadStatus s
  | .spiReadReply n => Sys2Proof.Machine.execSpiReadReply n s
  | .spiChannelReset => Sys2Proof.Machine.execSpiChannelReset s
  | .mgArpRequest c v6 target asker => Sys2Proof.Machine.execMgArpRequest c v6 target asker s
  | .mgLinkLoss c => Sys2Proof.Machine.execMgLinkLoss c s
  | .chanReset r c => Sys2Proof.Machine.execChanReset r c s
  | .evtSubscribe r c => Sys2Proof.Machine.execEvtSubscribe r c s
  | .evtUnsubscribe r c => Sys2Proof.Machine.execEvtUnsubscribe r c s
  | .evtMsgSend c => Sys2Proof.Machine.execEvtMsgSend c s
  | .evtDataRead r => Sys2Proof.Machine.execEvtDataRead r s
  | .evtDataSRead r => Sys2Proof.Machine.execEvtDataSRead r s
  | .evtLostRead r sec => Sys2Proof.Machine.execEvtLostRead r sec s
  | .evtPendingClear r w v => Sys2Proof.Machine.execEvtPendingClear r w v s
  | .chanRejectedRead r c => Sys2Proof.Machine.execChanRejectedRead r c s
  | .chanRxDropsRead r c => Sys2Proof.Machine.execChanRxDropsRead r c s
  | .tickBoundary => Sys2Proof.Machine.execTickBoundary s
  | .commitPoint => Sys2Proof.Machine.execCommitPoint s
  | .graceEnd h => Sys2Proof.Machine.execGraceEnd h s
  | .leaseExpiry g => Sys2Proof.Machine.execLeaseExpiry g s
  | .migrationDrainEnd => Sys2Proof.Machine.execMigrationDrainEnd s
  | .commitReport => Sys2Proof.Machine.execCommitReport s
  | .heartbeatSend => Sys2Proof.Machine.execHeartbeatSend s
  | .reservationSend => Sys2Proof.Machine.execReservationSend s
  | .dumpStart => Sys2Proof.Machine.execDumpStart s
  | .bgJobSuspend job => Sys2Proof.Machine.execBgJobSuspend job s
  | .hbmCounterWriteback => Sys2Proof.Machine.execHbmCounterWriteback s
  | .shadowCompareStep suspect => Sys2Proof.Machine.execShadowCompareStep suspect s
  | .dumpChunk => Sys2Proof.Machine.execDumpChunk s
  | .scrubStep hits => Sys2Proof.Machine.execScrubStep hits s
  | .standbySelftestStep sliceOk => Sys2Proof.Machine.execStandbySelftestStep sliceOk s
  | .tickRealign r v => Sys2Proof.Machine.execTickRealign r v s
  | .syncInEdge ps => Sys2Proof.Machine.execSyncInEdge ps s
  | .syncInLost => Sys2Proof.Machine.execSyncInLost s
  | .clockLost d => Sys2Proof.Machine.execClockLost d s
  | .bgOverrunRead r job => Sys2Proof.Machine.execBgOverrunRead r job s
  | .groupLayoutWrite r n v => Sys2Proof.Machine.execGroupLayoutWrite r n v s
  | .groupModeWrite r n v => Sys2Proof.Machine.execGroupModeWrite r n v s
  | .laneCtrlWrite r m v => Sys2Proof.Machine.execLaneCtrlWrite r m v s
  | .laneSignalDetect m => Sys2Proof.Machine.execLaneSignalDetect m s
  | .laneCdrLock m => Sys2Proof.Machine.execLaneCdrLock m s
  | .laneCdrTimeout m => Sys2Proof.Machine.execLaneCdrTimeout m s
  | .laneTrainComplete m taps => Sys2Proof.Machine.execLaneTrainComplete m taps s
  | .laneTrainTimeout m => Sys2Proof.Machine.execLaneTrainTimeout m s
  | .laneTrainRetry m => Sys2Proof.Machine.execLaneTrainRetry m s
  | .laneAdaptDone m snr => Sys2Proof.Machine.execLaneAdaptDone m snr s
  | .laneAdaptTimeout m => Sys2Proof.Machine.execLaneAdaptTimeout m s
  | .laneLos m => Sys2Proof.Machine.execLaneLos m s
  | .laneCdrLost m => Sys2Proof.Machine.execLaneCdrLost m s
  | .blockLockAcquired p slips => Sys2Proof.Machine.execBlockLockAcquired p slips s
  | .blockLockLost p => Sys2Proof.Machine.execBlockLockLost p s
  | .fabClkLost p => Sys2Proof.Machine.execFabClkLost p s
  | .fabSyncAcquired p d => Sys2Proof.Machine.execFabSyncAcquired p d s
  | .fabSyncLost p d errs => Sys2Proof.Machine.execFabSyncLost p d errs s
  | .fabAlignSetRx p skew => Sys2Proof.Machine.execFabAlignSetRx p skew s
  | .fabAlignSetSend p => Sys2Proof.Machine.execFabAlignSetSend p s
  | .fabCtrlWrite r p v => Sys2Proof.Machine.execFabCtrlWrite r p v s
  | .pgCtrlWrite r m v => Sys2Proof.Machine.execPgCtrlWrite r m v s
  | .injOnce r m => Sys2Proof.Machine.execInjOnce r m s
  | .injRateError m => Sys2Proof.Machine.execInjRateError m s
  | .prbsCheckerLock m => Sys2Proof.Machine.execPrbsCheckerLock m s
  | .prbsLockLost m bits errs => Sys2Proof.Machine.execPrbsLockLost m bits errs s
  | .pcsHiErr q sd o => Sys2Proof.Machine.execPcsHiErr q sd o s
  | .pcsHiErrClear q sd o => Sys2Proof.Machine.execPcsHiErrClear q sd o s
  | .amLockLost q sd o => Sys2Proof.Machine.execAmLockLost q sd o s
  | .faultReceived q sd f => Sys2Proof.Machine.execFaultReceived q sd f s
  | .otlLaneLocked n sd lane llm rejects => Sys2Proof.Machine.execOtlLaneLocked n sd lane llm rejects s
  | .otlLaneUnlocked n sd lane => Sys2Proof.Machine.execOtlLaneUnlocked n sd lane s
  | .otlDeskew n sd skew late => Sys2Proof.Machine.execOtlDeskew n sd skew late s
  | .otnLof p => Sys2Proof.Machine.execOtnLof p s
  | .otnLofClear p => Sys2Proof.Machine.execOtnLofClear p s
  | .otnLom p => Sys2Proof.Machine.execOtnLom p s
  | .otnLomClear p => Sys2Proof.Machine.execOtnLomClear p s
  | .otnPsiRx n sd pt msi ais bdi => Sys2Proof.Machine.execOtnPsiRx n sd pt msi ais bdi s
  | .gmpJcRx n sd tpn cm cnd crcOk => Sys2Proof.Machine.execGmpJcRx n sd tpn cm cnd crcOk s
  | .tsiDataWrite r k v => Sys2Proof.Machine.execTsiDataWrite r k v s
  | .tsiCopy r k => Sys2Proof.Machine.execTsiCopy r k s
  | .tsiSwapArm r k t => Sys2Proof.Machine.execTsiSwapArm r k t s
  | .tsiGroupSwap k d g => Sys2Proof.Machine.execTsiGroupSwap k d g s
  | .l1DataWrite r k v => Sys2Proof.Machine.execL1DataWrite r k v s
  | .l1SwitchArm r k t => Sys2Proof.Machine.execL1SwitchArm r k t s
  | .l1MultiframeTx k c payload ecc => Sys2Proof.Machine.execL1MultiframeTx k c payload ecc s
  | .l1AnnounceRx k c ann => Sys2Proof.Machine.execL1AnnounceRx k c ann s
  | .l1TagRx k c cipher tag ecc => Sys2Proof.Machine.execL1TagRx k c cipher tag ecc s
  | .pmSecond n near far line host => Sys2Proof.Machine.execPmSecond n near far line host s
  | .pmBinClose n day => Sys2Proof.Machine.execPmBinClose n day s
  | .pmSelectWrite r n v => Sys2Proof.Machine.execPmSelectWrite r n v s
  | .hostFrameRx q bytes fcsOk par ecc => Sys2Proof.Machine.execHostFrameRx q bytes fcsOk par ecc s
  | .lineFrameRx q bytes fcsOk par ecc => Sys2Proof.Machine.execLineFrameRx q bytes fcsOk par ecc s
  | .slowPathDone j => Sys2Proof.Machine.execSlowPathDone j s
  | .inboundChecks q granted am => Sys2Proof.Machine.execInboundChecks q granted am s
  | .verifyTail q => Sys2Proof.Machine.execVerifyTail q s
  | .queueAdmission q => Sys2Proof.Machine.execQueueAdmission q s
  | .frameEligible q => Sys2Proof.Machine.execFrameEligible q s
  | .schedulerAnnounce q => Sys2Proof.Machine.execSchedulerAnnounce q s
  | .detAnnounce q am => Sys2Proof.Machine.execDetAnnounce q am s
  | .gateEvent q => Sys2Proof.Machine.execGateEvent q s
  | .ruleAddrWrite r j v => Sys2Proof.Machine.execRuleAddrWrite r j v s
  | .ruleDataWrite r j v => Sys2Proof.Machine.execRuleDataWrite r j v s
  | .stagingClaimTimeout grp => Sys2Proof.Machine.execStagingClaimTimeout grp s
  | .lpmInsert r => Sys2Proof.Machine.execLpmInsert r s
  | .lpmDelete r => Sys2Proof.Machine.execLpmDelete r s
  | .lpmFind r => Sys2Proof.Machine.execLpmFind r s
  | .learnInsertStatic r ix => Sys2Proof.Machine.execLearnInsertStatic r ix s
  | .learnDelete r ix => Sys2Proof.Machine.execLearnDelete r ix s
  | .learnFind r ix => Sys2Proof.Machine.execLearnFind r ix s
  | .learnFlushAll r ix => Sys2Proof.Machine.execLearnFlushAll r ix s
  | .learnFlushPort r ix => Sys2Proof.Machine.execLearnFlushPort r ix s
  | .learnFlushSc r ix => Sys2Proof.Machine.execLearnFlushSc r ix s
  | .learnFlushDone ix => Sys2Proof.Machine.execLearnFlushDone ix s
  | .learnFifoRetire ix => Sys2Proof.Machine.execLearnFifoRetire ix s
  | .ageSweep ix => Sys2Proof.Machine.execAgeSweep ix s
  | .slowOverflowRead r j => Sys2Proof.Machine.execSlowOverflowRead r j s
  | .learnFullRead r ix => Sys2Proof.Machine.execLearnFullRead r ix s
  | .scAddrWrite r v => Sys2Proof.Machine.execScAddrWrite r v s
  | .scDataWrite r v => Sys2Proof.Machine.execScDataWrite r v s
  | .saAddrWrite r v => Sys2Proof.Machine.execSaAddrWrite r v s
  | .saDataWrite r v => Sys2Proof.Machine.execSaDataWrite r v s
  | .saStage r v => Sys2Proof.Machine.execSaStage r v s
  | .saRetire r v => Sys2Proof.Machine.execSaRetire r v s
  | .keyAddrWrite r v => Sys2Proof.Machine.execKeyAddrWrite r v s
  | .keyDataWrite r v => Sys2Proof.Machine.execKeyDataWrite r v s
  | .armTickWrite r set t => Sys2Proof.Machine.execArmTickWrite r set t s
  | .migTickWrite r t => Sys2Proof.Machine.execMigTickWrite r t s
  | .resvDropsRead r => Sys2Proof.Machine.execResvDropsRead r s
  | .migrateLateRead r => Sys2Proof.Machine.execMigrateLateRead r s
  | .cipherCtrlWrite r q v => Sys2Proof.Machine.execCipherCtrlWrite r q v s
  | .latClear r q => Sys2Proof.Machine.execLatClear r q s
  | .detLateRead r q => Sys2Proof.Machine.execDetLateRead r q s
  | .verifyLastRead r q => Sys2Proof.Machine.execVerifyLastRead r q s
  | .berylDescWrite r v => Sys2Proof.Machine.execBerylDescWrite r v s
  | .berylSubmitUrgent r => Sys2Proof.Machine.execBerylSubmitUrgent r s
  | .berylSubmitNormal r => Sys2Proof.Machine.execBerylSubmitNormal r s
  | .berylJobStart => Sys2Proof.Machine.execBerylJobStart s
  | .berylSuspend => Sys2Proof.Machine.execBerylSuspend s
  | .berylJobDone srcSuspect f => Sys2Proof.Machine.execBerylJobDone srcSuspect f s
  | .berylDoneRead r => Sys2Proof.Machine.execBerylDoneRead r s
  | .berylAbortNormal r => Sys2Proof.Machine.execBerylAbortNormal r s
  | .berylAbortUrgent r => Sys2Proof.Machine.execBerylAbortUrgent r s
  | .berylAbortAll r => Sys2Proof.Machine.execBerylAbortAll r s
  | .berylKeyregClear r v => Sys2Proof.Machine.execBerylKeyregClear r v s
  | .berylIoDataAccess r a => Sys2Proof.Machine.execBerylIoDataAccess r a s
  | .berylClearDone => Sys2Proof.Machine.execBerylClearDone s
  | .jasperClaim r => Sys2Proof.Machine.execJasperClaim r s
  | .jasperRelease r => Sys2Proof.Machine.execJasperRelease r s
  | .jasperZeroingDone p => Sys2Proof.Machine.execJasperZeroingDone p s
  | .jasperDataAccess r a => Sys2Proof.Machine.execJasperDataAccess r a s
  | .ecdsaSign r v => Sys2Proof.Machine.execEcdsaSign r v s
  | .ecdsaVerify r v => Sys2Proof.Machine.execEcdsaVerify r v s
  | .ecKeygen r v => Sys2Proof.Machine.execEcKeygen r v s
  | .ecdh r v => Sys2Proof.Machine.execEcdh r v s
  | .ecValidate r v => Sys2Proof.Machine.execEcValidate r v s
  | .x25519 r v => Sys2Proof.Machine.execX25519 r v s
  | .x25519Keygen r v => Sys2Proof.Machine.execX25519Keygen r v s
  | .rsaPublic r v => Sys2Proof.Machine.execRsaPublic r v s
  | .rsaPrivate r v => Sys2Proof.Machine.execRsaPrivate r v s
  | .modInv r v => Sys2Proof.Machine.execModInv r v s
  | .curveLoad r v => Sys2Proof.Machine.execCurveLoad r v s
  | .jasperJobStart => Sys2Proof.Machine.execJasperJobStart s
  | .jasperJobDone selfCheckOk => Sys2Proof.Machine.execJasperJobDone selfCheckOk s
  | .jasperAbort r => Sys2Proof.Machine.execJasperAbort r s
  | .jasperResultRead r => Sys2Proof.Machine.execJasperResultRead r s
  | .pufAttemptDone flips => Sys2Proof.Machine.execPufAttemptDone flips s
  | .keyDerivationDone => Sys2Proof.Machine.execKeyDerivationDone s
  | .pkeyRecordScan => Sys2Proof.Machine.execPkeyRecordScan s
  | .epochAdvanceWrite r v => Sys2Proof.Machine.execEpochAdvanceWrite r v s
  | .epochAdvanceDone => Sys2Proof.Machine.execEpochAdvanceDone s
  | .plaintextKeyEnWrite r v => Sys2Proof.Machine.execPlaintextKeyEnWrite r v s
  | .pkeyStore r => Sys2Proof.Machine.execPkeyStore r s
  | .pkeyLoad r => Sys2Proof.Machine.execPkeyLoad r s
  | .pkeyErase r => Sys2Proof.Machine.execPkeyErase r s
  | .pkeyOpDone flashOk => Sys2Proof.Machine.execPkeyOpDone flashOk s
  | .zeroiseCmd r => Sys2Proof.Machine.execZeroiseCmd r s
  | .zeroiseCmdWipe r => Sys2Proof.Machine.execZeroiseCmdWipe r s
  | .zeroiseClearingDone => Sys2Proof.Machine.execZeroiseClearingDone s
  | .persistWipeDone => Sys2Proof.Machine.execPersistWipeDone s
  | .monitorFire ds => Sys2Proof.Machine.execMonitorFire ds s
  | .monitorRearm src => Sys2Proof.Machine.execMonitorRearm src s
  | .tempSample dc => Sys2Proof.Machine.execTempSample dc s
  | .tamperLoopAlarm samples => Sys2Proof.Machine.execTamperLoopAlarm samples s
  | .loopSettled loop => Sys2Proof.Machine.execLoopSettled loop s
  | .loopFault loop => Sys2Proof.Machine.execLoopFault loop s
  | .loopArm r loop => Sys2Proof.Machine.execLoopArm r loop s
  | .loopDisarm r loop => Sys2Proof.Machine.execLoopDisarm r loop s
  | .flagClear r v => Sys2Proof.Machine.execFlagClear r v s
  | .onyxRtcWrite r v => Sys2Proof.Machine.execOnyxRtcWrite r v s
  | .rtcSyncTb0 r => Sys2Proof.Machine.execRtcSyncTb0 r s
  | .rtcSyncLoad => Sys2Proof.Machine.execRtcSyncLoad s
  | .logAck r v => Sys2Proof.Machine.execLogAck r v s
  | .logDataRead r => Sys2Proof.Machine.execLogDataRead r s
  | .onyxCrystalFail => Sys2Proof.Machine.execOnyxCrystalFail s
  | .onyxCrystalRestore => Sys2Proof.Machine.execOnyxCrystalRestore s
  | .onyxPowerOn => Sys2Proof.Machine.execOnyxPowerOn s
  | .mainPowerChange present => Sys2Proof.Machine.execMainPowerChange present s
  | .lcToEnrol r => Sys2Proof.Machine.execLcToEnrol r s
  | .lcToOwned r => Sys2Proof.Machine.execLcToOwned r s
  | .lcToReturned r => Sys2Proof.Machine.execLcToReturned r s
  | .lcToScrap r => Sys2Proof.Machine.execLcToScrap r s
  | .lcWindowDone readBackOk => Sys2Proof.Machine.execLcWindowDone readBackOk s
  | .lcCleanupDone => Sys2Proof.Machine.execLcCleanupDone s
  | .enrolStart r => Sys2Proof.Machine.execEnrolStart r s
  | .enrolDone reads flashOk => Sys2Proof.Machine.execEnrolDone reads flashOk s
  | .debugConsentWrite r v => Sys2Proof.Machine.execDebugConsentWrite r v s
  | .dbgRequest r v => Sys2Proof.Machine.execDbgRequest r v s
  | .dbgResponseWrite r v => Sys2Proof.Machine.execDbgResponseWrite r v s
  | .dbgCheckDone => Sys2Proof.Machine.execDbgCheckDone s
  | .dbgChallengeExpire => Sys2Proof.Machine.execDbgChallengeExpire s
  | .attachHello r => Sys2Proof.Machine.execAttachHello r s
  | .attachReplyReady c => Sys2Proof.Machine.execAttachReplyReady c s
  | .attachProof r => Sys2Proof.Machine.execAttachProof r s
  | .attachOpen c => Sys2Proof.Machine.execAttachOpen c s
  | .attachEnd r => Sys2Proof.Machine.execAttachEnd r s
  | .attachDataAccess r a => Sys2Proof.Machine.execAttachDataAccess r a s
  | .attachExpire c => Sys2Proof.Machine.execAttachExpire c s
  | .attachLockoutEnd c => Sys2Proof.Machine.execAttachLockoutEnd c s
  | .sessionTimeout c => Sys2Proof.Machine.execSessionTimeout c s
  | .ownerBindWrite r => Sys2Proof.Machine.execOwnerBindWrite r s
  | .ownerBindDone flashOk => Sys2Proof.Machine.execOwnerBindDone flashOk s
  | .regionEnable r n v => Sys2Proof.Machine.execRegionEnable r n v s
  | .regionDisable r n v => Sys2Proof.Machine.execRegionDisable r n v s
  | .regionInitDone n => Sys2Proof.Machine.execRegionInitDone n s
  | .hbmAddrWrite r v f => Sys2Proof.Machine.execHbmAddrWrite r v f s
  | .hbmDataWrite r v f => Sys2Proof.Machine.execHbmDataWrite r v f s
  | .hbmDataRead r f => Sys2Proof.Machine.execHbmDataRead r f s
  | .hbmFlush r f => Sys2Proof.Machine.execHbmFlush r f s
  | .hbmReadDeliver m region line f => Sys2Proof.Machine.execHbmReadDeliver m region line f s
  | .memLateAlarm region level line => Sys2Proof.Machine.execMemLateAlarm region level line s
  | .memLastRead r => Sys2Proof.Machine.execMemLastRead r s
  | .masterRefusedRead r => Sys2Proof.Machine.execMasterRefusedRead r s
  | .flashTransfer bad => Sys2Proof.Machine.execFlashTransfer bad s
  | .flowDataWrite r k v => Sys2Proof.Machine.execFlowDataWrite r k v s
  | .queueAddrWrite r k v => Sys2Proof.Machine.execQueueAddrWrite r k v s
  | .queueDataWrite r k v => Sys2Proof.Machine.execQueueDataWrite r k v s
  | .tailDropsRead r k => Sys2Proof.Machine.execTailDropsRead r k s
  | .gateDataWrite r q v => Sys2Proof.Machine.execGateDataWrite r q v s
  | .gateArm r q => Sys2Proof.Machine.execGateArm r q s
  | .gateDisarm r q => Sys2Proof.Machine.execGateDisarm r q s
  | .polAddrWrite r ix v => Sys2Proof.Machine.execPolAddrWrite r ix v s
  | .polDataWrite r ix v => Sys2Proof.Machine.execPolDataWrite r ix v s
  | .tbSet r n v => Sys2Proof.Machine.execTbSet r n v s
  | .tbStep r n ps => Sys2Proof.Machine.execTbStep r n ps s
  | .tbInvalidate r n => Sys2Proof.Machine.execTbInvalidate r n s
  | .servoOffset r n o => Sys2Proof.Machine.execServoOffset r n o s
  | .forceHoldover r n => Sys2Proof.Machine.execForceHoldover r n s
  | .servoUpdateTimeout n => Sys2Proof.Machine.execServoUpdateTimeout n s
  | .tbNowRead r n => Sys2Proof.Machine.execTbNowRead r n s
  | .captureCmd r => Sys2Proof.Machine.execCaptureCmd r s
  | .tmrCtrlWrite r n v => Sys2Proof.Machine.execTmrCtrlWrite r n v s
  | .tbTimerFire n t => Sys2Proof.Machine.execTbTimerFire n t s
  | .ppsPulse => Sys2Proof.Machine.execPpsPulse s
  | .txTsDataRead r q => Sys2Proof.Machine.execTxTsDataRead r q s
  | .txTsLostRead r q => Sys2Proof.Machine.execTxTsLostRead r q s
  | .saStatDataRead r bad => Sys2Proof.Machine.execSaStatDataRead r bad s
  | .perfSelWrite r n v => Sys2Proof.Machine.execPerfSelWrite r n v s
  | .perfChainWrite r v => Sys2Proof.Machine.execPerfChainWrite r v s
  | .perfCtrlWrite r v => Sys2Proof.Machine.execPerfCtrlWrite r v s
  | .dumpRequest r => Sys2Proof.Machine.execDumpRequest r s
  | .dumpDataRead r => Sys2Proof.Machine.execDumpDataRead r s
  | .freezeRequest r => Sys2Proof.Machine.execFreezeRequest r s
  | .freezeEngage => Sys2Proof.Machine.execFreezeEngage s
  | .freezeRelease r => Sys2Proof.Machine.execFreezeRelease r s
  | .freezeTimeout => Sys2Proof.Machine.execFreezeTimeout s
  | .helloSend p => Sys2Proof.Machine.execHelloSend p s
  | .helloRx p m => Sys2Proof.Machine.execHelloRx p m s
  | .helloTimeout p => Sys2Proof.Machine.execHelloTimeout p s
  | .linkStateSend => Sys2Proof.Machine.execLinkStateSend s
  | .linkStateRx p m => Sys2Proof.Machine.execLinkStateRx p m s
  | .linkStateAge n => Sys2Proof.Machine.execLinkStateAge n s
  | .routeRecompute => Sys2Proof.Machine.execRouteRecompute s
  | .fabMsgRelay p m => Sys2Proof.Machine.execFabMsgRelay p m s
  | .roleTakeoverRx m => Sys2Proof.Machine.execRoleTakeoverRx m s
  | .roleStaleRx m => Sys2Proof.Machine.execRoleStaleRx m s
  | .fabHeartbeatRx p set => Sys2Proof.Machine.execFabHeartbeatRx p set s
  | .peerHbRx burst => Sys2Proof.Machine.execPeerHbRx burst s
  | .heartbeatCheck => Sys2Proof.Machine.execHeartbeatCheck s
  | .actLockWatchdog => Sys2Proof.Machine.execActLockWatchdog s
  | .leaseRenewRx m => Sys2Proof.Machine.execLeaseRenewRx m s
  | .leaseAnswerRx m => Sys2Proof.Machine.execLeaseAnswerRx m s
  | .leaseClaimRx m => Sys2Proof.Machine.execLeaseClaimRx m s
  | .leaseClaimDecide => Sys2Proof.Machine.execLeaseClaimDecide s
  | .resvReqRx m => Sys2Proof.Machine.execResvReqRx m s
  | .resvConfRx m => Sys2Proof.Machine.execResvConfRx m s
  | .replaySyncSend => Sys2Proof.Machine.execReplaySyncSend s
  | .replaySyncRx m => Sys2Proof.Machine.execReplaySyncRx m s
  | .takeoverDone => Sys2Proof.Machine.execTakeoverDone s
  | .roleCtrlWrite r g v => Sys2Proof.Machine.execRoleCtrlWrite r g v s
  | .rolePreferActiveTimeout g => Sys2Proof.Machine.execRolePreferActiveTimeout g s
  | .roleSwitchArm r g t => Sys2Proof.Machine.execRoleSwitchArm r g t s
  | .saMoveCheckRx m => Sys2Proof.Machine.execSaMoveCheckRx m s
  | .moveAnswerRx m => Sys2Proof.Machine.execMoveAnswerRx m s
  | .saMoveRx m => Sys2Proof.Machine.execSaMoveRx m s
  | .saFinalRx m => Sys2Proof.Machine.execSaFinalRx m s
  | .resetNAssert => Sys2Proof.Machine.execResetNAssert s
  | .vcorePowerOn => Sys2Proof.Machine.execVcorePowerOn s
  | .resetCmdDevice r => Sys2Proof.Machine.execResetCmdDevice r s
  | .resetCmdController r => Sys2Proof.Machine.execResetCmdController r s
  | .resetCmdDatapath r => Sys2Proof.Machine.execResetCmdDatapath r s
  | .controllerWatchdog => Sys2Proof.Machine.execControllerWatchdog s
  | .clockLock ok => Sys2Proof.Machine.execClockLock ok s
  | .flashLinkEstablish bad => Sys2Proof.Machine.execFlashLinkEstablish bad s
  | .pendingZeroiseRun => Sys2Proof.Machine.execPendingZeroiseRun s
  | .lifecycleRead => Sys2Proof.Machine.execLifecycleRead s
  | .rootReconstruction => Sys2Proof.Machine.execRootReconstruction s
  | .firmwareCheck => Sys2Proof.Machine.execFirmwareCheck s
  | .hbmInit ok => Sys2Proof.Machine.execHbmInit ok s
  | .serdesCalibration badGroups => Sys2Proof.Machine.execSerdesCalibration badGroups s
  | .startupComplete => Sys2Proof.Machine.execStartupComplete s
  | .fwUpdateA r prefer => Sys2Proof.Machine.execFwUpdateA r prefer s
  | .fwUpdateB r prefer => Sys2Proof.Machine.execFwUpdateB r prefer s
  | .fwUpdateDone memOk flashOk => Sys2Proof.Machine.execFwUpdateDone memOk flashOk s
  | .fwPreferWrite r v => Sys2Proof.Machine.execFwPreferWrite r v s
  | .fwSvnCommit r v => Sys2Proof.Machine.execFwSvnCommit r v s
  | .datapathArm r => Sys2Proof.Machine.execDatapathArm r s
  | .datapathDisarm r => Sys2Proof.Machine.execDatapathDisarm r s
  | .disarmDrained => Sys2Proof.Machine.execDisarmDrained s
  | .holdEnter r => Sys2Proof.Machine.execHoldEnter r s
  | .holdEntryDone => Sys2Proof.Machine.execHoldEntryDone s
  | .holdExit r => Sys2Proof.Machine.execHoldExit r s
  | .holdExitDone => Sys2Proof.Machine.execHoldExitDone s
  | .resetNRelease => Sys2Proof.Machine.execResetNRelease s
  | .clockReturned d => Sys2Proof.Machine.execClockReturned d s
  | .fabClkReturn p => Sys2Proof.Machine.execFabClkReturn p s
  | .amLockAcquired q sd => Sys2Proof.Machine.execAmLockAcquired q sd s
  | .multiframeAligned p => Sys2Proof.Machine.execMultiframeAligned p s
  | .outOfMultiframe p => Sys2Proof.Machine.execOutOfMultiframe p s
  | .lpmOpDone => Sys2Proof.Machine.execLpmOpDone s
  | .datapathResetDone => Sys2Proof.Machine.execDatapathResetDone s

end Sys2Proof.Machine
end

