-- ==== Sys2Proof/Machine/Step.lean ====
section
/-! DEFINITION. One step: the command at the front of the queue, or one idle core clock. -/

namespace Sys2Proof.Machine

/-- Take the command at the front of the queue and run it on the queue's rest; on an empty queue one core clock
passes (DESIGN CHOICE, log entry 1). -/
def step (s : State) : Host.Outcome State Fault Refusal :=
  match s.pending with
  | [] => .next (passCc s 1)
  | c :: rest => exec c { s with pending := rest }

/-- `s` with the command a word spells at the front of its queue; unchanged where it spells none. -/
def State.withFetchWord (s : State) (nbits w : Nat) : State :=
  match decodeTableWord nbits w with
  | some c => { s with pending := c :: s.pending }
  | none => s

end Sys2Proof.Machine
end

