-- ==== Sys2Proof/Safety.lean ====
section
/-! DEFINITION. The terms the statements are made in: that a command runs and what then holds, that the checks of an
access let it through, what a command leaves unchanged, and the invariant of every step. -/

namespace Sys2Proof.Machine

/-- The command answers a next state, and `P` holds of it. -/
def Runs (c : Instr) (s : State) (P : State → Prop) : Prop := ∃ t, exec c s = .next t ∧ P t

/-- Every check of an access lets it through (R13–R16). -/
abbrev Admitted (s : State) (r : Req) (key : Nat) (isWrite : Bool) : Prop := gate s r key isWrite = .pass

/-- The operation was performed: code 0, with these words. -/
def Answers (t : State) (ws : List Word) : Prop := t.reply = ⟨.ok, ws⟩

/-- The kinds of state besides the register file. -/
inductive Part where
  | clock | timeBases | events | staging | chans | boot | life | lines | tables | perf | assoc | datapath | stats
  | fabric | hbm | beryl | jasper | keys | onyx | draws | out
  deriving DecidableEq, Repr

/-- A part is the same in two states. -/
def Part.same : Part → State → State → Prop
  | .clock, s, t => t.tick = s.tick
  | .timeBases, s, t => t.tbs = s.tbs
  | .events, s, t => t.ns = s.ns ∧ t.sec = s.sec ∧ t.fired = s.fired
  | .staging, s, t => t.claims = s.claims ∧ t.stage = s.stage
  | .chans, s, t => t.chans = s.chans
  | .boot, s, t => t.boot = s.boot
  | .life, s, t => t.life = s.life
  | .lines, s, t => t.lines = s.lines
  | .tables, s, t => t.tables = s.tables
  | .perf, s, t => t.perf = s.perf
  | .assoc, s, t => t.assoc = s.assoc
  | .datapath, s, t => t.dp = s.dp
  | .stats, s, t => t.stats = s.stats
  | .fabric, s, t => t.fab = s.fab
  | .hbm, s, t => t.hbm = s.hbm
  | .beryl, s, t => t.beryl = s.beryl
  | .jasper, s, t => t.jasper = s.jasper
  | .keys, s, t => t.keys = s.keys
  | .onyx, s, t => t.onyx = s.onyx
  | .draws, s, t => t.draws = s.draws
  | .out, s, t => t.out = s.out

/-- Every part but those of `ps` is the same. -/
def Keeps (ps : List Part) (s t : State) : Prop := ∀ p, p ∉ ps → p.same s t

/-- Every register but those of `ks` reads as before. -/
def KeepsRegs (ks : List Nat) (s t : State) : Prop := ∀ k, k ∉ ks → rd t k = rd s k

/-- The frame of a command that raises nothing: only the registers `ks` and the parts `ps` may change. -/
def Frame (ks : List Nat) (ps : List Part) (s t : State) : Prop := KeepsRegs ks s t ∧ Keeps ps s t

/-- A register of the events chapter (R428–R434). -/
def eventKey (k : Nat) : Bool := decide (0xE000 ≤ k / 256) && decide (k / 256 < 0xF000)

/-- What raising an event may change besides the registers of its chapter: the record FIFOs, the subscriptions of the
channels and the performance counters (R430). -/
def eventParts : List Part := [.events, .chans, .perf]

/-- The frame of a command that may raise events. -/
def EvFrame (ks : List Nat) (ps : List Part) (s t : State) : Prop :=
  (∀ k, eventKey k = false → k ∉ ks → rd t k = rd s k) ∧ Keeps (eventParts ++ ps) s t

/-- Source `n` is pending (R428). -/
def Pending (t : State) (n : Nat) : Prop := rdBit t (K.evtPending (n / 32)) (n % 32) = true

/-- The counter at `k` has counted `n` more, wrapping at its width (R435). -/
def Counts (s t : State) (k n : Nat) : Prop := rd t k = (rd s k + n) % 2 ^ widthOf k

/-- The inbound SAs the current pass of replay sync has still to send (R408). -/
abbrev replayLeft (s : State) : List Nat := (replayList s).filter (fun h => decide (s.fab.syncPos ≤ h))

/-- The first of the four lanes of clock domain `d`, 2–17 (R52): its group on the line side, then on the host side. -/
abbrev clkLane (d : Nat) : Nat := (if d < 10 then 0 else 32) + 4 * ((d - 2) % 8)

/-- A message arrives undamaged at port `p`, which is not looped (R78, R388). -/
abbrev Whole (s : State) (p : Nat) (m : FabMsg) : Prop := fabLoop s p = false ∧ m.good = true

/-- An intact fabric message of a type for this node arrives (R387, R388). -/
abbrev MsgFor (s : State) (m : FabMsg) (typ : Nat) : Prop :=
  Whole s (portFrom s m) m ∧ m.typ = typ ∧ m.ttl ≠ 0 ∧ (m.bcast = true ∨ m.dst = nodeId s)

/-- A group message for role entry `g`, under its epoch (R392). -/
abbrev GroupMsg (s : State) (m : FabMsg) (typ g : Nat) : Prop :=
  MsgFor s m typ ∧ 2 ≤ m.ver ∧ entryOf s m.group = some g ∧ m.epoch = roleEpochOf s g

/-- What receiving a message counts, and what sending may count. -/
def rxKey (s : State) (m : FabMsg) : Nat := K.linkRxMsgs (portFrom s m)
def txKeys : List Nat := K.fabNoRoute :: (List.range 4).map K.linkTxMsgs

/-- Entry `g` is the only one in the pair mode. -/
abbrev OnePair (s : State) (g : Nat) : Prop := g < 4 ∧ rolePair s g = true ∧ ∀ k, k < 4 → k ≠ g → rolePair s k = false

/-- The registers a ZEROISE may change, besides the counts of frames that are squelched (R79, R157, R195, R252–R255), and its frame. -/
def zeroiseKeys : List Nat :=
  [K.zeroiseCount, K.zeroiseStatus, K.zeroiseLast, K.armStatus, K.rootStatus, K.berylStatus, K.jasperJobs, K.resyncLeft] ++
  (List.range 15).map (fun i => K.armTick (i + 1)) ++ (List.range 8).map K.groupMode ++ (List.range 64).map K.laneStatus ++ (List.range 64).map K.rxSnr ++
  (List.range 64).map K.chkStatus ++ (List.range 4).map K.health
def squelchKeys (j : Nat) : List Nat :=
  [K.squelched j, K.sliceFrames j, K.sliceHeld j, K.outLineFrames j, K.outLineOctets j, K.outProtected j, K.outBypassed j, K.inDropped j]
def ZeroiseFrame (ks : List Nat) (ps : List Part) (s t : State) : Prop :=
  (∀ k, eventKey k = false → (∀ j, k ∉ squelchKeys j) → k ∉ zeroiseKeys → k ∉ ks → rd t k = rd s k) ∧
  Keeps (eventParts ++ [.assoc, .lines, .boot, .datapath, .keys, .beryl, .jasper, .life, .fabric, .out] ++ ps) s t

/-- The memories of the block are in their canonical form: HBM lines (R309), the I/O buffer of the lookaside engine (R199, R202) and
the partitions of the public-key engine (R218). -/
def Memory.wf (s : State) : Bool :=
  tcanon hline0 s.hbm.lines && tcanon 0 s.beryl.io && s.jasper.parts.all (fun e => tcanon 0 e.2.mem)

/-- The phase of the tick grid stays within the limit of R43. -/
def Inv (s : State) : Prop := -5000 ≤ s.phase ∧ s.phase ≤ 5000

end Sys2Proof.Machine
end

