-- ==== Sys2Proof/Certificates/Slice0/Obligations.lean ====
section
/-! DEFINITION. The statements for the provers. -/

open Sys2Proof Sys2Proof.Machine

/-- Each step of a line or host lane leads to the state R58 gives: signal, recovered clock (training where it is enabled on
an untrained PAM4 line lane, else adaptation), training, adaptation, and their time limits with what they count and raise.
A lane in TEST notes its signal and its recovered clock and stays there. -/
def Obligations.LaneStateSteps : Prop :=
  (∀ m s, m < 64 → laneState s m = Lane.waitSignal → Runs (.laneSignalDetect m) s (fun t =>
    laneState t m = Lane.cdr ∧ rdBit t (K.laneStatus m) 4 = true ∧ Frame [K.laneStatus m, K.otnEvents (m % 32 / 4)] [.lines] s t)) ∧
  (∀ m s, m < 64 → laneState s m = Lane.cdr → trains s m = true → rdBit s (K.laneStatus m) 6 = false →
    Runs (.laneCdrLock m) s (fun t => laneState t m = Lane.training ∧
      Counts s t (K.trainCount m) 1 ∧
      EvFrame [K.laneStatus m, K.trainCount m, K.otnEvents (m % 32 / 4), K.clkLocked, K.clkLost] [.lines, .draws] s t)) ∧
  (∀ m s, m < 64 → laneState s m = Lane.cdr → trains s m = false ∨ rdBit s (K.laneStatus m) 6 = true → Runs (.laneCdrLock m) s (fun t =>
    laneState t m = Lane.adapt ∧ rdBit t (K.laneStatus m) 5 = true ∧
      EvFrame [K.laneStatus m, K.otnEvents (m % 32 / 4), K.clkLocked, K.clkLost] [] s t)) ∧
  (∀ m s, m < 64 → laneState s m = Lane.cdr → Runs (.laneCdrTimeout m) s (fun t =>
    laneState t m = Lane.waitSignal ∧ tget 0 t.lines.cdrFails m = tget 0 s.lines.cdrFails m + 1 ∧
      Frame [K.laneStatus m, K.rxSnr m, K.otnEvents (m % 32 / 4)] [.lines] s t)) ∧
  (∀ m taps s, m < 64 → taps < 2 ^ 30 → laneState s m = Lane.training → Runs (.laneTrainComplete m taps) s (fun t =>
    laneState t m = Lane.adapt ∧ rdBit t (K.laneStatus m) 6 = true ∧ (rdBit s (K.laneCtrl m) 2 = true → txFirView t m = taps) ∧
      Frame [K.laneStatus m, K.otnEvents (m % 32 / 4)] [.lines] s t)) ∧
  (∀ m s, m < 64 → laneState s m = Lane.training → Runs (.laneTrainTimeout m) s (fun t =>
    laneState t m = Lane.trainFailed ∧ Pending t Ev.laneTrainFail ∧
      EvFrame [K.laneStatus m, K.laneEvents m, K.otnEvents (m % 32 / 4)] [.lines, .draws] s t)) ∧
  (∀ m s, m < 64 → laneState s m = Lane.trainFailed → Runs (.laneTrainRetry m) s (fun t =>
    laneState t m = Lane.waitSignal ∧ EvFrame [K.laneStatus m, K.rxSnr m, K.otnEvents (m % 32 / 4), K.clkLocked, K.clkLost] [] s t)) ∧
  (∀ m snr s, m < 64 → snr < 65536 → laneState s m = Lane.adapt → Runs (.laneAdaptDone m snr) s (fun t =>
    laneState t m = Lane.ready ∧ rd t (K.rxSnr m) = snr ∧ Frame [K.laneStatus m, K.rxSnr m] [] s t)) ∧
  (∀ m s, m < 64 → laneState s m = Lane.adapt → Runs (.laneAdaptTimeout m) s (fun t =>
    laneState t m = Lane.cdr ∧ EvFrame [K.laneStatus m, K.otnEvents (m % 32 / 4), K.clkLocked, K.clkLost] [] s t)) ∧
  (∀ m s, m < 64 → laneState s m = Lane.test → Runs (.laneSignalDetect m) s (fun t =>
    laneState t m = Lane.test ∧ rdBit t (K.laneStatus m) 4 = true ∧ Frame [K.laneStatus m] [.lines] s t)) ∧
  (∀ m s, m < 64 → laneState s m = Lane.test → Runs (.laneCdrLock m) s (fun t =>
    laneState t m = Lane.test ∧ rdBit t (K.laneStatus m) 5 = true ∧ EvFrame [K.laneStatus m, K.clkLocked, K.clkLost] [] s t))

/-- Loss of signal in any state but 0 and 7 returns the lane to state 1 and raises LANE_LOS, unless its receiver is fed by its own
transmitter; loss of clock recovery in state
4 or 5 returns it to state 2 and raises LANE_CDR_LOST; both set the lane's event bit and leave all but its status, its
signal-to-noise figure, the clock bits of its group and the LOS bit of an OTU4 group alone. In TEST either only clears its own bits of
LANE_STATUS. -/
def Obligations.LaneLossAndTraining : Prop :=
  (∀ m s, m < 64 → laneState s m ≠ Lane.off → laneState s m ≠ Lane.test → loopedBack s m = false → Runs (.laneLos m) s (fun t =>
    laneState t m = Lane.waitSignal ∧ rdBit t (K.laneStatus m) 4 = false ∧ rdBit t (K.laneEvents m) 0 = true ∧
      rd t (K.rxSnr m) = 0 ∧
      EvFrame [K.laneStatus m, K.rxSnr m, K.laneEvents m, K.otnEvents (m % 32 / 4), K.clkLocked, K.clkLost] [.lines] s t)) ∧
  (∀ m s, m < 64 → laneState s m = Lane.test → loopedBack s m = false → Runs (.laneLos m) s (fun t =>
    laneState t m = Lane.test ∧ rdBit t (K.laneStatus m) 4 = false ∧ rdBit t (K.laneStatus m) 5 = false ∧
      EvFrame [K.laneStatus m, K.clkLocked, K.clkLost] [.lines] s t)) ∧
  (∀ m s, m < 64 → laneState s m ≠ Lane.adapt → laneState s m ≠ Lane.ready → Runs (.laneCdrLost m) s (fun t =>
    laneState t m = laneState s m ∧ rdBit t (K.laneStatus m) 5 = false ∧
      EvFrame [K.laneStatus m, K.clkLocked, K.clkLost] [] s t)) ∧
  (∀ m s, m < 64 → (laneState s m = Lane.adapt ∨ laneState s m = Lane.ready) → Runs (.laneCdrLost m) s (fun t =>
    laneState t m = Lane.cdr ∧ rdBit t (K.laneStatus m) 5 = false ∧ rdBit t (K.laneEvents m) 1 = true ∧
      EvFrame [K.laneStatus m, K.rxSnr m, K.laneEvents m, K.otnEvents (m % 32 / 4), K.clkLocked, K.clkLost] [] s t))

/-- GROUP_LAYOUT is written while GROUP_MODE is 0 (any value of the table the unit has), else the write aborts with the
wrong-state code and changes nothing; GROUP_MODE takes 0 to 3 and refuses 4 to 255 unchanged; a pair going off leaves its eight lanes
OFF, a pair going to test has its running lanes in TEST, a pair coming on has its lanes wait for a signal, or test; LANE_CTRL stores its defined bits where the loopback encoding exists and training, if asked for, is one the lane can
do, and TX_FIR refuses a write while training is enabled. -/
def Obligations.LaneControls : Prop :=
  (∀ r n v s, n < 8 → v ≤ 11 → (v = 11 → s.unit.variant ≠ 1) → mode s n = 0 → layoutTooFast s n v = false →
    Admitted s r (K.groupLayout n) true →
    Runs (.groupLayoutWrite r n v) s (fun t => Answers t [] ∧ layout t n = v ∧
      Frame (K.groupLayout n :: (List.range 4).map (fun i => K.pcsCtrl (4 * n + i)) ++
        (List.range 4).map (fun i => K.laneCtrl (4 * n + i))) [.chans] s t)) ∧
  (∀ r n v s, mode s n ≠ 0 → Admitted s r (K.groupLayout n) true →
    Runs (.groupLayoutWrite r n v) s (fun t => t.reply.code = .wrongState ∧ Frame [] [.chans] s t)) ∧
  (∀ r n v s, n < 8 → v ≤ 3 → Admitted s r (K.groupMode n) true →
    Runs (.groupModeWrite r n v) s (fun t => Answers t [] ∧ mode t n = v ∧
      (v = 0 → ∀ m ∈ groupLanes n, laneState t m = Lane.off) ∧
      (v = 3 → mode s n ≠ 0 → ∀ m ∈ groupLanes n, laneState s m ≠ Lane.off → laneState t m = Lane.test) ∧
      (mode s n = 0 → v ≠ 0 → layout s n ≠ 0 → inHold s = false → s.boot.badSerdes.contains n = false →
        ∀ m ∈ groupLanes n, laneState t m = if v = 3 then Lane.test else Lane.waitSignal))) ∧
  (∀ r n v s, 3 < v → v < 256 → Admitted s r (K.groupMode n) true →
    Runs (.groupModeWrite r n v) s (fun t => t.reply.code = .unsupportedValue ∧ Frame [] [.chans] s t)) ∧
  (∀ r m v s, m < 64 → bits v 5 4 ≠ 3 → (bit v 2 = true → trainAllowed s m = true) → Admitted s r (K.laneCtrl m) true →
    Runs (.laneCtrlWrite r m v) s (fun t => Answers t [] ∧ rd t (K.laneCtrl m) = Nat.land v 0x137 ∧
      EvFrame [K.laneCtrl m, K.laneStatus m, K.rxSnr m, K.otnEvents (m % 32 / 4), K.clkLocked, K.clkLost] [] s t)) ∧
  (∀ r m v s, m < 64 → rdBit s (K.laneCtrl m) 2 = true → Admitted s r (K.txFir m) true →
    Runs (.registerWrite r (K.txFir m) v) s (fun t => t.reply.code = .wrongState ∧ Frame [] [.chans] s t))

/-- Block lock reached in a lane receiver (a READY lane of a port without FEC) sets the lane's bit and counts its slips; behind
the FEC decoder of a side with codewords each PCS lane locks, and its slips count in the port's register. A loss clears the bit, counts one slip and raises BLOCK_LOCK_LOST. -/
def Obligations.BlockLock : Prop :=
  (∀ m n s, m < 64 → laneState s m = Lane.ready → laneBlock s m = true → Runs (.blockLockAcquired (.lane m) n) s (fun t =>
    rdBit t (K.laneStatus m) 7 = true ∧ Counts s t (K.blockSlips m) n ∧
      EvFrame [K.laneStatus m, K.blockSlips m] [.datapath, .draws] s t)) ∧
  (∀ q sd l n s, q < 32 → isPort s q = true → fecOf s q sd ≠ 1 → l < pcsLanes s q → decoding s q sd = true →
    Runs (.blockLockAcquired (.fec q sd l) n) s (fun t =>
    l ∈ (pcsBlk t q sd).locked ∧ Counts s t (K.pcsBlockSlips q) n ∧
      EvFrame [K.pcsBlockSlips q] [.lines, .datapath, .draws] s t)) ∧
  (∀ m s, m < 64 → rdBit s (K.laneStatus m) 7 = true → Runs (.blockLockLost (.lane m)) s (fun t =>
    rdBit t (K.laneStatus m) 7 = false ∧ Counts s t (K.blockSlips m) 1 ∧ rdBit t (K.laneEvents m) 3 = true ∧
      Pending t Ev.blockLockLost ∧ EvFrame [K.laneStatus m, K.blockSlips m, K.laneEvents m] [] s t)) ∧
  (∀ q sd l s, q < 32 → l ∈ (pcsBlk s q sd).locked → Runs (.blockLockLost (.fec q sd l)) s (fun t =>
    l ∉ (pcsBlk t q sd).locked ∧ Counts s t (K.pcsBlockSlips q) 1 ∧ Pending t Ev.blockLockLost ∧
      EvFrame [K.pcsBlockSlips q] [.lines] s t))

/-- PG_CTRL takes a pattern the lane's signalling has and an injection rate of 0 or 10 to 40; a rise of CHK_EN clears the
counts; INJ_ONCE and each error of a running rate put one error on a lane that transmits; the checker locks while its pattern
is in effect and it is enabled, and its loss of lock counts the bits, the errors and the loss. -/
def Obligations.PatternsAndCheckers : Prop :=
  (∀ r m v s, m < 80 → patternOk s m (v % 16) = true → (bits v 15 8 = 0 ∨ 10 ≤ bits v 15 8 ∧ bits v 15 8 ≤ 40) →
    Admitted s r (K.pgCtrl m) true → Runs (.pgCtrlWrite r m v) s (fun t =>
      Answers t [] ∧ rd t (K.pgCtrl m) = Nat.land v 0xFF3F ∧
      (bit v 5 = true → rdBit s (K.pgCtrl m) 5 = false → rd t (K.chkBits m) = 0 ∧ rd t (K.chkErrors m) = 0 ∧ rd t (K.chkLosses m) = 0) ∧
      Frame [K.pgCtrl m, K.chkBits m, K.chkErrors m, K.chkLosses m, K.chkStatus m] [.chans, .out, .draws] s t)) ∧
  (∀ r m s, m < 80 → transmits s m = true → Admitted s r (K.pgCtrl m) true → Runs (.injOnce r m) s (fun t =>
    Answers t [] ∧ t.out = .inject m :: s.out ∧ Frame [] [.chans, .out] s t)) ∧
  (∀ m s, m < 80 → transmits s m = true → rdField s (K.pgCtrl m) 15 8 ≠ 0 → Runs (.injRateError m) s (fun t =>
    t.out = .inject m :: s.out ∧ Frame [] [.out] s t)) ∧
  (∀ m s, m < 80 → patternActive s m = true → rdBit s (K.pgCtrl m) 5 = true →
    (nearEnd s m = true → rdBit s (K.pgCtrl m) 4 = true) → Runs (.prbsCheckerLock m) s (fun t =>
    rd t (K.chkStatus m) = 1 ∧ Frame [K.chkStatus m] [] s t)) ∧
  (∀ m b e s, m < 80 → rdBit s (K.chkStatus m) 0 = true → Runs (.prbsLockLost m b e) s (fun t =>
    rd t (K.chkStatus m) = 0 ∧ Counts s t (K.chkBits m) b ∧ Counts s t (K.chkErrors m) e ∧ Counts s t (K.chkLosses m) 1 ∧
      Pending t Ev.prbsLockLost ∧ EvFrame [K.chkStatus m, K.chkBits m, K.chkErrors m, K.chkLosses m] [] s t))

/-- On a port side with FEC, eight uncorrectable codewords set the high-error bit and its event, count in the side's counter
and raise PCS_HI_ERR, and it clears again; marker lock is gained and lost with its bit and event; what the decoder counted
meanwhile goes into the side's counters; a fault signal received sets
the bit that names it and clears the other. Nothing but the port's status, event and count registers changes. -/
def Obligations.PcsConditions : Prop :=
  (∀ q o s, q < 32 → isPort s q = true → fecOf s q .line ≠ 1 → Runs (.pcsHiErr q .line o) s (fun t =>
    rdBit t (K.pcsStatus q) 2 = true ∧ rdBit t (K.pcsEvents q) 1 = true ∧ Counts s t (K.lineFecUncorr q) (8 + o.bad) ∧
      Counts s t (K.lineFecCorr q) o.corr ∧ Counts s t (K.lineFecSymbols q) o.syms ∧ Pending t Ev.pcsHiErr ∧
      EvFrame [K.pcsStatus q, K.pcsEvents q, K.lineFecUncorr q, K.lineFecCorr q, K.lineFecSymbols q] [] s t)) ∧
  (∀ q o s, q < 32 → isPort s q = true → fecOf s q .host ≠ 1 → Runs (.pcsHiErr q .host o) s (fun t =>
    rdBit t (K.pcsStatus q) 10 = true ∧ rdBit t (K.pcsEvents q) 3 = true ∧ Counts s t (K.hostFecUncorr q) (8 + o.bad) ∧
      Counts s t (K.hostFecCorr q) o.corr ∧ Pending t Ev.pcsHiErr ∧
      EvFrame [K.pcsStatus q, K.pcsEvents q, K.hostFecUncorr q, K.hostFecCorr q] [] s t)) ∧
  (∀ q sd o s, Runs (.pcsHiErrClear q sd o) s (fun t => rdBit t (K.pcsStatus q) (2 + sdOff sd) = false ∧
    Frame [K.pcsStatus q, K.lineFecCorr q, K.lineFecUncorr q, K.lineFecSymbols q, K.hostFecCorr q, K.hostFecUncorr q] [] s t)) ∧
  (∀ q o s, q < 32 → isPort s q = true → fecOf s q .line ≠ 1 → Runs (.pcsHiErrClear q .line o) s (fun t =>
    Counts s t (K.lineFecUncorr q) o.bad ∧ Counts s t (K.lineFecCorr q) o.corr ∧ Counts s t (K.lineFecSymbols q) o.syms)) ∧
  (∀ q sd s, isPort s q = true → fecOf s q sd ≠ 1 → Runs (.amLockAcquired q sd) s (fun t =>
    rdBit t (K.pcsStatus q) (1 + sdOff sd) = true ∧ Frame [K.pcsStatus q] [] s t)) ∧
  (∀ q o s, q < 32 → rdBit s (K.pcsStatus q) 1 = true → Runs (.amLockLost q .line o) s (fun t =>
    rdBit t (K.pcsStatus q) 1 = false ∧ rdBit t (K.pcsEvents q) 0 = true ∧ Counts s t (K.lineFecUncorr q) o.bad ∧
    Frame [K.pcsStatus q, K.pcsEvents q, K.lineFecUncorr q, K.lineFecCorr q, K.lineFecSymbols q] [] s t)) ∧
  (∀ q o s, q < 32 → rdBit s (K.pcsStatus q) 9 = true → Runs (.amLockLost q .host o) s (fun t =>
    rdBit t (K.pcsStatus q) 9 = false ∧ rdBit t (K.pcsEvents q) 2 = true ∧ Counts s t (K.hostFecUncorr q) o.bad ∧
    Frame [K.pcsStatus q, K.pcsEvents q, K.hostFecUncorr q, K.hostFecCorr q] [] s t)) ∧
  (∀ q sd f s, isPort s q = true → Runs (.faultReceived q sd f) s (fun t =>
    rdBit t (K.pcsStatus q) (3 + sdOff sd) = (f == .localFault) ∧ rdBit t (K.pcsStatus q) (4 + sdOff sd) = (f == .remoteFault) ∧
      Frame [K.pcsStatus q] [] s t))

/-- A confirmed logical lane is held with its number and its failed candidates are counted, and is dropped when it unlocks; deskew with all 20
distinct lanes within 256 ns aligns the group, and a skew above it raises OTL_DESKEW_FAIL and leaves it not aligned; loss of
frame and of multiframe are declared, cleared and raised as R89 says, for the OTU4 and for a tributary. -/
def Obligations.OtnAlignment : Prop :=
  (∀ n sd lane llm rej s, n < 8 → lane < 20 → isOtu4 s n = true → (∀ x, (lane, x) ∉ (otl s n sd).lanes) →
    Runs (.otlLaneLocked n sd lane llm rej) s (fun t =>
    (lane, llm) ∈ (otl t n sd).lanes ∧ Counts s t (K.alignRejects n) rej ∧ Frame [K.alignRejects n] [.lines] s t)) ∧
  (∀ n sd lane s, n < 8 → isOtu4 s n = true → Runs (.otlLaneUnlocked n sd lane) s (fun t =>
    (∀ x, (lane, x) ∉ (otl t n sd).lanes) ∧ (otl t n sd).aligned = false ∧ Frame [K.otnEvents n] [.lines] s t)) ∧
  (∀ n sd skew late s, n < 8 → isOtu4 s n = true → (otl s n sd).lanes.length = 20 → otlClash (otl s n sd).lanes = [] →
    skew ≤ 256 → Runs (.otlDeskew n sd skew late) s (fun t =>
      (otl t n sd).aligned = true ∧ rd t (K.otlSkew n) = (if sd = .line then skew else rd s (K.otlSkew n)) ∧
      Frame [K.otnEvents n, K.otlSkew n] [.lines] s t)) ∧
  (∀ n sd skew late s, n < 8 → isOtu4 s n = true → (otl s n sd).lanes.length = 20 → otlClash (otl s n sd).lanes = [] →
    256 < skew → (otl s n sd).aligned = true → Runs (.otlDeskew n sd skew late) s (fun t =>
      (otl t n sd).aligned = false ∧ Pending t Ev.otlDeskewFail ∧ EvFrame [K.otnEvents n] [.lines] s t)) ∧
  (∀ n sd s, n < 8 → isOtu4 s n = true → (otl s n sd).aligned = false → Runs (.otnLof (.otu n sd)) s (fun t =>
    (otl t n sd).lof = true ∧ Pending t Ev.otnLof ∧ EvFrame [K.otnEvents n] [.lines] s t)) ∧
  (∀ n sd i s, i < 80 → isOtu4 s n = true → Runs (.otnLof (.trib n sd i)) s (fun t =>
    (trib t n sd i).lof = true ∧ Pending t Ev.otnLof ∧ EvFrame [] [.lines] s t)) ∧
  (∀ n sd s, (otl s n sd).aligned = true → Runs (.otnLofClear (.otu n sd)) s (fun t =>
    (otl t n sd).lof = false ∧ Frame [] [.lines] s t)) ∧
  (∀ n sd i s, i < 80 → isOtu4 s n = true → Runs (.otnLofClear (.trib n sd i)) s (fun t =>
    (trib t n sd i).lof = false ∧ (trib t n sd i).inFrame = true ∧ Frame [] [.lines] s t)) ∧
  (∀ n sd s, isOtu4 s n = true → (otl s n sd).aligned = true → Runs (.multiframeAligned (.otu n sd)) s (fun t =>
    (otl t n sd).mfOk = true ∧ (otl t n sd).oom = false ∧ Frame [] [.lines] s t)) ∧
  (∀ n sd i s, i < 80 → isOtu4 s n = true → Runs (.multiframeAligned (.trib n sd i)) s (fun t =>
    (trib t n sd i).mfOk = true ∧ (trib t n sd i).oom = false ∧ Frame [] [.lines] s t)) ∧
  (∀ n sd s, isOtu4 s n = true → Runs (.outOfMultiframe (.otu n sd)) s (fun t =>
    (otl t n sd).mfOk = false ∧ (otl t n sd).oom = true ∧ Frame [] [.lines] s t)) ∧
  (∀ n sd i s, i < 80 → isOtu4 s n = true → Runs (.outOfMultiframe (.trib n sd i)) s (fun t =>
    (trib t n sd i).mfOk = false ∧ (trib t n sd i).oom = true ∧ Frame [] [.lines] s t)) ∧
  (∀ n sd s, n < 8 → isOtu4 s n = true → (otl s n sd).oom = true → Runs (.otnLom (.otu n sd)) s (fun t =>
    (otl t n sd).lom = true ∧ Pending t Ev.otnLom ∧ EvFrame [K.otnEvents n] [.lines] s t)) ∧
  (∀ n sd i s, i < 80 → (trib s n sd i).oom = true → Runs (.otnLom (.trib n sd i)) s (fun t =>
    (trib t n sd i).lom = true ∧ Pending t Ev.otnLom ∧ EvFrame [] [.lines] s t)) ∧
  (∀ n sd s, (otl s n sd).aligned = true → (otl s n sd).mfOk = true → Runs (.otnLomClear (.otu n sd)) s (fun t =>
    (otl t n sd).lom = false ∧ Frame [] [.lines] s t)) ∧
  (∀ n sd i s, i < 80 → (trib s n sd i).inFrame = true → (trib s n sd i).mfOk = true → Runs (.otnLomClear (.trib n sd i)) s (fun t =>
    (trib t n sd i).lom = false ∧ Frame [] [.lines] s t))

/-- A payload structure received is kept with the AIS and BDI that come with it, and a payload type other than 0x21 sets PLM where the
check is on; a valid
justification count within the tributary's range becomes the tributary's, any other is replaced by the last valid one and counted, and the fifth in a row declares loss of mapping and
raises GMP_LOSS. -/
def Obligations.OtnTributaries : Prop :=
  (∀ n sd pt msi ais bdi s, n < 8 → isOtu4 s n = true → Runs (.otnPsiRx n sd pt msi ais bdi) s (fun t => (otl t n sd).msi = msi ∧
    (otl t n sd).ais = ais ∧ (otl t n sd).bdi = bdi ∧
    (otl t n sd).plm = (decide (pt ≠ 0x21) && rdBit s (K.otnCtrl n) 4) ∧
    ((otl t n sd).plm = true → (otl s n sd).plm = false → Pending t Ev.otnPlm) ∧ EvFrame [K.otnEvents n] [.lines] s t)) ∧
  (∀ n sd i cm cnd s, n < 8 → i < 80 → (cmRange s n sd i).1 ≤ cm → cm ≤ (cmRange s n sd i).2 → isOtu4 s n = true →
    Runs (.gmpJcRx n sd i cm cnd true) s (fun t =>
    (trib t n sd i).cm = cm ∧ (trib t n sd i).cnd = cnd ∧ (trib t n sd i).bad = 0 ∧ Frame [] [.lines] s t)) ∧
  (∀ n sd i cm cnd s, n < 8 → i < 80 → isOtu4 s n = true → (trib s n sd i).bad = 4 → (trib s n sd i).loss = false →
    Runs (.gmpJcRx n sd i cm cnd false) s (fun t => (trib t n sd i).cm = (trib s n sd i).cm ∧ (trib t n sd i).cnd = (trib s n sd i).cnd ∧ (trib t n sd i).loss = true ∧
      Counts s t (K.gmpErrors n) 1 ∧ Pending t Ev.gmpLoss ∧ EvFrame [K.gmpErrors n] [.lines] s t)) ∧
  (∀ n sd i cm cnd ok s, n < 8 → i < 80 → isOtu4 s n = true →
    (ok = false ∨ cm < (cmRange s n sd i).1 ∨ (cmRange s n sd i).2 < cm) → Runs (.gmpJcRx n sd i cm cnd ok) s (fun t =>
      (trib t n sd i).cm = (trib s n sd i).cm ∧ (trib t n sd i).cnd = (trib s n sd i).cnd ∧ (trib t n sd i).bad = (trib s n sd i).bad + 1 ∧
      Counts s t (K.gmpErrors n) 1 ∧ EvFrame [K.gmpErrors n] [.lines] s t))

/-- A write of TSI_DATA reaches the standby entry TSI_ADDR names and advances the address; TSI_COPY makes the standby page
the same as the active one; a swap arms for a tick in the limits of R38 where the standby page has no fault; a destination
group that still runs the old page takes the new one at its multiframe boundary, and sends its structure. -/
def Obligations.TsiPages : Prop :=
  (∀ r k v s, k < 4 → v < 2 ^ 32 → tsiBusy s k = false → rd s (K.tsiAddr k) < 320 → tsiType v ≤ 4 → tsiSrcT v ≤ 79 → tsiDstT v ≤ 79 →
    tsiCtx v ≤ 159 → (tsiCipher v = true → s.unit.variant ≠ 1) → Admitted s r (K.tsiData k) true →
    Runs (.tsiDataWrite r k v) s (fun t => Answers t [] ∧
      tsiAt t k (tsiStandby s k) (rd s (K.tsiAddr k)) = Nat.land v 0xF8FFFF7F ∧
      rd t (K.tsiAddr k) = (rd s (K.tsiAddr k) + 1) % 320 ∧ Frame [K.tsiAddr k] [.chans, .lines] s t)) ∧
  (∀ r k s, k < 4 → tsiBusy s k = false → Admitted s r (K.tsiCopy k) true → Runs (.tsiCopy r k) s (fun t => Answers t [] ∧
    (∀ e, e < 320 → tsiAt t k (tsiStandby s k) e = tsiAt s k (1 - tsiStandby s k) e) ∧ Frame [] [.chans, .lines] s t)) ∧
  (∀ r k n s, k < 4 → n < 2 ^ 64 → tsiBusy s k = false → armOk s n = true → tsiFirstFault s k = none →
    Admitted s r (K.tsiSwapTick k) true → Runs (.tsiSwapArm r k n) s (fun t => Answers t [] ∧ rd t (K.tsiSwapTick k) = n ∧
      rdBit t (K.tsiStatus k) 0 = true ∧ Frame [K.tsiSwapTick k, K.tsiStatus k] [.chans] s t)) ∧
  (∀ k d g s, k < 4 → d < 2 → g < 2 → rdBit s (K.tsiStatus k) 1 = true → tsiPage s k d g = tget 0 s.lines.tsiOld k →
    Runs (.tsiGroupSwap k d g) s (fun t => rdBit t (K.tsiActive k) (2 * d + g) = (tget 0 s.lines.tsiOld k == 0) ∧
      (.psi (2 * k + g) (if d = 0 then .line else .host) (psiTx t k d g)) ∈ t.out ∧
      EvFrame [K.tsiActive k, K.tsiStatus k] [.out] s t))

/-- A second that ends is counted in the open bins of the group, and on an OTU4 group whose FEC is on in its BIP-8, BEI and FEC counters; a bin that ended 10 s ago closes and raises PM_BIN_CLOSED; PM_SELECT
takes 0 to 18 and puts PM_BIN back to its first word. -/
def Obligations.PerformanceBins : Prop :=
  (∀ n a b x y s, n < 8 → s.unit.variant ≠ 1 → Runs (.pmSecond n a b x y) s (fun t =>
    (pmGrp t n).stepped = false ∧ (pmGrp t n).open15 ≠ [] ∧ (pmGrp t n).open24 ≠ [] ∧
    Frame [K.lineBip8 n, K.lineBei n, K.otnLineFecCorr n, K.otnLineFecUncorr n, K.otnHostFecCorr n, K.otnHostFecUncorr n] [.lines] s t)) ∧
  (∀ n a b x y s, n < 8 → s.unit.variant ≠ 1 → isOtu4 s n = true → rdBit s (K.otnCtrl n) 0 = true → rdBit s (K.otnCtrl n) 1 = true →
    Runs (.pmSecond n a b x y) s (fun t =>
    Counts s t (K.lineBip8 n) a.errs ∧ Counts s t (K.lineBei n) b.errs ∧ Counts s t (K.otnLineFecCorr n) x.syms ∧
    Counts s t (K.otnHostFecUncorr n) y.bad)) ∧
  (∀ n cur old l s, (pmGrp s n).open15 = cur :: old :: l → old.start + 910 ≤ pmNow s → Runs (.pmBinClose n false) s (fun t =>
    (pmGrp t n).open15 = [cur] ∧ (pmGrp t n).closed15.head? = some old ∧ Pending t Ev.pmBinClosed ∧ EvFrame [] [.lines] s t)) ∧
  (∀ n cur old l s, (pmGrp s n).open24 = cur :: old :: l → old.start + 86410 ≤ pmNow s → Runs (.pmBinClose n true) s (fun t =>
    (pmGrp t n).open24 = [cur] ∧ (pmGrp t n).prev24 = [old] ∧ Pending t Ev.pmBinClosed ∧ EvFrame [] [.lines] s t)) ∧
  (∀ r n v s, n < 8 → v ≤ 18 → Admitted s r (K.pmSelect n) true → Runs (.pmSelectWrite r n v) s (fun t =>
    Answers t [] ∧ rd t (K.pmSelect n) = v ∧ (pmGrp t n).ptr = 0 ∧ Frame [K.pmSelect n] [.chans, .lines] s t))

/-- Where the sequencer runs and neither aligns nor realigns, a boundary ends the tick: TICK_NUMBER counts one up at 64 bits, the phase of the grid
is kept unless a correction is pending, and core clocks only go forward; the boundary that ends an alignment or a realignment tick sets
VALID and raises TICK_REALIGNED. -/
def Obligations.TickBoundaryCounts : Prop :=
  (∀ s, s.boot.engine = true → s.tick.aligning = false → s.tick.realigning = false → Runs .tickBoundary s (fun t =>
    rd t K.tickNumber = (rd s K.tickNumber + 1) % 2 ^ 64 ∧ t.tick.elapsed = s.tick.elapsed + 1 ∧
      s.tick.start < t.tick.start ∧ s.tick.clock ≤ t.tick.clock)) ∧
  (∀ s, s.boot.engine = true → s.tick.aligning = false → s.tick.realigning = false → s.tick.step = none → s.tick.slew = 0 →
    Runs .tickBoundary s (fun t => t.phase = s.phase)) ∧
  (∀ s, s.boot.engine = true → s.tick.aligning = true ∨ s.tick.realigning = true → Runs .tickBoundary s (fun t =>
    rdBit t K.tickStatus 0 = true ∧ t.tick.aligning = false ∧ t.tick.elapsed = s.tick.elapsed + 1 ∧ Pending t Ev.tickRealigned ∧
      s.tick.start < t.tick.start ∧ s.tick.clock ≤ t.tick.clock))

/-- At the commit point the arm sets of the tick take effect, then the Layer-1 switches, the interchange swaps, the gate-list swaps,
migrations, arming and disarming, and planned switchovers; and where only an arm of the data path is pending, the data path is armed and nothing else happens but the
squelch ending. -/
def Obligations.CommitPointOrder : Prop :=
  (∀ s, s.boot.engine = true → exec .commitPoint s = .next (settled s (switchCommit (armCommit (migCommit
    (forNat 32 (fun q u => gateCommit u q) (forNat 4 (fun k u => tsiCommit u k) (l1Commits (commitSets (toCc s 16)))))))))) ∧
  (∀ s, s.boot.engine = true → s.lines.l1 = [] → (∀ i, i < 15 → rd s (K.armTick (i + 1)) = none64) →
    (∀ k, k < 4 → rdBit s (K.tsiStatus k) 0 = false) → (∀ q, q < 32 → (gateAt s q).armed = none) → rd s K.migTick = none64 →
    s.fab.target = none → (∀ g, g < 4 → rd s (K.roleSwitchTick g) = none64) → rdBit s K.armStatus 1 = true →
    Runs .commitPoint s (fun t => rdBit t K.armStatus 0 = true ∧ rdField t K.armStatus 2 1 = 0 ∧ t.dp.squelch = false ∧
      Frame [K.armStatus, K.commitSkipped] [.clock, .datapath, .boot, .assoc] s t))

/-- An edge of the selected SYNC_IN source is counted where it comes at least half a period after the last accepted one, else
it is a glitch; on an aligned grid its phase error is taken, without one it only counts; two periods without one end the lock and raise SYNC_IN_LOST;
TICK_REALIGN takes 1 and 0; background work that does not finish in its slot of the tick is counted per job, and the first since its
counter was read raises TICK_OVERRUN. -/
def Obligations.SyncInput : Prop :=
  (∀ ps s, s.boot.engine = true → rd s K.syncSource ≠ 0 →
    (∀ c, s.tick.lastEdge = some c → c + syncPeriod s / 2 ≤ s.tick.start + ps / 800) → tickValid s = false →
    Runs (.syncInEdge ps) s (fun t => Counts s t K.syncEdges 1 ∧ t.tick.lastEdge = some (s.tick.start + ps / 800) ∧
      Frame [K.syncEdges] [.clock] s t)) ∧
  (∀ ps s, s.boot.engine = true → rd s K.syncSource ≠ 0 →
    (∀ c, s.tick.lastEdge = some c → c + syncPeriod s / 2 ≤ s.tick.start + ps / 800) → tickValid s = true →
    Runs (.syncInEdge ps) s (fun t => Counts s t K.syncEdges 1 ∧ rd t K.syncError = ofSigned 32 (syncErr s ps) ∧
      t.tick.lastEdge = some (s.tick.start + ps / 800))) ∧
  (∀ ps c s, s.boot.engine = true → rd s K.syncSource ≠ 0 → s.tick.lastEdge = some c →
    s.tick.start + ps / 800 < c + syncPeriod s / 2 → Runs (.syncInEdge ps) s (fun t =>
      Counts s t K.syncGlitches 1 ∧ t.tick.lastEdge = some c ∧ Frame [K.syncGlitches] [.clock] s t)) ∧
  (∀ s, rd s K.syncSource ≠ 0 → Runs .syncInLost s (fun t => rdBit t K.tickStatus 2 = false ∧ t.tick.lastEdge = none ∧
    Pending t Ev.syncInLost ∧ EvFrame [K.tickStatus] [.clock] s t)) ∧
  (∀ r v s, v < 2 → Admitted s r K.tickRealign true → Runs (.tickRealign r v) s (fun t => Answers t [] ∧
    rdBit t K.tickStatus 5 = (v == 1) ∧ Frame [K.tickStatus] [.chans] s t)) ∧
  (∀ j s, 1 ≤ j → j ≤ 5 → bgWork s j = true → bgSlot s j ≠ none → tget 0 s.fired (K.bgOverrun j) = 0 → Runs (.bgJobSuspend j) s (fun t =>
    Counts s t (K.bgOverrun j) 1 ∧ Pending t Ev.tickOverrun ∧ bgSlot t j = none ∧
      EvFrame [K.bgHighWater, K.bgOverrun j] [.clock] s t)) ∧
  (∀ r j s, 1 ≤ j → j ≤ 5 → Admitted s r (K.bgOverrun j) false → Runs (.bgOverrunRead r j) s (fun t =>
    Answers t [rd s (K.bgOverrun j) % 2 ^ 32] ∧ tget 0 t.fired (K.bgOverrun j) = 0 ∧ Frame [] [.chans, .events] s t))

/-- A word written to a context through the window is stored and the pointer moves on; a switch arms in the limits of key
commits; of a context that an active interchange entry names, a disabled one passes a multiframe clear under an announcement with ENC 0;
an enabled one with a complete key sends a multiframe announced with ENC 1 sealed and takes the next EXT_MF; an announcement that
follows the one before brings the receiver into step; a multiframe announced with ENC 0 is delivered, and so is one announced with ENC 1,
deciphered, whose tag then counts as good or as a failure that raises L1_TAG_FAIL. -/
def Obligations.Layer1Contexts : Prop :=
  (∀ r k v x s, k < 4 → v < 2 ^ 32 → l1Put s (l1Ctx s k (l1Ptr s k).1) (l1Ptr s k).2 v = .ok x → Admitted s r (K.l1Data k) true →
    Runs (.l1DataWrite r k v) s (fun t => Answers t [] ∧ l1Ctx t k (l1Ptr s k).1 = x ∧ Frame [K.l1Addr k] [.chans, .lines] s t)) ∧
  (∀ r k n s, k < 4 → n < 2 ^ 64 → armWrite s (l1Ctx s k (rd s (K.l1SwitchSel k))).arm n = none → Admitted s r (K.l1SwitchTick k) true →
    Runs (.l1SwitchArm r k n) s (fun t => Answers t [] ∧ (l1Ctx t k (rd s (K.l1SwitchSel k))).arm = n ∧ Frame [] [.chans, .lines] s t)) ∧
  (∀ k c p e s, k < 4 → c < 160 → l1Named s k 0 c = true → (l1Ctx s k c).annEnc = false →
    (l1Ctx s k c).exhaust = false → armed s = true → Runs (.l1MultiframeTx k c p e) s (fun t =>
    t.out = .l1 k c (l1AnnBytes (l1Ann (l1Ctx s k c).extMf ((l1Ctx s k c).annPhase != (l1Ctx s k c).flip) (l1Ctx s k c).enabled (l1Ctx s k c).ctid))
      (l1Ctx s k c).lastTag (p.map (· % 256)) :: s.out ∧ (l1Ctx t k c).annEnc = (l1Ctx s k c).enabled ∧ Frame [] [.lines, .out] s t)) ∧
  (∀ k c p s, k < 4 → c < 160 → l1Named s k 0 c = true → (l1Ctx s k c).enabled = true → (l1Ctx s k c).annEnc = true →
    (l1Ctx s k c).exhaust = false → (l1Ctx s k c).extMf < 2 ^ 48 - 1 →
    (slotAt s ((l1Ctx s k c).outHandle (l1Ctx s k c).annPhase)).complete = true → armed s = true →
    Runs (.l1MultiframeTx k c p []) s (fun t => (l1Ctx t k c).extMf = (l1Ctx s k c).extMf + 1 ∧ (l1Ctx t k c).annEnc = true ∧
      t.out.length = s.out.length + 1 ∧ Frame [] [.lines, .out] s t)) ∧
  (∀ k c enc a0 a s, k < 4 → c < 160 → l1Named s k 1 c = true → (l1Ctx s k c).enabled = true →
    (enc = true → (slotAt s ((l1Ctx s k c).inHandle (annPh a0))).complete = true) →
    (if (l1Ctx s k c).inSync then (l1Ctx s k c).anns.head? else (l1Ctx s k c).lastAnn) = some a0 →
    a = l1Ann ((annExt a0 + 1) % 2 ^ 48) (annPh a0) enc (l1Ctx s k c).ctid →
    tget 0 (l1Ctx s k c).acc ((l1Ctx s k c).inHandle (annPh a0)) ≤ annExt a →
    Runs (.l1AnnounceRx k c (l1AnnBytes a)) s (fun t => (l1Ctx t k c).inSync = true ∧ (l1Ctx t k c).bad = 0 ∧
      (l1Ctx t k c).lastAnn = some a ∧ tget 0 (l1Ctx t k c).acc ((l1Ctx s k c).inHandle (annPh a0)) = annExt a + 1 ∧
      Frame [] [.lines] s t)) ∧
  (∀ k c a0 a1 a ci tag e s, k < 4 → c < 160 → l1Named s k 1 c = true → (l1Ctx s k c).enabled = true → armed s = true →
    (l1Ctx s k c).anns = [a0, a1, a] → annEnc a = false → bit a 64 = false → Runs (.l1TagRx k c ci tag e) s (fun t =>
      t.out = .l1In k c (ci.map (· % 256)) :: s.out ∧ Frame [] [.out] s t)) ∧
  (∀ k c a0 a1 a ci tag s, k < 4 → c < 160 → l1Named s k 1 c = true → (l1Ctx s k c).enabled = true → armed s = true →
    (l1Ctx s k c).anns = [a0, a1, a] → annEnc a = true → bit a 64 = false → (slotAt s ((l1Ctx s k c).inHandle (annPh a))).complete = true →
    Runs (.l1TagRx k c ci tag []) s (fun t =>
      (∃ p, t.out = .l1In k c p :: s.out ∧ p.length = ci.length) ∧
      ((l1Ctx t k c).tagFails = (l1Ctx s k c).tagFails ∧ (l1Ctx t k c).failRun = 0 ∨
        (l1Ctx t k c).tagFails = ((l1Ctx s k c).tagFails + 1) % 2 ^ 32 ∧ (l1Ctx t k c).failRun = (l1Ctx s k c).failRun + 1 ∧ Pending t Ev.l1TagFail) ∧
      EvFrame [] [.lines, .out] s t))

/-- RULE_ADDR loads the staging copy with the live rule; a word below 21 goes into the copy and the address moves to the next
word; word 21 commits the whole rule to the live table at once, unless a VALUE bit lies outside its MASK; the live table keeps
every other rule; a claim unused for 100,000 ticks is released with its copy. -/
def Obligations.RuleTable : Prop :=
  (∀ r j v s, j < 8 → v < 2 ^ 32 → bits v 20 16 < 22 → heldByOther s (Grp.rule j) r.ch = false → Admitted s r (K.ruleAddr j) true →
    Runs (.ruleAddrWrite r j v) s (fun t => Answers t [] ∧ stageOf t (Grp.rule j) = liveRule s j (bits v 11 0) ∧
      rd t (K.ruleAddr j) = bits v 20 16 * 2 ^ 16 + bits v 11 0 ∧ Frame [K.ruleAddr j] [.chans, .staging] s t)) ∧
  (∀ r j (v : Nat) e w s, j < 8 → v < 2 ^ 32 → ruleAt s j = (e, w) → w < 21 → (w = 20 → resAction v ≤ 4) →
    heldByOther s (Grp.rule j) r.ch = false → Admitted s r (K.ruleData j) true → Runs (.ruleDataWrite r j v) s (fun t =>
      Answers t [] ∧ stageOf t (Grp.rule j) = lset (ruleCopy s j) w v ∧ rd t (K.ruleAddr j) = (w + 1) * 2 ^ 16 + e ∧
      Frame [K.ruleAddr j] [.chans, .staging] s t)) ∧
  (∀ r j (v : Nat) e s, j < 8 → v < 2 ^ 32 → ruleAt s j = (e, 21) → ruleBad (lset (ruleCopy s j) 21 (v / 2 ^ 31 * 2 ^ 31)) = false →
    heldByOther s (Grp.rule j) r.ch = false → Admitted s r (K.ruleData j) true → Runs (.ruleDataWrite r j v) s (fun t =>
      Answers t [] ∧ liveRule t j e = lset (ruleCopy s j) 21 (v / 2 ^ 31 * 2 ^ 31) ∧
      (∀ e', e' ≠ e → liveRule t j e' = liveRule s j e') ∧ Frame [K.ruleAddr j] [.chans, .staging, .tables] s t)) ∧
  (∀ r j v e s, j < 8 → ruleAt s j = (e, 20) → 4 < resAction (v % 2 ^ 32) → heldByOther s (Grp.rule j) r.ch = false →
    Admitted s r (K.ruleData j) true → Runs (.ruleDataWrite r j v) s (fun t =>
      t.reply.code = .unsupportedValue ∧ Frame [] [.chans] s t)) ∧
  (∀ g c n s, s.claims.find? (fun e => e.1 == g) = some (g, c, n) → n + claimTicks ≤ s.tick.elapsed →
    Runs (.stagingClaimTimeout g) s (fun t => stageOf t g = [] ∧ heldByOther t g 9 = false ∧ Frame [] [.staging] s t))

/-- LPM_OP 1, 2 and 3 are taken while none runs, and leave the table busy; when the operation completes, a prefix of an enabled
length that stands is found, deleted, or given its new result; one that does not stand is not found, and an insert of it takes a free
place of its buckets; an insert of a disabled length is refused; and the busy bit goes. -/
def Obligations.LpmTable : Prop :=
  (∀ r s, lpmBusy s = false → heldByOther s Grp.lpm r.ch = false → Admitted s r K.lpmOp true → Runs (.lpmInsert r) s (fun t =>
    Answers t [] ∧ t.tables.lpmOp = 1 ∧ lpmBusy t = true ∧ Frame [K.lpmStatus] [.chans, .staging, .tables] s t)) ∧
  (∀ r s, lpmBusy s = false → heldByOther s Grp.lpm r.ch = false → Admitted s r K.lpmOp true → Runs (.lpmDelete r) s (fun t =>
    Answers t [] ∧ t.tables.lpmOp = 2 ∧ lpmBusy t = true ∧ Frame [K.lpmStatus] [.chans, .staging, .tables] s t)) ∧
  (∀ r s, lpmBusy s = false → heldByOther s Grp.lpm r.ch = false → Admitted s r K.lpmOp true → Runs (.lpmFind r) s (fun t =>
    Answers t [] ∧ t.tables.lpmOp = 3 ∧ lpmBusy t = true ∧ Frame [K.lpmStatus] [.chans, .staging, .tables] s t)) ∧
  (∀ v6 len a e s, s.tables.lpmOp = 3 → rd s K.lpmPrefix = b2n v6 * 256 + len → len ≤ lpmBits v6 →
    rd s K.lpmKey = (if v6 then a else a * 2 ^ 96) → lpmEnabled s v6 len = true →
    lpmPlace s v6 len (lpmMask v6 len a) = some e → Runs .lpmOpDone s (fun t => t.tables.lpmOp = 0 ∧
      rd t K.lpmStatus = 2 ^ 28 + e ∧ t.tables.lpm = s.tables.lpm ∧ Frame [K.lpmUsed, K.lpmStatus] [.tables] s t)) ∧
  (∀ v6 len a e s, s.tables.lpmOp = 1 → rd s K.lpmPrefix = b2n v6 * 256 + len → len ≤ lpmBits v6 →
    rd s K.lpmKey = (if v6 then a else a * 2 ^ 96) → lpmEnabled s v6 len = true →
    lpmPlace s v6 len (lpmMask v6 len a) = some e → (lpmEntry s (e + b2n v6)).length = 4 →
    Runs .lpmOpDone s (fun t => t.tables.lpmOp = 0 ∧ rd t K.lpmStatus = 2 * 2 ^ 28 + e ∧
      lpmResultAt t v6 e = rd s K.lpmResult ∧ Frame [K.lpmUsed, K.lpmStatus] [.tables] s t)) ∧
  (∀ v6 len a e s, s.tables.lpmOp = 2 → rd s K.lpmPrefix = b2n v6 * 256 + len → len ≤ lpmBits v6 →
    rd s K.lpmKey = (if v6 then a else a * 2 ^ 96) → lpmEnabled s v6 len = true →
    lpmPlace s v6 len (lpmMask v6 len a) = some e → Runs .lpmOpDone s (fun t => t.tables.lpmOp = 0 ∧
      rd t K.lpmStatus = 2 ^ 28 + e ∧ lpmEntry t e = [0, 0, 0, 0] ∧ Frame [K.lpmUsed, K.lpmStatus] [.tables] s t)) ∧
  (∀ v6 len a s, s.tables.lpmOp = 1 → rd s K.lpmPrefix = b2n v6 * 256 + len → len ≤ lpmBits v6 →
    rd s K.lpmKey = (if v6 then a else a * 2 ^ 96) → lpmEnabled s v6 len = true →
    lpmPlace s v6 len (lpmMask v6 len a) = none → lpmRoom s v6 (lpmCand 0 v6 len (lpmMask v6 len a)) (lpmCand 1 v6 len (lpmMask v6 len a)) ≠ [] →
    Runs .lpmOpDone s (fun t => t.tables.lpmOp = 0 ∧ Frame [K.lpmUsed, K.lpmStatus] [.tables] s t ∧
      ∃ e ∈ lpmRoom s v6 (lpmCand 0 v6 len (lpmMask v6 len a)) (lpmCand 1 v6 len (lpmMask v6 len a)), rd t K.lpmStatus = 2 ^ 28 + e ∧
        t.tables.lpm = (lpmWrite s v6 len (lpmMask v6 len a) (rd s K.lpmResult) e).tables.lpm)) ∧
  (∀ v6 len a s, s.tables.lpmOp = 2 ∨ s.tables.lpmOp = 3 → rd s K.lpmPrefix = b2n v6 * 256 + len → len ≤ lpmBits v6 →
    rd s K.lpmKey = (if v6 then a else a * 2 ^ 96) → lpmPlace s v6 len (lpmMask v6 len a) = none →
    Runs .lpmOpDone s (fun t => t.tables.lpmOp = 0 ∧ rd t K.lpmStatus = 3 * 2 ^ 28 ∧ t.tables.lpm = s.tables.lpm ∧
      Frame [K.lpmUsed, K.lpmStatus] [.tables] s t)) ∧
  (∀ s, s.tables.lpmOp = 1 → lpmEnabled s (bit (rd s K.lpmPrefix) 8) (bits (rd s K.lpmPrefix) 7 0) = false →
    Runs .lpmOpDone s (fun t => t.tables.lpmOp = 0 ∧ rd t K.lpmStatus = 5 * 2 ^ 28 ∧ t.tables.lpm = s.tables.lpm ∧
      Frame [K.lpmUsed, K.lpmStatus] [.tables] s t))

/-- An insert of an address that stands replaces it as a static entry, of another one takes a free place of its bucket; a delete removes it; a find answers it; both
answer that an address does not stand; a flush is taken
while none runs and leaves the table busy; when it completes, static entries stay and dynamic ones it names and met before are gone; an age sweep that is due keeps static entries
and dynamic ones seen since the last, without their ACTIVE, and removes the others; the oldest learn of the FIFO leaves it. -/
def Obligations.LearningTable : Prop :=
  (∀ r i n s, i < 4 → heldByOther s (Grp.learn i) r.ch = false → learnFindAt s i (rd s (K.learnKey i)) = some n →
    Admitted s r (K.learnOp i) true → Runs (.learnInsertStatic r i) s (fun t => Answers t [] ∧
      learnAt t i n = some ⟨rd s (K.learnKey i), bits (rd s (K.learnValue i)) 15 0, bits (rd s (K.learnValue i)) 20 16, true, false, s.tick.clock⟩ ∧
      rdField t (K.learnStatus i) 30 28 = 1 ∧ Frame [K.learnUsed i, K.learnStatus i] [.chans, .staging, .tables] s t)) ∧
  (∀ r i n s, i < 4 → heldByOther s (Grp.learn i) r.ch = false → learnFindAt s i (rd s (K.learnKey i)) = some n →
    Admitted s r (K.learnOp i) true → Runs (.learnDelete r i) s (fun t => Answers t [] ∧ learnAt t i n = none ∧
      rdField t (K.learnStatus i) 30 28 = 1 ∧ Frame [K.learnUsed i, K.learnStatus i] [.chans, .staging, .tables] s t)) ∧
  (∀ r i n x s, i < 4 → heldByOther s (Grp.learn i) r.ch = false → learnFindAt s i (rd s (K.learnKey i)) = some n →
    learnAt s i n = some x → Admitted s r (K.learnOp i) true → Runs (.learnFind r i) s (fun t => Answers t [] ∧
      rd t (K.learnValue i) = b2n x.static * 2 ^ 31 + b2n x.active * 2 ^ 30 + x.port * 2 ^ 16 + x.sc ∧
      rdField t (K.learnStatus i) 30 28 = 1 ∧ Frame [K.learnValue i, K.learnStatus i] [.chans, .staging] s t)) ∧
  (∀ r i s, i < 4 → heldByOther s (Grp.learn i) r.ch = false → learnFindAt s i (rd s (K.learnKey i)) = none →
    learnFree s i (rd s (K.learnKey i)) ≠ [] → Admitted s r (K.learnOp i) true → Runs (.learnInsertStatic r i) s (fun t => Answers t [] ∧
      (∃ n ∈ learnFree s i (rd s (K.learnKey i)), learnAt t i n =
        some ⟨rd s (K.learnKey i), bits (rd s (K.learnValue i)) 15 0, bits (rd s (K.learnValue i)) 20 16, true, false, s.tick.clock⟩) ∧
      rdField t (K.learnStatus i) 30 28 = 1 ∧ Frame [K.learnUsed i, K.learnStatus i] [.chans, .staging, .tables] s t)) ∧
  (∀ r i c s, i < 4 → heldByOther s (Grp.learn i) r.ch = false → learnFindAt s i (rd s (K.learnKey i)) = none →
    Admitted s r (K.learnOp i) true → (c = Instr.learnDelete r i ∨ c = Instr.learnFind r i) → Runs c s (fun t => Answers t [] ∧
      t.tables.learn = s.tables.learn ∧ rdField t (K.learnStatus i) 30 28 = 3 ∧ Frame [K.learnUsed i, K.learnStatus i] [.chans, .staging, .tables] s t)) ∧
  (∀ r i s, i < 4 → heldByOther s (Grp.learn i) r.ch = false → learnBusy s i = false → Admitted s r (K.learnOp i) true →
    Runs (.learnFlushAll r i) s (fun t => Answers t [] ∧ tget (0, 0, 0) t.tables.flush i = (4, rd s (K.learnValue i), s.tick.clock) ∧
      learnBusy t i = true ∧ Frame [K.learnStatus i] [.chans, .staging, .tables] s t)) ∧
  (∀ r i s, i < 4 → heldByOther s (Grp.learn i) r.ch = false → learnBusy s i = false → Admitted s r (K.learnOp i) true →
    Runs (.learnFlushPort r i) s (fun t => Answers t [] ∧ tget (0, 0, 0) t.tables.flush i = (5, rd s (K.learnValue i), s.tick.clock) ∧
      learnBusy t i = true ∧ Frame [K.learnStatus i] [.chans, .staging, .tables] s t)) ∧
  (∀ r i s, i < 4 → heldByOther s (Grp.learn i) r.ch = false → learnBusy s i = false → Admitted s r (K.learnOp i) true →
    Runs (.learnFlushSc r i) s (fun t => Answers t [] ∧ tget (0, 0, 0) t.tables.flush i = (6, rd s (K.learnValue i), s.tick.clock) ∧
      learnBusy t i = true ∧ Frame [K.learnStatus i] [.chans, .staging, .tables] s t)) ∧
  (∀ i op v c s, i < 4 → op ≠ 0 → tget (0, 0, 0) s.tables.flush i = (op, v, c) → Runs (.learnFlushDone i) s (fun t =>
    rd t (K.learnStatus i) = 2 ^ 28 ∧ tget (0, 0, 0) t.tables.flush i = (0, 0, 0) ∧
      (∀ e ∈ t.tables.learn, e ∈ s.tables.learn) ∧
      (∀ n x, (i * 131072 + n, some x) ∈ s.tables.learn → n < 131072 → x.static = true → (i * 131072 + n, some x) ∈ t.tables.learn) ∧
      (op = 4 → ∀ n x, n < 131072 → (i * 131072 + n, some x) ∈ t.tables.learn → x.static = true ∨ c < x.born) ∧
      Frame [K.learnStatus i, K.learnUsed i] [.tables] s t)) ∧
  (∀ i s, i < 4 → ageDue s i = true → Runs (.ageSweep i) s (fun t =>
    (∀ n x, n < 131072 → (i * 131072 + n, some x) ∈ t.tables.learn → x.active = false) ∧
      (∀ n x, n < 131072 → learnAt s i n = some x → x.static = true ∨ x.active = true →
        learnAt t i n = some { x with active := false }) ∧ tget 0 t.tables.ageAt i = s.tick.elapsed ∧
      Frame [K.learnUsed i] [.tables] s t)) ∧
  (∀ i x l s, i < 4 → learnFifo s i = x :: l → Runs (.learnFifoRetire i) s (fun t => learnFifo t i = l ∧
    EvFrame [K.learnUsed i, K.learnConflict i, K.macMoves i, K.learnFull i] [.tables] s t))

/-- SC_ADDR loads the staging copy with the live entry; a word below 9 goes into the copy, words 2 to 5 and 8 being
ignored, and the address moves on; word 9 commits the copy where every check of the entry passes, leaves the SA entries alone, and aborts with the code of the first check that
fails, leaving the entry as it was. -/
def Obligations.ScStore : Prop :=
  (∀ r (v : Nat) s, v < 2 ^ 32 → bits v 19 16 ≤ 9 → heldByOther s Grp.sc r.ch = false → Admitted s r K.scAddr true →
    Runs (.scAddrWrite r v) s (fun t => Answers t [] ∧ stageOf t Grp.sc = scWords s (bits v 15 0) ∧
      rd t K.scAddr = bits v 19 16 * 2 ^ 16 + bits v 15 0 ∧ Frame [K.scAddr] [.chans, .staging] s t)) ∧
  (∀ r (v : Nat) e w s, v < 2 ^ 32 → scPtr s = (e, w) → w < 9 → (w < 2 ∨ w = 6 ∨ w = 7) → stageOf s Grp.sc ≠ [] →
    heldByOther s Grp.sc r.ch = false → Admitted s r K.scData true → Runs (.scDataWrite r v) s (fun t => Answers t [] ∧
      stageOf t Grp.sc = lset (stageOf s Grp.sc) w v ∧ rd t K.scAddr = (w + 1) * 2 ^ 16 + e ∧ Frame [K.scAddr] [.chans, .staging] s t)) ∧
  (∀ r (v : Nat) e w s, v < 2 ^ 32 → scPtr s = (e, w) → (2 ≤ w ∧ w ≤ 5 ∨ w = 8) → stageOf s Grp.sc ≠ [] →
    heldByOther s Grp.sc r.ch = false → Admitted s r K.scData true → Runs (.scDataWrite r v) s (fun t => Answers t [] ∧
      stageOf t Grp.sc = stageOf s Grp.sc ∧ rd t K.scAddr = (w + 1) * 2 ^ 16 + e ∧ Frame [K.scAddr] [.chans, .staging] s t)) ∧
  (∀ r (v : Nat) e s, v < 2 ^ 32 → scPtr s = (e, 9) → stageOf s Grp.sc ≠ [] → heldByOther s Grp.sc r.ch = false →
    scCheck s (scAt s e) (scFrom (scAt s e) (lset (stageOf s Grp.sc) 9 v)) = none → Admitted s r K.scData true →
    Runs (.scDataWrite r v) s (fun t => Answers t [] ∧ scAt t e = scFrom (scAt s e) (lset (stageOf s Grp.sc) 9 v) ∧
      (∀ i, i ≠ e → scAt t i = scAt s i) ∧ (∀ h, saAt t h = saAt s h) ∧ Frame [K.scAddr] [.chans, .staging, .assoc] s t)) ∧
  (∀ r (v : Nat) e c s, v < 2 ^ 32 → scPtr s = (e, 9) → stageOf s Grp.sc ≠ [] → heldByOther s Grp.sc r.ch = false →
    scCheck s (scAt s e) (scFrom (scAt s e) (lset (stageOf s Grp.sc) 9 v)) = some c → Admitted s r K.scData true →
    Runs (.scDataWrite r v) s (fun t => t.reply.code = c ∧ Frame [K.scAddr] [.chans, .staging] s t))

/-- SA_ADDR loads the staging copy; a word below 7 goes into it, words 5 and 6 being ignored; word 7 with STAGE, where the checks of R147 pass, makes the SA STAGED and enters
its handle in the AN_MAP of its SC, a Layer-1 SA in none; word 7 with RETIRE makes a live SA RETIRED and clears the AN_MAP entry that names it; word 7 with neither
stores the fields of an SA that is not live. -/
def Obligations.SaStore : Prop :=
  (∀ r (v : Nat) s, v < 2 ^ 32 → heldByOther s Grp.sa r.ch = false → Admitted s r K.saAddr true →
    Runs (.saAddrWrite r v) s (fun t => Answers t [] ∧ stageOf t Grp.sa = saWords s (bits v 16 0) ++ saWords s (bits v 16 0) ∧
      rd t K.saAddr = bits v 22 20 * 2 ^ 20 + bits v 16 0 ∧ Frame [K.saAddr] [.chans, .staging] s t)) ∧
  (∀ r (v : Nat) h w s, v < 2 ^ 32 → saPtr s = (h, w) → w < 5 → stageOf s Grp.sa ≠ [] → heldByOther s Grp.sa r.ch = false →
    Admitted s r K.saData true → Runs (.saDataWrite r v) s (fun t => Answers t [] ∧
      stageOf t Grp.sa = lset (stageOf s Grp.sa) w v ∧ rd t K.saAddr = (w + 1) * 2 ^ 20 + h ∧ Frame [K.saAddr] [.chans, .staging] s t)) ∧
  (∀ r (v : Nat) h w s, v < 2 ^ 32 → saPtr s = (h, w) → (w = 5 ∨ w = 6) → stageOf s Grp.sa ≠ [] → heldByOther s Grp.sa r.ch = false →
    Admitted s r K.saData true → Runs (.saDataWrite r v) s (fun t => Answers t [] ∧
      stageOf t Grp.sa = stageOf s Grp.sa ∧ rd t K.saAddr = (w + 1) * 2 ^ 20 + h ∧ Frame [K.saAddr] [.chans, .staging] s t)) ∧
  (∀ r (v : Nat) h e s, v < 2 ^ 30 → saPtr s = (h, 7) → 8 ≤ (stageOf s Grp.sa).length → heldByOther s Grp.sa r.ch = false →
    saFrom (saAt s h) (lset (stageOf s Grp.sa) 7 (setBit v 31 true)) = e → stageCheck s h (saAt s h) e = none →
    Admitted s r K.saData true → Runs (.saStage r v) s (fun t => Answers t [] ∧
      (saAt t h).st = Sa.staged ∧ (saAt t h).pn = e.pn ∧ (e.l1 = false → tget 0 (scAt t e.sc).an e.an = 2 ^ 31 + h) ∧
      (e.l1 = true → ∀ c, scAt t c = scAt s c) ∧ statAt t h = stat0 ∧ (∀ g, g ≠ h → saAt t g = saAt s g) ∧ Frame [K.saAddr, K.commitStalls] [.clock, .chans, .staging, .assoc] s t)) ∧
  (∀ r (v : Nat) h s, v < 2 ^ 30 → saPtr s = (h, 7) → 8 ≤ (stageOf s Grp.sa).length → heldByOther s Grp.sa r.ch = false →
    ((saAt s h).st = Sa.active ∨ (saAt s h).st = Sa.grace →
      ∀ i, i < 7 → saChanged (lset (stageOf s Grp.sa) 7 (setBit v 30 true)) i = false) →
    Admitted s r K.saData true → Runs (.saRetire r v) s (fun t => Answers t [] ∧
      (saAt t h).st = Sa.retired ∧ ((saAt s h).l1 = false → (scAt t (saAt s h).sc).handle (saAt s h).an ≠ some h ∧
        (scAt t (saAt s h).sc).cur ≠ some h) ∧ ((saAt s h).l1 = true → ∀ c, scAt t c = scAt s c) ∧ (∀ g, g ≠ h → saAt t g = saAt s g) ∧ Frame [K.saAddr, K.commitStalls] [.clock, .chans, .staging, .assoc] s t)) ∧
  (∀ r (v : Nat) h s, v < 2 ^ 30 → saPtr s = (h, 7) → 8 ≤ (stageOf s Grp.sa).length → heldByOther s Grp.sa r.ch = false →
    (saAt s h).st ≠ Sa.active → (saAt s h).st ≠ Sa.grace → (saAt s h).st ≠ Sa.staged → (saAt s h).st ≠ Sa.skipped →
    Admitted s r K.saData true → Runs (.saDataWrite r v) s (fun t => Answers t [] ∧
      saAt t h = saFrom (saAt s h) (lset (stageOf s Grp.sa) 7 v) ∧ Frame [K.saAddr, K.commitStalls] [.clock, .chans, .staging, .assoc] s t))

/-- A fill starts at word 0, which clears the slot's COMPLETE, goes on word by word, and word 10 completes it and releases the group; a write to
a slot whose key is in use, or while plaintext keys are closed, aborts with the wrong-state code and leaves every slot alone. -/
def Obligations.KeySlots : Prop :=
  (∀ r (v : Nat) s, v < 2 ^ 32 → bits v 27 24 ≤ 11 → heldByOther s Grp.key r.ch = false → Admitted s r K.keyAddr true →
    Runs (.keyAddrWrite r v) s (fun t => Answers t [] ∧ rd t K.keyAddr = bits v 27 24 * 2 ^ 24 + bits v 16 0 ∧
      Frame [K.keyAddr] [.chans, .staging] s t)) ∧
  (∀ r (v : Nat) h s, v < 2 ^ 32 → keyPtr s = (h, 0) → heldByOther s Grp.key r.ch = false → keyClosed s 0 = false →
    slotProtected s h = false → Admitted s r K.keyData true → Runs (.keyDataWrite r v) s (fun t => Answers t [] ∧
      (slotAt t h).complete = false ∧ (slotAt t h).fill = some 1 ∧ (slotAt t h).words = lset (slotAt s h).words 0 v ∧
      (∀ g, g ≠ h → slotAt t g = slotAt s g) ∧ Frame [K.keyAddr, K.commitStalls] [.clock, .chans, .staging, .assoc] s t)) ∧
  (∀ r (v : Nat) h w s, v < 2 ^ 32 → keyPtr s = (h, w) → 0 < w → w < 10 → heldByOther s Grp.key r.ch = false → keyClosed s w = false →
    slotProtected s h = false → (slotAt s h).fill = some w → Admitted s r K.keyData true → Runs (.keyDataWrite r v) s (fun t =>
      Answers t [] ∧ (slotAt t h).fill = some (w + 1) ∧ (slotAt t h).complete = (slotAt s h).complete ∧
      (slotAt t h).words = lset (slotAt s h).words w v ∧
      (∀ g, g ≠ h → slotAt t g = slotAt s g) ∧ Frame [K.keyAddr, K.commitStalls] [.clock, .chans, .staging, .assoc] s t)) ∧
  (∀ r (v : Nat) h s, v < 2 ^ 32 → keyPtr s = (h, 10) → heldByOther s Grp.key r.ch = false → keyClosed s 10 = false →
    slotProtected s h = false → (slotAt s h).fill = some 10 → Admitted s r K.keyData true → Runs (.keyDataWrite r v) s (fun t =>
      Answers t [] ∧ (slotAt t h).complete = true ∧ (slotAt t h).zeroised = false ∧ (slotAt t h).words = lset (slotAt s h).words 10 v ∧
      (∀ g, g ≠ h → slotAt t g = slotAt s g) ∧ Frame [K.keyAddr, K.commitStalls] [.clock, .chans, .staging, .assoc] s t)) ∧
  (∀ r (v : Nat) h w s, keyPtr s = (h, w) → (keyClosed s w = true ∨ slotProtected s h = true) → Admitted s r K.keyData true →
    Runs (.keyDataWrite r v) s (fun t => t.reply.code = .wrongState ∧ Frame [] [.chans] s t))

/-- An arm register takes a tick within the limits of R38 that no pending time step touches, and refuses one out of them with the late-commit
code; committing an SC makes the new SA its current one and ACTIVE and retires the outbound SA that was; an inbound SA's
grace ends at its tick; a step of the scrubber, in its slot of the tick, moves on to the next entries, and counts a pass behind the last; a scrubbed uncorrectable
error of an SA puts it in FAULT; a step whose slot has passed waits. -/
def Obligations.KeyCommits : Prop :=
  (∀ r i (n : Nat) s, 1 ≤ i → i ≤ 15 → n < 2 ^ 64 → armWrite s (rd s (K.armTick i)) n = none → Admitted s r (K.armTick i) true →
    Runs (.armTickWrite r i n) s (fun t => Answers t [] ∧ rd t (K.armTick i) = n ∧ Frame [K.armTick i] [.chans] s t)) ∧
  (∀ r i (n : Nat) s, n < 2 ^ 64 - 1 → armKeyOk s n = false → Admitted s r (K.armTick i) true →
    Runs (.armTickWrite r i n) s (fun t => t.reply.code = .lateCommit ∧ Frame [] [.chans] s t)) ∧
  (∀ s c h g, (scAt s c).inbound = false → (scAt s c).cur = some g → g ≠ h → (saAt s g).st = Sa.active →
    (saAt (commitSwitch s c h) h).st = Sa.active ∧ (saAt (commitSwitch s c h) g).st = Sa.retired ∧
      (scAt (commitSwitch s c h) c).cur = some h ∧ (scAt (commitSwitch s c h) c).curAn = (saAt s h).an ∧
      Frame [] [.assoc] s (commitSwitch s c h)) ∧
  (∀ h s, (saAt s h).st = Sa.grace → dueNow s (saAt s h).graceEnd = true → Runs (.graceEnd h) s (fun t =>
    (saAt t h).st = Sa.retired ∧ (∀ g, g ≠ h → saAt t g = saAt s g) ∧ Frame [] [.clock, .assoc] s t)) ∧
  (∀ h s, (saAt s h).st = Sa.grace → h / 128 = s.assoc.scrub → s.assoc.scrub < 1023 → bgSlot s 4 ≠ none →
    Runs (.scrubStep [⟨0, h, true⟩]) s (fun t => (saAt t h).st = Sa.fault ∧ Counts s t K.scrubUncorr 1 ∧ rd t K.scrubLast = h ∧
      Pending t Ev.saEcc ∧ t.assoc.scrub = s.assoc.scrub + 1 ∧
      EvFrame [K.scrubUncorr, K.scrubLast, K.bgHighWater] [.clock, .assoc] s t)) ∧
  (∀ s, bgSlot s 4 ≠ none → Runs (.scrubStep []) s (fun t => t.assoc.scrub = (s.assoc.scrub + 1) % 1024 ∧
    Counts s t K.scrubPasses (if s.assoc.scrub = 1023 then 1 else 0) ∧ Frame [K.scrubPasses, K.bgHighWater] [.clock, .assoc, .perf] s t)) ∧
  (∀ hits s, bgSlot s 4 = none → Runs (.scrubStep hits) s (fun t => t.assoc.scrub = s.assoc.scrub ∧ Frame [] [] s t))

/-- FLOW_DATA with QBASE a multiple of 8 stores the flow entry FLOW_ADDR names, alone, and moves on; QUEUE_ADDR loads the staging copy with the
queue it names; words 0 to 2 go into the copy; word 3 commits settings within R325's ranges, alone, and goes on to word 4, refuses settings outside them with the
unsupported-value code, and a new port for a queue that holds frames with the wrong-state code; words 4 to 7 are ignored. -/
def Obligations.QueuesAndFlows : Prop :=
  (∀ r k (v : Nat) s, k < 4 → v < 2 ^ 32 → v % 8 = 0 → heldByOther s (Grp.flow k) r.ch = false → Admitted s r (K.flowData k) true →
    Runs (.flowDataWrite r k v) s (fun t => Answers t [] ∧ flowAt t k (rd s (K.flowAddr k)) = Nat.land v 0x80000FFF ∧
      (∀ f, f ≠ rd s (K.flowAddr k) → flowAt t k f = flowAt s k f) ∧ rd t (K.flowAddr k) = (rd s (K.flowAddr k) + 1) % 1024 ∧
      Frame [K.flowAddr k] [.chans, .staging, .datapath] s t)) ∧
  (∀ r k (v : Nat) s, k < 4 → v < 2 ^ 32 → heldByOther s (Grp.queue k) r.ch = false → Admitted s r (K.queueAddr k) true →
    Runs (.queueAddrWrite r k v) s (fun t => Answers t [] ∧ stageOf t (Grp.queue k) = queWords (queAt s k (bits v 11 0)) ∧
      rd t (K.queueAddr k) = bits v 18 16 * 2 ^ 16 + bits v 11 0 ∧ Frame [K.queueAddr k] [.chans, .staging] s t)) ∧
  (∀ r k (v : Nat) i w s, k < 4 → v < 2 ^ 32 → quePtr s k = (i, w) → w < 3 → stageOf s (Grp.queue k) ≠ [] →
    heldByOther s (Grp.queue k) r.ch = false → Admitted s r (K.queueData k) true → Runs (.queueDataWrite r k v) s (fun t => Answers t [] ∧
      stageOf t (Grp.queue k) = lset (stageOf s (Grp.queue k)) w v ∧ rd t (K.queueAddr k) = (w + 1) * 2 ^ 16 + i ∧
      Frame [K.queueAddr k] [.chans, .staging] s t)) ∧
  (∀ r k (v : Nat) i s, k < 4 → v < 2 ^ 32 → quePtr s k = (i, 3) → stageOf s (Grp.queue k) ≠ [] → heldByOther s (Grp.queue k) r.ch = false →
    queCheck k (queAt s k i) (queFrom s (queAt s k i) (lset (stageOf s (Grp.queue k)) 3 v)) = none → Admitted s r (K.queueData k) true →
    Runs (.queueDataWrite r k v) s (fun t => Answers t [] ∧
      queAt t k i = queFrom s (queAt s k i) (lset (stageOf s (Grp.queue k)) 3 v) ∧ (∀ j, j ≠ i → queAt t k j = queAt s k j) ∧
      rd t (K.queueAddr k) = 4 * 2 ^ 16 + i ∧ Frame [K.queueAddr k] [.chans, .staging, .datapath] s t)) ∧
  (∀ r k (v : Nat) i c s, k < 4 → v < 2 ^ 32 → quePtr s k = (i, 3) → stageOf s (Grp.queue k) ≠ [] → heldByOther s (Grp.queue k) r.ch = false →
    queCheck k (queAt s k i) (queFrom s (queAt s k i) (lset (stageOf s (Grp.queue k)) 3 v)) = some c → Admitted s r (K.queueData k) true →
    Runs (.queueDataWrite r k v) s (fun t => t.reply.code = c ∧ Frame [K.queueAddr k] [.chans, .staging] s t)) ∧
  (∀ r k (v : Nat) i w s, k < 4 → quePtr s k = (i, w) → 3 < w → heldByOther s (Grp.queue k) r.ch = false →
    Admitted s r (K.queueData k) true → Runs (.queueDataWrite r k v) s (fun t => Answers t [] ∧
      quePtr t k = (if w < 7 then (i, w + 1) else ((i + 1) % 4096, 0)) ∧ Frame [K.queueAddr k] [.chans, .staging] s t))

/-- POL_ADDR loads the staging copy with the policer it names; words 0 to 3 go into it; word 4 commits settings within R337's ranges to that policer alone, and refuses others with
the unsupported-value code; words 5 to 7 are ignored. A frame that both buckets cover is green and takes from both; one the peak bucket does not cover is red, takes
from neither and is dropped; one only the peak bucket covers is yellow and dropped where YELLOW_DROP is set. -/
def Obligations.Policers : Prop :=
  (∀ r i (v : Nat) s, i < 4 → v < 2 ^ 32 → heldByOther s (Grp.pol i) r.ch = false → Admitted s r (K.polAddr i) true →
    Runs (.polAddrWrite r i v) s (fun t => Answers t [] ∧ stageOf t (Grp.pol i) = polWords (polAt s i (bits v 9 0)) ∧
      rd t (K.polAddr i) = bits v 18 16 * 2 ^ 16 + bits v 9 0 ∧ Frame [K.polAddr i] [.chans, .staging] s t)) ∧
  (∀ r i (v : Nat) n w s, i < 4 → v < 2 ^ 32 → polPtr s i = (n, w) → w < 4 → stageOf s (Grp.pol i) ≠ [] → heldByOther s (Grp.pol i) r.ch = false →
    Admitted s r (K.polData i) true → Runs (.polDataWrite r i v) s (fun t => Answers t [] ∧
      stageOf t (Grp.pol i) = lset (stageOf s (Grp.pol i)) w v ∧ rd t (K.polAddr i) = (w + 1) * 2 ^ 16 + n ∧
      Frame [K.polAddr i] [.chans, .staging] s t)) ∧
  (∀ r i (v : Nat) n w s, i < 4 → polPtr s i = (n, w) → 4 < w → heldByOther s (Grp.pol i) r.ch = false →
    Admitted s r (K.polData i) true → Runs (.polDataWrite r i v) s (fun t => Answers t [] ∧
      polPtr t i = (if w < 7 then (n, w + 1) else ((n + 1) % 1024, 0)) ∧ Frame [K.polAddr i] [.chans, .staging] s t)) ∧
  (∀ r i (v : Nat) n s, i < 4 → v < 2 ^ 32 → polPtr s i = (n, 4) → stageOf s (Grp.pol i) ≠ [] → heldByOther s (Grp.pol i) r.ch = false →
    polOk (polFrom s (polAt s i n) (lset (stageOf s (Grp.pol i)) 4 v)) = true → Admitted s r (K.polData i) true →
    Runs (.polDataWrite r i v) s (fun t => Answers t [] ∧ polAt t i n = polFrom s (polAt s i n) (lset (stageOf s (Grp.pol i)) 4 v) ∧
      (∀ m, m ≠ n → polAt t i m = polAt s i m) ∧ Frame [K.polAddr i] [.chans, .staging, .datapath] s t)) ∧
  (∀ r i (v : Nat) n s, i < 4 → v < 2 ^ 32 → polPtr s i = (n, 4) → stageOf s (Grp.pol i) ≠ [] → heldByOther s (Grp.pol i) r.ch = false →
    polOk (polFrom s (polAt s i n) (lset (stageOf s (Grp.pol i)) 4 v)) = false → Admitted s r (K.polData i) true →
    Runs (.polDataWrite r i v) s (fun t => t.reply.code = .unsupportedValue ∧ Frame [K.polAddr i] [.chans, .staging] s t)) ∧
  (∀ i n len x s, polAt s i n = x → x.cir ≠ 0 → bits x.ctl 15 8 = 0 → 1 ≤ len →
    (polMeter s i n len).2 = !(decide (bucketAt x.pir x.pbs x.ptok s.tick.clock < len * 10000) ||
      (bit x.ctl 0 && decide (bucketAt x.cir x.cbs x.ctok s.tick.clock < len * 10000))) ∧
    ((polMeter s i n len).2 = true → bit x.ctl 0 = true →
      (polAt (polMeter s i n len).1 i n).green = (x.green + 1) % 2 ^ 32 ∧
      (polAt (polMeter s i n len).1 i n).ctok = some (bucketAt x.cir x.cbs x.ctok s.tick.clock - len * 10000, s.tick.clock) ∧
      (polAt (polMeter s i n len).1 i n).ptok = some (bucketAt x.pir x.pbs x.ptok s.tick.clock - len * 10000, s.tick.clock)) ∧
    Frame [] [.datapath] s (polMeter s i n len).1)

/-- GATE_DATA stores a word of the standby list, masks an even word to the eight gates, and moves on; GATE_ARM 1 refuses a list outside R330 with RESULT 3
and the unsupported-value code, and one on an invalid time base with RESULT 5 and the wrong-state code; else, where a strict list starts at its base and its swap tick is
within 2^31, it arms the list, with RESULT 1, its start and its swap tick; 2 disarms a list whose swap tick is more than one away; a gate event
shows the gates and the entry of the active list at the time. -/
def Obligations.GateLists : Prop :=
  (∀ r q (v : Nat) s, q < 32 → v < 2 ^ 32 → gateArmed s q = false → bit (rd s (K.gateAddr q)) 15 = false →
    heldByOther s (Grp.gate q) r.ch = false → Admitted s r (K.gateData q) true → Runs (.gateDataWrite r q v) s (fun t => Answers t [] ∧
      tget 0 (gateAt t q).words (rd s (K.gateAddr q) % 2048) = (if rd s (K.gateAddr q) % 2 = 0 then v % 256 else v) ∧
      (gateAt t q).active = (gateAt s q).active ∧ (∀ p, p ≠ q → gateAt t p = gateAt s p) ∧
      rd t (K.gateAddr q) = (rd s (K.gateAddr q) + 1) % 2048 ∧ Frame [K.gateAddr q] [.chans, .staging, .datapath] s t)) ∧
  (∀ r q s, q < 32 → gateArmed s q = false → heldByOther s (Grp.gate q) r.ch = false →
    gateListOk (gateStandby s q) (rd s (K.gateCycle q)) = false → Admitted s r (K.gateArm q) true → Runs (.gateArm r q) s (fun t =>
      t.reply.code = .unsupportedValue ∧ rdField t (K.gateStatus q) 7 4 = 3 ∧ Frame [K.gateStatus q] [.chans] s t)) ∧
  (∀ r q s, q < 32 → gateArmed s q = false → heldByOther s (Grp.gate q) r.ch = false →
    gateListOk (gateStandby s q) (rd s (K.gateCycle q)) = true → tbValid s (rdField s (K.gateCtrl q) 1 0) = false →
    Admitted s r (K.gateArm q) true → Runs (.gateArm r q) s (fun t =>
      t.reply.code = .wrongState ∧ rdField t (K.gateStatus q) 7 4 = 5 ∧ Frame [K.gateStatus q] [.chans] s t)) ∧
  (∀ r q n start s, q < 32 → gateArmed s q = false → heldByOther s (Grp.gate q) r.ch = false →
    gateListOk (gateStandby s q) (rd s (K.gateCycle q)) = true → rdField s (K.gateCtrl q) 1 0 = n → tbValid s n = true →
    tickValid s = true → (rdBit s (K.gateCtrl q) 4 = true → start = baseUnits (rd s (K.gateBase q))) →
    gateStart s q n (baseUnits (rd s (K.gateBase q))) (rd s (K.gateCycle q) * nsU) 32
      ((tbNow s n + 20000 * nsU - baseUnits (rd s (K.gateBase q)) + rd s (K.gateCycle q) * nsU - 1) / (rd s (K.gateCycle q) * nsU)) = start →
    tickOf s (gateSwapTime s q n start) - tickNo s ≤ 2 ^ 31 → Admitted s r (K.gateArm q) true → Runs (.gateArm r q) s (fun t =>
      Answers t [] ∧ gateArmed t q = true ∧ rdField t (K.gateStatus q) 7 4 = 1 ∧ rd t (K.gateStart q) = unitsBase start ∧
      rd t (K.gateSwapTick q) = tickOf s (gateSwapTime s q n start) ∧ (gateAt t q).active = (gateAt s q).active ∧
      (gateAt t q).armed = some ⟨gateStandby s q, rd s (K.gateCycle q), n, rd s (K.gateBase q), rdBit s (K.gateCtrl q) 4, start⟩ ∧
      Frame [K.gateStatus q, K.gateStart q, K.gateSwapTick q] [.chans, .staging, .datapath] s t)) ∧
  (∀ r q s, q < 32 → gateArmed s q = true → heldByOther s (Grp.gate q) r.ch = false → tickNo s + 1 < rd s (K.gateSwapTick q) →
    Admitted s r (K.gateArm q) true → Runs (.gateDisarm r q) s (fun t => Answers t [] ∧ gateArmed t q = false ∧
      (gateAt t q).armed = none ∧ rd t (K.gateSwapTick q) = none64 ∧ (gateAt t q).active = (gateAt s q).active ∧
      rd t (K.gateStart q) = (match (gateAt s q).active with | some g => unitsBase g.start | none => 0) ∧
      Frame [K.gateStatus q, K.gateStart q, K.gateSwapTick q] [.chans, .staging, .datapath] s t)) ∧
  (∀ q g s, q < 32 → (gateAt s q).active = some g → Runs (.gateEvent q) s (fun t =>
    rdField t (K.gateStatus q) 15 8 = gatesNow s q g % 2 ^ 8 ∧
    rdField t (K.gateStatus q) 26 16 = gateEntry g (tbPlus s g.tb (gateDelay s q)) % 2 ^ 11 ∧
    Frame [K.gateStatus q] [] s t)) ∧
  (∀ r q s, q < 32 → gateArmed s q = false → heldByOther s (Grp.gate q) r.ch = false → Admitted s r (K.gateArm q) true →
    Runs (.gateDisarm r q) s (fun t => Answers t [] ∧ gateArmed t q = false ∧ Frame [] [.chans, .staging] s t))
/-- A port that is not up receives no frame; a malformed frame that cannot be classified is counted, under its reason, and dropped with its cells freed;
a good frame is counted and holds its cells, and with a bypass result, or a secure one whose channel can be used, waits for admission, or on a deterministic port for its
announcement; a secure result without a usable channel is counted in SC_MISS and dropped, and one that says drop is dropped; a frame of the slow path goes on
the same way when its parser is done, an inbound one to its port's frames. A lookup that meets table words of bad parity gives no
result, counts each in TABLE_PARITY and raises TABLE_PARITY_ERR. -/
def Obligations.HostFrames : Prop :=
  (∀ q bytes ok par ecc s, rxUp s q .host = false → Runs (.hostFrameRx q bytes ok par ecc) s (fun t => t.reply = s.reply ∧ Frame [] [] s t)) ∧
  (∀ q bytes b r par ecc s, q < 32 → isPort s q = true → rxUp s q .host = true → bytes.map (· % 256) = b →
    malformed b true 10240 (parseFast b) = some r → r < 3 → Runs (.hostFrameRx q bytes true par ecc) s (fun t =>
      Counts s t (K.outHostFrames q) 1 ∧ Counts s t (K.outHostOctets q) (b.length + 4) ∧ Counts s t (K.malfCount (q / 8) r) 1 ∧
      Counts s t (K.outDropped q) 1 ∧ rd t (K.bufUsed (q / 8)) = rd s (K.bufUsed (q / 8)) ∧
      Frame [K.outHostFrames q, K.outHostOctets q, K.malfCount (q / 8) r, K.outDropped q, K.bufUsed (q / 8), K.bufHigh (q / 8)] [.tables] s t)) ∧
  (∀ q bytes b p sl cut res ptp par ecc s s1 s2 s3, isPort s q = true → rxUp s q .host = true → bytes.map (· % 256) = b →
    malformed b true 10240 (parseFast b) = none →
    s1 = cellsTake (inc (inc (spoil s par) (K.outHostFrames q) 1) (K.outHostOctets q) (b.length + 4)) (q / 8) (cellsOf b.length) →
    frontFast s1 (q / 8) (detEn s1 q) b (parseFast b) = .go p sl cut → classify s1 (q / 8) false q b p sl cut = (s2, some res) →
    s3 = (if resAction res = Act.secure then lookupHits s2 (resSc res) (scAt s2 (resSc res)).cur ecc else s2) →
    (resAction res = Act.bypass ∨ resAction res = Act.secure ∧ scOut s3 (resSc res) = true) →
    ptp = (if ptpMode s3 q = 0 then none else (ptpFind b p).map (·.1)) → Runs (.hostFrameRx q bytes true par ecc) s (fun t =>
      outQ t q = outQ s3 q ++
        [⟨q, b, res, p.tags.length, if detEn s1 q then 3 else 0, 0, cellsOf b.length, s1.tick.clock,
          if detEn s1 q then s1.tick.clock + 74 else Nat.max (s1.tick.clock + 72) s3.tick.clock, 0, ptp,
          ptp.bind (fun o => ptpBase s3 (byteAt b (o + 4))), tbsNow s1⟩] ∧
      Frame [] [.datapath] s3 t)) ∧
  (∀ q bytes b p sl cut res par ecc s s1 s2 s3, q < 32 → isPort s q = true → rxUp s q .host = true → bytes.map (· % 256) = b →
    malformed b true 10240 (parseFast b) = none →
    s1 = cellsTake (inc (inc (spoil s par) (K.outHostFrames q) 1) (K.outHostOctets q) (b.length + 4)) (q / 8) (cellsOf b.length) →
    frontFast s1 (q / 8) (detEn s1 q) b (parseFast b) = .go p sl cut → classify s1 (q / 8) false q b p sl cut = (s2, some res) →
    resAction res = Act.secure → s3 = lookupHits s2 (resSc res) (scAt s2 (resSc res)).cur ecc → scOut s3 (resSc res) = false →
    Runs (.hostFrameRx q bytes true par ecc) s (fun t =>
      Counts s3 t (K.scMiss (q / 8)) 1 ∧ Counts s3 t (K.outDropped q) 1 ∧
      Frame [K.scMiss (q / 8), K.outDropped q, K.bufUsed (q / 8)] [] s3 t)) ∧
  (∀ q bytes b p sl cut res par ecc s s1 s2, q < 32 → isPort s q = true → rxUp s q .host = true → bytes.map (· % 256) = b →
    malformed b true 10240 (parseFast b) = none →
    s1 = cellsTake (inc (inc (spoil s par) (K.outHostFrames q) 1) (K.outHostOctets q) (b.length + 4)) (q / 8) (cellsOf b.length) →
    frontFast s1 (q / 8) (detEn s1 q) b (parseFast b) = .go p sl cut → classify s1 (q / 8) false q b p sl cut = (s2, some res) →
    resAction res = Act.drop → Runs (.hostFrameRx q bytes true par ecc) s (fun t =>
      Counts s2 t (K.outDropped q) 1 ∧ Frame [K.outDropped q, K.bufUsed (q / 8)] [] s2 t)) ∧
  (∀ j f l res ptp s s1 s2 s3, slowQ s j = f :: l → f.inb = false → hdrReason f.bytes (parseSlow f.bytes) = none →
    s1 = perfAdd (inc (setSlowQ s j l) (K.slowFrames j) 1) (192 + j) 1 →
    classify s1 (f.q / 8) false f.q f.bytes (parseSlow f.bytes) (parseSlow f.bytes).overl false = (s2, some res) →
    s3 = (if resAction res = Act.secure then lookupHits s2 (resSc res) (scAt s2 (resSc res)).cur f.ecc else s2) →
    (resAction res = Act.bypass ∨ resAction res = Act.secure ∧ scOut s3 (resSc res) = true) →
    ptp = (if ptpMode s3 f.q = 0 then none else (ptpFind f.bytes (parseSlow f.bytes)).map (·.1)) → Runs (.slowPathDone j) s (fun t =>
      outQ t f.q = outQ s3 f.q ++ [⟨f.q, f.bytes, res, (parseSlow f.bytes).tags.length, 0, 0,
        cellsOf f.bytes.length, f.clk, Nat.max (f.clk + 72) s3.tick.clock, 0, ptp,
        ptp.bind (fun o => ptpBase s3 (byteAt f.bytes (o + 4))), f.ing⟩] ∧ Frame [] [.datapath] s3 t)) ∧
  (∀ j f l res s s1 s2, slowQ s j = f :: l → f.inb = true → hdrReason f.bytes (parseSlow f.bytes) = none →
    s1 = perfAdd (inc (setSlowQ s j l) (K.slowFrames j) 1) (192 + j) 1 → inPasses s1 f.q = true →
    classify s1 (ibOf f.q) true f.q f.bytes (parseSlow f.bytes) (parseSlow f.bytes).overl false = (s2, some res) →
    resAction res = Act.bypass → Runs (.slowPathDone j) s (fun t =>
      inQ t f.q = inQ s2 f.q ++ [inFrm0 s2 f.q f.bytes (parseSlow f.bytes) res
        ⟨s1.tick.clock - 64, false, f.fcsOk, f.overl, f.ing, f.ecc⟩] ∧ Frame [] [.datapath] s2 t)) ∧
  (∀ s j inb q b p sl cut l, j < 8 → parityFound s j inb p (macKey p (fieldBE b 0 6)) = l → l ≠ [] →
    (classify s j inb q b p sl cut).2 = none ∧ Counts s (classify s j inb q b p sl cut).1 (K.tableParity j) l.length ∧
    Pending (classify s j inb q b p sl cut).1 Ev.tableParityErr)

/-- The oldest frame that awaits admission enters the queue its flow and class name where flow, port, cells and limits allow it, and the queue's
depth counts its cells; without a valid flow, or for a queue of another port, it is counted and dropped; beyond a limit it is a tail drop,
the first of which since the counter was read raises QUEUE_DROP. The oldest queued frame then becomes eligible at its clock,
but where its host tags are fewer than its channel keeps in clear: it is counted in TAG_SHORT and dropped. -/
def Obligations.Admission : Prop :=
  (∀ q f rest x s, takeStage (outQ s q) 0 = some (f, rest) → bit (flowAt s (q / 8) (resFlow f.res)) 31 = true →
    queAt s (q / 8) (flowAt s (q / 8) (resFlow f.res) % 4096 + resTc f.res) = x → x.port = q → x.depth + f.cells ≤ x.maxCells →
    rd s (K.bufUsed (q / 8)) ≤ rd s (K.bufLimit (q / 8)) → bufAll s ≤ 1048576 → Runs (.queueAdmission q) s (fun t =>
      (queAt t (q / 8) (flowAt s (q / 8) (resFlow f.res) % 4096 + resTc f.res)).depth = x.depth + f.cells ∧
      outQ t q = mapStage (outQ s q) 0 (fun g =>
        { g with stage := 1, qi := flowAt s (q / 8) (resFlow f.res) % 4096 + resTc f.res, adm := s.tick.clock }) ∧ Frame [] [.datapath] s t)) ∧
  (∀ q f rest s, q < 32 → takeStage (outQ s q) 0 = some (f, rest) → bit (flowAt s (q / 8) (resFlow f.res)) 31 = false →
    Runs (.queueAdmission q) s (fun t => outQ t q = rest ∧ Counts s t (K.flowMiss (q / 8)) 1 ∧ Counts s t (K.outDropped q) 1 ∧
      Frame [K.flowMiss (q / 8), K.outDropped q, K.bufUsed (q / 8)] [.datapath] s t)) ∧
  (∀ q f rest x s, q < 32 → takeStage (outQ s q) 0 = some (f, rest) → bit (flowAt s (q / 8) (resFlow f.res)) 31 = true →
    queAt s (q / 8) (flowAt s (q / 8) (resFlow f.res) % 4096 + resTc f.res) = x → x.port = q → x.maxCells < x.depth + f.cells →
    tget 0 s.fired (K.tailDrops (q / 8)) = 0 → Runs (.queueAdmission q) s (fun t => outQ t q = rest ∧
      Counts s t (K.tailDrops (q / 8)) 1 ∧ Counts s t (K.outDropped q) 1 ∧ Pending t Ev.queueDrop ∧
      EvFrame [K.tailDrops (q / 8), K.outDropped q, K.bufUsed (q / 8)] [.datapath] s t)) ∧
  (∀ q f rest s, takeStage (outQ s q) 1 = some (f, rest) → tagShort s f = false → Runs (.frameEligible q) s (fun t =>
    outQ t q = mapStage (outQ s q) 1 (fun f => { f with stage := 2 }) ∧ t.tick.clock = Nat.max s.tick.clock f.elig ∧
    Frame [] [.clock, .datapath] s t)) ∧
  (∀ q f rest s, q < 32 → takeStage (outQ s q) 1 = some (f, rest) → f.q = q → tagShort s f = true → Runs (.frameEligible q) s (fun t =>
    outQ t q = rest ∧ Counts s t (K.tagShort q) 1 ∧ Counts s t (K.outDropped q) 1 ∧
    Frame [K.tagShort q, K.outDropped q, K.bufUsed (q / 8)] [.clock, .datapath] s t))

/-- A port that may announce, with one ready bypass frame whose queue the scheduler's turn covers, sends it on the line; a deterministic port announces its oldest frame,
counted in DET_AM_DEFER where its start falls in an alignment-marker group; so does whatever frame the turn of the highest open class with a ready queue
gives, and whatever deterministic frame its channel grants a packet number.
A secured frame takes the next packet number of its local ACTIVE SA within its reservation and is sealed under its slot's key; at the last
packet number the SA becomes EXHAUSTED, is counted and raises PN_EXHAUSTED, and its channel's frames are counted so until another SA is committed; an SA that is not ACTIVE sends nothing. -/
def Obligations.Announcing : Prop :=
  (∀ q f s s1, q < 32 → f.q = q → mayAnnounce s q = true → detEn s q = false → s1 = passTo s (annClock s q) → 0 ≤ portBucket s1 q →
    passedOver s1 q = false → (gateAt s q).active = none →
    outQ s q = [f] → f.stage = 2 → f.ptp = none → resAction f.res = Act.bypass → readyHeads s1 q (f.qi % 8) = [f] →
    (wlen s f : Int) ≤ (queAt s (q / 8) f.qi).deficit + (queAt s (q / 8) f.qi).quantum → Runs (.schedulerAnnounce q) s (fun t =>
      outQ t q = [] ∧ t.out = .frame .line q f.bytes true :: s.out)) ∧
  (∀ q am f rest s, q < 32 → f.q = q → mayAnnounce s q = true → detEn s q = true → takeStage (outQ s q) 3 = some (f, rest) → f.ptp = none →
    resAction f.res = Act.bypass → annFree s q ≤ f.elig → Runs (.detAnnounce q am) s (fun t =>
      outQ t q = rest ∧ t.tick.clock = Nat.max s.tick.clock f.elig ∧ t.out = .frame .line q f.bytes true :: s.out ∧ (am = true → Counts s t (K.detAmDefer q) 1) ∧
      (am = false → rd t (K.detAmDefer q) = rd s (K.detAmDefer q)))) ∧
  (∀ q tc f line h s s1 s2 s3 s4, q < 32 → f.q = q → tc < 8 → mayAnnounce s q = true → detEn s q = false → s1 = passTo s (annClock s q) → 0 ≤ portBucket s1 q →
    passedOver s1 q = false → s2 = oversize (gateRefresh s1 q) q →
    (∀ c, c < 8 → tc < c → openNow s2 q c = true → readyHeads s2 q c = []) → openNow s2 q tc = true →
    drrTurn s2 q tc (readyHeads s2 q tc) = some (s3, f) → readyHeads s2 q tc ≠ [] →
    grant (setOutQ s3 q ((outQ s3 q).erase f)) f (ptpOut (setOutQ s3 q ((outQ s3 q).erase f)) f).2 = (s4, h, .sent line false) →
    Runs (.schedulerAnnounce q) s (fun t => outQ t q = (outQ s3 q).erase f ∧ t.out = .frame .line q line true :: s4.out)) ∧
  (∀ q am f rest line h s s1 s2 s3, q < 32 → f.q = q → mayAnnounce s q = true → takeStage (outQ s q) 3 = some (f, rest) →
    s1 = setOutQ (passTo s (Nat.max f.elig (annFree s q))) q rest → tagShort s1 f = false →
    s2 = (if am then inc (if f.elig < annFree s q then incFirst s1 (K.detLate q) Ev.detLate q 0 else s1) (K.detAmDefer q) 1
      else if f.elig < annFree s q then incFirst s1 (K.detLate q) Ev.detLate q 0 else s1) →
    grant s2 f (ptpOut s2 f).2 = (s3, h, .sent line false) → Runs (.detAnnounce q am) s (fun t =>
      outQ t q = rest ∧ t.out = .frame .line q line true :: s3.out)) ∧
  (∀ s q c h b, (scAt s c).exh = false → saLocal s (saAt s h) = true → (saAt s h).st = Sa.active → (saAt s h).pn ≠ pnEnd (scAt s c) →
    resvApplies s (saAt s h) = false → (slotAt s h).complete = true →
    (grantSa s q c h b).2 = .sent (protect (scAt s c) (saAt s h) (slotAt s h)
      (keepHash s q h (slotKey (slotAt s h) (suiteKey (scAt s c).suite))).2 (saAt s h).pn b) false ∧
    (saAt (grantSa s q c h b).1 h).pn = (saAt s h).pn + 1 ∧ (∀ g, g ≠ h → saAt (grantSa s q c h b).1 g = saAt s g) ∧
    EvFrame [] [.assoc, .datapath] s (grantSa s q c h b).1) ∧
  (∀ s q c h b, (scAt s c).exh = false → saLocal s (saAt s h) = true → (saAt s h).st = Sa.active → (saAt s h).pn = pnEnd (scAt s c) →
    (grantSa s q c h b).2 = .drop ∧ (saAt (grantSa s q c h b).1 h).st = Sa.exhausted ∧ (scAt (grantSa s q c h b).1 c).exh = true ∧
    Counts s (grantSa s q c h b).1 K.exhaustedDrops 1 ∧
    Pending (grantSa s q c h b).1 Ev.pnExhausted ∧ EvFrame [K.exhaustedDrops] [.assoc, .datapath] s (grantSa s q c h b).1) ∧
  (∀ s q c h b, (scAt s c).exh = true → saLocal s (saAt s h) = true → (grantSa s q c h b).2 = .drop ∧
    Counts s (grantSa s q c h b).1 K.exhaustedDrops 1 ∧ Frame [K.exhaustedDrops] [.assoc] s (grantSa s q c h b).1) ∧
  (∀ s q c h b, (scAt s c).exh = false → saLocal s (saAt s h) = true → (saAt s h).st ≠ Sa.active → (saAt s h).st ≠ Sa.exhausted →
    (grantSa s q c h b).2 = .drop ∧ Counts s (grantSa s q c h b).1 K.outNoSa 1 ∧ Frame [K.outNoSa] [] s (grantSa s q c h b).1)

/-- CIPHER_CTRL stores its defined bits; it refuses DET_EN together with VERIFY_SF, and DET_EN where another port of the slice pair has it, with the wrong-state
code; LAT_CLEAR restarts the minima and the maxima of its port. -/
def Obligations.CipherControls : Prop :=
  (∀ r q (v : Nat) s, q < 32 → v < 2 ^ 32 → bit v 0 = false → bit v 1 = false → Admitted s r (K.cipherCtrl q) true →
    Runs (.cipherCtrlWrite r q v) s (fun t => Answers t [] ∧ rd t (K.cipherCtrl q) = Nat.land v 0x33 ∧ detEn t q = false ∧
      Frame [K.cipherCtrl q] [.chans] s t)) ∧
  (∀ r q i (v : Nat) s, q < 32 → v < 2 ^ 32 → bit v 0 = true → detEn s q = false → i < 8 → 8 * (q / 8) + i ≠ q →
    detEn s (8 * (q / 8) + i) = true → isPort s (8 * (q / 8) + i) = true → Admitted s r (K.cipherCtrl q) true →
    Runs (.cipherCtrlWrite r q v) s (fun t => t.reply.code = .wrongState ∧ Frame [] [.chans] s t)) ∧
  (∀ r q (v : Nat) s, v < 2 ^ 32 → bit v 0 = true → bit v 1 = true → Admitted s r (K.cipherCtrl q) true →
    Runs (.cipherCtrlWrite r q v) s (fun t => t.reply.code = .wrongState ∧ Frame [] [.chans] s t)) ∧
  (∀ r q s, q < 32 → Admitted s r (K.latClear q) true → Runs (.latClear r q) s (fun t => Answers t [] ∧
    rd t (K.latOutMin q) = 2 ^ 32 - 1 ∧ rd t (K.latOutMax q) = 0 ∧ rd t (K.latInMin q) = 2 ^ 32 - 1 ∧ rd t (K.latInMax q) = 0 ∧
    Frame [K.latOutMin q, K.latOutMax q, K.latInMin q, K.latInMax q] [.chans] s t))
/-- A port that is not up receives no frame, nor does a looped group one that its own transmitter did not send; where inbound frames do not pass, a frame is counted and dropped; a good frame with a bypass result joins
its port's frames, and so does a secured one whose SCI names a usable inbound channel, with what the predictor says of it. A predictor hit needs an entry that is settled on the frame's handle with the next number; anything else is a miss, which is
counted and leaves the entry learning that handle. -/
def Obligations.LineFrames : Prop :=
  (∀ q bytes ok par ecc s, rxUp s q .line = false → Runs (.lineFrameRx q bytes ok par ecc) s (fun t => t.reply = s.reply ∧ Frame [] [] s t)) ∧
  (∀ q bytes ok par ecc s, lineIn s q (bytes.map (· % 256)) ok = none → Runs (.lineFrameRx q bytes ok par ecc) s (fun t =>
    t.reply = s.reply ∧ Frame [] [] s t)) ∧
  (∀ q bytes b par ecc s s0 s1, q < 32 → isPort s q = true → rxUp s q .line = true → bytes.map (· % 256) = b → malformed b true 10272 (parseFast b) = none →
    lineIn s q b true = some s0 → s1 = perfAdd (inc (inc (spoil s0 par) (K.inLineFrames q) 1) (K.inLineOctets q) (b.length + 4)) (160 + q) (b.length + 4) → inPasses s1 q = false → Runs (.lineFrameRx q bytes true par ecc) s (fun t => Counts s t (K.inLineFrames q) 1 ∧
      Counts s t (K.inLineOctets q) (b.length + 4) ∧ Counts s t (K.inDropped q) 1 ∧
      Frame [K.inLineFrames q, K.inLineOctets q, K.inDropped q] [.perf, .tables, .datapath] s t)) ∧
  (∀ q bytes b p sl cut res par ecc s s0 s1 s2, isPort s q = true → rxUp s q .line = true → bytes.map (· % 256) = b →
    malformed b true 10272 (parseFast b) = none →
    lineIn s q b true = some s0 → s1 = perfAdd (inc (inc (spoil s0 par) (K.inLineFrames q) 1) (K.inLineOctets q) (b.length + 4)) (160 + q) (b.length + 4) → inPasses s1 q = true →
    frontFast s1 (ibOf q) (detEn s1 q) b (parseFast b) = .go p sl cut → classify s1 (ibOf q) true q b p sl cut = (s2, some res) →
    resAction res = Act.bypass → Runs (.lineFrameRx q bytes true par ecc) s (fun t =>
      inQ t q = inQ s2 q ++ [inFrm0 s2 q b p res ⟨s1.tick.clock, detEn s1 q, true, decide (10272 < b.length + 4), tbsNow s1, ecc⟩] ∧ Frame [] [.datapath] s2 t)) ∧
  (∀ q bytes b p sl cut res par ecc sci idx x s s0 s1 s2 s3 s4, isPort s q = true → rxUp s q .line = true → bytes.map (· % 256) = b →
    malformed b true 10272 (parseFast b) = none →
    lineIn s q b true = some s0 → s1 = perfAdd (inc (inc (spoil s0 par) (K.inLineFrames q) 1) (K.inLineOctets q) (b.length + 4)) (160 + q) (b.length + 4) → inPasses s1 q = true →
    frontFast s1 (ibOf q) (detEn s1 q) b (parseFast b) = .go p sl cut → classify s1 (ibOf q) true q b p sl cut = (s2, some res) →
    resAction res = Act.secure → p.sectag = true → sciOf s2 q b p = (sci, idx) → s3 = lookupHits s2 idx ((scAt s2 idx).handle (p.tci % 4)) ecc →
    (scAt s3 idx).valid = true → (scAt s3 idx).inbound = true → (scAt s3 idx).sci = sci →
    predict s3 { inFrm0 s2 q b p res ⟨s1.tick.clock, detEn s1 q, true, decide (10272 < b.length + 4), tbsNow s1, ecc⟩ with sc := some idx, ent := scAt s3 idx } ((scAt s3 idx).handle (p.tci % 4)) = (s4, x) →
    Runs (.lineFrameRx q bytes true par ecc) s (fun t => inQ t q = inQ s4 q ++ [x] ∧ Frame [] [.datapath] s4 t)) ∧
  (∀ s f h s0, s0 = settleDue s f.q f.clk → (predAt s0 f.q).st = 2 → (predAt s0 f.q).handle = h →
    f.pnLo = ((predAt s0 f.q).pn + 1) % 2 ^ 32 → (predict s f (some h)).2.hit = f.hit ∧
    (predict s f (some h)).2.pn = (predAt s0 f.q).pn + 1 ∧ Frame [] [.assoc] s (predict s f (some h)).1) ∧
  (∀ s f h s0, f.q < 32 → s0 = settleDue s f.q f.clk →
    ¬ ((predAt s0 f.q).st = 2 ∧ (predAt s0 f.q).handle = h ∧ f.pnLo = ((predAt s0 f.q).pn + 1) % 2 ^ 32) →
    (predict s f (some h)).2.hit = false ∧ (predict s f (some h)).2.held = true ∧ (predAt (predict s f (some h)).1 f.q).st = 1 ∧
    (predAt (predict s f (some h)).1 f.q).handle = h ∧ Counts s (predict s f (some h)).1 (K.predMiss f.q) 1 ∧
    Frame [K.predMiss f.q] [.assoc, .perf] s (predict s f (some h)).1)

/-- At its checks a bypass frame enters its slice, and so does a secured one that passes them, with its packet number recovered; a secured frame whose AN names no SA is counted and dropped, and so is a missed one whose SA request was not granted.
At the tail a good bypass frame that its policer passes leaves for the host padded to 60 bytes; a secured frame that fails its
verification on a validating channel is recorded in VERIFY_LAST with its handle and killed; one that verifies leaves for the host in plaintext and raises NEXT_PN. -/
def Obligations.InboundVerdicts : Prop :=
  (∀ q g am f s, f.q = q → (inQ s q).find? (fun f => !f.checked) = some f → f.sc = none → f.sf = false → (f.det && am) = false →
    Runs (.inboundChecks q g am) s (fun t => inQ t q = mapUnchecked (inQ s q) (fun _ => [{ f with checked := true, dom := tbCtrls s }]) ∧
    t.tick.clock = Nat.max s.tick.clock (f.clk + 64) ∧ Frame [K.sliceFrames (ibOf q), K.sliceHeld (ibOf q)] [.clock, .datapath, .perf] s t)) ∧
  (∀ q g f s, q < 32 → f.q = q → (inQ s q).find? (fun f => !f.checked) = some f → f.sc = none → f.sf = false → f.det = true →
    Runs (.inboundChecks q g true) s (fun t =>
    inQ t q = mapUnchecked (inQ s q) (fun _ => [{ f with checked := true, wait := amWait (passTo s (f.clk + 64)) q, dom := tbCtrls s }]) ∧ Counts s t (K.detAmDefer q) 1 ∧
    Frame [K.sliceFrames (ibOf q), K.sliceHeld (ibOf q), K.detAmDefer q] [.clock, .datapath, .perf] s t)) ∧
  (∀ q g am f sc s, q < 32 → f.q = q → (inQ s q).find? (fun f => !f.checked) = some f → f.sc = some sc → f.handle = none →
    f.tags = f.ent.tagsClear → Runs (.inboundChecks q g am) s (fun t =>
      inQ t q = mapUnchecked (inQ s q) (fun _ => []) ∧ Counts s t K.inNotUsingSa 1 ∧ Counts s t (K.inDropped q) 1 ∧
      Frame [K.inNotUsingSa, K.inDropped q] [.clock, .datapath] s t)) ∧
  (∀ q g am f sc h pn next window s s1, q < 32 → f.q = q → (inQ s q).find? (fun f => !f.checked) = some f → f.sc = some sc → f.handle = some h →
    (f.hit = true ∨ g = true) → s1 = passTo s (f.clk + 64) →
    (if f.hit && (predAt s q).st != 0 && (predAt s q).handle == h then ((predAt s q).nextPn, (predAt s q).window) else ((saAt s h).pn, f.ent.window)) = (next, window) →
    pn = recoverPn f.ent.xpn next window f.pnLo → (f.hit = true → f.ent.xpn = true → pn = f.pn) → f.tags = f.ent.tagsClear →
    movedFrom s1 q sc (saAt s h) = none → f.acc = true → saLocal s (saAt s h) = true → (slotAt s h).complete = true →
    pn ≠ (if f.ent.xpn then 2 ^ 64 - 1 else 2 ^ 32 - 1) → (f.ent.replay = true → Nat.max (next - window) 1 ≤ pn) →
    Runs (.inboundChecks q g am) s (fun t => (∃ x ∈ inQ t q, x.checked = true ∧ x.pn = pn ∧ x.handle = some h ∧ x.bytes = f.bytes) ∧
      Counts s t (K.sliceFrames (ibOf q)) 1 ∧ t.tick.clock = s1.tick.clock ∧
      Frame [K.sliceFrames (ibOf q), K.sliceHeld (ibOf q), K.predHit q, K.detAmDefer q, K.vbufHigh (ibOf q)] [.clock, .assoc, .datapath, .perf] s t)) ∧
  (∀ q am f sc h s, q < 32 → f.q = q → (inQ s q).find? (fun f => !f.checked) = some f → f.sc = some sc → f.handle = some h → f.hit = false →
    Runs (.inboundChecks q false am) s (fun t => inQ t q = mapUnchecked (inQ s q) (fun _ => []) ∧ Counts s t K.saBankLate 1 ∧
      Counts s t (K.inDropped q) 1 ∧ Frame [K.saBankLate, K.inDropped q] [.clock, .datapath] s t)) ∧
  (∀ q f rest s, q < 32 → f.q = q → inQ s q = f :: rest → f.checked = true → f.sc = none → f.fcsOk = true → f.overl = false → ptpMode s q = 0 →
    (polAt s (q / 8) f.flow).cir = 0 → detEn s q = false → Runs (.verifyTail q) s (fun t => inQ t q = rest ∧
      t.out = .frame .host q (f.bytes ++ List.replicate (60 - f.bytes.length) 0) true :: s.out ∧ Counts s t (K.inHostFrames q) 1 ∧
      Counts s t (K.inBypassed q) 1 ∧ Frame [K.inHostFrames q, K.inHostOctets q, K.inBypassed q] [.clock, .datapath, .perf, .out] s t)) ∧
  (∀ q f rest sc h pt s, q < 32 → f.q = q → inQ s q = f :: rest → f.checked = true → f.sc = some sc → f.handle = some h → f.fcsOk = true →
    f.overl = false → f.sf = false → ptpMode s q = 0 → unprotect f = (pt, false) → f.ent.validate = true →
    (polAt s (q / 8) f.flow).cir = 0 → detEn s q = false → Runs (.verifyTail q) s (fun t => inQ t q = rest ∧
      t.out = .frame .host q (pt ++ List.replicate (60 - pt.length) 0) false :: s.out ∧ Counts s t (K.verifyKilled q) 1 ∧
      (statAt t h).fails = ((statAt s h).fails + 1) % 2 ^ 32 ∧ rd t (K.verifyLast q) = 2 ^ 31 + h ∧
      EvFrame [K.verifyLast q, K.verifyKilled q, K.inKilled q] [.clock, .assoc, .datapath, .out] s t)) ∧
  (∀ q f rest sc h pt s, q < 32 → f.q = q → inQ s q = f :: rest → f.checked = true → f.sc = some sc → f.handle = some h → f.fcsOk = true →
    f.overl = false → ptpMode s q = 0 → unprotect f = (pt, true) → (polAt s (q / 8) f.flow).cir = 0 → detEn s q = false →
    Runs (.verifyTail q) s (fun t => inQ t q = rest ∧
      t.out = .frame .host q (pt ++ List.replicate (60 - pt.length) 0) true :: s.out ∧ Counts s t (K.inVerified q) 1 ∧
      Counts s t (K.inHostFrames q) 1 ∧ (saAt t h).pn = Nat.max (saAt s h).pn (f.pn + 1) ∧
      EvFrame [K.inHostFrames q, K.inHostOctets q, K.inVerified q, K.learnFifoDrops (q / 8)]
        [.clock, .assoc, .datapath, .tables, .perf, .out] s t))
/-- TB_SET loads the time and makes the time base VALID, TB_STEP moves it by its picoseconds; either raises TB_STEPPED and leaves the other time bases as they were;
nanoseconds of 10^9 and more are refused. TB_INVALIDATE ends VALID, frees the servo and, where PPS_OUT follows that valid time base, raises PPS_STOPPED. TB_NOW and the capture
give one instant. -/
def Obligations.TimeBaseSteps : Prop :=
  (∀ r n (v : Nat) s, n < 4 → v < 2 ^ 96 → v / 2 ^ 16 % 2 ^ 32 < 1000000000 → Admitted s r (K.tbSet n) true → Runs (.tbSet r n v) s (fun t =>
    Answers t [] ∧ tbValid t n = true ∧ tbNow t n = ofTime96 v ∧ Pending t Ev.tbStepped ∧ (∀ m, m ≠ n → tbNow t m = tbNow s m) ∧
    Keeps (eventParts ++ [.clock, .timeBases, .lines]) s t)) ∧
  (∀ r n (v : Nat) s, n < 4 → v < 2 ^ 96 → 1000000000 ≤ v / 2 ^ 16 % 2 ^ 32 → Admitted s r (K.tbSet n) true → Runs (.tbSet r n v) s (fun t =>
    t.reply.code = .unsupportedValue ∧ Frame [] [.chans] s t)) ∧
  (∀ r n (ps : Int) s, n < 4 → -(2 ^ 63) ≤ ps → ps < 2 ^ 63 → Admitted s r (K.tbStep n) true → Runs (.tbStep r n ps) s (fun t =>
    Answers t [] ∧ tbNow t n = tbMoved (tbNow s n) ps ∧ Pending t Ev.tbStepped ∧ (∀ m, m ≠ n → tbNow t m = tbNow s m) ∧
    Keeps (eventParts ++ [.clock, .timeBases, .lines]) s t)) ∧
  (∀ r n s, n < 4 → (∀ m, m < 4 → m ≠ n → rdBit s (K.tbCtrl m) 8 = true → rdField s (K.tbCtrl m) 23 16 ≠ rdField s (K.tbCtrl n) 23 16) →
    Admitted s r (K.tbCtrl n) true → Runs (.tbInvalidate r n) s (fun t => Answers t [] ∧ tbValid t n = false ∧ servo t n = Servo.free ∧
      (tbValid s n = true → rd s K.ppsTb = n → Pending t Ev.ppsStopped) ∧
      EvFrame [K.tbCtrl n, K.tbStatus n, K.tickStatus] [.timeBases, .clock] s t)) ∧
  (∀ r n s, Admitted s r (K.tbNow n) false → Runs (.tbNowRead r n) s (fun t =>
    Answers t (encVal .time96 (toTime96 (tbNow s n))) ∧ Frame [] [.chans] s t)) ∧
  (∀ r s, Admitted s r K.captureCmd true → Runs (.captureCmd r) s (fun t => Answers t [] ∧
    (∀ i, i < 4 → rd t (K.captureTb i) = toTime96 (tbNow s i)) ∧ rd t K.captureTick = tickNo s ∧
    Frame (K.captureTick :: (List.range 4).map K.captureTb) [.chans] s t))

/-- An offset written to a free servo steps the time base by it and leaves it ACQUIRING and VALID; one below the step threshold keeps the frequency and the integrator
within FREQ_LIMIT; one above it steps the time base where STEP_EN is set; all are counted. One that meets a TB_SET or TB_STEP of another channel in its core clock is discarded, counted and changes nothing else. FORCE_HOLDOVER and UPDATE_TIMEOUT ms without an update, no less, take an ACQUIRING or LOCKED servo to HOLDOVER at its integrator, raising SERVO_HOLDOVER,
and leave a FREE one alone. -/
def Obligations.ServoLoop : Prop :=
  (∀ r n (o : Int) s, n < 4 → -(2 ^ 63) ≤ o → o < 2 ^ 63 → servo s n = Servo.free → Admitted s r (K.servoOffset n) true → tbSetNow s r n = false →
    Runs (.servoOffset r n o) s (fun t => Answers t [] ∧ tbNow t n = tbMoved (tbNow s n) (-o) ∧ tbValid t n = true ∧
      servo t n = Servo.acquiring ∧ rd t (K.servoOffset n) = ofSigned 64 o ∧ Counts s t (K.servoUpdates n) 1)) ∧
  (∀ r n (o : Int) s, n < 4 → -(2 ^ 63) ≤ o → o < 2 ^ 63 → servo s n ≠ Servo.free → o.natAbs ≤ rd s (K.stepThreshold n) →
    Admitted s r (K.servoOffset n) true → tbSetNow s r n = false → Runs (.servoOffset r n o) s (fun t => Answers t [] ∧
      (tb t n).freq.natAbs ≤ rd s (K.freqLimit n) * 1024 ∧ (tb t n).integ.natAbs ≤ rd s (K.freqLimit n) * 1024 ∧
      Counts s t (K.servoUpdates n) 1 ∧ EvFrame [K.servoOffset n, K.servoUpdates n, K.freq n, K.tbStatus n, K.tickStatus] [.timeBases] s t)) ∧
  (∀ r n (o : Int) s, n < 4 → -(2 ^ 63) ≤ o → o < 2 ^ 63 → rdBit s (K.tbCtrl n) 0 = true → rd s (K.stepThreshold n) < o.natAbs →
    Admitted s r (K.servoOffset n) true → tbSetNow s r n = false → Runs (.servoOffset r n o) s (fun t => Answers t [] ∧ tbNow t n = tbMoved (tbNow s n) (-o) ∧
      tbValid t n = true ∧ servo t n = Servo.acquiring ∧ Counts s t (K.servoUpdates n) 1 ∧ Pending t Ev.tbStepped)) ∧
  (∀ r n (o : Int) s, n < 4 → -(2 ^ 63) ≤ o → o < 2 ^ 63 → tbSetNow s r n = true → Admitted s r (K.servoOffset n) true →
    Runs (.servoOffset r n o) s (fun t => Answers t [] ∧ Counts s t (K.servoDiscarded n) 1 ∧ Frame [K.servoDiscarded n] [.chans] s t)) ∧
  (∀ r n s, n < 4 → (servo s n = Servo.acquiring ∨ servo s n = Servo.locked) → Admitted s r (K.servoCtrl n) true →
    Runs (.forceHoldover r n) s (fun t => Answers t [] ∧ servo t n = Servo.holdover ∧ (tb t n).freq = (tb s n).integ ∧
      Pending t Ev.servoHoldover ∧ EvFrame [K.freq n, K.tbStatus n, K.tickStatus] [.timeBases] s t)) ∧
  (∀ r n s, servo s n = Servo.free → Admitted s r (K.servoCtrl n) true → Runs (.forceHoldover r n) s (fun t => Answers t [] ∧
    Frame [] [.chans] s t)) ∧
  (∀ n s, n < 4 → servoStale s n = false → Runs (.servoUpdateTimeout n) s (fun t => Frame [] [] s t)) ∧
  (∀ n s, n < 4 → (servo s n = Servo.acquiring ∨ servo s n = Servo.locked) → servoStale s n = true → Runs (.servoUpdateTimeout n) s (fun t =>
    servo t n = Servo.holdover ∧ (tb t n).freq = (tb s n).integ ∧ Pending t Ev.servoHoldover ∧
    EvFrame [K.freq n, K.tbStatus n, K.tickStatus] [.timeBases] s t))

/-- TMR_CTRL arms timers; outside SIGNED it fires none, under SIGNED those whose target has passed, with LATE; a timer fires no sooner than its target; one that fires disarms itself and raises TB_TIMER, or with OUT drives SYNC_OUT where it is routed there.
PPS_OUT pulses once for each second its time base passes, for PPS_WIDTH, only while that is VALID, and SYNC_OUT with it where it carries the seconds. A read of TX_TS_DATA gives the oldest entry word by word, an empty FIFO 0, and frees it with word 3. -/
def Obligations.TimersAndStamps : Prop :=
  (∀ r n (v : Nat) s, n < 4 → v < 2 ^ 32 → rdBit s (K.tbCtrl n) 4 = false → Admitted s r (K.tmrCtrl n) true → Runs (.tmrCtrlWrite r n v) s (fun t =>
    Answers t [] ∧ rd t (K.tmrCtrl n) = v % 256 + Nat.land (rdField s (K.tmrCtrl n) 11 8) (15 - v % 16) * 256 ∧
    Frame [K.tmrCtrl n] [.chans, .timeBases] s t)) ∧
  (∀ n i s, n < 4 → i < 4 → rdBit s (K.tmrCtrl n) i = true → (tb s n).stopped = false → timerDue s n i = true → rdBit s (K.tmrCtrl n) (4 + i) = false →
    Runs (.tbTimerFire n i) s (fun t => rdBit t (K.tmrCtrl n) i = false ∧ Pending t Ev.tbTimer ∧ EvFrame [K.tmrCtrl n] [] s t)) ∧
  (∀ n i s, n < 4 → i < 4 → rdBit s (K.tmrCtrl n) i = true → (tb s n).stopped = false → timerDue s n i = true → rdBit s (K.tmrCtrl n) (4 + i) = true →
    rdField s K.syncOutCtrl 1 0 = 3 → Runs (.tbTimerFire n i) s (fun t => rdBit t (K.tmrCtrl n) i = false ∧
      t.out = .syncOut :: s.out ∧ Frame [K.tmrCtrl n] [.out] s t)) ∧
  (∀ n i s, n < 4 → i < 4 → rdBit s (K.tmrCtrl n) i = true → (tb s n).stopped = false → timerDue s n i = true → rdBit s (K.tmrCtrl n) (4 + i) = true →
    rdField s K.syncOutCtrl 1 0 ≠ 3 → Runs (.tbTimerFire n i) s (fun t => rdBit t (K.tmrCtrl n) i = false ∧
      Frame [K.tmrCtrl n] [] s t)) ∧
  (∀ n i s, timerDue s n i = false → Runs (.tbTimerFire n i) s (fun t => Frame [] [] s t)) ∧
  (∀ r n (v : Nat) i s, n < 4 → v < 16 → i < 4 → bit v i = true → rdBit s (K.tbCtrl n) 4 = true → (tb s n).stopped = false →
    Admitted s r (K.tmrCtrl n) true → Runs (.tmrCtrlWrite r n v) s (fun t => Answers t [] ∧
      rdBit t (K.tmrCtrl n) i = !timerPast s n i ∧ rdBit t (K.tmrCtrl n) (8 + i) = timerPast s n i ∧
      (timerPast s n i = true → Pending t Ev.tbTimer) ∧ EvFrame [K.tmrCtrl n] [.timeBases] s t)) ∧
  (∀ s, tbValid s (rd s K.ppsTb) = true → s.tick.pps < ppsSecond s (rd s K.ppsTb) → rdField s K.syncOutCtrl 1 0 ≠ 1 → Runs .ppsPulse s (fun t =>
    t.out = .pps (rd s K.ppsTb) (rd s K.ppsWidth) :: s.out ∧ t.tick.pps = ppsSecond s (rd s K.ppsTb) ∧ Frame [] [.clock, .out] s t)) ∧
  (∀ s, tbValid s (rd s K.ppsTb) = true → s.tick.pps < ppsSecond s (rd s K.ppsTb) → rdField s K.syncOutCtrl 1 0 = 1 → Runs .ppsPulse s (fun t =>
    t.out = .syncOut :: .pps (rd s K.ppsTb) (rd s K.ppsWidth) :: s.out ∧ t.tick.pps = ppsSecond s (rd s K.ppsTb) ∧ Frame [] [.clock, .out] s t)) ∧
  (∀ s, (tbValid s (rd s K.ppsTb) = false ∨ ppsSecond s (rd s K.ppsTb) ≤ s.tick.pps) → Runs .ppsPulse s (fun t => Frame [] [] s t)) ∧
  (∀ r q e l s, q < 32 → txTs s q = e :: l → tget 0 s.dp.txWord q = 3 → Admitted s r (K.txTsData q) false → Runs (.txTsDataRead r q) s (fun t =>
    Answers t [nth e 3] ∧ txTs t q = l ∧ rd t (K.txTsCount q) = l.length ∧ tget 0 t.dp.txWord q = 0 ∧
    Frame [K.txTsCount q] [.chans, .datapath] s t)) ∧
  (∀ r q e l s, txTs s q = e :: l → tget 0 s.dp.txWord q < 3 → Admitted s r (K.txTsData q) false → Runs (.txTsDataRead r q) s (fun t =>
    Answers t [nth e (tget 0 s.dp.txWord q)] ∧ txTs t q = e :: l ∧ tget 0 t.dp.txWord q = tget 0 s.dp.txWord q + 1 ∧
    Frame [] [.chans, .datapath] s t)) ∧
  (∀ r q s, txTs s q = [] → Admitted s r (K.txTsData q) false → Runs (.txTsDataRead r q) s (fun t => Answers t [0] ∧ Frame [] [.chans] s t))
/-- A read of SA_STAT_DATA gives the word the pointer names and moves on, a low word from the latch its high word left; an entry found uncorrectable becomes zero, is counted, recorded and raised (R367); a freeze shows its snapshot; PERF_SEL takes the selectors R373 lists and no others and
marks its counter for a restart; PERF_CHAIN marks the counters of the pairs whose bit changes; PERF_CTRL stores ENABLE. A fold clears a marked counter and adds a full count to
any other, which wraps at 48 bits. -/
def Obligations.PerformanceCounters : Prop :=
  (∀ r h w s, frozenSnap s = none → w < 6 → rd s K.saStatAddr = w * 2 ^ 20 + h → h < 131072 → (∀ low, s.assoc.latch ≠ some (w * 2 ^ 20 + h, low)) →
    Admitted s r K.saStatData false → Runs (.saStatDataRead r false) s (fun t => Answers t [nth (statWords (statAt s h)) w] ∧
      rd t K.saStatAddr = (if w < 5 then (w + 1) * 2 ^ 20 + h else (h + 1) % 131072) ∧
      t.assoc.latch = (if w = 0 ∨ w = 2 then some ((w + 1) * 2 ^ 20 + h, nth (statWords (statAt s h)) (w + 1)) else none) ∧
      Frame [K.saStatAddr] [.chans, .assoc] s t)) ∧
  (∀ r h w s, frozenSnap s = none → w < 6 → rd s K.saStatAddr = w * 2 ^ 20 + h → h < 131072 → (∀ low, s.assoc.latch ≠ some (w * 2 ^ 20 + h, low)) →
    Admitted s r K.saStatData false → Runs (.saStatDataRead r true) s (fun t => Answers t [0] ∧ statAt t h = stat0 ∧
      Counts s t K.statEcc 1 ∧ rd t K.statEccLast = h ∧ Pending t Ev.statEcc ∧
      EvFrame [K.saStatAddr, K.statEcc, K.statEccLast] [.chans, .assoc] s t)) ∧
  (∀ r bad h w n s, frozenSnap s = some n → w < 6 → rd s K.saStatAddr = w * 2 ^ 20 + h → h < 131072 →
    (∀ low, s.assoc.latch ≠ some (w * 2 ^ 20 + h, low)) → Admitted s r K.saStatData false → Runs (.saStatDataRead r bad) s (fun t =>
      Answers t [nth (statWords (tget stat0 n.sas h)) w] ∧ rd t K.saStatAddr = (if w < 5 then (w + 1) * 2 ^ 20 + h else (h + 1) % 131072) ∧
      Frame [K.saStatAddr] [.chans, .assoc] s t)) ∧
  (∀ r bad h w low s, (w = 1 ∨ w = 3) → rd s K.saStatAddr = w * 2 ^ 20 + h → h < 131072 → s.assoc.latch = some (w * 2 ^ 20 + h, low) →
    Admitted s r K.saStatData false → Runs (.saStatDataRead r bad) s (fun t => Answers t [low])) ∧
  (∀ r n v s, v < 1024 → perfSelOk v = true → Admitted s r (K.perfSel n) true → Runs (.perfSelWrite r n v) s (fun t =>
    Answers t [] ∧ rd t (K.perfSel n) = v ∧ t.stats.dirty = n :: s.stats.dirty ∧ Frame [K.perfSel n] [.chans, .stats] s t)) ∧
  (∀ r n v s, v < 1024 → perfSelOk v = false → Admitted s r (K.perfSel n) true → Runs (.perfSelWrite r n v) s (fun t =>
    t.reply.code = .unsupportedValue ∧ Frame [] [.chans] s t)) ∧
  (∀ r (v : Nat) s, v < 2 ^ 32 → Admitted s r K.perfChain true → Runs (.perfChainWrite r v) s (fun t => Answers t [] ∧ rd t K.perfChain = v ∧
    (∀ n, n < 64 → bit v (n / 2) ≠ rdBit s K.perfChain (n / 2) → n ∈ t.stats.dirty) ∧ Frame [K.perfChain] [.chans, .stats] s t)) ∧
  (∀ r v s, Admitted s r K.perfCtrl true → Runs (.perfCtrlWrite r v) s (fun t => Answers t [] ∧ rd t K.perfCtrl = v % 2 ∧
    Frame [K.perfCtrl] [.chans] s t)) ∧
  (∀ s p n, n < 64 → n ∈ s.stats.dirty → rd (foldOne s p n).1 (K.perfAcc n) = 0 ∧ (foldOne s p n).2 = [] ∧
    Frame [K.perfAcc n, K.perfWrap, K.perfSat] [] s (foldOne s p n).1) ∧
  (∀ s p n, n < 64 → n ∉ s.stats.dirty → tget 0 p.hw n < 65536 → rd s (K.perfAcc n) < 2 ^ 48 →
    rd (foldOne s p n).1 (K.perfAcc n) = (rd s (K.perfAcc n) + tget 0 p.hw n) % 2 ^ 48 ∧
    (foldOne s p n).2 = (if 2 ^ 48 ≤ rd s (K.perfAcc n) + tget 0 p.hw n then [(Ev.perfWrap, n)] else []))

/-- DUMP_REQUEST asks for a dump; at cc 256 a dump with a snapshot starts under the next sequence number; a step in its slot of the tick that the bank has room for moves words of the record and,
with its last word, ends the dump and raises DUMP_DONE; a full bank stalls it; DUMP_DATA frees the oldest word and aborts with the wrong-state code where there is none. -/
def Obligations.Dumps : Prop :=
  (∀ r s, Admitted s r K.dumpRequest true → Runs (.dumpRequest r) s (fun t => Answers t [] ∧ t.stats.req = true ∧
    Frame [] [.chans, .stats] s t)) ∧
  (∀ s, s.stats.snap.isSome = true → s.stats.frozen = none → s.stats.dump = none → Runs .dumpStart s (fun t =>
    t.stats.dump = some (0, 0xFFFFFFFF) ∧ Counts s t K.dumpSeq 1 ∧ rdBit t K.dumpStatus 0 = true ∧
    Frame [K.dumpSeq, K.dumpStatus] [.clock, .stats] s t)) ∧
  (∀ i crc n s, s.stats.dump = some (i, crc) → s.stats.snap = some n → s.stats.bank.length < 4096 → bgSlot s 3 ≠ none →
    (dumpCopy n (rd s K.dumpSeq) (Nat.min 1024 (4096 - s.stats.bank.length)) i crc []).2.1 < dumpLen n → Runs .dumpChunk s (fun t =>
      t.stats.bank = s.stats.bank ++ (dumpCopy n (rd s K.dumpSeq) (Nat.min 1024 (4096 - s.stats.bank.length)) i crc []).1 ∧
      t.stats.dump = some (dumpCopy n (rd s K.dumpSeq) (Nat.min 1024 (4096 - s.stats.bank.length)) i crc []).2 ∧
      rd t K.dumpLevel = t.stats.bank.length ∧ Frame [K.dumpLevel, K.dumpStatus, K.bgHighWater] [.clock, .stats, .perf] s t)) ∧
  (∀ i crc n s, s.stats.dump = some (i, crc) → s.stats.snap = some n → s.stats.bank.length < 4096 → bgSlot s 3 ≠ none →
    dumpLen n ≤ (dumpCopy n (rd s K.dumpSeq) (Nat.min 1024 (4096 - s.stats.bank.length)) i crc []).2.1 → Runs .dumpChunk s (fun t =>
      t.stats.bank = s.stats.bank ++ (dumpCopy n (rd s K.dumpSeq) (Nat.min 1024 (4096 - s.stats.bank.length)) i crc []).1 ∧
      t.stats.dump = none ∧ t.stats.snap = none ∧ rdBit t K.dumpStatus 0 = false ∧ Pending t Ev.dumpDone ∧
      EvFrame [K.dumpLevel, K.dumpStatus, K.bgHighWater] [.clock, .stats] s t)) ∧
  (∀ x n s, s.stats.dump = some x → s.stats.snap = some n → s.stats.bank.length = 4096 → bgSlot s 3 ≠ none → Runs .dumpChunk s (fun t =>
    t.stats.dump = some x ∧ Counts s t K.dumpStalls 1 ∧ rdBit t K.dumpStatus 1 = true ∧
    Frame [K.dumpStalls, K.dumpStatus, K.bgHighWater] [.clock, .perf] s t)) ∧
  (∀ r w l s, s.stats.bank = w :: l → Admitted s r K.dumpData false → Runs (.dumpDataRead r) s (fun t => Answers t [w] ∧ t.stats.bank = l ∧
    rd t K.dumpLevel = l.length ∧ Frame [K.dumpLevel] [.chans, .stats] s t)) ∧
  (∀ r s, s.stats.bank = [] → Admitted s r K.dumpData false → Runs (.dumpDataRead r) s (fun t => t.reply.code = .wrongState ∧
    Frame [] [.chans] s t))

/-- A freeze is requested, engages at a cc 0 where no dump holds the snapshot, and takes one; released, or not released within 100,000 ticks, it ends with its snapshot, in the second case
counted and raising FREEZE_TIMEOUT; no timeout comes earlier. -/
def Obligations.Freezes : Prop :=
  (∀ r s, s.stats.frozen = none → Admitted s r K.freezeCtrl true → Runs (.freezeRequest r) s (fun t => Answers t [] ∧
    rdBit t K.freezeStatus 1 = true ∧ Frame [K.freezeStatus] [.chans] s t)) ∧
  (∀ s, rdBit s K.freezeStatus 1 = true → s.stats.snap = none → s.tick.clock = s.tick.start → Runs .freezeEngage s (fun t => t.stats.snap = some (snapNow s) ∧
    t.stats.frozen = some s.tick.elapsed ∧ rdBit t K.freezeStatus 0 = true ∧ rdBit t K.freezeStatus 1 = false ∧
    rd t K.freezeTick = tickNo s ∧ Frame [K.freezeStatus, K.freezeTick] [.stats] s t)) ∧
  (∀ r e s, s.stats.frozen = some e → Admitted s r K.freezeCtrl true → Runs (.freezeRelease r) s (fun t => Answers t [] ∧
    t.stats.frozen = none ∧ t.stats.snap = none ∧ rdBit t K.freezeStatus 0 = false ∧ rd t K.freezeTick = none64 ∧
    Frame [K.freezeStatus, K.freezeTick] [.chans, .stats] s t)) ∧
  (∀ e s, s.stats.frozen = some e → e + 100000 ≤ s.tick.elapsed → Runs .freezeTimeout s (fun t => t.stats.frozen = none ∧
    Counts s t K.freezeTimeouts 1 ∧ Pending t Ev.freezeTimeout ∧
    EvFrame [K.freezeStatus, K.freezeTick, K.freezeTimeouts] [.stats] s t)) ∧
  (∀ e s, s.stats.frozen = some e → s.tick.elapsed < e + 100000 → Runs .freezeTimeout s (fun t => Frame [] [] s t))
/-- FAB_CTRL stores its defined bits and a port switched off and out of test loses its sync and goes down; CLK lost clears what the port had found and raises FAB_CLK_LOST, but for a looped port, which receives its own, and its return is
seen on an enabled port; a lane's sync is gained, and lost with its event; an alignment set with a skew of up to 32 characters deskews the port, a larger one raises FAB_DESKEW_FAIL; a port is up
exactly when it carries traffic and all six conditions hold. A lost core or system clock resets the device; a lost group clock takes the
lanes of its group; the lost management clock resets the channels on; the lost crystal hands over to the backup oscillator; each return sets the domain's bit. A lost time domain stops every time base at the value it shows, and its return lets them count on from it. -/
def Obligations.FabricPorts : Prop :=
  (∀ r p (v : Nat) s, p < 4 → v < 2 ^ 32 → Admitted s r (K.fabCtrl p) true → Runs (.fabCtrlWrite r p v) s (fun t => Answers t [] ∧
    rd t (K.fabCtrl p) = Nat.land v 0xFF7 ∧ (bit v 0 = false → bit v 1 = false → rdField t (K.fabStatus p) 6 0 = 0) ∧
    (bit v 1 = false → ∀ d, d < 4 → rd t (K.chkStatus (64 + 4 * p + d)) = 0) ∧
    Frame ([K.fabCtrl p, K.fabStatus p, K.linkStatus p, K.clkLocked] ++ (List.range 4).map (fun d => K.chkStatus (64 + 4 * p + d)))
      [.chans, .fabric] s t)) ∧
  (∀ p s, p < 4 → fabLoop s p = false → rdBit s (K.fabStatus p) 4 = true → Runs (.fabClkLost p) s (fun t =>
    rdField t (K.fabStatus p) 6 0 = 0 ∧ rdBit t (K.fabEvents p) 0 = true ∧ rdBit t K.clkLocked (18 + p) = false ∧ Pending t Ev.fabClkLost ∧
    EvFrame [K.fabStatus p, K.fabEvents p, K.linkStatus p, K.clkLocked, K.clkLost] [.fabric] s t)) ∧
  (∀ p s, p < 4 → fabLoop s p = true → Runs (.fabClkLost p) s (fun t => t.reply = s.reply ∧ Frame [] [] s t)) ∧
  (∀ p s, p < 4 → (rdBit s (K.fabCtrl p) 0 = true ∨ rdBit s (K.fabCtrl p) 1 = true) → Runs (.fabClkReturn p) s (fun t =>
    rdBit t (K.fabStatus p) 4 = true ∧ rdBit t K.clkLocked (18 + p) = true ∧ Frame [K.fabStatus p, K.clkLocked] [] s t)) ∧
  (∀ p d s, p < 4 → d < 4 → rdBit s (K.fabStatus p) 4 = true → fabOn s p = true → Runs (.fabSyncAcquired p d) s (fun t =>
    rdBit t (K.fabStatus p) d = true ∧ fabUp t p = (rdField t (K.fabStatus p) 5 0 == 63) ∧
    Frame [K.fabStatus p, K.linkStatus p] [.fabric] s t)) ∧
  (∀ p d n s, p < 4 → d < 4 → rdBit s (K.fabStatus p) d = true → Runs (.fabSyncLost p d n) s (fun t =>
    rdBit t (K.fabStatus p) d = false ∧ rdBit t (K.fabStatus p) 5 = false ∧ fabUp t p = false ∧ rdBit t (K.fabEvents p) 1 = true ∧
    Counts s t (K.fabCodeErrors p) n ∧ Pending t Ev.fabSyncLost ∧
    EvFrame [K.fabStatus p, K.fabEvents p, K.linkStatus p, K.fabCodeErrors p] [.fabric] s t)) ∧
  (∀ p k s, p < 4 → k ≤ 32 → rdField s (K.fabStatus p) 4 0 = 31 → Runs (.fabAlignSetRx p k) s (fun t => rd t (K.fabSkew p) = k ∧
    rdBit t (K.fabStatus p) 5 = true ∧ fabUp t p = fabOn s p ∧ Frame [K.fabStatus p, K.fabSkew p, K.linkStatus p] [.fabric] s t)) ∧
  (∀ p k s, p < 4 → 32 < k → rdField s (K.fabStatus p) 4 0 = 31 → Runs (.fabAlignSetRx p k) s (fun t => rd t (K.fabSkew p) = min 255 k ∧
    rdBit t (K.fabStatus p) 5 = false ∧ fabUp t p = false ∧ rdBit t (K.fabEvents p) 2 = true ∧ Pending t Ev.fabDeskewFail ∧
    EvFrame [K.fabStatus p, K.fabSkew p, K.fabEvents p, K.linkStatus p] [.fabric] s t)) ∧
  (∀ p s, p < 4 → fabOn s p = true → Runs (.fabAlignSetSend p) s (fun t =>
    t.out = .fabSet p [0xBC, 0xBC, 0xBC, 0xBC, 0xA1, 0xA1, 0xA1, 0xA1] :: s.out ∧ Frame [] [.out] s t)) ∧
  (∀ d s, d ≤ 1 → s.boot.engine = true → s.life.trans = none → Runs (.clockLost d) s (fun t => rd t K.resetCause = 3 ∧ t.boot.engine = false ∧
    t.keys.root = none ∧ t.assoc = State.reset.assoc ∧ t.fab = State.reset.fab ∧ ∀ k, survives k = false → k ≠ K.resetCause → rd t k = dfltOf k)) ∧
  (∀ d s, 2 ≤ d → d < 18 → s.boot.engine = true → Runs (.clockLost d) s (fun t =>
    (∀ i, i < 4 → rdBit t (K.laneStatus (clkLane d + i)) 5 = false ∧ (laneState s (clkLane d + i) = Lane.ready →
      laneState t (clkLane d + i) = Lane.cdr ∧ rdBit t (K.laneEvents (clkLane d + i)) 1 = true)) ∧
    EvFrame ([K.clkLocked, K.clkLost, K.otnEvents ((d - 2) % 8)] ++ (List.range 4).map (fun i => K.laneStatus (clkLane d + i)) ++
      (List.range 4).map (fun i => K.rxSnr (clkLane d + i)) ++ (List.range 4).map (fun i => K.laneEvents (clkLane d + i))) [] s t)) ∧
  (∀ d s, 18 ≤ d → d < 22 → s.boot.engine = true → fabLoop s (d - 18) = false → rdBit s (K.fabStatus (d - 18)) 4 = true →
    Runs (.clockLost d) s (fun t => rdField t (K.fabStatus (d - 18)) 6 0 = 0 ∧ rdBit t (K.fabEvents (d - 18)) 0 = true ∧
      rdBit t K.clkLocked d = false ∧ Pending t Ev.fabClkLost ∧
      EvFrame [K.fabStatus (d - 18), K.fabEvents (d - 18), K.linkStatus (d - 18), K.clkLocked, K.clkLost] [.fabric] s t)) ∧
  (∀ s, s.boot.engine = true → (chan s 1).sess = none → (chan s 2).sess = none → rdBit s K.clkLocked 22 = true → Runs (.clockLost 22) s (fun t =>
    rdBit t K.clkLocked 22 = false ∧ rdBit t K.clkLost 22 = true ∧ Pending t Ev.clockLost ∧
    (∀ c, (c = 1 ∨ c = 2) → rdBit s (K.chanCtrl c) 0 = true → (chan t c).queue = [] ∧ (chan t c).held = none) ∧
    EvFrame [K.clkLocked, K.clkLost] [.lines] s t)) ∧
  (∀ s, s.boot.engine = true → canFire s 28 = false → rdBit s K.clkLocked 24 = true → Runs (.clockLost 24) s (fun t =>
    backupOsc t = true ∧ rdBit t K.clkLocked 24 = false ∧ rdBit t K.clkLost 24 = true ∧ Pending t Ev.clockLost ∧
    EvFrame [K.onyxStatus, K.clkLocked, K.clkLost] [.onyx] s t)) ∧
  (∀ d s, 2 ≤ d → d < 18 → s.boot.engine = true → groupClk s d = true → Runs (.clockReturned d) s (fun t => rdBit t K.clkLocked d = true ∧
    Frame [K.clkLocked] [] s t)) ∧
  (∀ d s, 18 ≤ d → d < 22 → s.boot.engine = true → (rdBit s (K.fabCtrl (d - 18)) 0 = true ∨ rdBit s (K.fabCtrl (d - 18)) 1 = true) →
    Runs (.clockReturned d) s (fun t => rdBit t (K.fabStatus (d - 18)) 4 = true ∧ rdBit t K.clkLocked d = true ∧
      Frame [K.fabStatus (d - 18), K.clkLocked] [] s t)) ∧
  (∀ s, s.boot.engine = true → Runs (.clockReturned 22) s (fun t =>
    rdBit t K.clkLocked 22 = (rdBit s (K.chanCtrl 1) 0 || rdBit s (K.chanCtrl 2) 0) ∧ Frame [K.clkLocked] [.lines] s t)) ∧
  (∀ s, s.boot.engine = true → backupOsc s = true → Runs (.clockReturned 24) s (fun t => backupOsc t = false ∧
    rdBit t K.clkLocked 24 = true ∧ 28 ∉ t.onyx.fired ∧ Frame [K.onyxStatus, K.clkLocked] [.onyx] s t)) ∧
  (∀ s, s.boot.engine = true → (tb s 0).stopped = false → Runs (.clockLost 23) s (fun t =>
    (∀ n, n < 4 → (tb t n).stopped = true ∧ tbNow t n = tbNow s n ∧ tbValid t n = false) ∧ tickValid t = false ∧
    rdBit t K.clkLocked 23 = false)) ∧
  (∀ s, s.boot.engine = true → Runs (.clockReturned 23) s (fun t =>
    (∀ n, n < 4 → (tb t n).stopped = false ∧ tbNow t n = tbNow s n) ∧ rdBit t K.clkLocked 23 = true ∧
    Frame [K.clkLocked] [.timeBases] s t))

/-- A HELLO from another node at a common version joins the link at the highest one, this node's own identifier or no common version takes it down, and so do 300 ticks without one. A new
LINK_STATE enters the database, one under this node's identifier from another unit marks it a duplicate, and an entry of 3 s is dropped; routes to joined neighbours go straight to them, by the
lowest port. A message for another node goes on along its route with its TTL one lower, a damaged one is counted; a looped port
receives what it sent and nothing else. -/
def Obligations.FabricLinks : Prop :=
  (∀ p s, p < 4 → fabUp s p = true → Runs (.helloSend p) s (fun t =>
    (∃ m, t.out = .fab p m :: s.out ∧ m.typ = 1 ∧ m.ver = 1 ∧ m.ttl = 15 ∧ m.src = nodeId s ∧ m.seq = s.fab.seq ∧ m.good = true ∧
      m.payload = [nodeId s, unitTag s, p, 1, rd s K.fabVersionMax]) ∧
    Counts s t (K.linkTxMsgs p) 1 ∧ Frame [K.linkTxMsgs p] [.fabric, .out] s t)) ∧
  (∀ p m n a q lo hi s, p < 4 → fabUp s p = true → Whole s p m → m.typ = 1 → m.ttl ≠ 0 → m.payload = [n, a, q, lo, hi] → n < 256 → q < 4 →
    n ≠ nodeId s → 1 ≤ hi → lo ≤ hi → lo ≤ rd s K.fabVersionMax → joined s p = false → Runs (.helloRx p m) s (fun t =>
      rd t (K.linkStatus p) = 1 + min hi (rd s K.fabVersionMax) * 4 + n * 256 + q * 65536 ∧ Counts s t (K.linkRxMsgs p) 1 ∧
      Frame [K.linkStatus p, K.linkRxMsgs p] [.fabric] s t)) ∧
  (∀ p m n a q lo hi s, p < 4 → fabUp s p = true → Whole s p m → m.typ = 1 → m.ttl ≠ 0 → m.payload = [n, a, q, lo, hi] → n < 256 →
    n ≠ nodeId s → 1 ≤ hi → lo ≤ hi → lo ≤ rd s K.fabVersionMax → joined s p = true → Runs (.helloRx p m) s (fun t =>
      tget 0 t.fab.hello p = s.tick.elapsed + 1 ∧ Counts s t (K.linkRxMsgs p) 1 ∧ Frame [K.linkRxMsgs p] [.fabric] s t)) ∧
  (∀ p m l s, p < 4 → fabUp s p = true → Whole s p m → m.typ = 1 → m.ttl ≠ 0 → m.payload = nodeId s :: l → nodeId s < 256 →
    Runs (.helloRx p m) s (fun t => rd t (K.linkStatus p) = 0 ∧ rd t K.fabDupLast = nodeId s ∧ Pending t Ev.fabDupNode ∧
      EvFrame [K.linkStatus p, K.linkRxMsgs p, K.fabDupLast] [.fabric] s t)) ∧
  (∀ p m n a q lo hi s, p < 4 → fabUp s p = true → Whole s p m → m.typ = 1 → m.ttl ≠ 0 → m.payload = [n, a, q, lo, hi] → n < 256 →
    n ≠ nodeId s → (hi < lo ∨ rd s K.fabVersionMax < lo) → Runs (.helloRx p m) s (fun t => rd t (K.linkStatus p) = 0 ∧
      Pending t Ev.fabVersionFail ∧ EvFrame [K.linkStatus p, K.linkRxMsgs p] [.fabric] s t)) ∧
  (∀ p m s, p < 4 → fabUp s p = true → fabLoop s p = false → m.good = false → Runs (.helloRx p m) s (fun t => Counts s t K.fabMsgErrors 1 ∧
    Frame [K.fabMsgErrors] [] s t)) ∧
  (∀ p m s, p < 4 → fabLoop s p = true → (tget [] s.fab.looped p).head? ≠ some m → Runs (.helloRx p m) s (fun t =>
    t.reply = s.reply ∧ Frame [] [] s t)) ∧
  (∀ p m l w s, p < 4 → fabUp s p = true → fabLoop s p = true → tget [] s.fab.looped p = m :: l → m.good = true → m.typ = 1 → m.ttl ≠ 0 →
    m.payload = nodeId s :: w → nodeId s < 256 → Runs (.helloRx p m) s (fun t => tget [] t.fab.looped p = l ∧ rd t (K.linkStatus p) = 0 ∧
      rd t K.fabDupLast = nodeId s ∧ Pending t Ev.fabDupNode ∧ EvFrame [K.linkStatus p, K.linkRxMsgs p, K.fabDupLast] [.fabric] s t)) ∧
  (∀ p s, p < 4 → joined s p = true → tget 0 s.fab.hello p + 299 ≤ s.tick.elapsed → Runs (.helloTimeout p) s (fun t =>
    joined t p = false ∧ Frame [K.linkStatus p] [.fabric] s t)) ∧
  (∀ s, Runs .linkStateSend s (fun t => t.fab.lsSeq = (s.fab.lsSeq + 1) % 2 ^ 32 ∧
    (∀ p, p < 4 → if joinedAt s p 1 = true then Counts s t (K.linkTxMsgs p) 1 else rd t (K.linkTxMsgs p) = rd s (K.linkTxMsgs p)) ∧
    Frame ((List.range 4).map K.linkTxMsgs) [.fabric, .out] s t)) ∧
  (∀ p m a q l s, p < 4 → joined s p = true → Whole s p m → m.typ = 2 → m.ttl ≠ 0 → m.src ≠ nodeId s → m.payload = a :: q :: l →
    tget none s.fab.db m.src = none → Runs (.linkStateRx p m) s (fun t =>
      tget none t.fab.db m.src = some ⟨a, q, l.take 4, s.tick.elapsed, false⟩ ∧ rd t K.fabNodes = t.fab.db.length + 1 ∧
      Frame ([K.fabNodes, K.linkRxMsgs p] ++ (List.range 4).map K.linkTxMsgs) [.fabric, .out] s t)) ∧
  (∀ p m a q l e s, p < 4 → joined s p = true → Whole s p m → m.typ = 2 → m.ttl ≠ 0 → m.src ≠ nodeId s → m.payload = a :: q :: l →
    tget none s.fab.db m.src = some e → e.tag = a → e.seq = q → Runs (.linkStateRx p m) s (fun t =>
      Counts s t (K.linkRxMsgs p) 1 ∧ Frame [K.linkRxMsgs p] [] s t)) ∧
  (∀ p m a q l e s, p < 4 → joined s p = true → Whole s p m → m.typ = 2 → m.ttl ≠ 0 → m.src ≠ nodeId s → m.payload = a :: q :: l →
    tget none s.fab.db m.src = some e → e.tag = a → e.seq ≠ q → e.dup = false → Runs (.linkStateRx p m) s (fun t =>
      tget none t.fab.db m.src = some ⟨a, q, l.take 4, s.tick.elapsed, false⟩ ∧ rd t K.fabNodes = t.fab.db.length + 1 ∧
      Frame ([K.fabNodes, K.linkRxMsgs p] ++ (List.range 4).map K.linkTxMsgs) [.fabric, .out] s t)) ∧
  (∀ p m a l s, p < 4 → joined s p = true → Whole s p m → m.typ = 2 → m.ttl ≠ 0 → m.src = nodeId s → m.payload = a :: l → a ≠ unitTag s →
    Runs (.linkStateRx p m) s (fun t => t.fab.ownDup = true ∧ rd t K.fabDupLast = nodeId s ∧ Pending t Ev.fabDupNode ∧
      EvFrame [K.fabDupLast, K.linkRxMsgs p] [.fabric] s t)) ∧
  (∀ n e s, tget none s.fab.db n = some e → e.at_ + 300000 ≤ s.tick.elapsed → Runs (.linkStateAge n) s (fun t =>
    tget none t.fab.db n = none ∧ (∀ k, k ≠ n → tget none t.fab.db k = tget none s.fab.db k) ∧ rd t K.fabNodes = t.fab.db.length + 1 ∧
    Frame [K.fabNodes] [.fabric] s t)) ∧
  (∀ s, s.fab.ownDup = true → Runs .routeRecompute s (fun t => t.fab.routes = [] ∧ Frame [] [.fabric] s t)) ∧
  (∀ s, s.fab.ownDup = false → Runs .routeRecompute s (fun t =>
    (∀ v p, 1 ≤ v → v ≤ 3 → p < 4 → joinedAt s p v = true → routable s (rdField s (K.linkStatus p) 15 8) = true →
      ∃ q, q ≤ p ∧ routeTo t v (rdField s (K.linkStatus p) 15 8) = some q ∧ joinedAt s q v = true ∧
        rdField s (K.linkStatus q) 15 8 = rdField s (K.linkStatus p) 15 8) ∧ Frame [] [.fabric] s t)) ∧
  (∀ p m o s, p < 4 → joined s p = true → Whole s p m → msgKnown m.typ = true → m.ttl ≠ 0 → m.bcast = false → m.dst ≠ nodeId s →
    routeTo s (max 1 (min 3 m.ver)) m.dst = some o → Runs (.fabMsgRelay p m) s (fun t =>
      t.out = .fab o (FabMsg.sealed { m with ttl := m.ttl - 1 }) :: s.out ∧ Counts s t (K.linkRxMsgs p) 1 ∧ Counts s t (K.linkTxMsgs o) 1 ∧
      Frame [K.linkRxMsgs p, K.linkTxMsgs o] [.fabric, .out] s t)) ∧
  (∀ p m s, p < 4 → joined s p = true → Whole s p m → msgKnown m.typ = true → m.ttl ≠ 0 → m.bcast = false → m.dst ≠ nodeId s →
    routeTo s (max 1 (min 3 m.ver)) m.dst = none → Runs (.fabMsgRelay p m) s (fun t =>
      Counts s t K.fabNoRoute 1 ∧ Frame [K.linkRxMsgs p, K.fabNoRoute] [] s t)) ∧
  (∀ p m s, p < 4 → joined s p = true → Whole s p m → msgKnown m.typ = true → m.ttl ≠ 0 → m.bcast = true → m.src ≠ nodeId s →
    tget 0 s.fab.relayed m.src ≠ m.seq + 1 → Runs (.fabMsgRelay p m) s (fun t => tget 0 t.fab.relayed m.src = m.seq + 1 ∧
      (∀ q, q < 4 → if q ≠ p ∧ joinedAt s q m.ver = true then Counts s t (K.linkTxMsgs q) 1 else rd t (K.linkTxMsgs q) = rd s (K.linkTxMsgs q)) ∧
      Frame (K.linkRxMsgs p :: (List.range 4).map K.linkTxMsgs) [.fabric, .out] s t)) ∧
  (∀ p m s, p < 4 → joined s p = true → Whole s p m → msgKnown m.typ = true → m.ttl = 0 → Runs (.fabMsgRelay p m) s (fun t =>
    Frame [K.linkRxMsgs p] [] s t))
/-- A ROLE_TAKEOVER or ROLE_STALE of a later epoch gives its epoch and active node to the entry, and an active member demotes; of the same epoch it settles on the lower active node; of an
earlier one it is answered. ROLE_CTRL enables an entry afresh, stores while it is disabled, switches it off, and refuses another write while enabled, and a reserved MODE; PREFER_ACTIVE makes an unheard standby active; ROLE_SWITCH_TICK arms on the
active member only; the end of a takeover's sweep moves every SA of the old node here under its next EPOCH. -/
def Obligations.Roles : Prop :=
  (∀ m g (e : Nat) w s, MsgFor s m Msg.takeover → entryOf s m.group = some g → m.payload = [e, w] → e < 2 ^ 32 →
    0 < toSigned 32 ((e + 2 ^ 32 - roleEpochOf s g) % 2 ^ 32) → (roleAt s g).st = 1 → (roleAt s g).taking = none →
    Runs (.roleTakeoverRx m) s (fun t => rd t (K.roleEpoch g) = e ∧ (roleAt t g).node = wordNode w ∧ (roleAt t g).st = 1 ∧
      Frame [rxKey s m, K.roleEpoch g] [.fabric] s t)) ∧
  (∀ m g (e : Nat) w s, MsgFor s m Msg.stale → entryOf s m.group = some g → m.payload = [e, w] → e < 2 ^ 32 →
    0 < toSigned 32 ((e + 2 ^ 32 - roleEpochOf s g) % 2 ^ 32) → roleActive (roleAt s g) = true →
    Runs (.roleStaleRx m) s (fun t => rd t (K.roleEpoch g) = e ∧ (roleAt t g).node = wordNode w ∧ (roleAt t g).st = 1 ∧
      t.fab.halted = true ∧ (rolePair s g = true → t.fab.lock = false) ∧ Pending t Ev.roleDemoted ∧
      EvFrame [rxKey s m, K.roleEpoch g, K.resyncLeft] [.fabric] s t)) ∧
  (∀ m g a b s, MsgFor s m Msg.takeover → entryOf s m.group = some g → m.payload = [roleEpochOf s g, a] → a < 256 →
    (roleAt s g).node = some b → b ≠ nodeId s → Runs (.roleTakeoverRx m) s (fun t => (roleAt t g).node = some (min a b) ∧
      rd t (K.roleEpoch g) = rd s (K.roleEpoch g) ∧ Frame [rxKey s m] [.fabric] s t)) ∧
  (∀ m g (e : Nat) w o s, MsgFor s m Msg.stale → entryOf s m.group = some g → m.payload = [e, w] → e < 2 ^ 32 →
    toSigned 32 ((e + 2 ^ 32 - roleEpochOf s g) % 2 ^ 32) < 0 → routeTo s 2 m.src = some o →
    Runs (.roleStaleRx m) s (fun t => (∃ a, t.out = .fab o a :: s.out ∧ a.typ = Msg.takeover ∧ a.dst = m.src ∧ a.payload = roleWords s g) ∧
      Frame [rxKey s m, K.linkTxMsgs o] [.fabric, .out] s t)) ∧
  (∀ r g (v : Nat) s, g < 4 → v < 2 ^ 32 → bit v 31 = true → roleEn s g = false → roleCtrlOk s g (Nat.land v 0xB8FF0F03) = true →
    Admitted s r (K.roleCtrl g) true → Runs (.roleCtrlWrite r g v) s (fun t => Answers t [] ∧
      rd t (K.roleCtrl g) = Nat.land v 0xB8FF0F03 ∧ (roleAt t g).st = 1 ∧ (roleAt t g).node = none ∧ rd t (K.roleEpoch g) = 0 ∧
      Frame [K.roleCtrl g, K.roleEpoch g, K.health g, K.peerHealth g, K.leaseExpiry g, K.roleSwitchTick g, K.resyncLeft] [.chans, .fabric] s t)) ∧
  (∀ r g (v : Nat) s, g < 4 → v < 2 ^ 32 → bit v 31 = true → (bits v 29 28 = 1 ∨ bits v 29 28 = 2) → roleEn s g = true → Admitted s r (K.roleCtrl g) true → Runs (.roleCtrlWrite r g v) s (fun t =>
    t.reply.code = .wrongState ∧ Frame [] [.chans] s t)) ∧
  (∀ r g (v : Nat) s, g < 4 → v < 2 ^ 32 → (bits v 29 28 = 1 ∨ bits v 29 28 = 2) → bit v 31 = false → roleEn s g = true →
    Admitted s r (K.roleCtrl g) true → Runs (.roleCtrlWrite r g v) s (fun t => Answers t [] ∧ rd t (K.roleCtrl g) = Nat.land v 0xB8FF0F03 ∧
      roleAt t g = role0 ∧ rd t (K.roleEpoch g) = 0 ∧ t.fab.halted = false ∧ (rolePair s g = true → t.fab.lock = false) ∧
      Frame [K.roleCtrl g, K.roleEpoch g, K.health g, K.peerHealth g, K.leaseExpiry g, K.roleSwitchTick g, K.resyncLeft] [.chans, .fabric] s t)) ∧
  (∀ r g (v : Nat) s, g < 4 → v < 2 ^ 32 → (bits v 29 28 = 1 ∨ bits v 29 28 = 2) → bit v 31 = false → roleEn s g = false →
    Admitted s r (K.roleCtrl g) true → Runs (.roleCtrlWrite r g v) s (fun t => Answers t [] ∧ rd t (K.roleCtrl g) = Nat.land v 0xB8FF0F03 ∧
      Frame [K.roleCtrl g] [.chans] s t)) ∧
  (∀ r g (v : Nat) s, g < 4 → v < 2 ^ 32 → (bits v 29 28 = 0 ∨ bits v 29 28 = 3) → Admitted s r (K.roleCtrl g) true →
    Runs (.roleCtrlWrite r g v) s (fun t => t.reply.code = .unsupportedValue ∧ Frame [] [.chans] s t)) ∧
  (∀ g s, g < 4 → roleEn s g = true → rdBit s (K.roleCtrl g) 27 = true → (roleAt s g).st = 1 → (roleAt s g).taking = none →
    (roleAt s g).heard = false → (roleAt s g).since + 2 ≤ s.tick.elapsed → classBlocked s g = false → busyElsewhere s g = false →
    (rolePair s g = false ∨ lockHigh s = true) → Runs (.rolePreferActiveTimeout g) s (fun t => (roleAt t g).st = 3 ∧
      (roleAt t g).node = some (nodeId s) ∧ rd t (K.roleEpoch g) = (roleEpochOf s g + 1) % 2 ^ 32 ∧
      (rolePair s g = true → t.fab.lock = true) ∧ Frame [K.roleEpoch g] [.fabric] s t)) ∧
  (∀ r g (v : Nat) s, g < 4 → v < none64 → roleActive (roleAt s g) = true → rd s (K.roleSwitchTick g) = none64 → armOk s v = true →
    Admitted s r (K.roleSwitchTick g) true → Runs (.roleSwitchArm r g v) s (fun t => Answers t [] ∧ rd t (K.roleSwitchTick g) = v ∧
      Frame [K.roleSwitchTick g] [.chans] s t)) ∧
  (∀ r g v s, g < 4 → roleActive (roleAt s g) = false → Admitted s r (K.roleSwitchTick g) true → Runs (.roleSwitchArm r g v) s (fun t =>
    t.reply.code = .wrongState ∧ Frame [] [.chans] s t)) ∧
  (∀ g old s, g < 4 → (roleAt s g).taking = some old → (∀ k, k < 4 → k ≠ g → (roleAt s k).taking = none) → old ≠ nodeId s →
    (roleAt s g).dropAfter = false → migTouches s old = false → Runs .takeoverDone s (fun t =>
      t.tick.clock = max s.tick.clock ((roleAt s g).takeAt + 4160) ∧ (roleAt t g).st = 3 ∧ (roleAt t g).taking = none ∧
      t.fab.halted = false ∧ Counts s t (K.takeovers g) 1 ∧ Pending t Ev.takeoverDone ∧
      (∀ h, h ∈ s.assoc.sa.map (·.1) → (saAt s h).node = old → (saAt t h).node = nodeId s ∧ (saAt t h).epoch = ((saAt s h).epoch + 1) % 65536 ∧
        (saAt t h).pn = (if resvApplies s (saAt s h) then (saAt s h).ceiling else (saAt s h).pn)) ∧
      (∀ h, (saAt s h).node ≠ old → saAt t h = saAt s h) ∧ EvFrame [K.takeovers g] [.clock, .assoc, .fabric] s t))

/-- At cc 64 a pair sends the burst, and the ordered set where its port is up, and refreshes ACT_LOCK while it holds it; a valid heartbeat of the peer marks its path and gives its health and flags, one that fails its CRC has no
effect, and one of another tick clears TICK_OK; ticks with heartbeats keep the peer, and the second finds a lost one; the second tick without a heartbeat on either path loses the peer, and an eligible standby of a lost peer takes over where ACT_LOCK reads high. The
watchdog releases ACT_LOCK 16,384 cc after its last refresh and no earlier; what the sequencer does once a tick it does not do again; a failed slice of the self-test clears its HEALTH bit and ELIGIBLE. -/
def Obligations.Heartbeats : Prop :=
  (∀ g s, OnePair s g → (roleActive (roleAt s g) = true → s.fab.lock = true) → fabUp s (roleHbPort s g) = true → ranNow s 1 = false →
    Runs .heartbeatSend s (fun t =>
    t.out = .peerHb (hbBurst s g) :: .fabSet (roleHbPort s g) (hbSet s g) :: s.out ∧ t.fab.lock = s.fab.lock ∧
    (s.fab.lock = true → t.fab.lockAt = t.tick.clock) ∧ Frame [] [.clock, .fabric, .out] s t)) ∧
  (∀ g s, OnePair s g → (roleActive (roleAt s g) = true → s.fab.lock = true) → fabUp s (roleHbPort s g) = false → ranNow s 1 = false →
    Runs .heartbeatSend s (fun t =>
    t.out = .peerHb (hbBurst s g) :: s.out ∧ Frame [] [.clock, .fabric, .out] s t)) ∧
  (∀ s, (∀ k, k < 4 → rolePair s k = false) → Runs .heartbeatSend s (fun t => Frame [] [.clock] s t)) ∧
  (∀ s, (∀ k, k < 4 → rolePair s k = false) → Runs .heartbeatCheck s (fun t => Frame [] [.clock] s t)) ∧
  (∀ g s, OnePair s g → (roleAt s g).seenF = s.tick.elapsed + 1 → (roleAt s g).seenP = s.tick.elapsed + 1 → (roleAt s g).lost = false →
    ((roleAt s g).st = 2 ∨ (roleAt s g).st = 1 ∧ (eligible s g = false ∨ bit (roleAt s g).flags 7 = true)) → ranNow s 2 = false → Runs .heartbeatCheck s (fun t =>
      (roleAt t g).missF = 0 ∧ (roleAt t g).missP = 0 ∧ (roleAt t g).goodF = (roleAt s g).goodF + 1 ∧ (roleAt t g).goodP = (roleAt s g).goodP + 1 ∧
      (roleAt t g).lost = false ∧ (roleAt t g).st = (roleAt s g).st ∧ Frame [] [.clock, .fabric] s t)) ∧
  (∀ g s, OnePair s g → (roleAt s g).seenF = s.tick.elapsed + 1 → (roleAt s g).seenP = s.tick.elapsed + 1 → (roleAt s g).lost = true →
    0 < (roleAt s g).goodF → (roleAt s g).st = 1 → (eligible s g = false ∨ bit (roleAt s g).flags 7 = true) → ranNow s 2 = false → Runs .heartbeatCheck s (fun t =>
      (roleAt t g).lost = false ∧ (roleAt t g).st = 1 ∧ Pending t Ev.peerFound ∧ EvFrame [] [.clock, .fabric] s t)) ∧
  (∀ p g set s, OnePair s g → p < 4 → roleHbPort s g = p → fabUp s p = true → fabLoop s p = false → nth set 4 = 0xB5 → crc8 ((set.drop 4).take 11) = nth set 15 →
    nth set 5 = rolePeer s g → nth set 6 = roleGroup s g → nth set 9 * 65536 + nth set 10 * 256 + nth set 11 = tickNo s % 2 ^ 24 →
    Runs (.fabHeartbeatRx p set) s (fun t => (roleAt t g).seenF = s.tick.elapsed + 1 ∧ (roleAt t g).flags = nth set 7 ∧
      rd t (K.peerHealth g) = nth set 8 ∧ (roleAt t g).tickOk = true ∧ Frame [K.peerHealth g, K.roleEpoch g] [.fabric] s t)) ∧
  (∀ p set s, crc8 ((set.drop 4).take 11) ≠ nth set 15 → Runs (.fabHeartbeatRx p set) s (fun t => Frame [] [] s t)) ∧
  (∀ g set s, OnePair s g → nth set 0 = 0xAB → crc8 ((set.drop 1).take 3) = nth set 4 → nth set 1 = rolePeer s g →
    nth set 3 = tickNo s % 2 ^ 8 → Runs (.peerHbRx set) s (fun t => (roleAt t g).seenP = s.tick.elapsed + 1 ∧
      (roleAt t g).flags = nth set 2 ∧ (roleAt t g).tickOk = true ∧ Frame [] [.fabric] s t)) ∧
  (∀ g set s, OnePair s g → nth set 0 = 0xAB → crc8 ((set.drop 1).take 3) = nth set 4 → nth set 1 = rolePeer s g →
    nth set 3 ≠ tickNo s % 2 ^ 8 → Runs (.peerHbRx set) s (fun t => (roleAt t g).tickOk = false ∧ rdBit t (K.health g) 3 = false ∧
      eligible t g = false ∧ EvFrame [K.health g] [.fabric] s t)) ∧
  (∀ g s, OnePair s g → (roleAt s g).missF = 1 → (roleAt s g).missP = 1 → (roleAt s g).lost = false → (roleAt s g).st = 2 →
    (roleAt s g).seenF ≠ s.tick.elapsed + 1 → (roleAt s g).seenP ≠ s.tick.elapsed + 1 → ranNow s 2 = false → Runs .heartbeatCheck s (fun t =>
      (roleAt t g).lost = true ∧ (roleAt t g).st = 3 ∧ rd t K.resyncLeft = 0 ∧ Pending t Ev.peerLost ∧
      EvFrame [K.resyncLeft] [.clock, .fabric] s t)) ∧
  (∀ g s, OnePair s g → 0 < (roleAt s g).missF → 0 < (roleAt s g).missP → (roleAt s g).lost = true → (roleAt s g).st = 1 →
    (roleAt s g).taking = none → (roleAt s g).seenF ≠ s.tick.elapsed + 1 → (roleAt s g).seenP ≠ s.tick.elapsed + 1 →
    eligible s g = true → classBlocked s g = false → busyElsewhere s g = false → ranNow s 2 = false →
    Runs .heartbeatCheck s (fun t =>
      (lockHigh (toCc s 448) = true → (roleAt t g).taking.isSome = true ∧ (roleAt t g).node = some (nodeId s) ∧ t.fab.lock = true ∧
        rd t (K.roleEpoch g) = (roleEpochOf s g + 1) % 2 ^ 32) ∧
      (lockHigh (toCc s 448) = false → (roleAt t g).st = 4 ∧ (roleAt t g).taking = none ∧ Pending t Ev.takeoverBlocked) ∧
      EvFrame (K.roleEpoch g :: txKeys) [.clock, .fabric, .out] s t)) ∧
  (∀ i c s, (i, c) ∈ [(1, Instr.heartbeatSend), (2, .heartbeatCheck), (3, .leaseClaimDecide), (4, .reservationSend), (5, .replaySyncSend)] →
    ranNow s i = true → Runs c s (fun t => Frame [] [] s t)) ∧
  (∀ s, s.fab.lockAt + 16384 ≤ s.tick.clock → Runs .actLockWatchdog s (fun t => t.fab.lock = false ∧ Frame [] [.fabric] s t)) ∧
  (∀ s, s.tick.clock < s.fab.lockAt + 16384 → Runs .actLockWatchdog s (fun t => t.fab.lock = s.fab.lock ∧ Frame [] [] s t)) ∧
  (∀ g s, g < 4 → roleEn s g = true → roleStandby (roleAt s g) = true → s.fab.selfStep < 8 → bgSlot s 5 ≠ none → Runs (.standbySelftestStep false) s (fun t =>
    rdBit t (K.health g) 0 = false ∧ eligible t g = false ∧ t.fab.selfStep = s.fab.selfStep + 1 ∧
    EvFrame (K.bgHighWater :: (List.range 4).map K.health) [.clock, .fabric] s t)) ∧
  (∀ b g s, g < 4 → roleEn s g = true → roleStandby (roleAt s g) = true → bgSlot s 5 ≠ none → Runs (.standbySelftestStep b) s (fun t =>
    t.fab.selfStep = (s.fab.selfStep + 1) % 136 ∧ EvFrame (K.bgHighWater :: (List.range 4).map K.health) [.clock, .fabric] s t)) ∧
  (∀ b s, (∀ g, g < 4 → roleEn s g = false ∨ roleStandby (roleAt s g) = false) → Runs (.standbySelftestStep b) s (fun t => Frame [] [] s t))

/-- A renewal from the active node is granted and recorded; with a majority of grants the active member holds the lease; a lapse demotes it, and is noted by a standby; a claim is recorded, and
decided for the lowest claimant. Without redundant operation a needed block is confirmed locally; a standby records the ceiling of a request, and the last confirmation raises the ceiling; an
active member without its standby confirms locally, one with it asks; a replay sync is sent in rotating order and only raises NEXT_PN. -/
def Obligations.Leases : Prop :=
  (∀ m g s, GroupMsg s m Msg.renew g → roleLease s g = true → (roleAt s g).node = some m.src → Runs (.leaseRenewRx m) s (fun t =>
    rd t (K.leaseExpiry g) = wordsTick m.payload 0 ∧ (roleAt t g).lapsed = false ∧
    Frame (K.leaseExpiry g :: rxKey s m :: txKeys) [.fabric, .out] s t)) ∧
  (∀ m g s, GroupMsg s m Msg.renew g → roleLease s g = true → (roleAt s g).node ≠ some m.src → Runs (.leaseRenewRx m) s (fun t =>
    roleAt t g = roleAt s g ∧ Frame (rxKey s m :: txKeys) [.fabric, .out] s t)) ∧
  (∀ m g s, MsgFor s m Msg.renew → 2 ≤ m.ver → entryOf s m.group = some g → m.epoch ≠ roleEpochOf s g → Runs (.leaseRenewRx m) s (fun t =>
    Counts s t (K.roleStaleRx g) 1 ∧ Frame (K.roleStaleRx g :: rxKey s m :: txKeys) [.fabric, .out] s t)) ∧
  (∀ m g s, GroupMsg s m Msg.answer g → roleLease s g = true → bit (nth m.payload 0) 31 = true → wordsTick m.payload 1 = (roleAt s g).want →
    (roleAt s g).want ≠ none64 → m.src ∉ (roleAt s g).grants → m.src ∈ roleMembers s g →
    majority s g ((roleAt s g).grants.length + 1) = true → (roleAt s g).st = 2 → Runs (.leaseAnswerRx m) s (fun t =>
      rd t (K.leaseExpiry g) = (roleAt s g).want ∧ (roleAt t g).grants = m.src :: (roleAt s g).grants ∧ (roleAt t g).st = 2 ∧
      Frame [K.leaseExpiry g, rxKey s m] [.fabric] s t)) ∧
  (∀ m g s, GroupMsg s m Msg.answer g → roleLease s g = true → (bit (nth m.payload 0) 31 = false ∨ wordsTick m.payload 1 ≠ (roleAt s g).want) →
    Runs (.leaseAnswerRx m) s (fun t => Frame [rxKey s m] [] s t)) ∧
  (∀ m g s, GroupMsg s m Msg.answer g → roleLease s g = true → bit (nth m.payload 0) 31 = true → wordsTick m.payload 1 = (roleAt s g).want →
    (roleAt s g).want ≠ none64 → m.src ∉ (roleAt s g).grants → m.src ∈ roleMembers s g →
    majority s g ((roleAt s g).grants.length + 1) = false → Runs (.leaseAnswerRx m) s (fun t =>
      (roleAt t g).grants = m.src :: (roleAt s g).grants ∧ (roleAt t g).st = (roleAt s g).st ∧ Frame [rxKey s m] [.fabric] s t)) ∧
  (∀ g s, g < 4 → roleLease s g = true → rd s (K.leaseExpiry g) ≠ none64 → dueNow s (rd s (K.leaseExpiry g)) = true →
    (roleAt s g).lapsed = false → roleActive (roleAt s g) = true → Runs (.leaseExpiry g) s (fun t => (roleAt t g).st = 1 ∧
      t.fab.halted = true ∧ Pending t Ev.roleDemoted ∧ Pending t Ev.leaseLost ∧ EvFrame [K.resyncLeft] [.clock, .fabric] s t)) ∧
  (∀ g s, g < 4 → roleLease s g = true → rd s (K.leaseExpiry g) ≠ none64 → dueNow s (rd s (K.leaseExpiry g)) = true →
    (roleAt s g).lapsed = false → roleActive (roleAt s g) = false → Runs (.leaseExpiry g) s (fun t => (roleAt t g).lapsed = true ∧
      Frame [] [.clock, .fabric] s t)) ∧
  (∀ m g s, GroupMsg s m Msg.claim g → roleLease s g = true → m.src ∈ roleMembers s g → Runs (.leaseClaimRx m) s (fun t =>
    (roleAt t g).claims = (roleAt s g).claims ++ [(m.src, wordsTick m.payload 0)] ∧ Frame [rxKey s m] [.fabric] s t)) ∧
  (∀ g s, (∀ k, k < 4 → roleLease s k = decide (k = g)) → g < 4 → (roleAt s g).claims ≠ [] →
    rd s (K.leaseExpiry g) = none64 → ranNow s 3 = false → Runs .leaseClaimDecide s (fun t => (roleAt t g).claims = [] ∧
      (∃ c ∈ (roleAt s g).claims, (∀ b ∈ (roleAt s g).claims, c.1 ≤ b.1) ∧ rd t (K.leaseExpiry g) = c.2) ∧
      Frame (K.leaseExpiry g :: txKeys) [.clock, .fabric, .out] s t)) ∧
  (∀ g s, (∀ k, k < 4 → roleLease s k = decide (k = g)) → g < 4 → (roleAt s g).claims ≠ [] →
    rd s (K.leaseExpiry g) ≠ none64 → dueNow (toCc s 960) (rd s (K.leaseExpiry g)) = false → ranNow s 3 = false → Runs .leaseClaimDecide s (fun t =>
      (roleAt t g).claims = [] ∧ Frame txKeys [.clock, .fabric, .out] s t)) ∧
  (∀ s, (∀ k, k < 4 → roleLease s k = true → (roleAt s k).claims = []) → Runs .leaseClaimDecide s (fun t => Frame [] [.clock] s t)) ∧
  (∀ s, (∀ k, k < 4 → roleLease s k = false) → s.assoc.skips = [] → s.lines.l1Skips = [] → Runs .commitReport s (fun t => Frame [] [.clock] s t)) ∧
  (∀ h l s, (∀ k, k < 4 → roleLease s k = false) → s.assoc.skips = h :: l → s.lines.l1Skips = [] → Runs .commitReport s (fun t => rd t K.skipTick = tickNo s ∧
    Counts s t K.commitSkipped (l.length + 1) ∧
    rd t K.skipCount = l.length + 1 ∧ rd t K.skipFirst = l.foldl min h ∧ rd t K.skipLast = l.foldl max h ∧ t.assoc.skips = [] ∧
    Pending t Ev.saCommitSkipped ∧ EvFrame [K.commitSkipped, K.skipTick, K.skipCount, K.skipFirst, K.skipLast] [.clock, .assoc] s t)) ∧
  (∀ s, activeEntry s = none → (∀ k, k < 4 → roleEn s k = false) → ranNow s 4 = false → Runs .reservationSend s (fun t =>
    (∀ h, h ∈ resvNeeds s → (saAt t h).conf = true ∧ (saAt s h).ceiling ≤ (saAt t h).ceiling) ∧
    (∀ h, h ∉ resvNeeds s → saAt t h = saAt s h) ∧ Frame [K.resvPending] [.clock, .assoc] s t)) ∧
  (∀ g s, activeEntry s = some g → (roleAt s g).st = 3 → (∀ k, k < 4 → roleLease s k = false) → ranNow s 4 = false → Runs .reservationSend s (fun t =>
    (∀ h, h ∈ resvNeeds s → (saAt t h).conf = true ∧ (saAt s h).ceiling ≤ (saAt t h).ceiling) ∧
    (∀ h, h ∉ resvNeeds s → saAt t h = saAt s h) ∧ Frame [K.resvPending] [.clock, .assoc] s t)) ∧
  (∀ g s, activeEntry s = some g → (roleAt s g).st ≠ 3 → (roleAt s g).resync = [] → (∀ k, k < 4 → roleLease s k = false) → ranNow s 4 = false →
    Runs .reservationSend s (fun t => (∀ h ∈ (resvNeeds s).take (rd s K.resvPerTick), (saAt t h).asked = ceilNext s (saAt s h) ∧
      (saAt t h).ceiling = (saAt s h).ceiling) ∧ (∀ h, h ∉ (resvNeeds s).take (rd s K.resvPerTick) → saAt t h = saAt s h) ∧
      Frame (K.resvPending :: txKeys) [.clock, .assoc, .fabric, .out] s t)) ∧
  (∀ m g h q a b s, GroupMsg s m Msg.resvReq g → m.payload = [q, h, a, b] → h < 2 ^ 17 → saLocal s (saAt s h) = false →
    (saAt s h).node = m.src → (saAt s h).resv = true → (saAt s h).st = Sa.active → (roleAt s g).seqRx = none → Runs (.resvReqRx m) s (fun t =>
      (saAt t h).ceiling = max (saAt s h).ceiling (a * 2 ^ 32 + b) ∧ (saAt t h).conf = true ∧ (roleAt t g).seqRx = some q ∧
      Frame (rxKey s m :: txKeys) [.assoc, .fabric, .out] s t)) ∧
  (∀ m g h q a b s, GroupMsg s m Msg.resvConf g → m.payload = [q, h, a, b] → h < 2 ^ 17 → (saAt s h).asked ≠ 0 → (saAt s h).asked ≤ a * 2 ^ 32 + b →
    resvTo s g = [m.src] → (roleAt s g).st = 2 → Runs (.resvConfRx m) s (fun t =>
      (saAt t h).ceiling = max (saAt s h).ceiling (saAt s h).asked ∧ (saAt t h).conf = true ∧ (saAt t h).asked = 0 ∧
      Frame [rxKey s m, K.resvPending] [.assoc, .fabric] s t)) ∧
  (∀ s, activeEntry s = none → Runs .replaySyncSend s (fun t => Frame [] [.clock] s t)) ∧
  (∀ g s, activeEntry s = some g → rd s K.insyncPerTick = 0 → ranNow s 5 = false → Runs .replaySyncSend s (fun t => rd t K.insyncLag = 2 ^ 32 - 1 ∧
    Frame [K.insyncLag] [.clock] s t)) ∧
  (∀ g s, activeEntry s = some g → 0 < rd s K.insyncPerTick → 3 ≤ rd s K.fabVersionMax → replayTo s g ≠ [] →
    (replayLeft s).length ≤ rd s K.insyncPerTick → replayLeft s ≠ [] → ranNow s 5 = false → Runs .replaySyncSend s (fun t => t.fab.syncPos = 0 ∧
      rd t K.insyncLag = (s.tick.elapsed + 1 - (if s.fab.syncPos = 0 then s.tick.elapsed else s.fab.syncStart)) % 2 ^ 32 ∧
      Frame (K.insyncLag :: txKeys) [.clock, .fabric, .out] s t)) ∧
  (∀ g s, activeEntry s = some g → 0 < rd s K.insyncPerTick → 3 ≤ rd s K.fabVersionMax → replayTo s g ≠ [] →
    rd s K.insyncPerTick < (replayLeft s).length → ranNow s 5 = false → Runs .replaySyncSend s (fun t =>
      t.fab.syncPos = ((replayLeft s).take (rd s K.insyncPerTick)).getLast?.getD 0 + 1 ∧ Frame txKeys [.clock, .fabric, .out] s t)) ∧
  (∀ g d o s, activeEntry s = some g → 3 ≤ rd s K.fabVersionMax → replayTo s g = [d] → routeTo s 3 d = some o →
    (replayLeft s).length ≤ rd s K.insyncPerTick → (replayLeft s).length ≤ 85 → replayLeft s ≠ [] → ranNow s 5 = false → Runs .replaySyncSend s (fun t =>
      ∃ m, t.out = .fab o m :: s.out ∧ m.typ = Msg.replay ∧ m.dst = d ∧
        m.payload = (replayLeft s).flatMap (fun h => h :: toWords 2 (saAt s h).pn))) ∧
  (∀ m g h a b s, GroupMsg s m Msg.replay g → m.payload = [h, a, b] → h < 2 ^ 17 → saLocal s (saAt s h) = false → (saAt s h).node = m.src →
    Runs (.replaySyncRx m) s (fun t => saAt t h = { saAt s h with pn := max (saAt s h).pn (a * 2 ^ 32 + b) } ∧
      (∀ k, k ≠ h → saAt t k = saAt s k) ∧ Frame [rxKey s m, K.insyncLag] [.assoc, .fabric] s t))

/-- MIG_TICK arms a migration, here or with a move check to another node, and refuses a second; a target accepts a move check whose SAs are all remote with complete keys on one of its ports; the source notes its answer; a moved outbound
SA goes on from its ceiling with RESV and else from its NEXT_PN; the old owner's statistics are added; at the end of the drain the old placement is over. -/
def Obligations.Migrations : Prop :=
  (∀ r (v : Nat) s, v < none64 → rd s K.migTick = none64 → rd s K.migNode = nodeId s → armOk s v = true → Admitted s r K.migTick true →
    Runs (.migTickWrite r v) s (fun t => Answers t [] ∧ rd t K.migTick = v ∧ Frame [K.migTick] [.chans, .assoc] s t)) ∧
  (∀ r v s, rd s K.migTick ≠ none64 → Admitted s r K.migTick true → Runs (.migTickWrite r v) s (fun t => t.reply.code = .wrongState ∧
    Frame [] [.chans] s t)) ∧
  (∀ r (v : Nat) s, v < none64 → rd s K.migTick = none64 → rd s K.migNode ≠ nodeId s → reaches s 3 (rd s K.migNode) = false →
    Admitted s r K.migTick true → Runs (.migTickWrite r v) s (fun t => t.reply.code = .unsupportedValue ∧ Frame [] [.chans] s t)) ∧
  (∀ r (v : Nat) c o s, v < none64 → rd s K.migTick = none64 → rd s K.migNode = c → c ≠ nodeId s → routeTo s 3 c = some o → armOk s v = true →
    Admitted s r K.migTick true → Runs (.migTickWrite r v) s (fun t => Answers t [] ∧ rd t K.migTick = v ∧ t.assoc.migOk = false ∧
      (∃ m, t.out = .fab o m :: s.out ∧ m.typ = Msg.moveCheck ∧ m.dst = c ∧
        m.payload = [rd s K.migSc, rd s K.migPort] ++ tickWords v ++ [migEpoch s (rd s K.migSc)]) ∧
      Frame (K.migTick :: txKeys) [.chans, .assoc, .fabric, .out] s t)) ∧
  (∀ m c p a b e s, MsgFor s m Msg.moveCheck → m.payload = [c, p, a, b, e] → c < 65536 → e < 65536 → isPort s p = true → s.fab.target = none →
    (∀ h ∈ scHandles (scAt s c), saLocal s (saAt s h) = false ∧ (slotAt s h).complete = true) → Runs (.saMoveCheckRx m) s (fun t =>
      t.fab.target = some ⟨c, p, a * 2 ^ 32 + b, e, m.src⟩ ∧ Frame (rxKey s m :: txKeys) [.fabric, .out] s t)) ∧
  (∀ m s, MsgFor s m Msg.moveAnswer → rd s K.migTick ≠ none64 → rd s K.migNode = m.src → Runs (.moveAnswerRx m) s (fun t =>
    t.assoc.migOk = bit (nth m.payload 0) 31 ∧ Frame [rxKey s m] [.assoc] s t)) ∧
  (∀ m h a b c d s, MsgFor s m Msg.move → m.payload = [h, a, b, c, d] → h < 2 ^ 17 → saLocal s (saAt s h) = true →
    (scAt s (saAt s h).sc).inbound = false → (saAt s h).waitMove = true → Runs (.saMoveRx m) s (fun t =>
      saAt t h = { saAt s h with pn := if resvApplies s (saAt s h) then c * 2 ^ 32 + d else a * 2 ^ 32 + b, ceiling := c * 2 ^ 32 + d, waitMove := false } ∧
      (∀ k, k ≠ h → saAt t k = saAt s k) ∧ Frame [rxKey s m] [.assoc] s t)) ∧
  (∀ m h a b c d e f s, MsgFor s m Msg.final → m.payload = [h, a, b, c, d, e, f] → h < 2 ^ 17 → saLocal s (saAt s h) = true →
    Runs (.saFinalRx m) s (fun t => (statAt t h).frames = ((statAt s h).frames + (a * 2 ^ 32 + b)) % 2 ^ 64 ∧
      (statAt t h).octets = ((statAt s h).octets + (c * 2 ^ 32 + d)) % 2 ^ 64 ∧ (statAt t h).fails = ((statAt s h).fails + e) % 2 ^ 32 ∧
      (statAt t h).drops = ((statAt s h).drops + f) % 2 ^ 32 ∧ (∀ k, k ≠ h → statAt t k = statAt s k) ∧ Frame [rxKey s m] [.assoc] s t)) ∧
  (∀ c x s, s.assoc.moved = [(c, x)] → x.overl = false → dueNow s x.until_ = true → Runs .migrationDrainEnd s (fun t =>
    tget ⟨0, 0, 0, true⟩ t.assoc.moved c = { x with overl := true } ∧ Frame txKeys [.clock, .assoc, .fabric, .out] s t)) ∧
  (∀ s, (∀ y ∈ s.assoc.moved, y.2.overl = true ∨ dueNow s y.2.until_ = false) → Runs .migrationDrainEnd s (fun t => Frame [] [.clock] s t))
/-- Enabling a region draws its keys and starts its lines anew, and disabling is refused while a job or the shadow compare names it; the window moves word by word, a full line buffer is
written under the region's keys, with its tag and parity, and raises its counter, or stays where the region no longer admits the world, a good line reads its word, one that fails its check is poisoned and the access ends in a memory error; a refused internal request is counted; the shadow compare goes on by its step; a flash transfer counts its retries and, after the fourth failure, itself. -/
def Obligations.ExternalMemory : Prop :=
  (∀ r n (v : Nat) s, n < 64 → v < 2 ^ 32 → bits v 2 1 ≠ 3 → rdBit s (K.regionCtrl n) 0 = false → rdBit s K.startupStatus 11 = false →
    Admitted s r (K.regionCtrl n) true → Runs (.regionEnable r n v) s (fun t => Answers t [] ∧ rd t (K.regionStatus n) = 2 ∧
      rd t (K.regionCtrl n) = setBit v 0 true % 8 ∧ (tget [] t.hbm.keys n).length = 64 ∧ (∀ k, k / 2 ^ 25 = n → hlineAt t k = hline0) ∧
      (∀ k, k / 2 ^ 25 ≠ n → hlineAt t k = hlineAt s k) ∧
      Frame [K.regionCtrl n, K.regionStatus n, K.ctrCacheDirty] [.chans, .hbm, .draws] s t)) ∧
  (∀ r n (v : Nat) s, n < 64 → v < 2 ^ 32 → bits v 2 1 = regionWorld s n → bits v 2 1 ≠ 3 → rdBit s (K.regionCtrl n) 0 = true →
    shadowNames s n = false → berylNames s n = false → Admitted s r (K.regionCtrl n) true → Runs (.regionDisable r n v) s (fun t => Answers t [] ∧
      rd t (K.regionStatus n) = 0 ∧ rdBit t (K.regionCtrl n) 0 = false ∧ tget [] t.hbm.keys n = [] ∧ (∀ k, k / 2 ^ 25 = n → hlineAt t k = hline0) ∧
      Frame [K.regionCtrl n, K.regionStatus n, K.ctrCacheDirty] [.chans, .hbm] s t)) ∧
  (∀ r n (v : Nat) s, n < 64 → v < 2 ^ 32 → bits v 2 1 = regionWorld s n → bits v 2 1 ≠ 3 → rdBit s (K.regionCtrl n) 0 = true →
    (shadowNames s n = true ∨ berylNames s n = true) → Admitted s r (K.regionCtrl n) true → Runs (.regionDisable r n v) s (fun t =>
      t.reply.code = .wrongState ∧ Frame [] [.chans] s t)) ∧
  (∀ n s, n < 64 → rdBit s (K.regionStatus n) 1 = true → Runs (.regionInitDone n) s (fun t => rd t (K.regionStatus n) = 1 ∧
    Frame [K.regionStatus n] [] s t)) ∧
  (∀ r f (v : Nat) s, bits v 27 0 ≤ regionBytes - 4 → bits v 27 0 % 4 = 0 → heldByOther s Grp.hbm r.ch = false → s.hbm.buf = none →
    Admitted s r K.hbmAddr true → Runs (.hbmAddrWrite r v f) s (fun t => Answers t [] ∧ hbmPtr t = (bits v 37 32, bits v 27 0) ∧
      Frame [K.hbmAddr] [.chans, .staging] s t)) ∧
  (∀ r f n off (v : Nat) s, v < 2 ^ 32 → hbmPtr s = (n, off) → off / 4 % 16 ≠ 15 → s.hbm.buf = none → heldByOther s Grp.hbm r.ch = false →
    worldMay s n (secure s r) true = true → regionReady s n = true → inHold s = false → berylLocked s (true, n, off, 4) = false →
    Admitted s r K.hbmData true → Runs (.hbmDataWrite r v f) s (fun t => Answers t [] ∧ t.hbm.buf = some (n, off / 64, [(off / 4 % 16, some v)]) ∧
      t.hbm.lines = s.hbm.lines ∧ rd t K.hbmAddr = n * 2 ^ 32 + (off + 4) % regionBytes ∧ Frame [K.hbmAddr] [.chans, .staging, .hbm] s t)) ∧
  (∀ r f n off ws (v : Nat) s, v < 2 ^ 32 → hbmPtr s = (n, off) → off / 4 % 16 ≠ 15 → s.hbm.buf = some (n, off / 64, ws) → heldByOther s Grp.hbm r.ch = false →
    worldMay s n (secure s r) true = true → regionReady s n = true → inHold s = false → berylLocked s (true, n, off, 4) = false →
    Admitted s r K.hbmData true → Runs (.hbmDataWrite r v f) s (fun t => Answers t [] ∧
      t.hbm.buf = some (n, off / 64, tset none ws (off / 4 % 16) (some v)) ∧
      t.hbm.lines = s.hbm.lines ∧ rd t K.hbmAddr = n * 2 ^ 32 + (off + 4) % regionBytes ∧ Frame [K.hbmAddr] [.chans, .staging, .hbm] s t)) ∧
  (∀ r f n off ws (v : Nat) s, v < 2 ^ 32 → hbmPtr s = (n, off) → off / 4 % 16 = 15 → s.hbm.buf = some (n, off / 64, ws) → heldByOther s Grp.hbm r.ch = false →
    worldMay s n (secure s r) true = true → regionReady s n = true → inHold s = false → berylLocked s (true, n, off, 4) = false →
    (hlineAt s (lineKey n 0 (off / 64))).retired = false → above s n 0 (off / 64) (·.retired) = false →
    (hlineAt s (lineKey n 0 (off / 64))).poison = false → above s n 0 (off / 64) (·.poison) = false →
    (hlineAt s (lineKey n 0 (off / 64))).ctr + 1 < ctrEnd → s.hbm.dirty.length < cacheLines →
    (f = MemFault.good ∨ f = MemFault.oneSymbol ∨ (bufPatch (tset none ws 15 (some v))).all (·.isSome) = true) →
    Admitted s r K.hbmData true → Runs (.hbmDataWrite r v f) s (fun t => Answers t [] ∧ t.hbm.buf = none ∧ rdField t K.hbmStatus 7 0 = 1 ∧
      rd t K.hbmAddr = n * 2 ^ 32 + (off + 4) % regionBytes ∧
      lineData t n (off / 64) = List.zipWith (fun (a : Option Byte) b => a.getD b) (bufPatch (tset none ws 15 (some v))) (lineData s n (off / 64)) ∧
      (∀ k, k ≠ lineKey n 0 (off / 64) → hlineAt t k = hlineAt s k) ∧
      Frame [K.hbmAddr, K.hbmStatus, K.ctrCacheDirty, K.memCorrected] [.chans, .staging, .hbm, .perf] s t)) ∧
  (∀ r f n line ws s, heldByOther s Grp.hbm r.ch = false → s.hbm.buf = some (n, line, ws) → worldMay s n (secure s r) true = true →
    regionReady s n = true → inHold s = false →
    (hlineAt s (lineKey n 0 line)).retired = false → above s n 0 line (·.retired) = false → (hlineAt s (lineKey n 0 line)).poison = false →
    above s n 0 line (·.poison) = false → (hlineAt s (lineKey n 0 line)).ctr + 1 < ctrEnd → s.hbm.dirty.length < cacheLines →
    (f = MemFault.good ∨ f = MemFault.oneSymbol ∨ (bufPatch ws).all (·.isSome) = true) →
    Admitted s r K.hbmFlush true → Runs (.hbmFlush r f) s (fun t => Answers t [] ∧ t.hbm.buf = none ∧ rdField t K.hbmStatus 7 0 = 1 ∧
      lineData t n line = List.zipWith (fun (a : Option Byte) b => a.getD b) (bufPatch ws) (lineData s n line) ∧
      (hlineAt t (lineKey n 0 line)).tag = lineTag (tagKey s n) (lineAddr n 0 line) ((hlineAt s (lineKey n 0 line)).ctr + 1)
        (hlineAt t (lineKey n 0 line)).cipher ∧
      (hlineAt t (lineKey n 0 line)).par = rsParity ((hlineAt t (lineKey n 0 line)).cipher ++ (hlineAt t (lineKey n 0 line)).tag) ∧
      (hlineAt t (lineKey n 0 line)).written = true ∧ (hlineAt t (lineKey n 0 line)).ctr = (hlineAt s (lineKey n 0 line)).ctr + 1 ∧
      (∀ k, k ≠ lineKey n 0 line → hlineAt t k = hlineAt s k) ∧ lineKey n 1 (line / 8) ∈ t.hbm.dirty ∧
      Frame [K.hbmStatus, K.ctrCacheDirty, K.memCorrected] [.chans, .staging, .hbm, .perf] s t)) ∧
  (∀ r n line ws s, heldByOther s Grp.hbm r.ch = false → s.hbm.buf = some (n, line, ws) → worldMay s n (secure s r) true = true →
    regionReady s n = true → inHold s = false →
    (hlineAt s (lineKey n 0 line)).retired = false → above s n 0 line (·.retired) = false → (hlineAt s (lineKey n 0 line)).poison = false →
    above s n 0 line (·.poison) = false → (hlineAt s (lineKey n 0 line)).written = true → s.hbm.dirty.length < cacheLines →
    (bufPatch ws).all (·.isSome) = false → Admitted s r K.hbmFlush true → Runs (.hbmFlush r .undecodable) s (fun t =>
      t.reply.code = .memoryError ∧ rdField t K.hbmStatus 7 0 = 3 ∧ hlineAt t (lineKey n 0 line) = { hlineAt s (lineKey n 0 line) with poison := true } ∧
      Counts s t K.memUncorr 1 ∧ Pending t Ev.memUncorr ∧ EvFrame [K.hbmStatus, K.memUncorr] [.staging, .hbm] s t)) ∧
  (∀ r f n line ws s, heldByOther s Grp.hbm r.ch = false → s.hbm.buf = some (n, line, ws) → worldMay s n (secure s r) true = false →
    Admitted s r K.hbmFlush true → Runs (.hbmFlush r f) s (fun t => t.reply.code = .worldViolation ∧ t.hbm = s.hbm)) ∧
  (∀ r n off s, hbmPtr s = (n, off) → s.hbm.buf = none → worldMay s n (secure s r) false = true → regionReady s n = true → inHold s = false →
    berylLocked s (true, n, off, 4) = false → (hlineAt s (lineKey n 0 (off / 64))).poison = false → above s n 0 (off / 64) (·.poison) = false →
    s.hbm.dirty.length < cacheLines → Admitted s r K.hbmData false → Runs (.hbmDataRead r .good) s (fun t =>
      Answers t [ofBytes (((lineData s n (off / 64)).drop (off % 64)).take 4)] ∧ rdField t K.hbmStatus 7 0 = 1 ∧
      rd t K.hbmAddr = n * 2 ^ 32 + (off + 4) % regionBytes ∧ Frame [K.hbmAddr, K.hbmStatus] [.chans, .perf] s t)) ∧
  (∀ r n off s, hbmPtr s = (n, off) → s.hbm.buf = none → worldMay s n (secure s r) false = true → regionReady s n = true → inHold s = false →
    berylLocked s (true, n, off, 4) = false → (hlineAt s (lineKey n 0 (off / 64))).poison = false → above s n 0 (off / 64) (·.poison) = false →
    (hlineAt s (lineKey n 0 (off / 64))).written = true → s.hbm.dirty.length < cacheLines → Admitted s r K.hbmData false → Runs (.hbmDataRead r (.badTag 0)) s (fun t =>
      t.reply.code = .memoryError ∧ (hlineAt t (lineKey n 0 (off / 64))).poison = true ∧ rd t K.memLast = lineName n 0 (off / 64) ∧
      Counts s t K.memTagFails 1 ∧ EvFrame [K.hbmStatus, K.memTagFails, K.memLast] [.hbm] s t)) ∧
  (∀ n line s, regionReady s n = false → Runs (.hbmReadDeliver .shadow n line .good) s (fun t => Counts s t K.masterRefused 1 ∧
    EvFrame [K.masterRefused] [] s t)) ∧
  (∀ n line s, regionReady s n = true → (hlineAt s (lineKey n 0 line)).poison = false → above s n 0 line (·.poison) = false →
    s.hbm.dirty.length < cacheLines → Runs (.hbmReadDeliver .beryl n line .good) s (fun t => Frame [] [.perf] s t)) ∧
  (∀ n line s, n < 64 → regionReady s n = true → Runs (.memLateAlarm n 0 line) s (fun t => (hlineAt t (lineKey n 0 line)).poison = true ∧
    Counts s t K.memTagFails 1 ∧ rd t K.memLast = lineName n 0 line ∧ EvFrame [K.memTagFails, K.memLast] [.hbm, .beryl] s t)) ∧
  (∀ s, s.hbm.dirty = [] → Runs .hbmCounterWriteback s (fun t => Frame [K.bgHighWater] [.clock, .perf] s t)) ∧
  (∀ n line s, n < 64 → line < 2 ^ 22 → s.hbm.dirty = [lineKey n 6 line] → (hlineAt s (lineKey n 6 line)).ctr + 1 < ctrEnd → inHold s = false → bgSlot s 1 ≠ none →
    Runs .hbmCounterWriteback s (fun t => t.hbm.dirty = [] ∧ (hlineAt t (lineKey n 6 line)).ctr = (hlineAt s (lineKey n 6 line)).ctr + 1 ∧
      rd t K.ctrCacheDirty = 0 ∧ Frame [K.bgHighWater, K.ctrCacheDirty] [.clock, .hbm, .perf] s t)) ∧
  (∀ l s, rdBit s K.shadowCtrl 0 = false → Runs (.shadowCompareStep l) s (fun t => Frame [] [] s t)) ∧
  (∀ l s, rdBit s K.shadowCtrl 0 = true → rdBit s K.shadowCtrl 1 = false → regionReady s (rdField s K.shadowCtrl 13 8) = false → bgSlot s 2 ≠ none →
    Runs (.shadowCompareStep l) s (fun t => Counts s t K.shadowSuspect 1 ∧ Counts s t K.masterRefused 1 ∧
      EvFrame [K.bgHighWater, K.masterRefused, K.shadowSuspect] [.clock] s t)) ∧
  (∀ l s, rdBit s K.shadowCtrl 0 = true → rdBit s K.shadowCtrl 1 = false → regionReady s (rdField s K.shadowCtrl 13 8) = true →
    regionWorld s (rdField s K.shadowCtrl 13 8) ≠ 2 → bgSlot s 2 ≠ none → s.hbm.dirty.length < cacheLines → Runs (.shadowCompareStep l) s (fun t =>
      t.tables.shPos = (s.tables.shPos + 1) % 2048 ∧ (s.tables.shPos = 2047 → Counts s t K.shadowPasses 1) ∧ t.hbm.lines = s.hbm.lines ∧
      EvFrame [K.bgHighWater, K.shadowPasses, K.shadowSuspect, K.shadowMismatch, K.shadowLast] [.clock, .tables] s t)) ∧
  (∀ bad s, bad < 4 → s.keys.link.isSome = true → Runs (.flashTransfer bad) s (fun t => Counts s t K.flRetries bad ∧
    t.keys.linkCnt = s.keys.linkCnt + 1 + bad ∧ Frame [K.flRetries] [.keys] s t)) ∧
  (∀ bad s, 4 ≤ bad → s.keys.link.isSome = true → s.keys.op = none → s.keys.bindJob = none → s.boot.update = none →
    Runs (.flashTransfer bad) s (fun t => Counts s t K.flRetries 3 ∧ Counts s t K.flFails 1 ∧ t.keys.linkCnt = s.keys.linkCnt + 4 ∧
      Pending t Ev.flashLinkFail ∧ EvFrame [K.flRetries, K.flFails] [.keys] s t)) ∧
  (∀ bad s, s.keys.link = none → Runs (.flashTransfer bad) s (fun t => Frame [] [] s t))

/-- BERYL_DESC writes gather in the staging copy; a submit queues an accepted descriptor and refuses a full queue; urgent jobs start first, may suspend a normal one, which keeps what it consumed and has its output so far in place, and it resumes; a job whose
check passes writes its output and completes with status 1, one whose check fails with 2, counted; completions are read in two words; an abort stops what it names with status 8 and zeroes its output. -/
def Obligations.LookasideJobs : Prop :=
  (∀ r (v : Nat) s, v < 2 ^ 32 → s.beryl.ptr < 20 → heldByOther s Grp.beryl r.ch = false → Admitted s r K.berylDesc true →
    Runs (.berylDescWrite r v) s (fun t => Answers t [] ∧ stageOf t Grp.beryl = lset (descStage s) s.beryl.ptr (Nat.land v (nth descMask s.beryl.ptr)) ∧
      t.beryl.ptr = (s.beryl.ptr + 1) % 20 ∧ Frame [] [.chans, .staging, .beryl] s t)) ∧
  (∀ r s, heldByOther s Grp.beryl r.ch = false → descOk (descStage s) = true → s.beryl.urgent.length < 8 → berylClearing s = false →
    (keyBlock s = true → opKeyEntry (dOp (descStage s)) = false) → Admitted s r K.berylSubmit true → Runs (.berylSubmitUrgent r) s (fun t =>
      Answers t [] ∧ t.beryl.urgent = s.beryl.urgent ++ [descStage s] ∧ stageOf t Grp.beryl = [] ∧ Frame [] [.chans, .staging, .beryl] s t)) ∧
  (∀ r s, heldByOther s Grp.beryl r.ch = false → descOk (descStage s) = true → s.beryl.normal.length < 32 → berylClearing s = false →
    (keyBlock s = true → opKeyEntry (dOp (descStage s)) = false) → Admitted s r K.berylSubmit true → Runs (.berylSubmitNormal r) s (fun t =>
      Answers t [] ∧ t.beryl.normal = s.beryl.normal ++ [descStage s] ∧ stageOf t Grp.beryl = [] ∧ Frame [] [.chans, .staging, .beryl] s t)) ∧
  (∀ r s, heldByOther s Grp.beryl r.ch = false → descOk (descStage s) = true → 32 ≤ s.beryl.normal.length → Admitted s r K.berylSubmit true →
    Runs (.berylSubmitNormal r) s (fun t => t.reply.code = .wrongState ∧ t.beryl = s.beryl ∧ Frame [] [.chans, .staging] s t)) ∧
  (∀ d l s, s.beryl.run = none → s.beryl.done.length < 64 → berylClearing s = false → s.beryl.urgent = d :: l → Runs .berylJobStart s (fun t =>
    (∃ key, t.beryl.run = some ⟨d, true, berylStartStatus s d, false, key, [], 0, false⟩) ∧ t.beryl.urgent = l ∧ Frame [] [.beryl] s t)) ∧
  (∀ j s, s.beryl.run = none → s.beryl.done.length < 64 → berylClearing s = false → s.beryl.urgent = [] → s.beryl.susp = some j →
    Runs .berylJobStart s (fun t => t.beryl.run = some j ∧ t.beryl.susp = none ∧ Frame [] [.beryl] s t)) ∧
  (∀ d l s, s.beryl.run = none → s.beryl.done.length < 64 → berylClearing s = false → s.beryl.urgent = [] → s.beryl.susp = none → s.beryl.normal = d :: l →
    Runs .berylJobStart s (fun t => (∃ key, t.beryl.run = some ⟨d, false, berylStartStatus s d, false, key, [], 0, false⟩) ∧ t.beryl.normal = l ∧
      Frame [] [.beryl] s t)) ∧
  (∀ s, (s.beryl.run.isSome = true ∨ 64 ≤ s.beryl.done.length ∨ s.beryl.urgent = [] ∧ s.beryl.susp = none ∧ s.beryl.normal = []) →
    Runs .berylJobStart s (fun t => Frame [] [] s t)) ∧
  (∀ j x out s, s.beryl.run = some j → j.urgent = false → j.fail = 0 → dOp j.desc < 0x10 → s.beryl.urgent ≠ [] → berylClearing s = false →
    (srcRange j.desc).1 = false → (dstRange j.desc).1 = false →
    x = j.ctx ++ ioBytes s ((srcRange j.desc).2.2.1 + j.ctx.length) (berylReached s j - j.ctx.length) → out = berylStream j.desc j.key x →
    Runs .berylSuspend s (fun t => t.beryl.run = none ∧ t.beryl.susp = some { j with ctx := x, put := out.length } ∧
      t.beryl.io = (ioPut s ((dstRange j.desc).2.2.1 + j.put) (out.drop j.put)).beryl.io ∧ Counts s t K.berylPreempts 1 ∧
      Frame [K.berylPreempts] [.beryl] s t)) ∧
  (∀ j b f out s, s.beryl.run = some j → berylClearing s = false → j.fail = 0 → j.suspect = false → (srcRange j.desc).1 = false →
    (dstRange j.desc).1 = false → opKeyEntry (dOp j.desc) = false → j.refused = false → s.beryl.done = [] → s.beryl.held = [] →
    berylCompute j.desc j.key (j.ctx ++ ioBytes s ((srcRange j.desc).2.2.1 + j.ctx.length) ((srcRange j.desc).2.2.2 - j.ctx.length)) = some out → Runs (.berylJobDone b f) s (fun t =>
      t.beryl.run = none ∧ t.beryl.done = [(dWord j.desc 0 7 0 * 2 ^ 24 + b2n j.urgent * 2 ^ 16 + 1, dLen j.desc)] ∧
      t.beryl.io = (ioPut s ((dstRange j.desc).2.2.1 + j.put) (out.drop j.put)).beryl.io ∧ Counts s t K.berylJobs 1 ∧ Pending t Ev.berylComplete ∧
      EvFrame [K.berylJobs] [.beryl] s t)) ∧
  (∀ j b f s, s.beryl.run = some j → berylClearing s = false → j.fail = 0 → j.suspect = false → (srcRange j.desc).1 = false →
    (dstRange j.desc).1 = false → s.beryl.done = [] → s.beryl.held = [] →
    berylCompute j.desc j.key (j.ctx ++ ioBytes s ((srcRange j.desc).2.2.1 + j.ctx.length) ((srcRange j.desc).2.2.2 - j.ctx.length)) = none → Runs (.berylJobDone b f) s (fun t =>
      t.beryl.run = none ∧ t.beryl.done = [(dWord j.desc 0 7 0 * 2 ^ 24 + b2n j.urgent * 2 ^ 16 + 2, dLen j.desc)] ∧
      t.beryl.io = (ioPut s (dstRange j.desc).2.2.1 (List.replicate (outLen j.desc) 0)).beryl.io ∧ Counts s t K.berylAuthFails 1 ∧
      Pending t Ev.berylAuthFail ∧ EvFrame [K.berylJobs, K.berylAuthFails] [.beryl] s t)) ∧
  (∀ r a b l s, s.beryl.done = (a, b) :: l → s.beryl.word = 0 → Admitted s r K.berylDone false → Runs (.berylDoneRead r) s (fun t =>
    Answers t [a] ∧ t.beryl.done = s.beryl.done ∧ t.beryl.word = 1 ∧ Frame [] [.chans, .beryl] s t)) ∧
  (∀ r a b l s, s.beryl.done = (a, b) :: l → s.beryl.word = 1 → s.beryl.held = [] → Admitted s r K.berylDone false →
    Runs (.berylDoneRead r) s (fun t => Answers t [b] ∧ t.beryl.done = l ∧ t.beryl.word = 0 ∧ Frame [] [.chans, .beryl] s t)) ∧
  (∀ r j s, berylClearing s = false → s.beryl.run = some j → j.urgent = false → j.fail = 0 → s.beryl.susp = none → (dstRange j.desc).1 = false →
    s.beryl.done = [] → s.beryl.held = [] → Admitted s r K.berylAbort true → Runs (.berylAbortNormal r) s (fun t => Answers t [] ∧
      t.beryl.run = none ∧ t.beryl.io = (ioPut s (dstRange j.desc).2.2.1 (List.replicate (outLen j.desc) 0)).beryl.io ∧
      (∃ n, n ≤ dLen j.desc ∧ t.beryl.done = [(dWord j.desc 0 7 0 * 2 ^ 24 + 8, n)]) ∧ Pending t Ev.berylComplete ∧
      EvFrame [K.berylJobs] [.beryl] s t)) ∧
  (∀ r j s, berylClearing s = false → s.beryl.run = some j → j.urgent = true → j.fail = 0 → (∀ k, s.beryl.susp = some k → k.urgent = false) →
    (dstRange j.desc).1 = false → s.beryl.done = [] → s.beryl.held = [] → Admitted s r K.berylAbort true → Runs (.berylAbortUrgent r) s (fun t => Answers t [] ∧
      t.beryl.run = none ∧ t.beryl.susp = s.beryl.susp ∧ t.beryl.io = (ioPut s (dstRange j.desc).2.2.1 (List.replicate (outLen j.desc) 0)).beryl.io ∧
      (∃ n, n ≤ dLen j.desc ∧ t.beryl.done = [(dWord j.desc 0 7 0 * 2 ^ 24 + 2 ^ 16 + 8, n)]) ∧ Pending t Ev.berylComplete ∧
      EvFrame [K.berylJobs] [.beryl] s t)) ∧
  (∀ r s, berylClearing s = false → (∀ j, s.beryl.run = some j → j.urgent = false) → (∀ j, s.beryl.susp = some j → j.urgent = false) →
    Admitted s r K.berylAbort true → Runs (.berylAbortUrgent r) s (fun t => Answers t [] ∧ Frame [] [.chans] s t)) ∧
  (∀ r s, berylClearing s = false → (∀ j ∈ startedJobs s, (dstRange j.desc).1 = false) → Admitted s r K.berylAbort true →
    Runs (.berylAbortAll r) s (fun t => Answers t [] ∧ t.beryl.run = none ∧ t.beryl.susp = none ∧ t.beryl.urgent = [] ∧ t.beryl.normal = [] ∧
      EvFrame [K.berylJobs] [.beryl] s t)) ∧
  (∀ r (v : Nat) s, v < 2 ^ 16 → Admitted s r K.berylKeyregClear true → Runs (.berylKeyregClear r v) s (fun t => Answers t [] ∧
    (∀ k, tget [] t.beryl.regs k = if bit v k = true then [] else tget [] s.beryl.regs k) ∧ Frame [] [.chans, .beryl] s t)) ∧
  (∀ r s, rd s K.berylIoAddr < 8192 → berylLocked s (false, 0, 4 * rd s K.berylIoAddr, 4) = false → Admitted s r K.berylIoData false →
    Runs (.berylIoDataAccess r .read) s (fun t => Answers t [tget 0 s.beryl.io (rd s K.berylIoAddr)] ∧
      rd t K.berylIoAddr = (rd s K.berylIoAddr + 1) % 8192 ∧ Frame [K.berylIoAddr] [.chans] s t)) ∧
  (∀ r (v : Nat) s, v < 2 ^ 32 → rd s K.berylIoAddr < 8192 → berylLocked s (false, 0, 4 * rd s K.berylIoAddr, 4) = false →
    Admitted s r K.berylIoData true → Runs (.berylIoDataAccess r (.write v)) s (fun t => Answers t [] ∧ tget 0 t.beryl.io (rd s K.berylIoAddr) = v ∧
      (∀ k, k ≠ rd s K.berylIoAddr → tget 0 t.beryl.io k = tget 0 s.beryl.io k) ∧ rd t K.berylIoAddr = (rd s K.berylIoAddr + 1) % 8192 ∧
      Frame [K.berylIoAddr] [.chans, .beryl] s t)) ∧
  (∀ s, berylClearing s = true → (∀ j ∈ startedJobs s, (dstRange j.desc).1 = false) → Runs .berylClearDone s (fun t =>
    berylClearing t = false ∧ t.beryl.io = [] ∧ t.beryl.run = none ∧ t.beryl.urgent = [] ∧ t.beryl.normal = [] ∧
    EvFrame [K.berylStatus, K.berylJobs] [.beryl] s t))

/-- A session claims the lowest free partition, keeps the one it has, is refused where none is free, and releases it; its window moves words of the partition's memory; every operation's command is taken where its fields are within R219 and no job is
waiting, and queues one; jobs run one at a time, the service controller's in partition 0 among them; an inverse, an RSA public result and a signature's verdict are what the operands give, a curve that is not loaded gives status 10, and completion
raises JASPER_COMPLETE; an abort clears the partition. -/
def Obligations.PublicKeyJobs : Prop :=
  (∀ r p s, r.ch < 4 → p ∈ [1, 2, 3] → jMine s r = none → (jpart s p).owner = none → (jpart s p).zeroing = false →
    (∀ q, q < p → q = 0 ∨ (jpart s q).owner ≠ none ∨ (jpart s q).zeroing = true) → Admitted s r K.jasperClaim true →
    Runs (.jasperClaim r) s (fun t => Answers t [] ∧ (jpart t p).owner = some r.ch ∧ jMine t r = some p ∧ (∀ q, q ≠ p → jpart t q = jpart s q) ∧
      Frame [] [.chans, .jasper] s t)) ∧
  (∀ r p s, jMine s r = some p → Admitted s r K.jasperClaim true → Runs (.jasperClaim r) s (fun t => Answers t [] ∧ Frame [] [.chans] s t)) ∧
  (∀ r s, jMine s r = none → (∀ q, q < 4 → q = 0 ∨ (jpart s q).owner ≠ none ∨ (jpart s q).zeroing = true) → Admitted s r K.jasperClaim true →
    Runs (.jasperClaim r) s (fun t => t.reply.code = .wrongState ∧ Frame [] [.chans] s t)) ∧
  (∀ r p s, jMine s r = some p → Admitted s r K.jasperClaim true → Runs (.jasperRelease r) s (fun t => Answers t [] ∧
    jpart t p = { jpart0 with zeroing := true } ∧ p ∉ t.jasper.queue ∧ t.jasper.run ≠ some p ∧ Frame [] [.chans, .jasper] s t)) ∧
  (∀ p s, (jpart s p).zeroing = true → Runs (.jasperZeroingDone p) s (fun t => jpart t p = { jpart s p with zeroing := false } ∧
    Frame [] [.jasper] s t)) ∧
  (∀ r p s, jMine s r = some p → (jpart s p).job = false → Admitted s r K.jasperData false → Runs (.jasperDataAccess r .read) s (fun t =>
    Answers t [tget 0 (jpart s p).mem (jpart s p).addr] ∧ jpart t p = { jpart s p with addr := ((jpart s p).addr + 1) % 1024 } ∧
    Frame [] [.chans, .jasper] s t)) ∧
  (∀ r p (v : Nat) s, v < 2 ^ 32 → jMine s r = some p → (jpart s p).job = false → Admitted s r K.jasperData true →
    Runs (.jasperDataAccess r (.write v)) s (fun t => Answers t [] ∧ tget 0 (jpart t p).mem (jpart s p).addr = v ∧
      (∀ k, k ≠ (jpart s p).addr → tget 0 (jpart t p).mem k = tget 0 (jpart s p).mem k) ∧ (jpart t p).addr = ((jpart s p).addr + 1) % 1024 ∧
      Frame [] [.chans, .jasper] s t)) ∧
  (∀ r a s, jMine s r = none → Admitted s r K.jasperData (a != .read) → Runs (.jasperDataAccess r a) s (fun t =>
    t.reply.code = .wrongState ∧ Frame [] [.chans] s t)) ∧
  (∀ r (v : Nat) i op p s, v < 2 ^ 24 →
    (i, op) ∈ [(Instr.ecdsaSign r v, 1), (.ecdsaVerify r v, 2), (.ecKeygen r v, 3), (.ecdh r v, 4), (.ecValidate r v, 5), (.x25519 r v, 8),
      (.x25519Keygen r v, 9), (.rsaPublic r v, 16), (.rsaPrivate r v, 17), (.modInv r v, 24), (.curveLoad r v, 32)] →
    jMine s r = some p → jCmdOk (op * 2 ^ 24 + v) = true → (jpart s p).job = false → Admitted s r K.jasperCmd true → Runs i s (fun t =>
      Answers t [] ∧ bits (jpart t p).cmd 31 24 = op ∧ bits (jpart t p).cmd 23 20 = bits v 23 20 ∧ bits (jpart t p).cmd 12 0 = bits v 12 0 ∧
      (jpart t p).job = true ∧ t.jasper.queue = s.jasper.queue ++ [p] ∧ Frame [] [.chans, .jasper] s t)) ∧
  (∀ p l s, s.jasper.run = none → s.jasper.queue = p :: l → Runs .jasperJobStart s (fun t => t.jasper.run = some p ∧ t.jasper.queue = l ∧
    (p ≠ 0 → bits (jpart s p).cmd 31 24 = 32 → (jpart t p).curve = none) ∧ Frame [] [.jasper] s t)) ∧
  (∀ b p l a m w s, s.jasper.run = some p → p ≠ 0 → bits (jpart s p).cmd 31 24 = 24 → bits (jpart s p).cmd 12 0 / 8 = l → jNum (jpart s p) 0 l = m →
    jNum (jpart s p) 1 l = a → 0 < a → a < m → m % 2 = 1 → 3 ≤ m → invMod m a = some w → Runs (.jasperJobDone b) s (fun t =>
      (jpart t p).status = 1 ∧ (jpart t p).fin = true ∧ (jpart t p).job = false ∧ t.jasper.run = none ∧
      (∀ i, i < 128 → tget 0 (jpart t p).mem (256 + i) = nth (bytesToWords 128 (toBytes l w)) i) ∧
      (∀ i, (i < 256 ∨ 384 ≤ i) → tget 0 (jpart t p).mem i = tget 0 (jpart s p).mem i) ∧ Counts s t K.jasperJobs 1 ∧ Pending t Ev.jasperComplete ∧
      EvFrame [K.jasperJobs] [.jasper] s t)) ∧
  (∀ b p l n e m s, s.jasper.run = some p → p ≠ 0 → bits (jpart s p).cmd 31 24 = 16 → bits (jpart s p).cmd 12 0 = 8 * l → jNum (jpart s p) 0 l = n →
    ofBytes (jIn (jpart s p) 1 0 4) = e → jNum (jpart s p) 2 l = m → m < n → n % 2 = 1 → 2 ^ (8 * l - 1) ≤ n → e % 2 = 1 → 3 ≤ e →
    Runs (.jasperJobDone b) s (fun t => (jpart t p).status = 1 ∧
      (∀ i, i < 128 → tget 0 (jpart t p).mem (384 + i) = nth (bytesToWords 128 (toBytes l (powMod m e n))) i) ∧
      Counts s t K.jasperJobs 1 ∧ Pending t Ev.jasperComplete ∧ EvFrame [K.jasperJobs] [.jasper] s t)) ∧
  (∀ b p qx qy x z s, s.jasper.run = some p → p ≠ 0 → (jpart s p).cmd = 2 * 2 ^ 24 → jNum (jpart s p) 4 32 = qx → jNum (jpart s p) 5 32 = qy →
    jNum (jpart s p) 2 32 = x → jNum (jpart s p) 3 32 = z → qx < p256.p → qy < p256.p → onCurve p256 qx qy = true → (qx, qy) ≠ (0, 0) →
    0 < x → x < p256.n → 0 < z → z < p256.n → Runs (.jasperJobDone b) s (fun t =>
      (jpart t p).status = (if ecdsaOk p256 (some (qx, qy)) (hashNum p256 (jIn (jpart s p) 1 0 (jpart s p).hlen)) x z = true then 1 else 2) ∧
      Counts s t K.jasperJobs 1 ∧ Pending t Ev.jasperComplete ∧ EvFrame [K.jasperJobs] [.jasper] s t)) ∧
  (∀ b p s, s.jasper.run = some p → p ≠ 0 → opEc (bits (jpart s p).cmd 31 24) = true → bits (jpart s p).cmd 23 20 = 4 → (jpart s p).curve = none →
    Runs (.jasperJobDone b) s (fun t => (jpart t p).status = 10 ∧ Pending t Ev.jasperComplete ∧ EvFrame [K.jasperJobs] [.jasper] s t)) ∧
  (∀ b j l s, s.jasper.run = some 0 → s.jasper.queue = [] → s.jasper.svc = j :: l → j.kind = .check → Runs (.jasperJobDone b) s (fun t =>
    t.jasper.run = none ∧ t.jasper.svc = (if 1 < j.left then { j with left := j.left - 1 } :: l else l) ∧
    t.jasper.queue = (if t.jasper.svc = [] then [] else [0]) ∧ (∀ p, jpart t p = jpart s p) ∧ Counts s t K.jasperJobs 1 ∧
    Pending t Ev.jasperComplete ∧ EvFrame [K.jasperJobs] [.jasper] s t)) ∧
  (∀ r p s, jMine s r = some p → (jpart s p).job = true → Admitted s r K.jasperAbort true → Runs (.jasperAbort r) s (fun t => Answers t [] ∧
    (jpart t p).status = 12 ∧ (jpart t p).mem = [] ∧ (jpart t p).curve = none ∧ (jpart t p).job = false ∧ Pending t Ev.jasperComplete ∧
    EvFrame [K.jasperJobs] [.jasper] s t)) ∧
  (∀ r p s, jMine s r = some p → Admitted s r K.jasperResult false → Runs (.jasperResultRead r) s (fun t => Answers t [jResult (jpart s p)] ∧
    jpart t p = { jpart s p with wiped := false } ∧ Frame [] [.chans, .jasper] s t))
/-- An attempt whose worst block the code corrects and whose root meets the check value begins the derivation, the ninth that fails ends in ROOT_FAIL and stops the data path; the derivation makes the keys of the current epoch; in SCRAP neither does anything; an advance is accepted for the next epoch alone, clears the
consent and, where a root is held, derives anew before EPOCH_ADVANCED; PLAINTEXT_KEY_EN only falls; the scan blanks stale records; a PKEY operation is taken one at a time, stores over the record that is not current, loads or erases, and reports its result; ZEROISE clears every key at once and ends with
ZEROISE_DONE, and the persistent wipe blanks the records. -/
def Obligations.RootAndKeys : Prop :=
  (∀ x root w s, rebuilding s = true → keysOff s = false → rootTry s x = some (root, w) → w ≤ 24 → s.keys.tries < 9 →
    Runs (.pufAttemptDone x) s (fun t => t.keys.deriving_ = true ∧ t.keys.found = root ∧ rd t K.pufWorst = w ∧
      rd t K.pufAttempts = s.keys.tries + 1 ∧ (18 < w → Pending t Ev.pufMargin) ∧ EvFrame [K.pufAttempts, K.pufWorst] [.keys] s t)) ∧
  (∀ x s, rebuilding s = true → keysOff s = false → rootTry s x = none → s.keys.tries < 8 → Runs (.pufAttemptDone x) s (fun t =>
    rebuilding t = true ∧ rd t K.pufAttempts = s.keys.tries + 1 ∧ t.keys.tries = s.keys.tries + 1 ∧ Frame [K.pufAttempts] [.keys] s t)) ∧
  (∀ x s, rebuilding s = true → keysOff s = false → rootTry s x = none → s.keys.tries = 8 → Runs (.pufAttemptDone x) s (fun t =>
    rd t K.rootStatus = Root.failed ∧ stepEnded t 5 = true ∧ t.keys.deriving_ = false ∧ armed t = false ∧ Pending t Ev.rootFail ∧
    EvFrame ([K.pufAttempts, K.rootStatus, K.armStatus] ++ (List.range 4).map K.health) [.keys, .boot] s t)) ∧
  (∀ s, keysOff s = false → s.keys.deriving_ = true → epochOf s < 4095 → Runs .keyDerivationDone s (fun t => rd t K.rootStatus = Root.ready ∧
    t.keys.root = some s.keys.found ∧ t.keys.devid = some (devidFrom s.keys.found) ∧
    t.keys.keks = (List.range 16).map (fun i => kdf s.keys.found (ascii "OR-KEK") (toBytes 4 (epochOf s) ++ toBytes 4 i) 32) ∧
    t.keys.store = some (kdf s.keys.found (ascii "OR-STORE") (toBytes 4 (epochOf s)) 32) ∧ t.keys.deriving_ = false ∧
    Frame [K.rootStatus] [.keys] s t)) ∧
  (∀ root s, keysOff s = false → s.keys.deriving_ = false → s.keys.rederive = true → s.keys.root = some root → epochOf s < 4095 →
    Runs .keyDerivationDone s (fun t => t.keys.rederive = false ∧ t.keys.root = some root ∧
      t.keys.keks = (List.range 16).map (fun i => kdf root (ascii "OR-KEK") (toBytes 4 (epochOf s) ++ toBytes 4 i) 32) ∧
      Pending t Ev.epochAdvanced ∧ EvFrame [] [.keys] s t)) ∧
  (∀ i x s, i = Instr.pufAttemptDone x ∨ i = .keyDerivationDone → keysOff s = true → Runs i s (fun t => Frame [] [] s t)) ∧
  (∀ r s, s.keys.advance = 0 → s.keys.rederive = false → s.keys.wiping = false → clearing s = false → epochOf s < 65535 → Admitted s r K.epochAdvance true →
    Runs (.epochAdvanceWrite r (epochOf s + 1)) s (fun t => Answers t [] ∧ t.keys.advance = 1 ∧ Frame [] [.chans, .keys] s t)) ∧
  (∀ r (v : Nat) s, v < 65536 → v ≠ epochOf s + 1 → s.keys.advance = 0 → s.keys.rederive = false → s.keys.wiping = false → clearing s = false →
    Admitted s r K.epochAdvance true → Runs (.epochAdvanceWrite r v) s (fun t => t.reply.code = .unsupportedValue ∧ Frame [] [.chans] s t)) ∧
  (∀ s, s.keys.advance = 1 → epochOf s < 4095 → s.life.trans = none → s.keys.root = none → Runs .epochAdvanceDone s (fun t =>
    epochOf t = epochOf s + 1 ∧ rd t K.debugConsent = 0 ∧ t.keys.advance = 0 ∧ t.keys.keks = [] ∧ Pending t Ev.epochAdvanced ∧
    EvFrame [K.ownerEpoch, K.debugConsent] [.keys, .life] s t)) ∧
  (∀ root s, s.keys.advance = 1 → epochOf s < 4095 → s.life.trans = none → s.keys.root = some root → Runs .epochAdvanceDone s (fun t =>
    epochOf t = epochOf s + 1 ∧ rd t K.debugConsent = 0 ∧ t.keys.advance = 0 ∧ t.keys.keks = [] ∧ t.keys.rederive = true ∧
    t.keys.root = some root ∧ Frame [K.ownerEpoch, K.debugConsent] [.keys, .life] s t)) ∧
  (∀ s, s.keys.advance = 1 → epochOf s = 4095 → s.life.trans = none → Runs .epochAdvanceDone s (fun t => t.keys.advance = 0 ∧
    Frame [] [.keys] s t)) ∧
  (∀ r v s, v ≤ 1 → (v = 1 → rd s K.plaintextKeyEn ≠ 0) → Admitted s r K.plaintextKeyEn true → Runs (.plaintextKeyEnWrite r v) s (fun t =>
    Answers t [] ∧ rd t K.plaintextKeyEn = v ∧ Frame [K.plaintextKeyEn] [.chans] s t)) ∧
  (∀ r s, rd s K.plaintextKeyEn = 0 → Admitted s r K.plaintextKeyEn true → Runs (.plaintextKeyEnWrite r 1) s (fun t =>
    t.reply.code = .wrongState ∧ Frame [] [.chans] s t)) ∧
  (∀ s, stepEnded s 51 = true → stepEnded s 5 = false → rd s K.rootStatus = Root.ready → Runs .pkeyRecordScan s (fun t =>
    stepEnded t 5 = true ∧ (∀ n, n < 64 → classOf s n = 3 → recordAt t n = []) ∧ (∀ n, n < 64 → classOf s n ≠ 3 → recordAt t n = recordAt s n) ∧
    EvFrame [] [.keys, .boot] s t)) ∧
  (∀ i r op s, (i, op) ∈ [(Instr.pkeyStore r, 1), (.pkeyLoad r, 2), (.pkeyErase r, 3)] → heldByOther s Grp.pkey r.ch = false → s.keys.op = none →
    s.keys.wiping = false → clearing s = false → (op = 2 → keyBlock s = false) → Admitted s r K.pkeyOp true → Runs i s (fun t => Answers t [] ∧
      t.keys.op = some (op, rd s K.pkeySel, rd s K.pkeyReg, false) ∧ rdBit t K.pkeyStatus 31 = true ∧
      Frame [K.pkeyStatus] [.chans, .staging, .keys] s t)) ∧
  (∀ k reg z s, s.keys.op = some (3, k, reg, z) → rd s K.rootStatus = Root.ready → epochOf s < 4095 → Runs (.pkeyOpDone true) s (fun t =>
    t.keys.op = none ∧ recordAt t (2 * k) = [] ∧ recordAt t (2 * k + 1) = [] ∧ rd t K.pkeyStatus = 1 ∧ Pending t Ev.pkeyDone ∧
    EvFrame [K.pkeyStatus] [.keys] s t)) ∧
  (∀ k reg store s, s.keys.op = some (1, k, reg, false) → rd s K.rootStatus = Root.ready → epochOf s < 4095 → s.keys.store = some store →
    tget [] s.beryl.regs reg ≠ [] → currentRec s k = none → Runs (.pkeyOpDone true) s (fun t => t.keys.op = none ∧ rd t K.pkeyStatus = 1 ∧
      recordAt t (2 * k) = mkRecord store k 1 (epochOf s) (tget [] s.beryl.regs reg) ∧ (∀ n, n ≠ 2 * k → recordAt t n = recordAt s n) ∧
      Pending t Ev.pkeyDone ∧ EvFrame [K.pkeyStatus] [.keys] s t)) ∧
  (∀ k reg b n store s, s.keys.op = some (1, k, reg, false) → rd s K.rootStatus = Root.ready → epochOf s < 4095 → s.keys.store = some store →
    tget [] s.beryl.regs reg ≠ [] → currentRec s k = some b → nth (recordAt s (2 * k + b)) 1 = n → n ≠ 0xFFFFFFFE →
    Runs (.pkeyOpDone true) s (fun t => t.keys.op = none ∧ rd t K.pkeyStatus = 1 ∧
      recordAt t (2 * k + (1 - b)) = mkRecord store k (n + 1) (epochOf s) (tget [] s.beryl.regs reg) ∧
      (∀ i, i ≠ 2 * k + (1 - b) → recordAt t i = recordAt s i) ∧ Pending t Ev.pkeyDone ∧ EvFrame [K.pkeyStatus] [.keys] s t)) ∧
  (∀ k reg b key s, s.keys.op = some (2, k, reg, false) → rd s K.rootStatus = Root.ready → epochOf s < 4095 → s.keys.store ≠ none →
    currentRec s k = some b → recordKey s (recordAt s (2 * k + b)) = some key → (key.length = 16 ∨ key.length = 24 ∨ key.length = 32) →
    Runs (.pkeyOpDone true) s (fun t => t.keys.op = none ∧ Pending t Ev.pkeyDone ∧ tget [] t.beryl.regs reg = key ∧ rd t K.pkeyStatus = 1 ∧
      EvFrame [K.pkeyStatus] [.keys, .beryl] s t)) ∧
  (∀ k reg s, s.keys.op = some (2, k, reg, false) → rd s K.rootStatus = Root.ready → epochOf s < 4095 → s.keys.store ≠ none → currentRec s k = none →
    Runs (.pkeyOpDone true) s (fun t => t.keys.op = none ∧ Pending t Ev.pkeyDone ∧ t.beryl = s.beryl ∧ rd t K.pkeyStatus = 2 ∧
      EvFrame [K.pkeyStatus] [.keys] s t)) ∧
  (∀ i r s, i = Instr.zeroiseCmd r ∨ i = .zeroiseCmdWipe r → clearing s = false → Admitted s r K.zeroiseCmd true → Runs i s (fun t => Answers t [] ∧
    clearing t = true ∧ t.keys.root = none ∧ t.keys.keks = [] ∧ t.keys.store = none ∧ t.keys.owner = none ∧ t.keys.devid = none ∧ t.beryl.regs = [] ∧
    t.assoc.slot = [] ∧ (∀ p, p < 4 → (jpart t p).mem = [] ∧ (jpart t p).curve = none) ∧ rd t K.zeroiseLast = (if i = .zeroiseCmd r then 1 else 2) ∧
    Counts s t K.zeroiseCount 1 ∧ (i = .zeroiseCmdWipe r → t.keys.wipeDue = true) ∧ armed t = false ∧ ZeroiseFrame [] [] s t)) ∧
  (∀ s, clearing s = true → s.life.trans = none → s.keys.wipeDue = false → (∀ j ∈ startedJobs s, (dstRange j.desc).1 = false) →
    Runs .zeroiseClearingDone s (fun t => clearing t = false ∧ Pending t Ev.zeroiseDone ∧
      EvFrame [K.zeroiseStatus, K.berylStatus, K.berylJobs] [.beryl] s t)) ∧
  (∀ s, s.keys.wiping = true → s.keys.wipeDue = false → s.keys.advance = 0 → Runs .persistWipeDone s (fun t => t.keys.records = [] ∧
    t.keys.wiping = false ∧ zeroisePending t = false ∧ Pending t Ev.persistWiped ∧ EvFrame [K.zeroiseStatus, K.onyxStatus] [.keys] s t))

/-- A rail beyond a threshold for its time fires its source, which sets its flag and makes one log entry, and does not fire again until its quantity re-arms; a write of LOOP_CTRL takes effect within 3 Onyx clocks;
a loop in OFF drives low; a loop settles, then alarms on a level that is not the half-bit sent: with main power one ZEROISE at once, for however many loops, and a wipe after it;
flags clear where asked; the RTC is set, or loaded from TB0; the log is read word by word and acknowledged; a crystal failure moves to the backup oscillator; Onyx power-on resets the domain. -/
def Obligations.TamperDomain : Prop :=
  (∀ d k n s, d.rail < 6 → k < 3 → n = 8 + 3 * d.rail + k → railFires s d k = true → (∀ j, j < 3 → j ≠ k → railFires s d j = false) →
    canFire s n = true → s.onyx.log.length < 64 → s.onyx.main = true → startupDone s = true →
    Runs (.monitorFire [d]) s (fun t => rdBit t K.tamperFlags n = true ∧ (∀ j, j < 3 → rdBit t K.monNow (8 + 3 * d.rail + j) = beyond d.rail j d.now) ∧
      n ∈ t.onyx.fired ∧ t.onyx.log.length = s.onyx.log.length + 1 ∧ Pending t Ev.tamperAlarm ∧ EvFrame [K.monNow, K.tamperFlags] [.onyx] s t)) ∧
  (∀ ds s, (∀ d ∈ ds, ∀ k, k < 3 → railFires s d k = false ∨ canFire s (8 + 3 * d.rail + k) = false) → Runs (.monitorFire ds) s (fun t =>
    Frame [K.monNow] [] s t)) ∧
  (∀ n s, 8 ≤ n → n ≤ 27 → Runs (.monitorRearm n) s (fun t => (∀ k ∈ quantityOf n, rdBit t K.monNow k = false ∧ k ∉ t.onyx.fired) ∧
    Frame [K.monNow] [.onyx] s t)) ∧
  (∀ d s, s.onyx.main = true → -450 ≤ d → d ≤ 1150 → Runs (.tempSample d) s (fun t => rd t K.tempNow = ofSigned 32 d ∧
    rdBit t K.monNow 26 = false ∧ rdBit t K.monNow 27 = false ∧ Frame [K.tempNow, K.monNow] [] s t)) ∧
  (∀ d s, s.onyx.main = true → d < -450 → canFire s 26 = true → s.onyx.log.length < 64 → startupDone s = true →
    Runs (.tempSample d) s (fun t => rdBit t K.monNow 26 = true ∧ rdBit t K.tamperFlags 26 = true ∧ Pending t Ev.tamperAlarm ∧
      EvFrame [K.tempNow, K.monNow, K.tamperFlags] [.onyx] s t)) ∧
  (∀ d s, s.onyx.main = true → 1150 < d → canFire s 27 = true → s.onyx.log.length < 64 → startupDone s = true →
    Runs (.tempSample d) s (fun t => rdBit t K.monNow 27 = true ∧ rdBit t K.monNow 26 = false ∧ rdBit t K.tamperFlags 27 = true ∧
      Pending t Ev.tamperAlarm ∧ EvFrame [K.tempNow, K.monNow, K.tamperFlags] [.onyx] s t)) ∧
  (∀ i r n a s, (i, a) ∈ [(Instr.loopArm r n, 1), (.loopDisarm r n, 0)] → n < 8 → s.onyx.writes = [] → Admitted s r (K.loopCtrl n) true →
    Runs i s (fun t => Answers t [] ∧ rd t (K.loopCtrl n) = a ∧
      (t.onyx.writes = [] ∧ rd t (K.loopState n) = (if a = 0 then 0 else if rd s (K.loopState n) = 2 then 2 else 1) ∨
        (∃ at_, t.onyx.writes = [(n, a, at_)] ∧ onyxNow s < at_ ∧ at_ ≤ onyxNow s + 3) ∧ rd t (K.loopState n) = rd s (K.loopState n)) ∧
      Frame [K.loopState n, K.loopCtrl n] [.chans, .onyx, .draws] s t)) ∧
  (∀ n a at_ s, n < 8 → s.onyx.writes = [(n, a, at_)] → at_ ≤ onyxNow s → (loopWrites s).onyx.writes = [] ∧
    rd (loopWrites s) (K.loopState n) = (if a = 0 then 0 else if rd s (K.loopState n) = 2 then 2 else 1) ∧
    Frame [K.loopState n] [.onyx, .draws] s (loopWrites s)) ∧
  (∀ n s, n < 8 → rd (loopWrites s) (K.loopState n) = 1 → Runs (.loopSettled n) s (fun t => rd t (K.loopState n) = 2 ∧
    Frame [K.loopState n] [] (loopWrites s) t)) ∧
  (∀ n s, n < 8 → rd (loopWrites s) (K.loopState n) = 1 → s.onyx.main = true → Runs (.loopFault n) s (fun t =>
    rd t (K.loopState n) = 4 ∧ Pending t Ev.tamperLoopFault ∧ EvFrame [K.loopState n] [] (loopWrites s) t)) ∧
  (∀ n s, rd s (K.loopState n) = 0 → tlDrive s n = false) ∧
  (∀ n v s a, n < 8 → v < 4 → a = loopWrites s → rd a (K.loopState n) = 2 → mismatch a n v = true → s.onyx.main = true → clearing s = false →
    s.keys.wiping = false → Runs (.tamperLoopAlarm [(n, v)]) s (fun t => rd t (K.loopState n) = 3 ∧ Counts a t (K.loopAlarms n) 1 ∧
      zeroisePending t = true ∧ rdBit t K.tamperFlags n = true ∧ clearing t = true ∧ rd t K.zeroiseLast = 3 ∧ Counts a t K.zeroiseCount 1 ∧
      t.keys.root = none ∧ t.keys.wipeDue = true ∧ Pending t Ev.tamperAlarm ∧
      ZeroiseFrame [K.loopState n, K.loopAlarms n, K.onyxStatus, K.tamperFlags, K.logLost] [.onyx] a t)) ∧
  (∀ n m v w s a, n < m → m < 8 → v < 4 → w < 4 → a = loopWrites s → rd a (K.loopState n) = 2 → rd a (K.loopState m) = 2 →
    mismatch a n v = true → mismatch a m w = true → s.onyx.main = true → Runs (.tamperLoopAlarm [(m, w), (n, v)]) s (fun t =>
      rd t (K.loopState n) = 3 ∧ rd t (K.loopState m) = 3 ∧ rdBit t K.tamperFlags n = true ∧ rdBit t K.tamperFlags m = true ∧
      Counts a t K.zeroiseCount 1)) ∧
  (∀ n v s a, n < 8 → v < 4 → a = loopWrites s → rd a (K.loopState n) = 2 → mismatch a n v = true → s.onyx.main = false →
    s.onyx.log.length < 64 → Runs (.tamperLoopAlarm [(n, v)]) s (fun t =>
      rd t (K.loopState n) = 3 ∧ zeroisePending t = true ∧ rdBit t K.tamperFlags n = true ∧ t.onyx.log.length = s.onyx.log.length + 1 ∧
      Frame [K.loopState n, K.loopAlarms n, K.onyxStatus, K.tamperFlags] [.onyx] a t)) ∧
  (∀ l s, (∀ e ∈ l, mismatch (loopWrites s) e.1 (e.2 % 4) = false) → Runs (.tamperLoopAlarm l) s (fun t => Frame [] [] (loopWrites s) t)) ∧
  (∀ r (v : Nat) s, v < 2 ^ 32 → rd s K.tamperFlags < 2 ^ 32 → Admitted s r K.flagClear true → Runs (.flagClear r v) s (fun t => Answers t [] ∧
    (∀ i, i < 32 → rdBit t K.tamperFlags i = (rdBit s K.tamperFlags i && !bit v i)) ∧ Frame [K.tamperFlags] [.chans] s t)) ∧
  (∀ r (v : Nat) s, v < 2 ^ 47 → Admitted s r K.onyxRtc true → Runs (.onyxRtcWrite r v) s (fun t => Answers t [] ∧ t.onyx.rtc = v ∧
    t.onyx.rtcAt = s.tick.clock ∧ rtcValid t = true ∧ Frame [K.onyxStatus] [.chans, .onyx] s t)) ∧
  (∀ r s, tbValid s 0 = true → Admitted s r K.rtcSyncTb0 true → Runs (.rtcSyncTb0 r) s (fun t => Answers t [] ∧ rd t K.rtcSyncTb0 = 1 ∧
    Frame [K.rtcSyncTb0] [.chans] s t)) ∧
  (∀ r s, tbValid s 0 = false → Admitted s r K.rtcSyncTb0 true → Runs (.rtcSyncTb0 r) s (fun t => t.reply.code = .wrongState ∧
    Frame [] [.chans] s t)) ∧
  (∀ s, rd s K.rtcSyncTb0 = 1 → Runs .rtcSyncLoad s (fun t => t.onyx.rtc = tbNow s 0 / tbSecond % 2 ^ 32 * 32768 ∧ rd t K.rtcSyncTb0 = 0 ∧
    rtcValid t = true ∧ Frame [K.onyxStatus, K.rtcSyncTb0] [.onyx] s t)) ∧
  (∀ r s, s.onyx.ptr < s.onyx.log.flatten.length → Admitted s r K.logData false → Runs (.logDataRead r) s (fun t =>
    Answers t [nth s.onyx.log.flatten s.onyx.ptr] ∧ t.onyx.ptr = s.onyx.ptr + 1 ∧ t.onyx.log = s.onyx.log ∧ Frame [] [.chans, .onyx] s t)) ∧
  (∀ r (v : Nat) s, v < 2 ^ 32 → s.onyx.log.findIdx? (fun e => nth e 0 == v) = some (s.onyx.log.length - 1) → Admitted s r K.logAck true →
    Runs (.logAck r v) s (fun t => Answers t [] ∧ keyBlock t = false ∧ onyxLost t = false ∧ t.onyx.ptr = 0 ∧
      Frame [K.logAck, K.onyxStatus] [.chans, .onyx] s t)) ∧
  (∀ s, canFire s 28 = false → rdBit s K.clkLocked 24 = true → Runs .onyxCrystalFail s (fun t => backupOsc t = true ∧
    rdBit t K.clkLocked 24 = false ∧ rdBit t K.clkLost 24 = true ∧ Pending t Ev.clockLost ∧
    EvFrame [K.onyxStatus, K.clkLocked, K.clkLost] [.onyx] s t)) ∧
  (∀ s, backupOsc s = true → s.boot.engine = true → Runs .onyxCrystalRestore s (fun t => backupOsc t = false ∧ rdBit t K.clkLocked 24 = true ∧
    28 ∉ t.onyx.fired ∧ Frame [K.onyxStatus, K.clkLocked] [.onyx] s t)) ∧
  (∀ s, Runs .onyxPowerOn s (fun t => t.onyx.log = [] ∧ t.onyx.rtc = 0 ∧ t.onyx.fired = [] ∧ t.onyx.writes = [] ∧
    rd t K.onyxStatus = 32 + 64 * b2n (fromVbat s s.onyx.main) ∧ rd t K.tamperFlags = 0 ∧
    (∀ n, n < 8 → rd t (K.loopState n) = 0 ∧ rd t (K.loopCtrl n) = 0) ∧
    Frame ([K.onyxStatus, K.tamperFlags, K.logAck, K.logLost, K.rtcSyncTb0] ++ (List.range 8).map K.loopCtrl ++ (List.range 8).map K.loopState ++
      (List.range 8).map K.loopAlarms) [.onyx] s t)) ∧
  (∀ b s, Runs (.mainPowerChange b) s (fun t => t.onyx.main = b ∧ (b = false → rdBit t K.onyxStatus 6 = true) ∧ Frame [K.onyxStatus] [.onyx] s t))

/-- A listed transition begins where its conditions hold, to RETURNED and SCRAP with ZEROISE first; its window leaves the new state, or a partial pair; a cleanup blanks what it names; enrolment is
started once, keeps the response of an array whose 32 reads pass the screening, or else burns a root drawn, and sets its root source; the consent takes 0 to 2 and closes debug beyond it; a request has
a challenge signed in Jasper (a signing that draws 128 nonces which give a zero goes on), the 24th word of its response starts the check in Jasper, and the check then opens or counts. -/
def Obligations.LifeAndDebug : Prop :=
  (∀ r s, s.life.state = Lc.fab → r.ch = 4 → s.life.trans = none → cleanup s = false → clearing s = false → s.keys.wiping = false →
    zeroisePending s = false → armed s = false → rd s K.monNow = 0 → Admitted s r K.lcRequest true → Runs (.lcToEnrol r) s (fun t => Answers t [] ∧
      t.life.trans = some Lc.enrol ∧ t.life.stepNo = 3 ∧ Frame [] [.chans, .life] s t)) ∧
  (∀ r s, s.life.state = Lc.enrol → s.life.trans = none → cleanup s = false → clearing s = false → s.keys.wiping = false →
    zeroisePending s = false → armed s = false → rd s K.monNow = 0 → rd s K.rootSource ≠ 0 → s.life.devCert = true → s.life.enrolling = false →
    Admitted s r K.lcRequest true → Runs (.lcToOwned r) s (fun t => Answers t [] ∧ t.life.trans = some Lc.owned ∧ t.life.stepNo = 3 ∧
      Frame [] [.chans, .life] s t)) ∧
  (∀ i r g s, (i, g) ∈ [(Instr.lcToReturned r, Lc.returned), (.lcToScrap r, Lc.scrap)] → s.life.state = Lc.owned → r.ch ≠ 4 → s.life.trans = none →
    cleanup s = false → clearing s = false → s.keys.wiping = false → zeroisePending s = false → armed s = false → rd s K.monNow = 0 →
    Admitted s r K.lcRequest true → Runs i s (fun t => Answers t [] ∧ t.life.trans = some g ∧ t.life.stepNo = 1 ∧ clearing t = true ∧
      t.keys.root = none ∧ rd t K.zeroiseLast = 5 ∧ ZeroiseFrame [] [] s t)) ∧
  (∀ r s, s.life.state = Lc.owned → Admitted s r K.lcRequest true → Runs (.lcToEnrol r) s (fun t => t.reply.code = .unsupportedValue ∧
    Frame [] [.chans] s t)) ∧
  (∀ g s, s.life.trans = some g → s.life.stepNo = 3 → s.life.heldReset = none → s.keys.wipeDue = false → 1 ≤ g → g ≤ 4 →
    s.life.pairs.length = 4 → Runs (.lcWindowDone true) s (fun t => t.life.state = g ∧ t.life.trans = none ∧ t.life.pairs = lset s.life.pairs (g - 1) (pairWords g) ∧
      cleanup t = (cleanup s || decide (3 ≤ g)) ∧ (g = 4 → t.keys.devid = none) ∧ Pending t Ev.lcChanged ∧
      EvFrame [K.lcStatus] ([.life] ++ if g = 4 then [.keys] else []) s t)) ∧
  (∀ g s, s.life.trans = some g → s.life.stepNo = 3 → s.life.heldReset = none → s.keys.wipeDue = false → Runs (.lcWindowDone false) s (fun t =>
    t.life.state = s.life.state ∧ t.life.trans = none ∧ t.life.pairs = lset s.life.pairs (g - 1) ((pairWords g).1, 2 ^ 32 - 1) ∧ Frame [] [.life] s t)) ∧
  (∀ s, cleanup s = true → s.life.state = Lc.returned → Runs .lcCleanupDone s (fun t => cleanup t = false ∧ t.keys.records = [] ∧ t.keys.binding = none ∧
    rd t K.debugConsent = 0 ∧ t.keys.helper = s.keys.helper ∧ Frame [K.lcStatus, K.debugConsent] [.keys, .life] s t)) ∧
  (∀ s, cleanup s = true → s.life.state = Lc.scrap → Runs .lcCleanupDone s (fun t => cleanup t = false ∧ t.keys.records = [] ∧ t.keys.binding = none ∧
    t.keys.helper = none ∧ t.keys.block = blockFull ∧ t.life.devCert = false ∧ t.life.trim = false ∧ t.boot.imgA = imageGone ∧
    t.boot.imgB = imageGone ∧ Frame [K.lcStatus, K.debugConsent, K.fwPrefer] [.keys, .life, .boot] s t)) ∧
  (∀ r s, s.life.state = Lc.enrol → s.life.enrolling = false → rd s K.rootSource = 0 → s.life.trans = none → Admitted s r K.enrolStart true →
    Runs (.enrolStart r) s (fun t => Answers t [] ∧ t.life.enrolling = true ∧ rd t K.enrolResult = 3 ∧ Frame [K.enrolResult] [.chans, .life] s t)) ∧
  (∀ r s, rd s K.rootSource ≠ 0 → Admitted s r K.enrolStart true → Runs (.enrolStart r) s (fun t => t.reply.code = .wrongState ∧
    Frame [] [.chans] s t)) ∧
  (∀ l s, s.life.enrolling = true → s.life.blockBits = false → pufPasses l = true → Runs (.enrolDone l true) s (fun t => rd t K.rootSource = 1 ∧
    rd t K.enrolResult = 1 ∧ t.life.blockBits = false ∧ t.life.enrolling = false ∧ t.keys.helper = some (l.getLastD 0) ∧
    t.keys.check = rootCheck (pufRoot (l.getLastD 0)) ∧ t.keys.devid = some (devidFrom (pufRoot (l.getLastD 0))) ∧
    Frame [K.rootSource, K.enrolResult] [.life, .keys] s t)) ∧
  (∀ l s, s.life.enrolling = true → s.life.blockBits = false → pufPasses l = false → Runs (.enrolDone l true) s (fun t => rd t K.rootSource = 2 ∧
    rd t K.enrolResult = 2 ∧ t.life.blockBits = true ∧ t.life.enrolling = false ∧
    (∃ root, root.length = 32 ∧ t.keys.block = blockOf root ∧ t.keys.devid = some (devidFrom root)) ∧
    Frame [K.rootSource, K.enrolResult] [.life, .keys, .draws] s t)) ∧
  (∀ l s, s.life.enrolling = true → s.life.blockBits = false → Runs (.enrolDone l false) s (fun t => rd t K.enrolResult = 5 ∧
    t.life.enrolling = false ∧ t.keys.devid = s.keys.devid ∧ Frame [K.enrolResult] [.life, .keys, .draws] s t)) ∧
  (∀ r v s, v ≤ 2 → Admitted s r K.debugConsent true → Runs (.debugConsentWrite r v) s (fun t => Answers t [] ∧ rd t K.debugConsent = v ∧
    (t.life.byAuth = true → t.life.scope ≤ v) ∧ Frame [K.debugConsent] [.chans, .life] s t)) ∧
  (∀ r v d s, (v = 1 ∨ v = 2) → s.keys.devid = some d → s.life.state = Lc.owned → v ≤ rd s K.debugConsent → rd s K.dbgFails < 8 →
    s.jasper.svc = [] → Admitted s r K.dbgRequest true → Runs (.dbgRequest r v) s (fun t => Answers t [] ∧
      (∃ nonce, nonce.length = 32 ∧ t.jasper.svc = [⟨.challenge (chalBody s v nonce) v, 1⟩]) ∧ svcIn t = true ∧
      t.life.chal = [] ∧ t.life.resp = [] ∧ Frame [] [.chans, .life, .jasper, .draws] s t)) ∧
  (∀ b body v d s, s.jasper.run = some 0 → s.jasper.svc = [⟨.challenge body v, 1⟩] → s.jasper.queue = [] → s.keys.devid = some d →
    Runs (.jasperJobDone b) s (fun t =>
      ((∃ sig, sig.length = 64 ∧ t.life.chal = body ++ sig) ∧ t.life.chalScope = v ∧ t.life.chalAt = s.tick.elapsed ∧ t.jasper.run = none ∧
        t.jasper.svc = [] ∧ Counts s t K.jasperJobs 1 ∨
        t.life = s.life ∧ t.jasper = s.jasper ∧ Counts s t K.jasperRedraws 128) ∧
      EvFrame [K.jasperJobs, K.jasperRedraws] [.life, .jasper, .draws] s t)) ∧
  (∀ r (v : Nat) s, v < 2 ^ 32 → chalGood s = true → s.life.checking = none → s.life.resp.length < 23 → Admitted s r K.dbgResponse true →
    Runs (.dbgResponseWrite r v) s (fun t => Answers t [] ∧ t.life.resp = s.life.resp ++ [v] ∧ t.life.chal = s.life.chal ∧ Frame [] [.chans, .life] s t)) ∧
  (∀ r (v : Nat) s, v < 2 ^ 32 → chalGood s = true → s.life.checking = none → s.life.resp.length = 23 → Admitted s r K.dbgResponse true →
    Runs (.dbgResponseWrite r v) s (fun t => Answers t [] ∧ t.life.checking = some (s.life.chal, s.life.resp ++ [v], s.life.chalScope) ∧
      t.life.chal = [] ∧ svcBusy t .check = true ∧ Frame [] [.chans, .life, .jasper] s t)) ∧
  (∀ s, svcBusy s .check = true → Runs .dbgCheckDone s (fun t => Frame [] [] s t)) ∧
  (∀ c w v s, s.life.checking = some (c, w, v) → svcBusy s .check = false → Runs .dbgCheckDone s (fun t => t.life.checking = none ∧
    rd t K.dbgResult = (if Config.toerathKeyOk = false then 4 else if toerathSigned c w = false then 2
      else if rd s K.debugConsent < v ∨ s.life.state ≠ Lc.owned then 3 else 1) ∧
    (rd t K.dbgResult = 1 → t.life.scope = v ∧ t.life.byAuth = true ∧ rd t K.dbgFails = 0 ∧ Pending t Ev.dbgOpened) ∧
    (rd t K.dbgResult ≠ 1 → t.life.scope = s.life.scope ∧ t.life.byAuth = s.life.byAuth ∧ rd t K.dbgFails = min 8 (rd s K.dbgFails + 1) ∧
      Pending t Ev.dbgAuthFail) ∧ EvFrame [K.dbgResult, K.dbgFails] [.life] s t)) ∧
  (∀ s, s.life.chalAt + 6000000 ≤ s.tick.elapsed → Runs .dbgChallengeExpire s (fun t => t.life.chal = [] ∧ Frame [] [.life] s t))

/-- A hello starts an attachment, which is refused in a lockout; its reply is sent where the unit has a DEVID and the point is good; a proof in its time is checked in Jasper, and opens the session, the first one storing the owner's binding, or is
refused, the eighth refusal locking the channel; a session ends on command, at its timeout, and with what it held; a binding record is stored, or the old one stays. -/
def Obligations.Attachment : Prop :=
  (∀ r s, r.ch < 4 → lockedOut s r.ch = false → (attach s r.ch).inBuf.length = 96 → Admitted s r K.attachCtrl true → Runs (.attachHello r) s (fun t =>
    Answers t [] ∧ (attach t r.ch).step = 1 ∧ (attach t r.ch).t1 = (attach s r.ch).inBuf ∧ (attach t r.ch).inBuf = [] ∧ svcBusy t (.reply r.ch) = true ∧ Frame [] [.chans, .jasper] s t)) ∧
  (∀ r s, r.ch < 4 → lockedOut s r.ch = true → Admitted s r K.attachCtrl true → Runs (.attachHello r) s (fun t => Answers t [] ∧
    (attach t r.ch).status = 8 ∧ Pending t Ev.attachFail ∧ EvFrame [] [.chans] s t)) ∧
  (∀ r s, r.ch < 4 → (attach s r.ch).step = 2 → s.tick.elapsed ≤ (attach s r.ch).readyAt + 6000000 → Admitted s r K.attachCtrl true →
    Runs (.attachProof r) s (fun t => Answers t [] ∧ (attach t r.ch).step = 3 ∧ (attach t r.ch).proof = (attach s r.ch).inBuf ∧
      svcBusy t (.proof r.ch) = true ∧ Frame [] [.chans, .jasper] s t)) ∧
  (∀ r s, r.ch < 4 → (attach s r.ch).step ≠ 2 → Admitted s r K.attachCtrl true → Runs (.attachProof r) s (fun t => t.reply.code = .wrongState ∧
    Frame [] [.chans] s t)) ∧
  (∀ c s, c < 4 → svcBusy s (.reply c) = true → Runs (.attachReplyReady c) s (fun t => Frame [] [] s t)) ∧
  (∀ c s, c < 4 → svcBusy s (.proof c) = true → Runs (.attachOpen c) s (fun t => Frame [] [] s t)) ∧
  (∀ c s, c < 4 → (attach s c).step = 1 → svcBusy s (.reply c) = false → devidOf s = none → (attach s c).bad < 7 → Runs (.attachReplyReady c) s (fun t => (attach t c).status = 3 ∧
    (attach t c).step = 0 ∧ (attach t c).bad = (attach s c).bad + 1 ∧ Pending t Ev.attachFail ∧ EvFrame [] [.chans] s t)) ∧
  (∀ c d s, c < 4 → (attach s c).step = 1 → svcBusy s (.reply c) = false → devidOf s = some d →
    pointOk p256 (fieldBE (attach s c).t1 32 32) (fieldBE (attach s c).t1 64 32) = true → Runs (.attachReplyReady c) s (fun t =>
      ((attach t c).step = 2 ∧ (attach t c).status = 1 ∧ (attach t c).nh = (attach s c).t1.take 32 ∧ (attach t c).nd.length = 32 ∧
        (∃ pub sig, pub.length = 64 ∧ sig.length = 64 ∧ (attach t c).outBuf = (attach t c).nd ++ pub ++ sig ++ certBytes ∧
          (attach t c).t1 = sha256 ((attach s c).t1 ++ (attach t c).nd ++ pub)) ∨
        attach t c = attach s c ∧ Counts s t K.jasperRedraws 128) ∧
      Frame [K.jasperRedraws] [.chans, .draws] s t)) ∧
  (∀ c s, c < 4 → (attach s c).step = 3 → svcBusy s (.proof c) = false → (chan s c).sess = none → s.keys.binding ≠ none → Runs (.attachOpen c) s (fun t =>
    ((proofVerdict s c).1 = 2 → (chan t c).sess.isSome = true ∧ (attach t c).status = 2 ∧ (attach t c).step = 0 ∧ (attach t c).bad = 0) ∧
    ((proofVerdict s c).1 ≠ 2 → (chan t c).sess = none ∧ (attach t c).step = 0 ∧ Pending t Ev.attachFail ∧
      ((attach s c).bad < 7 → (attach t c).status = (proofVerdict s c).1 ∧ (attach t c).bad = (attach s c).bad + 1) ∧
      (7 ≤ (attach s c).bad → (attach t c).status = 8 ∧ (attach t c).locked = some (s.tick.elapsed + 100000))) ∧
    EvFrame [K.sessionId c, K.sessionVersion c] [.chans, .draws] s t)) ∧
  (∀ s, (attach s 0).step = 3 → svcBusy s (.proof 0) = false → (chan s 0).sess = none → s.keys.binding = none → Runs (.attachOpen 0) s (fun t =>
    t.keys.binding = none ∧ (∀ v, (proofVerdict s 0).2 = some v → t.keys.bindJob = some (bindWords v.1 v.2.1) ∧ t.keys.bindFirst = true ∧
      (chan t 0).sess.isSome = true) ∧ ((proofVerdict s 0).2 = none → t.keys = s.keys ∧ (chan t 0).sess = none ∧ Pending t Ev.attachFail) ∧
    EvFrame [] [.chans, .keys] s t)) ∧
  (∀ r x s, r.ch < 4 → (chan s r.ch).sess = some x → Admitted s r K.attachCtrl true → Runs (.attachEnd r) s (fun t => Answers t [] ∧
    (chan t r.ch).sess = none ∧ rd t (K.sessionId r.ch) = 0 ∧ Pending t Ev.sessionClosed ∧
    EvFrame [K.sessionId r.ch, K.sessionVersion r.ch] [.chans, .jasper, .staging, .hbm, .beryl] s t)) ∧
  (∀ r (v : Nat) s, r.ch < 4 → v < 2 ^ 32 → (attach s r.ch).inBuf.length < 1024 → Admitted s r K.attachData true →
    Runs (.attachDataAccess r (.write v)) s (fun t => Answers t [] ∧ (attach t r.ch).inBuf = (attach s r.ch).inBuf ++ toBytes 4 v ∧
      Frame [] [.chans] s t)) ∧
  (∀ r s, r.ch < 4 → Admitted s r K.attachData false → Runs (.attachDataAccess r .read) s (fun t =>
    Answers t [nth (bytesToWords 256 (attach s r.ch).outBuf) (attach s r.ch).ptr] ∧ (attach t r.ch).ptr = (attach s r.ch).ptr + 1 ∧
    Frame [] [.chans] s t)) ∧
  (∀ c s, c < 4 → (attach s c).step = 2 → (attach s c).readyAt + 6000000 < s.tick.elapsed → (attach s c).bad < 7 → Runs (.attachExpire c) s (fun t =>
    (attach t c).status = 7 ∧ (attach t c).step = 0 ∧ Pending t Ev.attachFail ∧ EvFrame [] [.chans] s t)) ∧
  (∀ c s, c < 4 → lockedOut s c = false → Runs (.attachLockoutEnd c) s (fun t => (attach t c).locked = none ∧ Frame [] [.chans] s t)) ∧
  (∀ c s, c < 4 → lockedOut s c = true → Runs (.attachLockoutEnd c) s (fun t => Frame [] [] s t)) ∧
  (∀ c x s, (chan s c).sess = some x → x.seen + timeoutCc s c ≤ s.tick.clock → Runs (.sessionTimeout c) s (fun t => (chan t c).sess = none ∧
    rd t (K.sessionId c) = 0 ∧ Pending t Ev.sessionClosed ∧
    EvFrame [K.sessionId c, K.sessionVersion c] [.chans, .jasper, .staging, .hbm, .beryl] s t)) ∧
  (∀ c x s, (chan s c).sess = some x → s.tick.clock < x.seen + timeoutCc s c → Runs (.sessionTimeout c) s (fun t => Frame [] [] s t)) ∧
  (∀ r b s, heldByOther s Grp.ownerBind r.ch = false → bindRecord (stageOf s Grp.ownerBind) = some b → s.keys.bindJob = none →
    Admitted s r K.ownerBindWrite true → Runs (.ownerBindWrite r) s (fun t => Answers t [] ∧ t.keys.bindJob = some (stageOf s Grp.ownerBind) ∧
      stageOf t Grp.ownerBind = [] ∧ Frame [] [.chans, .staging, .keys] s t)) ∧
  (∀ w s, s.keys.bindJob = some w → (∀ e, bindCurrent s.keys.bindRecs = some e → e.2.1 < 2 ^ 32 - 2) → Runs (.ownerBindDone true) s (fun t =>
    t.keys.binding = bindRecord w ∧ t.keys.bindJob = none ∧ (s.keys.bindFirst = true → Pending t Ev.ownerBound) ∧ EvFrame [] [.keys] s t)) ∧
  (∀ w s, s.keys.bindJob = some w → s.keys.binding = (bindCurrent s.keys.bindRecs).bind (fun e => bindRecord e.2.2) →
    Runs (.ownerBindDone false) s (fun t => t.keys.binding = s.keys.binding ∧ t.keys.bindJob = none ∧ Frame [] [.keys] s t))
/-- A device reset by RESET_N, power-on or the command returns every object outside Onyx, flash and antifuse to its reset value and names its cause; a controller reset by the watchdog or the command
drops the keys and the firmware and keeps the data path; a data-path reset empties the buffer and is refused while armed; a device or a controller reset waits while a transition runs. -/
def Obligations.Resets : Prop :=
  (∀ i r c s, (i, c) ∈ [(Instr.resetNAssert, 1), (.vcorePowerOn, 2), (.resetCmdDevice r, 4)] → s.life.trans = none → Admitted s r K.resetCmd true →
    Runs i s (fun t => rd t K.resetCause = c ∧ t.boot.engine = false ∧ t.boot.pinLow = (s.boot.pinLow || i == .resetNAssert) ∧ t.boot.inReset = t.boot.pinLow ∧ t.keys.root = none ∧
      t.assoc = State.reset.assoc ∧ t.tables = State.reset.tables ∧ t.dp = State.reset.dp ∧ t.lines = State.reset.lines ∧ t.fab = State.reset.fab ∧
      (∀ k, survives k = false → k ≠ K.resetCause → rd t k = dfltOf k) ∧
      (s.keys.op = none → s.keys.advance = 0 → t.keys.records = s.keys.records ∧ t.life.pairs = s.life.pairs ∧
        ∀ k, survives k = true → k ≠ K.resetCause → rd t k = rd s k))) ∧
  (∀ s, s.boot.pinLow = true → Runs .resetNRelease s (fun t => t.boot.pinLow = false ∧ t.boot.inReset = false ∧ t.boot.rise = s.tick.clock ∧
    (s.boot.inReset = true → t.boot.began = s.tick.clock) ∧ Frame [] [.boot] s t)) ∧
  (∀ i r c s, (i, c) ∈ [(Instr.controllerWatchdog, 1), (.resetCmdController r, 2)] → s.life.trans = none → Admitted s r K.resetCmd true →
    Runs i s (fun t => rdField t K.resetCause 7 4 = c ∧ t.boot.fw = false ∧ t.keys.root = none ∧ t.keys.keks = [] ∧
      (∀ k, k < 4 → (chan t k).sess = none) ∧ t.jasper = State.reset.jasper ∧ t.beryl = State.reset.beryl ∧ t.fab.lock = false ∧ stepEnded t 1 = true ∧
      stepEnded t 2 = false ∧
      Keeps (eventParts ++ [.staging, .boot, .life, .fabric, .hbm, .beryl, .jasper, .keys, .onyx, .draws]) s t)) ∧
  (∀ r s, armed s = false → s.life.trans = none → Admitted s r K.resetCmd true → Runs (.resetCmdDatapath r) s (fun t => Answers t [] ∧
    t.dp.outq = [] ∧ t.dp.inq = [] ∧ t.dp.slow = [] ∧ t.dp.flying = [] ∧ t.assoc.pred = [] ∧ (∀ k, k < 4 → rd t (K.bufUsed k) = 0) ∧
    t.boot.dpReset = true ∧ t.fab.lock = false ∧ (∀ n, n < 8 → mode s n ≠ 0 → ∀ m ∈ groupLanes n, laneState t m = Lane.off) ∧
    Keeps [.chans, .boot, .lines, .assoc, .datapath, .fabric] s t)) ∧
  (∀ r s, armed s = true → Admitted s r K.resetCmd true → Runs (.resetCmdDatapath r) s (fun t => t.reply.code = .wrongState ∧
    Frame [] [.chans] s t)) ∧
  (∀ s, s.boot.dpReset = true → Runs .datapathResetDone s (fun t => t.boot.dpReset = false ∧ Keeps [.boot, .lines] s t)) ∧
  (∀ s g, s.life.trans = some g → s.life.heldReset = none → Runs .resetNAssert s (fun t => t.life.heldReset = some 1 ∧ t.boot.pinLow = true ∧ Frame [] [.boot, .life] s t))

/-- Step 1 ends at clock lock and starts the engine; step 2 at the flash link, or start-up ends in a flash failure; step 3 runs a pending ZEROISE to its end; step 4 gives the life-cycle state of the
antifuse pairs; steps 5a, 6, 7 and 8 end as they are done; the preferred image runs where it passes, else the other one, and without one FW_FAIL is set. -/
def Obligations.PowerUp : Prop :=
  (∀ s, s.boot.inReset = false → s.boot.engine = false → (∀ n, n < 8 → rdBit s (K.loopCtrl n) 0 = false) → onyxLost s = false →
    s.onyx.log.length ≤ ackedLen s → Runs (.clockLock true) s (fun t => t.boot.engine = true ∧ stepEnded t 1 = true ∧ rdBit t K.clkLocked 0 = true ∧
      rdBit t K.clkLocked 1 = true ∧ rdBit t K.clkLocked 23 = true ∧ rdBit t K.clkLocked 24 = !backupOsc s ∧
      Frame [K.clkLocked] [.boot, .lines] s t)) ∧
  (∀ s, Runs (.clockLock false) s (fun t => Frame [] [] s t)) ∧
  (∀ b s, b ≤ 3 → stepEnded s 1 = true → stepEnded s 2 = false → rdBit s K.startupStatus 10 = false → Runs (.flashLinkEstablish b) s (fun t =>
    stepEnded t 2 = true ∧ stepEnded t 3 = (stepEnded s 3 || !zeroisePending s) ∧ rdBit t K.flStatus 0 = true ∧ Counts s t K.flRetries b ∧
    t.keys.link.isSome = true ∧ t.boot.onyxUp = true ∧ Frame [K.flStatus, K.flRetries] [.boot, .keys, .draws] s t)) ∧
  (∀ s, stepEnded s 1 = true → stepEnded s 2 = false → rdBit s K.startupStatus 10 = false → Runs (.flashLinkEstablish 4) s (fun t =>
    rdBit t K.startupStatus 10 = true ∧ Counts s t K.flRetries 3 ∧ Counts s t K.flFails 1 ∧ Pending t Ev.flashLinkFail ∧
    EvFrame [K.startupStatus, K.flRetries, K.flFails] [.life] s t)) ∧
  (∀ s, stepEnded s 2 = true → stepEnded s 3 = false → zeroisePending s = true → clearing s = false →
    s.keys.root = none →
    (∀ j ∈ startedJobs s, (dstRange j.desc).1 = false) → Runs .pendingZeroiseRun s (fun t => stepEnded t 3 = true ∧
    zeroisePending t = false ∧ clearing t = false ∧ t.keys.wiping = false ∧ t.keys.records = [] ∧ t.keys.root = none ∧ Pending t Ev.persistWiped ∧
    ZeroiseFrame [K.ownerEpoch, K.debugConsent, K.onyxStatus, K.berylJobs] [] s t)) ∧
  (∀ s, stepEnded s 2 = true → stepEnded s 3 = false → zeroisePending s = false → Runs .pendingZeroiseRun s (fun t => stepEnded t 3 = true ∧
    Frame [] [.boot] s t)) ∧
  (∀ s, stepEnded s 3 = true → stepEnded s 4 = false → Runs .lifecycleRead s (fun t => t.life.state = decideLife s.life.pairs ∧
    stepEnded t 4 = decide (t.life.state < 4) ∧ (t.life.state ≤ 2 → Frame [] [.boot, .life, .jasper] s t))) ∧
  (∀ s, stepEnded s 4 = true → stepEnded s 51 = false → Runs .rootReconstruction s (fun t => stepEnded t 51 = true ∧
    stepEnded t 5 = (stepEnded s 5 || rd s K.rootSource == 0) ∧ t.keys.tries = 0 ∧ Frame [] [.boot, .keys] s t)) ∧
  (∀ s, stepEnded s 4 = true → stepEnded s 50 = false → svcBusy s .firmware = false → rd s K.fwPrefer ≤ 1 → imageVerdict s (imageOf s (rd s K.fwPrefer)) = 1 → Runs .firmwareCheck s (fun t =>
    t.boot.fw = true ∧ stepEnded t 50 = true ∧ rd t K.fwImage = rd s K.fwPrefer ∧ rd t K.fwVersion = (imageOf s (rd s K.fwPrefer)).version ∧
    EvFrame [K.fwImage, K.fwVersion, imageStatus (rd s K.fwPrefer)] [.boot] s t)) ∧
  (∀ s, stepEnded s 4 = true → stepEnded s 50 = false → svcBusy s .firmware = false → rd s K.fwPrefer ≤ 1 → imageVerdict s s.boot.imgA ≠ 1 → imageVerdict s s.boot.imgB ≠ 1 →
    Runs .firmwareCheck s (fun t => t.boot.fw = s.boot.fw ∧ stepEnded t 50 = true ∧ rdBit t K.startupStatus 9 = true ∧
      rd t K.fwAStatus = imageVerdict s s.boot.imgA ∧ rd t K.fwBStatus = imageVerdict s s.boot.imgB ∧ Pending t Ev.fwImageFail ∧
      EvFrame [K.startupStatus, K.fwAStatus, K.fwBStatus] [.boot] s t)) ∧
  (∀ s, stepEnded s 4 = true → stepEnded s 50 = false → svcBusy s .firmware = false → rd s K.fwPrefer ≤ 1 →
    imageVerdict s (imageOf s (rd s K.fwPrefer)) ≠ 1 → imageVerdict s (imageOf s (1 - rd s K.fwPrefer)) = 1 → Runs .firmwareCheck s (fun t =>
      t.boot.fw = true ∧ stepEnded t 50 = true ∧ rd t K.fwImage = 1 - rd s K.fwPrefer ∧
      rd t K.fwVersion = (imageOf s (1 - rd s K.fwPrefer)).version ∧ Pending t Ev.fwImageFail ∧ Pending t Ev.fwFallback ∧
      EvFrame [K.fwImage, K.fwVersion, K.fwAStatus, K.fwBStatus] [.boot] s t)) ∧
  (∀ s, svcBusy s .firmware = true → Runs .firmwareCheck s (fun t => Frame [] [] s t)) ∧
  (∀ s, stepEnded s 1 = true → stepEnded s 6 = false → Runs (.hbmInit true) s (fun t => stepEnded t 6 = true ∧ Frame [] [.boot] s t)) ∧
  (∀ s, stepEnded s 1 = true → stepEnded s 6 = false → Runs (.hbmInit false) s (fun t => stepEnded t 6 = true ∧ rdBit t K.startupStatus 11 = true ∧
    Pending t Ev.hbmInitFail ∧ EvFrame [K.startupStatus] [.boot] s t)) ∧
  (∀ l s, stepEnded s 1 = true → stepEnded s 7 = false → Runs (.serdesCalibration l) s (fun t => stepEnded t 7 = true ∧ t.boot.badSerdes = l ∧
    Frame [] [.boot] s t)) ∧
  (∀ s, (∀ n ∈ [1, 2, 3, 4, 5, 50, 6, 7], stepEnded s n = true) → startupDone s = false → Runs .startupComplete s (fun t => startupDone t = true ∧
    stepEnded t 8 = true ∧ rd t K.startupTime = (s.tick.clock - s.boot.began) / 1250 % 2 ^ 32 ∧ Pending t Ev.startupDone ∧
    EvFrame [K.startupStatus, K.startupTime] [.boot] s t))

/-- An update is taken for an image that does not run, one at a time, and ends with the result its checks give; FW_PREFER and FW_SVN_COMMIT store what they may; an arm is refused with its reason or
takes the place of a disarm, and a drained disarm stops the data path; HOLD is entered and left in two steps each. -/
def Obligations.UpdateArmHold : Prop :=
  (∀ i r b n s, (i, n) ∈ [(Instr.fwUpdateA r b, 0), (.fwUpdateB r b, 1)] → flashDown s = false → s.boot.update = none →
    (s.boot.fw = true → rd s K.fwImage ≠ n) → Admitted s r K.fwUpdateOp true → Runs i s (fun t => Answers t [] ∧
      t.boot.update = some (n, b, rd s K.fwUpdateSrc) ∧ rd t K.fwUpdateStatus = 2 ^ 31 ∧ Frame [K.fwUpdateStatus] [.chans, .boot, .jasper] s t)) ∧
  (∀ s, svcBusy s .update = true → Runs (.fwUpdateDone true true) s (fun t => Frame [] [] s t)) ∧
  (∀ n b a i f s, s.boot.update = some (n, b, a) → svcBusy s .update = false → n < 2 →
    (readStaged { s with boot := { s.boot with update := none } } a true).2 = some i → s.hbm.dirty.length < cacheLines →
    Runs (.fwUpdateDone true f) s (fun t =>
      t.boot.update = none ∧ imageOf t (1 - n) = imageOf s (1 - n) ∧
      (imageVerdict s i = 1 → f = true → rd t K.fwUpdateStatus = 1 ∧ imageOf t n = i ∧ rd t K.fwPrefer = (if b = true then n else rd s K.fwPrefer)) ∧
      (imageVerdict s i = 1 → f = false → rd t K.fwUpdateStatus = 4 ∧ imageOf t n = imageGone ∧ rd t K.fwPrefer = rd s K.fwPrefer) ∧
      (imageVerdict s i ≠ 1 → rd t K.fwUpdateStatus = 2 ∧ imageOf t n = imageOf s n ∧ rd t K.fwPrefer = rd s K.fwPrefer) ∧
      Frame [K.fwUpdateStatus, K.fwPrefer] [.boot, .perf] s t)) ∧
  (∀ n b a s, s.boot.update = some (n, b, a) → svcBusy s .update = false → Runs (.fwUpdateDone false true) s (fun t => t.boot.update = none ∧
    rd t K.fwUpdateStatus = 3 ∧ t.boot.imgA = s.boot.imgA ∧ t.boot.imgB = s.boot.imgB ∧ Frame [K.fwUpdateStatus] [.boot] s t)) ∧
  (∀ r v s, v ≤ 1 → flashDown s = false → Admitted s r K.fwPrefer true → Runs (.fwPreferWrite r v) s (fun t => Answers t [] ∧ rd t K.fwPrefer = v ∧
    Frame [K.fwPrefer] [.chans] s t)) ∧
  (∀ r v s, v < 256 → flashDown s = false → s.boot.fw = true → v = (imageOf s (rd s K.fwImage)).svn → Admitted s r K.fwSvnCommit true →
    Runs (.fwSvnCommit r v) s (fun t => Answers t [] ∧ rd t K.fwSvn = max v (rd s K.fwSvn) ∧ Frame [K.fwSvn] [.chans] s t)) ∧
  (∀ r s, armRefusal s = 0 → Admitted s r K.armCtrl true → Runs (.datapathArm r) s (fun t => Answers t [] ∧ rdField t K.armStatus 2 1 = 1 ∧
    rdBit t K.armStatus 0 = rdBit s K.armStatus 0 ∧ Frame [K.armStatus] [.chans] s t)) ∧
  (∀ r s, armRefusal s ≠ 0 → Admitted s r K.armCtrl true → Runs (.datapathArm r) s (fun t => t.reply.code = .wrongState ∧
    rdField t K.armStatus 15 8 = armRefusal s ∧ Pending t Ev.armRefused ∧ EvFrame [K.armStatus] [.chans] s t)) ∧
  (∀ s, startupDone s = false → armRefusal s = 1) ∧
  (∀ r s, Admitted s r K.armCtrl true → Runs (.datapathDisarm r) s (fun t => Answers t [] ∧ rdField t K.armStatus 2 1 = 2 ∧
    Frame [K.armStatus] [.chans] s t)) ∧
  (∀ s, s.boot.drain = true → s.dp.inq = [] → Runs .disarmDrained s (fun t => armed t = false ∧ t.boot.drain = false ∧ t.dp.flying = [] ∧
    s.tick.clock ≤ t.tick.clock ∧ Frame [K.armStatus] [.clock, .boot, .datapath] s t)) ∧
  (∀ r s, holdRefused s = false → rd s K.holdStatus = 0 → Admitted s r K.holdCtrl true → Runs (.holdEnter r) s (fun t => Answers t [] ∧
    rd t K.holdStatus = 1 ∧ rd t K.holdCtrl = 1 ∧ Frame [K.holdStatus, K.holdCtrl] [.chans] s t)) ∧
  (∀ r s, holdRefused s = true → Admitted s r K.holdCtrl true → Runs (.holdEnter r) s (fun t => t.reply.code = .wrongState ∧ Frame [] [.chans] s t)) ∧
  (∀ r s, rd s K.holdStatus = 2 → Admitted s r K.holdCtrl true → Runs (.holdExit r) s (fun t => Answers t [] ∧ rd t K.holdStatus = 3 ∧
    rd t K.holdCtrl = 0 ∧ Frame [K.holdStatus, K.holdCtrl] [.chans] s t)) ∧
  (∀ s, rd s K.holdStatus = 1 → s.boot.exitNext = false → Runs .holdEntryDone s (fun t => rd t K.holdStatus = 2 ∧ Pending t Ev.holdEntered ∧
    (∀ n, n < 8 → mode s n ≠ 0 → ∀ m ∈ groupLanes n, laneState t m = Lane.off) ∧
    EvFrame ([K.holdStatus, K.clkLocked] ++ (List.range 64).map K.laneStatus ++ (List.range 64).map K.rxSnr ++ (List.range 32).map K.pcsStatus ++
      (List.range 4).map K.health) [.lines] s t)) ∧
  (∀ s, rd s K.holdStatus = 3 → Runs .holdExitDone s (fun t => rd t K.holdStatus = 0 ∧ Pending t Ev.holdExited ∧
    EvFrame ([K.holdStatus] ++ (List.range 64).map K.laneStatus ++ (List.range 64).map K.rxSnr ++ (List.range 8).map K.otnEvents) [.lines] s t))

/-- An operation reads or writes its object and answers, a KDA write as the register write of its value; a request arrives where its channel has room and is served in turn: executed, its reply kept, answered again where it is the last one once more,
or, being no request, rejected and counted; SPI takes one request and gives its held
reply; an ARP request for the port's own address is answered; a channel reset drops its session and queue; a subscription starts and ends, its message sends up to 8 records at once, or what waits in the next tick; a record leaves its FIFO
with its sixth word; a read of a counter whose event fires on its first count since the last read answers its value and re-arms the event; clears of pending bits reach what their world may. -/
def Obligations.Channels : Prop :=
  (∀ r s, Admitted s r K.tickLength false → Runs (.kdaRead r K.tickLength) s (fun t => Answers t [rd s K.tickLength % 2 ^ 32] ∧
    Frame [] [.chans, .events] s t)) ∧
  (∀ r (v : Nat) s, v ≤ 1 → Admitted s r K.evtCtrl true → Runs (.kdaWrite r K.evtCtrl [v]) s (fun t => Answers t [] ∧ rd t K.evtCtrl = v ∧
    Frame [K.evtCtrl] [.chans] s t)) ∧
  (∀ r k s, Admitted s r k false → Runs (.kdaRead r k) s (fun t => t.reply = ⟨(dictRead r k s).code, (dictRead r k s).vals⟩)) ∧
  (∀ r k ws v s, decVal (typeOf k) ws = some v → Runs (.kdaWrite r k ws) s (fun t => execRegisterWrite r k v s = .next t)) ∧
  (∀ r k ws s, decVal (typeOf k) ws = none → Admitted s r k true → Runs (.kdaWrite r k ws) s (fun t => t.reply.code = .typeErr ∧
    Frame [] [.chans] s t)) ∧
  (∀ r v w s, Admitted s r K.evtCtrl true → Runs (.kdaWrite r K.evtCtrl [v, w]) s (fun t => t.reply.code = .typeErr ∧ Frame [] [.chans] s t)) ∧
  (∀ r s, s.boot.engine = true → s.ns.recs = [] → Admitted s r K.evtData false → Runs (.kdaWindowRead r K.evtData 2) s (fun t => Answers t [0, 0] ∧
    Frame [] [.chans, .events] s t)) ∧
  (∀ r k n s, (n = 0 ∨ 250 < n ∨ isWindow k = false) → Admitted s r k false → Runs (.kdaWindowRead r k n) s (fun t => t.reply.code = .typeErr ∧
    Frame [] [.chans] s t)) ∧
  (∀ r k n s, Runs (.kdaWindowRead r k n) s (fun t => t.reply = ((kdaWinRead r k n s).map (fun x => Reply.mk x.code x.vals)).getD s.reply)) ∧
  (∀ r n s, r.ch < 4 → 1 ≤ n → n ≤ 250 → Admitted s r K.attachData false → Runs (.kdaWindowRead r K.attachData n) s (fun t =>
    Answers t ((List.range n).map (fun i => nth (bytesToWords 256 (attach s r.ch).outBuf) ((attach s r.ch).ptr + i))) ∧
    (attach t r.ch).ptr = (attach s r.ch).ptr + n ∧ Frame [] [.chans] s t)) ∧
  (∀ r k (ws : List Nat) s, (ws = [] ∨ 250 < ws.length ∨ isWindow k = false) → Admitted s r k true → Runs (.kdaWindowWrite r k ws) s (fun t =>
    t.reply.code = .typeErr ∧ Frame [] [.chans] s t)) ∧
  (∀ r k ws s, Runs (.kdaWindowWrite r k ws) s (fun t => t.reply = ((kdaWinWrite r k ws s).map (fun x => Reply.mk x.code x.vals)).getD s.reply)) ∧
  (∀ r (ws : List Nat) s, (∀ w ∈ ws, w < 2 ^ 32) → ws ≠ [] → ws.length ≤ 250 → r.ch < 4 → (attach s r.ch).inBuf.length + 4 * ws.length < 1028 →
    Admitted s r K.attachData true → Runs (.kdaWindowWrite r K.attachData ws) s (fun t => Answers t [] ∧
      (attach t r.ch).inBuf = (attach s r.ch).inBuf ++ ws.flatMap (toBytes 4) ∧ Frame [] [.chans] s t)) ∧
  (∀ s, (∀ c, c < 4 → (chan s c).queue = []) → Runs (.kdaRequest .serve) s (fun t => Frame [] [] s t)) ∧
  (∀ c a u ws l s, nextChan s = some c → c ≠ 0 → (chan s c).queue = (a, u, ws) :: l → notRequest ws = true → Runs (.kdaRequest .serve) s (fun t =>
    (chan t c).queue = l ∧ Counts s t (K.chanRejected c) 1 ∧ EvFrame [K.chanRejected c] [] s t)) ∧
  (∀ a u q l s, nextChan s = some 0 → (chan s 0).queue = (a, u, [0x10010000, q * 65536 + 1, 0x10000000 + K.tickLength]) :: l → q < 65536 →
    (chan s 0).last ≠ some q → Admitted s ⟨0, false, u⟩ K.tickLength false → Runs (.kdaRequest .serve) s (fun t => (chan t 0).queue = l ∧
      (chan t 0).held = some [0x11010000, q * 65536 + 2, 65536, rd s K.tickLength % 2 ^ 32] ∧ (chan t 0).last = some q ∧ Counts s t (K.chanRequests 0) 1 ∧
      Frame [K.chanRequests 0] [.chans, .events] s t)) ∧
  (∀ a u ws l s, nextChan s = some 0 → (chan s 0).queue = (a, u, ws) :: l → notRequest ws = false → (kdaHdr ws).ver = 1 →
    (chan s 0).last = some (kdaHdr ws).seq → Runs (.kdaRequest .serve) s (fun t => (chan t 0).queue = l ∧ (chan t 0).held = some (chan s 0).kept ∧
      Counts s t (K.chanDuplicates 0) 1 ∧ Frame [K.chanDuplicates 0] [.chans] s t)) ∧
  (∀ a u ws l ops x y z s, nextChan s = some 0 → (chan s 0).queue = (a, u, ws) :: l → notRequest ws = false → (kdaHdr ws).ver = 1 →
    (chan s 0).last ≠ some (kdaHdr ws).seq → kdaFormOk 0 (kdaHdr ws) ws = true →
    kdaOps (kdaHdr ws).ops ((ws.drop (kdaHdr ws).hlen).take (kdaHdr ws).len) = some ops →
    kdaRun ⟨0, false, u⟩ ops (setChan s 0 { chan s 0 with queue := l }) (kdaHdr ws).hlen .ok [] = some (x, y, z) → x.boot.engine = true →
    Runs (.kdaRequest .serve) s (fun t => (chan t 0).held = some (kdaReply s 0 (kdaHdr ws) (codeNum y) (kdaHdr ws).ops z) ∧
      (chan t 0).kept = kdaReply s 0 (kdaHdr ws) (codeNum y) (kdaHdr ws).ops z ∧ (chan t 0).last = some (kdaHdr ws).seq ∧
      Counts x t (K.chanRequests 0) 1)) ∧
  (∀ c a ws s, (c = 1 ∨ c = 2) → s.boot.engine = true → s.life.state ≠ Lc.lost → rdBit s (K.chanCtrl c) 0 = true → rdBit s (K.chanCtrl c) 1 = true →
    notRequest ws = false → (chan s c).queue.length < 4 → Runs (.kdaRequest (.arrive c a ws)) s (fun t =>
      (chan t c).queue = (chan s c).queue ++ [(s.tick.clock, a, ws)] ∧ Frame [] [.chans] s t)) ∧
  (∀ c a ws s, (c = 1 ∨ c = 2) → s.boot.engine = true → s.life.state ≠ Lc.lost → rdBit s (K.chanCtrl c) 0 = true → rdBit s (K.chanCtrl c) 1 = true →
    notRequest ws = true → Runs (.kdaRequest (.arrive c a ws)) s (fun t => (chan t c).queue = (chan s c).queue ∧ Counts s t (K.chanRejected c) 1 ∧
      EvFrame [K.chanRejected c] [] s t)) ∧
  (∀ ws s, s.boot.engine = true → (chan s 0).queue = [] → notRequest ws = false → Runs (.spiWriteRequest ws true) s (fun t =>
    (chan t 0).queue = [(s.tick.clock, 0, ws)] ∧ (chan t 0).held = none ∧ (chan t 0).error = false ∧ Frame [] [.chans] s t)) ∧
  (∀ ws b s, s.boot.engine = true → (chan s 0).queue ≠ [] → Runs (.spiWriteRequest ws b) s (fun t => (chan t 0).queue = (chan s 0).queue ∧
    (chan t 0).error = true ∧ Frame [] [.chans] s t)) ∧
  (∀ ws s, s.boot.engine = true → (chan s 0).queue = [] → Runs (.spiWriteRequest ws false) s (fun t => (chan t 0).queue = [] ∧
    (chan t 0).held = none ∧ (chan t 0).error = true ∧ Frame [] [.chans] s t)) ∧
  (∀ ws s, s.boot.engine = true → (chan s 0).queue = [] → notRequest ws = true → Runs (.spiWriteRequest ws true) s (fun t => (chan t 0).queue = [] ∧
    (chan t 0).held = none ∧ (chan t 0).error = true ∧ Counts s t (K.chanRejected 0) 1 ∧ EvFrame [K.chanRejected 0] [] s t)) ∧
  (∀ s, Runs .spiReadStatus s (fun t => t.out = .spi [spiStatus s] :: s.out ∧ Frame [] [.out] s t)) ∧
  (∀ l s, (chan s 0).held = some l → Runs (.spiReadReply l.length) s (fun t => t.out = .spi l :: s.out ∧ Frame [] [.out] s t)) ∧
  (∀ n s, (chan s 0).held = none → Runs (.spiReadReply n) s (fun t => t.out = .spi (List.replicate n (2 ^ 32 - 1)) :: s.out ∧ Frame [] [.out] s t)) ∧
  (∀ c s, (c = 1 ∨ c = 2) → (chan s c).sess = none → Runs (.mgLinkLoss c) s (fun t => (chan t c).queue = [] ∧ (chan t c).held = none ∧
    (chan t c).sub = none ∧ (attach t c).bad = (attach s c).bad ∧ (attach t c).timeout = (attach s c).timeout ∧
    (rdBit s (K.chanCtrl c) 0 = true → rdBit t K.clkLocked 22 = false) ∧ EvFrame [K.clkLocked, K.clkLost] [.lines] s t)) ∧
  (∀ i c r s, i = Instr.spiChannelReset ∧ c = 0 ∨ i = .chanReset r c ∧ c < 4 → s.boot.engine = true →
    (chan s c).sess = none → Admitted s r (K.chanReset c) true → Runs i s (fun t => (chan t c).queue = [] ∧ (chan t c).held = none ∧
      (chan t c).sub = none ∧ (attach t c).bad = (attach s c).bad ∧ (attach t c).timeout = (attach s c).timeout ∧ Frame [] [.chans] s t)) ∧
  (∀ c v6 a b s, (c = 1 ∨ c = 2) → s.boot.engine = true → s.life.state ≠ Lc.lost → rdBit s (K.chanCtrl c) 0 = true →
    (if v6 then rd s (K.chanIpv6 c) else rd s (K.chanIpv4 c)) = a → a ≠ 0 →
    Runs (.mgArpRequest c v6 a b) s (fun t => t.out = .arp c b a (rd s (K.chanMac c)) :: s.out ∧ Frame [] [.out] s t)) ∧
  (∀ c v6 a b s, (s.life.state = Lc.lost ∨ (if v6 then rd s (K.chanIpv6 c) else rd s (K.chanIpv4 c)) ≠ a) →
    Runs (.mgArpRequest c v6 a b) s (fun t => Frame [] [] s t)) ∧
  (∀ r s, 0 < r.ch → r.ch < 4 → Admitted s r (K.evtSub r.ch) true → Runs (.evtSubscribe r r.ch) s (fun t => Answers t [] ∧
    (chan t r.ch).sub = some ⟨r.src, secure s r && !inProfile s r, 0, 0, [], 0⟩ ∧ Frame [] [.chans] s t)) ∧
  (∀ r c s, 0 < c → c < 4 → Admitted s r (K.evtSub c) true → Runs (.evtUnsubscribe r c) s (fun t => Answers t [] ∧ (chan t c).sub = none ∧
    Frame [] [.chans] s t)) ∧
  (∀ c b s, (c = 1 ∨ c = 2) → (chan s c).sub = some b → b.sess = false → 8 ≤ b.waiting.length → Runs (.evtMsgSend c) s (fun t =>
    t.out = .kda c b.addr ([2 ^ 28 + 2 * 2 ^ 24, b.frames % 2 ^ 16 * 2 ^ 16 + (b.waiting.take 8).flatten.length] ++ (b.waiting.take 8).flatten) :: s.out ∧
    (chan t c).sub = some { b with waiting := b.waiting.drop 8, frames := b.frames + 1 } ∧ Frame [] [.chans, .out] s t)) ∧
  (∀ c b s, (c = 1 ∨ c = 2) → (chan s c).sub = some b → b.sess = false → b.waiting ≠ [] → b.waiting.length < 8 → b.since < s.tick.elapsed →
    Runs (.evtMsgSend c) s (fun t =>
      t.out = .kda c b.addr ([2 ^ 28 + 2 * 2 ^ 24, b.frames % 2 ^ 16 * 2 ^ 16 + b.waiting.flatten.length] ++ b.waiting.flatten) :: s.out ∧
      (chan t c).sub = some { b with waiting := [], frames := b.frames + 1 } ∧ Frame [] [.clock, .chans, .out] s t)) ∧
  (∀ c s, (∀ b, (chan s c).sub = some b → b.waiting = []) → Runs (.evtMsgSend c) s (fun t => Frame [] [] s t)) ∧
  (∀ r a l s, s.ns.recs = a :: l → s.ns.ptr = 5 → Admitted s r K.evtData false → Runs (.evtDataRead r) s (fun t => Answers t [nth a 5] ∧
    t.ns.recs = l ∧ t.ns.ptr = 0 ∧ Frame [] [.chans, .events] s t)) ∧
  (∀ r a l s, s.sec.recs = a :: l → s.sec.ptr < 5 → Admitted s r K.evtDataS false → Runs (.evtDataSRead r) s (fun t => Answers t [nth a s.sec.ptr] ∧
    t.sec.recs = s.sec.recs ∧ t.sec.ptr = s.sec.ptr + 1 ∧ Frame [] [.chans, .events] s t)) ∧
  (∀ r w (v : Nat) s, w < 12 → v < 2 ^ 32 → rd s (K.evtPending w) < 2 ^ 32 → Admitted s r (K.evtPending w) true → Runs (.evtPendingClear r w v) s (fun t =>
    Answers t [] ∧ (∀ i, i < 32 → rdBit t (K.evtPending w) i = (rdBit s (K.evtPending w) i && !(bit v i && bit (evMask w (secure s r)) i))) ∧
    Frame [K.evtPending w] [.chans] s t)) ∧
  (∀ i r k c s, (i, k) ∈ [(Instr.evtLostRead r false, K.evtLost), (.evtLostRead r true, K.evtLostS), (.chanRejectedRead r (c % 4), K.chanRejected (c % 4)),
      (.chanRxDropsRead r (1 + c % 3), K.chanRxDrops (1 + c % 3)), (.masterRefusedRead r, K.masterRefused), (.memLastRead r, K.memLast),
      (.slowOverflowRead r (c % 8), K.slowOverflow (c % 8)), (.learnFullRead r (c % 4), K.learnFull (c % 4)), (.resvDropsRead r, K.resvDrops),
      (.migrateLateRead r, K.migrateLate)] →
    Admitted s r k false → Runs i s (fun t => Answers t [rd s k % 2 ^ 32] ∧ tget 0 t.fired k = 0 ∧ Frame [] [.chans, .events] s t)) ∧
  (∀ i r k q s, q < 32 → isPort s q = true → (i, k) ∈ [(Instr.detLateRead r q, K.detLate q), (.verifyLastRead r q, K.verifyLast q),
      (.txTsLostRead r q, K.txTsLost q)] → Admitted s r k false → Runs i s (fun t => Answers t [rd s k % 2 ^ 32] ∧ tget 0 t.fired k = 0 ∧
        Frame [] [.chans, .events] s t)) ∧
  (∀ r k s, k < 4 → Admitted s r (K.tailDrops k) false → Runs (.tailDropsRead r k) s (fun t =>
    Answers t [rd s (K.tailDrops k) / 2 ^ 32 % 2 ^ 32, rd s (K.tailDrops k) % 2 ^ 32] ∧ tget 0 t.fired (K.tailDrops k) = 0 ∧
    Frame [] [.chans, .events] s t))
/-- Every operation on a secure-only object (a write, a read, a window read or write) by a requester of the non-secure world that no other rule refuses first aborts with the world-violation code and
leaves every register, window pointer, pending event and counter as it was, but for the count and the name of the violation. -/
def Obligations.NonSecureAccess : Prop :=
  ∀ i r k v n ws o s, i ∈ [Instr.registerWrite r k v, .kdaRead r k, .kdaWrite r k ws, .kdaWindowRead r k n, .kdaWindowWrite r k ws] →
    s.boot.engine = true → s.boot.fw = true → s.life.state < 4 → (r.ch = 4 → s.life.scope ≠ 0) → rdBit s K.startupStatus 10 = false →
    inProfile s r = false → objOf k = some o → o.acc.secureOnly = true → secure s r = false → Runs i s (fun t =>
      t.reply.code = .worldViolation ∧ Frame [K.worldViolations, K.worldLast] [] s t)

/-- A non-secure read of a group of EVT_PENDING, EVT_IRQ_EN, EVT_RECORD_EN or EVT_MSG_EN gives 0 for the secure sources, 112 to 159 and 176 to 191, and the stored bit for every shared one; a non-secure
write of an enable gives the shared bits the value written, a clear of pending bits clears the shared ones, and both leave the secure ones as they were; neither aborts. -/
def Obligations.SecureSources : Prop :=
  let sec := fun (n : Nat) => (decide (112 ≤ n) && decide (n < 160)) || (decide (176 ≤ n) && decide (n < 192))
  (∀ r w k s, w < 12 → k ∈ [K.evtPending w, K.evtIrqEn w, K.evtRecordEn w, K.evtMsgEn w] → secure s r = false → rd s k < 2 ^ 32 →
    Admitted s r k false → Runs (.kdaRead r k) s (fun t => Frame [] [.chans, .events] s t ∧ ∃ x, Answers t [x] ∧
      ∀ i, i < 32 → (sec (32 * w + i) = true → bit x i = false) ∧
        (srcDefined (32 * w + i) = true → sec (32 * w + i) = false → bit x i = rdBit s k i))) ∧
  (∀ r w k (v : Nat) s, w < 12 → k ∈ [K.evtIrqEn w, K.evtRecordEn w, K.evtMsgEn w] → secure s r = false → v < 2 ^ 32 → rd s k < 2 ^ 32 →
    Admitted s r k true → Runs (.registerWrite r k v) s (fun t => Answers t [] ∧ Frame [k] [.chans] s t ∧
      ∀ i, i < 32 → (sec (32 * w + i) = true → rdBit t k i = rdBit s k i) ∧
        (srcDefined (32 * w + i) = true → sec (32 * w + i) = false → rdBit t k i = bit v i))) ∧
  (∀ r w (v : Nat) i s, w < 12 → i = Instr.registerWrite r (K.evtPending w) v ∨ i = .evtPendingClear r w v → secure s r = false → v < 2 ^ 32 →
    rd s (K.evtPending w) < 2 ^ 32 → Admitted s r (K.evtPending w) true → Runs i s (fun t => Answers t [] ∧ Frame [K.evtPending w] [.chans] s t ∧
      ∀ j, j < 32 → (sec (32 * w + j) = true → rdBit t (K.evtPending w) j = rdBit s (K.evtPending w) j) ∧
        (srcDefined (32 * w + j) = true → sec (32 * w + j) = false → rdBit t (K.evtPending w) j = (rdBit s (K.evtPending w) j && !bit v j))))

/-- Until the engine runs, and in LOST on every channel but SPI, an access has no reply; in SCRAP it takes the wrong-state code but for the identity objects, and so it does through a closed debug port
but for those and the life-cycle range; after a failed flash link or without firmware the objects it needs are not ready; an index that no object occupies and a write of a read-only object abort. None
of them changes any register. -/
def Obligations.ChecksOfAnAccess : Prop :=
  (∀ i r k v ws s, i ∈ [Instr.registerWrite r k v, .kdaRead r k, .kdaWrite r k ws] → s.boot.engine = false ∨ s.life.state = Lc.lost ∧ r.ch ≠ 0 →
    Runs i s (fun t => t.reply = s.reply ∧ Frame [] [] s t)) ∧
  (∀ i r k v ws c s, i ∈ [Instr.registerWrite r k v, .kdaRead r k, .kdaWrite r k ws] → s.boot.engine = true →
    (s.life.state = Lc.lost ∧ r.ch = 0 ∧ c = Code.wrongState ∨ s.life.state = Lc.scrap ∧ isIdentity k = false ∧ c = .wrongState ∨
      s.life.state < 4 ∧ r.ch = 4 ∧ s.life.scope = 0 ∧ isIdentity k = false ∧ isLifeCycle k = false ∧ c = .wrongState ∨
      s.life.state < 4 ∧ r.ch ≠ 4 ∧ inProfile s r = true ∧ profileHas k = false ∧ c = .noObject ∨
      s.life.state < 4 ∧ r.ch ≠ 4 ∧ objOf k = none ∧ c = .noObject ∨
      s.life.state < 4 ∧ r.ch ≠ 4 ∧ inProfile s r = false ∧ (objOf k).isSome = true ∧ rdBit s K.startupStatus 10 = true ∧ flashFailHas k = false ∧
        c = .notReady ∨
      s.life.state < 4 ∧ r.ch ≠ 4 ∧ inProfile s r = false ∧ (objOf k).isSome = true ∧ s.boot.fw = false ∧ hwServed s r k = false ∧
        c = .notReady) → Runs i s (fun t => t.reply.code = c ∧ Frame [] [.chans] s t)) ∧
  (∀ i r k v ws o s, i ∈ [Instr.registerWrite r k v, .kdaWrite r k ws] → s.boot.engine = true → s.boot.fw = true → s.life.state < 4 → r.ch ≠ 4 →
    rdBit s K.startupStatus 10 = false → inProfile s r = false → objOf k = some o → o.acc.readOnly = true → (o.acc.secureOnly = true → secure s r = true) →
    Runs i s (fun t => t.reply.code = .readOnly ∧ Frame [] [.chans] s t))

/-- With a command at the front of its queue the block runs exactly that command on the rest of the queue; with an empty queue one core clock passes and nothing else changes (the model's choice, log entry 1). -/
def Obligations.StepRunsFront : Prop :=
  (∀ c l (s : Machine.State), step { s with pending := c :: l } = exec c { s with pending := l }) ∧
  (∀ (s : Machine.State), s.pending = [] → ∃ t, step s = .next t ∧ t.tick.clock = s.tick.clock + 1 ∧ t.pending = [] ∧ t.phase = s.phase ∧ Frame [] [.clock] s t)

/-- Whatever the state and the operands, every command of the block answers a next state: none stops it. It leaves the queue of waiting commands and the unit's own antifuse values as they were. -/
def Obligations.EveryCommandAnswers : Prop :=
  ∀ c s, Runs c s (fun t => t.pending = s.pending ∧ t.unit = s.unit)

/-- In every state whose tick grid lies within 5,000 core clocks (4,000 ns) of TB0's time, every step leads to such a state: only a boundary moves the phase, by a correction that the limit clamps, and only
a reset of the device returns it to 0. -/
def Obligations.StepKeepsPhase : Prop := ∀ s t, Machine.Inv s → step s = .next t → Machine.Inv t

/-- Right after reset every object reads its default (the values the spec states, and those log entry 2 names), no command waits, the engine does not run, nothing is staged, queued or held, and the phase of the
grid is 0, within its limit. -/
def Obligations.ResetState : Prop :=
  Machine.Inv State.reset ∧ State.reset.phase = 0 ∧ State.reset.pending = [] ∧ (∀ k, rd State.reset k = dfltOf k) ∧ State.reset.boot.engine = false ∧
  State.reset.claims = [] ∧ State.reset.stage = [] ∧ State.reset.out = [] ∧ State.reset.ns.recs = [] ∧ State.reset.sec.recs = [] ∧
  (∀ c, (chan State.reset c).sess = none ∧ (chan State.reset c).queue = []) ∧ State.reset.keys.root = none ∧ State.reset.hbm.lines = []
end

