-- ==== Sys2Proof/Laws/State.lean ====
section
/-! SUPPORT. What each update of the state leaves of every field: one lemma per field and update. -/

namespace Sys2Proof.Machine

@[simp] theorem wr_phase (s : State) (k v : Nat) : (wr s k v).phase = s.phase := (rfl)
@[simp] theorem wr_unit (s : State) (k v : Nat) : (wr s k v).unit = s.unit := (rfl)
@[simp] theorem wr_tick (s : State) (k v : Nat) : (wr s k v).tick = s.tick := (rfl)
@[simp] theorem wr_tbs (s : State) (k v : Nat) : (wr s k v).tbs = s.tbs := (rfl)
@[simp] theorem wr_ns (s : State) (k v : Nat) : (wr s k v).ns = s.ns := (rfl)
@[simp] theorem wr_sec (s : State) (k v : Nat) : (wr s k v).sec = s.sec := (rfl)
@[simp] theorem wr_fired (s : State) (k v : Nat) : (wr s k v).fired = s.fired := (rfl)
@[simp] theorem wr_claims (s : State) (k v : Nat) : (wr s k v).claims = s.claims := (rfl)
@[simp] theorem wr_stage (s : State) (k v : Nat) : (wr s k v).stage = s.stage := (rfl)
@[simp] theorem wr_chans (s : State) (k v : Nat) : (wr s k v).chans = s.chans := (rfl)
@[simp] theorem wr_boot (s : State) (k v : Nat) : (wr s k v).boot = s.boot := (rfl)
@[simp] theorem wr_life (s : State) (k v : Nat) : (wr s k v).life = s.life := (rfl)
@[simp] theorem wr_lines (s : State) (k v : Nat) : (wr s k v).lines = s.lines := (rfl)
@[simp] theorem wr_tables (s : State) (k v : Nat) : (wr s k v).tables = s.tables := (rfl)
@[simp] theorem wr_perf (s : State) (k v : Nat) : (wr s k v).perf = s.perf := (rfl)
@[simp] theorem wr_assoc (s : State) (k v : Nat) : (wr s k v).assoc = s.assoc := (rfl)
@[simp] theorem wr_dp (s : State) (k v : Nat) : (wr s k v).dp = s.dp := (rfl)
@[simp] theorem wr_stats (s : State) (k v : Nat) : (wr s k v).stats = s.stats := (rfl)
@[simp] theorem wr_fab (s : State) (k v : Nat) : (wr s k v).fab = s.fab := (rfl)
@[simp] theorem wr_hbm (s : State) (k v : Nat) : (wr s k v).hbm = s.hbm := (rfl)
@[simp] theorem wr_beryl (s : State) (k v : Nat) : (wr s k v).beryl = s.beryl := (rfl)
@[simp] theorem wr_jasper (s : State) (k v : Nat) : (wr s k v).jasper = s.jasper := (rfl)
@[simp] theorem wr_keys (s : State) (k v : Nat) : (wr s k v).keys = s.keys := (rfl)
@[simp] theorem wr_onyx (s : State) (k v : Nat) : (wr s k v).onyx = s.onyx := (rfl)
@[simp] theorem wr_draws (s : State) (k v : Nat) : (wr s k v).draws = s.draws := (rfl)
@[simp] theorem wr_reply (s : State) (k v : Nat) : (wr s k v).reply = s.reply := (rfl)
@[simp] theorem wr_out (s : State) (k v : Nat) : (wr s k v).out = s.out := (rfl)
@[simp] theorem wr_pending (s : State) (k v : Nat) : (wr s k v).pending = s.pending := (rfl)

@[simp] theorem emit_regs (s : State) (o : Output) : (emit s o).regs = s.regs := (rfl)
@[simp] theorem emit_phase (s : State) (o : Output) : (emit s o).phase = s.phase := (rfl)
@[simp] theorem emit_unit (s : State) (o : Output) : (emit s o).unit = s.unit := (rfl)
@[simp] theorem emit_tick (s : State) (o : Output) : (emit s o).tick = s.tick := (rfl)
@[simp] theorem emit_tbs (s : State) (o : Output) : (emit s o).tbs = s.tbs := (rfl)
@[simp] theorem emit_ns (s : State) (o : Output) : (emit s o).ns = s.ns := (rfl)
@[simp] theorem emit_sec (s : State) (o : Output) : (emit s o).sec = s.sec := (rfl)
@[simp] theorem emit_fired (s : State) (o : Output) : (emit s o).fired = s.fired := (rfl)
@[simp] theorem emit_claims (s : State) (o : Output) : (emit s o).claims = s.claims := (rfl)
@[simp] theorem emit_stage (s : State) (o : Output) : (emit s o).stage = s.stage := (rfl)
@[simp] theorem emit_chans (s : State) (o : Output) : (emit s o).chans = s.chans := (rfl)
@[simp] theorem emit_boot (s : State) (o : Output) : (emit s o).boot = s.boot := (rfl)
@[simp] theorem emit_life (s : State) (o : Output) : (emit s o).life = s.life := (rfl)
@[simp] theorem emit_lines (s : State) (o : Output) : (emit s o).lines = s.lines := (rfl)
@[simp] theorem emit_tables (s : State) (o : Output) : (emit s o).tables = s.tables := (rfl)
@[simp] theorem emit_perf (s : State) (o : Output) : (emit s o).perf = s.perf := (rfl)
@[simp] theorem emit_assoc (s : State) (o : Output) : (emit s o).assoc = s.assoc := (rfl)
@[simp] theorem emit_dp (s : State) (o : Output) : (emit s o).dp = s.dp := (rfl)
@[simp] theorem emit_stats (s : State) (o : Output) : (emit s o).stats = s.stats := (rfl)
@[simp] theorem emit_fab (s : State) (o : Output) : (emit s o).fab = s.fab := (rfl)
@[simp] theorem emit_hbm (s : State) (o : Output) : (emit s o).hbm = s.hbm := (rfl)
@[simp] theorem emit_beryl (s : State) (o : Output) : (emit s o).beryl = s.beryl := (rfl)
@[simp] theorem emit_jasper (s : State) (o : Output) : (emit s o).jasper = s.jasper := (rfl)
@[simp] theorem emit_keys (s : State) (o : Output) : (emit s o).keys = s.keys := (rfl)
@[simp] theorem emit_onyx (s : State) (o : Output) : (emit s o).onyx = s.onyx := (rfl)
@[simp] theorem emit_draws (s : State) (o : Output) : (emit s o).draws = s.draws := (rfl)
@[simp] theorem emit_reply (s : State) (o : Output) : (emit s o).reply = s.reply := (rfl)
@[simp] theorem emit_pending (s : State) (o : Output) : (emit s o).pending = s.pending := (rfl)

@[simp] theorem replied_regs (s : State) (c : Code) (l : List Word) : (replied s c l).regs = s.regs := (rfl)
@[simp] theorem replied_phase (s : State) (c : Code) (l : List Word) : (replied s c l).phase = s.phase := (rfl)
@[simp] theorem replied_unit (s : State) (c : Code) (l : List Word) : (replied s c l).unit = s.unit := (rfl)
@[simp] theorem replied_tick (s : State) (c : Code) (l : List Word) : (replied s c l).tick = s.tick := (rfl)
@[simp] theorem replied_tbs (s : State) (c : Code) (l : List Word) : (replied s c l).tbs = s.tbs := (rfl)
@[simp] theorem replied_ns (s : State) (c : Code) (l : List Word) : (replied s c l).ns = s.ns := (rfl)
@[simp] theorem replied_sec (s : State) (c : Code) (l : List Word) : (replied s c l).sec = s.sec := (rfl)
@[simp] theorem replied_fired (s : State) (c : Code) (l : List Word) : (replied s c l).fired = s.fired := (rfl)
@[simp] theorem replied_claims (s : State) (c : Code) (l : List Word) : (replied s c l).claims = s.claims := (rfl)
@[simp] theorem replied_stage (s : State) (c : Code) (l : List Word) : (replied s c l).stage = s.stage := (rfl)
@[simp] theorem replied_chans (s : State) (c : Code) (l : List Word) : (replied s c l).chans = s.chans := (rfl)
@[simp] theorem replied_boot (s : State) (c : Code) (l : List Word) : (replied s c l).boot = s.boot := (rfl)
@[simp] theorem replied_life (s : State) (c : Code) (l : List Word) : (replied s c l).life = s.life := (rfl)
@[simp] theorem replied_lines (s : State) (c : Code) (l : List Word) : (replied s c l).lines = s.lines := (rfl)
@[simp] theorem replied_tables (s : State) (c : Code) (l : List Word) : (replied s c l).tables = s.tables := (rfl)
@[simp] theorem replied_perf (s : State) (c : Code) (l : List Word) : (replied s c l).perf = s.perf := (rfl)
@[simp] theorem replied_assoc (s : State) (c : Code) (l : List Word) : (replied s c l).assoc = s.assoc := (rfl)
@[simp] theorem replied_dp (s : State) (c : Code) (l : List Word) : (replied s c l).dp = s.dp := (rfl)
@[simp] theorem replied_stats (s : State) (c : Code) (l : List Word) : (replied s c l).stats = s.stats := (rfl)
@[simp] theorem replied_fab (s : State) (c : Code) (l : List Word) : (replied s c l).fab = s.fab := (rfl)
@[simp] theorem replied_hbm (s : State) (c : Code) (l : List Word) : (replied s c l).hbm = s.hbm := (rfl)
@[simp] theorem replied_beryl (s : State) (c : Code) (l : List Word) : (replied s c l).beryl = s.beryl := (rfl)
@[simp] theorem replied_jasper (s : State) (c : Code) (l : List Word) : (replied s c l).jasper = s.jasper := (rfl)
@[simp] theorem replied_keys (s : State) (c : Code) (l : List Word) : (replied s c l).keys = s.keys := (rfl)
@[simp] theorem replied_onyx (s : State) (c : Code) (l : List Word) : (replied s c l).onyx = s.onyx := (rfl)
@[simp] theorem replied_draws (s : State) (c : Code) (l : List Word) : (replied s c l).draws = s.draws := (rfl)
@[simp] theorem replied_out (s : State) (c : Code) (l : List Word) : (replied s c l).out = s.out := (rfl)
@[simp] theorem replied_pending (s : State) (c : Code) (l : List Word) : (replied s c l).pending = s.pending := (rfl)

@[simp] theorem toCc_regs (s : State) (n : Nat) : (toCc s n).regs = s.regs := (rfl)
@[simp] theorem toCc_phase (s : State) (n : Nat) : (toCc s n).phase = s.phase := (rfl)
@[simp] theorem toCc_unit (s : State) (n : Nat) : (toCc s n).unit = s.unit := (rfl)
@[simp] theorem toCc_tbs (s : State) (n : Nat) : (toCc s n).tbs = s.tbs := (rfl)
@[simp] theorem toCc_ns (s : State) (n : Nat) : (toCc s n).ns = s.ns := (rfl)
@[simp] theorem toCc_sec (s : State) (n : Nat) : (toCc s n).sec = s.sec := (rfl)
@[simp] theorem toCc_fired (s : State) (n : Nat) : (toCc s n).fired = s.fired := (rfl)
@[simp] theorem toCc_claims (s : State) (n : Nat) : (toCc s n).claims = s.claims := (rfl)
@[simp] theorem toCc_stage (s : State) (n : Nat) : (toCc s n).stage = s.stage := (rfl)
@[simp] theorem toCc_chans (s : State) (n : Nat) : (toCc s n).chans = s.chans := (rfl)
@[simp] theorem toCc_boot (s : State) (n : Nat) : (toCc s n).boot = s.boot := (rfl)
@[simp] theorem toCc_life (s : State) (n : Nat) : (toCc s n).life = s.life := (rfl)
@[simp] theorem toCc_lines (s : State) (n : Nat) : (toCc s n).lines = s.lines := (rfl)
@[simp] theorem toCc_tables (s : State) (n : Nat) : (toCc s n).tables = s.tables := (rfl)
@[simp] theorem toCc_perf (s : State) (n : Nat) : (toCc s n).perf = s.perf := (rfl)
@[simp] theorem toCc_assoc (s : State) (n : Nat) : (toCc s n).assoc = s.assoc := (rfl)
@[simp] theorem toCc_dp (s : State) (n : Nat) : (toCc s n).dp = s.dp := (rfl)
@[simp] theorem toCc_stats (s : State) (n : Nat) : (toCc s n).stats = s.stats := (rfl)
@[simp] theorem toCc_fab (s : State) (n : Nat) : (toCc s n).fab = s.fab := (rfl)
@[simp] theorem toCc_hbm (s : State) (n : Nat) : (toCc s n).hbm = s.hbm := (rfl)
@[simp] theorem toCc_beryl (s : State) (n : Nat) : (toCc s n).beryl = s.beryl := (rfl)
@[simp] theorem toCc_jasper (s : State) (n : Nat) : (toCc s n).jasper = s.jasper := (rfl)
@[simp] theorem toCc_keys (s : State) (n : Nat) : (toCc s n).keys = s.keys := (rfl)
@[simp] theorem toCc_onyx (s : State) (n : Nat) : (toCc s n).onyx = s.onyx := (rfl)
@[simp] theorem toCc_draws (s : State) (n : Nat) : (toCc s n).draws = s.draws := (rfl)
@[simp] theorem toCc_reply (s : State) (n : Nat) : (toCc s n).reply = s.reply := (rfl)
@[simp] theorem toCc_out (s : State) (n : Nat) : (toCc s n).out = s.out := (rfl)
@[simp] theorem toCc_pending (s : State) (n : Nat) : (toCc s n).pending = s.pending := (rfl)

@[simp] theorem passCc_regs (s : State) (n : Nat) : (passCc s n).regs = s.regs := (rfl)
@[simp] theorem passCc_phase (s : State) (n : Nat) : (passCc s n).phase = s.phase := (rfl)
@[simp] theorem passCc_unit (s : State) (n : Nat) : (passCc s n).unit = s.unit := (rfl)
@[simp] theorem passCc_tbs (s : State) (n : Nat) : (passCc s n).tbs = s.tbs := (rfl)
@[simp] theorem passCc_ns (s : State) (n : Nat) : (passCc s n).ns = s.ns := (rfl)
@[simp] theorem passCc_sec (s : State) (n : Nat) : (passCc s n).sec = s.sec := (rfl)
@[simp] theorem passCc_fired (s : State) (n : Nat) : (passCc s n).fired = s.fired := (rfl)
@[simp] theorem passCc_claims (s : State) (n : Nat) : (passCc s n).claims = s.claims := (rfl)
@[simp] theorem passCc_stage (s : State) (n : Nat) : (passCc s n).stage = s.stage := (rfl)
@[simp] theorem passCc_chans (s : State) (n : Nat) : (passCc s n).chans = s.chans := (rfl)
@[simp] theorem passCc_boot (s : State) (n : Nat) : (passCc s n).boot = s.boot := (rfl)
@[simp] theorem passCc_life (s : State) (n : Nat) : (passCc s n).life = s.life := (rfl)
@[simp] theorem passCc_lines (s : State) (n : Nat) : (passCc s n).lines = s.lines := (rfl)
@[simp] theorem passCc_tables (s : State) (n : Nat) : (passCc s n).tables = s.tables := (rfl)
@[simp] theorem passCc_perf (s : State) (n : Nat) : (passCc s n).perf = s.perf := (rfl)
@[simp] theorem passCc_assoc (s : State) (n : Nat) : (passCc s n).assoc = s.assoc := (rfl)
@[simp] theorem passCc_dp (s : State) (n : Nat) : (passCc s n).dp = s.dp := (rfl)
@[simp] theorem passCc_stats (s : State) (n : Nat) : (passCc s n).stats = s.stats := (rfl)
@[simp] theorem passCc_fab (s : State) (n : Nat) : (passCc s n).fab = s.fab := (rfl)
@[simp] theorem passCc_hbm (s : State) (n : Nat) : (passCc s n).hbm = s.hbm := (rfl)
@[simp] theorem passCc_beryl (s : State) (n : Nat) : (passCc s n).beryl = s.beryl := (rfl)
@[simp] theorem passCc_jasper (s : State) (n : Nat) : (passCc s n).jasper = s.jasper := (rfl)
@[simp] theorem passCc_keys (s : State) (n : Nat) : (passCc s n).keys = s.keys := (rfl)
@[simp] theorem passCc_onyx (s : State) (n : Nat) : (passCc s n).onyx = s.onyx := (rfl)
@[simp] theorem passCc_draws (s : State) (n : Nat) : (passCc s n).draws = s.draws := (rfl)
@[simp] theorem passCc_reply (s : State) (n : Nat) : (passCc s n).reply = s.reply := (rfl)
@[simp] theorem passCc_out (s : State) (n : Nat) : (passCc s n).out = s.out := (rfl)
@[simp] theorem passCc_pending (s : State) (n : Nat) : (passCc s n).pending = s.pending := (rfl)

@[simp] theorem setChan_regs (s : State) (c : Nat) (x : Chan) : (setChan s c x).regs = s.regs := (rfl)
@[simp] theorem setChan_phase (s : State) (c : Nat) (x : Chan) : (setChan s c x).phase = s.phase := (rfl)
@[simp] theorem setChan_unit (s : State) (c : Nat) (x : Chan) : (setChan s c x).unit = s.unit := (rfl)
@[simp] theorem setChan_tick (s : State) (c : Nat) (x : Chan) : (setChan s c x).tick = s.tick := (rfl)
@[simp] theorem setChan_tbs (s : State) (c : Nat) (x : Chan) : (setChan s c x).tbs = s.tbs := (rfl)
@[simp] theorem setChan_ns (s : State) (c : Nat) (x : Chan) : (setChan s c x).ns = s.ns := (rfl)
@[simp] theorem setChan_sec (s : State) (c : Nat) (x : Chan) : (setChan s c x).sec = s.sec := (rfl)
@[simp] theorem setChan_fired (s : State) (c : Nat) (x : Chan) : (setChan s c x).fired = s.fired := (rfl)
@[simp] theorem setChan_claims (s : State) (c : Nat) (x : Chan) : (setChan s c x).claims = s.claims := (rfl)
@[simp] theorem setChan_stage (s : State) (c : Nat) (x : Chan) : (setChan s c x).stage = s.stage := (rfl)
@[simp] theorem setChan_boot (s : State) (c : Nat) (x : Chan) : (setChan s c x).boot = s.boot := (rfl)
@[simp] theorem setChan_life (s : State) (c : Nat) (x : Chan) : (setChan s c x).life = s.life := (rfl)
@[simp] theorem setChan_lines (s : State) (c : Nat) (x : Chan) : (setChan s c x).lines = s.lines := (rfl)
@[simp] theorem setChan_tables (s : State) (c : Nat) (x : Chan) : (setChan s c x).tables = s.tables := (rfl)
@[simp] theorem setChan_perf (s : State) (c : Nat) (x : Chan) : (setChan s c x).perf = s.perf := (rfl)
@[simp] theorem setChan_assoc (s : State) (c : Nat) (x : Chan) : (setChan s c x).assoc = s.assoc := (rfl)
@[simp] theorem setChan_dp (s : State) (c : Nat) (x : Chan) : (setChan s c x).dp = s.dp := (rfl)
@[simp] theorem setChan_stats (s : State) (c : Nat) (x : Chan) : (setChan s c x).stats = s.stats := (rfl)
@[simp] theorem setChan_fab (s : State) (c : Nat) (x : Chan) : (setChan s c x).fab = s.fab := (rfl)
@[simp] theorem setChan_hbm (s : State) (c : Nat) (x : Chan) : (setChan s c x).hbm = s.hbm := (rfl)
@[simp] theorem setChan_beryl (s : State) (c : Nat) (x : Chan) : (setChan s c x).beryl = s.beryl := (rfl)
@[simp] theorem setChan_jasper (s : State) (c : Nat) (x : Chan) : (setChan s c x).jasper = s.jasper := (rfl)
@[simp] theorem setChan_keys (s : State) (c : Nat) (x : Chan) : (setChan s c x).keys = s.keys := (rfl)
@[simp] theorem setChan_onyx (s : State) (c : Nat) (x : Chan) : (setChan s c x).onyx = s.onyx := (rfl)
@[simp] theorem setChan_draws (s : State) (c : Nat) (x : Chan) : (setChan s c x).draws = s.draws := (rfl)
@[simp] theorem setChan_reply (s : State) (c : Nat) (x : Chan) : (setChan s c x).reply = s.reply := (rfl)
@[simp] theorem setChan_out (s : State) (c : Nat) (x : Chan) : (setChan s c x).out = s.out := (rfl)
@[simp] theorem setChan_pending (s : State) (c : Nat) (x : Chan) : (setChan s c x).pending = s.pending := (rfl)

@[simp] theorem setTb_regs (s : State) (n : Nat) (x : Tb) : (setTb s n x).regs = s.regs := (rfl)
@[simp] theorem setTb_phase (s : State) (n : Nat) (x : Tb) : (setTb s n x).phase = s.phase := (rfl)
@[simp] theorem setTb_unit (s : State) (n : Nat) (x : Tb) : (setTb s n x).unit = s.unit := (rfl)
@[simp] theorem setTb_tick (s : State) (n : Nat) (x : Tb) : (setTb s n x).tick = s.tick := (rfl)
@[simp] theorem setTb_ns (s : State) (n : Nat) (x : Tb) : (setTb s n x).ns = s.ns := (rfl)
@[simp] theorem setTb_sec (s : State) (n : Nat) (x : Tb) : (setTb s n x).sec = s.sec := (rfl)
@[simp] theorem setTb_fired (s : State) (n : Nat) (x : Tb) : (setTb s n x).fired = s.fired := (rfl)
@[simp] theorem setTb_claims (s : State) (n : Nat) (x : Tb) : (setTb s n x).claims = s.claims := (rfl)
@[simp] theorem setTb_stage (s : State) (n : Nat) (x : Tb) : (setTb s n x).stage = s.stage := (rfl)
@[simp] theorem setTb_chans (s : State) (n : Nat) (x : Tb) : (setTb s n x).chans = s.chans := (rfl)
@[simp] theorem setTb_boot (s : State) (n : Nat) (x : Tb) : (setTb s n x).boot = s.boot := (rfl)
@[simp] theorem setTb_life (s : State) (n : Nat) (x : Tb) : (setTb s n x).life = s.life := (rfl)
@[simp] theorem setTb_lines (s : State) (n : Nat) (x : Tb) : (setTb s n x).lines = s.lines := (rfl)
@[simp] theorem setTb_tables (s : State) (n : Nat) (x : Tb) : (setTb s n x).tables = s.tables := (rfl)
@[simp] theorem setTb_perf (s : State) (n : Nat) (x : Tb) : (setTb s n x).perf = s.perf := (rfl)
@[simp] theorem setTb_assoc (s : State) (n : Nat) (x : Tb) : (setTb s n x).assoc = s.assoc := (rfl)
@[simp] theorem setTb_dp (s : State) (n : Nat) (x : Tb) : (setTb s n x).dp = s.dp := (rfl)
@[simp] theorem setTb_stats (s : State) (n : Nat) (x : Tb) : (setTb s n x).stats = s.stats := (rfl)
@[simp] theorem setTb_fab (s : State) (n : Nat) (x : Tb) : (setTb s n x).fab = s.fab := (rfl)
@[simp] theorem setTb_hbm (s : State) (n : Nat) (x : Tb) : (setTb s n x).hbm = s.hbm := (rfl)
@[simp] theorem setTb_beryl (s : State) (n : Nat) (x : Tb) : (setTb s n x).beryl = s.beryl := (rfl)
@[simp] theorem setTb_jasper (s : State) (n : Nat) (x : Tb) : (setTb s n x).jasper = s.jasper := (rfl)
@[simp] theorem setTb_keys (s : State) (n : Nat) (x : Tb) : (setTb s n x).keys = s.keys := (rfl)
@[simp] theorem setTb_onyx (s : State) (n : Nat) (x : Tb) : (setTb s n x).onyx = s.onyx := (rfl)
@[simp] theorem setTb_draws (s : State) (n : Nat) (x : Tb) : (setTb s n x).draws = s.draws := (rfl)
@[simp] theorem setTb_reply (s : State) (n : Nat) (x : Tb) : (setTb s n x).reply = s.reply := (rfl)
@[simp] theorem setTb_out (s : State) (n : Nat) (x : Tb) : (setTb s n x).out = s.out := (rfl)
@[simp] theorem setTb_pending (s : State) (n : Nat) (x : Tb) : (setTb s n x).pending = s.pending := (rfl)

@[simp] theorem rearm_regs (s : State) (k : Nat) : (rearm s k).regs = s.regs := (rfl)
@[simp] theorem rearm_phase (s : State) (k : Nat) : (rearm s k).phase = s.phase := (rfl)
@[simp] theorem rearm_unit (s : State) (k : Nat) : (rearm s k).unit = s.unit := (rfl)
@[simp] theorem rearm_tick (s : State) (k : Nat) : (rearm s k).tick = s.tick := (rfl)
@[simp] theorem rearm_tbs (s : State) (k : Nat) : (rearm s k).tbs = s.tbs := (rfl)
@[simp] theorem rearm_ns (s : State) (k : Nat) : (rearm s k).ns = s.ns := (rfl)
@[simp] theorem rearm_sec (s : State) (k : Nat) : (rearm s k).sec = s.sec := (rfl)
@[simp] theorem rearm_claims (s : State) (k : Nat) : (rearm s k).claims = s.claims := (rfl)
@[simp] theorem rearm_stage (s : State) (k : Nat) : (rearm s k).stage = s.stage := (rfl)
@[simp] theorem rearm_chans (s : State) (k : Nat) : (rearm s k).chans = s.chans := (rfl)
@[simp] theorem rearm_boot (s : State) (k : Nat) : (rearm s k).boot = s.boot := (rfl)
@[simp] theorem rearm_life (s : State) (k : Nat) : (rearm s k).life = s.life := (rfl)
@[simp] theorem rearm_lines (s : State) (k : Nat) : (rearm s k).lines = s.lines := (rfl)
@[simp] theorem rearm_tables (s : State) (k : Nat) : (rearm s k).tables = s.tables := (rfl)
@[simp] theorem rearm_perf (s : State) (k : Nat) : (rearm s k).perf = s.perf := (rfl)
@[simp] theorem rearm_assoc (s : State) (k : Nat) : (rearm s k).assoc = s.assoc := (rfl)
@[simp] theorem rearm_dp (s : State) (k : Nat) : (rearm s k).dp = s.dp := (rfl)
@[simp] theorem rearm_stats (s : State) (k : Nat) : (rearm s k).stats = s.stats := (rfl)
@[simp] theorem rearm_fab (s : State) (k : Nat) : (rearm s k).fab = s.fab := (rfl)
@[simp] theorem rearm_hbm (s : State) (k : Nat) : (rearm s k).hbm = s.hbm := (rfl)
@[simp] theorem rearm_beryl (s : State) (k : Nat) : (rearm s k).beryl = s.beryl := (rfl)
@[simp] theorem rearm_jasper (s : State) (k : Nat) : (rearm s k).jasper = s.jasper := (rfl)
@[simp] theorem rearm_keys (s : State) (k : Nat) : (rearm s k).keys = s.keys := (rfl)
@[simp] theorem rearm_onyx (s : State) (k : Nat) : (rearm s k).onyx = s.onyx := (rfl)
@[simp] theorem rearm_draws (s : State) (k : Nat) : (rearm s k).draws = s.draws := (rfl)
@[simp] theorem rearm_reply (s : State) (k : Nat) : (rearm s k).reply = s.reply := (rfl)
@[simp] theorem rearm_out (s : State) (k : Nat) : (rearm s k).out = s.out := (rfl)
@[simp] theorem rearm_pending (s : State) (k : Nat) : (rearm s k).pending = s.pending := (rfl)

@[simp] theorem claim_regs (s : State) (g c : Nat) : (claim s g c).regs = s.regs := (rfl)
@[simp] theorem claim_phase (s : State) (g c : Nat) : (claim s g c).phase = s.phase := (rfl)
@[simp] theorem claim_unit (s : State) (g c : Nat) : (claim s g c).unit = s.unit := (rfl)
@[simp] theorem claim_tick (s : State) (g c : Nat) : (claim s g c).tick = s.tick := (rfl)
@[simp] theorem claim_tbs (s : State) (g c : Nat) : (claim s g c).tbs = s.tbs := (rfl)
@[simp] theorem claim_ns (s : State) (g c : Nat) : (claim s g c).ns = s.ns := (rfl)
@[simp] theorem claim_sec (s : State) (g c : Nat) : (claim s g c).sec = s.sec := (rfl)
@[simp] theorem claim_fired (s : State) (g c : Nat) : (claim s g c).fired = s.fired := (rfl)
@[simp] theorem claim_stage (s : State) (g c : Nat) : (claim s g c).stage = s.stage := (rfl)
@[simp] theorem claim_chans (s : State) (g c : Nat) : (claim s g c).chans = s.chans := (rfl)
@[simp] theorem claim_boot (s : State) (g c : Nat) : (claim s g c).boot = s.boot := (rfl)
@[simp] theorem claim_life (s : State) (g c : Nat) : (claim s g c).life = s.life := (rfl)
@[simp] theorem claim_lines (s : State) (g c : Nat) : (claim s g c).lines = s.lines := (rfl)
@[simp] theorem claim_tables (s : State) (g c : Nat) : (claim s g c).tables = s.tables := (rfl)
@[simp] theorem claim_perf (s : State) (g c : Nat) : (claim s g c).perf = s.perf := (rfl)
@[simp] theorem claim_assoc (s : State) (g c : Nat) : (claim s g c).assoc = s.assoc := (rfl)
@[simp] theorem claim_dp (s : State) (g c : Nat) : (claim s g c).dp = s.dp := (rfl)
@[simp] theorem claim_stats (s : State) (g c : Nat) : (claim s g c).stats = s.stats := (rfl)
@[simp] theorem claim_fab (s : State) (g c : Nat) : (claim s g c).fab = s.fab := (rfl)
@[simp] theorem claim_hbm (s : State) (g c : Nat) : (claim s g c).hbm = s.hbm := (rfl)
@[simp] theorem claim_beryl (s : State) (g c : Nat) : (claim s g c).beryl = s.beryl := (rfl)
@[simp] theorem claim_jasper (s : State) (g c : Nat) : (claim s g c).jasper = s.jasper := (rfl)
@[simp] theorem claim_keys (s : State) (g c : Nat) : (claim s g c).keys = s.keys := (rfl)
@[simp] theorem claim_onyx (s : State) (g c : Nat) : (claim s g c).onyx = s.onyx := (rfl)
@[simp] theorem claim_draws (s : State) (g c : Nat) : (claim s g c).draws = s.draws := (rfl)
@[simp] theorem claim_reply (s : State) (g c : Nat) : (claim s g c).reply = s.reply := (rfl)
@[simp] theorem claim_out (s : State) (g c : Nat) : (claim s g c).out = s.out := (rfl)
@[simp] theorem claim_pending (s : State) (g c : Nat) : (claim s g c).pending = s.pending := (rfl)

@[simp] theorem release_regs (s : State) (g : Nat) : (release s g).regs = s.regs := (rfl)
@[simp] theorem release_phase (s : State) (g : Nat) : (release s g).phase = s.phase := (rfl)
@[simp] theorem release_unit (s : State) (g : Nat) : (release s g).unit = s.unit := (rfl)
@[simp] theorem release_tick (s : State) (g : Nat) : (release s g).tick = s.tick := (rfl)
@[simp] theorem release_tbs (s : State) (g : Nat) : (release s g).tbs = s.tbs := (rfl)
@[simp] theorem release_ns (s : State) (g : Nat) : (release s g).ns = s.ns := (rfl)
@[simp] theorem release_sec (s : State) (g : Nat) : (release s g).sec = s.sec := (rfl)
@[simp] theorem release_fired (s : State) (g : Nat) : (release s g).fired = s.fired := (rfl)
@[simp] theorem release_stage (s : State) (g : Nat) : (release s g).stage = s.stage := (rfl)
@[simp] theorem release_chans (s : State) (g : Nat) : (release s g).chans = s.chans := (rfl)
@[simp] theorem release_boot (s : State) (g : Nat) : (release s g).boot = s.boot := (rfl)
@[simp] theorem release_life (s : State) (g : Nat) : (release s g).life = s.life := (rfl)
@[simp] theorem release_lines (s : State) (g : Nat) : (release s g).lines = s.lines := (rfl)
@[simp] theorem release_tables (s : State) (g : Nat) : (release s g).tables = s.tables := (rfl)
@[simp] theorem release_perf (s : State) (g : Nat) : (release s g).perf = s.perf := (rfl)
@[simp] theorem release_assoc (s : State) (g : Nat) : (release s g).assoc = s.assoc := (rfl)
@[simp] theorem release_dp (s : State) (g : Nat) : (release s g).dp = s.dp := (rfl)
@[simp] theorem release_stats (s : State) (g : Nat) : (release s g).stats = s.stats := (rfl)
@[simp] theorem release_fab (s : State) (g : Nat) : (release s g).fab = s.fab := (rfl)
@[simp] theorem release_hbm (s : State) (g : Nat) : (release s g).hbm = s.hbm := (rfl)
@[simp] theorem release_beryl (s : State) (g : Nat) : (release s g).beryl = s.beryl := (rfl)
@[simp] theorem release_jasper (s : State) (g : Nat) : (release s g).jasper = s.jasper := (rfl)
@[simp] theorem release_keys (s : State) (g : Nat) : (release s g).keys = s.keys := (rfl)
@[simp] theorem release_onyx (s : State) (g : Nat) : (release s g).onyx = s.onyx := (rfl)
@[simp] theorem release_draws (s : State) (g : Nat) : (release s g).draws = s.draws := (rfl)
@[simp] theorem release_reply (s : State) (g : Nat) : (release s g).reply = s.reply := (rfl)
@[simp] theorem release_out (s : State) (g : Nat) : (release s g).out = s.out := (rfl)
@[simp] theorem release_pending (s : State) (g : Nat) : (release s g).pending = s.pending := (rfl)

@[simp] theorem discard_regs (s : State) (g : Nat) : (discard s g).regs = s.regs := (rfl)
@[simp] theorem discard_phase (s : State) (g : Nat) : (discard s g).phase = s.phase := (rfl)
@[simp] theorem discard_unit (s : State) (g : Nat) : (discard s g).unit = s.unit := (rfl)
@[simp] theorem discard_tick (s : State) (g : Nat) : (discard s g).tick = s.tick := (rfl)
@[simp] theorem discard_tbs (s : State) (g : Nat) : (discard s g).tbs = s.tbs := (rfl)
@[simp] theorem discard_ns (s : State) (g : Nat) : (discard s g).ns = s.ns := (rfl)
@[simp] theorem discard_sec (s : State) (g : Nat) : (discard s g).sec = s.sec := (rfl)
@[simp] theorem discard_fired (s : State) (g : Nat) : (discard s g).fired = s.fired := (rfl)
@[simp] theorem discard_chans (s : State) (g : Nat) : (discard s g).chans = s.chans := (rfl)
@[simp] theorem discard_boot (s : State) (g : Nat) : (discard s g).boot = s.boot := (rfl)
@[simp] theorem discard_life (s : State) (g : Nat) : (discard s g).life = s.life := (rfl)
@[simp] theorem discard_lines (s : State) (g : Nat) : (discard s g).lines = s.lines := (rfl)
@[simp] theorem discard_tables (s : State) (g : Nat) : (discard s g).tables = s.tables := (rfl)
@[simp] theorem discard_perf (s : State) (g : Nat) : (discard s g).perf = s.perf := (rfl)
@[simp] theorem discard_assoc (s : State) (g : Nat) : (discard s g).assoc = s.assoc := (rfl)
@[simp] theorem discard_dp (s : State) (g : Nat) : (discard s g).dp = s.dp := (rfl)
@[simp] theorem discard_stats (s : State) (g : Nat) : (discard s g).stats = s.stats := (rfl)
@[simp] theorem discard_fab (s : State) (g : Nat) : (discard s g).fab = s.fab := (rfl)
@[simp] theorem discard_hbm (s : State) (g : Nat) : (discard s g).hbm = s.hbm := (rfl)
@[simp] theorem discard_beryl (s : State) (g : Nat) : (discard s g).beryl = s.beryl := (rfl)
@[simp] theorem discard_jasper (s : State) (g : Nat) : (discard s g).jasper = s.jasper := (rfl)
@[simp] theorem discard_keys (s : State) (g : Nat) : (discard s g).keys = s.keys := (rfl)
@[simp] theorem discard_onyx (s : State) (g : Nat) : (discard s g).onyx = s.onyx := (rfl)
@[simp] theorem discard_draws (s : State) (g : Nat) : (discard s g).draws = s.draws := (rfl)
@[simp] theorem discard_reply (s : State) (g : Nat) : (discard s g).reply = s.reply := (rfl)
@[simp] theorem discard_out (s : State) (g : Nat) : (discard s g).out = s.out := (rfl)
@[simp] theorem discard_pending (s : State) (g : Nat) : (discard s g).pending = s.pending := (rfl)

@[simp] theorem setStage_regs (s : State) (g : Nat) (ws : List Word) : (setStage s g ws).regs = s.regs := (rfl)
@[simp] theorem setStage_phase (s : State) (g : Nat) (ws : List Word) : (setStage s g ws).phase = s.phase := (rfl)
@[simp] theorem setStage_unit (s : State) (g : Nat) (ws : List Word) : (setStage s g ws).unit = s.unit := (rfl)
@[simp] theorem setStage_tick (s : State) (g : Nat) (ws : List Word) : (setStage s g ws).tick = s.tick := (rfl)
@[simp] theorem setStage_tbs (s : State) (g : Nat) (ws : List Word) : (setStage s g ws).tbs = s.tbs := (rfl)
@[simp] theorem setStage_ns (s : State) (g : Nat) (ws : List Word) : (setStage s g ws).ns = s.ns := (rfl)
@[simp] theorem setStage_sec (s : State) (g : Nat) (ws : List Word) : (setStage s g ws).sec = s.sec := (rfl)
@[simp] theorem setStage_fired (s : State) (g : Nat) (ws : List Word) : (setStage s g ws).fired = s.fired := (rfl)
@[simp] theorem setStage_claims (s : State) (g : Nat) (ws : List Word) : (setStage s g ws).claims = s.claims := (rfl)
@[simp] theorem setStage_chans (s : State) (g : Nat) (ws : List Word) : (setStage s g ws).chans = s.chans := (rfl)
@[simp] theorem setStage_boot (s : State) (g : Nat) (ws : List Word) : (setStage s g ws).boot = s.boot := (rfl)
@[simp] theorem setStage_life (s : State) (g : Nat) (ws : List Word) : (setStage s g ws).life = s.life := (rfl)
@[simp] theorem setStage_lines (s : State) (g : Nat) (ws : List Word) : (setStage s g ws).lines = s.lines := (rfl)
@[simp] theorem setStage_tables (s : State) (g : Nat) (ws : List Word) : (setStage s g ws).tables = s.tables := (rfl)
@[simp] theorem setStage_perf (s : State) (g : Nat) (ws : List Word) : (setStage s g ws).perf = s.perf := (rfl)
@[simp] theorem setStage_assoc (s : State) (g : Nat) (ws : List Word) : (setStage s g ws).assoc = s.assoc := (rfl)
@[simp] theorem setStage_dp (s : State) (g : Nat) (ws : List Word) : (setStage s g ws).dp = s.dp := (rfl)
@[simp] theorem setStage_stats (s : State) (g : Nat) (ws : List Word) : (setStage s g ws).stats = s.stats := (rfl)
@[simp] theorem setStage_fab (s : State) (g : Nat) (ws : List Word) : (setStage s g ws).fab = s.fab := (rfl)
@[simp] theorem setStage_hbm (s : State) (g : Nat) (ws : List Word) : (setStage s g ws).hbm = s.hbm := (rfl)
@[simp] theorem setStage_beryl (s : State) (g : Nat) (ws : List Word) : (setStage s g ws).beryl = s.beryl := (rfl)
@[simp] theorem setStage_jasper (s : State) (g : Nat) (ws : List Word) : (setStage s g ws).jasper = s.jasper := (rfl)
@[simp] theorem setStage_keys (s : State) (g : Nat) (ws : List Word) : (setStage s g ws).keys = s.keys := (rfl)
@[simp] theorem setStage_onyx (s : State) (g : Nat) (ws : List Word) : (setStage s g ws).onyx = s.onyx := (rfl)
@[simp] theorem setStage_draws (s : State) (g : Nat) (ws : List Word) : (setStage s g ws).draws = s.draws := (rfl)
@[simp] theorem setStage_reply (s : State) (g : Nat) (ws : List Word) : (setStage s g ws).reply = s.reply := (rfl)
@[simp] theorem setStage_out (s : State) (g : Nat) (ws : List Word) : (setStage s g ws).out = s.out := (rfl)
@[simp] theorem setStage_pending (s : State) (g : Nat) (ws : List Word) : (setStage s g ws).pending = s.pending := (rfl)

@[simp] theorem settled_regs (s t : State) : (settled s t).regs = t.regs := (rfl)
@[simp] theorem settled_phase (s t : State) : (settled s t).phase = s.phase := (rfl)
@[simp] theorem settled_unit (s t : State) : (settled s t).unit = s.unit := (rfl)
@[simp] theorem settled_tick (s t : State) : (settled s t).tick = t.tick := (rfl)
@[simp] theorem settled_tbs (s t : State) : (settled s t).tbs = t.tbs := (rfl)
@[simp] theorem settled_ns (s t : State) : (settled s t).ns = t.ns := (rfl)
@[simp] theorem settled_sec (s t : State) : (settled s t).sec = t.sec := (rfl)
@[simp] theorem settled_fired (s t : State) : (settled s t).fired = t.fired := (rfl)
@[simp] theorem settled_claims (s t : State) : (settled s t).claims = t.claims := (rfl)
@[simp] theorem settled_stage (s t : State) : (settled s t).stage = t.stage := (rfl)
@[simp] theorem settled_chans (s t : State) : (settled s t).chans = t.chans := (rfl)
@[simp] theorem settled_boot (s t : State) : (settled s t).boot = t.boot := (rfl)
@[simp] theorem settled_life (s t : State) : (settled s t).life = t.life := (rfl)
@[simp] theorem settled_lines (s t : State) : (settled s t).lines = t.lines := (rfl)
@[simp] theorem settled_tables (s t : State) : (settled s t).tables = t.tables := (rfl)
@[simp] theorem settled_perf (s t : State) : (settled s t).perf = t.perf := (rfl)
@[simp] theorem settled_assoc (s t : State) : (settled s t).assoc = t.assoc := (rfl)
@[simp] theorem settled_dp (s t : State) : (settled s t).dp = t.dp := (rfl)
@[simp] theorem settled_stats (s t : State) : (settled s t).stats = t.stats := (rfl)
@[simp] theorem settled_fab (s t : State) : (settled s t).fab = t.fab := (rfl)
@[simp] theorem settled_hbm (s t : State) : (settled s t).hbm = t.hbm := (rfl)
@[simp] theorem settled_beryl (s t : State) : (settled s t).beryl = t.beryl := (rfl)
@[simp] theorem settled_jasper (s t : State) : (settled s t).jasper = t.jasper := (rfl)
@[simp] theorem settled_keys (s t : State) : (settled s t).keys = t.keys := (rfl)
@[simp] theorem settled_onyx (s t : State) : (settled s t).onyx = t.onyx := (rfl)
@[simp] theorem settled_draws (s t : State) : (settled s t).draws = t.draws := (rfl)
@[simp] theorem settled_reply (s t : State) : (settled s t).reply = t.reply := (rfl)
@[simp] theorem settled_out (s t : State) : (settled s t).out = t.out := (rfl)
@[simp] theorem settled_pending (s t : State) : (settled s t).pending = s.pending := (rfl)

@[simp] theorem settledReset_regs (s t : State) : (settledReset s t).regs = t.regs := (rfl)
@[simp] theorem settledReset_unit (s t : State) : (settledReset s t).unit = s.unit := (rfl)
@[simp] theorem settledReset_tick (s t : State) : (settledReset s t).tick = t.tick := (rfl)
@[simp] theorem settledReset_tbs (s t : State) : (settledReset s t).tbs = t.tbs := (rfl)
@[simp] theorem settledReset_ns (s t : State) : (settledReset s t).ns = t.ns := (rfl)
@[simp] theorem settledReset_sec (s t : State) : (settledReset s t).sec = t.sec := (rfl)
@[simp] theorem settledReset_fired (s t : State) : (settledReset s t).fired = t.fired := (rfl)
@[simp] theorem settledReset_claims (s t : State) : (settledReset s t).claims = t.claims := (rfl)
@[simp] theorem settledReset_stage (s t : State) : (settledReset s t).stage = t.stage := (rfl)
@[simp] theorem settledReset_chans (s t : State) : (settledReset s t).chans = t.chans := (rfl)
@[simp] theorem settledReset_boot (s t : State) : (settledReset s t).boot = t.boot := (rfl)
@[simp] theorem settledReset_life (s t : State) : (settledReset s t).life = t.life := (rfl)
@[simp] theorem settledReset_lines (s t : State) : (settledReset s t).lines = t.lines := (rfl)
@[simp] theorem settledReset_tables (s t : State) : (settledReset s t).tables = t.tables := (rfl)
@[simp] theorem settledReset_perf (s t : State) : (settledReset s t).perf = t.perf := (rfl)
@[simp] theorem settledReset_assoc (s t : State) : (settledReset s t).assoc = t.assoc := (rfl)
@[simp] theorem settledReset_dp (s t : State) : (settledReset s t).dp = t.dp := (rfl)
@[simp] theorem settledReset_stats (s t : State) : (settledReset s t).stats = t.stats := (rfl)
@[simp] theorem settledReset_fab (s t : State) : (settledReset s t).fab = t.fab := (rfl)
@[simp] theorem settledReset_hbm (s t : State) : (settledReset s t).hbm = t.hbm := (rfl)
@[simp] theorem settledReset_beryl (s t : State) : (settledReset s t).beryl = t.beryl := (rfl)
@[simp] theorem settledReset_jasper (s t : State) : (settledReset s t).jasper = t.jasper := (rfl)
@[simp] theorem settledReset_keys (s t : State) : (settledReset s t).keys = t.keys := (rfl)
@[simp] theorem settledReset_onyx (s t : State) : (settledReset s t).onyx = t.onyx := (rfl)
@[simp] theorem settledReset_draws (s t : State) : (settledReset s t).draws = t.draws := (rfl)
@[simp] theorem settledReset_reply (s t : State) : (settledReset s t).reply = t.reply := (rfl)
@[simp] theorem settledReset_out (s t : State) : (settledReset s t).out = t.out := (rfl)
@[simp] theorem settledReset_pending (s t : State) : (settledReset s t).pending = s.pending := (rfl)

@[simp] theorem settledTick_regs (s t : State) : (settledTick s t).regs = t.regs := (rfl)
@[simp] theorem settledTick_phase (s t : State) : (settledTick s t).phase = t.phase := (rfl)
@[simp] theorem settledTick_unit (s t : State) : (settledTick s t).unit = s.unit := (rfl)
@[simp] theorem settledTick_tick (s t : State) : (settledTick s t).tick = t.tick := (rfl)
@[simp] theorem settledTick_tbs (s t : State) : (settledTick s t).tbs = t.tbs := (rfl)
@[simp] theorem settledTick_ns (s t : State) : (settledTick s t).ns = t.ns := (rfl)
@[simp] theorem settledTick_sec (s t : State) : (settledTick s t).sec = t.sec := (rfl)
@[simp] theorem settledTick_fired (s t : State) : (settledTick s t).fired = t.fired := (rfl)
@[simp] theorem settledTick_claims (s t : State) : (settledTick s t).claims = t.claims := (rfl)
@[simp] theorem settledTick_stage (s t : State) : (settledTick s t).stage = t.stage := (rfl)
@[simp] theorem settledTick_chans (s t : State) : (settledTick s t).chans = t.chans := (rfl)
@[simp] theorem settledTick_boot (s t : State) : (settledTick s t).boot = t.boot := (rfl)
@[simp] theorem settledTick_life (s t : State) : (settledTick s t).life = t.life := (rfl)
@[simp] theorem settledTick_lines (s t : State) : (settledTick s t).lines = t.lines := (rfl)
@[simp] theorem settledTick_tables (s t : State) : (settledTick s t).tables = t.tables := (rfl)
@[simp] theorem settledTick_perf (s t : State) : (settledTick s t).perf = t.perf := (rfl)
@[simp] theorem settledTick_assoc (s t : State) : (settledTick s t).assoc = t.assoc := (rfl)
@[simp] theorem settledTick_dp (s t : State) : (settledTick s t).dp = t.dp := (rfl)
@[simp] theorem settledTick_stats (s t : State) : (settledTick s t).stats = t.stats := (rfl)
@[simp] theorem settledTick_fab (s t : State) : (settledTick s t).fab = t.fab := (rfl)
@[simp] theorem settledTick_hbm (s t : State) : (settledTick s t).hbm = t.hbm := (rfl)
@[simp] theorem settledTick_beryl (s t : State) : (settledTick s t).beryl = t.beryl := (rfl)
@[simp] theorem settledTick_jasper (s t : State) : (settledTick s t).jasper = t.jasper := (rfl)
@[simp] theorem settledTick_keys (s t : State) : (settledTick s t).keys = t.keys := (rfl)
@[simp] theorem settledTick_onyx (s t : State) : (settledTick s t).onyx = t.onyx := (rfl)
@[simp] theorem settledTick_draws (s t : State) : (settledTick s t).draws = t.draws := (rfl)
@[simp] theorem settledTick_reply (s t : State) : (settledTick s t).reply = t.reply := (rfl)
@[simp] theorem settledTick_out (s t : State) : (settledTick s t).out = t.out := (rfl)
@[simp] theorem settledTick_pending (s t : State) : (settledTick s t).pending = s.pending := (rfl)

@[simp] theorem touch_regs (s : State) (r : Req) : (touch s r).regs = s.regs := by
  unfold touch; split
  · rfl
  · split <;> rfl
@[simp] theorem touch_phase (s : State) (r : Req) : (touch s r).phase = s.phase := by
  unfold touch; split
  · rfl
  · split <;> rfl
@[simp] theorem touch_unit (s : State) (r : Req) : (touch s r).unit = s.unit := by
  unfold touch; split
  · rfl
  · split <;> rfl
@[simp] theorem touch_tick (s : State) (r : Req) : (touch s r).tick = s.tick := by
  unfold touch; split
  · rfl
  · split <;> rfl
@[simp] theorem touch_tbs (s : State) (r : Req) : (touch s r).tbs = s.tbs := by
  unfold touch; split
  · rfl
  · split <;> rfl
@[simp] theorem touch_ns (s : State) (r : Req) : (touch s r).ns = s.ns := by
  unfold touch; split
  · rfl
  · split <;> rfl
@[simp] theorem touch_sec (s : State) (r : Req) : (touch s r).sec = s.sec := by
  unfold touch; split
  · rfl
  · split <;> rfl
@[simp] theorem touch_fired (s : State) (r : Req) : (touch s r).fired = s.fired := by
  unfold touch; split
  · rfl
  · split <;> rfl
@[simp] theorem touch_claims (s : State) (r : Req) : (touch s r).claims = s.claims := by
  unfold touch; split
  · rfl
  · split <;> rfl
@[simp] theorem touch_stage (s : State) (r : Req) : (touch s r).stage = s.stage := by
  unfold touch; split
  · rfl
  · split <;> rfl
@[simp] theorem touch_boot (s : State) (r : Req) : (touch s r).boot = s.boot := by
  unfold touch; split
  · rfl
  · split <;> rfl
@[simp] theorem touch_life (s : State) (r : Req) : (touch s r).life = s.life := by
  unfold touch; split
  · rfl
  · split <;> rfl
@[simp] theorem touch_lines (s : State) (r : Req) : (touch s r).lines = s.lines := by
  unfold touch; split
  · rfl
  · split <;> rfl
@[simp] theorem touch_tables (s : State) (r : Req) : (touch s r).tables = s.tables := by
  unfold touch; split
  · rfl
  · split <;> rfl
@[simp] theorem touch_perf (s : State) (r : Req) : (touch s r).perf = s.perf := by
  unfold touch; split
  · rfl
  · split <;> rfl
@[simp] theorem touch_assoc (s : State) (r : Req) : (touch s r).assoc = s.assoc := by
  unfold touch; split
  · rfl
  · split <;> rfl
@[simp] theorem touch_dp (s : State) (r : Req) : (touch s r).dp = s.dp := by
  unfold touch; split
  · rfl
  · split <;> rfl
@[simp] theorem touch_stats (s : State) (r : Req) : (touch s r).stats = s.stats := by
  unfold touch; split
  · rfl
  · split <;> rfl
@[simp] theorem touch_fab (s : State) (r : Req) : (touch s r).fab = s.fab := by
  unfold touch; split
  · rfl
  · split <;> rfl
@[simp] theorem touch_hbm (s : State) (r : Req) : (touch s r).hbm = s.hbm := by
  unfold touch; split
  · rfl
  · split <;> rfl
@[simp] theorem touch_beryl (s : State) (r : Req) : (touch s r).beryl = s.beryl := by
  unfold touch; split
  · rfl
  · split <;> rfl
@[simp] theorem touch_jasper (s : State) (r : Req) : (touch s r).jasper = s.jasper := by
  unfold touch; split
  · rfl
  · split <;> rfl
@[simp] theorem touch_keys (s : State) (r : Req) : (touch s r).keys = s.keys := by
  unfold touch; split
  · rfl
  · split <;> rfl
@[simp] theorem touch_onyx (s : State) (r : Req) : (touch s r).onyx = s.onyx := by
  unfold touch; split
  · rfl
  · split <;> rfl
@[simp] theorem touch_draws (s : State) (r : Req) : (touch s r).draws = s.draws := by
  unfold touch; split
  · rfl
  · split <;> rfl
@[simp] theorem touch_reply (s : State) (r : Req) : (touch s r).reply = s.reply := by
  unfold touch; split
  · rfl
  · split <;> rfl
@[simp] theorem touch_out (s : State) (r : Req) : (touch s r).out = s.out := by
  unfold touch; split
  · rfl
  · split <;> rfl
@[simp] theorem touch_pending (s : State) (r : Req) : (touch s r).pending = s.pending := by
  unfold touch; split
  · rfl
  · split <;> rfl

@[simp] theorem replied_reply (s : State) (c : Code) (l : List Word) : (replied s c l).reply = ⟨c, l⟩ := (rfl)
@[simp] theorem emit_out (s : State) (o : Output) : (emit s o).out = o :: s.out := (rfl)
end Sys2Proof.Machine
end

