-- ==== Sys2Proof/Laws/Tables.lean ====
section
/-! SUPPORT. Reading after writing a sparse store, and that every write keeps its canonical form; bits of a word. -/

namespace Sys2Proof

theorem tget_tdel_same {α : Type} (d : α) (t : Tbl α) (k : Nat) : tget d (tdel t k) k = d := by
  induction t with
  | nil => rfl
  | cons e t ih =>
    obtain ⟨k', v'⟩ := e
    by_cases h : k' = k <;> simp [tdel, tget, h, ih]

theorem tget_tdel_ne {α : Type} (d : α) (t : Tbl α) {k k' : Nat} (h : k ≠ k') : tget d (tdel t k) k' = tget d t k' := by
  induction t with
  | nil => rfl
  | cons e t ih =>
    obtain ⟨j, v'⟩ := e
    by_cases hj : j = k
    · have : ¬ j = k' := by omega
      simp [tdel, tget, hj, ih, h]
    · simp only [tdel, hj, if_false, tget, ih]

theorem tget_tins_ne {α : Type} (d : α) (t : Tbl α) {k k' : Nat} (v : α) (h : k ≠ k') :
    tget d (tins t k v) k' = tget d t k' := by
  induction t with
  | nil => simp [tins, tget, h]
  | cons e t ih =>
    obtain ⟨j, v'⟩ := e
    by_cases hj : k < j
    · simp [tins, tget, hj, h]
    · simp only [tins, hj, if_false, tget, ih]

theorem tget_tins_tdel {α : Type} (d : α) (t : Tbl α) (k : Nat) (v : α) : tget d (tins (tdel t k) k v) k = v := by
  induction t with
  | nil => simp [tdel, tins, tget]
  | cons e t ih =>
    obtain ⟨j, v'⟩ := e
    by_cases hj : j = k
    · simp [tdel, hj, ih]
    · by_cases hk : k < j <;> simp [tdel, tins, tget, hj, hk, ih]

/-- A read of the place written gives the value written. -/
@[simp] theorem tget_tset_same {α : Type} [DecidableEq α] (d : α) (t : Tbl α) (k : Nat) (v : α) :
    tget d (tset d t k v) k = v := by
  unfold tset
  split
  · rename_i h; rw [h, tget_tdel_same]
  · exact tget_tins_tdel d t k v

/-- A write leaves every other place alone. -/
theorem tget_tset_ne {α : Type} [DecidableEq α] (d d' : α) (t : Tbl α) {k k' : Nat} (v : α) (h : k ≠ k') :
    tget d' (tset d t k v) k' = tget d' t k' := by
  unfold tset
  split
  · exact tget_tdel_ne d' t h
  · rw [tget_tins_ne d' _ v h, tget_tdel_ne d' t h]

theorem tget_tset {α : Type} [DecidableEq α] (d : α) (t : Tbl α) (k k' : Nat) (v : α) :
    tget d (tset d t k v) k' = if k = k' then v else tget d t k' := by
  split
  · rename_i h; subst h; exact tget_tset_same d t k v
  · rename_i h; exact tget_tset_ne d d t v h

/-- Every key of the store is above `n`. -/
def tabove {α : Type} (n : Nat) (t : Tbl α) : Prop := ∀ e ∈ t, n < e.1

theorem tcanon_cons {α : Type} [DecidableEq α] (d : α) (k : Nat) (v : α) (t : Tbl α) :
    tcanon d ((k, v) :: t) = true ↔ v ≠ d ∧ tabove k t ∧ tcanon d t = true := by
  induction t generalizing k v with
  | nil => simp [tcanon, tabove]
  | cons e t ih =>
    obtain ⟨k', v'⟩ := e
    have hm : tabove k' t → k < k' → tabove k t := fun h hk e he => Nat.lt_trans hk (h e he)
    simp only [tcanon, Bool.and_eq_true, decide_eq_true_eq]
    constructor
    · rintro ⟨⟨h1, h2⟩, h3⟩
      refine ⟨h1, ?_, h3⟩
      have := (ih k' v').1 h3
      intro e he
      rcases List.mem_cons.1 he with rfl | he
      · exact h2
      · exact hm this.2.1 h2 e he
    · rintro ⟨h1, h2, h3⟩
      exact ⟨⟨h1, h2 (k', v') (List.mem_cons_self ..)⟩, h3⟩

theorem tabove_tdel {α : Type} (n : Nat) (t : Tbl α) (k : Nat) (h : tabove n t) : tabove n (tdel t k) := by
  induction t with
  | nil => exact h
  | cons e t ih =>
    obtain ⟨j, w⟩ := e
    have ht : tabove n t := fun e he => h e (List.mem_cons_of_mem _ he)
    by_cases hj : j = k
    · simpa [tdel, hj] using ih ht
    · intro e he
      simp only [tdel, hj, if_false] at he
      rcases List.mem_cons.1 he with rfl | he
      · exact h _ (List.mem_cons_self ..)
      · exact ih ht e he

theorem tcanon_tdel {α : Type} [DecidableEq α] (d : α) (t : Tbl α) (k : Nat) (h : tcanon d t = true) :
    tcanon d (tdel t k) = true := by
  induction t with
  | nil => exact h
  | cons e t ih =>
    obtain ⟨j, w⟩ := e
    obtain ⟨h1, h2, h3⟩ := (tcanon_cons d j w t).1 h
    by_cases hj : j = k
    · simpa [tdel, hj] using ih h3
    · simp only [tdel, hj, if_false]
      exact (tcanon_cons ..).2 ⟨h1, tabove_tdel _ _ _ h2, ih h3⟩

theorem tabove_tins {α : Type} (n : Nat) (t : Tbl α) (k : Nat) (v : α) (h : tabove n t) (hk : n < k) :
    tabove n (tins t k v) := by
  induction t with
  | nil => intro e he; simp only [tins, List.mem_singleton] at he; subst he; exact hk
  | cons e t ih =>
    obtain ⟨j, w⟩ := e
    have ht : tabove n t := fun e he => h e (List.mem_cons_of_mem _ he)
    intro e he
    simp only [tins] at he
    split at he
    · rcases List.mem_cons.1 he with rfl | he
      · exact hk
      · exact h e he
    · rcases List.mem_cons.1 he with rfl | he
      · exact h _ (List.mem_cons_self ..)
      · exact ih ht e he

/-- No key of the store is `k`. -/
def tfree {α : Type} (k : Nat) (t : Tbl α) : Prop := ∀ e ∈ t, e.1 ≠ k

theorem tfree_tdel {α : Type} (t : Tbl α) (k : Nat) : tfree k (tdel t k) := by
  induction t with
  | nil => intro e he; simp [tdel] at he
  | cons e t ih =>
    obtain ⟨j, w⟩ := e
    by_cases hj : j = k
    · simpa [tdel, hj] using ih
    · intro e he
      simp only [tdel, hj, if_false] at he
      rcases List.mem_cons.1 he with rfl | he
      · exact hj
      · exact ih e he

theorem tcanon_tins {α : Type} [DecidableEq α] (d : α) (t : Tbl α) (k : Nat) (v : α) (h : tcanon d t = true)
    (hf : tfree k t) (hv : v ≠ d) : tcanon d (tins t k v) = true := by
  induction t with
  | nil => simp [tins, tcanon, hv]
  | cons e t ih =>
    obtain ⟨j, w⟩ := e
    obtain ⟨h1, h2, h3⟩ := (tcanon_cons d j w t).1 h
    have hj : j ≠ k := hf _ (List.mem_cons_self ..)
    have ht : tfree k t := fun e he => hf e (List.mem_cons_of_mem _ he)
    simp only [tins]
    split
    · rename_i hk
      refine (tcanon_cons ..).2 ⟨hv, ?_, h⟩
      intro e he
      rcases List.mem_cons.1 he with rfl | he
      · exact hk
      · exact Nat.lt_trans hk (h2 e he)
    · rename_i hk
      exact (tcanon_cons ..).2 ⟨h1, tabove_tins _ _ _ _ h2 (by omega), ih h3 ht⟩

/-- A write keeps the canonical form. -/
theorem tcanon_tset {α : Type} [DecidableEq α] (d : α) (t : Tbl α) (k : Nat) (v : α) (h : tcanon d t = true) :
    tcanon d (tset d t k v) = true := by
  unfold tset
  split
  · exact tcanon_tdel d t k h
  · rename_i hv
    exact tcanon_tins d _ k v (tcanon_tdel d t k h) (tfree_tdel t k) hv

/-! Bits. -/

theorem bit_eq_testBit (v i : Nat) : bit v i = v.testBit i := by
  simp [bit, Nat.testBit_eq_decide_div_mod_eq, beq_eq_decide]

theorem setBits_testBit (v hi lo x j : Nat) (h : lo ≤ hi + 1) :
    (setBits v hi lo x).testBit j = if lo ≤ j ∧ j ≤ hi then x.testBit (j - lo) else v.testBit j := by
  have e : 2 ^ (hi + 1) = 2 ^ lo * 2 ^ (hi + 1 - lo) := by rw [← pow_add]; congr 1; omega
  have key : setBits v hi lo x = 2 ^ (hi + 1) * (v / 2 ^ (hi + 1)) + (2 ^ lo * (x % 2 ^ (hi + 1 - lo)) + v % 2 ^ lo) := by
    unfold setBits; simp only; ring
  have hlt : v % 2 ^ lo < 2 ^ lo := Nat.mod_lt _ (by positivity)
  have hx : x % 2 ^ (hi + 1 - lo) < 2 ^ (hi + 1 - lo) := Nat.mod_lt _ (by positivity)
  have hlow : 2 ^ lo * (x % 2 ^ (hi + 1 - lo)) + v % 2 ^ lo < 2 ^ (hi + 1) := by
    rw [e]
    have : 2 ^ lo * (x % 2 ^ (hi + 1 - lo) + 1) ≤ 2 ^ lo * 2 ^ (hi + 1 - lo) := Nat.mul_le_mul_left _ hx
    rw [Nat.mul_add, Nat.mul_one] at this
    omega
  rw [key, Nat.testBit_two_pow_mul_add _ hlow]
  by_cases h1 : j < hi + 1
  · rw [if_pos h1, Nat.testBit_two_pow_mul_add _ hlt]
    by_cases h2 : j < lo
    · have : ¬ (lo ≤ j ∧ j ≤ hi) := by omega
      simp [h2, this, Nat.testBit_mod_two_pow]
    · have h3 : lo ≤ j ∧ j ≤ hi := by omega
      have h4 : j - lo < hi + 1 - lo := by omega
      simp [h2, h3, h4, Nat.testBit_mod_two_pow]
  · have : ¬ (lo ≤ j ∧ j ≤ hi) := by omega
    rw [if_neg h1, if_neg this, Nat.testBit_div_two_pow]
    congr 1; omega

theorem setBit_testBit (v i j : Nat) (b : Bool) : (setBit v i b).testBit j = if i = j then b else v.testBit j := by
  unfold setBit
  rw [setBits_testBit _ _ _ _ _ (by omega)]
  by_cases h : i = j
  · subst h; cases b <;> simp [b2n]
  · have : ¬ (i ≤ j ∧ j ≤ i) := by omega
    simp [h, this]

theorem bits_testBit (v hi lo j : Nat) : (bits v hi lo).testBit j = (decide (j < hi + 1 - lo) && v.testBit (lo + j)) := by
  simp [bits, Nat.testBit_mod_two_pow, Nat.testBit_div_two_pow, Nat.add_comm]

/-- A field written reads as what was written. -/
theorem bits_setBits_same (v hi lo x : Nat) (h : lo ≤ hi + 1) : bits (setBits v hi lo x) hi lo = x % 2 ^ (hi + 1 - lo) := by
  apply Nat.eq_of_testBit_eq; intro j
  rw [bits_testBit, setBits_testBit _ _ _ _ _ h, Nat.testBit_mod_two_pow]
  by_cases hj : j < hi + 1 - lo
  · have : lo ≤ lo + j ∧ lo + j ≤ hi := by omega
    simp [hj, this]
  · simp [hj]

/-- A field is left alone by a write of another. -/
theorem bits_setBits_ne (v hi lo x hi' lo' : Nat) (h : lo ≤ hi + 1) (hd : hi < lo' ∨ hi' < lo) :
    bits (setBits v hi lo x) hi' lo' = bits v hi' lo' := by
  apply Nat.eq_of_testBit_eq; intro j
  rw [bits_testBit, bits_testBit, setBits_testBit _ _ _ _ _ h]
  by_cases hj : j < hi' + 1 - lo'
  · have : ¬ (lo ≤ lo' + j ∧ lo' + j ≤ hi) := by omega
    simp [this]
  · simp [hj]

/-- A field is left alone by a write of a bit outside it. -/
theorem bits_setBit_ne (v i hi lo : Nat) (b : Bool) (hd : i < lo ∨ hi < i) : bits (setBit v i b) hi lo = bits v hi lo :=
  bits_setBits_ne v i i _ hi lo (by omega) hd

/-- A bit is left alone by a write of a field it is not in. -/
theorem bit_setBits_ne (v hi lo x i : Nat) (h : lo ≤ hi + 1) (hd : i < lo ∨ hi < i) : bit (setBits v hi lo x) i = bit v i := by
  have : ¬ (lo ≤ i ∧ i ≤ hi) := by omega
  simp [bit_eq_testBit, setBits_testBit _ _ _ _ _ h, this]

/-- The bit set reads as set. -/
@[simp] theorem bit_setBit_same (v i : Nat) (b : Bool) : bit (setBit v i b) i = b := by
  simp [bit_eq_testBit, setBit_testBit]

/-- Every other bit is left alone. -/
theorem bit_setBit_ne (v : Nat) {i j : Nat} (b : Bool) (h : i ≠ j) : bit (setBit v i b) j = bit v j := by
  simp [bit_eq_testBit, setBit_testBit, h]

theorem bit_setBit (v i j : Nat) (b : Bool) : bit (setBit v i b) j = if i = j then b else bit v j := by
  simp [bit_eq_testBit, setBit_testBit]

end Sys2Proof
end

