-- ==== Sys2Proof/Laws/Regs.lean ====
section
/-! SUPPORT. The register file: a read after a write, what leaves it alone, and what every operation of an access does. -/

namespace Sys2Proof.Machine

/-- A read depends on the register file alone. -/
theorem rd_of_regs {s t : State} (h : t.regs = s.regs) (k : Nat) : rd t k = rd s k := by simp [rd, h]

@[simp] theorem rd_wr_same (s : State) (k v : Nat) : rd (wr s k v) k = v := by simp [rd, wr]

theorem rd_wr_ne (s : State) {k k' : Nat} (v : Nat) (h : k ≠ k') : rd (wr s k v) k' = rd s k' := by
  simp [rd, wr, tget_tset_ne _ _ _ _ h]

theorem rd_wr (s : State) (k k' v : Nat) : rd (wr s k v) k' = if k = k' then v else rd s k' := by
  split
  · rename_i h; subst h; exact rd_wr_same s k v
  · rename_i h; exact rd_wr_ne s v h

@[simp] theorem rd_emit (s : State) (o : Output) (k : Nat) : rd (emit s o) k = rd s k := (rfl)
@[simp] theorem rd_replied (s : State) (c : Code) (l : List Word) (k : Nat) : rd (replied s c l) k = rd s k := (rfl)
@[simp] theorem rd_toCc (s : State) (n k : Nat) : rd (toCc s n) k = rd s k := (rfl)
@[simp] theorem rd_passCc (s : State) (n k : Nat) : rd (passCc s n) k = rd s k := (rfl)
@[simp] theorem rd_setChan (s : State) (c : Nat) (x : Chan) (k : Nat) : rd (setChan s c x) k = rd s k := (rfl)
@[simp] theorem rd_setTb (s : State) (n : Nat) (x : Tb) (k : Nat) : rd (setTb s n x) k = rd s k := (rfl)
@[simp] theorem rd_rearm (s : State) (n k : Nat) : rd (rearm s n) k = rd s k := (rfl)
@[simp] theorem rd_claim (s : State) (g c k : Nat) : rd (claim s g c) k = rd s k := (rfl)
@[simp] theorem rd_release (s : State) (g k : Nat) : rd (release s g) k = rd s k := (rfl)
@[simp] theorem rd_discard (s : State) (g k : Nat) : rd (discard s g) k = rd s k := (rfl)
@[simp] theorem rd_setStage (s : State) (g : Nat) (ws : List Word) (k : Nat) : rd (setStage s g ws) k = rd s k := (rfl)
@[simp] theorem rd_touch (s : State) (r : Req) (k : Nat) : rd (touch s r) k = rd s k := rd_of_regs (by simp) k
@[simp] theorem rd_settled (s t : State) (k : Nat) : rd (settled s t) k = rd t k := (rfl)
@[simp] theorem rd_settledReset (s t : State) (k : Nat) : rd (settledReset s t) k = rd t k := (rfl)
@[simp] theorem rd_settledTick (s t : State) (k : Nat) : rd (settledTick s t) k = rd t k := (rfl)

/-- A count, read back. -/
theorem rd_inc_same (s : State) (k n : Nat) : rd (inc s k n) k = (rd s k + n) % 2 ^ widthOf k := by simp [inc]
theorem rd_inc_ne (s : State) {k k' : Nat} (n : Nat) (h : k ≠ k') : rd (inc s k n) k' = rd s k' := by simp [inc, rd_wr_ne _ _ h]

/-- A bit written, read back. -/
theorem rdBit_wrBit_same (s : State) (k i : Nat) (b : Bool) : rdBit (wrBit s k i b) k i = b := by simp [rdBit, wrBit]
theorem rd_wrBit_ne (s : State) {k k' : Nat} (i : Nat) (b : Bool) (h : k ≠ k') : rd (wrBit s k i b) k' = rd s k' := by
  simp [wrBit, rd_wr_ne _ _ h]

/-! An access: its checks, then its effect. -/

/-- Admitted, an access does its effect, renews the session and answers. -/
theorem access_pass {s : State} {r : Req} {key : Nat} {w : Bool} (h : gate s r key w = .pass) (eff : State → Res) :
    access s r key w eff = replied (touch (eff s).st r) (eff s).code (eff s).vals := by
  simp [access, opRes, h]

/-- Aborted, it leaves everything but the session's time and, for a world violation, the count and the name of it. -/
theorem access_abort {s : State} {r : Req} {key : Nat} {w : Bool} {c : Code} (h : gate s r key w = .abort c)
    (hc : c ≠ .worldViolation) (eff : State → Res) : access s r key w eff = replied (touch s r) c [] := by
  unfold access opRes
  rw [h]
  cases c <;> first | rfl | exact absurd rfl hc

theorem access_silent {s : State} {r : Req} {key : Nat} {w : Bool} (h : gate s r key w = .silent) (eff : State → Res) :
    access s r key w eff = s := by
  simp [access, opRes, h]

/-- A plain read of a 32-bit object answers its one word. -/
theorem readPlain_u32 {s : State} {k : Nat} {a : AccClass} (h : (objOf k).map (fun o => (o.ty, o.acc)) = some (.u32, a))
    (ha : a ≠ .wo) : readPlain s k = okV s [rd s k % 2 ^ 32] := by
  unfold readPlain
  cases ho : objOf k with
  | none => simp [ho] at h
  | some o =>
    simp only [ho, Option.map_some, Option.some.injEq, Prod.mk.injEq] at h
    have : o.acc ≠ .wo := by rw [h.2]; exact ha
    simp [h.1, this, encVal, Ty.words, Ty.width, toWords]

end Sys2Proof.Machine
end

