-- ==== Sys2Proof/Laws/Raise.lean ====
section
/-! SUPPORT. Raising an event (R430): what it leaves unchanged, and that its pending bit is set. -/

namespace Sys2Proof.Machine

/-- What a raise may change: the registers of the events chapter, the record FIFOs, the marks of first losses, the channels
and the performance counters. -/
structure RaiseFrame (s t : State) : Prop where
  regs : ∀ k, eventKey k = false → rd t k = rd s k
  bits : ∀ w i, rdBit s (K.evtPending w) i = true → rdBit t (K.evtPending w) i = true
  phase : t.phase = s.phase
  unit : t.unit = s.unit
  tick : t.tick = s.tick
  tbs : t.tbs = s.tbs
  claims : t.claims = s.claims
  stage : t.stage = s.stage
  boot : t.boot = s.boot
  life : t.life = s.life
  lines : t.lines = s.lines
  tables : t.tables = s.tables
  assoc : t.assoc = s.assoc
  dp : t.dp = s.dp
  stats : t.stats = s.stats
  fab : t.fab = s.fab
  hbm : t.hbm = s.hbm
  beryl : t.beryl = s.beryl
  jasper : t.jasper = s.jasper
  keys : t.keys = s.keys
  onyx : t.onyx = s.onyx
  draws : t.draws = s.draws
  reply : t.reply = s.reply
  out : t.out = s.out
  pending : t.pending = s.pending

theorem RaiseFrame.refl (s : State) : RaiseFrame s s := by constructor <;> intros <;> first | rfl | assumption

theorem RaiseFrame.trans {s t u : State} (h : RaiseFrame s t) (h' : RaiseFrame t u) : RaiseFrame s u where
  regs k hk := (h'.regs k hk).trans (h.regs k hk)
  bits w i hb := h'.bits w i (h.bits w i hb)
  phase := h'.phase.trans h.phase
  unit := h'.unit.trans h.unit
  tick := h'.tick.trans h.tick
  tbs := h'.tbs.trans h.tbs
  claims := h'.claims.trans h.claims
  stage := h'.stage.trans h.stage
  boot := h'.boot.trans h.boot
  life := h'.life.trans h.life
  lines := h'.lines.trans h.lines
  tables := h'.tables.trans h.tables
  assoc := h'.assoc.trans h.assoc
  dp := h'.dp.trans h.dp
  stats := h'.stats.trans h.stats
  fab := h'.fab.trans h.fab
  hbm := h'.hbm.trans h.hbm
  beryl := h'.beryl.trans h.beryl
  jasper := h'.jasper.trans h.jasper
  keys := h'.keys.trans h.keys
  onyx := h'.onyx.trans h.onyx
  draws := h'.draws.trans h.draws
  reply := h'.reply.trans h.reply
  out := h'.out.trans h.out
  pending := h'.pending.trans h.pending

/-- A state with the same registers and the same parts. -/
theorem RaiseFrame.of_same {s t : State} (hr : t.regs = s.regs)
    (h_phase : t.phase = s.phase := by rfl)
    (h_unit : t.unit = s.unit := by rfl)
    (h_tick : t.tick = s.tick := by rfl)
    (h_tbs : t.tbs = s.tbs := by rfl)
    (h_claims : t.claims = s.claims := by rfl)
    (h_stage : t.stage = s.stage := by rfl)
    (h_boot : t.boot = s.boot := by rfl)
    (h_life : t.life = s.life := by rfl)
    (h_lines : t.lines = s.lines := by rfl)
    (h_tables : t.tables = s.tables := by rfl)
    (h_assoc : t.assoc = s.assoc := by rfl)
    (h_dp : t.dp = s.dp := by rfl)
    (h_stats : t.stats = s.stats := by rfl)
    (h_fab : t.fab = s.fab := by rfl)
    (h_hbm : t.hbm = s.hbm := by rfl)
    (h_beryl : t.beryl = s.beryl := by rfl)
    (h_jasper : t.jasper = s.jasper := by rfl)
    (h_keys : t.keys = s.keys := by rfl)
    (h_onyx : t.onyx = s.onyx := by rfl)
    (h_draws : t.draws = s.draws := by rfl)
    (h_reply : t.reply = s.reply := by rfl)
    (h_out : t.out = s.out := by rfl)
    (h_pending : t.pending = s.pending := by rfl) :
    RaiseFrame s t where
  regs k _ := rd_of_regs hr k
  bits w i hb := by simpa [rdBit, rd_of_regs hr] using hb
  phase := h_phase
  unit := h_unit
  tick := h_tick
  tbs := h_tbs
  claims := h_claims
  stage := h_stage
  boot := h_boot
  life := h_life
  lines := h_lines
  tables := h_tables
  assoc := h_assoc
  dp := h_dp
  stats := h_stats
  fab := h_fab
  hbm := h_hbm
  beryl := h_beryl
  jasper := h_jasper
  keys := h_keys
  onyx := h_onyx
  draws := h_draws
  reply := h_reply
  out := h_out
  pending := h_pending

/-- A write of a register of the events chapter that is no pending word. -/
theorem RaiseFrame.of_wr (s : State) (k v : Nat) (he : eventKey k = true) (hp : ∀ w, k ≠ K.evtPending w) :
    RaiseFrame s (wr s k v) := by
  constructor
  case regs => intro k' h; exact rd_wr_ne s v (by rintro rfl; simp [he] at h)
  case bits => intro w i hb; simpa [rdBit, rd_wr_ne s v (hp w)] using hb
  all_goals rfl

/-- A pending bit set. -/
theorem RaiseFrame.of_pending (s : State) (w i : Nat) (hw : w < 12) :
    RaiseFrame s (wrBit s (K.evtPending w) i true) := by
  constructor
  case regs =>
    intro k' h
    refine rd_wrBit_ne s i true ?_
    rintro rfl
    have hk : K.evtPending w / 256 = 0xE010 + w := by simp only [K.evtPending]; omega
    simp only [eventKey, hk, Bool.and_eq_false_iff, decide_eq_false_iff_not] at h
    omega
  case bits =>
    intro w' j hb
    by_cases hw' : w = w'
    · subst hw'
      simp only [rdBit, wrBit, rd_wr_same, bit_setBit] at hb ⊢
      split <;> simp_all
    · have : K.evtPending w ≠ K.evtPending w' := by simp only [K.evtPending]; omega
      simpa [rdBit, rd_wrBit_ne s i true this] using hb
  all_goals rfl

theorem perfAdd_frame (s : State) (sel n : Nat) : RaiseFrame s (perfAdd s sel n) := by
  unfold perfAdd
  split
  · exact RaiseFrame.of_same rfl
  · exact RaiseFrame.refl s

theorem fifoStep_frame (s : State) (sc src a b : Nat) :
    RaiseFrame s (fifoStep s sc src a b).1 ∧ ∀ r ∈ (fifoStep s sc src a b).2, r.1 < 384 := by
  have h1 : ∀ f, RaiseFrame s (setFifo s sc f) := by
    intro f; unfold setFifo; split <;> exact RaiseFrame.of_same rfl
  have h2 : ∀ u, RaiseFrame u (inc u (lostKey sc) 1) := by
    intro u
    unfold inc lostKey
    split
    · exact RaiseFrame.of_wr u _ _ (by decide) (by intro w; simp only [K.evtLostS, K.evtPending]; omega)
    · exact RaiseFrame.of_wr u _ _ (by decide) (by intro w; simp only [K.evtLost, K.evtPending]; omega)
  have h3 : ∀ u k, RaiseFrame u (lossRaise u sc k).1 ∧ ∀ r ∈ (lossRaise u sc k).2, r.1 < 384 := by
    intro u k
    unfold lossRaise
    split
    · exact ⟨RaiseFrame.of_same rfl, by intro r hr; simp at hr; subst hr; simp⟩
    · exact ⟨RaiseFrame.refl u, by simp⟩
  unfold fifoStep
  generalize (if sc = 1 then s.sec else s.ns).put src (tickNo s) a b = x
  simp only
  split
  · exact ⟨(h1 _).trans ((h2 _).trans (h3 _ _).1), (h3 _ _).2⟩
  · exact ⟨h1 _, by simp⟩

theorem setChan_frame (s : State) (c : Nat) (x : Chan) : RaiseFrame s (setChan s c x) := RaiseFrame.of_same rfl

theorem offerStep_frame (s : State) (c src a b : Nat) :
    RaiseFrame s (offerStep s c src a b).1 ∧ ∀ r ∈ (offerStep s c src a b).2, r.1 < 384 := by
  have h2 : ∀ u, RaiseFrame u (inc u K.evtMsgDrops 1) := fun u =>
    RaiseFrame.of_wr u _ _ (by decide) (by intro w; simp only [K.evtMsgDrops, K.evtPending]; omega)
  unfold offerStep
  split
  · exact ⟨RaiseFrame.refl s, by simp⟩
  · split
    · exact ⟨RaiseFrame.refl s, by simp⟩
    · simp only
      split
      · exact ⟨RaiseFrame.of_same rfl, by simp⟩
      · refine ⟨(setChan_frame s c _).trans (h2 _), ?_⟩
        intro r hr; split at hr <;> simp at hr; subst hr; simp

theorem raiseOne_frame (s : State) (r : Raise) (h : r.1 < 384) :
    RaiseFrame s (raiseOne s r).1 ∧ (∀ r' ∈ (raiseOne s r).2, r'.1 < 384) ∧
      rdBit (raiseOne s r).1 (K.evtPending (r.1 / 32)) (r.1 % 32) = true := by
  obtain ⟨src, a, b⟩ := r
  have hw : src / 32 < 12 := by simp only at h; omega
  have hset : rdBit (wrBit s (K.evtPending (src / 32)) (src % 32) true) (K.evtPending (src / 32)) (src % 32) = true :=
    rdBit_wrBit_same ..
  have f0 := (RaiseFrame.of_pending s (src / 32) (src % 32) hw).trans (perfAdd_frame _ (384 + src) 1)
  have b0 := (perfAdd_frame (wrBit s (K.evtPending (src / 32)) (src % 32) true) (384 + src) 1).bits _ _ hset
  unfold raiseOne
  simp only
  generalize perfAdd (wrBit s (K.evtPending (src / 32)) (src % 32) true) (384 + src) 1 = u at f0 b0
  have hrec : RaiseFrame u (if rdBit u (K.evtRecordEn (src / 32)) (src % 32) = true then
      ((fifoStep (if srcSecure src = true then (u, []) else fifoStep u 0 src a b).1 1 src a b).1,
        (if srcSecure src = true then (u, []) else fifoStep u 0 src a b).2 ++
        (fifoStep (if srcSecure src = true then (u, []) else fifoStep u 0 src a b).1 1 src a b).2) else (u, [])).1 ∧
      ∀ r' ∈ (if rdBit u (K.evtRecordEn (src / 32)) (src % 32) = true then
      ((fifoStep (if srcSecure src = true then (u, []) else fifoStep u 0 src a b).1 1 src a b).1,
        (if srcSecure src = true then (u, []) else fifoStep u 0 src a b).2 ++
        (fifoStep (if srcSecure src = true then (u, []) else fifoStep u 0 src a b).1 1 src a b).2) else (u, [])).2, r'.1 < 384 := by
    split
    · have hl : RaiseFrame u (if srcSecure src = true then (u, []) else fifoStep u 0 src a b).1 ∧
          ∀ r' ∈ (if srcSecure src = true then (u, []) else fifoStep u 0 src a b).2, r'.1 < 384 := by
        split
        · exact ⟨RaiseFrame.refl u, by simp⟩
        · exact fifoStep_frame u 0 src a b
      have hr := fifoStep_frame (if srcSecure src = true then (u, []) else fifoStep u 0 src a b).1 1 src a b
      refine ⟨hl.1.trans hr.1, ?_⟩
      intro r' hr'
      rcases List.mem_append.1 hr' with h' | h'
      · exact hl.2 _ h'
      · exact hr.2 _ h'
    · exact ⟨RaiseFrame.refl u, by simp⟩
  generalize (if rdBit u (K.evtRecordEn (src / 32)) (src % 32) = true then
      ((fifoStep (if srcSecure src = true then (u, []) else fifoStep u 0 src a b).1 1 src a b).1,
        (if srcSecure src = true then (u, []) else fifoStep u 0 src a b).2 ++
        (fifoStep (if srcSecure src = true then (u, []) else fifoStep u 0 src a b).1 1 src a b).2) else (u, [])) = x at hrec
  obtain ⟨v, l⟩ := x
  simp only at hrec ⊢
  have f1 := f0.trans hrec.1
  have b1 := hrec.1.bits _ _ b0
  split
  · have o1 := offerStep_frame v 1 src a b
    have o2 := offerStep_frame (offerStep v 1 src a b).1 2 src a b
    have o3 := offerStep_frame (offerStep (offerStep v 1 src a b).1 2 src a b).1 3 src a b
    refine ⟨f1.trans (o1.1.trans (o2.1.trans o3.1)), ?_, (o1.1.trans (o2.1.trans o3.1)).bits _ _ b1⟩
    intro r' hr'
    simp only [List.mem_append] at hr'
    rcases hr' with ((h' | h') | h') | h'
    · exact hrec.2 _ h'
    · exact o1.2 _ h'
    · exact o2.2 _ h'
    · exact o3.2 _ h'
  · exact ⟨f1, hrec.2, b1⟩

theorem raiseAll_frame (n : Nat) (l : List Raise) (s : State) (h : ∀ r ∈ l, r.1 < 384) : RaiseFrame s (raiseAll n l s) := by
  induction n generalizing l s with
  | zero => exact RaiseFrame.refl s
  | succ n ih =>
    cases l with
    | nil => exact RaiseFrame.refl s
    | cons r l =>
      obtain ⟨h1, h2, _⟩ := raiseOne_frame s r (h r (List.mem_cons_self ..))
      refine h1.trans (ih _ _ ?_)
      intro r' hr'
      rcases List.mem_append.1 hr' with h' | h'
      · exact h2 _ h'
      · exact h _ (List.mem_cons_of_mem _ h')

/-- What a raise leaves unchanged. -/
theorem raise_frame (s : State) (src a b : Nat) (h : src < 384) : RaiseFrame s (raise s src a b) :=
  raiseAll_frame 24 [(src, a, b)] s (by intro r hr; simp at hr; subst hr; exact h)

/-- Its pending bit is set. -/
theorem raise_sets_pending (s : State) (src a b : Nat) (h : src < 384) :
    rdBit (raise s src a b) (K.evtPending (src / 32)) (src % 32) = true := by
  obtain ⟨_, h2, h3⟩ := raiseOne_frame s (src, a, b) h
  show rdBit (raiseAll 23 _ _) _ _ = true
  refine (raiseAll_frame 23 _ _ ?_).bits _ _ h3
  intro r' hr'
  rcases List.mem_append.1 hr' with h' | h'
  · exact h2 _ h'
  · simp at h'

theorem raiseFirst_frame (s : State) (k src a b : Nat) (h : src < 384) : RaiseFrame s (raiseFirst s k src a b) := by
  unfold raiseFirst
  split
  · exact RaiseFrame.trans (t := { s with fired := tset 0 s.fired k 1 }) (RaiseFrame.of_same rfl) (raise_frame _ src a b h)
  · exact RaiseFrame.refl s

/-! The same, one lemma per part, for rewriting. -/

theorem rd_raise (s : State) (src a b k : Nat) (h : src < 384) (hk : eventKey k = false) : rd (raise s src a b) k = rd s k :=
  (raise_frame s src a b h).regs k hk
theorem rd_raiseFirst (s : State) (k' src a b k : Nat) (h : src < 384) (hk : eventKey k = false) :
    rd (raiseFirst s k' src a b) k = rd s k := (raiseFirst_frame s k' src a b h).regs k hk
theorem rd_incFirst (s : State) (k' src a b k : Nat) (h : src < 384) (hk : eventKey k = false) :
    rd (incFirst s k' src a b) k = rd (inc s k' 1) k := rd_raiseFirst _ k' src a b k h hk
theorem rdBit_raise (s : State) (src a b k i : Nat) (h : src < 384) (hk : eventKey k = false) :
    rdBit (raise s src a b) k i = rdBit s k i := by simp [rdBit, rd_raise s src a b k h hk]
theorem raise_phase (s : State) (src a b : Nat) (h : src < 384) : (raise s src a b).phase = s.phase := (raise_frame s src a b h).phase
theorem raise_unit (s : State) (src a b : Nat) (h : src < 384) : (raise s src a b).unit = s.unit := (raise_frame s src a b h).unit
theorem raise_tick (s : State) (src a b : Nat) (h : src < 384) : (raise s src a b).tick = s.tick := (raise_frame s src a b h).tick
theorem raise_tbs (s : State) (src a b : Nat) (h : src < 384) : (raise s src a b).tbs = s.tbs := (raise_frame s src a b h).tbs
theorem raise_claims (s : State) (src a b : Nat) (h : src < 384) : (raise s src a b).claims = s.claims := (raise_frame s src a b h).claims
theorem raise_stage (s : State) (src a b : Nat) (h : src < 384) : (raise s src a b).stage = s.stage := (raise_frame s src a b h).stage
theorem raise_boot (s : State) (src a b : Nat) (h : src < 384) : (raise s src a b).boot = s.boot := (raise_frame s src a b h).boot
theorem raise_life (s : State) (src a b : Nat) (h : src < 384) : (raise s src a b).life = s.life := (raise_frame s src a b h).life
theorem raise_lines (s : State) (src a b : Nat) (h : src < 384) : (raise s src a b).lines = s.lines := (raise_frame s src a b h).lines
theorem raise_tables (s : State) (src a b : Nat) (h : src < 384) : (raise s src a b).tables = s.tables := (raise_frame s src a b h).tables
theorem raise_assoc (s : State) (src a b : Nat) (h : src < 384) : (raise s src a b).assoc = s.assoc := (raise_frame s src a b h).assoc
theorem raise_dp (s : State) (src a b : Nat) (h : src < 384) : (raise s src a b).dp = s.dp := (raise_frame s src a b h).dp
theorem raise_stats (s : State) (src a b : Nat) (h : src < 384) : (raise s src a b).stats = s.stats := (raise_frame s src a b h).stats
theorem raise_fab (s : State) (src a b : Nat) (h : src < 384) : (raise s src a b).fab = s.fab := (raise_frame s src a b h).fab
theorem raise_hbm (s : State) (src a b : Nat) (h : src < 384) : (raise s src a b).hbm = s.hbm := (raise_frame s src a b h).hbm
theorem raise_beryl (s : State) (src a b : Nat) (h : src < 384) : (raise s src a b).beryl = s.beryl := (raise_frame s src a b h).beryl
theorem raise_jasper (s : State) (src a b : Nat) (h : src < 384) : (raise s src a b).jasper = s.jasper := (raise_frame s src a b h).jasper
theorem raise_keys (s : State) (src a b : Nat) (h : src < 384) : (raise s src a b).keys = s.keys := (raise_frame s src a b h).keys
theorem raise_onyx (s : State) (src a b : Nat) (h : src < 384) : (raise s src a b).onyx = s.onyx := (raise_frame s src a b h).onyx
theorem raise_draws (s : State) (src a b : Nat) (h : src < 384) : (raise s src a b).draws = s.draws := (raise_frame s src a b h).draws
theorem raise_reply (s : State) (src a b : Nat) (h : src < 384) : (raise s src a b).reply = s.reply := (raise_frame s src a b h).reply
theorem raise_out (s : State) (src a b : Nat) (h : src < 384) : (raise s src a b).out = s.out := (raise_frame s src a b h).out
theorem raise_pending (s : State) (src a b : Nat) (h : src < 384) : (raise s src a b).pending = s.pending := (raise_frame s src a b h).pending
theorem incFirst_phase (s : State) (k src a b : Nat) (h : src < 384) : (incFirst s k src a b).phase = s.phase :=
  (raiseFirst_frame (inc s k 1) k src a b h).phase
theorem incFirst_unit (s : State) (k src a b : Nat) (h : src < 384) : (incFirst s k src a b).unit = s.unit :=
  (raiseFirst_frame (inc s k 1) k src a b h).unit
theorem incFirst_tick (s : State) (k src a b : Nat) (h : src < 384) : (incFirst s k src a b).tick = s.tick :=
  (raiseFirst_frame (inc s k 1) k src a b h).tick
theorem incFirst_tbs (s : State) (k src a b : Nat) (h : src < 384) : (incFirst s k src a b).tbs = s.tbs :=
  (raiseFirst_frame (inc s k 1) k src a b h).tbs
theorem incFirst_claims (s : State) (k src a b : Nat) (h : src < 384) : (incFirst s k src a b).claims = s.claims :=
  (raiseFirst_frame (inc s k 1) k src a b h).claims
theorem incFirst_stage (s : State) (k src a b : Nat) (h : src < 384) : (incFirst s k src a b).stage = s.stage :=
  (raiseFirst_frame (inc s k 1) k src a b h).stage
theorem incFirst_boot (s : State) (k src a b : Nat) (h : src < 384) : (incFirst s k src a b).boot = s.boot :=
  (raiseFirst_frame (inc s k 1) k src a b h).boot
theorem incFirst_life (s : State) (k src a b : Nat) (h : src < 384) : (incFirst s k src a b).life = s.life :=
  (raiseFirst_frame (inc s k 1) k src a b h).life
theorem incFirst_lines (s : State) (k src a b : Nat) (h : src < 384) : (incFirst s k src a b).lines = s.lines :=
  (raiseFirst_frame (inc s k 1) k src a b h).lines
theorem incFirst_tables (s : State) (k src a b : Nat) (h : src < 384) : (incFirst s k src a b).tables = s.tables :=
  (raiseFirst_frame (inc s k 1) k src a b h).tables
theorem incFirst_assoc (s : State) (k src a b : Nat) (h : src < 384) : (incFirst s k src a b).assoc = s.assoc :=
  (raiseFirst_frame (inc s k 1) k src a b h).assoc
theorem incFirst_dp (s : State) (k src a b : Nat) (h : src < 384) : (incFirst s k src a b).dp = s.dp :=
  (raiseFirst_frame (inc s k 1) k src a b h).dp
theorem incFirst_stats (s : State) (k src a b : Nat) (h : src < 384) : (incFirst s k src a b).stats = s.stats :=
  (raiseFirst_frame (inc s k 1) k src a b h).stats
theorem incFirst_fab (s : State) (k src a b : Nat) (h : src < 384) : (incFirst s k src a b).fab = s.fab :=
  (raiseFirst_frame (inc s k 1) k src a b h).fab
theorem incFirst_hbm (s : State) (k src a b : Nat) (h : src < 384) : (incFirst s k src a b).hbm = s.hbm :=
  (raiseFirst_frame (inc s k 1) k src a b h).hbm
theorem incFirst_beryl (s : State) (k src a b : Nat) (h : src < 384) : (incFirst s k src a b).beryl = s.beryl :=
  (raiseFirst_frame (inc s k 1) k src a b h).beryl
theorem incFirst_jasper (s : State) (k src a b : Nat) (h : src < 384) : (incFirst s k src a b).jasper = s.jasper :=
  (raiseFirst_frame (inc s k 1) k src a b h).jasper
theorem incFirst_keys (s : State) (k src a b : Nat) (h : src < 384) : (incFirst s k src a b).keys = s.keys :=
  (raiseFirst_frame (inc s k 1) k src a b h).keys
theorem incFirst_onyx (s : State) (k src a b : Nat) (h : src < 384) : (incFirst s k src a b).onyx = s.onyx :=
  (raiseFirst_frame (inc s k 1) k src a b h).onyx
theorem incFirst_draws (s : State) (k src a b : Nat) (h : src < 384) : (incFirst s k src a b).draws = s.draws :=
  (raiseFirst_frame (inc s k 1) k src a b h).draws
theorem incFirst_reply (s : State) (k src a b : Nat) (h : src < 384) : (incFirst s k src a b).reply = s.reply :=
  (raiseFirst_frame (inc s k 1) k src a b h).reply
theorem incFirst_out (s : State) (k src a b : Nat) (h : src < 384) : (incFirst s k src a b).out = s.out :=
  (raiseFirst_frame (inc s k 1) k src a b h).out
theorem incFirst_pending (s : State) (k src a b : Nat) (h : src < 384) : (incFirst s k src a b).pending = s.pending :=
  (raiseFirst_frame (inc s k 1) k src a b h).pending

end Sys2Proof.Machine
end

