-- ==== Sys2Proof/Laws/Frames.lean ====
section
/-! SUPPORT. Frames: how they compose, and what each shared operation adds to the frame of what came before it. -/

namespace Sys2Proof.Machine

theorem Part.same_refl (p : Part) (s : State) : p.same s s := by cases p <;> simp [Part.same]
theorem Part.same_trans {p : Part} {s t u : State} (h : p.same s t) (h' : p.same t u) : p.same s u := by
  cases p <;> simp_all [Part.same]

variable {ks : List Nat} {ps : List Part} {s t u : State}

theorem Frame.refl : Frame ks ps s s := ⟨fun _ _ => rfl, fun p _ => p.same_refl s⟩
theorem EvFrame.refl : EvFrame ks ps s s := ⟨fun _ _ _ => rfl, fun p _ => p.same_refl s⟩
theorem Frame.trans (h : Frame ks ps s t) (h' : Frame ks ps t u) : Frame ks ps s u :=
  ⟨fun k hk => (h'.1 k hk).trans (h.1 k hk), fun p hp => Part.same_trans (h.2 p hp) (h'.2 p hp)⟩
theorem EvFrame.trans (h : EvFrame ks ps s t) (h' : EvFrame ks ps t u) : EvFrame ks ps s u :=
  ⟨fun k he hk => (h'.1 k he hk).trans (h.1 k he hk), fun p hp => Part.same_trans (h.2 p hp) (h'.2 p hp)⟩
theorem Frame.toEv (h : Frame ks ps s t) : EvFrame ks ps s t :=
  ⟨fun k _ hk => h.1 k hk, fun p hp => h.2 p (fun h' => hp (List.mem_append_right _ h'))⟩
theorem Frame.mono {ks' : List Nat} {ps' : List Part} (h : Frame ks ps s t) (hk : ks ⊆ ks') (hp : ps ⊆ ps') : Frame ks' ps' s t :=
  ⟨fun k h' => h.1 k (fun h'' => h' (hk h'')), fun p h' => h.2 p (fun h'' => h' (hp h''))⟩

/-- Only the named parts change; the register file does not. -/
theorem Frame.of_parts (hr : t.regs = s.regs) (h : ∀ p, p ∉ ps → p.same s t) : Frame ks ps s t := ⟨fun k _ => rd_of_regs hr k, h⟩

theorem RaiseFrame.ev (h : RaiseFrame s t) : EvFrame ks ps s t :=
  ⟨fun k he _ => h.regs k he, fun p hp => by
    cases p <;> first
      | exact absurd (List.mem_append_left _ (by decide)) hp
      | simp [Part.same, h.tick, h.tbs, h.claims, h.stage, h.boot, h.life, h.lines, h.tables, h.assoc, h.dp, h.stats, h.fab,
          h.hbm, h.beryl, h.jasper, h.keys, h.onyx, h.draws, h.out]⟩

/-! After what came before. -/

theorem Frame.wr {k v : Nat} (hk : k ∈ ks) (h : Frame ks ps s u) : Frame ks ps s (wr u k v) :=
  h.trans ⟨fun k' h => rd_wr_ne u v (by rintro rfl; exact h hk), fun p _ => by cases p <;> simp [Part.same]⟩
theorem EvFrame.raise {src a b : Nat} (hs : src < 384) (h : EvFrame ks ps s u) : EvFrame ks ps s (raise u src a b) :=
  h.trans (raise_frame u src a b hs).ev
theorem EvFrame.raiseFirst {k src a b : Nat} (hs : src < 384) (h : EvFrame ks ps s u) : EvFrame ks ps s (raiseFirst u k src a b) :=
  h.trans (raiseFirst_frame u k src a b hs).ev
theorem EvFrame.perfAdd {a b : Nat} (h : EvFrame ks ps s u) : EvFrame ks ps s (perfAdd u a b) := h.trans (perfAdd_frame u a b).ev
theorem Frame.inc {k n : Nat} (hk : k ∈ ks) (h : Frame ks ps s u) : Frame ks ps s (inc u k n) := h.wr hk
theorem Frame.wrBit {k i : Nat} {b : Bool} (hk : k ∈ ks) (h : Frame ks ps s u) : Frame ks ps s (wrBit u k i b) := h.wr hk
theorem Frame.wrField {k i j v : Nat} (hk : k ∈ ks) (h : Frame ks ps s u) : Frame ks ps s (wrField u k i j v) := h.wr hk
theorem Frame.ite {c : Prop} [Decidable c] {v : State} (h : c → Frame ks ps s u) (h' : ¬ c → Frame ks ps s v) :
    Frame ks ps s (if c then u else v) := by split <;> simp_all
theorem EvFrame.wr {k v : Nat} (hk : k ∈ ks) (h : EvFrame ks ps s u) : EvFrame ks ps s (wr u k v) :=
  h.trans ((Frame.refl).wr hk).toEv
theorem EvFrame.inc {k n : Nat} (hk : k ∈ ks) (h : EvFrame ks ps s u) : EvFrame ks ps s (inc u k n) := h.wr hk
theorem EvFrame.wrBit {k i : Nat} {b : Bool} (hk : k ∈ ks) (h : EvFrame ks ps s u) : EvFrame ks ps s (wrBit u k i b) := h.wr hk
theorem EvFrame.wrField {k i j v : Nat} (hk : k ∈ ks) (h : EvFrame ks ps s u) : EvFrame ks ps s (wrField u k i j v) := h.wr hk
theorem EvFrame.ite {c : Prop} [Decidable c] {v : State} (h : c → EvFrame ks ps s u) (h' : ¬ c → EvFrame ks ps s v) :
    EvFrame ks ps s (if c then u else v) := by split <;> simp_all
theorem EvFrame.incFirst {k src a b : Nat} (hk : k ∈ ks) (hs : src < 384) (h : EvFrame ks ps s u) :
    EvFrame ks ps s (incFirst u k src a b) := (h.inc hk).raiseFirst hs
theorem Frame.set_tick {x : TickSt} (hp : Part.clock ∈ ps) (h : Frame ks ps s u) : Frame ks ps s { u with tick := x } :=
  h.trans (Frame.of_parts rfl (by intro p h'; cases p <;> first | exact absurd hp h' | simp [Part.same]))
theorem EvFrame.set_tick {x : TickSt} (hp : Part.clock ∈ ps) (h : EvFrame ks ps s u) : EvFrame ks ps s { u with tick := x } :=
  h.trans (Frame.refl.set_tick hp).toEv
theorem Frame.set_tbs {x : Tbl Tb} (hp : Part.timeBases ∈ ps) (h : Frame ks ps s u) : Frame ks ps s { u with tbs := x } :=
  h.trans (Frame.of_parts rfl (by intro p h'; cases p <;> first | exact absurd hp h' | simp [Part.same]))
theorem EvFrame.set_tbs {x : Tbl Tb} (hp : Part.timeBases ∈ ps) (h : EvFrame ks ps s u) : EvFrame ks ps s { u with tbs := x } :=
  h.trans (Frame.refl.set_tbs hp).toEv
theorem Frame.set_ns {x : Fifo} (hp : Part.events ∈ ps) (h : Frame ks ps s u) : Frame ks ps s { u with ns := x } :=
  h.trans (Frame.of_parts rfl (by intro p h'; cases p <;> first | exact absurd hp h' | simp [Part.same]))
theorem EvFrame.set_ns {x : Fifo} (h : EvFrame ks ps s u) : EvFrame ks ps s { u with ns := x } :=
  h.trans ⟨fun _ _ _ => rfl, by intro p h'; cases p <;> first | exact absurd (List.mem_append_left _ (by decide)) h' | simp [Part.same]⟩
theorem Frame.set_sec {x : Fifo} (hp : Part.events ∈ ps) (h : Frame ks ps s u) : Frame ks ps s { u with sec := x } :=
  h.trans (Frame.of_parts rfl (by intro p h'; cases p <;> first | exact absurd hp h' | simp [Part.same]))
theorem EvFrame.set_sec {x : Fifo} (h : EvFrame ks ps s u) : EvFrame ks ps s { u with sec := x } :=
  h.trans ⟨fun _ _ _ => rfl, by intro p h'; cases p <;> first | exact absurd (List.mem_append_left _ (by decide)) h' | simp [Part.same]⟩
theorem Frame.set_fired {x : Tbl Nat} (hp : Part.events ∈ ps) (h : Frame ks ps s u) : Frame ks ps s { u with fired := x } :=
  h.trans (Frame.of_parts rfl (by intro p h'; cases p <;> first | exact absurd hp h' | simp [Part.same]))
theorem EvFrame.set_fired {x : Tbl Nat} (h : EvFrame ks ps s u) : EvFrame ks ps s { u with fired := x } :=
  h.trans ⟨fun _ _ _ => rfl, by intro p h'; cases p <;> first | exact absurd (List.mem_append_left _ (by decide)) h' | simp [Part.same]⟩
theorem Frame.set_claims {x : Tbl (Nat × Nat)} (hp : Part.staging ∈ ps) (h : Frame ks ps s u) : Frame ks ps s { u with claims := x } :=
  h.trans (Frame.of_parts rfl (by intro p h'; cases p <;> first | exact absurd hp h' | simp [Part.same]))
theorem EvFrame.set_claims {x : Tbl (Nat × Nat)} (hp : Part.staging ∈ ps) (h : EvFrame ks ps s u) : EvFrame ks ps s { u with claims := x } :=
  h.trans (Frame.refl.set_claims hp).toEv
theorem Frame.set_stage {x : Tbl (List Word)} (hp : Part.staging ∈ ps) (h : Frame ks ps s u) : Frame ks ps s { u with stage := x } :=
  h.trans (Frame.of_parts rfl (by intro p h'; cases p <;> first | exact absurd hp h' | simp [Part.same]))
theorem EvFrame.set_stage {x : Tbl (List Word)} (hp : Part.staging ∈ ps) (h : EvFrame ks ps s u) : EvFrame ks ps s { u with stage := x } :=
  h.trans (Frame.refl.set_stage hp).toEv
theorem Frame.set_chans {x : Tbl Chan} (hp : Part.chans ∈ ps) (h : Frame ks ps s u) : Frame ks ps s { u with chans := x } :=
  h.trans (Frame.of_parts rfl (by intro p h'; cases p <;> first | exact absurd hp h' | simp [Part.same]))
theorem EvFrame.set_chans {x : Tbl Chan} (h : EvFrame ks ps s u) : EvFrame ks ps s { u with chans := x } :=
  h.trans ⟨fun _ _ _ => rfl, by intro p h'; cases p <;> first | exact absurd (List.mem_append_left _ (by decide)) h' | simp [Part.same]⟩
theorem Frame.set_boot {x : Boot} (hp : Part.boot ∈ ps) (h : Frame ks ps s u) : Frame ks ps s { u with boot := x } :=
  h.trans (Frame.of_parts rfl (by intro p h'; cases p <;> first | exact absurd hp h' | simp [Part.same]))
theorem EvFrame.set_boot {x : Boot} (hp : Part.boot ∈ ps) (h : EvFrame ks ps s u) : EvFrame ks ps s { u with boot := x } :=
  h.trans (Frame.refl.set_boot hp).toEv
theorem Frame.set_life {x : Life} (hp : Part.life ∈ ps) (h : Frame ks ps s u) : Frame ks ps s { u with life := x } :=
  h.trans (Frame.of_parts rfl (by intro p h'; cases p <;> first | exact absurd hp h' | simp [Part.same]))
theorem EvFrame.set_life {x : Life} (hp : Part.life ∈ ps) (h : EvFrame ks ps s u) : EvFrame ks ps s { u with life := x } :=
  h.trans (Frame.refl.set_life hp).toEv
theorem Frame.set_lines {x : Lines} (hp : Part.lines ∈ ps) (h : Frame ks ps s u) : Frame ks ps s { u with lines := x } :=
  h.trans (Frame.of_parts rfl (by intro p h'; cases p <;> first | exact absurd hp h' | simp [Part.same]))
theorem EvFrame.set_lines {x : Lines} (hp : Part.lines ∈ ps) (h : EvFrame ks ps s u) : EvFrame ks ps s { u with lines := x } :=
  h.trans (Frame.refl.set_lines hp).toEv
theorem Frame.set_tables {x : Tables} (hp : Part.tables ∈ ps) (h : Frame ks ps s u) : Frame ks ps s { u with tables := x } :=
  h.trans (Frame.of_parts rfl (by intro p h'; cases p <;> first | exact absurd hp h' | simp [Part.same]))
theorem EvFrame.set_tables {x : Tables} (hp : Part.tables ∈ ps) (h : EvFrame ks ps s u) : EvFrame ks ps s { u with tables := x } :=
  h.trans (Frame.refl.set_tables hp).toEv
theorem Frame.set_perf {x : Perf} (hp : Part.perf ∈ ps) (h : Frame ks ps s u) : Frame ks ps s { u with perf := x } :=
  h.trans (Frame.of_parts rfl (by intro p h'; cases p <;> first | exact absurd hp h' | simp [Part.same]))
theorem EvFrame.set_perf {x : Perf} (h : EvFrame ks ps s u) : EvFrame ks ps s { u with perf := x } :=
  h.trans ⟨fun _ _ _ => rfl, by intro p h'; cases p <;> first | exact absurd (List.mem_append_left _ (by decide)) h' | simp [Part.same]⟩
theorem Frame.set_assoc {x : Assoc} (hp : Part.assoc ∈ ps) (h : Frame ks ps s u) : Frame ks ps s { u with assoc := x } :=
  h.trans (Frame.of_parts rfl (by intro p h'; cases p <;> first | exact absurd hp h' | simp [Part.same]))
theorem EvFrame.set_assoc {x : Assoc} (hp : Part.assoc ∈ ps) (h : EvFrame ks ps s u) : EvFrame ks ps s { u with assoc := x } :=
  h.trans (Frame.refl.set_assoc hp).toEv
theorem Frame.set_dp {x : Dp} (hp : Part.datapath ∈ ps) (h : Frame ks ps s u) : Frame ks ps s { u with dp := x } :=
  h.trans (Frame.of_parts rfl (by intro p h'; cases p <;> first | exact absurd hp h' | simp [Part.same]))
theorem EvFrame.set_dp {x : Dp} (hp : Part.datapath ∈ ps) (h : EvFrame ks ps s u) : EvFrame ks ps s { u with dp := x } :=
  h.trans (Frame.refl.set_dp hp).toEv
theorem Frame.set_stats {x : Stats} (hp : Part.stats ∈ ps) (h : Frame ks ps s u) : Frame ks ps s { u with stats := x } :=
  h.trans (Frame.of_parts rfl (by intro p h'; cases p <;> first | exact absurd hp h' | simp [Part.same]))
theorem EvFrame.set_stats {x : Stats} (hp : Part.stats ∈ ps) (h : EvFrame ks ps s u) : EvFrame ks ps s { u with stats := x } :=
  h.trans (Frame.refl.set_stats hp).toEv
theorem Frame.set_fab {x : FabSt} (hp : Part.fabric ∈ ps) (h : Frame ks ps s u) : Frame ks ps s { u with fab := x } :=
  h.trans (Frame.of_parts rfl (by intro p h'; cases p <;> first | exact absurd hp h' | simp [Part.same]))
theorem EvFrame.set_fab {x : FabSt} (hp : Part.fabric ∈ ps) (h : EvFrame ks ps s u) : EvFrame ks ps s { u with fab := x } :=
  h.trans (Frame.refl.set_fab hp).toEv
theorem Frame.set_hbm {x : Hbm} (hp : Part.hbm ∈ ps) (h : Frame ks ps s u) : Frame ks ps s { u with hbm := x } :=
  h.trans (Frame.of_parts rfl (by intro p h'; cases p <;> first | exact absurd hp h' | simp [Part.same]))
theorem EvFrame.set_hbm {x : Hbm} (hp : Part.hbm ∈ ps) (h : EvFrame ks ps s u) : EvFrame ks ps s { u with hbm := x } :=
  h.trans (Frame.refl.set_hbm hp).toEv
theorem Frame.set_beryl {x : Beryl} (hp : Part.beryl ∈ ps) (h : Frame ks ps s u) : Frame ks ps s { u with beryl := x } :=
  h.trans (Frame.of_parts rfl (by intro p h'; cases p <;> first | exact absurd hp h' | simp [Part.same]))
theorem EvFrame.set_beryl {x : Beryl} (hp : Part.beryl ∈ ps) (h : EvFrame ks ps s u) : EvFrame ks ps s { u with beryl := x } :=
  h.trans (Frame.refl.set_beryl hp).toEv
theorem Frame.set_jasper {x : Jasper} (hp : Part.jasper ∈ ps) (h : Frame ks ps s u) : Frame ks ps s { u with jasper := x } :=
  h.trans (Frame.of_parts rfl (by intro p h'; cases p <;> first | exact absurd hp h' | simp [Part.same]))
theorem EvFrame.set_jasper {x : Jasper} (hp : Part.jasper ∈ ps) (h : EvFrame ks ps s u) : EvFrame ks ps s { u with jasper := x } :=
  h.trans (Frame.refl.set_jasper hp).toEv
theorem Frame.set_keys {x : KeySt} (hp : Part.keys ∈ ps) (h : Frame ks ps s u) : Frame ks ps s { u with keys := x } :=
  h.trans (Frame.of_parts rfl (by intro p h'; cases p <;> first | exact absurd hp h' | simp [Part.same]))
theorem EvFrame.set_keys {x : KeySt} (hp : Part.keys ∈ ps) (h : EvFrame ks ps s u) : EvFrame ks ps s { u with keys := x } :=
  h.trans (Frame.refl.set_keys hp).toEv
theorem Frame.set_onyx {x : Onyx} (hp : Part.onyx ∈ ps) (h : Frame ks ps s u) : Frame ks ps s { u with onyx := x } :=
  h.trans (Frame.of_parts rfl (by intro p h'; cases p <;> first | exact absurd hp h' | simp [Part.same]))
theorem EvFrame.set_onyx {x : Onyx} (hp : Part.onyx ∈ ps) (h : EvFrame ks ps s u) : EvFrame ks ps s { u with onyx := x } :=
  h.trans (Frame.refl.set_onyx hp).toEv
theorem Frame.set_draws {x : Nat} (hp : Part.draws ∈ ps) (h : Frame ks ps s u) : Frame ks ps s { u with draws := x } :=
  h.trans (Frame.of_parts rfl (by intro p h'; cases p <;> first | exact absurd hp h' | simp [Part.same]))
theorem EvFrame.set_draws {x : Nat} (hp : Part.draws ∈ ps) (h : EvFrame ks ps s u) : EvFrame ks ps s { u with draws := x } :=
  h.trans (Frame.refl.set_draws hp).toEv
theorem Frame.set_out {x : List Output} (hp : Part.out ∈ ps) (h : Frame ks ps s u) : Frame ks ps s { u with out := x } :=
  h.trans (Frame.of_parts rfl (by intro p h'; cases p <;> first | exact absurd hp h' | simp [Part.same]))
theorem EvFrame.set_out {x : List Output} (hp : Part.out ∈ ps) (h : EvFrame ks ps s u) : EvFrame ks ps s { u with out := x } :=
  h.trans (Frame.refl.set_out hp).toEv
theorem Frame.emit {o : Output} (hp : Part.out ∈ ps) (h : Frame ks ps s u) : Frame ks ps s (emit u o) := h.set_out hp
theorem EvFrame.emit {o : Output} (hp : Part.out ∈ ps) (h : EvFrame ks ps s u) : EvFrame ks ps s (emit u o) := h.set_out hp
theorem Frame.toCc {n : Nat} (hp : Part.clock ∈ ps) (h : Frame ks ps s u) : Frame ks ps s (toCc u n) := h.set_tick hp
theorem EvFrame.toCc {n : Nat} (hp : Part.clock ∈ ps) (h : EvFrame ks ps s u) : EvFrame ks ps s (toCc u n) := h.set_tick hp
theorem Frame.passCc {n : Nat} (hp : Part.clock ∈ ps) (h : Frame ks ps s u) : Frame ks ps s (passCc u n) := h.set_tick hp
theorem EvFrame.passCc {n : Nat} (hp : Part.clock ∈ ps) (h : EvFrame ks ps s u) : EvFrame ks ps s (passCc u n) := h.set_tick hp
theorem Frame.setChan {c : Nat} {x : Chan} (hp : Part.chans ∈ ps) (h : Frame ks ps s u) : Frame ks ps s (setChan u c x) := h.set_chans hp
theorem EvFrame.setChan {c : Nat} {x : Chan} (h : EvFrame ks ps s u) : EvFrame ks ps s (setChan u c x) := h.set_chans
theorem Frame.setTb {n : Nat} {x : Tb} (hp : Part.timeBases ∈ ps) (h : Frame ks ps s u) : Frame ks ps s (setTb u n x) := h.set_tbs hp
theorem EvFrame.setTb {n : Nat} {x : Tb} (hp : Part.timeBases ∈ ps) (h : EvFrame ks ps s u) : EvFrame ks ps s (setTb u n x) := h.set_tbs hp
theorem Frame.rearm {k : Nat} (hp : Part.events ∈ ps) (h : Frame ks ps s u) : Frame ks ps s (rearm u k) := h.set_fired hp
theorem EvFrame.rearm {k : Nat} (h : EvFrame ks ps s u) : EvFrame ks ps s (rearm u k) := h.set_fired
theorem Frame.claim {g c : Nat} (hp : Part.staging ∈ ps) (h : Frame ks ps s u) : Frame ks ps s (claim u g c) := h.set_claims hp
theorem EvFrame.claim {g c : Nat} (hp : Part.staging ∈ ps) (h : EvFrame ks ps s u) : EvFrame ks ps s (claim u g c) := h.set_claims hp
theorem Frame.release {g : Nat} (hp : Part.staging ∈ ps) (h : Frame ks ps s u) : Frame ks ps s (release u g) := h.set_claims hp
theorem EvFrame.release {g : Nat} (hp : Part.staging ∈ ps) (h : EvFrame ks ps s u) : EvFrame ks ps s (release u g) := h.set_claims hp
theorem Frame.setStage {g : Nat} {ws : List Word} (hp : Part.staging ∈ ps) (h : Frame ks ps s u) : Frame ks ps s (setStage u g ws) := h.set_stage hp
theorem EvFrame.setStage {g : Nat} {ws : List Word} (hp : Part.staging ∈ ps) (h : EvFrame ks ps s u) : EvFrame ks ps s (setStage u g ws) := h.set_stage hp
theorem Frame.discard {g : Nat} (hp : Part.staging ∈ ps) (h : Frame ks ps s u) : Frame ks ps s (discard u g) :=
  h.trans (Frame.of_parts rfl (by intro p h'; cases p <;> first | exact absurd hp h' | simp [Part.same]))
theorem EvFrame.discard {g : Nat} (hp : Part.staging ∈ ps) (h : EvFrame ks ps s u) : EvFrame ks ps s (discard u g) :=
  h.trans (Frame.refl.discard hp).toEv
theorem Frame.touch {r : Req} (hp : Part.chans ∈ ps) (h : Frame ks ps s u) : Frame ks ps s (touch u r) :=
  h.trans (Frame.of_parts (by simp) (by intro p h'; cases p <;> first | exact absurd hp h' | simp [Part.same]))
theorem EvFrame.touch {r : Req} (h : EvFrame ks ps s u) : EvFrame ks ps s (touch u r) :=
  h.trans ⟨fun _ _ _ => by simp, by intro p h'; cases p <;> first | exact absurd (List.mem_append_left _ (by decide)) h' | simp [Part.same]⟩
theorem Frame.replied {c : Code} {l : List Word} (h : Frame ks ps s t) : Frame ks ps s (replied t c l) :=
  ⟨fun k hk => h.1 k hk, fun p hp => by have := h.2 p hp; cases p <;> simpa [Part.same] using this⟩
theorem Frame.settled {z : State} (h : Frame ks ps s t) : Frame ks ps s (settled z t) :=
  ⟨fun k hk => h.1 k hk, fun p hp => by have := h.2 p hp; cases p <;> simpa [Part.same] using this⟩
theorem Frame.settledReset {z : State} (h : Frame ks ps s t) : Frame ks ps s (settledReset z t) :=
  ⟨fun k hk => h.1 k hk, fun p hp => by have := h.2 p hp; cases p <;> simpa [Part.same] using this⟩
theorem Frame.settledTick {z : State} (h : Frame ks ps s t) : Frame ks ps s (settledTick z t) :=
  ⟨fun k hk => h.1 k hk, fun p hp => by have := h.2 p hp; cases p <;> simpa [Part.same] using this⟩
theorem EvFrame.replied {c : Code} {l : List Word} (h : EvFrame ks ps s t) : EvFrame ks ps s (replied t c l) :=
  ⟨fun k he hk => h.1 k he hk, fun p hp => by have := h.2 p hp; cases p <;> simpa [Part.same] using this⟩
theorem EvFrame.settled {z : State} (h : EvFrame ks ps s t) : EvFrame ks ps s (settled z t) :=
  ⟨fun k he hk => h.1 k he hk, fun p hp => by have := h.2 p hp; cases p <;> simpa [Part.same] using this⟩
theorem EvFrame.settledReset {z : State} (h : EvFrame ks ps s t) : EvFrame ks ps s (settledReset z t) :=
  ⟨fun k he hk => h.1 k he hk, fun p hp => by have := h.2 p hp; cases p <;> simpa [Part.same] using this⟩
theorem EvFrame.settledTick {z : State} (h : EvFrame ks ps s t) : EvFrame ks ps s (settledTick z t) :=
  ⟨fun k he hk => h.1 k he hk, fun p hp => by have := h.2 p hp; cases p <;> simpa [Part.same] using this⟩

/-! Running a command. -/

theorem runs_done {c : Instr} {P : State → Prop} (h : exec c s = done s t) (hp : P (settled s t)) : Runs c s P := ⟨_, h, hp⟩

/-- An admitted access runs: its effect, the session's time renewed, its answer. -/
theorem runs_access {c : Instr} {r : Req} {k : Nat} {w : Bool} {eff : State → Res} {P : State → Prop}
    (h : exec c s = done s (access s r k w eff)) (hg : Admitted s r k w)
    (hp : P (settled s (replied (touch (eff s).st r) (eff s).code (eff s).vals))) : Runs c s P :=
  ⟨_, h, by rw [access_pass hg]; exact hp⟩

end Sys2Proof.Machine
end

