-- ==== Sys2Proof/WellFormed.lean ====
section
/-! DEFINITION. Well-formed commands: every operand within the range the spec gives it (R7, R12, R45, R54, R76, R299, R418). -/

namespace Sys2Proof

/-- A list of 32-bit words, and a list of octets. -/
def words (l : List Nat) : Bool := l.all (fun w => decide (w < 2 ^ 32))
def octets (l : List Nat) : Bool := l.all (fun b => decide (b < 256))

/-- A requester comes by one of the five channels (R415); only MGA, MGB and the fabric carry sessions by tag (R304). -/
def Req.ok (r : Req) : Bool := decide (r.ch < 5)

/-- A fabric message's fields fit their places (R386, R387). -/
def FabMsg.ok (m : FabMsg) : Bool :=
  decide (m.ver < 4) && decide (m.typ < 256) && decide (m.ttl < 16) && decide (m.src < 256) && decide (m.dst < 256) &&
  decide (m.seq < 65536) && decide (m.group < 256) && decide (m.epoch < 2 ^ 32) && decide (m.crc < 2 ^ 32) && words m.payload

/-- Places of block lock (R65) and of OTN alignment (R89). -/
def LockPlace.ok : LockPlace → Bool
  | .lane m => decide (m < 64)
  | .fec q _ l => decide (q < 32) && decide (l < 32)
def OtnPoint.ok : OtnPoint → Bool
  | .otu n _ => decide (n < 8)
  | .trib n _ tpn => decide (n < 8) && decide (tpn < 80)

/-- Window accesses, memory errors and arriving frames. -/
def Acc.ok : Acc → Bool
  | .read => true
  | .write v => decide (v < 2 ^ 32)
def MemFault.ok : MemFault → Bool
  | .badTag level => decide (level < 7)
  | _ => true
def KdaIn.ok : KdaIn → Bool
  | .arrive ch _ ws => decide (0 < ch) && decide (ch < 4) && words ws
  | .serve => true

/-- Every operand of a command is in its range. -/
def Instr.wf : Instr → Bool
  | .registerWrite r key v => r.ok && decide (key < 2 ^ 24) && decide (v < 2 ^ 2048)
  | .kdaRequest a => a.ok
  | .kdaRead r key => r.ok && decide (key < 2 ^ 24)
  | .kdaWrite r key ws => r.ok && decide (key < 2 ^ 24) && words ws
  | .kdaWindowRead r key n => r.ok && decide (key < 2 ^ 24) && decide (n < 2 ^ 32)
  | .kdaWindowWrite r key ws => r.ok && decide (key < 2 ^ 24) && words ws
  | .spiWriteRequest ws _ => words ws
  | .spiReadStatus => true
  | .spiReadReply _ => true
  | .spiChannelReset => true
  | .mgArpRequest c _ _ _ => decide (0 < c) && decide (c < 3)
  | .mgLinkLoss c => decide (0 < c) && decide (c < 3)
  | .chanReset r c => r.ok && decide (c < 4)
  | .evtSubscribe r c => r.ok && decide (c < 4)
  | .evtUnsubscribe r c => r.ok && decide (c < 4)
  | .evtMsgSend c => decide (c < 4)
  | .evtDataRead r => r.ok
  | .evtDataSRead r => r.ok
  | .evtLostRead r _ => r.ok
  | .evtPendingClear r w v => r.ok && decide (w < 12) && decide (v < 2 ^ 32)
  | .chanRejectedRead r c => r.ok && decide (c < 4)
  | .chanRxDropsRead r c => r.ok && decide (0 < c) && decide (c < 4)
  | .tickBoundary => true
  | .commitPoint => true
  | .graceEnd h => decide (h < 131072)
  | .leaseExpiry g => decide (g < 4)
  | .migrationDrainEnd => true
  | .commitReport => true
  | .heartbeatSend => true
  | .reservationSend => true
  | .dumpStart => true
  | .bgJobSuspend job => decide (0 < job) && decide (job < 6)
  | .hbmCounterWriteback => true
  | .shadowCompareStep suspect => suspect.all (fun i => decide (i < 557056))
  | .dumpChunk => true
  | .scrubStep hits => hits.all (fun e => decide (e.table < 3) && decide (e.index < 131072))
  | .standbySelftestStep _ => true
  | .tickRealign r v => r.ok && decide (v < 2 ^ 64)
  | .syncInEdge ps => decide (ps < 10000000)
  | .syncInLost => true
  | .clockLost d => decide (d < 25)
  | .bgOverrunRead r job => r.ok && decide (0 < job) && decide (job < 6)
  | .groupLayoutWrite r n v => r.ok && decide (n < 8) && decide (v < 2 ^ 32)
  | .groupModeWrite r n v => r.ok && decide (n < 8) && decide (v < 2 ^ 32)
  | .laneCtrlWrite r m v => r.ok && decide (m < 64) && decide (v < 2 ^ 32)
  | .laneSignalDetect m => decide (m < 64)
  | .laneCdrLock m => decide (m < 64)
  | .laneCdrTimeout m => decide (m < 64)
  | .laneTrainComplete m taps => decide (m < 64) && decide (taps < 2 ^ 30)
  | .laneTrainTimeout m => decide (m < 64)
  | .laneTrainRetry m => decide (m < 64)
  | .laneAdaptDone m snr => decide (m < 64) && decide (snr < 65536)
  | .laneAdaptTimeout m => decide (m < 64)
  | .laneLos m => decide (m < 64)
  | .laneCdrLost m => decide (m < 64)
  | .blockLockAcquired p _ => p.ok
  | .blockLockLost p => p.ok
  | .fabClkLost p => decide (p < 4)
  | .fabSyncAcquired p d => decide (p < 4) && decide (d < 4)
  | .fabSyncLost p d _ => decide (p < 4) && decide (d < 4)
  | .fabAlignSetRx p _ => decide (p < 4)
  | .fabAlignSetSend p => decide (p < 4)
  | .fabCtrlWrite r p v => r.ok && decide (p < 4) && decide (v < 2 ^ 32)
  | .pgCtrlWrite r m v => r.ok && decide (m < 80) && decide (v < 2 ^ 32)
  | .injOnce r m => r.ok && decide (m < 80)
  | .injRateError m => decide (m < 80)
  | .prbsCheckerLock m => decide (m < 80)
  | .prbsLockLost m _ _ => decide (m < 80)
  | .pcsHiErr q _ _ => decide (q < 32)
  | .pcsHiErrClear q _ _ => decide (q < 32)
  | .amLockLost q _ _ => decide (q < 32)
  | .faultReceived q _ _ => decide (q < 32)
  | .otlLaneLocked n _ lane llm _ => decide (n < 8) && decide (lane < 20) && decide (llm < 256)
  | .otlLaneUnlocked n _ lane => decide (n < 8) && decide (lane < 20)
  | .otlDeskew n _ _ _ => decide (n < 8)
  | .otnLof p => p.ok
  | .otnLofClear p => p.ok
  | .otnLom p => p.ok
  | .otnLomClear p => p.ok
  | .otnPsiRx n _ pt msi _ _ => decide (n < 8) && decide (pt < 256) && octets msi
  | .gmpJcRx n _ tpn cm cnd _ => decide (n < 8) && decide (tpn < 80) && decide (cm < 2 ^ 14) && decide (cnd < 2 ^ 14)
  | .tsiDataWrite r k v => r.ok && decide (k < 4) && decide (v < 2 ^ 32)
  | .tsiCopy r k => r.ok && decide (k < 4)
  | .tsiSwapArm r k t => r.ok && decide (k < 4) && decide (t < 2 ^ 64)
  | .tsiGroupSwap k d g => decide (k < 4) && decide (d < 2) && decide (g < 2)
  | .l1DataWrite r k v => r.ok && decide (k < 4) && decide (v < 2 ^ 32)
  | .l1SwitchArm r k t => r.ok && decide (k < 4) && decide (t < 2 ^ 64)
  | .l1MultiframeTx k c payload ecc => decide (k < 4) && decide (c < 160) && octets payload && ecc.all (fun e => decide (e.table < 3) && decide (e.index < 131072))
  | .l1AnnounceRx k c ann => decide (k < 4) && decide (c < 160) && octets ann
  | .l1TagRx k c cipher tag ecc => decide (k < 4) && decide (c < 160) && octets cipher && decide (tag < 2 ^ 128) && ecc.all (fun e => decide (e.table < 3) && decide (e.index < 131072))
  | .pmSecond n _ _ _ _ => decide (n < 8)
  | .pmBinClose n _ => decide (n < 8)
  | .pmSelectWrite r n v => r.ok && decide (n < 8) && decide (v < 2 ^ 32)
  | .hostFrameRx q bytes _ par ecc => decide (q < 32) && octets bytes && par.all (fun i => decide (i < 3407872)) && ecc.all (fun e => decide (e.table < 3) && decide (e.index < 131072))
  | .lineFrameRx q bytes _ par ecc => decide (q < 32) && octets bytes && par.all (fun i => decide (i < 3407872)) && ecc.all (fun e => decide (e.table < 3) && decide (e.index < 131072))
  | .slowPathDone j => decide (j < 8)
  | .inboundChecks q _ _ => decide (q < 32)
  | .verifyTail q => decide (q < 32)
  | .queueAdmission q => decide (q < 32)
  | .frameEligible q => decide (q < 32)
  | .schedulerAnnounce q => decide (q < 32)
  | .detAnnounce q _ => decide (q < 32)
  | .gateEvent q => decide (q < 32)
  | .ruleAddrWrite r j v => r.ok && decide (j < 8) && decide (v < 2 ^ 32)
  | .ruleDataWrite r j v => r.ok && decide (j < 8) && decide (v < 2 ^ 32)
  | .stagingClaimTimeout grp => decide (grp < 65)
  | .lpmInsert r => r.ok
  | .lpmDelete r => r.ok
  | .lpmFind r => r.ok
  | .learnInsertStatic r i => r.ok && decide (i < 4)
  | .learnDelete r i => r.ok && decide (i < 4)
  | .learnFind r i => r.ok && decide (i < 4)
  | .learnFlushAll r i => r.ok && decide (i < 4)
  | .learnFlushPort r i => r.ok && decide (i < 4)
  | .learnFlushSc r i => r.ok && decide (i < 4)
  | .learnFlushDone i => decide (i < 4)
  | .learnFifoRetire i => decide (i < 4)
  | .ageSweep i => decide (i < 4)
  | .slowOverflowRead r j => r.ok && decide (j < 8)
  | .learnFullRead r i => r.ok && decide (i < 4)
  | .scAddrWrite r v => r.ok && decide (v < 2 ^ 32)
  | .scDataWrite r v => r.ok && decide (v < 2 ^ 32)
  | .saAddrWrite r v => r.ok && decide (v < 2 ^ 32)
  | .saDataWrite r v => r.ok && decide (v < 2 ^ 32)
  | .saStage r v => r.ok && decide (v < 2 ^ 32)
  | .saRetire r v => r.ok && decide (v < 2 ^ 32)
  | .keyAddrWrite r v => r.ok && decide (v < 2 ^ 32)
  | .keyDataWrite r v => r.ok && decide (v < 2 ^ 32)
  | .armTickWrite r set t => r.ok && decide (0 < set) && decide (set < 16) && decide (t < 2 ^ 64)
  | .migTickWrite r t => r.ok && decide (t < 2 ^ 64)
  | .resvDropsRead r => r.ok
  | .migrateLateRead r => r.ok
  | .cipherCtrlWrite r q v => r.ok && decide (q < 32) && decide (v < 2 ^ 32)
  | .latClear r q => r.ok && decide (q < 32)
  | .detLateRead r q => r.ok && decide (q < 32)
  | .verifyLastRead r q => r.ok && decide (q < 32)
  | .berylDescWrite r v => r.ok && decide (v < 2 ^ 32)
  | .berylSubmitUrgent r => r.ok
  | .berylSubmitNormal r => r.ok
  | .berylJobStart => true
  | .berylSuspend => true
  | .berylJobDone _ f => f.ok
  | .berylDoneRead r => r.ok
  | .berylAbortNormal r => r.ok
  | .berylAbortUrgent r => r.ok
  | .berylAbortAll r => r.ok
  | .berylKeyregClear r v => r.ok && decide (v < 2 ^ 32)
  | .berylIoDataAccess r a => r.ok && a.ok
  | .berylClearDone => true
  | .jasperClaim r => r.ok
  | .jasperRelease r => r.ok
  | .jasperZeroingDone p => decide (0 < p) && decide (p < 4)
  | .jasperDataAccess r a => r.ok && a.ok
  | .ecdsaSign r v => r.ok && decide (v < 2 ^ 32)
  | .ecdsaVerify r v => r.ok && decide (v < 2 ^ 32)
  | .ecKeygen r v => r.ok && decide (v < 2 ^ 32)
  | .ecdh r v => r.ok && decide (v < 2 ^ 32)
  | .ecValidate r v => r.ok && decide (v < 2 ^ 32)
  | .x25519 r v => r.ok && decide (v < 2 ^ 32)
  | .x25519Keygen r v => r.ok && decide (v < 2 ^ 32)
  | .rsaPublic r v => r.ok && decide (v < 2 ^ 32)
  | .rsaPrivate r v => r.ok && decide (v < 2 ^ 32)
  | .modInv r v => r.ok && decide (v < 2 ^ 32)
  | .curveLoad r v => r.ok && decide (v < 2 ^ 32)
  | .jasperJobStart => true
  | .jasperJobDone _ => true
  | .jasperAbort r => r.ok
  | .jasperResultRead r => r.ok
  | .pufAttemptDone flips => decide (flips.log2 < 65536)
  | .keyDerivationDone => true
  | .pkeyRecordScan => true
  | .epochAdvanceWrite r v => r.ok && decide (v < 2 ^ 32)
  | .epochAdvanceDone => true
  | .plaintextKeyEnWrite r v => r.ok && decide (v < 2 ^ 32)
  | .pkeyStore r => r.ok
  | .pkeyLoad r => r.ok
  | .pkeyErase r => r.ok
  | .pkeyOpDone _ => true
  | .zeroiseCmd r => r.ok
  | .zeroiseCmdWipe r => r.ok
  | .zeroiseClearingDone => true
  | .persistWipeDone => true
  | .monitorFire ds => ds.all (fun d => decide (d.rail < 6))
  | .monitorRearm src => decide (8 ≤ src) && decide (src < 29)
  | .tempSample _ => true
  | .tamperLoopAlarm samples => samples.all (fun e => decide (e.1 < 8) && decide (e.2 < 4))
  | .loopSettled loop => decide (loop < 8)
  | .loopFault loop => decide (loop < 8)
  | .loopArm r loop => r.ok && decide (loop < 8)
  | .loopDisarm r loop => r.ok && decide (loop < 8)
  | .flagClear r v => r.ok && decide (v < 2 ^ 32)
  | .onyxRtcWrite r v => r.ok && decide (v < 2 ^ 64)
  | .rtcSyncTb0 r => r.ok
  | .rtcSyncLoad => true
  | .logAck r v => r.ok && decide (v < 2 ^ 32)
  | .logDataRead r => r.ok
  | .onyxCrystalFail => true
  | .onyxCrystalRestore => true
  | .onyxPowerOn => true
  | .mainPowerChange _ => true
  | .lcToEnrol r => r.ok
  | .lcToOwned r => r.ok
  | .lcToReturned r => r.ok
  | .lcToScrap r => r.ok
  | .lcWindowDone _ => true
  | .lcCleanupDone => true
  | .enrolStart r => r.ok
  | .enrolDone reads _ => reads.all (fun n => decide (n.log2 < 65536))
  | .debugConsentWrite r v => r.ok && decide (v < 2 ^ 32)
  | .dbgRequest r v => r.ok && decide (v < 2 ^ 32)
  | .dbgResponseWrite r v => r.ok && decide (v < 2 ^ 32)
  | .dbgCheckDone => true
  | .dbgChallengeExpire => true
  | .attachHello r => r.ok
  | .attachReplyReady c => decide (c < 4)
  | .attachProof r => r.ok
  | .attachOpen c => decide (c < 4)
  | .attachEnd r => r.ok
  | .attachDataAccess r a => r.ok && a.ok
  | .attachExpire c => decide (c < 4)
  | .attachLockoutEnd c => decide (c < 4)
  | .sessionTimeout c => decide (c < 4)
  | .ownerBindWrite r => r.ok
  | .ownerBindDone _ => true
  | .regionEnable r n v => r.ok && decide (n < 64) && decide (v < 2 ^ 32)
  | .regionDisable r n v => r.ok && decide (n < 64) && decide (v < 2 ^ 32)
  | .regionInitDone n => decide (n < 64)
  | .hbmAddrWrite r v f => r.ok && decide (v < 2 ^ 64) && f.ok
  | .hbmDataWrite r v f => r.ok && decide (v < 2 ^ 32) && f.ok
  | .hbmDataRead r f => r.ok && f.ok
  | .hbmFlush r f => r.ok && f.ok
  | .hbmReadDeliver _ region line f => decide (region < 64) && decide (line < 2 ^ 22) && f.ok
  | .memLateAlarm region level line => decide (region < 64) && decide (level < 7) && decide (line < 2 ^ 22)
  | .memLastRead r => r.ok
  | .masterRefusedRead r => r.ok
  | .flashTransfer bad => decide (bad < 5)
  | .flowDataWrite r k v => r.ok && decide (k < 4) && decide (v < 2 ^ 32)
  | .queueAddrWrite r k v => r.ok && decide (k < 4) && decide (v < 2 ^ 32)
  | .queueDataWrite r k v => r.ok && decide (k < 4) && decide (v < 2 ^ 32)
  | .tailDropsRead r k => r.ok && decide (k < 4)
  | .gateDataWrite r q v => r.ok && decide (q < 32) && decide (v < 2 ^ 32)
  | .gateArm r q => r.ok && decide (q < 32)
  | .gateDisarm r q => r.ok && decide (q < 32)
  | .polAddrWrite r i v => r.ok && decide (i < 4) && decide (v < 2 ^ 32)
  | .polDataWrite r i v => r.ok && decide (i < 4) && decide (v < 2 ^ 32)
  | .tbSet r n v => r.ok && decide (n < 4) && decide (v < 2 ^ 96)
  | .tbStep r n _ => r.ok && decide (n < 4)
  | .tbInvalidate r n => r.ok && decide (n < 4)
  | .servoOffset r n _ => r.ok && decide (n < 4)
  | .forceHoldover r n => r.ok && decide (n < 4)
  | .servoUpdateTimeout n => decide (n < 4)
  | .tbNowRead r n => r.ok && decide (n < 4)
  | .captureCmd r => r.ok
  | .tmrCtrlWrite r n v => r.ok && decide (n < 4) && decide (v < 2 ^ 32)
  | .tbTimerFire n t => decide (n < 4) && decide (t < 4)
  | .ppsPulse => true
  | .txTsDataRead r q => r.ok && decide (q < 32)
  | .txTsLostRead r q => r.ok && decide (q < 32)
  | .saStatDataRead r _ => r.ok
  | .perfSelWrite r n v => r.ok && decide (n < 64) && decide (v < 2 ^ 32)
  | .perfChainWrite r v => r.ok && decide (v < 2 ^ 32)
  | .perfCtrlWrite r v => r.ok && decide (v < 2 ^ 32)
  | .dumpRequest r => r.ok
  | .dumpDataRead r => r.ok
  | .freezeRequest r => r.ok
  | .freezeEngage => true
  | .freezeRelease r => r.ok
  | .freezeTimeout => true
  | .helloSend p => decide (p < 4)
  | .helloRx p m => decide (p < 4) && m.ok
  | .helloTimeout p => decide (p < 4)
  | .linkStateSend => true
  | .linkStateRx p m => decide (p < 4) && m.ok
  | .linkStateAge n => decide (n < 256)
  | .routeRecompute => true
  | .fabMsgRelay p m => decide (p < 4) && m.ok
  | .roleTakeoverRx m => m.ok
  | .roleStaleRx m => m.ok
  | .fabHeartbeatRx p set => decide (p < 4) && octets set
  | .peerHbRx burst => octets burst
  | .heartbeatCheck => true
  | .actLockWatchdog => true
  | .leaseRenewRx m => m.ok
  | .leaseAnswerRx m => m.ok
  | .leaseClaimRx m => m.ok
  | .leaseClaimDecide => true
  | .resvReqRx m => m.ok
  | .resvConfRx m => m.ok
  | .replaySyncSend => true
  | .replaySyncRx m => m.ok
  | .takeoverDone => true
  | .roleCtrlWrite r g v => r.ok && decide (g < 4) && decide (v < 2 ^ 32)
  | .rolePreferActiveTimeout g => decide (g < 4)
  | .roleSwitchArm r g t => r.ok && decide (g < 4) && decide (t < 2 ^ 64)
  | .saMoveCheckRx m => m.ok
  | .moveAnswerRx m => m.ok
  | .saMoveRx m => m.ok
  | .saFinalRx m => m.ok
  | .resetNAssert => true
  | .vcorePowerOn => true
  | .resetCmdDevice r => r.ok
  | .resetCmdController r => r.ok
  | .resetCmdDatapath r => r.ok
  | .controllerWatchdog => true
  | .clockLock _ => true
  | .flashLinkEstablish bad => decide (bad < 5)
  | .pendingZeroiseRun => true
  | .lifecycleRead => true
  | .rootReconstruction => true
  | .firmwareCheck => true
  | .hbmInit _ => true
  | .serdesCalibration badGroups => badGroups.all (fun n => decide (n < 8))
  | .startupComplete => true
  | .fwUpdateA r _ => r.ok
  | .fwUpdateB r _ => r.ok
  | .fwUpdateDone _ _ => true
  | .fwPreferWrite r v => r.ok && decide (v < 2 ^ 32)
  | .fwSvnCommit r v => r.ok && decide (v < 2 ^ 32)
  | .datapathArm r => r.ok
  | .datapathDisarm r => r.ok
  | .disarmDrained => true
  | .holdEnter r => r.ok
  | .holdEntryDone => true
  | .holdExit r => r.ok
  | .holdExitDone => true
  | .resetNRelease => true
  | .clockReturned d => decide (d < 25)
  | .fabClkReturn p => decide (p < 4)
  | .amLockAcquired q _ => decide (q < 32)
  | .multiframeAligned p => p.ok
  | .outOfMultiframe p => p.ok
  | .lpmOpDone => true
  | .datapathResetDone => true

/-- Who makes the access a command is; none for an event of the block's own. -/
def Instr.by : Instr → Option Req
  | .registerWrite r _ _ => some r
  | .kdaRequest _ => none
  | .kdaRead r _ => some r
  | .kdaWrite r _ _ => some r
  | .kdaWindowRead r _ _ => some r
  | .kdaWindowWrite r _ _ => some r
  | .spiWriteRequest _ _ => none
  | .spiReadStatus => none
  | .spiReadReply _ => none
  | .spiChannelReset => none
  | .mgArpRequest _ _ _ _ => none
  | .mgLinkLoss _ => none
  | .chanReset r _ => some r
  | .evtSubscribe r _ => some r
  | .evtUnsubscribe r _ => some r
  | .evtMsgSend _ => none
  | .evtDataRead r => some r
  | .evtDataSRead r => some r
  | .evtLostRead r _ => some r
  | .evtPendingClear r _ _ => some r
  | .chanRejectedRead r _ => some r
  | .chanRxDropsRead r _ => some r
  | .tickBoundary => none
  | .commitPoint => none
  | .graceEnd _ => none
  | .leaseExpiry _ => none
  | .migrationDrainEnd => none
  | .commitReport => none
  | .heartbeatSend => none
  | .reservationSend => none
  | .dumpStart => none
  | .bgJobSuspend _ => none
  | .hbmCounterWriteback => none
  | .shadowCompareStep _ => none
  | .dumpChunk => none
  | .scrubStep _ => none
  | .standbySelftestStep _ => none
  | .tickRealign r _ => some r
  | .syncInEdge _ => none
  | .syncInLost => none
  | .clockLost _ => none
  | .bgOverrunRead r _ => some r
  | .groupLayoutWrite r _ _ => some r
  | .groupModeWrite r _ _ => some r
  | .laneCtrlWrite r _ _ => some r
  | .laneSignalDetect _ => none
  | .laneCdrLock _ => none
  | .laneCdrTimeout _ => none
  | .laneTrainComplete _ _ => none
  | .laneTrainTimeout _ => none
  | .laneTrainRetry _ => none
  | .laneAdaptDone _ _ => none
  | .laneAdaptTimeout _ => none
  | .laneLos _ => none
  | .laneCdrLost _ => none
  | .blockLockAcquired _ _ => none
  | .blockLockLost _ => none
  | .fabClkLost _ => none
  | .fabSyncAcquired _ _ => none
  | .fabSyncLost _ _ _ => none
  | .fabAlignSetRx _ _ => none
  | .fabAlignSetSend _ => none
  | .fabCtrlWrite r _ _ => some r
  | .pgCtrlWrite r _ _ => some r
  | .injOnce r _ => some r
  | .injRateError _ => none
  | .prbsCheckerLock _ => none
  | .prbsLockLost _ _ _ => none
  | .pcsHiErr _ _ _ => none
  | .pcsHiErrClear _ _ _ => none
  | .amLockLost _ _ _ => none
  | .faultReceived _ _ _ => none
  | .otlLaneLocked _ _ _ _ _ => none
  | .otlLaneUnlocked _ _ _ => none
  | .otlDeskew _ _ _ _ => none
  | .otnLof _ => none
  | .otnLofClear _ => none
  | .otnLom _ => none
  | .otnLomClear _ => none
  | .otnPsiRx _ _ _ _ _ _ => none
  | .gmpJcRx _ _ _ _ _ _ => none
  | .tsiDataWrite r _ _ => some r
  | .tsiCopy r _ => some r
  | .tsiSwapArm r _ _ => some r
  | .tsiGroupSwap _ _ _ => none
  | .l1DataWrite r _ _ => some r
  | .l1SwitchArm r _ _ => some r
  | .l1MultiframeTx _ _ _ _ => none
  | .l1AnnounceRx _ _ _ => none
  | .l1TagRx _ _ _ _ _ => none
  | .pmSecond _ _ _ _ _ => none
  | .pmBinClose _ _ => none
  | .pmSelectWrite r _ _ => some r
  | .hostFrameRx _ _ _ _ _ => none
  | .lineFrameRx _ _ _ _ _ => none
  | .slowPathDone _ => none
  | .inboundChecks _ _ _ => none
  | .verifyTail _ => none
  | .queueAdmission _ => none
  | .frameEligible _ => none
  | .schedulerAnnounce _ => none
  | .detAnnounce _ _ => none
  | .gateEvent _ => none
  | .ruleAddrWrite r _ _ => some r
  | .ruleDataWrite r _ _ => some r
  | .stagingClaimTimeout _ => none
  | .lpmInsert r => some r
  | .lpmDelete r => some r
  | .lpmFind r => some r
  | .learnInsertStatic r _ => some r
  | .learnDelete r _ => some r
  | .learnFind r _ => some r
  | .learnFlushAll r _ => some r
  | .learnFlushPort r _ => some r
  | .learnFlushSc r _ => some r
  | .learnFlushDone _ => none
  | .learnFifoRetire _ => none
  | .ageSweep _ => none
  | .slowOverflowRead r _ => some r
  | .learnFullRead r _ => some r
  | .scAddrWrite r _ => some r
  | .scDataWrite r _ => some r
  | .saAddrWrite r _ => some r
  | .saDataWrite r _ => some r
  | .saStage r _ => some r
  | .saRetire r _ => some r
  | .keyAddrWrite r _ => some r
  | .keyDataWrite r _ => some r
  | .armTickWrite r _ _ => some r
  | .migTickWrite r _ => some r
  | .resvDropsRead r => some r
  | .migrateLateRead r => some r
  | .cipherCtrlWrite r _ _ => some r
  | .latClear r _ => some r
  | .detLateRead r _ => some r
  | .verifyLastRead r _ => some r
  | .berylDescWrite r _ => some r
  | .berylSubmitUrgent r => some r
  | .berylSubmitNormal r => some r
  | .berylJobStart => none
  | .berylSuspend => none
  | .berylJobDone _ _ => none
  | .berylDoneRead r => some r
  | .berylAbortNormal r => some r
  | .berylAbortUrgent r => some r
  | .berylAbortAll r => some r
  | .berylKeyregClear r _ => some r
  | .berylIoDataAccess r _ => some r
  | .berylClearDone => none
  | .jasperClaim r => some r
  | .jasperRelease r => some r
  | .jasperZeroingDone _ => none
  | .jasperDataAccess r _ => some r
  | .ecdsaSign r _ => some r
  | .ecdsaVerify r _ => some r
  | .ecKeygen r _ => some r
  | .ecdh r _ => some r
  | .ecValidate r _ => some r
  | .x25519 r _ => some r
  | .x25519Keygen r _ => some r
  | .rsaPublic r _ => some r
  | .rsaPrivate r _ => some r
  | .modInv r _ => some r
  | .curveLoad r _ => some r
  | .jasperJobStart => none
  | .jasperJobDone _ => none
  | .jasperAbort r => some r
  | .jasperResultRead r => some r
  | .pufAttemptDone _ => none
  | .keyDerivationDone => none
  | .pkeyRecordScan => none
  | .epochAdvanceWrite r _ => some r
  | .epochAdvanceDone => none
  | .plaintextKeyEnWrite r _ => some r
  | .pkeyStore r => some r
  | .pkeyLoad r => some r
  | .pkeyErase r => some r
  | .pkeyOpDone _ => none
  | .zeroiseCmd r => some r
  | .zeroiseCmdWipe r => some r
  | .zeroiseClearingDone => none
  | .persistWipeDone => none
  | .monitorFire _ => none
  | .monitorRearm _ => none
  | .tempSample _ => none
  | .tamperLoopAlarm _ => none
  | .loopSettled _ => none
  | .loopFault _ => none
  | .loopArm r _ => some r
  | .loopDisarm r _ => some r
  | .flagClear r _ => some r
  | .onyxRtcWrite r _ => some r
  | .rtcSyncTb0 r => some r
  | .rtcSyncLoad => none
  | .logAck r _ => some r
  | .logDataRead r => some r
  | .onyxCrystalFail => none
  | .onyxCrystalRestore => none
  | .onyxPowerOn => none
  | .mainPowerChange _ => none
  | .lcToEnrol r => some r
  | .lcToOwned r => some r
  | .lcToReturned r => some r
  | .lcToScrap r => some r
  | .lcWindowDone _ => none
  | .lcCleanupDone => none
  | .enrolStart r => some r
  | .enrolDone _ _ => none
  | .debugConsentWrite r _ => some r
  | .dbgRequest r _ => some r
  | .dbgResponseWrite r _ => some r
  | .dbgCheckDone => none
  | .dbgChallengeExpire => none
  | .attachHello r => some r
  | .attachReplyReady _ => none
  | .attachProof r => some r
  | .attachOpen _ => none
  | .attachEnd r => some r
  | .attachDataAccess r _ => some r
  | .attachExpire _ => none
  | .attachLockoutEnd _ => none
  | .sessionTimeout _ => none
  | .ownerBindWrite r => some r
  | .ownerBindDone _ => none
  | .regionEnable r _ _ => some r
  | .regionDisable r _ _ => some r
  | .regionInitDone _ => none
  | .hbmAddrWrite r _ _ => some r
  | .hbmDataWrite r _ _ => some r
  | .hbmDataRead r _ => some r
  | .hbmFlush r _ => some r
  | .hbmReadDeliver _ _ _ _ => none
  | .memLateAlarm _ _ _ => none
  | .memLastRead r => some r
  | .masterRefusedRead r => some r
  | .flashTransfer _ => none
  | .flowDataWrite r _ _ => some r
  | .queueAddrWrite r _ _ => some r
  | .queueDataWrite r _ _ => some r
  | .tailDropsRead r _ => some r
  | .gateDataWrite r _ _ => some r
  | .gateArm r _ => some r
  | .gateDisarm r _ => some r
  | .polAddrWrite r _ _ => some r
  | .polDataWrite r _ _ => some r
  | .tbSet r _ _ => some r
  | .tbStep r _ _ => some r
  | .tbInvalidate r _ => some r
  | .servoOffset r _ _ => some r
  | .forceHoldover r _ => some r
  | .servoUpdateTimeout _ => none
  | .tbNowRead r _ => some r
  | .captureCmd r => some r
  | .tmrCtrlWrite r _ _ => some r
  | .tbTimerFire _ _ => none
  | .ppsPulse => none
  | .txTsDataRead r _ => some r
  | .txTsLostRead r _ => some r
  | .saStatDataRead r _ => some r
  | .perfSelWrite r _ _ => some r
  | .perfChainWrite r _ => some r
  | .perfCtrlWrite r _ => some r
  | .dumpRequest r => some r
  | .dumpDataRead r => some r
  | .freezeRequest r => some r
  | .freezeEngage => none
  | .freezeRelease r => some r
  | .freezeTimeout => none
  | .helloSend _ => none
  | .helloRx _ _ => none
  | .helloTimeout _ => none
  | .linkStateSend => none
  | .linkStateRx _ _ => none
  | .linkStateAge _ => none
  | .routeRecompute => none
  | .fabMsgRelay _ _ => none
  | .roleTakeoverRx _ => none
  | .roleStaleRx _ => none
  | .fabHeartbeatRx _ _ => none
  | .peerHbRx _ => none
  | .heartbeatCheck => none
  | .actLockWatchdog => none
  | .leaseRenewRx _ => none
  | .leaseAnswerRx _ => none
  | .leaseClaimRx _ => none
  | .leaseClaimDecide => none
  | .resvReqRx _ => none
  | .resvConfRx _ => none
  | .replaySyncSend => none
  | .replaySyncRx _ => none
  | .takeoverDone => none
  | .roleCtrlWrite r _ _ => some r
  | .rolePreferActiveTimeout _ => none
  | .roleSwitchArm r _ _ => some r
  | .saMoveCheckRx _ => none
  | .moveAnswerRx _ => none
  | .saMoveRx _ => none
  | .saFinalRx _ => none
  | .resetNAssert => none
  | .vcorePowerOn => none
  | .resetCmdDevice r => some r
  | .resetCmdController r => some r
  | .resetCmdDatapath r => some r
  | .controllerWatchdog => none
  | .clockLock _ => none
  | .flashLinkEstablish _ => none
  | .pendingZeroiseRun => none
  | .lifecycleRead => none
  | .rootReconstruction => none
  | .firmwareCheck => none
  | .hbmInit _ => none
  | .serdesCalibration _ => none
  | .startupComplete => none
  | .fwUpdateA r _ => some r
  | .fwUpdateB r _ => some r
  | .fwUpdateDone _ _ => none
  | .fwPreferWrite r _ => some r
  | .fwSvnCommit r _ => some r
  | .datapathArm r => some r
  | .datapathDisarm r => some r
  | .disarmDrained => none
  | .holdEnter r => some r
  | .holdEntryDone => none
  | .holdExit r => some r
  | .holdExitDone => none
  | .resetNRelease => none
  | .clockReturned _ => none
  | .fabClkReturn _ => none
  | .amLockAcquired _ _ => none
  | .multiframeAligned _ => none
  | .outOfMultiframe _ => none
  | .lpmOpDone => none
  | .datapathResetDone => none

end Sys2Proof
end

