-- ==== Sys2Proof/Laws/PerInstr.lean ====
section
/-! SUPPORT. Families of statements made command by command. -/

namespace Sys2Proof.Laws.Requester

/-- A well-formed command that a requester makes names one of the five channels. -/
def Statement (i : Instr) : Prop := i.wf = true → ∀ r, i.by = some r → r.ch < 5

theorem left {a b : Bool} (h : (a && b) = true) : a = true := (Bool.and_eq_true_iff.mp h).1
theorem of_ok {r x : Req} (h : r.ok = true) (e : some r = some x) : x.ch < 5 := by cases e; exact of_decide_eq_true h

theorem registerWrite (r : Req) (key : Nat) (v : Nat) : Statement (.registerWrite r key v) := fun h _ e => of_ok (left (left h)) e
theorem kdaRequest (a : KdaIn) : Statement (.kdaRequest a) := fun _ _ e => nomatch e
theorem kdaRead (r : Req) (key : Nat) : Statement (.kdaRead r key) := fun h _ e => of_ok (left h) e
theorem kdaWrite (r : Req) (key : Nat) (ws : List Nat) : Statement (.kdaWrite r key ws) := fun h _ e => of_ok (left (left h)) e
theorem kdaWindowRead (r : Req) (key : Nat) (n : Nat) : Statement (.kdaWindowRead r key n) := fun h _ e => of_ok (left (left h)) e
theorem kdaWindowWrite (r : Req) (key : Nat) (ws : List Nat) : Statement (.kdaWindowWrite r key ws) := fun h _ e => of_ok (left (left h)) e
theorem spiWriteRequest (ws : List Nat) (whole : Bool) : Statement (.spiWriteRequest ws whole) := fun _ _ e => nomatch e
theorem spiReadStatus : Statement (.spiReadStatus) := fun _ _ e => nomatch e
theorem spiReadReply (n : Nat) : Statement (.spiReadReply n) := fun _ _ e => nomatch e
theorem spiChannelReset : Statement (.spiChannelReset) := fun _ _ e => nomatch e
theorem mgArpRequest (c : Nat) (v6 : Bool) (target : Nat) (asker : Nat) : Statement (.mgArpRequest c v6 target asker) := fun _ _ e => nomatch e
theorem mgLinkLoss (c : Nat) : Statement (.mgLinkLoss c) := fun _ _ e => nomatch e
theorem chanReset (r : Req) (c : Nat) : Statement (.chanReset r c) := fun h _ e => of_ok (left h) e
theorem evtSubscribe (r : Req) (c : Nat) : Statement (.evtSubscribe r c) := fun h _ e => of_ok (left h) e
theorem evtUnsubscribe (r : Req) (c : Nat) : Statement (.evtUnsubscribe r c) := fun h _ e => of_ok (left h) e
theorem evtMsgSend (c : Nat) : Statement (.evtMsgSend c) := fun _ _ e => nomatch e
theorem evtDataRead (r : Req) : Statement (.evtDataRead r) := fun h _ e => of_ok h e
theorem evtDataSRead (r : Req) : Statement (.evtDataSRead r) := fun h _ e => of_ok h e
theorem evtLostRead (r : Req) (sec : Bool) : Statement (.evtLostRead r sec) := fun h _ e => of_ok h e
theorem evtPendingClear (r : Req) (w : Nat) (v : Nat) : Statement (.evtPendingClear r w v) := fun h _ e => of_ok (left (left h)) e
theorem chanRejectedRead (r : Req) (c : Nat) : Statement (.chanRejectedRead r c) := fun h _ e => of_ok (left h) e
theorem chanRxDropsRead (r : Req) (c : Nat) : Statement (.chanRxDropsRead r c) := fun h _ e => of_ok (left (left h)) e
theorem tickBoundary : Statement (.tickBoundary) := fun _ _ e => nomatch e
theorem commitPoint : Statement (.commitPoint) := fun _ _ e => nomatch e
theorem graceEnd (h : Nat) : Statement (.graceEnd h) := fun _ _ e => nomatch e
theorem leaseExpiry (g : Nat) : Statement (.leaseExpiry g) := fun _ _ e => nomatch e
theorem migrationDrainEnd : Statement (.migrationDrainEnd) := fun _ _ e => nomatch e
theorem commitReport : Statement (.commitReport) := fun _ _ e => nomatch e
theorem heartbeatSend : Statement (.heartbeatSend) := fun _ _ e => nomatch e
theorem reservationSend : Statement (.reservationSend) := fun _ _ e => nomatch e
theorem dumpStart : Statement (.dumpStart) := fun _ _ e => nomatch e
theorem bgJobSuspend (job : Nat) : Statement (.bgJobSuspend job) := fun _ _ e => nomatch e
theorem hbmCounterWriteback : Statement (.hbmCounterWriteback) := fun _ _ e => nomatch e
theorem shadowCompareStep (suspect : List Nat) : Statement (.shadowCompareStep suspect) := fun _ _ e => nomatch e
theorem dumpChunk : Statement (.dumpChunk) := fun _ _ e => nomatch e
theorem scrubStep (hits : List EccHit) : Statement (.scrubStep hits) := fun _ _ e => nomatch e
theorem standbySelftestStep (sliceOk : Bool) : Statement (.standbySelftestStep sliceOk) := fun _ _ e => nomatch e
theorem tickRealign (r : Req) (v : Nat) : Statement (.tickRealign r v) := fun h _ e => of_ok (left h) e
theorem syncInEdge (ps : Nat) : Statement (.syncInEdge ps) := fun _ _ e => nomatch e
theorem syncInLost : Statement (.syncInLost) := fun _ _ e => nomatch e
theorem clockLost (d : Nat) : Statement (.clockLost d) := fun _ _ e => nomatch e
theorem bgOverrunRead (r : Req) (job : Nat) : Statement (.bgOverrunRead r job) := fun h _ e => of_ok (left (left h)) e
theorem groupLayoutWrite (r : Req) (n : Nat) (v : Nat) : Statement (.groupLayoutWrite r n v) := fun h _ e => of_ok (left (left h)) e
theorem groupModeWrite (r : Req) (n : Nat) (v : Nat) : Statement (.groupModeWrite r n v) := fun h _ e => of_ok (left (left h)) e
theorem laneCtrlWrite (r : Req) (m : Nat) (v : Nat) : Statement (.laneCtrlWrite r m v) := fun h _ e => of_ok (left (left h)) e
theorem laneSignalDetect (m : Nat) : Statement (.laneSignalDetect m) := fun _ _ e => nomatch e
theorem laneCdrLock (m : Nat) : Statement (.laneCdrLock m) := fun _ _ e => nomatch e
theorem laneCdrTimeout (m : Nat) : Statement (.laneCdrTimeout m) := fun _ _ e => nomatch e
theorem laneTrainComplete (m : Nat) (taps : Nat) : Statement (.laneTrainComplete m taps) := fun _ _ e => nomatch e
theorem laneTrainTimeout (m : Nat) : Statement (.laneTrainTimeout m) := fun _ _ e => nomatch e
theorem laneTrainRetry (m : Nat) : Statement (.laneTrainRetry m) := fun _ _ e => nomatch e
theorem laneAdaptDone (m : Nat) (snr : Nat) : Statement (.laneAdaptDone m snr) := fun _ _ e => nomatch e
theorem laneAdaptTimeout (m : Nat) : Statement (.laneAdaptTimeout m) := fun _ _ e => nomatch e
theorem laneLos (m : Nat) : Statement (.laneLos m) := fun _ _ e => nomatch e
theorem laneCdrLost (m : Nat) : Statement (.laneCdrLost m) := fun _ _ e => nomatch e
theorem blockLockAcquired (p : LockPlace) (slips : Nat) : Statement (.blockLockAcquired p slips) := fun _ _ e => nomatch e
theorem blockLockLost (p : LockPlace) : Statement (.blockLockLost p) := fun _ _ e => nomatch e
theorem fabClkLost (p : Nat) : Statement (.fabClkLost p) := fun _ _ e => nomatch e
theorem fabSyncAcquired (p : Nat) (d : Nat) : Statement (.fabSyncAcquired p d) := fun _ _ e => nomatch e
theorem fabSyncLost (p : Nat) (d : Nat) (errs : Nat) : Statement (.fabSyncLost p d errs) := fun _ _ e => nomatch e
theorem fabAlignSetRx (p : Nat) (skew : Nat) : Statement (.fabAlignSetRx p skew) := fun _ _ e => nomatch e
theorem fabAlignSetSend (p : Nat) : Statement (.fabAlignSetSend p) := fun _ _ e => nomatch e
theorem fabCtrlWrite (r : Req) (p : Nat) (v : Nat) : Statement (.fabCtrlWrite r p v) := fun h _ e => of_ok (left (left h)) e
theorem pgCtrlWrite (r : Req) (m : Nat) (v : Nat) : Statement (.pgCtrlWrite r m v) := fun h _ e => of_ok (left (left h)) e
theorem injOnce (r : Req) (m : Nat) : Statement (.injOnce r m) := fun h _ e => of_ok (left h) e
theorem injRateError (m : Nat) : Statement (.injRateError m) := fun _ _ e => nomatch e
theorem prbsCheckerLock (m : Nat) : Statement (.prbsCheckerLock m) := fun _ _ e => nomatch e
theorem prbsLockLost (m : Nat) (bits : Nat) (errs : Nat) : Statement (.prbsLockLost m bits errs) := fun _ _ e => nomatch e
theorem pcsHiErr (q : Nat) (sd : Side) (o : FecObs) : Statement (.pcsHiErr q sd o) := fun _ _ e => nomatch e
theorem pcsHiErrClear (q : Nat) (sd : Side) (o : FecObs) : Statement (.pcsHiErrClear q sd o) := fun _ _ e => nomatch e
theorem amLockLost (q : Nat) (sd : Side) (o : FecObs) : Statement (.amLockLost q sd o) := fun _ _ e => nomatch e
theorem faultReceived (q : Nat) (sd : Side) (f : FaultSig) : Statement (.faultReceived q sd f) := fun _ _ e => nomatch e
theorem otlLaneLocked (n : Nat) (sd : Side) (lane : Nat) (llm : Nat) (rejects : Nat) : Statement (.otlLaneLocked n sd lane llm rejects) := fun _ _ e => nomatch e
theorem otlLaneUnlocked (n : Nat) (sd : Side) (lane : Nat) : Statement (.otlLaneUnlocked n sd lane) := fun _ _ e => nomatch e
theorem otlDeskew (n : Nat) (sd : Side) (skew : Nat) (late : Nat) : Statement (.otlDeskew n sd skew late) := fun _ _ e => nomatch e
theorem otnLof (p : OtnPoint) : Statement (.otnLof p) := fun _ _ e => nomatch e
theorem otnLofClear (p : OtnPoint) : Statement (.otnLofClear p) := fun _ _ e => nomatch e
theorem otnLom (p : OtnPoint) : Statement (.otnLom p) := fun _ _ e => nomatch e
theorem otnLomClear (p : OtnPoint) : Statement (.otnLomClear p) := fun _ _ e => nomatch e
theorem otnPsiRx (n : Nat) (sd : Side) (pt : Nat) (msi : List Nat) (ais : Bool) (bdi : Bool) : Statement (.otnPsiRx n sd pt msi ais bdi) := fun _ _ e => nomatch e
theorem gmpJcRx (n : Nat) (sd : Side) (tpn : Nat) (cm : Nat) (cnd : Nat) (crcOk : Bool) : Statement (.gmpJcRx n sd tpn cm cnd crcOk) := fun _ _ e => nomatch e
theorem tsiDataWrite (r : Req) (k : Nat) (v : Nat) : Statement (.tsiDataWrite r k v) := fun h _ e => of_ok (left (left h)) e
theorem tsiCopy (r : Req) (k : Nat) : Statement (.tsiCopy r k) := fun h _ e => of_ok (left h) e
theorem tsiSwapArm (r : Req) (k : Nat) (t : Nat) : Statement (.tsiSwapArm r k t) := fun h _ e => of_ok (left (left h)) e
theorem tsiGroupSwap (k : Nat) (d : Nat) (g : Nat) : Statement (.tsiGroupSwap k d g) := fun _ _ e => nomatch e
theorem l1DataWrite (r : Req) (k : Nat) (v : Nat) : Statement (.l1DataWrite r k v) := fun h _ e => of_ok (left (left h)) e
theorem l1SwitchArm (r : Req) (k : Nat) (t : Nat) : Statement (.l1SwitchArm r k t) := fun h _ e => of_ok (left (left h)) e
theorem l1MultiframeTx (k : Nat) (c : Nat) (payload : List Nat) (ecc : List EccHit) : Statement (.l1MultiframeTx k c payload ecc) := fun _ _ e => nomatch e
theorem l1AnnounceRx (k : Nat) (c : Nat) (ann : List Nat) : Statement (.l1AnnounceRx k c ann) := fun _ _ e => nomatch e
theorem l1TagRx (k : Nat) (c : Nat) (cipher : List Nat) (tag : Nat) (ecc : List EccHit) : Statement (.l1TagRx k c cipher tag ecc) := fun _ _ e => nomatch e
theorem pmSecond (n : Nat) (near : PmObs) (far : PmObs) (line : FecObs) (host : FecObs) : Statement (.pmSecond n near far line host) := fun _ _ e => nomatch e
theorem pmBinClose (n : Nat) (day : Bool) : Statement (.pmBinClose n day) := fun _ _ e => nomatch e
theorem pmSelectWrite (r : Req) (n : Nat) (v : Nat) : Statement (.pmSelectWrite r n v) := fun h _ e => of_ok (left (left h)) e
theorem hostFrameRx (q : Nat) (bytes : List Nat) (fcsOk : Bool) (par : List Nat) (ecc : List EccHit) : Statement (.hostFrameRx q bytes fcsOk par ecc) := fun _ _ e => nomatch e
theorem lineFrameRx (q : Nat) (bytes : List Nat) (fcsOk : Bool) (par : List Nat) (ecc : List EccHit) : Statement (.lineFrameRx q bytes fcsOk par ecc) := fun _ _ e => nomatch e
theorem slowPathDone (j : Nat) : Statement (.slowPathDone j) := fun _ _ e => nomatch e
theorem inboundChecks (q : Nat) (granted : Bool) (am : Bool) : Statement (.inboundChecks q granted am) := fun _ _ e => nomatch e
theorem verifyTail (q : Nat) : Statement (.verifyTail q) := fun _ _ e => nomatch e
theorem queueAdmission (q : Nat) : Statement (.queueAdmission q) := fun _ _ e => nomatch e
theorem frameEligible (q : Nat) : Statement (.frameEligible q) := fun _ _ e => nomatch e
theorem schedulerAnnounce (q : Nat) : Statement (.schedulerAnnounce q) := fun _ _ e => nomatch e
theorem detAnnounce (q : Nat) (am : Bool) : Statement (.detAnnounce q am) := fun _ _ e => nomatch e
theorem gateEvent (q : Nat) : Statement (.gateEvent q) := fun _ _ e => nomatch e
theorem ruleAddrWrite (r : Req) (j : Nat) (v : Nat) : Statement (.ruleAddrWrite r j v) := fun h _ e => of_ok (left (left h)) e
theorem ruleDataWrite (r : Req) (j : Nat) (v : Nat) : Statement (.ruleDataWrite r j v) := fun h _ e => of_ok (left (left h)) e
theorem stagingClaimTimeout (grp : Nat) : Statement (.stagingClaimTimeout grp) := fun _ _ e => nomatch e
theorem lpmInsert (r : Req) : Statement (.lpmInsert r) := fun h _ e => of_ok h e
theorem lpmDelete (r : Req) : Statement (.lpmDelete r) := fun h _ e => of_ok h e
theorem lpmFind (r : Req) : Statement (.lpmFind r) := fun h _ e => of_ok h e
theorem learnInsertStatic (r : Req) (i : Nat) : Statement (.learnInsertStatic r i) := fun h _ e => of_ok (left h) e
theorem learnDelete (r : Req) (i : Nat) : Statement (.learnDelete r i) := fun h _ e => of_ok (left h) e
theorem learnFind (r : Req) (i : Nat) : Statement (.learnFind r i) := fun h _ e => of_ok (left h) e
theorem learnFlushAll (r : Req) (i : Nat) : Statement (.learnFlushAll r i) := fun h _ e => of_ok (left h) e
theorem learnFlushPort (r : Req) (i : Nat) : Statement (.learnFlushPort r i) := fun h _ e => of_ok (left h) e
theorem learnFlushSc (r : Req) (i : Nat) : Statement (.learnFlushSc r i) := fun h _ e => of_ok (left h) e
theorem learnFlushDone (i : Nat) : Statement (.learnFlushDone i) := fun _ _ e => nomatch e
theorem learnFifoRetire (i : Nat) : Statement (.learnFifoRetire i) := fun _ _ e => nomatch e
theorem ageSweep (i : Nat) : Statement (.ageSweep i) := fun _ _ e => nomatch e
theorem slowOverflowRead (r : Req) (j : Nat) : Statement (.slowOverflowRead r j) := fun h _ e => of_ok (left h) e
theorem learnFullRead (r : Req) (i : Nat) : Statement (.learnFullRead r i) := fun h _ e => of_ok (left h) e
theorem scAddrWrite (r : Req) (v : Nat) : Statement (.scAddrWrite r v) := fun h _ e => of_ok (left h) e
theorem scDataWrite (r : Req) (v : Nat) : Statement (.scDataWrite r v) := fun h _ e => of_ok (left h) e
theorem saAddrWrite (r : Req) (v : Nat) : Statement (.saAddrWrite r v) := fun h _ e => of_ok (left h) e
theorem saDataWrite (r : Req) (v : Nat) : Statement (.saDataWrite r v) := fun h _ e => of_ok (left h) e
theorem saStage (r : Req) (v : Nat) : Statement (.saStage r v) := fun h _ e => of_ok (left h) e
theorem saRetire (r : Req) (v : Nat) : Statement (.saRetire r v) := fun h _ e => of_ok (left h) e
theorem keyAddrWrite (r : Req) (v : Nat) : Statement (.keyAddrWrite r v) := fun h _ e => of_ok (left h) e
theorem keyDataWrite (r : Req) (v : Nat) : Statement (.keyDataWrite r v) := fun h _ e => of_ok (left h) e
theorem armTickWrite (r : Req) (set : Nat) (t : Nat) : Statement (.armTickWrite r set t) := fun h _ e => of_ok (left (left (left h))) e
theorem migTickWrite (r : Req) (t : Nat) : Statement (.migTickWrite r t) := fun h _ e => of_ok (left h) e
theorem resvDropsRead (r : Req) : Statement (.resvDropsRead r) := fun h _ e => of_ok h e
theorem migrateLateRead (r : Req) : Statement (.migrateLateRead r) := fun h _ e => of_ok h e
theorem cipherCtrlWrite (r : Req) (q : Nat) (v : Nat) : Statement (.cipherCtrlWrite r q v) := fun h _ e => of_ok (left (left h)) e
theorem latClear (r : Req) (q : Nat) : Statement (.latClear r q) := fun h _ e => of_ok (left h) e
theorem detLateRead (r : Req) (q : Nat) : Statement (.detLateRead r q) := fun h _ e => of_ok (left h) e
theorem verifyLastRead (r : Req) (q : Nat) : Statement (.verifyLastRead r q) := fun h _ e => of_ok (left h) e
theorem berylDescWrite (r : Req) (v : Nat) : Statement (.berylDescWrite r v) := fun h _ e => of_ok (left h) e
theorem berylSubmitUrgent (r : Req) : Statement (.berylSubmitUrgent r) := fun h _ e => of_ok h e
theorem berylSubmitNormal (r : Req) : Statement (.berylSubmitNormal r) := fun h _ e => of_ok h e
theorem berylJobStart : Statement (.berylJobStart) := fun _ _ e => nomatch e
theorem berylSuspend : Statement (.berylSuspend) := fun _ _ e => nomatch e
theorem berylJobDone (srcSuspect : Bool) (f : MemFault) : Statement (.berylJobDone srcSuspect f) := fun _ _ e => nomatch e
theorem berylDoneRead (r : Req) : Statement (.berylDoneRead r) := fun h _ e => of_ok h e
theorem berylAbortNormal (r : Req) : Statement (.berylAbortNormal r) := fun h _ e => of_ok h e
theorem berylAbortUrgent (r : Req) : Statement (.berylAbortUrgent r) := fun h _ e => of_ok h e
theorem berylAbortAll (r : Req) : Statement (.berylAbortAll r) := fun h _ e => of_ok h e
theorem berylKeyregClear (r : Req) (v : Nat) : Statement (.berylKeyregClear r v) := fun h _ e => of_ok (left h) e
theorem berylIoDataAccess (r : Req) (a : Acc) : Statement (.berylIoDataAccess r a) := fun h _ e => of_ok (left h) e
theorem berylClearDone : Statement (.berylClearDone) := fun _ _ e => nomatch e
theorem jasperClaim (r : Req) : Statement (.jasperClaim r) := fun h _ e => of_ok h e
theorem jasperRelease (r : Req) : Statement (.jasperRelease r) := fun h _ e => of_ok h e
theorem jasperZeroingDone (p : Nat) : Statement (.jasperZeroingDone p) := fun _ _ e => nomatch e
theorem jasperDataAccess (r : Req) (a : Acc) : Statement (.jasperDataAccess r a) := fun h _ e => of_ok (left h) e
theorem ecdsaSign (r : Req) (v : Nat) : Statement (.ecdsaSign r v) := fun h _ e => of_ok (left h) e
theorem ecdsaVerify (r : Req) (v : Nat) : Statement (.ecdsaVerify r v) := fun h _ e => of_ok (left h) e
theorem ecKeygen (r : Req) (v : Nat) : Statement (.ecKeygen r v) := fun h _ e => of_ok (left h) e
theorem ecdh (r : Req) (v : Nat) : Statement (.ecdh r v) := fun h _ e => of_ok (left h) e
theorem ecValidate (r : Req) (v : Nat) : Statement (.ecValidate r v) := fun h _ e => of_ok (left h) e
theorem x25519 (r : Req) (v : Nat) : Statement (.x25519 r v) := fun h _ e => of_ok (left h) e
theorem x25519Keygen (r : Req) (v : Nat) : Statement (.x25519Keygen r v) := fun h _ e => of_ok (left h) e
theorem rsaPublic (r : Req) (v : Nat) : Statement (.rsaPublic r v) := fun h _ e => of_ok (left h) e
theorem rsaPrivate (r : Req) (v : Nat) : Statement (.rsaPrivate r v) := fun h _ e => of_ok (left h) e
theorem modInv (r : Req) (v : Nat) : Statement (.modInv r v) := fun h _ e => of_ok (left h) e
theorem curveLoad (r : Req) (v : Nat) : Statement (.curveLoad r v) := fun h _ e => of_ok (left h) e
theorem jasperJobStart : Statement (.jasperJobStart) := fun _ _ e => nomatch e
theorem jasperJobDone (selfCheckOk : Bool) : Statement (.jasperJobDone selfCheckOk) := fun _ _ e => nomatch e
theorem jasperAbort (r : Req) : Statement (.jasperAbort r) := fun h _ e => of_ok h e
theorem jasperResultRead (r : Req) : Statement (.jasperResultRead r) := fun h _ e => of_ok h e
theorem pufAttemptDone (flips : Nat) : Statement (.pufAttemptDone flips) := fun _ _ e => nomatch e
theorem keyDerivationDone : Statement (.keyDerivationDone) := fun _ _ e => nomatch e
theorem pkeyRecordScan : Statement (.pkeyRecordScan) := fun _ _ e => nomatch e
theorem epochAdvanceWrite (r : Req) (v : Nat) : Statement (.epochAdvanceWrite r v) := fun h _ e => of_ok (left h) e
theorem epochAdvanceDone : Statement (.epochAdvanceDone) := fun _ _ e => nomatch e
theorem plaintextKeyEnWrite (r : Req) (v : Nat) : Statement (.plaintextKeyEnWrite r v) := fun h _ e => of_ok (left h) e
theorem pkeyStore (r : Req) : Statement (.pkeyStore r) := fun h _ e => of_ok h e
theorem pkeyLoad (r : Req) : Statement (.pkeyLoad r) := fun h _ e => of_ok h e
theorem pkeyErase (r : Req) : Statement (.pkeyErase r) := fun h _ e => of_ok h e
theorem pkeyOpDone (flashOk : Bool) : Statement (.pkeyOpDone flashOk) := fun _ _ e => nomatch e
theorem zeroiseCmd (r : Req) : Statement (.zeroiseCmd r) := fun h _ e => of_ok h e
theorem zeroiseCmdWipe (r : Req) : Statement (.zeroiseCmdWipe r) := fun h _ e => of_ok h e
theorem zeroiseClearingDone : Statement (.zeroiseClearingDone) := fun _ _ e => nomatch e
theorem persistWipeDone : Statement (.persistWipeDone) := fun _ _ e => nomatch e
theorem monitorFire (ds : List RailDev) : Statement (.monitorFire ds) := fun _ _ e => nomatch e
theorem monitorRearm (src : Nat) : Statement (.monitorRearm src) := fun _ _ e => nomatch e
theorem tempSample (dc : Int) : Statement (.tempSample dc) := fun _ _ e => nomatch e
theorem tamperLoopAlarm (samples : List (Nat × Nat)) : Statement (.tamperLoopAlarm samples) := fun _ _ e => nomatch e
theorem loopSettled (loop : Nat) : Statement (.loopSettled loop) := fun _ _ e => nomatch e
theorem loopFault (loop : Nat) : Statement (.loopFault loop) := fun _ _ e => nomatch e
theorem loopArm (r : Req) (loop : Nat) : Statement (.loopArm r loop) := fun h _ e => of_ok (left h) e
theorem loopDisarm (r : Req) (loop : Nat) : Statement (.loopDisarm r loop) := fun h _ e => of_ok (left h) e
theorem flagClear (r : Req) (v : Nat) : Statement (.flagClear r v) := fun h _ e => of_ok (left h) e
theorem onyxRtcWrite (r : Req) (v : Nat) : Statement (.onyxRtcWrite r v) := fun h _ e => of_ok (left h) e
theorem rtcSyncTb0 (r : Req) : Statement (.rtcSyncTb0 r) := fun h _ e => of_ok h e
theorem rtcSyncLoad : Statement (.rtcSyncLoad) := fun _ _ e => nomatch e
theorem logAck (r : Req) (v : Nat) : Statement (.logAck r v) := fun h _ e => of_ok (left h) e
theorem logDataRead (r : Req) : Statement (.logDataRead r) := fun h _ e => of_ok h e
theorem onyxCrystalFail : Statement (.onyxCrystalFail) := fun _ _ e => nomatch e
theorem onyxCrystalRestore : Statement (.onyxCrystalRestore) := fun _ _ e => nomatch e
theorem onyxPowerOn : Statement (.onyxPowerOn) := fun _ _ e => nomatch e
theorem mainPowerChange (present : Bool) : Statement (.mainPowerChange present) := fun _ _ e => nomatch e
theorem lcToEnrol (r : Req) : Statement (.lcToEnrol r) := fun h _ e => of_ok h e
theorem lcToOwned (r : Req) : Statement (.lcToOwned r) := fun h _ e => of_ok h e
theorem lcToReturned (r : Req) : Statement (.lcToReturned r) := fun h _ e => of_ok h e
theorem lcToScrap (r : Req) : Statement (.lcToScrap r) := fun h _ e => of_ok h e
theorem lcWindowDone (readBackOk : Bool) : Statement (.lcWindowDone readBackOk) := fun _ _ e => nomatch e
theorem lcCleanupDone : Statement (.lcCleanupDone) := fun _ _ e => nomatch e
theorem enrolStart (r : Req) : Statement (.enrolStart r) := fun h _ e => of_ok h e
theorem enrolDone (reads : List Nat) (flashOk : Bool) : Statement (.enrolDone reads flashOk) := fun _ _ e => nomatch e
theorem debugConsentWrite (r : Req) (v : Nat) : Statement (.debugConsentWrite r v) := fun h _ e => of_ok (left h) e
theorem dbgRequest (r : Req) (v : Nat) : Statement (.dbgRequest r v) := fun h _ e => of_ok (left h) e
theorem dbgResponseWrite (r : Req) (v : Nat) : Statement (.dbgResponseWrite r v) := fun h _ e => of_ok (left h) e
theorem dbgCheckDone : Statement (.dbgCheckDone) := fun _ _ e => nomatch e
theorem dbgChallengeExpire : Statement (.dbgChallengeExpire) := fun _ _ e => nomatch e
theorem attachHello (r : Req) : Statement (.attachHello r) := fun h _ e => of_ok h e
theorem attachReplyReady (c : Nat) : Statement (.attachReplyReady c) := fun _ _ e => nomatch e
theorem attachProof (r : Req) : Statement (.attachProof r) := fun h _ e => of_ok h e
theorem attachOpen (c : Nat) : Statement (.attachOpen c) := fun _ _ e => nomatch e
theorem attachEnd (r : Req) : Statement (.attachEnd r) := fun h _ e => of_ok h e
theorem attachDataAccess (r : Req) (a : Acc) : Statement (.attachDataAccess r a) := fun h _ e => of_ok (left h) e
theorem attachExpire (c : Nat) : Statement (.attachExpire c) := fun _ _ e => nomatch e
theorem attachLockoutEnd (c : Nat) : Statement (.attachLockoutEnd c) := fun _ _ e => nomatch e
theorem sessionTimeout (c : Nat) : Statement (.sessionTimeout c) := fun _ _ e => nomatch e
theorem ownerBindWrite (r : Req) : Statement (.ownerBindWrite r) := fun h _ e => of_ok h e
theorem ownerBindDone (flashOk : Bool) : Statement (.ownerBindDone flashOk) := fun _ _ e => nomatch e
theorem regionEnable (r : Req) (n : Nat) (v : Nat) : Statement (.regionEnable r n v) := fun h _ e => of_ok (left (left h)) e
theorem regionDisable (r : Req) (n : Nat) (v : Nat) : Statement (.regionDisable r n v) := fun h _ e => of_ok (left (left h)) e
theorem regionInitDone (n : Nat) : Statement (.regionInitDone n) := fun _ _ e => nomatch e
theorem hbmAddrWrite (r : Req) (v : Nat) (f : MemFault) : Statement (.hbmAddrWrite r v f) := fun h _ e => of_ok (left (left h)) e
theorem hbmDataWrite (r : Req) (v : Nat) (f : MemFault) : Statement (.hbmDataWrite r v f) := fun h _ e => of_ok (left (left h)) e
theorem hbmDataRead (r : Req) (f : MemFault) : Statement (.hbmDataRead r f) := fun h _ e => of_ok (left h) e
theorem hbmFlush (r : Req) (f : MemFault) : Statement (.hbmFlush r f) := fun h _ e => of_ok (left h) e
theorem hbmReadDeliver (m : Master) (region : Nat) (line : Nat) (f : MemFault) : Statement (.hbmReadDeliver m region line f) := fun _ _ e => nomatch e
theorem memLateAlarm (region : Nat) (level : Nat) (line : Nat) : Statement (.memLateAlarm region level line) := fun _ _ e => nomatch e
theorem memLastRead (r : Req) : Statement (.memLastRead r) := fun h _ e => of_ok h e
theorem masterRefusedRead (r : Req) : Statement (.masterRefusedRead r) := fun h _ e => of_ok h e
theorem flashTransfer (bad : Nat) : Statement (.flashTransfer bad) := fun _ _ e => nomatch e
theorem flowDataWrite (r : Req) (k : Nat) (v : Nat) : Statement (.flowDataWrite r k v) := fun h _ e => of_ok (left (left h)) e
theorem queueAddrWrite (r : Req) (k : Nat) (v : Nat) : Statement (.queueAddrWrite r k v) := fun h _ e => of_ok (left (left h)) e
theorem queueDataWrite (r : Req) (k : Nat) (v : Nat) : Statement (.queueDataWrite r k v) := fun h _ e => of_ok (left (left h)) e
theorem tailDropsRead (r : Req) (k : Nat) : Statement (.tailDropsRead r k) := fun h _ e => of_ok (left h) e
theorem gateDataWrite (r : Req) (q : Nat) (v : Nat) : Statement (.gateDataWrite r q v) := fun h _ e => of_ok (left (left h)) e
theorem gateArm (r : Req) (q : Nat) : Statement (.gateArm r q) := fun h _ e => of_ok (left h) e
theorem gateDisarm (r : Req) (q : Nat) : Statement (.gateDisarm r q) := fun h _ e => of_ok (left h) e
theorem polAddrWrite (r : Req) (i : Nat) (v : Nat) : Statement (.polAddrWrite r i v) := fun h _ e => of_ok (left (left h)) e
theorem polDataWrite (r : Req) (i : Nat) (v : Nat) : Statement (.polDataWrite r i v) := fun h _ e => of_ok (left (left h)) e
theorem tbSet (r : Req) (n : Nat) (v : Nat) : Statement (.tbSet r n v) := fun h _ e => of_ok (left (left h)) e
theorem tbStep (r : Req) (n : Nat) (ps : Int) : Statement (.tbStep r n ps) := fun h _ e => of_ok (left h) e
theorem tbInvalidate (r : Req) (n : Nat) : Statement (.tbInvalidate r n) := fun h _ e => of_ok (left h) e
theorem servoOffset (r : Req) (n : Nat) (o : Int) : Statement (.servoOffset r n o) := fun h _ e => of_ok (left h) e
theorem forceHoldover (r : Req) (n : Nat) : Statement (.forceHoldover r n) := fun h _ e => of_ok (left h) e
theorem servoUpdateTimeout (n : Nat) : Statement (.servoUpdateTimeout n) := fun _ _ e => nomatch e
theorem tbNowRead (r : Req) (n : Nat) : Statement (.tbNowRead r n) := fun h _ e => of_ok (left h) e
theorem captureCmd (r : Req) : Statement (.captureCmd r) := fun h _ e => of_ok h e
theorem tmrCtrlWrite (r : Req) (n : Nat) (v : Nat) : Statement (.tmrCtrlWrite r n v) := fun h _ e => of_ok (left (left h)) e
theorem tbTimerFire (n : Nat) (t : Nat) : Statement (.tbTimerFire n t) := fun _ _ e => nomatch e
theorem ppsPulse : Statement (.ppsPulse) := fun _ _ e => nomatch e
theorem txTsDataRead (r : Req) (q : Nat) : Statement (.txTsDataRead r q) := fun h _ e => of_ok (left h) e
theorem txTsLostRead (r : Req) (q : Nat) : Statement (.txTsLostRead r q) := fun h _ e => of_ok (left h) e
theorem saStatDataRead (r : Req) (bad : Bool) : Statement (.saStatDataRead r bad) := fun h _ e => of_ok h e
theorem perfSelWrite (r : Req) (n : Nat) (v : Nat) : Statement (.perfSelWrite r n v) := fun h _ e => of_ok (left (left h)) e
theorem perfChainWrite (r : Req) (v : Nat) : Statement (.perfChainWrite r v) := fun h _ e => of_ok (left h) e
theorem perfCtrlWrite (r : Req) (v : Nat) : Statement (.perfCtrlWrite r v) := fun h _ e => of_ok (left h) e
theorem dumpRequest (r : Req) : Statement (.dumpRequest r) := fun h _ e => of_ok h e
theorem dumpDataRead (r : Req) : Statement (.dumpDataRead r) := fun h _ e => of_ok h e
theorem freezeRequest (r : Req) : Statement (.freezeRequest r) := fun h _ e => of_ok h e
theorem freezeEngage : Statement (.freezeEngage) := fun _ _ e => nomatch e
theorem freezeRelease (r : Req) : Statement (.freezeRelease r) := fun h _ e => of_ok h e
theorem freezeTimeout : Statement (.freezeTimeout) := fun _ _ e => nomatch e
theorem helloSend (p : Nat) : Statement (.helloSend p) := fun _ _ e => nomatch e
theorem helloRx (p : Nat) (m : FabMsg) : Statement (.helloRx p m) := fun _ _ e => nomatch e
theorem helloTimeout (p : Nat) : Statement (.helloTimeout p) := fun _ _ e => nomatch e
theorem linkStateSend : Statement (.linkStateSend) := fun _ _ e => nomatch e
theorem linkStateRx (p : Nat) (m : FabMsg) : Statement (.linkStateRx p m) := fun _ _ e => nomatch e
theorem linkStateAge (n : Nat) : Statement (.linkStateAge n) := fun _ _ e => nomatch e
theorem routeRecompute : Statement (.routeRecompute) := fun _ _ e => nomatch e
theorem fabMsgRelay (p : Nat) (m : FabMsg) : Statement (.fabMsgRelay p m) := fun _ _ e => nomatch e
theorem roleTakeoverRx (m : FabMsg) : Statement (.roleTakeoverRx m) := fun _ _ e => nomatch e
theorem roleStaleRx (m : FabMsg) : Statement (.roleStaleRx m) := fun _ _ e => nomatch e
theorem fabHeartbeatRx (p : Nat) (set : List Nat) : Statement (.fabHeartbeatRx p set) := fun _ _ e => nomatch e
theorem peerHbRx (burst : List Nat) : Statement (.peerHbRx burst) := fun _ _ e => nomatch e
theorem heartbeatCheck : Statement (.heartbeatCheck) := fun _ _ e => nomatch e
theorem actLockWatchdog : Statement (.actLockWatchdog) := fun _ _ e => nomatch e
theorem leaseRenewRx (m : FabMsg) : Statement (.leaseRenewRx m) := fun _ _ e => nomatch e
theorem leaseAnswerRx (m : FabMsg) : Statement (.leaseAnswerRx m) := fun _ _ e => nomatch e
theorem leaseClaimRx (m : FabMsg) : Statement (.leaseClaimRx m) := fun _ _ e => nomatch e
theorem leaseClaimDecide : Statement (.leaseClaimDecide) := fun _ _ e => nomatch e
theorem resvReqRx (m : FabMsg) : Statement (.resvReqRx m) := fun _ _ e => nomatch e
theorem resvConfRx (m : FabMsg) : Statement (.resvConfRx m) := fun _ _ e => nomatch e
theorem replaySyncSend : Statement (.replaySyncSend) := fun _ _ e => nomatch e
theorem replaySyncRx (m : FabMsg) : Statement (.replaySyncRx m) := fun _ _ e => nomatch e
theorem takeoverDone : Statement (.takeoverDone) := fun _ _ e => nomatch e
theorem roleCtrlWrite (r : Req) (g : Nat) (v : Nat) : Statement (.roleCtrlWrite r g v) := fun h _ e => of_ok (left (left h)) e
theorem rolePreferActiveTimeout (g : Nat) : Statement (.rolePreferActiveTimeout g) := fun _ _ e => nomatch e
theorem roleSwitchArm (r : Req) (g : Nat) (t : Nat) : Statement (.roleSwitchArm r g t) := fun h _ e => of_ok (left (left h)) e
theorem saMoveCheckRx (m : FabMsg) : Statement (.saMoveCheckRx m) := fun _ _ e => nomatch e
theorem moveAnswerRx (m : FabMsg) : Statement (.moveAnswerRx m) := fun _ _ e => nomatch e
theorem saMoveRx (m : FabMsg) : Statement (.saMoveRx m) := fun _ _ e => nomatch e
theorem saFinalRx (m : FabMsg) : Statement (.saFinalRx m) := fun _ _ e => nomatch e
theorem resetNAssert : Statement (.resetNAssert) := fun _ _ e => nomatch e
theorem vcorePowerOn : Statement (.vcorePowerOn) := fun _ _ e => nomatch e
theorem resetCmdDevice (r : Req) : Statement (.resetCmdDevice r) := fun h _ e => of_ok h e
theorem resetCmdController (r : Req) : Statement (.resetCmdController r) := fun h _ e => of_ok h e
theorem resetCmdDatapath (r : Req) : Statement (.resetCmdDatapath r) := fun h _ e => of_ok h e
theorem controllerWatchdog : Statement (.controllerWatchdog) := fun _ _ e => nomatch e
theorem clockLock (ok : Bool) : Statement (.clockLock ok) := fun _ _ e => nomatch e
theorem flashLinkEstablish (bad : Nat) : Statement (.flashLinkEstablish bad) := fun _ _ e => nomatch e
theorem pendingZeroiseRun : Statement (.pendingZeroiseRun) := fun _ _ e => nomatch e
theorem lifecycleRead : Statement (.lifecycleRead) := fun _ _ e => nomatch e
theorem rootReconstruction : Statement (.rootReconstruction) := fun _ _ e => nomatch e
theorem firmwareCheck : Statement (.firmwareCheck) := fun _ _ e => nomatch e
theorem hbmInit (ok : Bool) : Statement (.hbmInit ok) := fun _ _ e => nomatch e
theorem serdesCalibration (badGroups : List Nat) : Statement (.serdesCalibration badGroups) := fun _ _ e => nomatch e
theorem startupComplete : Statement (.startupComplete) := fun _ _ e => nomatch e
theorem fwUpdateA (r : Req) (prefer : Bool) : Statement (.fwUpdateA r prefer) := fun h _ e => of_ok h e
theorem fwUpdateB (r : Req) (prefer : Bool) : Statement (.fwUpdateB r prefer) := fun h _ e => of_ok h e
theorem fwUpdateDone (memOk : Bool) (flashOk : Bool) : Statement (.fwUpdateDone memOk flashOk) := fun _ _ e => nomatch e
theorem fwPreferWrite (r : Req) (v : Nat) : Statement (.fwPreferWrite r v) := fun h _ e => of_ok (left h) e
theorem fwSvnCommit (r : Req) (v : Nat) : Statement (.fwSvnCommit r v) := fun h _ e => of_ok (left h) e
theorem datapathArm (r : Req) : Statement (.datapathArm r) := fun h _ e => of_ok h e
theorem datapathDisarm (r : Req) : Statement (.datapathDisarm r) := fun h _ e => of_ok h e
theorem disarmDrained : Statement (.disarmDrained) := fun _ _ e => nomatch e
theorem holdEnter (r : Req) : Statement (.holdEnter r) := fun h _ e => of_ok h e
theorem holdEntryDone : Statement (.holdEntryDone) := fun _ _ e => nomatch e
theorem holdExit (r : Req) : Statement (.holdExit r) := fun h _ e => of_ok h e
theorem holdExitDone : Statement (.holdExitDone) := fun _ _ e => nomatch e
theorem resetNRelease : Statement (.resetNRelease) := fun _ _ e => nomatch e
theorem clockReturned (d : Nat) : Statement (.clockReturned d) := fun _ _ e => nomatch e
theorem fabClkReturn (p : Nat) : Statement (.fabClkReturn p) := fun _ _ e => nomatch e
theorem amLockAcquired (q : Nat) (sd : Side) : Statement (.amLockAcquired q sd) := fun _ _ e => nomatch e
theorem multiframeAligned (p : OtnPoint) : Statement (.multiframeAligned p) := fun _ _ e => nomatch e
theorem outOfMultiframe (p : OtnPoint) : Statement (.outOfMultiframe p) := fun _ _ e => nomatch e
theorem lpmOpDone : Statement (.lpmOpDone) := fun _ _ e => nomatch e
theorem datapathResetDone : Statement (.datapathResetDone) := fun _ _ e => nomatch e

end Sys2Proof.Laws.Requester
end

