-- ==== Sys2Proof/Laws/Stores.lean ====
section
/-! SUPPORT. The stores of the chapters: what one write leaves to read, and that every write keeps the canonical form of the
memories of the block. -/

namespace Sys2Proof.Machine

theorem scAt_setSc (s : State) (i j x) : scAt (setSc s i x) j = if i = j then x else scAt s j := by
  simp only [scAt, setSc, tget_tset]
@[simp] theorem scAt_setSc_same (s : State) (i x) : scAt (setSc s i x) i = x := by simp [scAt_setSc]
theorem scAt_setSc_ne (s : State) {i j : Nat} (x) (h : i ≠ j) : scAt (setSc s i x) j = scAt s j := by simp [scAt_setSc, h]
theorem saAt_setSa (s : State) (i j x) : saAt (setSa s i x) j = if i = j then x else saAt s j := by
  simp only [saAt, setSa, tget_tset]
@[simp] theorem saAt_setSa_same (s : State) (i x) : saAt (setSa s i x) i = x := by simp [saAt_setSa]
theorem saAt_setSa_ne (s : State) {i j : Nat} (x) (h : i ≠ j) : saAt (setSa s i x) j = saAt s j := by simp [saAt_setSa, h]
theorem statAt_setStat (s : State) (i j x) : statAt (setStat s i x) j = if i = j then x else statAt s j := by
  simp only [statAt, setStat, tget_tset]
@[simp] theorem statAt_setStat_same (s : State) (i x) : statAt (setStat s i x) i = x := by simp [statAt_setStat]
theorem statAt_setStat_ne (s : State) {i j : Nat} (x) (h : i ≠ j) : statAt (setStat s i x) j = statAt s j := by simp [statAt_setStat, h]
theorem predAt_setPred (s : State) (i j x) : predAt (setPred s i x) j = if i = j then x else predAt s j := by
  simp only [predAt, setPred, tget_tset]
@[simp] theorem predAt_setPred_same (s : State) (i x) : predAt (setPred s i x) i = x := by simp [predAt_setPred]
theorem predAt_setPred_ne (s : State) {i j : Nat} (x) (h : i ≠ j) : predAt (setPred s i x) j = predAt s j := by simp [predAt_setPred, h]
theorem slowQ_setSlowQ (s : State) (i j x) : slowQ (setSlowQ s i x) j = if i = j then x else slowQ s j := by
  simp only [slowQ, setSlowQ, tget_tset]
@[simp] theorem slowQ_setSlowQ_same (s : State) (i x) : slowQ (setSlowQ s i x) i = x := by simp [slowQ_setSlowQ]
theorem slowQ_setSlowQ_ne (s : State) {i j : Nat} (x) (h : i ≠ j) : slowQ (setSlowQ s i x) j = slowQ s j := by simp [slowQ_setSlowQ, h]
theorem pmGrp_setPm (s : State) (i j x) : pmGrp (setPm s i x) j = if i = j then x else pmGrp s j := by
  simp only [pmGrp, setPm, tget_tset]
@[simp] theorem pmGrp_setPm_same (s : State) (i x) : pmGrp (setPm s i x) i = x := by simp [pmGrp_setPm]
theorem pmGrp_setPm_ne (s : State) {i j : Nat} (x) (h : i ≠ j) : pmGrp (setPm s i x) j = pmGrp s j := by simp [pmGrp_setPm, h]
theorem hlineAt_setHline (s : State) (i j x) : hlineAt (setHline s i x) j = if i = j then x else hlineAt s j := by
  simp only [hlineAt, setHline, tget_tset]
@[simp] theorem hlineAt_setHline_same (s : State) (i x) : hlineAt (setHline s i x) i = x := by simp [hlineAt_setHline]
theorem hlineAt_setHline_ne (s : State) {i j : Nat} (x) (h : i ≠ j) : hlineAt (setHline s i x) j = hlineAt s j := by simp [hlineAt_setHline, h]
theorem inQ_setInQ (s : State) (i j x) : inQ (setInQ s i x) j = if i = j then x else inQ s j := by
  simp only [inQ, setInQ, tget_tset]
@[simp] theorem inQ_setInQ_same (s : State) (i x) : inQ (setInQ s i x) i = x := by simp [inQ_setInQ]
theorem inQ_setInQ_ne (s : State) {i j : Nat} (x) (h : i ≠ j) : inQ (setInQ s i x) j = inQ s j := by simp [inQ_setInQ, h]
theorem recordAt_setRecord (s : State) (i j x) : recordAt (setRecord s i x) j = if i = j then x else recordAt s j := by
  simp only [recordAt, setRecord, setKeys, tget_tset]
@[simp] theorem recordAt_setRecord_same (s : State) (i x) : recordAt (setRecord s i x) i = x := by simp [recordAt_setRecord]
theorem recordAt_setRecord_ne (s : State) {i j : Nat} (x) (h : i ≠ j) : recordAt (setRecord s i x) j = recordAt s j := by simp [recordAt_setRecord, h]
theorem chan_setChan (s : State) (i j x) : chan (setChan s i x) j = if i = j then x else chan s j := by
  simp only [chan, setChan, tget_tset]
@[simp] theorem chan_setChan_same (s : State) (i x) : chan (setChan s i x) i = x := by simp [chan_setChan]
theorem chan_setChan_ne (s : State) {i j : Nat} (x) (h : i ≠ j) : chan (setChan s i x) j = chan s j := by simp [chan_setChan, h]
theorem tb_setTb (s : State) (i j x) : tb (setTb s i x) j = if i = j then x else tb s j := by
  simp only [tb, setTb, tget_tset]
@[simp] theorem tb_setTb_same (s : State) (i x) : tb (setTb s i x) i = x := by simp [tb_setTb]
theorem tb_setTb_ne (s : State) {i j : Nat} (x) (h : i ≠ j) : tb (setTb s i x) j = tb s j := by simp [tb_setTb, h]
theorem outQ_setOutQ (s : State) (i j x) : outQ (setOutQ s i x) j = if i = j then x else outQ s j := by
  simp only [outQ, setOutQ, tget_tset]
@[simp] theorem outQ_setOutQ_same (s : State) (i x) : outQ (setOutQ s i x) i = x := by simp [outQ_setOutQ]
theorem outQ_setOutQ_ne (s : State) {i j : Nat} (x) (h : i ≠ j) : outQ (setOutQ s i x) j = outQ s j := by simp [outQ_setOutQ, h]
theorem txTs_setTxTs (s : State) (i j x) : txTs (setTxTs s i x) j = if i = j then x else txTs s j := by
  simp only [txTs, setTxTs, wr, tget_tset]
@[simp] theorem txTs_setTxTs_same (s : State) (i x) : txTs (setTxTs s i x) i = x := by simp [txTs_setTxTs]
theorem txTs_setTxTs_ne (s : State) {i j : Nat} (x) (h : i ≠ j) : txTs (setTxTs s i x) j = txTs s j := by simp [txTs_setTxTs, h]
theorem roleAt_setRole (s : State) (i j x) : roleAt (setRole s i x) j = if i = j then x else roleAt s j := by
  simp only [roleAt, setRole, tget_tset]
@[simp] theorem roleAt_setRole_same (s : State) (i x) : roleAt (setRole s i x) i = x := by simp [roleAt_setRole]
theorem roleAt_setRole_ne (s : State) {i j : Nat} (x) (h : i ≠ j) : roleAt (setRole s i x) j = roleAt s j := by simp [roleAt_setRole, h]
theorem gateAt_setGate (s : State) (i j x) : gateAt (setGate s i x) j = if i = j then x else gateAt s j := by
  simp only [gateAt, setGate, tget_tset]
@[simp] theorem gateAt_setGate_same (s : State) (i x) : gateAt (setGate s i x) i = x := by simp [gateAt_setGate]
theorem gateAt_setGate_ne (s : State) {i j : Nat} (x) (h : i ≠ j) : gateAt (setGate s i x) j = gateAt s j := by simp [gateAt_setGate, h]
theorem jpart_setJpart (s : State) (i j x) : jpart (setJpart s i x) j = if i = j then x else jpart s j := by
  simp only [jpart, setJpart, tget_tset]
@[simp] theorem jpart_setJpart_same (s : State) (i x) : jpart (setJpart s i x) i = x := by simp [jpart_setJpart]
theorem jpart_setJpart_ne (s : State) {i j : Nat} (x) (h : i ≠ j) : jpart (setJpart s i x) j = jpart s j := by simp [jpart_setJpart, h]

/-- A slot kept as its difference from the bit a ZEROISE sets reads back as written. -/
theorem slotFlip_slotFlip (s : State) (x : Slot) : slotFlip s (slotFlip s x) = x := by
  cases x; simp [slotFlip]
theorem slotAt_setSlot_same (s : State) (h : Nat) (x : Slot) : slotAt (setSlot s h x) h = x := by
  have e : slotFlip (setSlot s h x) = slotFlip s := rfl
  rw [slotAt, e]
  simp only [setSlot, tget_tset_same, slotFlip_slotFlip]
theorem slotAt_setSlot_ne (s : State) {h g : Nat} (x : Slot) (hn : h ≠ g) : slotAt (setSlot s h x) g = slotAt s g := by
  have e : slotFlip (setSlot s h x) = slotFlip s := rfl
  rw [slotAt, e]
  simp only [setSlot, slotAt, tget_tset_ne _ _ _ _ hn]

/-! The memories: HBM lines, the I/O buffer of the lookaside engine, the partitions of the public-key engine. -/

theorem tabove_filter {α : Type} (n : Nat) (t : Tbl α) (p : Nat × α → Bool) (h : tabove n t) : tabove n (t.filter p) :=
  fun e he => h e (List.mem_filter.1 he).1

theorem tcanon_filter {α : Type} [DecidableEq α] (d : α) (t : Tbl α) (p : Nat × α → Bool) (h : tcanon d t = true) :
    tcanon d (t.filter p) = true := by
  induction t with
  | nil => exact h
  | cons e t ih =>
    obtain ⟨k, v⟩ := e
    obtain ⟨h1, h2, h3⟩ := (tcanon_cons d k v t).1 h
    by_cases hp : p (k, v)
    · rw [List.filter_cons_of_pos hp]
      exact (tcanon_cons ..).2 ⟨h1, tabove_filter _ _ _ h2, ih h3⟩
    · rw [List.filter_cons_of_neg hp]; exact ih h3

theorem tcanon_forNat {α : Type} [DecidableEq α] (d : α) (f : Nat → Tbl α → Tbl α)
    (hf : ∀ i t, tcanon d t = true → tcanon d (f i t) = true) (n : Nat) (t : Tbl α) (h : tcanon d t = true) :
    tcanon d (forNat n f t) = true := by
  induction n with
  | zero => exact h
  | succ n ih => exact hf _ _ ih

theorem Memory.wf_reset : Memory.wf State.reset = true := rfl

theorem Memory.wf_setHline (s : State) (k : Nat) (x : HLine) (h : Memory.wf s = true) : Memory.wf (setHline s k x) = true := by
  simp only [Memory.wf, Bool.and_eq_true] at h ⊢
  exact ⟨⟨tcanon_tset _ _ _ _ h.1.1, h.1.2⟩, h.2⟩

theorem Memory.wf_regionWipe (s : State) (r : Nat) (h : Memory.wf s = true) : Memory.wf (regionWipe s r) = true := by
  simp only [Memory.wf, Bool.and_eq_true] at h ⊢
  exact ⟨⟨tcanon_filter _ _ _ h.1.1, h.1.2⟩, h.2⟩

theorem Memory.wf_ioPut (s : State) (off : Nat) (b : List Byte) (h : Memory.wf s = true) : Memory.wf (ioPut s off b) = true := by
  simp only [Memory.wf, Bool.and_eq_true] at h ⊢
  exact ⟨⟨h.1.1, tcanon_forNat _ _ (fun i t ht => tcanon_tset _ _ _ _ ht) _ _ h.1.2⟩, h.2⟩

theorem mem_tins {α : Type} (t : Tbl α) (k : Nat) (v : α) (e : Nat × α) (h : e ∈ tins t k v) : e = (k, v) ∨ e ∈ t := by
  induction t with
  | nil => simpa [tins] using h
  | cons a t ih =>
    obtain ⟨j, w⟩ := a
    simp only [tins] at h
    split at h
    · simpa using h
    · rcases List.mem_cons.1 h with rfl | h
      · exact .inr (List.mem_cons_self ..)
      · exact (ih h).imp id (List.mem_cons_of_mem _)

theorem mem_tdel {α : Type} (t : Tbl α) (k : Nat) (e : Nat × α) (h : e ∈ tdel t k) : e ∈ t := by
  induction t with
  | nil => exact h
  | cons a t ih =>
    obtain ⟨j, w⟩ := a
    simp only [tdel] at h
    split at h
    · exact List.mem_cons_of_mem _ (ih h)
    · rcases List.mem_cons.1 h with rfl | h
      · exact List.mem_cons_self ..
      · exact List.mem_cons_of_mem _ (ih h)

theorem mem_tset {α : Type} [DecidableEq α] (d : α) (t : Tbl α) (k : Nat) (v : α) (e : Nat × α) (h : e ∈ tset d t k v) :
    e = (k, v) ∨ e ∈ t := by
  unfold tset at h
  split at h
  · exact .inr (mem_tdel _ _ _ h)
  · exact (mem_tins _ _ _ _ h).imp id (mem_tdel _ _ _)

theorem Memory.wf_setJpart (s : State) (p : Nat) (x : JPart) (hx : tcanon 0 x.mem = true) (h : Memory.wf s = true) :
    Memory.wf (setJpart s p x) = true := by
  simp only [Memory.wf, Bool.and_eq_true, List.all_eq_true] at h ⊢
  refine ⟨h.1, fun e he => ?_⟩
  rcases mem_tset _ _ _ _ _ he with rfl | he
  · exact hx
  · exact h.2 e he

theorem jOut_canon (x : JPart) (k : Nat) (b : List Byte) (h : tcanon 0 x.mem = true) : tcanon 0 (jOut x k b).mem = true :=
  tcanon_forNat _ _ (fun _ _ ht => tcanon_tset _ _ _ _ ht) _ _ h

end Sys2Proof.Machine
end

