-- ==== Sys2Proof/Tests/Slice0.lean ====
section
/-! SUPPORT. Tests: ill-formed terms that each check refuses, single steps with results the spec states, and for every clause of
every statement a state and operands that meet its hypotheses. -/

namespace Sys2Proof.Machine.Tests
open Sys2Proof Sys2Proof.Machine
set_option Elab.async false

/-- One ill-formed term for each check of each command. -/
theorem test_illFormed1 : ([
   .registerWrite ⟨5, false, 0⟩ (2 ^ 24 - 1) (2 ^ 2048 - 1),
   .registerWrite ⟨4, true, 0⟩ (2 ^ 24) (2 ^ 2048 - 1),
   .registerWrite ⟨4, true, 0⟩ (2 ^ 24 - 1) (2 ^ 2048),
   .kdaRequest (.arrive 4 0 []),
   .kdaRead ⟨5, false, 0⟩ (2 ^ 24 - 1),
   .kdaRead ⟨4, true, 0⟩ (2 ^ 24),
   .kdaWrite ⟨5, false, 0⟩ (2 ^ 24 - 1) [255],
   .kdaWrite ⟨4, true, 0⟩ (2 ^ 24) [255],
   .kdaWrite ⟨4, true, 0⟩ (2 ^ 24 - 1) [2 ^ 32],
   .kdaWindowRead ⟨5, false, 0⟩ (2 ^ 24 - 1) (2 ^ 32 - 1),
   .kdaWindowRead ⟨4, true, 0⟩ (2 ^ 24) (2 ^ 32 - 1),
   .kdaWindowRead ⟨4, true, 0⟩ (2 ^ 24 - 1) (2 ^ 32),
   .kdaWindowWrite ⟨5, false, 0⟩ (2 ^ 24 - 1) [255],
   .kdaWindowWrite ⟨4, true, 0⟩ (2 ^ 24) [255],
   .kdaWindowWrite ⟨4, true, 0⟩ (2 ^ 24 - 1) [2 ^ 32],
   .spiWriteRequest [2 ^ 32] true,
   .mgArpRequest 0 true 1 1,
   .mgArpRequest 3 true 1 1,
   .mgLinkLoss 0,
   .mgLinkLoss 3,
   .chanReset ⟨5, false, 0⟩ 3,
   .chanReset ⟨4, true, 0⟩ 4,
   .evtSubscribe ⟨5, false, 0⟩ 3,
   .evtSubscribe ⟨4, true, 0⟩ 4,
   .evtUnsubscribe ⟨5, false, 0⟩ 3,
   .evtUnsubscribe ⟨4, true, 0⟩ 4,
   .evtMsgSend 4,
   .evtDataRead ⟨5, false, 0⟩,
   .evtDataSRead ⟨5, false, 0⟩,
   .evtLostRead ⟨5, false, 0⟩ true,
   .evtPendingClear ⟨5, false, 0⟩ 11 (2 ^ 32 - 1),
   .evtPendingClear ⟨4, true, 0⟩ 12 (2 ^ 32 - 1),
   .evtPendingClear ⟨4, true, 0⟩ 11 (2 ^ 32),
   .chanRejectedRead ⟨5, false, 0⟩ 3,
   .chanRejectedRead ⟨4, true, 0⟩ 4,
   .chanRxDropsRead ⟨5, false, 0⟩ 3,
   .chanRxDropsRead ⟨4, true, 0⟩ 0,
   .chanRxDropsRead ⟨4, true, 0⟩ 4,
   .graceEnd 131072,
   .leaseExpiry 4,
   .bgJobSuspend 0,
   .bgJobSuspend 6,
   .shadowCompareStep [557056],
   .scrubStep [⟨3, 0, true⟩],
   .tickRealign ⟨5, false, 0⟩ (2 ^ 64 - 1),
   .tickRealign ⟨4, true, 0⟩ (2 ^ 64),
   .syncInEdge 10000000,
   .clockLost 25,
   .bgOverrunRead ⟨5, false, 0⟩ 5,
   .bgOverrunRead ⟨4, true, 0⟩ 0,
   .bgOverrunRead ⟨4, true, 0⟩ 6,
   .groupLayoutWrite ⟨5, false, 0⟩ 7 (2 ^ 32 - 1),
   .groupLayoutWrite ⟨4, true, 0⟩ 8 (2 ^ 32 - 1),
   .groupLayoutWrite ⟨4, true, 0⟩ 7 (2 ^ 32),
   .groupModeWrite ⟨5, false, 0⟩ 7 (2 ^ 32 - 1),
   .groupModeWrite ⟨4, true, 0⟩ 8 (2 ^ 32 - 1),
   .groupModeWrite ⟨4, true, 0⟩ 7 (2 ^ 32),
   .laneCtrlWrite ⟨5, false, 0⟩ 63 (2 ^ 32 - 1),
   .laneCtrlWrite ⟨4, true, 0⟩ 64 (2 ^ 32 - 1),
   .laneCtrlWrite ⟨4, true, 0⟩ 63 (2 ^ 32),
   .laneSignalDetect 64,
   .laneCdrLock 64,
   .laneCdrTimeout 64,
   .laneTrainComplete 64 (2 ^ 30 - 1),
   .laneTrainComplete 63 (2 ^ 30),
   .laneTrainTimeout 64,
   .laneTrainRetry 64,
   .laneAdaptDone 64 65535,
   .laneAdaptDone 63 65536,
   .laneAdaptTimeout 64] : List Instr).all (fun i => !i.wf) = true := by decide +kernel
/-- One ill-formed term for each check of each command. -/
theorem test_illFormed2 : ([
   .laneLos 64,
   .laneCdrLost 64,
   .blockLockAcquired (.fec 32 .line 0) 1,
   .blockLockLost (.fec 32 .line 0),
   .fabClkLost 4,
   .fabSyncAcquired 4 3,
   .fabSyncAcquired 3 4,
   .fabSyncLost 4 3 1,
   .fabSyncLost 3 4 1,
   .fabAlignSetRx 4 1,
   .fabAlignSetSend 4,
   .fabCtrlWrite ⟨5, false, 0⟩ 3 (2 ^ 32 - 1),
   .fabCtrlWrite ⟨4, true, 0⟩ 4 (2 ^ 32 - 1),
   .fabCtrlWrite ⟨4, true, 0⟩ 3 (2 ^ 32),
   .pgCtrlWrite ⟨5, false, 0⟩ 79 (2 ^ 32 - 1),
   .pgCtrlWrite ⟨4, true, 0⟩ 80 (2 ^ 32 - 1),
   .pgCtrlWrite ⟨4, true, 0⟩ 79 (2 ^ 32),
   .injOnce ⟨5, false, 0⟩ 79,
   .injOnce ⟨4, true, 0⟩ 80,
   .injRateError 80,
   .prbsCheckerLock 80,
   .prbsLockLost 80 1 1,
   .pcsHiErr 32 .line ⟨0, 0, 0⟩,
   .pcsHiErrClear 32 .line ⟨0, 0, 0⟩,
   .amLockLost 32 .line ⟨0, 0, 0⟩,
   .faultReceived 32 .line .none,
   .otlLaneLocked 8 .line 19 255 1,
   .otlLaneLocked 7 .line 20 255 1,
   .otlLaneLocked 7 .line 19 256 1,
   .otlLaneUnlocked 8 .line 19,
   .otlLaneUnlocked 7 .line 20,
   .otlDeskew 8 .line 1 1,
   .otnLof (.otu 8 .line),
   .otnLofClear (.otu 8 .line),
   .otnLom (.otu 8 .line),
   .otnLomClear (.otu 8 .line),
   .otnPsiRx 8 .line 255 [255] true true,
   .otnPsiRx 7 .line 256 [255] true true,
   .otnPsiRx 7 .line 255 [256] true true,
   .gmpJcRx 8 .line 79 (2 ^ 14 - 1) (2 ^ 14 - 1) true,
   .gmpJcRx 7 .line 80 (2 ^ 14 - 1) (2 ^ 14 - 1) true,
   .gmpJcRx 7 .line 79 (2 ^ 14) (2 ^ 14 - 1) true,
   .gmpJcRx 7 .line 79 (2 ^ 14 - 1) (2 ^ 14) true,
   .tsiDataWrite ⟨5, false, 0⟩ 3 (2 ^ 32 - 1),
   .tsiDataWrite ⟨4, true, 0⟩ 4 (2 ^ 32 - 1),
   .tsiDataWrite ⟨4, true, 0⟩ 3 (2 ^ 32),
   .tsiCopy ⟨5, false, 0⟩ 3,
   .tsiCopy ⟨4, true, 0⟩ 4,
   .tsiSwapArm ⟨5, false, 0⟩ 3 (2 ^ 64 - 1),
   .tsiSwapArm ⟨4, true, 0⟩ 4 (2 ^ 64 - 1),
   .tsiSwapArm ⟨4, true, 0⟩ 3 (2 ^ 64),
   .tsiGroupSwap 4 1 1,
   .tsiGroupSwap 3 2 1,
   .tsiGroupSwap 3 1 2,
   .l1DataWrite ⟨5, false, 0⟩ 3 (2 ^ 32 - 1),
   .l1DataWrite ⟨4, true, 0⟩ 4 (2 ^ 32 - 1),
   .l1DataWrite ⟨4, true, 0⟩ 3 (2 ^ 32),
   .l1SwitchArm ⟨5, false, 0⟩ 3 (2 ^ 64 - 1),
   .l1SwitchArm ⟨4, true, 0⟩ 4 (2 ^ 64 - 1),
   .l1SwitchArm ⟨4, true, 0⟩ 3 (2 ^ 64),
   .l1MultiframeTx 4 159 [255] [⟨2, 131071, true⟩],
   .l1MultiframeTx 3 160 [255] [⟨2, 131071, true⟩],
   .l1MultiframeTx 3 159 [256] [⟨2, 131071, true⟩],
   .l1MultiframeTx 3 159 [255] [⟨3, 0, true⟩],
   .l1AnnounceRx 4 159 [255],
   .l1AnnounceRx 3 160 [255],
   .l1AnnounceRx 3 159 [256],
   .l1TagRx 4 159 [255] (2 ^ 128 - 1) [⟨2, 131071, true⟩],
   .l1TagRx 3 160 [255] (2 ^ 128 - 1) [⟨2, 131071, true⟩],
   .l1TagRx 3 159 [256] (2 ^ 128 - 1) [⟨2, 131071, true⟩]] : List Instr).all (fun i => !i.wf) = true := by decide +kernel
/-- One ill-formed term for each check of each command. -/
theorem test_illFormed3 : ([
   .l1TagRx 3 159 [255] (2 ^ 128) [⟨2, 131071, true⟩],
   .l1TagRx 3 159 [255] (2 ^ 128 - 1) [⟨3, 0, true⟩],
   .pmSecond 8 ⟨0, false, 0⟩ ⟨0, false, 0⟩ ⟨0, 0, 0⟩ ⟨0, 0, 0⟩,
   .pmBinClose 8 true,
   .pmSelectWrite ⟨5, false, 0⟩ 7 (2 ^ 32 - 1),
   .pmSelectWrite ⟨4, true, 0⟩ 8 (2 ^ 32 - 1),
   .pmSelectWrite ⟨4, true, 0⟩ 7 (2 ^ 32),
   .hostFrameRx 32 [255] true [255] [⟨2, 131071, true⟩],
   .hostFrameRx 31 [256] true [255] [⟨2, 131071, true⟩],
   .hostFrameRx 31 [255] true [3407872] [⟨2, 131071, true⟩],
   .hostFrameRx 31 [255] true [255] [⟨3, 0, true⟩],
   .lineFrameRx 32 [255] true [255] [⟨2, 131071, true⟩],
   .lineFrameRx 31 [256] true [255] [⟨2, 131071, true⟩],
   .lineFrameRx 31 [255] true [3407872] [⟨2, 131071, true⟩],
   .lineFrameRx 31 [255] true [255] [⟨3, 0, true⟩],
   .slowPathDone 8,
   .inboundChecks 32 true true,
   .verifyTail 32,
   .queueAdmission 32,
   .frameEligible 32,
   .schedulerAnnounce 32,
   .detAnnounce 32 true,
   .gateEvent 32,
   .ruleAddrWrite ⟨5, false, 0⟩ 7 (2 ^ 32 - 1),
   .ruleAddrWrite ⟨4, true, 0⟩ 8 (2 ^ 32 - 1),
   .ruleAddrWrite ⟨4, true, 0⟩ 7 (2 ^ 32),
   .ruleDataWrite ⟨5, false, 0⟩ 7 (2 ^ 32 - 1),
   .ruleDataWrite ⟨4, true, 0⟩ 8 (2 ^ 32 - 1),
   .ruleDataWrite ⟨4, true, 0⟩ 7 (2 ^ 32),
   .stagingClaimTimeout 65,
   .lpmInsert ⟨5, false, 0⟩,
   .lpmDelete ⟨5, false, 0⟩,
   .lpmFind ⟨5, false, 0⟩,
   .learnInsertStatic ⟨5, false, 0⟩ 3,
   .learnInsertStatic ⟨4, true, 0⟩ 4,
   .learnDelete ⟨5, false, 0⟩ 3,
   .learnDelete ⟨4, true, 0⟩ 4,
   .learnFind ⟨5, false, 0⟩ 3,
   .learnFind ⟨4, true, 0⟩ 4,
   .learnFlushAll ⟨5, false, 0⟩ 3,
   .learnFlushAll ⟨4, true, 0⟩ 4,
   .learnFlushPort ⟨5, false, 0⟩ 3,
   .learnFlushPort ⟨4, true, 0⟩ 4,
   .learnFlushSc ⟨5, false, 0⟩ 3,
   .learnFlushSc ⟨4, true, 0⟩ 4,
   .learnFlushDone 4,
   .learnFifoRetire 4,
   .ageSweep 4,
   .slowOverflowRead ⟨5, false, 0⟩ 7,
   .slowOverflowRead ⟨4, true, 0⟩ 8,
   .learnFullRead ⟨5, false, 0⟩ 3,
   .learnFullRead ⟨4, true, 0⟩ 4,
   .scAddrWrite ⟨5, false, 0⟩ (2 ^ 32 - 1),
   .scAddrWrite ⟨4, true, 0⟩ (2 ^ 32),
   .scDataWrite ⟨5, false, 0⟩ (2 ^ 32 - 1),
   .scDataWrite ⟨4, true, 0⟩ (2 ^ 32),
   .saAddrWrite ⟨5, false, 0⟩ (2 ^ 32 - 1),
   .saAddrWrite ⟨4, true, 0⟩ (2 ^ 32),
   .saDataWrite ⟨5, false, 0⟩ (2 ^ 32 - 1),
   .saDataWrite ⟨4, true, 0⟩ (2 ^ 32),
   .saStage ⟨5, false, 0⟩ (2 ^ 32 - 1),
   .saStage ⟨4, true, 0⟩ (2 ^ 32),
   .saRetire ⟨5, false, 0⟩ (2 ^ 32 - 1),
   .saRetire ⟨4, true, 0⟩ (2 ^ 32),
   .keyAddrWrite ⟨5, false, 0⟩ (2 ^ 32 - 1),
   .keyAddrWrite ⟨4, true, 0⟩ (2 ^ 32),
   .keyDataWrite ⟨5, false, 0⟩ (2 ^ 32 - 1),
   .keyDataWrite ⟨4, true, 0⟩ (2 ^ 32),
   .armTickWrite ⟨5, false, 0⟩ 15 (2 ^ 64 - 1),
   .armTickWrite ⟨4, true, 0⟩ 0 (2 ^ 64 - 1)] : List Instr).all (fun i => !i.wf) = true := by decide +kernel
/-- One ill-formed term for each check of each command. -/
theorem test_illFormed4 : ([
   .armTickWrite ⟨4, true, 0⟩ 16 (2 ^ 64 - 1),
   .armTickWrite ⟨4, true, 0⟩ 15 (2 ^ 64),
   .migTickWrite ⟨5, false, 0⟩ (2 ^ 64 - 1),
   .migTickWrite ⟨4, true, 0⟩ (2 ^ 64),
   .resvDropsRead ⟨5, false, 0⟩,
   .migrateLateRead ⟨5, false, 0⟩,
   .cipherCtrlWrite ⟨5, false, 0⟩ 31 (2 ^ 32 - 1),
   .cipherCtrlWrite ⟨4, true, 0⟩ 32 (2 ^ 32 - 1),
   .cipherCtrlWrite ⟨4, true, 0⟩ 31 (2 ^ 32),
   .latClear ⟨5, false, 0⟩ 31,
   .latClear ⟨4, true, 0⟩ 32,
   .detLateRead ⟨5, false, 0⟩ 31,
   .detLateRead ⟨4, true, 0⟩ 32,
   .verifyLastRead ⟨5, false, 0⟩ 31,
   .verifyLastRead ⟨4, true, 0⟩ 32,
   .berylDescWrite ⟨5, false, 0⟩ (2 ^ 32 - 1),
   .berylDescWrite ⟨4, true, 0⟩ (2 ^ 32),
   .berylSubmitUrgent ⟨5, false, 0⟩,
   .berylSubmitNormal ⟨5, false, 0⟩,
   .berylJobDone true (.badTag 7),
   .berylDoneRead ⟨5, false, 0⟩,
   .berylAbortNormal ⟨5, false, 0⟩,
   .berylAbortUrgent ⟨5, false, 0⟩,
   .berylAbortAll ⟨5, false, 0⟩,
   .berylKeyregClear ⟨5, false, 0⟩ (2 ^ 32 - 1),
   .berylKeyregClear ⟨4, true, 0⟩ (2 ^ 32),
   .berylIoDataAccess ⟨5, false, 0⟩ (.write (2 ^ 32 - 1)),
   .berylIoDataAccess ⟨4, true, 0⟩ (.write (2 ^ 32)),
   .jasperClaim ⟨5, false, 0⟩,
   .jasperRelease ⟨5, false, 0⟩,
   .jasperZeroingDone 0,
   .jasperZeroingDone 4,
   .jasperDataAccess ⟨5, false, 0⟩ (.write (2 ^ 32 - 1)),
   .jasperDataAccess ⟨4, true, 0⟩ (.write (2 ^ 32)),
   .ecdsaSign ⟨5, false, 0⟩ (2 ^ 32 - 1),
   .ecdsaSign ⟨4, true, 0⟩ (2 ^ 32),
   .ecdsaVerify ⟨5, false, 0⟩ (2 ^ 32 - 1),
   .ecdsaVerify ⟨4, true, 0⟩ (2 ^ 32),
   .ecKeygen ⟨5, false, 0⟩ (2 ^ 32 - 1),
   .ecKeygen ⟨4, true, 0⟩ (2 ^ 32),
   .ecdh ⟨5, false, 0⟩ (2 ^ 32 - 1),
   .ecdh ⟨4, true, 0⟩ (2 ^ 32),
   .ecValidate ⟨5, false, 0⟩ (2 ^ 32 - 1),
   .ecValidate ⟨4, true, 0⟩ (2 ^ 32),
   .x25519 ⟨5, false, 0⟩ (2 ^ 32 - 1),
   .x25519 ⟨4, true, 0⟩ (2 ^ 32),
   .x25519Keygen ⟨5, false, 0⟩ (2 ^ 32 - 1),
   .x25519Keygen ⟨4, true, 0⟩ (2 ^ 32),
   .rsaPublic ⟨5, false, 0⟩ (2 ^ 32 - 1),
   .rsaPublic ⟨4, true, 0⟩ (2 ^ 32),
   .rsaPrivate ⟨5, false, 0⟩ (2 ^ 32 - 1),
   .rsaPrivate ⟨4, true, 0⟩ (2 ^ 32),
   .modInv ⟨5, false, 0⟩ (2 ^ 32 - 1),
   .modInv ⟨4, true, 0⟩ (2 ^ 32),
   .curveLoad ⟨5, false, 0⟩ (2 ^ 32 - 1),
   .curveLoad ⟨4, true, 0⟩ (2 ^ 32),
   .jasperAbort ⟨5, false, 0⟩,
   .jasperResultRead ⟨5, false, 0⟩,
   .epochAdvanceWrite ⟨5, false, 0⟩ (2 ^ 32 - 1),
   .epochAdvanceWrite ⟨4, true, 0⟩ (2 ^ 32),
   .plaintextKeyEnWrite ⟨5, false, 0⟩ (2 ^ 32 - 1),
   .plaintextKeyEnWrite ⟨4, true, 0⟩ (2 ^ 32),
   .pkeyStore ⟨5, false, 0⟩,
   .pkeyLoad ⟨5, false, 0⟩,
   .pkeyErase ⟨5, false, 0⟩,
   .zeroiseCmd ⟨5, false, 0⟩,
   .zeroiseCmdWipe ⟨5, false, 0⟩,
   .monitorFire [⟨6, 0, 0, 0, 0, 0⟩],
   .monitorRearm 7,
   .monitorRearm 29] : List Instr).all (fun i => !i.wf) = true := by decide +kernel
/-- One ill-formed term for each check of each command. -/
theorem test_illFormed5 : ([
   .tamperLoopAlarm [(8, 0)],
   .loopSettled 8,
   .loopFault 8,
   .loopArm ⟨5, false, 0⟩ 7,
   .loopArm ⟨4, true, 0⟩ 8,
   .loopDisarm ⟨5, false, 0⟩ 7,
   .loopDisarm ⟨4, true, 0⟩ 8,
   .flagClear ⟨5, false, 0⟩ (2 ^ 32 - 1),
   .flagClear ⟨4, true, 0⟩ (2 ^ 32),
   .onyxRtcWrite ⟨5, false, 0⟩ (2 ^ 64 - 1),
   .onyxRtcWrite ⟨4, true, 0⟩ (2 ^ 64),
   .rtcSyncTb0 ⟨5, false, 0⟩,
   .logAck ⟨5, false, 0⟩ (2 ^ 32 - 1),
   .logAck ⟨4, true, 0⟩ (2 ^ 32),
   .logDataRead ⟨5, false, 0⟩,
   .lcToEnrol ⟨5, false, 0⟩,
   .lcToOwned ⟨5, false, 0⟩,
   .lcToReturned ⟨5, false, 0⟩,
   .lcToScrap ⟨5, false, 0⟩,
   .enrolStart ⟨5, false, 0⟩,
   .enrolDone [2 ^ 65536] true,
   .debugConsentWrite ⟨5, false, 0⟩ (2 ^ 32 - 1),
   .debugConsentWrite ⟨4, true, 0⟩ (2 ^ 32),
   .dbgRequest ⟨5, false, 0⟩ (2 ^ 32 - 1),
   .dbgRequest ⟨4, true, 0⟩ (2 ^ 32),
   .dbgResponseWrite ⟨5, false, 0⟩ (2 ^ 32 - 1),
   .dbgResponseWrite ⟨4, true, 0⟩ (2 ^ 32),
   .attachHello ⟨5, false, 0⟩,
   .attachReplyReady 4,
   .attachProof ⟨5, false, 0⟩,
   .attachOpen 4,
   .attachEnd ⟨5, false, 0⟩,
   .attachDataAccess ⟨5, false, 0⟩ (.write (2 ^ 32 - 1)),
   .attachDataAccess ⟨4, true, 0⟩ (.write (2 ^ 32)),
   .attachExpire 4,
   .attachLockoutEnd 4,
   .sessionTimeout 4,
   .ownerBindWrite ⟨5, false, 0⟩,
   .regionEnable ⟨5, false, 0⟩ 63 (2 ^ 32 - 1),
   .regionEnable ⟨4, true, 0⟩ 64 (2 ^ 32 - 1),
   .regionEnable ⟨4, true, 0⟩ 63 (2 ^ 32),
   .regionDisable ⟨5, false, 0⟩ 63 (2 ^ 32 - 1),
   .regionDisable ⟨4, true, 0⟩ 64 (2 ^ 32 - 1),
   .regionDisable ⟨4, true, 0⟩ 63 (2 ^ 32),
   .regionInitDone 64,
   .hbmAddrWrite ⟨5, false, 0⟩ (2 ^ 64 - 1) (.badTag 6),
   .hbmAddrWrite ⟨4, true, 0⟩ (2 ^ 64) (.badTag 6),
   .hbmAddrWrite ⟨4, true, 0⟩ (2 ^ 64 - 1) (.badTag 7),
   .hbmDataWrite ⟨5, false, 0⟩ (2 ^ 32 - 1) (.badTag 6),
   .hbmDataWrite ⟨4, true, 0⟩ (2 ^ 32) (.badTag 6),
   .hbmDataWrite ⟨4, true, 0⟩ (2 ^ 32 - 1) (.badTag 7),
   .hbmDataRead ⟨5, false, 0⟩ (.badTag 6),
   .hbmDataRead ⟨4, true, 0⟩ (.badTag 7),
   .hbmFlush ⟨5, false, 0⟩ (.badTag 6),
   .hbmFlush ⟨4, true, 0⟩ (.badTag 7),
   .hbmReadDeliver .beryl 64 (2 ^ 22 - 1) (.badTag 6),
   .hbmReadDeliver .beryl 63 (2 ^ 22) (.badTag 6),
   .hbmReadDeliver .beryl 63 (2 ^ 22 - 1) (.badTag 7),
   .memLateAlarm 64 6 (2 ^ 22 - 1),
   .memLateAlarm 63 7 (2 ^ 22 - 1),
   .memLateAlarm 63 6 (2 ^ 22),
   .memLastRead ⟨5, false, 0⟩,
   .masterRefusedRead ⟨5, false, 0⟩,
   .flashTransfer 5,
   .flowDataWrite ⟨5, false, 0⟩ 3 (2 ^ 32 - 1),
   .flowDataWrite ⟨4, true, 0⟩ 4 (2 ^ 32 - 1),
   .flowDataWrite ⟨4, true, 0⟩ 3 (2 ^ 32),
   .queueAddrWrite ⟨5, false, 0⟩ 3 (2 ^ 32 - 1),
   .queueAddrWrite ⟨4, true, 0⟩ 4 (2 ^ 32 - 1),
   .queueAddrWrite ⟨4, true, 0⟩ 3 (2 ^ 32)] : List Instr).all (fun i => !i.wf) = true := by decide +kernel
/-- One ill-formed term for each check of each command. -/
theorem test_illFormed6 : ([
   .queueDataWrite ⟨5, false, 0⟩ 3 (2 ^ 32 - 1),
   .queueDataWrite ⟨4, true, 0⟩ 4 (2 ^ 32 - 1),
   .queueDataWrite ⟨4, true, 0⟩ 3 (2 ^ 32),
   .tailDropsRead ⟨5, false, 0⟩ 3,
   .tailDropsRead ⟨4, true, 0⟩ 4,
   .gateDataWrite ⟨5, false, 0⟩ 31 (2 ^ 32 - 1),
   .gateDataWrite ⟨4, true, 0⟩ 32 (2 ^ 32 - 1),
   .gateDataWrite ⟨4, true, 0⟩ 31 (2 ^ 32),
   .gateArm ⟨5, false, 0⟩ 31,
   .gateArm ⟨4, true, 0⟩ 32,
   .gateDisarm ⟨5, false, 0⟩ 31,
   .gateDisarm ⟨4, true, 0⟩ 32,
   .polAddrWrite ⟨5, false, 0⟩ 3 (2 ^ 32 - 1),
   .polAddrWrite ⟨4, true, 0⟩ 4 (2 ^ 32 - 1),
   .polAddrWrite ⟨4, true, 0⟩ 3 (2 ^ 32),
   .polDataWrite ⟨5, false, 0⟩ 3 (2 ^ 32 - 1),
   .polDataWrite ⟨4, true, 0⟩ 4 (2 ^ 32 - 1),
   .polDataWrite ⟨4, true, 0⟩ 3 (2 ^ 32),
   .tbSet ⟨5, false, 0⟩ 3 (2 ^ 96 - 1),
   .tbSet ⟨4, true, 0⟩ 4 (2 ^ 96 - 1),
   .tbSet ⟨4, true, 0⟩ 3 (2 ^ 96),
   .tbStep ⟨5, false, 0⟩ 3 (-1),
   .tbStep ⟨4, true, 0⟩ 4 (-1),
   .tbInvalidate ⟨5, false, 0⟩ 3,
   .tbInvalidate ⟨4, true, 0⟩ 4,
   .servoOffset ⟨5, false, 0⟩ 3 (-1),
   .servoOffset ⟨4, true, 0⟩ 4 (-1),
   .forceHoldover ⟨5, false, 0⟩ 3,
   .forceHoldover ⟨4, true, 0⟩ 4,
   .servoUpdateTimeout 4,
   .tbNowRead ⟨5, false, 0⟩ 3,
   .tbNowRead ⟨4, true, 0⟩ 4,
   .captureCmd ⟨5, false, 0⟩,
   .tmrCtrlWrite ⟨5, false, 0⟩ 3 (2 ^ 32 - 1),
   .tmrCtrlWrite ⟨4, true, 0⟩ 4 (2 ^ 32 - 1),
   .tmrCtrlWrite ⟨4, true, 0⟩ 3 (2 ^ 32),
   .tbTimerFire 4 3,
   .tbTimerFire 3 4,
   .txTsDataRead ⟨5, false, 0⟩ 31,
   .txTsDataRead ⟨4, true, 0⟩ 32,
   .txTsLostRead ⟨5, false, 0⟩ 31,
   .txTsLostRead ⟨4, true, 0⟩ 32,
   .saStatDataRead ⟨5, false, 0⟩ true,
   .perfSelWrite ⟨5, false, 0⟩ 63 (2 ^ 32 - 1),
   .perfSelWrite ⟨4, true, 0⟩ 64 (2 ^ 32 - 1),
   .perfSelWrite ⟨4, true, 0⟩ 63 (2 ^ 32),
   .perfChainWrite ⟨5, false, 0⟩ (2 ^ 32 - 1),
   .perfChainWrite ⟨4, true, 0⟩ (2 ^ 32),
   .perfCtrlWrite ⟨5, false, 0⟩ (2 ^ 32 - 1),
   .perfCtrlWrite ⟨4, true, 0⟩ (2 ^ 32),
   .dumpRequest ⟨5, false, 0⟩,
   .dumpDataRead ⟨5, false, 0⟩,
   .freezeRequest ⟨5, false, 0⟩,
   .freezeRelease ⟨5, false, 0⟩,
   .helloSend 4,
   .helloRx 4 ⟨1, 1, 1, 5, 9, false, 0, 0, 0, [], true, 0⟩,
   .helloRx 3 ⟨16, 1, 1, 5, 9, false, 0, 0, 0, [], true, 0⟩,
   .helloTimeout 4,
   .linkStateRx 4 ⟨1, 1, 1, 5, 9, false, 0, 0, 0, [], true, 0⟩,
   .linkStateRx 3 ⟨16, 1, 1, 5, 9, false, 0, 0, 0, [], true, 0⟩,
   .linkStateAge 256,
   .fabMsgRelay 4 ⟨1, 1, 1, 5, 9, false, 0, 0, 0, [], true, 0⟩,
   .fabMsgRelay 3 ⟨16, 1, 1, 5, 9, false, 0, 0, 0, [], true, 0⟩,
   .roleTakeoverRx ⟨16, 1, 1, 5, 9, false, 0, 0, 0, [], true, 0⟩,
   .roleStaleRx ⟨16, 1, 1, 5, 9, false, 0, 0, 0, [], true, 0⟩,
   .fabHeartbeatRx 4 [255],
   .fabHeartbeatRx 3 [256],
   .peerHbRx [256],
   .leaseRenewRx ⟨16, 1, 1, 5, 9, false, 0, 0, 0, [], true, 0⟩,
   .leaseAnswerRx ⟨16, 1, 1, 5, 9, false, 0, 0, 0, [], true, 0⟩] : List Instr).all (fun i => !i.wf) = true := by decide +kernel
/-- One ill-formed term for each check of each command. -/
theorem test_illFormed7 : ([
   .leaseClaimRx ⟨16, 1, 1, 5, 9, false, 0, 0, 0, [], true, 0⟩,
   .resvReqRx ⟨16, 1, 1, 5, 9, false, 0, 0, 0, [], true, 0⟩,
   .resvConfRx ⟨16, 1, 1, 5, 9, false, 0, 0, 0, [], true, 0⟩,
   .replaySyncRx ⟨16, 1, 1, 5, 9, false, 0, 0, 0, [], true, 0⟩,
   .roleCtrlWrite ⟨5, false, 0⟩ 3 (2 ^ 32 - 1),
   .roleCtrlWrite ⟨4, true, 0⟩ 4 (2 ^ 32 - 1),
   .roleCtrlWrite ⟨4, true, 0⟩ 3 (2 ^ 32),
   .rolePreferActiveTimeout 4,
   .roleSwitchArm ⟨5, false, 0⟩ 3 (2 ^ 64 - 1),
   .roleSwitchArm ⟨4, true, 0⟩ 4 (2 ^ 64 - 1),
   .roleSwitchArm ⟨4, true, 0⟩ 3 (2 ^ 64),
   .saMoveCheckRx ⟨16, 1, 1, 5, 9, false, 0, 0, 0, [], true, 0⟩,
   .moveAnswerRx ⟨16, 1, 1, 5, 9, false, 0, 0, 0, [], true, 0⟩,
   .saMoveRx ⟨16, 1, 1, 5, 9, false, 0, 0, 0, [], true, 0⟩,
   .saFinalRx ⟨16, 1, 1, 5, 9, false, 0, 0, 0, [], true, 0⟩,
   .resetCmdDevice ⟨5, false, 0⟩,
   .resetCmdController ⟨5, false, 0⟩,
   .resetCmdDatapath ⟨5, false, 0⟩,
   .flashLinkEstablish 5,
   .serdesCalibration [8],
   .fwUpdateA ⟨5, false, 0⟩ true,
   .fwUpdateB ⟨5, false, 0⟩ true,
   .fwPreferWrite ⟨5, false, 0⟩ (2 ^ 32 - 1),
   .fwPreferWrite ⟨4, true, 0⟩ (2 ^ 32),
   .fwSvnCommit ⟨5, false, 0⟩ (2 ^ 32 - 1),
   .fwSvnCommit ⟨4, true, 0⟩ (2 ^ 32),
   .datapathArm ⟨5, false, 0⟩,
   .datapathDisarm ⟨5, false, 0⟩,
   .holdEnter ⟨5, false, 0⟩,
   .holdExit ⟨5, false, 0⟩,
   .clockReturned 25,
   .fabClkReturn 4,
   .amLockAcquired 32 .line,
   .multiframeAligned (.otu 8 .line),
   .outOfMultiframe (.otu 8 .line),
   .roleStaleRx { (⟨1, 1, 1, 5, 9, false, 0, 0, 0, [], true, 0⟩ : FabMsg) with typ := 256 },
   .roleStaleRx { (⟨1, 1, 1, 5, 9, false, 0, 0, 0, [], true, 0⟩ : FabMsg) with ttl := 16 },
   .roleStaleRx { (⟨1, 1, 1, 5, 9, false, 0, 0, 0, [], true, 0⟩ : FabMsg) with src := 256 },
   .roleStaleRx { (⟨1, 1, 1, 5, 9, false, 0, 0, 0, [], true, 0⟩ : FabMsg) with dst := 256 },
   .roleStaleRx { (⟨1, 1, 1, 5, 9, false, 0, 0, 0, [], true, 0⟩ : FabMsg) with seq := 65536 },
   .roleStaleRx { (⟨1, 1, 1, 5, 9, false, 0, 0, 0, [], true, 0⟩ : FabMsg) with group := 256 },
   .roleStaleRx { (⟨1, 1, 1, 5, 9, false, 0, 0, 0, [], true, 0⟩ : FabMsg) with epoch := 2 ^ 32 },
   .roleStaleRx { (⟨1, 1, 1, 5, 9, false, 0, 0, 0, [], true, 0⟩ : FabMsg) with crc := 2 ^ 32 },
   .roleStaleRx { (⟨1, 1, 1, 5, 9, false, 0, 0, 0, [], true, 0⟩ : FabMsg) with payload := [2 ^ 32] },
   .kdaRequest (.arrive 0 0 []),
   .kdaRequest (.arrive 1 0 [2 ^ 32]),
   .blockLockLost (.lane 64),
   .blockLockLost (.fec 31 .line 32),
   .otnLof (.trib 8 .line 0),
   .otnLof (.trib 0 .line 80),
   .scrubStep [⟨0, 131072, true⟩],
   .tamperLoopAlarm [(7, 4)]] : List Instr).all (fun i => !i.wf) = true := by decide +kernel

/-- Every command once, at the upper end of its operands. -/
theorem test_wellFormed1 : ([
   .registerWrite ⟨4, true, 0⟩ (2 ^ 24 - 1) (2 ^ 2048 - 1),
   .kdaRequest .serve,
   .kdaRead ⟨4, true, 0⟩ (2 ^ 24 - 1),
   .kdaWrite ⟨4, true, 0⟩ (2 ^ 24 - 1) [255],
   .kdaWindowRead ⟨4, true, 0⟩ (2 ^ 24 - 1) (2 ^ 32 - 1),
   .kdaWindowWrite ⟨4, true, 0⟩ (2 ^ 24 - 1) [255],
   .spiWriteRequest [255] true,
   .spiReadStatus,
   .spiReadReply 1,
   .spiChannelReset,
   .mgArpRequest 2 true 1 1,
   .mgLinkLoss 2,
   .chanReset ⟨4, true, 0⟩ 3,
   .evtSubscribe ⟨4, true, 0⟩ 3,
   .evtUnsubscribe ⟨4, true, 0⟩ 3,
   .evtMsgSend 3,
   .evtDataRead ⟨4, true, 0⟩,
   .evtDataSRead ⟨4, true, 0⟩,
   .evtLostRead ⟨4, true, 0⟩ true,
   .evtPendingClear ⟨4, true, 0⟩ 11 (2 ^ 32 - 1),
   .chanRejectedRead ⟨4, true, 0⟩ 3,
   .chanRxDropsRead ⟨4, true, 0⟩ 3,
   .tickBoundary,
   .commitPoint,
   .graceEnd 131071,
   .leaseExpiry 3,
   .migrationDrainEnd,
   .commitReport,
   .heartbeatSend,
   .reservationSend,
   .dumpStart,
   .bgJobSuspend 5,
   .hbmCounterWriteback,
   .shadowCompareStep [255],
   .dumpChunk,
   .scrubStep [⟨2, 131071, true⟩],
   .standbySelftestStep true,
   .tickRealign ⟨4, true, 0⟩ (2 ^ 64 - 1),
   .syncInEdge 9999999,
   .syncInLost,
   .clockLost 24,
   .bgOverrunRead ⟨4, true, 0⟩ 5,
   .groupLayoutWrite ⟨4, true, 0⟩ 7 (2 ^ 32 - 1),
   .groupModeWrite ⟨4, true, 0⟩ 7 (2 ^ 32 - 1),
   .laneCtrlWrite ⟨4, true, 0⟩ 63 (2 ^ 32 - 1),
   .laneSignalDetect 63,
   .laneCdrLock 63,
   .laneCdrTimeout 63,
   .laneTrainComplete 63 (2 ^ 30 - 1),
   .laneTrainTimeout 63,
   .laneTrainRetry 63,
   .laneAdaptDone 63 65535,
   .laneAdaptTimeout 63,
   .laneLos 63,
   .laneCdrLost 63,
   .blockLockAcquired (.lane 63) 1,
   .blockLockLost (.lane 63),
   .fabClkLost 3,
   .fabSyncAcquired 3 3,
   .fabSyncLost 3 3 1,
   .fabAlignSetRx 3 1,
   .fabAlignSetSend 3,
   .fabCtrlWrite ⟨4, true, 0⟩ 3 (2 ^ 32 - 1),
   .pgCtrlWrite ⟨4, true, 0⟩ 79 (2 ^ 32 - 1),
   .injOnce ⟨4, true, 0⟩ 79,
   .injRateError 79,
   .prbsCheckerLock 79,
   .prbsLockLost 79 1 1,
   .pcsHiErr 31 .line ⟨0, 0, 0⟩,
   .pcsHiErrClear 31 .line ⟨0, 0, 0⟩] : List Instr).all Instr.wf = true := by decide +kernel
/-- Every command once, at the upper end of its operands. -/
theorem test_wellFormed2 : ([
   .amLockLost 31 .line ⟨0, 0, 0⟩,
   .faultReceived 31 .line .none,
   .otlLaneLocked 7 .line 19 255 1,
   .otlLaneUnlocked 7 .line 19,
   .otlDeskew 7 .line 1 1,
   .otnLof (.trib 7 .host 79),
   .otnLofClear (.trib 7 .host 79),
   .otnLom (.trib 7 .host 79),
   .otnLomClear (.trib 7 .host 79),
   .otnPsiRx 7 .line 255 [255] true true,
   .gmpJcRx 7 .line 79 (2 ^ 14 - 1) (2 ^ 14 - 1) true,
   .tsiDataWrite ⟨4, true, 0⟩ 3 (2 ^ 32 - 1),
   .tsiCopy ⟨4, true, 0⟩ 3,
   .tsiSwapArm ⟨4, true, 0⟩ 3 (2 ^ 64 - 1),
   .tsiGroupSwap 3 1 1,
   .l1DataWrite ⟨4, true, 0⟩ 3 (2 ^ 32 - 1),
   .l1SwitchArm ⟨4, true, 0⟩ 3 (2 ^ 64 - 1),
   .l1MultiframeTx 3 159 [255] [⟨2, 131071, true⟩],
   .l1AnnounceRx 3 159 [255],
   .l1TagRx 3 159 [255] (2 ^ 128 - 1) [⟨2, 131071, true⟩],
   .pmSecond 7 ⟨0, false, 0⟩ ⟨0, false, 0⟩ ⟨0, 0, 0⟩ ⟨0, 0, 0⟩,
   .pmBinClose 7 true,
   .pmSelectWrite ⟨4, true, 0⟩ 7 (2 ^ 32 - 1),
   .hostFrameRx 31 [255] true [255] [⟨2, 131071, true⟩],
   .lineFrameRx 31 [255] true [255] [⟨2, 131071, true⟩],
   .slowPathDone 7,
   .inboundChecks 31 true true,
   .verifyTail 31,
   .queueAdmission 31,
   .frameEligible 31,
   .schedulerAnnounce 31,
   .detAnnounce 31 true,
   .gateEvent 31,
   .ruleAddrWrite ⟨4, true, 0⟩ 7 (2 ^ 32 - 1),
   .ruleDataWrite ⟨4, true, 0⟩ 7 (2 ^ 32 - 1),
   .stagingClaimTimeout 64,
   .lpmInsert ⟨4, true, 0⟩,
   .lpmDelete ⟨4, true, 0⟩,
   .lpmFind ⟨4, true, 0⟩,
   .learnInsertStatic ⟨4, true, 0⟩ 3,
   .learnDelete ⟨4, true, 0⟩ 3,
   .learnFind ⟨4, true, 0⟩ 3,
   .learnFlushAll ⟨4, true, 0⟩ 3,
   .learnFlushPort ⟨4, true, 0⟩ 3,
   .learnFlushSc ⟨4, true, 0⟩ 3,
   .learnFlushDone 3,
   .learnFifoRetire 3,
   .ageSweep 3,
   .slowOverflowRead ⟨4, true, 0⟩ 7,
   .learnFullRead ⟨4, true, 0⟩ 3,
   .scAddrWrite ⟨4, true, 0⟩ (2 ^ 32 - 1),
   .scDataWrite ⟨4, true, 0⟩ (2 ^ 32 - 1),
   .saAddrWrite ⟨4, true, 0⟩ (2 ^ 32 - 1),
   .saDataWrite ⟨4, true, 0⟩ (2 ^ 32 - 1),
   .saStage ⟨4, true, 0⟩ (2 ^ 32 - 1),
   .saRetire ⟨4, true, 0⟩ (2 ^ 32 - 1),
   .keyAddrWrite ⟨4, true, 0⟩ (2 ^ 32 - 1),
   .keyDataWrite ⟨4, true, 0⟩ (2 ^ 32 - 1),
   .armTickWrite ⟨4, true, 0⟩ 15 (2 ^ 64 - 1),
   .migTickWrite ⟨4, true, 0⟩ (2 ^ 64 - 1),
   .resvDropsRead ⟨4, true, 0⟩,
   .migrateLateRead ⟨4, true, 0⟩,
   .cipherCtrlWrite ⟨4, true, 0⟩ 31 (2 ^ 32 - 1),
   .latClear ⟨4, true, 0⟩ 31,
   .detLateRead ⟨4, true, 0⟩ 31,
   .verifyLastRead ⟨4, true, 0⟩ 31,
   .berylDescWrite ⟨4, true, 0⟩ (2 ^ 32 - 1),
   .berylSubmitUrgent ⟨4, true, 0⟩,
   .berylSubmitNormal ⟨4, true, 0⟩,
   .berylJobStart] : List Instr).all Instr.wf = true := by decide +kernel
/-- Every command once, at the upper end of its operands. -/
theorem test_wellFormed3 : ([
   .berylSuspend,
   .berylJobDone true (.badTag 6),
   .berylDoneRead ⟨4, true, 0⟩,
   .berylAbortNormal ⟨4, true, 0⟩,
   .berylAbortUrgent ⟨4, true, 0⟩,
   .berylAbortAll ⟨4, true, 0⟩,
   .berylKeyregClear ⟨4, true, 0⟩ (2 ^ 32 - 1),
   .berylIoDataAccess ⟨4, true, 0⟩ (.write (2 ^ 32 - 1)),
   .berylClearDone,
   .jasperClaim ⟨4, true, 0⟩,
   .jasperRelease ⟨4, true, 0⟩,
   .jasperZeroingDone 3,
   .jasperDataAccess ⟨4, true, 0⟩ (.write (2 ^ 32 - 1)),
   .ecdsaSign ⟨4, true, 0⟩ (2 ^ 32 - 1),
   .ecdsaVerify ⟨4, true, 0⟩ (2 ^ 32 - 1),
   .ecKeygen ⟨4, true, 0⟩ (2 ^ 32 - 1),
   .ecdh ⟨4, true, 0⟩ (2 ^ 32 - 1),
   .ecValidate ⟨4, true, 0⟩ (2 ^ 32 - 1),
   .x25519 ⟨4, true, 0⟩ (2 ^ 32 - 1),
   .x25519Keygen ⟨4, true, 0⟩ (2 ^ 32 - 1),
   .rsaPublic ⟨4, true, 0⟩ (2 ^ 32 - 1),
   .rsaPrivate ⟨4, true, 0⟩ (2 ^ 32 - 1),
   .modInv ⟨4, true, 0⟩ (2 ^ 32 - 1),
   .curveLoad ⟨4, true, 0⟩ (2 ^ 32 - 1),
   .jasperJobStart,
   .jasperJobDone true,
   .jasperAbort ⟨4, true, 0⟩,
   .jasperResultRead ⟨4, true, 0⟩,
   .pufAttemptDone 1,
   .keyDerivationDone,
   .pkeyRecordScan,
   .epochAdvanceWrite ⟨4, true, 0⟩ (2 ^ 32 - 1),
   .epochAdvanceDone,
   .plaintextKeyEnWrite ⟨4, true, 0⟩ (2 ^ 32 - 1),
   .pkeyStore ⟨4, true, 0⟩,
   .pkeyLoad ⟨4, true, 0⟩,
   .pkeyErase ⟨4, true, 0⟩,
   .pkeyOpDone true,
   .zeroiseCmd ⟨4, true, 0⟩,
   .zeroiseCmdWipe ⟨4, true, 0⟩,
   .zeroiseClearingDone,
   .persistWipeDone,
   .monitorFire [⟨5, 3000000, 3300001, 1000, 0, 3300001⟩],
   .monitorRearm 28,
   .tempSample (-1),
   .tamperLoopAlarm [(7, 3)],
   .loopSettled 7,
   .loopFault 7,
   .loopArm ⟨4, true, 0⟩ 7,
   .loopDisarm ⟨4, true, 0⟩ 7,
   .flagClear ⟨4, true, 0⟩ (2 ^ 32 - 1),
   .onyxRtcWrite ⟨4, true, 0⟩ (2 ^ 64 - 1),
   .rtcSyncTb0 ⟨4, true, 0⟩,
   .rtcSyncLoad,
   .logAck ⟨4, true, 0⟩ (2 ^ 32 - 1),
   .logDataRead ⟨4, true, 0⟩,
   .onyxCrystalFail,
   .onyxCrystalRestore,
   .onyxPowerOn,
   .mainPowerChange true,
   .lcToEnrol ⟨4, true, 0⟩,
   .lcToOwned ⟨4, true, 0⟩,
   .lcToReturned ⟨4, true, 0⟩,
   .lcToScrap ⟨4, true, 0⟩,
   .lcWindowDone true,
   .lcCleanupDone,
   .enrolStart ⟨4, true, 0⟩,
   .enrolDone [255] true,
   .debugConsentWrite ⟨4, true, 0⟩ (2 ^ 32 - 1),
   .dbgRequest ⟨4, true, 0⟩ (2 ^ 32 - 1)] : List Instr).all Instr.wf = true := by decide +kernel
/-- Every command once, at the upper end of its operands. -/
theorem test_wellFormed4 : ([
   .dbgResponseWrite ⟨4, true, 0⟩ (2 ^ 32 - 1),
   .dbgCheckDone,
   .dbgChallengeExpire,
   .attachHello ⟨4, true, 0⟩,
   .attachReplyReady 3,
   .attachProof ⟨4, true, 0⟩,
   .attachOpen 3,
   .attachEnd ⟨4, true, 0⟩,
   .attachDataAccess ⟨4, true, 0⟩ (.write (2 ^ 32 - 1)),
   .attachExpire 3,
   .attachLockoutEnd 3,
   .sessionTimeout 3,
   .ownerBindWrite ⟨4, true, 0⟩,
   .ownerBindDone true,
   .regionEnable ⟨4, true, 0⟩ 63 (2 ^ 32 - 1),
   .regionDisable ⟨4, true, 0⟩ 63 (2 ^ 32 - 1),
   .regionInitDone 63,
   .hbmAddrWrite ⟨4, true, 0⟩ (2 ^ 64 - 1) (.badTag 6),
   .hbmDataWrite ⟨4, true, 0⟩ (2 ^ 32 - 1) (.badTag 6),
   .hbmDataRead ⟨4, true, 0⟩ (.badTag 6),
   .hbmFlush ⟨4, true, 0⟩ (.badTag 6),
   .hbmReadDeliver .beryl 63 (2 ^ 22 - 1) (.badTag 6),
   .memLateAlarm 63 6 (2 ^ 22 - 1),
   .memLastRead ⟨4, true, 0⟩,
   .masterRefusedRead ⟨4, true, 0⟩,
   .flashTransfer 4,
   .flowDataWrite ⟨4, true, 0⟩ 3 (2 ^ 32 - 1),
   .queueAddrWrite ⟨4, true, 0⟩ 3 (2 ^ 32 - 1),
   .queueDataWrite ⟨4, true, 0⟩ 3 (2 ^ 32 - 1),
   .tailDropsRead ⟨4, true, 0⟩ 3,
   .gateDataWrite ⟨4, true, 0⟩ 31 (2 ^ 32 - 1),
   .gateArm ⟨4, true, 0⟩ 31,
   .gateDisarm ⟨4, true, 0⟩ 31,
   .polAddrWrite ⟨4, true, 0⟩ 3 (2 ^ 32 - 1),
   .polDataWrite ⟨4, true, 0⟩ 3 (2 ^ 32 - 1),
   .tbSet ⟨4, true, 0⟩ 3 (2 ^ 96 - 1),
   .tbStep ⟨4, true, 0⟩ 3 (-1),
   .tbInvalidate ⟨4, true, 0⟩ 3,
   .servoOffset ⟨4, true, 0⟩ 3 (-1),
   .forceHoldover ⟨4, true, 0⟩ 3,
   .servoUpdateTimeout 3,
   .tbNowRead ⟨4, true, 0⟩ 3,
   .captureCmd ⟨4, true, 0⟩,
   .tmrCtrlWrite ⟨4, true, 0⟩ 3 (2 ^ 32 - 1),
   .tbTimerFire 3 3,
   .ppsPulse,
   .txTsDataRead ⟨4, true, 0⟩ 31,
   .txTsLostRead ⟨4, true, 0⟩ 31,
   .saStatDataRead ⟨4, true, 0⟩ true,
   .perfSelWrite ⟨4, true, 0⟩ 63 (2 ^ 32 - 1),
   .perfChainWrite ⟨4, true, 0⟩ (2 ^ 32 - 1),
   .perfCtrlWrite ⟨4, true, 0⟩ (2 ^ 32 - 1),
   .dumpRequest ⟨4, true, 0⟩,
   .dumpDataRead ⟨4, true, 0⟩,
   .freezeRequest ⟨4, true, 0⟩,
   .freezeEngage,
   .freezeRelease ⟨4, true, 0⟩,
   .freezeTimeout,
   .helloSend 3,
   .helloRx 3 ⟨1, 1, 1, 5, 9, false, 0, 0, 0, [], true, 0⟩,
   .helloTimeout 3,
   .linkStateSend,
   .linkStateRx 3 ⟨1, 1, 1, 5, 9, false, 0, 0, 0, [], true, 0⟩,
   .linkStateAge 255,
   .routeRecompute,
   .fabMsgRelay 3 ⟨1, 1, 1, 5, 9, false, 0, 0, 0, [], true, 0⟩,
   .roleTakeoverRx ⟨1, 1, 1, 5, 9, false, 0, 0, 0, [], true, 0⟩,
   .roleStaleRx ⟨1, 1, 1, 5, 9, false, 0, 0, 0, [], true, 0⟩,
   .fabHeartbeatRx 3 [255],
   .peerHbRx [255]] : List Instr).all Instr.wf = true := by decide +kernel
/-- Every command once, at the upper end of its operands. -/
theorem test_wellFormed5 : ([
   .heartbeatCheck,
   .actLockWatchdog,
   .leaseRenewRx ⟨1, 1, 1, 5, 9, false, 0, 0, 0, [], true, 0⟩,
   .leaseAnswerRx ⟨1, 1, 1, 5, 9, false, 0, 0, 0, [], true, 0⟩,
   .leaseClaimRx ⟨1, 1, 1, 5, 9, false, 0, 0, 0, [], true, 0⟩,
   .leaseClaimDecide,
   .resvReqRx ⟨1, 1, 1, 5, 9, false, 0, 0, 0, [], true, 0⟩,
   .resvConfRx ⟨1, 1, 1, 5, 9, false, 0, 0, 0, [], true, 0⟩,
   .replaySyncSend,
   .replaySyncRx ⟨1, 1, 1, 5, 9, false, 0, 0, 0, [], true, 0⟩,
   .takeoverDone,
   .roleCtrlWrite ⟨4, true, 0⟩ 3 (2 ^ 32 - 1),
   .rolePreferActiveTimeout 3,
   .roleSwitchArm ⟨4, true, 0⟩ 3 (2 ^ 64 - 1),
   .saMoveCheckRx ⟨1, 1, 1, 5, 9, false, 0, 0, 0, [], true, 0⟩,
   .moveAnswerRx ⟨1, 1, 1, 5, 9, false, 0, 0, 0, [], true, 0⟩,
   .saMoveRx ⟨1, 1, 1, 5, 9, false, 0, 0, 0, [], true, 0⟩,
   .saFinalRx ⟨1, 1, 1, 5, 9, false, 0, 0, 0, [], true, 0⟩,
   .resetNAssert,
   .vcorePowerOn,
   .resetCmdDevice ⟨4, true, 0⟩,
   .resetCmdController ⟨4, true, 0⟩,
   .resetCmdDatapath ⟨4, true, 0⟩,
   .controllerWatchdog,
   .clockLock true,
   .flashLinkEstablish 4,
   .pendingZeroiseRun,
   .lifecycleRead,
   .rootReconstruction,
   .firmwareCheck,
   .hbmInit true,
   .serdesCalibration [7],
   .startupComplete,
   .fwUpdateA ⟨4, true, 0⟩ true,
   .fwUpdateB ⟨4, true, 0⟩ true,
   .fwUpdateDone true true,
   .fwPreferWrite ⟨4, true, 0⟩ (2 ^ 32 - 1),
   .fwSvnCommit ⟨4, true, 0⟩ (2 ^ 32 - 1),
   .datapathArm ⟨4, true, 0⟩,
   .datapathDisarm ⟨4, true, 0⟩,
   .disarmDrained,
   .holdEnter ⟨4, true, 0⟩,
   .holdEntryDone,
   .holdExit ⟨4, true, 0⟩,
   .holdExitDone,
   .resetNRelease,
   .clockReturned 24,
   .fabClkReturn 3,
   .amLockAcquired 31 .line,
   .multiframeAligned (.trib 7 .host 79),
   .outOfMultiframe (.trib 7 .host 79),
   .lpmOpDone,
   .datapathResetDone] : List Instr).all Instr.wf = true := by decide +kernel

/-- A running device whose firmware serves every object: engine, firmware and start-up done, a secure session on SPI. -/
def base : State :=
  { State.reset with
    boot := { State.reset.boot with engine := true, fw := true, onyxUp := true, steps := [1, 2, 3, 4, 5, 50, 6, 7, 8] }
    chans := [(0, { State.idleChan with sess := some ⟨[], 0, 0, 0, 0, 0⟩ })] }
/-- `s` with registers written. -/
def put (l : List (Nat × Nat)) (s : State) : State := l.foldl (fun s e => wr s e.1 e.2) s
/-- The secure requester on SPI and a non-secure one on MGA. -/
def r0 : Req := ⟨0, false, 0⟩
def r1 : Req := ⟨1, false, 0⟩
def ln (f : Lines → Lines) (s : State) : State := { s with lines := f s.lines }
def otu (x : Otl) : State := ln (fun l => { l with otl := [(14, x)] }) (put [(K.groupLayout 7, 11), (K.groupMode 7, 1)] base)
def lane20 : Otl := { otl0 with lanes := (List.range 20).map (fun i => (i, i)) }
def l1of (x : L1Ctx) : State :=
  { put [(K.armStatus, 1)] base with
    lines := { base.lines with tsi := [(1920, 0xE09F0000), (2080, 0xE09F0000)], l1 := [(639, x)] }, assoc := { base.assoc with slot := [(0, { slot0 with complete := true })] } }
def bin0 : PmBin := ⟨0, 0, 0, ⟨0, 0, 0, 0⟩, ⟨0, 0, 0, 0⟩⟩
def stg (g : Nat) (l : List Word) (s : State) : State := { s with stage := [(g, l)] }
def asc (f : Assoc → Assoc) (s : State) : State := { s with assoc := f s.assoc }
def dpt (f : Dp → Dp) (s : State) : State := { s with dp := f s.dp }
def tbl (f : Tables → Tables) (s : State) : State := { s with tables := f s.tables }
/-- A prefix of 32 bits in its first bucket, and a learning entry in its bucket. -/
def lpmHit (op : Nat) : State :=
  tbl (fun t => { t with lpmOp := op, lpm := [(8 * lpmCand 0 false 32 (2 ^ 32 - 1) + 7, [2 ^ 31 + 32 * 2 ^ 16, 2 ^ 32 - 1, 0, 0])] })
    (put [(K.lpmPrefix, 32), (K.lpmKey, (2 ^ 32 - 1) * 2 ^ 96), (K.lpmLenV4, 2 ^ 31)] base)
theorem lpm_hit (op : Nat) : lpmPlace (lpmHit op) false 32 (lpmMask false 32 (2 ^ 32 - 1)) =
    some (8 * lpmCand 0 false 32 (2 ^ 32 - 1) + 7) := by
  have e : lpmMask false 32 (2 ^ 32 - 1) = 2 ^ 32 - 1 := by decide +kernel
  rw [e]
  simp [lpmPlace, lpmInBucket, lpmEntry, lpmHit, tbl, tget, nth, List.range, List.range.loop, List.find?, bit, bits, lpmKeyOf]
theorem lpm_len (op : Nat) : (lpmEntry (lpmHit op) (8 * lpmCand 0 false 32 (2 ^ 32 - 1) + 7)).length = 4 := by
  simp [lpmEntry, lpmHit, tbl, tget]
/-- An empty longest-prefix table with operation `op` under way, and an empty learning table. -/
def lpmNone (op : Nat) : State := tbl (fun t => { t with lpmOp := op, lpm := [] }) (put [(K.lpmPrefix, 32), (K.lpmLenV4, 2 ^ 31)] base)
theorem lpm_none (op : Nat) : lpmPlace (lpmNone op) false 32 (lpmMask false 32 0) = none := by
  simp [lpmPlace, lpmInBucket, lpmEntry, lpmNone, tbl, tget, nth, List.range, List.range.loop, bit, bits]
theorem lpm_room (a b : Nat) : lpmRoom (lpmNone 1) false a b ≠ [] := by
  simp [lpmRoom, lpmFree, lpmEntry, lpmNone, tbl, tget, nth, List.range, List.range.loop]
def learnNone : State := tbl (fun t => { t with learn := [] }) base
theorem learn_none (k : Nat) : learnFindAt learnNone 3 k = none := by
  simp [learnFindAt, learnBucketOf, learnAt, learnNone, tbl, tget, List.range, List.range.loop]
theorem learn_room (k : Nat) : learnFree learnNone 3 k ≠ [] := by
  simp [learnFree, learnBucketOf, learnAt, learnNone, tbl, tget, List.range, List.range.loop]
def ent0 : LearnEnt := ⟨2 ^ 48 - 1, 65535, 31, true, true, 0⟩
def learned : State :=
  tbl (fun t => { t with learn := [(3 * 131072 + (8 * (Config.learnBucket 0 (2 ^ 48 - 1)).toNat + 7), some ent0)] })
    (put [(K.learnKey 3, 2 ^ 48 - 1)] base)
theorem learn_at : learnAt learned 3 (8 * (Config.learnBucket 0 (2 ^ 48 - 1)).toNat + 7) = some ent0 := by
  simp [learnAt, learned, tbl, tget]
theorem learn_find : learnFindAt learned 3 (rd learned (K.learnKey 3)) =
    some (8 * (Config.learnBucket 0 (2 ^ 48 - 1)).toNat + 7) := by
  have e : rd learned (K.learnKey 3) = 2 ^ 48 - 1 := by decide +kernel
  rw [e]
  simp [learnFindAt, learnBucketOf, learnAt, learned, tbl, tget, List.range, List.range.loop, List.find?, ent0]
def saBase : State :=
  stg Grp.sa [0, 1, 0, 0, 0, 0, 0, 0, 0, 1, 0, 0, 0, 0, 0, 0]
    (asc (fun a => { a with sc := [(5, { sc0 with ctrl := 0x80000C00 })] }) (put [(K.saAddr, 7 * 2 ^ 20 + 131071)] base))
def gateSet : GateSet := { gate0 with words := [(0, 255), (1, 1000)] }
def gate31 (l : List (Nat × Nat)) : State := dpt (fun d => { d with gates := [(31, gateSet)] }) (put ([(K.gateCtrl 31, 65536), (K.gateCycle 31, 1000)] ++ l) base)
def gateOn : State := gate31 [(K.gateCtrl 31, 65539), (K.tbStatus 3, 1), (K.tickStatus, 1)]
def eth : List Nat := [2, 0, 0, 0, 0, 1, 2, 0, 0, 0, 0, 2, 0x88, 0xB5] ++ List.replicate 46 0
/-- Port 31 up on both sides and armed; ports 24 to 31 are 10G. -/
def up (l : List (Nat × Nat)) : State :=
  put ([(K.groupLayout 7, 1), (K.groupMode 7, 1), (K.laneStatus 63, 133), (K.laneStatus 31, 133), (K.armStatus, 1)] ++ l) base
def frm (stage cells : Nat) : Frm := ⟨31, eth, 2 ^ 30, 0, stage, 0, cells, 0, 0, 0, none, none, []⟩
def inDp (f : Frm) (fl : Tbl Nat) (s : State) : State :=
  dpt (fun d => { d with outq := [(31, [f])], flows := fl, ques := [(3 * 4096, some { que0 3 with port := 31 })] }) s
def hostS1 (s : State) : State :=
  cellsTake (inc (inc s (K.outHostFrames 31) 1) (K.outHostOctets 31) (eth.length + 4)) (31 / 8) (cellsOf eth.length)
theorem hdr_eth : hdrReason eth (parseFast eth) = none := by decide +kernel
theorem over_eth : (parseFast eth).overl = false := by decide +kernel
theorem tags_eth : decide (2 < (parseFast eth).tags.length) = false := by decide +kernel
theorem front_eth (s : State) (j : Nat) (d : Bool) : frontFast s j d eth (parseFast eth) = .go (parseFast eth) false false := by
  simp only [frontFast, hdr_eth, over_eth, tags_eth, Bool.false_eq_true, if_false]
def slowF : SlowFrm := ⟨false, 31, eth, true, false, 0, [], []⟩
def slowS : State := dpt (fun d => { d with slow := [(7, [slowF])] }) (up [(K.outDefault 31, 2 ^ 30)])
def slowS1 : State := perfAdd (inc (setSlowQ slowS 7 []) (K.slowFrames 7) 1) (192 + 7) 1
def saOf (x : SaEnt) : State :=
  asc (fun a => { a with sa := [(131071, x)], slot := [(131071, { slot0 with complete := true })] }) base
def lineS1 (s : State) : State :=
  perfAdd (inc (inc s (K.inLineFrames 31) 1) (K.inLineOctets 31) (eth.length + 4)) (160 + 31) (eth.length + 4)
def schS : State := inDp (frm 2 2) [] (up [])
def schS2 : State := oversize (gateRefresh (passTo schS (annClock schS 31)) 31) 31
def schS3 : State := ((drrTurn schS2 31 0 (readyHeads schS2 31 0)).map (·.1)).getD schS2
def detS : State := inDp (frm 3 2) [] (up [(K.cipherCtrl 31, 1)])
def detS1 : State := setOutQ (passTo detS (Nat.max (frm 3 2).elig (annFree detS 31))) 31 []
theorem sch_turn : drrTurn schS2 31 0 (readyHeads schS2 31 0) = some (schS3, frm 2 2) := by
  have h : (drrTurn schS2 31 0 (readyHeads schS2 31 0)).map (·.2) = some (frm 2 2) := by decide +kernel
  unfold schS3; revert h
  cases drrTurn schS2 31 0 (readyHeads schS2 31 0) with
  | none => simp
  | some x => intro h; simp at h; simp [← h]
theorem grant_bypass (s : State) (n : Nat) (b : List Byte) : grant s (frm n 2) b = (s, none, .sent b false) := by
  have h : resAction (2 ^ 30) ≠ Act.secure := by decide +kernel
  rw [grant, frm, if_pos h]
theorem classify_same {s : State} {j q : Nat} {i sl cut : Bool} {b : List Byte} {p : Parsed} {r : Nat} (h : (classify s j i q b p sl cut).2 = some r) :
    classify s j i q b p sl cut = (s, some r) := by
  unfold classify at h ⊢
  dsimp only at h ⊢
  generalize parityFound s j i p (macKey p (fieldBE b 0 6)) = l at h ⊢
  cases l with
  | cons x l => simp at h
  | nil => exact Prod.ext rfl h
theorem det_s2 : detS1 = (if false = true then inc (if (frm 3 2).elig < annFree detS 31 then incFirst detS1 (K.detLate 31) Ev.detLate 31 0 else detS1) (K.detAmDefer 31) 1
    else if (frm 3 2).elig < annFree detS 31 then incFirst detS1 (K.detLate 31) Ev.detLate 31 0 else detS1) := by
  rw [if_neg (by decide), if_neg (by decide +kernel)]
theorem lookup_none (s : State) (i : Nat) (h : Option Nat) : s = lookupHits s i h [] := rfl
/-- A frame with a SecTAG that carries its SCI, and a port whose frames all are secured. -/
def sec : List Nat := [2, 0, 0, 0, 0, 1, 2, 0, 0, 0, 0, 2, 0x88, 0xE5, 0x2C, 0, 0, 0, 0, 9, 0, 0, 0, 0, 0, 0, 0, 5] ++ List.replicate 46 0
def secUp (l : List (Nat × Nat)) : State :=
  asc (fun a => { a with sc := [(5, { sc0 with ctrl := 0xC0000C00, sci := 5, an := [(0, 2 ^ 31 + 131071)] })], sa := [(131071, { sa0 with st := 2, sc := 5, pn := 9 })],
                         slot := [(131071, { slot0 with complete := true })] }) (up ([(K.inDefault 31, 2 ^ 29 + 5), (K.outDefault 31, 2 ^ 29 + 5)] ++ l))
theorem hdr_sec : hdrReason sec (parseFast sec) = none := by decide +kernel
theorem over_sec : (parseFast sec).overl = false := by decide +kernel
theorem tags_sec : decide (2 < (parseFast sec).tags.length) = false := by decide +kernel
theorem front_sec (s : State) (j : Nat) (d : Bool) : frontFast s j d sec (parseFast sec) = .go (parseFast sec) false false := by
  simp only [frontFast, hdr_sec, over_sec, tags_sec, Bool.false_eq_true, if_false]
def lineSec : State :=
  perfAdd (inc (inc (secUp []) (K.inLineFrames 31) 1) (K.inLineOctets 31) (sec.length + 4)) (160 + 31) (sec.length + 4)
def inF : InFrm :=
  { q := 31, bytes := eth, fcsOk := true, overl := false, flow := 0, sc := none, ent := sc0, handle := none, acc := true, hit := false, held := false, det := false,
    sf := false, pnLo := 0, pn := 0, secAt := 0, tagAt := 0, tags := 0, tci := 0, key := [], salt := [], h := 0, ssci := 0, epoch := 0,
    checked := false, learn := 0, clk := 0, ing := [], wait := 0, dom := [] }
def slowI : State := dpt (fun d => { d with slow := [(7, [{ slowF with inb := true }])] }) (up [(K.inDefault 31, 2 ^ 30)])
def slowI1 : State := perfAdd (inc (setSlowQ slowI 7 []) (K.slowFrames 7) 1) (192 + 7) 1
def inS (f : InFrm) : State :=
  dpt (fun d => { d with inq := [(31, [f])] }) (asc (fun a => { a with sc := [(5, { sc0 with ctrl := 0xC0000C00 })] }) base)
def inV (f : InFrm) : State :=
  asc (fun a => { a with sa := [(131071, { sa0 with st := 2, sc := 5, pn := 9 })], slot := [(131071, { slot0 with complete := true })] }) (inS f)
/-- A frame of secured octets whose tag is right under the key of zeros. -/
def goodF0 : InFrm := { inF with checked := true, sc := some 5, handle := some 131071, bytes := sec, secAt := 28, tagAt := 12, tci := 0x2C, key := List.replicate 16 0, salt := List.replicate 12 0, h := hashKey (List.replicate 16 0) }
def goodF : InFrm := { goodF0 with bytes := sec.take 58 ++ gcmTag goodF0.key (frameIv false 0 0 0 goodF0.salt) (sec.take 28) ((sec.take 58).drop 28) }
def tks (f : TickSt → TickSt) (s : State) : State := { s with tick := f s.tick }
def sts (f : Stats → Stats) (s : State) : State := { s with stats := f s.stats }
def fbs (f : FabSt → FabSt) (s : State) : State := { s with fab := f s.fab }
def snap0 : Snap := ⟨0, 0, 0, 0, [], 0, 0, [], []⟩
/-- This node is 9; a message from node 5, and the same broadcast. -/
def msg (typ : Nat) (l : List Word) : FabMsg := FabMsg.sealed ⟨2, typ, 1, 5, 9, false, 0, 1, 0, l, true, 0⟩
def node9 (l : List (Nat × Nat)) : State := put ([(K.fabNodeId, 9), (K.fabVersionMax, 3)] ++ l) base
def role (x : RoleSt) (l : List (Nat × Nat)) : State :=
  fbs (fun f => { f with roles := [(3, x)] }) (node9 ([(K.roleMembersA 3, 0x05060700)] ++ l))
/-- Entry 3 in pair mode with node 5 for group 1, and in lease mode with nodes 5, 6 and 7. -/
def pair (x : RoleSt) (l : List (Nat × Nat)) : State := role x ([(K.roleCtrl 3, 0x90010103), (K.fabStatus 3, 95)] ++ l)
def lease (x : RoleSt) (l : List (Nat × Nat)) : State := role x ([(K.roleCtrl 3, 0xA8010300)] ++ l)
def rst (n : Nat) : RoleSt := { role0 with st := n }
def hbGood : List Nat := let l := [0, 0, 0, 0, 0xB5, 5, 1, 0, 0, 0, 0, 0, 0, 0, 0]; l ++ [crc8 (l.drop 4)]
def burst (t : Nat) : List Nat := [0xAB, 5, 1, t, crc8 [5, 1, t]]
def withSa (x : SaEnt) (s : State) : State := asc (fun a => { a with sa := [(131071, x)] }) s
def sa9 : SaEnt := { sa0 with node := 9, st := 2, waitMove := true }
def hbs (f : Hbm → Hbm) (s : State) : State := { s with hbm := f s.hbm }
def bys (f : Beryl → Beryl) (s : State) : State := { s with beryl := f s.beryl }
def jas (x : JPart) (s : State) : State := { s with jasper := { s.jasper with parts := [(3, x)], run := some 3, queue := [3] } }
def kys (f : KeySt → KeySt) (s : State) : State := { s with keys := f s.keys }
def ons (f : Onyx → Onyx) (s : State) : State := { s with onyx := f s.onyx }
def lfs (f : Life → Life) (s : State) : State := { s with life := f s.life }
def bts (f : Boot → Boot) (s : State) : State := { s with boot := f s.boot }
def cht (c : Nat) (f : Chan → Chan) (s : State) : State := { s with chans := tset State.idleChan s.chans c (f (chan s c)) }
def att (c : Nat) (f : Attach → Attach) (s : State) : State := cht c (fun x => { x with attach := f x.attach }) s
def sess0 : Sess := ⟨[], 0, 0, 0, 0, 0⟩
def hbmAt (n off : Nat) : Nat := n * 2 ^ 32 + off
def region (l : List (Nat × Nat)) : State := put ([(K.regionStatus 63, 1)] ++ l) base
/-- Descriptors: AES-128 ECB encryption of one block, and a GCM opening of a tag alone. -/
def ecb : List Word := [0x01000000, 0, 0, 4, 16] ++ List.replicate 15 0
def gcm : List Word := [0x07001000, 0, 0, 4, 16] ++ List.replicate 15 0
def job (d : List Word) : BRun := ⟨d, false, 0, false, List.replicate 16 0, [], 0, false⟩
def wordsAt (i : Nat) (l : List Word) : Tbl Word := ((List.range l.length).map (i + ·)).zip l
def recA : List Word := let w := [2 ^ 24 + 3 * 65536 + 16 * 256, 1, 0] ++ List.replicate 12 0; w ++ [crc32Words w, commitWord]
def live (l : List (Nat × Nat)) : State := put ([(K.startupStatus, 256)] ++ l) base
def steps (l : List Nat) (s : State) : State := bts (fun b => { b with steps := l }) s
/-- Step 5a of a unit whose array has given helper data. -/
def pufS : State := steps [1, 2, 3, 4, 51] (put [(K.rootSource, 1)] base)
theorem puf_one (c : Nat) (h : rootCheck (pufRoot 0) = c) (w : popWorst (2 ^ 24 - 1) = 24) :
    pufTry (some 0) c (2 ^ 24 - 1) = some (pufRoot 0, 24) := by
  simp only [pufTry, w, h, and_true]
  simp
theorem puf_try : rootTry pufS (2 ^ 24 - 1) = some (pufRoot 0, 24) := by
  have e : rd pufS K.rootSource = 1 := by decide +kernel
  have c : pufS.keys.check = rootCheck (pufRoot 0) := rfl
  rw [rootTry, if_pos e]
  exact puf_one _ c.symm (by decide +kernel)

/-- The state a command leaves (unchanged where it answers none), and a pending source. -/
def go (c : Instr) (s : State) : State := match exec c s with | .next t => t | _ => s
def pend (t : State) (n : Nat) : Bool := rdBit t (K.evtPending (n / 32)) (n % 32)
def code (c : Instr) (s : State) : Code := (go c s).reply.code

/-! Accesses (R13–R16, R420). -/
theorem test_read_default : (go (.kdaRead r0 (0x7000 * 256)) base).reply = ⟨.ok, [12]⟩ := by decide +kernel
theorem test_read_only : code (.registerWrite r0 K.tickNumber 0) base = .readOnly := by decide +kernel
theorem test_no_object : code (.kdaRead r0 0xFFFFFF) base = .noObject := by decide +kernel
theorem test_world : code (.kdaRead r1 K.keyData) base = .worldViolation := by decide +kernel
theorem test_not_ready : code (.kdaRead r0 K.keyData) (bts (fun b => { b with fw := false }) base) = .notReady := by decide +kernel

/-! The request of the example under R425: TICK_NUMBER, VERIFY_LAST and two words of the dump bank. -/
def mgRequest : State :=
  cht 1 (fun x => { x with queue := [(0, 7, [0x10030000, 0x01010004, 0x10800001, 0x1061000B, 0x30920006, 4])] })
    (sts (fun x => { x with bank := [0x4B440001, 0x233] })
      (put [(K.groupLayout 0, 9), (K.tickNumber, 176723040000424), (K.verifyLast 0, 0x80008E2C), (K.chanCtrl 1, 3)] base))
theorem test_kda_example : (go (.kdaRequest .serve) mgRequest).out =
    [.kda 1 7 [0x11030500, 0x01010008, 0x00020000, 0x0000A0BA, 0x8A05D9A8, 0x00010000, 0x80008E2C, 0x00020005, 0x4B440001, 0x233]] := by
  decide +kernel
theorem test_kda_example_bank : (go (.kdaRequest .serve) mgRequest).stats.bank = [] := by decide +kernel

/-! The SYNC_IN edge of the example under R47: e = −2,200 ns is slewed where a rekey is armed at N + 6, else stepped at N + 2. -/
def edge (arm : Nat) : State :=
  put [(K.tickStatus, 1), (K.tickNumber, 1000), (K.syncSource, 1), (K.syncStepEn, 1), (K.syncStepThreshold, 1000), (K.armTick 1, arm)] base
theorem test_sync_step_blocked : (go (.syncInEdge 7800000) (edge 1006)).tick.slew = -2750 ∧
    pend (go (.syncInEdge 7800000) (edge 1006)) Ev.syncStepBlocked = true := by decide +kernel
theorem test_sync_step : (go (.syncInEdge 7800000) (edge none64)).tick.step = some (2, -2750) := by decide +kernel

/-! The gate list of the example under R337: S at ns 4,250,000, the swap in the tick 79 ahead. -/
def gateList (strict : Nat) : State :=
  { dpt (fun d => { d with gates := [(8, { gate0 with words := [(0, 64), (1, 100000), (2, 191), (3, 900000)] })] })
      (put [(K.groupLayout 2, 9), (K.gateCtrl 8, 131072 + strict * 16), (K.gateCycle 8, 1000000),
            (K.gateBase 8, 1767230400 * 2 ^ 32 + 250000), (K.tbStatus 0, 1), (K.tickStatus, 1), (K.tickNumber, 176723040000345)] base) with
    tbs := [(0, { State.idleTb with base := 1767230400003456789 * 2 ^ 32 })]
    tick := { base.tick with target := 1767230400003460000 * 2 ^ 32 } }
theorem test_gate_arm : rd (go (.gateArm r0 8) (gateList 0)) (K.gateSwapTick 8) = 176723040000424 ∧
    rd (go (.gateArm r0 8) (gateList 0)) (K.gateStart 8) = 1767230400 * 2 ^ 32 + 4250000 := by decide +kernel
theorem test_gate_arm_strict : code (.gateArm r0 8) (gateList 1) = .lateCommit ∧
    pend (go (.gateArm r0 8) (gateList 1)) Ev.gateBasePast = true := by decide +kernel

/-! The classification of the example under R130: a mark replaces TC and FLOW; rule 0 lets EAPOL out in clear. -/
def rule3 (data mask res : Nat) : List Word := [0, 0, 0, data, 0, 0, 0, 0, 0, 0, 0, 0, 0, mask, 0, 0, 0, 0, 0, 0, res, 2 ^ 31]
def rules : State :=
  tbl (fun t => { t with rules := [(0, rule3 0x888E0000 0xFFFF0000 0x40000000), (1, rule3 0x1400 0xFFF0 0x98A30000)] })
    (put [(K.outDefault 0, 0x28109E2C)] base)
def vlan320 : List Nat := [2, 0, 0, 0, 0, 1, 2, 0, 0, 0, 0, 2, 0x81, 0, 0x01, 0x40, 0x88, 0xB5] ++ List.replicate 46 0
def eapol : List Nat := [2, 0, 0, 0, 0, 1, 2, 0, 0, 0, 0, 2, 0x88, 0x8E] ++ List.replicate 46 0
theorem test_mark : (classify rules 0 false 0 vlan320 (parseFast vlan320) false false).2 = some 0x38A39E2C := by decide +kernel
theorem test_bypass : (classify rules 0 false 0 eapol (parseFast eapol) false false).2 = some 0x40000000 := by decide +kernel

/-! Check values and published vectors of the algorithms: CRC-32 (R11), CRC-8, AES-128 (FIPS 197), AES-GCM, SHA-256 (FIPS 180-4). -/
theorem test_crc32 : crc32 [49, 50, 51, 52, 53, 54, 55, 56, 57] = 0xCBF43926 := by decide +kernel
theorem test_crc8 : crc8 [49, 50, 51, 52, 53, 54, 55, 56, 57] = 0xF4 := by decide +kernel
theorem test_aes128 : ofBytes (aesEnc (toBytes 16 0x000102030405060708090A0B0C0D0E0F) (toBytes 16 0x00112233445566778899AABBCCDDEEFF)) =
    0x69C4E0D86A7B0430D8CDB78070B4C55A := by decide +kernel
theorem test_gcm : gcmSeal (List.replicate 16 0) (List.replicate 12 0) [] (List.replicate 16 0) =
    (toBytes 16 0x0388DACE60B6A392F328C2B971B2FE78, toBytes 16 0xAB6E47D42CEC13BDF53A67B21257BDDF) := by decide +kernel
theorem test_sha256 : ofBytes (sha256 [97, 98, 99]) = 0xBA7816BF8F01CFEA414140DE5DAE2223B00361A396177A9CB410FF61F20015AD := by decide +kernel
theorem test_mod_inv : (jpart (go (.jasperJobDone true) (jas { jpart0 with cmd := 24 * 2 ^ 24 + 64, mem := [(1, 7), (129, 3)] } base)) 3).status = 1 := by
  decide +kernel

/-! The timers of the example under R357: under SIGNED a target behind NS32 by more than 2^31 fires at once with LATE. -/
def timer (mode target : Nat) : State :=
  { put [(K.tbCtrl 1, mode * 16), (K.tmrTarget 1 0, target)] base with tbs := [(1, { State.idleTb with base := 0xFF000000 * 2 ^ 32 })] }
theorem test_timer_signed_late : rd (go (.tmrCtrlWrite r0 1 1) (timer 1 0x8F000000)) (K.tmrCtrl 1) = 0x100 := by decide +kernel
theorem test_timer_signed_ahead : rd (go (.tmrCtrlWrite r0 1 1) (timer 1 0x06000000)) (K.tmrCtrl 1) = 1 := by decide +kernel
theorem test_timer_extend : rd (go (.tmrCtrlWrite r0 1 1) (timer 0 0xFE000000)) (K.tmrCtrl 1) = 1 := by decide +kernel

/-! A key switch (R146–R149; the example of the fleet rekey): the staged SA becomes ACTIVE, the old one keeps 200 ticks of grace; with
an incomplete slot it is SKIPPED. -/
def rekey (complete : Bool) : State :=
  asc (fun a => { a with sc := [(5, { sc0 with ctrl := 0xC0000C00, an := [(0, 2 ^ 31 + 7), (1, 2 ^ 31 + 8)], cur := some 7 })],
                         sa := [(7, { sa0 with st := 2, sc := 5 }), (8, { sa0 with st := 1, sc := 5, an := 1, arm := 2, pn := 1 })],
                         slot := [(7, { slot0 with complete := true }), (8, { slot0 with complete := complete })] })
    (put [(K.tickNumber, 999), (K.armTick 2, 999), (K.tickStatus, 1)] base)
theorem test_rekey : (saAt (go .commitPoint (rekey true)) 8).st = 2 ∧ (saAt (go .commitPoint (rekey true)) 7).st = 3 ∧
    (saAt (go .commitPoint (rekey true)) 7).graceEnd = 1199 := by decide +kernel
theorem test_rekey_skipped : (saAt (go .commitPoint (rekey false)) 8).st = 6 ∧ (saAt (go .commitPoint (rekey false)) 7).st = 2 := by
  decide +kernel
theorem test_arm_consumed : rd (go .commitPoint (rekey true)) (K.armTick 2) = none64 := by decide +kernel

/-! Lanes, tables, queues, policers. -/
theorem test_lane_signal : laneState (go (.laneSignalDetect 63) (put [(K.laneStatus 63, 1)] base)) 63 = 2 := by decide +kernel
theorem test_tsi_type : code (.tsiDataWrite r0 0 (2 ^ 31 + 5 * 2 ^ 27)) base = .unsupportedValue := by decide +kernel
theorem test_queue_burst : code (.queueDataWrite r0 3 63)
    (stg (Grp.queue 3) [31 * 2 ^ 24 + 64, 1, 0, 0] (put [(K.queueAddr 3, 3 * 65536)] base)) = .unsupportedValue := by decide +kernel
theorem test_policer_adjust : code (.polDataWrite r0 3 0xBF00)
    (stg (Grp.pol 3) [0, 64, 0, 64, 0] (put [(K.polAddr 3, 4 * 65536)] base)) = .unsupportedValue := by decide +kernel
theorem test_bypass_sent : (go (.schedulerAnnounce 31) (inDp (frm 2 2) [] (up []))).out = [.frame .line 31 eth true] := by decide +kernel

/-! Worlds and memory, life cycle, tamper, fabric, attachment, reset. -/
theorem test_hbm_poisoned_line : code (.hbmDataRead r0 .good)
    (hbs (fun h => { h with lines := [(lineKey 63 0 0, { hline0 with poison := true })] }) (region [(K.hbmAddr, hbmAt 63 0)])) = .memoryError := by
  decide +kernel
theorem test_lifecycle_not_listed : code (.lcToEnrol r0) base = .unsupportedValue := by decide +kernel
theorem test_lifecycle_armed : code (.lcToScrap r0) (put [(K.armStatus, 1)] base) = .wrongState := by decide +kernel
theorem test_zeroise : rdBit (go (.zeroiseCmd r0) base) K.zeroiseStatus 0 = true ∧ rd (go (.zeroiseCmd r0) base) K.zeroiseCount = 1 := by
  decide +kernel
theorem test_flag_clear : rd (go (.flagClear r0 5) (put [(K.tamperFlags, 7)] base)) K.tamperFlags = 2 := by decide +kernel
theorem test_hello_joins : joined (go (.helloRx 3 (msg 1 [255, 0, 3, 3, 3])) (node9 [(K.fabStatus 3, 64)])) 3 = true := by decide +kernel
theorem test_attach_locked : pend (go (.attachHello r0) (att 0 (fun a => { a with locked := some 1 }) base)) Ev.attachFail = true := by decide +kernel
theorem test_source_numbers : (Ev.verifyFail, Ev.peerLost, Ev.zeroiseDone) = (96, 259, 150) := by decide +kernel
theorem test_data_path_reset : (go (.resetCmdDatapath r0) base).boot.dpReset = true := by decide +kernel
theorem test_perf_selector : code (.perfSelWrite r0 0 1023) base = .unsupportedValue := by decide +kernel

/-! The queue: the front command runs on the rest; an empty queue idles for one core clock. -/
theorem test_step_front : step { base with pending := [.lcToEnrol r0, .tickBoundary] } =
    exec (.lcToEnrol r0) { base with pending := [.tickBoundary] } := rfl


/-- The clauses of Obligations.LaneStateSteps are about something. -/
theorem test_witness_LaneStateSteps :
    (∃ (m : _) (s : State), m < 64 ∧ laneState s m = Lane.waitSignal) ∧
    (∃ (m : _) (s : State), m < 64 ∧ laneState s m = Lane.cdr ∧ trains s m = true ∧ rdBit s (K.laneStatus m) 6 = false) ∧
    (∃ (m : _) (s : State), m < 64 ∧ laneState s m = Lane.cdr ∧ (trains s m = false ∨ rdBit s (K.laneStatus m) 6 = true)) ∧
    (∃ (m : _) (s : State), m < 64 ∧ laneState s m = Lane.cdr) ∧
    (∃ (m : _) (taps : _) (s : State), m < 64 ∧ taps < 2 ^ 30 ∧ laneState s m = Lane.training) ∧
    (∃ (m : _) (s : State), m < 64 ∧ laneState s m = Lane.training) ∧
    (∃ (m : _) (s : State), m < 64 ∧ laneState s m = Lane.trainFailed) ∧
    (∃ (m : _) (snr : _) (s : State), m < 64 ∧ snr < 65536 ∧ laneState s m = Lane.adapt) ∧
    (∃ (m : _) (s : State), m < 64 ∧ laneState s m = Lane.adapt) ∧
    (∃ (m : _) (s : State), m < 64 ∧ laneState s m = Lane.test) ∧
    (∃ (m : _) (s : State), m < 64 ∧ laneState s m = Lane.test) :=
   ⟨⟨63, put [(K.laneStatus 63, 1)] base, by decide +kernel⟩,
    ⟨31, put [(K.groupLayout 7, 5), (K.laneStatus 31, 2), (K.laneCtrl 31, 4)] base, by decide +kernel⟩,
    ⟨63, put [(K.laneStatus 63, 2)] base, by decide +kernel⟩,
    ⟨63, put [(K.laneStatus 63, 2)] base, by decide +kernel⟩,
    ⟨63, 2 ^ 30 - 1, put [(K.laneStatus 63, 3)] base, by decide +kernel⟩,
    ⟨63, put [(K.laneStatus 63, 3)] base, by decide +kernel⟩,
    ⟨63, put [(K.laneStatus 63, 6)] base, by decide +kernel⟩,
    ⟨63, 65535, put [(K.laneStatus 63, 4)] base, by decide +kernel⟩,
    ⟨63, put [(K.laneStatus 63, 4)] base, by decide +kernel⟩,
    ⟨63, put [(K.laneStatus 63, 7)] base, by decide +kernel⟩,
    ⟨63, put [(K.laneStatus 63, 7)] base, by decide +kernel⟩⟩

/-- The clauses of Obligations.LaneLossAndTraining are about something. -/
theorem test_witness_LaneLossAndTraining :
    (∃ (m : _) (s : State), m < 64 ∧ laneState s m ≠ Lane.off ∧ laneState s m ≠ Lane.test ∧ loopedBack s m = false) ∧
    (∃ (m : _) (s : State), m < 64 ∧ laneState s m = Lane.test ∧ loopedBack s m = false) ∧
    (∃ (m : _) (s : State), m < 64 ∧ laneState s m ≠ Lane.adapt ∧ laneState s m ≠ Lane.ready) ∧
    (∃ (m : _) (s : State), m < 64 ∧ ((laneState s m = Lane.adapt ∨ laneState s m = Lane.ready))) :=
   ⟨⟨63, put [(K.laneStatus 63, 6)] base, by decide +kernel⟩,
    ⟨63, put [(K.groupLayout 7, 1), (K.groupMode 7, 3), (K.laneStatus 63, 0x37)] base, by decide +kernel⟩,
    ⟨63, put [(K.laneStatus 63, 0x22)] base, by decide +kernel⟩,
    ⟨63, put [(K.laneStatus 63, 0x24)] base, by decide +kernel⟩⟩

/-- The clauses of Obligations.LaneControls are about something. -/
theorem test_witness_LaneControls :
    (∃ (r : Req) (n : _) (v : _) (s : State), n < 8 ∧ v ≤ 11 ∧ ((v = 11 → s.unit.variant ≠ 1)) ∧ mode s n = 0 ∧ layoutTooFast s n v = false ∧ Admitted s r (K.groupLayout n) true) ∧
    (∃ (r : Req) (n : _) (s : State), mode s n ≠ 0 ∧ Admitted s r (K.groupLayout n) true) ∧
    (∃ (r : Req) (n : _) (v : _) (s : State), n < 8 ∧ v ≤ 3 ∧ Admitted s r (K.groupMode n) true) ∧
    (∃ (r : Req) (n : _) (v : _) (s : State), 3 < v ∧ v < 256 ∧ Admitted s r (K.groupMode n) true) ∧
    (∃ (r : Req) (m : _) (v : _) (s : State), m < 64 ∧ bits v 5 4 ≠ 3 ∧ ((bit v 2 = true → trainAllowed s m = true)) ∧ Admitted s r (K.laneCtrl m) true) ∧
    (∃ (r : Req) (m : _) (s : State), m < 64 ∧ rdBit s (K.laneCtrl m) 2 = true ∧ Admitted s r (K.txFir m) true) :=
   ⟨⟨r0, 7, 11, base, by decide +kernel⟩,
    ⟨r0, 7, put [(K.groupMode 7, 1)] base, by decide +kernel⟩,
    ⟨r0, 7, 3, base, by decide +kernel⟩,
    ⟨r0, 7, 255, base, by decide +kernel⟩,
    ⟨r0, 31, 0x1CF, put [(K.groupLayout 7, 10)] base, by decide +kernel⟩,
    ⟨r0, 63, put [(K.laneCtrl 63, 4)] base, by decide +kernel⟩⟩

/-- The clauses of Obligations.BlockLock are about something. -/
theorem test_witness_BlockLock :
    (∃ (m : _) (s : State), m < 64 ∧ laneState s m = Lane.ready ∧ laneBlock s m = true) ∧
    (∃ (q : _) (sd : _) (l : _) (s : State), q < 32 ∧ isPort s q = true ∧ fecOf s q sd ≠ 1 ∧ l < pcsLanes s q ∧ decoding s q sd = true) ∧
    (∃ (m : _) (s : State), m < 64 ∧ rdBit s (K.laneStatus m) 7 = true) ∧
    (∃ (q : _) (sd : _) (l : _) (s : State), q < 32 ∧ l ∈ (pcsBlk s q sd).locked) :=
   ⟨⟨63, put [(K.groupLayout 7, 1), (K.laneStatus 63, 5)] base, by decide +kernel⟩,
    ⟨31, .host, 19, put [(K.groupLayout 7, 5), (K.pcsStatus 31, 512), (K.laneStatus 63, 5)] base, by decide +kernel⟩,
    ⟨63, put [(K.laneStatus 63, 128)] base, by decide +kernel⟩,
    ⟨31, .host, 19, ln (fun l => { l with pcs := [(63, ⟨[19]⟩)] }) base, by decide +kernel⟩⟩

/-- The clauses of Obligations.PatternsAndCheckers are about something. -/
theorem test_witness_PatternsAndCheckers :
    (∃ (r : Req) (m : _) (v : _) (s : State), m < 80 ∧ patternOk s m (v % 16) = true ∧ ((bits v 15 8 = 0 ∨ 10 ≤ bits v 15 8 ∧ bits v 15 8 ≤ 40)) ∧ Admitted s r (K.pgCtrl m) true) ∧
    (∃ (r : Req) (m : _) (s : State), m < 80 ∧ transmits s m = true ∧ Admitted s r (K.pgCtrl m) true) ∧
    (∃ (m : _) (s : State), m < 80 ∧ transmits s m = true ∧ rdField s (K.pgCtrl m) 15 8 ≠ 0) ∧
    (∃ (m : _) (s : State), m < 80 ∧ patternActive s m = true ∧ rdBit s (K.pgCtrl m) 5 = true ∧ ((nearEnd s m = true → rdBit s (K.pgCtrl m) 4 = true))) ∧
    (∃ (m : _) (s : State), m < 80 ∧ rdBit s (K.chkStatus m) 0 = true) :=
   ⟨⟨r0, 79, 40 * 256 + 10, base, by decide +kernel⟩,
    ⟨r0, 79, put [(K.fabCtrl 3, 1)] base, by decide +kernel⟩,
    ⟨79, put [(K.fabCtrl 3, 1), (K.pgCtrl 79, 2560)] base, by decide +kernel⟩,
    ⟨79, put [(K.fabCtrl 3, 2), (K.pgCtrl 79, 32)] base, by decide +kernel⟩,
    ⟨79, put [(K.chkStatus 79, 1)] base, by decide +kernel⟩⟩

/-- The clauses of Obligations.PcsConditions are about something. -/
theorem test_witness_PcsConditions :
    (∃ (q : _) (s : State), q < 32 ∧ isPort s q = true ∧ fecOf s q .line ≠ 1) ∧
    (∃ (q : _) (s : State), q < 32 ∧ isPort s q = true ∧ fecOf s q .host ≠ 1) ∧
    (∃ (q : _) (s : State), q < 32 ∧ isPort s q = true ∧ fecOf s q .line ≠ 1) ∧
    (∃ (q : _) (sd : _) (s : State), isPort s q = true ∧ fecOf s q sd ≠ 1) ∧
    (∃ (q : _) (s : State), q < 32 ∧ rdBit s (K.pcsStatus q) 1 = true) ∧
    (∃ (q : _) (s : State), q < 32 ∧ rdBit s (K.pcsStatus q) 9 = true) ∧
    (∃ (q : _) (s : State), isPort s q = true) :=
   ⟨⟨31, put [(K.groupLayout 7, 5)] base, by decide +kernel⟩,
    ⟨31, put [(K.groupLayout 7, 5)] base, by decide +kernel⟩,
    ⟨31, put [(K.groupLayout 7, 5)] base, by decide +kernel⟩,
    ⟨31, .host, put [(K.groupLayout 7, 5)] base, by decide +kernel⟩,
    ⟨31, put [(K.pcsStatus 31, 2)] base, by decide +kernel⟩,
    ⟨31, put [(K.pcsStatus 31, 512)] base, by decide +kernel⟩,
    ⟨31, put [(K.groupLayout 7, 1)] base, by decide +kernel⟩⟩

/-- The clauses of Obligations.OtnAlignment are about something. -/
theorem test_witness_OtnAlignment :
    (∃ (n : _) (sd : _) (lane : _) (s : State), n < 8 ∧ lane < 20 ∧ isOtu4 s n = true ∧ ((∀ x, (lane, x) ∉ (otl s n sd).lanes))) ∧
    (∃ (n : _) (s : State), n < 8 ∧ isOtu4 s n = true) ∧
    (∃ (n : _) (sd : _) (skew : _) (s : State), n < 8 ∧ isOtu4 s n = true ∧ (otl s n sd).lanes.length = 20 ∧ otlClash (otl s n sd).lanes = [] ∧ skew ≤ 256) ∧
    (∃ (n : _) (sd : _) (skew : _) (s : State), n < 8 ∧ isOtu4 s n = true ∧ (otl s n sd).lanes.length = 20 ∧ otlClash (otl s n sd).lanes = [] ∧ 256 < skew ∧ (otl s n sd).aligned = true) ∧
    (∃ (n : _) (sd : _) (s : State), n < 8 ∧ isOtu4 s n = true ∧ (otl s n sd).aligned = false) ∧
    (∃ (n : _) (i : _) (s : State), i < 80 ∧ isOtu4 s n = true) ∧
    (∃ (n : _) (sd : _) (s : State), (otl s n sd).aligned = true) ∧
    (∃ (n : _) (i : _) (s : State), i < 80 ∧ isOtu4 s n = true) ∧
    (∃ (n : _) (sd : _) (s : State), isOtu4 s n = true ∧ (otl s n sd).aligned = true) ∧
    (∃ (n : _) (i : _) (s : State), i < 80 ∧ isOtu4 s n = true) ∧
    (∃ (n : _) (s : State), isOtu4 s n = true) ∧
    (∃ (n : _) (i : _) (s : State), i < 80 ∧ isOtu4 s n = true) ∧
    (∃ (n : _) (sd : _) (s : State), n < 8 ∧ isOtu4 s n = true ∧ (otl s n sd).oom = true) ∧
    (∃ (n : _) (sd : _) (i : _) (s : State), i < 80 ∧ (trib s n sd i).oom = true) ∧
    (∃ (n : _) (sd : _) (s : State), (otl s n sd).aligned = true ∧ (otl s n sd).mfOk = true) ∧
    (∃ (n : _) (sd : _) (i : _) (s : State), i < 80 ∧ (trib s n sd i).inFrame = true ∧ (trib s n sd i).mfOk = true) :=
   ⟨⟨7, .line, 19, otu otl0, by decide +kernel, by decide +kernel, by decide +kernel, fun x => by rw [show (otl (otu otl0) 7 .line).lanes = [] by decide +kernel]; simp⟩,
    ⟨7, otu lane20, by decide +kernel⟩,
    ⟨7, .line, 256, otu lane20, by decide +kernel⟩,
    ⟨7, .line, 257, otu { lane20 with aligned := true }, by decide +kernel⟩,
    ⟨7, .line, otu lane20, by decide +kernel⟩,
    ⟨7, 79, otu otl0, by decide +kernel⟩,
    ⟨7, .line, otu { lane20 with aligned := true }, by decide +kernel⟩,
    ⟨7, 79, otu otl0, by decide +kernel⟩,
    ⟨7, .line, otu { lane20 with aligned := true }, by decide +kernel⟩,
    ⟨7, 79, otu otl0, by decide +kernel⟩,
    ⟨7, otu otl0, by decide +kernel⟩,
    ⟨7, 79, otu otl0, by decide +kernel⟩,
    ⟨7, .line, otu { lane20 with oom := true }, by decide +kernel⟩,
    ⟨7, .line, 79, ln (fun l => { l with trib := [(14 * 80 + 79, { trib0 with oom := true, inFrame := true, mfOk := true })] }) (otu otl0), by decide +kernel⟩,
    ⟨7, .line, otu { lane20 with aligned := true, mfOk := true }, by decide +kernel⟩,
    ⟨7, .line, 79, ln (fun l => { l with trib := [(14 * 80 + 79, { trib0 with oom := true, inFrame := true, mfOk := true })] }) (otu otl0), by decide +kernel⟩⟩

/-- The clauses of Obligations.OtnTributaries are about something. -/
theorem test_witness_OtnTributaries :
    (∃ (n : _) (s : State), n < 8 ∧ isOtu4 s n = true) ∧
    (∃ (n : _) (sd : _) (i : _) (cm : _) (s : State), n < 8 ∧ i < 80 ∧ (cmRange s n sd i).1 ≤ cm ∧ cm ≤ (cmRange s n sd i).2 ∧ isOtu4 s n = true) ∧
    (∃ (n : _) (sd : _) (i : _) (s : State), n < 8 ∧ i < 80 ∧ isOtu4 s n = true ∧ (trib s n sd i).bad = 4 ∧ (trib s n sd i).loss = false) ∧
    (∃ (n : _) (sd : _) (i : _) (cm : _) (ok : Bool) (s : State), n < 8 ∧ i < 80 ∧ isOtu4 s n = true ∧ ((ok = false ∨ cm < (cmRange s n sd i).1 ∨ (cmRange s n sd i).2 < cm))) :=
   ⟨⟨7, otu otl0, by decide +kernel⟩,
    ⟨7, .line, 79, 15200, otu otl0, by decide +kernel⟩,
    ⟨7, .line, 79, ln (fun l => { l with trib := [(14 * 80 + 79, { trib0 with bad := 4 })] }) (otu otl0), by decide +kernel⟩,
    ⟨7, .line, 79, 0, false, otu otl0, by decide +kernel⟩⟩

/-- The clauses of Obligations.TsiPages are about something. -/
theorem test_witness_TsiPages :
    (∃ (r : Req) (k : _) (v : _) (s : State), k < 4 ∧ v < 2 ^ 32 ∧ tsiBusy s k = false ∧ rd s (K.tsiAddr k) < 320 ∧ tsiType v ≤ 4 ∧ tsiSrcT v ≤ 79 ∧ tsiDstT v ≤ 79 ∧ tsiCtx v ≤ 159 ∧ ((tsiCipher v = true → s.unit.variant ≠ 1)) ∧ Admitted s r (K.tsiData k) true) ∧
    (∃ (r : Req) (k : _) (s : State), k < 4 ∧ tsiBusy s k = false ∧ Admitted s r (K.tsiCopy k) true) ∧
    (∃ (r : Req) (k : _) (n : _) (s : State), k < 4 ∧ n < 2 ^ 64 ∧ tsiBusy s k = false ∧ armOk s n = true ∧ tsiFirstFault s k = none ∧ Admitted s r (K.tsiSwapTick k) true) ∧
    (∃ (k : _) (d : _) (g : _) (s : State), k < 4 ∧ d < 2 ∧ g < 2 ∧ rdBit s (K.tsiStatus k) 1 = true ∧ tsiPage s k d g = tget 0 s.lines.tsiOld k) :=
   ⟨⟨r0, 3, 2 ^ 31 + 2 ^ 30 + 4 * 2 ^ 27 + 159 * 2 ^ 16 + 79 * 256 + 79, put [(K.tsiAddr 3, 319)] base, by decide +kernel⟩,
    ⟨r0, 3, base, by decide +kernel⟩,
    ⟨r0, 3, 2 ^ 31, put [(K.tickStatus, 1)] base, by decide +kernel⟩,
    ⟨3, 1, 1, put [(K.tsiStatus 3, 2)] base, by decide +kernel⟩⟩

/-- The clauses of Obligations.PerformanceBins are about something. -/
theorem test_witness_PerformanceBins :
    (∃ (n : _) (s : State), n < 8 ∧ s.unit.variant ≠ 1) ∧
    (∃ (n : _) (s : State), n < 8 ∧ s.unit.variant ≠ 1 ∧ isOtu4 s n = true ∧ rdBit s (K.otnCtrl n) 0 = true ∧ rdBit s (K.otnCtrl n) 1 = true) ∧
    (∃ (n : _) (cur : _) (old : _) (l : _) (s : State), (pmGrp s n).open15 = cur :: old :: l ∧ old.start + 910 ≤ pmNow s) ∧
    (∃ (n : _) (cur : _) (old : _) (l : _) (s : State), (pmGrp s n).open24 = cur :: old :: l ∧ old.start + 86410 ≤ pmNow s) ∧
    (∃ (r : Req) (n : _) (v : _) (s : State), n < 8 ∧ v ≤ 18 ∧ Admitted s r (K.pmSelect n) true) :=
   ⟨⟨7, base, by decide +kernel⟩,
    ⟨7, put [(K.otnCtrl 7, 3)] (otu otl0), by decide +kernel⟩,
    ⟨7, bin0, bin0, [], ln (fun l => { l with pm := [(7, { pm0 with open15 := [bin0, bin0] })] }) (put [(K.tickNumber, 2 ^ 40)] base), by decide +kernel⟩,
    ⟨7, bin0, bin0, [], ln (fun l => { l with pm := [(7, { pm0 with open24 := [bin0, bin0] })] }) (put [(K.tickNumber, 2 ^ 40)] base), by decide +kernel⟩,
    ⟨r0, 7, 18, base, by decide +kernel⟩⟩

/-- The clauses of Obligations.TickBoundaryCounts are about something. -/
theorem test_witness_TickBoundaryCounts :
    (∃ (s : State), s.boot.engine = true ∧ s.tick.aligning = false ∧ s.tick.realigning = false) ∧
    (∃ (s : State), s.boot.engine = true ∧ s.tick.aligning = false ∧ s.tick.realigning = false ∧ s.tick.step = none ∧ s.tick.slew = 0) ∧
    (∃ (s : State), s.boot.engine = true ∧ (s.tick.aligning = true ∨ s.tick.realigning = true)) :=
   ⟨⟨base, by decide +kernel⟩,
    ⟨base, by decide +kernel⟩,
    ⟨{ base with tick := { base.tick with aligning := true } }, by decide +kernel⟩⟩

/-- The clauses of Obligations.CommitPointOrder are about something. -/
theorem test_witness_CommitPointOrder :
    (∃ (s : State), s.boot.engine = true) ∧
    (∃ (s : State), s.boot.engine = true ∧ s.lines.l1 = [] ∧ ((∀ i, i < 15 → rd s (K.armTick (i + 1)) = none64)) ∧ ((∀ k, k < 4 → rdBit s (K.tsiStatus k) 0 = false)) ∧ ((∀ q, q < 32 → (gateAt s q).armed = none)) ∧ rd s K.migTick = none64 ∧ s.fab.target = none ∧ ((∀ g, g < 4 → rd s (K.roleSwitchTick g) = none64)) ∧ rdBit s K.armStatus 1 = true) :=
   ⟨⟨base, by decide +kernel⟩,
    ⟨put [(K.armStatus, 2)] base, by decide +kernel⟩⟩

/-- The clauses of Obligations.SyncInput are about something. -/
theorem test_witness_SyncInput :
    (∃ (ps : _) (s : State), s.boot.engine = true ∧ rd s K.syncSource ≠ 0 ∧ ((∀ c, s.tick.lastEdge = some c → c + syncPeriod s / 2 ≤ s.tick.start + ps / 800)) ∧ tickValid s = false) ∧
    (∃ (ps : _) (s : State), s.boot.engine = true ∧ rd s K.syncSource ≠ 0 ∧ ((∀ c, s.tick.lastEdge = some c → c + syncPeriod s / 2 ≤ s.tick.start + ps / 800)) ∧ tickValid s = true) ∧
    (∃ (ps : _) (c : _) (s : State), s.boot.engine = true ∧ rd s K.syncSource ≠ 0 ∧ s.tick.lastEdge = some c ∧ s.tick.start + ps / 800 < c + syncPeriod s / 2) ∧
    (∃ (s : State), rd s K.syncSource ≠ 0) ∧
    (∃ (r : Req) (v : _) (s : State), v < 2 ∧ Admitted s r K.tickRealign true) ∧
    (∃ (j : _) (s : State), 1 ≤ j ∧ j ≤ 5 ∧ bgWork s j = true ∧ bgSlot s j ≠ none ∧ tget 0 s.fired (K.bgOverrun j) = 0) ∧
    (∃ (r : Req) (j : _) (s : State), 1 ≤ j ∧ j ≤ 5 ∧ Admitted s r (K.bgOverrun j) false) :=
   ⟨⟨4999999, put [(K.syncSource, 1)] base, by decide +kernel, by decide +kernel, (fun c h => by cases h), by decide +kernel⟩,
    ⟨4999999, put [(K.syncSource, 2), (K.tickStatus, 1)] base, by decide +kernel, by decide +kernel, (fun c h => by cases h), by decide +kernel⟩,
    ⟨4999999, 0, put [(K.syncSource, 2)] { base with tick := { base.tick with lastEdge := some 0 } }, by decide +kernel⟩,
    ⟨put [(K.syncSource, 1)] base, by decide +kernel⟩,
    ⟨r0, 1, base, by decide +kernel⟩,
    ⟨4, base, by decide +kernel⟩,
    ⟨r0, 5, base, by decide +kernel⟩⟩

/-- The clauses of Obligations.Layer1Contexts are about something. -/
theorem test_witness_Layer1Contexts :
    (∃ (r : Req) (k : _) (v : _) (x : _) (s : State), k < 4 ∧ v < 2 ^ 32 ∧ l1Put s (l1Ctx s k (l1Ptr s k).1) (l1Ptr s k).2 v = .ok x ∧ Admitted s r (K.l1Data k) true) ∧
    (∃ (r : Req) (k : _) (n : _) (s : State), k < 4 ∧ n < 2 ^ 64 ∧ armWrite s (l1Ctx s k (rd s (K.l1SwitchSel k))).arm n = none ∧ Admitted s r (K.l1SwitchTick k) true) ∧
    (∃ (k : _) (c : _) (s : State), k < 4 ∧ c < 160 ∧ l1Named s k 0 c = true ∧ (l1Ctx s k c).annEnc = false ∧ (l1Ctx s k c).exhaust = false ∧ armed s = true) ∧
    (∃ (k : _) (c : _) (s : State), k < 4 ∧ c < 160 ∧ l1Named s k 0 c = true ∧ (l1Ctx s k c).enabled = true ∧ (l1Ctx s k c).annEnc = true ∧ (l1Ctx s k c).exhaust = false ∧ (l1Ctx s k c).extMf < 2 ^ 48 - 1 ∧ (slotAt s ((l1Ctx s k c).outHandle (l1Ctx s k c).annPhase)).complete = true ∧ armed s = true) ∧
    (∃ (k : _) (c : _) (enc : Bool) (a0 : _) (a : _) (s : State), k < 4 ∧ c < 160 ∧ l1Named s k 1 c = true ∧ (l1Ctx s k c).enabled = true ∧ ((enc = true → (slotAt s ((l1Ctx s k c).inHandle (annPh a0))).complete = true)) ∧ (if (l1Ctx s k c).inSync then (l1Ctx s k c).anns.head? else (l1Ctx s k c).lastAnn) = some a0 ∧ a = l1Ann ((annExt a0 + 1) % 2 ^ 48) (annPh a0) enc (l1Ctx s k c).ctid ∧ tget 0 (l1Ctx s k c).acc ((l1Ctx s k c).inHandle (annPh a0)) ≤ annExt a) ∧
    (∃ (k : _) (c : _) (a0 : _) (a1 : _) (a : _) (s : State), k < 4 ∧ c < 160 ∧ l1Named s k 1 c = true ∧ (l1Ctx s k c).enabled = true ∧ armed s = true ∧ (l1Ctx s k c).anns = [a0, a1, a] ∧ annEnc a = false ∧ bit a 64 = false) ∧
    (∃ (k : _) (c : _) (a0 : _) (a1 : _) (a : _) (s : State), k < 4 ∧ c < 160 ∧ l1Named s k 1 c = true ∧ (l1Ctx s k c).enabled = true ∧ armed s = true ∧ (l1Ctx s k c).anns = [a0, a1, a] ∧ annEnc a = true ∧ bit a 64 = false ∧ (slotAt s ((l1Ctx s k c).inHandle (annPh a))).complete = true) :=
   ⟨⟨r0, 3, 2 ^ 32 - 1, { l1Ctx0 with out0 := 2 ^ 17 - 1 }, put [(K.l1Addr 3, 256)] base, by decide +kernel, by decide +kernel, rfl, by decide +kernel⟩,
    ⟨r0, 3, 2 ^ 64 - 1, base, by decide +kernel⟩,
    ⟨3, 159, l1of { l1Ctx0 with ctrl := 2 ^ 31 }, by decide +kernel⟩,
    ⟨3, 159, l1of { l1Ctx0 with ctrl := 2 ^ 31, annEnc := true, extMf := 2 ^ 48 - 2 }, by decide +kernel⟩,
    ⟨3, 159, true, (2 ^ 48 - 1) * 2 ^ 16, l1Ann 0 false true 0, l1of { l1Ctx0 with ctrl := 2 ^ 31, lastAnn := some ((2 ^ 48 - 1) * 2 ^ 16) }, by decide +kernel⟩,
    ⟨3, 159, 0, 0, 0, l1of { l1Ctx0 with ctrl := 2 ^ 31, inSync := true, anns := [0, 0, 0] }, by decide +kernel⟩,
    ⟨3, 159, 0, 0, 2 ^ 12, l1of { l1Ctx0 with ctrl := 2 ^ 31, inSync := true, anns := [0, 0, 2 ^ 12] }, by decide +kernel⟩⟩

/-- The clauses of Obligations.RuleTable are about something. -/
theorem test_witness_RuleTable :
    (∃ (r : Req) (j : _) (v : _) (s : State), j < 8 ∧ v < 2 ^ 32 ∧ bits v 20 16 < 22 ∧ heldByOther s (Grp.rule j) r.ch = false ∧ Admitted s r (K.ruleAddr j) true) ∧
    (∃ (r : Req) (j : _) (v : Nat) (e : _) (w : _) (s : State), j < 8 ∧ v < 2 ^ 32 ∧ ruleAt s j = (e, w) ∧ w < 21 ∧ ((w = 20 → resAction v ≤ 4)) ∧ heldByOther s (Grp.rule j) r.ch = false ∧ Admitted s r (K.ruleData j) true) ∧
    (∃ (r : Req) (j : _) (v : Nat) (e : _) (s : State), j < 8 ∧ v < 2 ^ 32 ∧ ruleAt s j = (e, 21) ∧ ruleBad (lset (ruleCopy s j) 21 (v / 2 ^ 31 * 2 ^ 31)) = false ∧ heldByOther s (Grp.rule j) r.ch = false ∧ Admitted s r (K.ruleData j) true) ∧
    (∃ (r : Req) (j : _) (v : _) (e : _) (s : State), j < 8 ∧ ruleAt s j = (e, 20) ∧ 4 < resAction (v % 2 ^ 32) ∧ heldByOther s (Grp.rule j) r.ch = false ∧ Admitted s r (K.ruleData j) true) ∧
    (∃ (g : _) (c : _) (n : _) (s : State), s.claims.find? (fun e => e.1 == g) = some (g, c, n) ∧ n + claimTicks ≤ s.tick.elapsed) :=
   ⟨⟨r0, 7, 0xFFF5FFFF, base, by decide +kernel⟩,
    ⟨r0, 7, 0x9FFFFFFF, 4095, 20, put [(K.ruleAddr 7, 20 * 65536 + 4095)] base, by decide +kernel⟩,
    ⟨r0, 7, 2 ^ 32 - 1, 4095, put [(K.ruleAddr 7, 21 * 65536 + 4095)] base, by decide +kernel⟩,
    ⟨r0, 7, 5 * 2 ^ 29, 4095, put [(K.ruleAddr 7, 20 * 65536 + 4095)] base, by decide +kernel⟩,
    ⟨7, 0, 0, { base with claims := [(7, (0, 0))], tick := { base.tick with elapsed := 100000 } }, by decide +kernel⟩⟩

/-- The clauses of Obligations.LpmTable are about something. -/
theorem test_witness_LpmTable :
    (∃ (r : Req) (s : State), lpmBusy s = false ∧ heldByOther s Grp.lpm r.ch = false ∧ Admitted s r K.lpmOp true) ∧
    (∃ (r : Req) (s : State), lpmBusy s = false ∧ heldByOther s Grp.lpm r.ch = false ∧ Admitted s r K.lpmOp true) ∧
    (∃ (r : Req) (s : State), lpmBusy s = false ∧ heldByOther s Grp.lpm r.ch = false ∧ Admitted s r K.lpmOp true) ∧
    (∃ (v6 : Bool) (len : _) (a : _) (e : _) (s : State), s.tables.lpmOp = 3 ∧ rd s K.lpmPrefix = b2n v6 * 256 + len ∧ len ≤ lpmBits v6 ∧ rd s K.lpmKey = (if v6 then a else a * 2 ^ 96) ∧ lpmEnabled s v6 len = true ∧ lpmPlace s v6 len (lpmMask v6 len a) = some e) ∧
    (∃ (v6 : Bool) (len : _) (a : _) (e : _) (s : State), s.tables.lpmOp = 1 ∧ rd s K.lpmPrefix = b2n v6 * 256 + len ∧ len ≤ lpmBits v6 ∧ rd s K.lpmKey = (if v6 then a else a * 2 ^ 96) ∧ lpmEnabled s v6 len = true ∧ lpmPlace s v6 len (lpmMask v6 len a) = some e ∧ (lpmEntry s (e + b2n v6)).length = 4) ∧
    (∃ (v6 : Bool) (len : _) (a : _) (e : _) (s : State), s.tables.lpmOp = 2 ∧ rd s K.lpmPrefix = b2n v6 * 256 + len ∧ len ≤ lpmBits v6 ∧ rd s K.lpmKey = (if v6 then a else a * 2 ^ 96) ∧ lpmEnabled s v6 len = true ∧ lpmPlace s v6 len (lpmMask v6 len a) = some e) ∧
    (∃ (v6 : Bool) (len : _) (a : _) (s : State), s.tables.lpmOp = 1 ∧ rd s K.lpmPrefix = b2n v6 * 256 + len ∧ len ≤ lpmBits v6 ∧ rd s K.lpmKey = (if v6 then a else a * 2 ^ 96) ∧ lpmEnabled s v6 len = true ∧ lpmPlace s v6 len (lpmMask v6 len a) = none ∧ lpmRoom s v6 (lpmCand 0 v6 len (lpmMask v6 len a)) (lpmCand 1 v6 len (lpmMask v6 len a)) ≠ []) ∧
    (∃ (v6 : Bool) (len : _) (a : _) (s : State), (s.tables.lpmOp = 2 ∨ s.tables.lpmOp = 3) ∧ rd s K.lpmPrefix = b2n v6 * 256 + len ∧ len ≤ lpmBits v6 ∧ rd s K.lpmKey = (if v6 then a else a * 2 ^ 96) ∧ lpmPlace s v6 len (lpmMask v6 len a) = none) ∧
    (∃ (s : State), s.tables.lpmOp = 1 ∧ lpmEnabled s (bit (rd s K.lpmPrefix) 8) (bits (rd s K.lpmPrefix) 7 0) = false) :=
   ⟨⟨r0, base, by decide +kernel⟩,
    ⟨r0, base, by decide +kernel⟩,
    ⟨r0, base, by decide +kernel⟩,
    ⟨false, 32, 2 ^ 32 - 1, 8 * lpmCand 0 false 32 (2 ^ 32 - 1) + 7, lpmHit 3, rfl, by decide +kernel, by decide, by decide +kernel, by decide +kernel, lpm_hit 3⟩,
    ⟨false, 32, 2 ^ 32 - 1, 8 * lpmCand 0 false 32 (2 ^ 32 - 1) + 7, lpmHit 1, rfl, by decide +kernel, by decide, by decide +kernel, by decide +kernel, lpm_hit 1, lpm_len 1⟩,
    ⟨false, 32, 2 ^ 32 - 1, 8 * lpmCand 0 false 32 (2 ^ 32 - 1) + 7, lpmHit 2, rfl, by decide +kernel, by decide, by decide +kernel, by decide +kernel, lpm_hit 2⟩,
    ⟨false, 32, 0, lpmNone 1, rfl, by decide +kernel, by decide, by decide +kernel, by decide +kernel, lpm_none 1, lpm_room _ _⟩,
    ⟨false, 32, 0, lpmNone 3, Or.inr rfl, by decide +kernel, by decide, by decide +kernel, lpm_none 3⟩,
    ⟨tbl (fun t => { t with lpmOp := 1 }) (put [(K.lpmPrefix, 33)] base), by decide +kernel⟩⟩

/-- The clauses of Obligations.LearningTable are about something. -/
theorem test_witness_LearningTable :
    (∃ (r : Req) (i : _) (n : _) (s : State), i < 4 ∧ heldByOther s (Grp.learn i) r.ch = false ∧ learnFindAt s i (rd s (K.learnKey i)) = some n ∧ Admitted s r (K.learnOp i) true) ∧
    (∃ (r : Req) (i : _) (n : _) (s : State), i < 4 ∧ heldByOther s (Grp.learn i) r.ch = false ∧ learnFindAt s i (rd s (K.learnKey i)) = some n ∧ Admitted s r (K.learnOp i) true) ∧
    (∃ (r : Req) (i : _) (n : _) (x : _) (s : State), i < 4 ∧ heldByOther s (Grp.learn i) r.ch = false ∧ learnFindAt s i (rd s (K.learnKey i)) = some n ∧ learnAt s i n = some x ∧ Admitted s r (K.learnOp i) true) ∧
    (∃ (r : Req) (i : _) (s : State), i < 4 ∧ heldByOther s (Grp.learn i) r.ch = false ∧ learnFindAt s i (rd s (K.learnKey i)) = none ∧ learnFree s i (rd s (K.learnKey i)) ≠ [] ∧ Admitted s r (K.learnOp i) true) ∧
    (∃ (r : Req) (i : _) (c : _) (s : State), i < 4 ∧ heldByOther s (Grp.learn i) r.ch = false ∧ learnFindAt s i (rd s (K.learnKey i)) = none ∧ Admitted s r (K.learnOp i) true ∧ ((c = Instr.learnDelete r i ∨ c = Instr.learnFind r i))) ∧
    (∃ (r : Req) (i : _) (s : State), i < 4 ∧ heldByOther s (Grp.learn i) r.ch = false ∧ learnBusy s i = false ∧ Admitted s r (K.learnOp i) true) ∧
    (∃ (r : Req) (i : _) (s : State), i < 4 ∧ heldByOther s (Grp.learn i) r.ch = false ∧ learnBusy s i = false ∧ Admitted s r (K.learnOp i) true) ∧
    (∃ (r : Req) (i : _) (s : State), i < 4 ∧ heldByOther s (Grp.learn i) r.ch = false ∧ learnBusy s i = false ∧ Admitted s r (K.learnOp i) true) ∧
    (∃ (i : _) (op : _) (v : _) (c : _) (s : State), i < 4 ∧ op ≠ 0 ∧ tget (0, 0, 0) s.tables.flush i = (op, v, c)) ∧
    (∃ (i : _) (s : State), i < 4 ∧ ageDue s i = true) ∧
    (∃ (i : _) (x : _) (l : _) (s : State), i < 4 ∧ learnFifo s i = x :: l) :=
   ⟨⟨r0, 3, _, learned, by decide, by decide +kernel, learn_find, by decide +kernel⟩,
    ⟨r0, 3, _, learned, by decide, by decide +kernel, learn_find, by decide +kernel⟩,
    ⟨r0, 3, _, ent0, learned, by decide, by decide +kernel, learn_find, learn_at, by decide +kernel⟩,
    ⟨r0, 3, learnNone, by decide, by decide +kernel, learn_none _, learn_room _, by decide +kernel⟩,
    ⟨r0, 3, Instr.learnFind r0 3, learnNone, by decide, by decide +kernel, learn_none _, by decide +kernel, Or.inr rfl⟩,
    ⟨r0, 3, base, by decide +kernel⟩,
    ⟨r0, 3, base, by decide +kernel⟩,
    ⟨r0, 3, base, by decide +kernel⟩,
    ⟨3, 3, 31, 0, tbl (fun t => { t with flush := [(3, (3, 31, 0))] }) base, by decide +kernel⟩,
    ⟨3, tks (fun t => { t with elapsed := 50000 }) (put [(K.ageTime 3, 1)] base), by decide +kernel⟩,
    ⟨3, ent0, [], tbl (fun t => { t with fifo := [(3, [ent0])] }) base, by decide +kernel⟩⟩

/-- The clauses of Obligations.ScStore are about something. -/
theorem test_witness_ScStore :
    (∃ (r : Req) (v : Nat) (s : State), v < 2 ^ 32 ∧ bits v 19 16 ≤ 9 ∧ heldByOther s Grp.sc r.ch = false ∧ Admitted s r K.scAddr true) ∧
    (∃ (r : Req) (v : Nat) (e : _) (w : _) (s : State), v < 2 ^ 32 ∧ scPtr s = (e, w) ∧ w < 9 ∧ ((w < 2 ∨ w = 6 ∨ w = 7)) ∧ stageOf s Grp.sc ≠ [] ∧ heldByOther s Grp.sc r.ch = false ∧ Admitted s r K.scData true) ∧
    (∃ (r : Req) (v : Nat) (e : _) (w : _) (s : State), v < 2 ^ 32 ∧ scPtr s = (e, w) ∧ ((2 ≤ w ∧ w ≤ 5 ∨ w = 8)) ∧ stageOf s Grp.sc ≠ [] ∧ heldByOther s Grp.sc r.ch = false ∧ Admitted s r K.scData true) ∧
    (∃ (r : Req) (v : Nat) (e : _) (s : State), v < 2 ^ 32 ∧ scPtr s = (e, 9) ∧ stageOf s Grp.sc ≠ [] ∧ heldByOther s Grp.sc r.ch = false ∧ scCheck s (scAt s e) (scFrom (scAt s e) (lset (stageOf s Grp.sc) 9 v)) = none ∧ Admitted s r K.scData true) ∧
    (∃ (r : Req) (v : Nat) (e : _) (c : _) (s : State), v < 2 ^ 32 ∧ scPtr s = (e, 9) ∧ stageOf s Grp.sc ≠ [] ∧ heldByOther s Grp.sc r.ch = false ∧ scCheck s (scAt s e) (scFrom (scAt s e) (lset (stageOf s Grp.sc) 9 v)) = some c ∧ Admitted s r K.scData true) :=
   ⟨⟨r0, 0xFFF9FFFF, base, by decide +kernel⟩,
    ⟨r0, 2 ^ 32 - 1, 65535, 7, stg Grp.sc [0, 0, 0, 0, 0, 0, 0, 200, 0, 0] (put [(K.scAddr, 7 * 65536 + 65535)] base), by decide +kernel⟩,
    ⟨r0, 2 ^ 32 - 1, 65535, 8, stg Grp.sc [0, 0, 0, 0, 0, 0, 0, 200, 0, 0] (put [(K.scAddr, 8 * 65536 + 65535)] base), by decide +kernel⟩,
    ⟨r0, 0x80000C00, 65535, stg Grp.sc [0, 0, 0, 0, 0, 0, 0, 1, 0, 0] (put [(K.scAddr, 9 * 65536 + 65535)] base), by decide +kernel⟩,
    ⟨r0, 0x80400C00, 65535, .unsupportedValue, stg Grp.sc [0, 0, 0, 0, 0, 0, 0, 1, 0, 0] (put [(K.scAddr, 9 * 65536 + 65535)] base), by decide +kernel⟩⟩

/-- The clauses of Obligations.SaStore are about something. -/
theorem test_witness_SaStore :
    (∃ (r : Req) (v : Nat) (s : State), v < 2 ^ 32 ∧ heldByOther s Grp.sa r.ch = false ∧ Admitted s r K.saAddr true) ∧
    (∃ (r : Req) (v : Nat) (h : _) (w : _) (s : State), v < 2 ^ 32 ∧ saPtr s = (h, w) ∧ w < 5 ∧ stageOf s Grp.sa ≠ [] ∧ heldByOther s Grp.sa r.ch = false ∧ Admitted s r K.saData true) ∧
    (∃ (r : Req) (v : Nat) (h : _) (w : _) (s : State), v < 2 ^ 32 ∧ saPtr s = (h, w) ∧ ((w = 5 ∨ w = 6)) ∧ stageOf s Grp.sa ≠ [] ∧ heldByOther s Grp.sa r.ch = false ∧ Admitted s r K.saData true) ∧
    (∃ (r : Req) (v : Nat) (h : _) (e : _) (s : State), v < 2 ^ 30 ∧ saPtr s = (h, 7) ∧ 8 ≤ (stageOf s Grp.sa).length ∧ heldByOther s Grp.sa r.ch = false ∧ saFrom (saAt s h) (lset (stageOf s Grp.sa) 7 (setBit v 31 true)) = e ∧ stageCheck s h (saAt s h) e = none ∧ Admitted s r K.saData true) ∧
    (∃ (r : Req) (v : Nat) (h : _) (s : State), v < 2 ^ 30 ∧ saPtr s = (h, 7) ∧ 8 ≤ (stageOf s Grp.sa).length ∧ heldByOther s Grp.sa r.ch = false ∧ (((saAt s h).st = Sa.active ∨ (saAt s h).st = Sa.grace → ∀ i, i < 7 → saChanged (lset (stageOf s Grp.sa) 7 (setBit v 30 true)) i = false)) ∧ Admitted s r K.saData true) ∧
    (∃ (r : Req) (v : Nat) (h : _) (s : State), v < 2 ^ 30 ∧ saPtr s = (h, 7) ∧ 8 ≤ (stageOf s Grp.sa).length ∧ heldByOther s Grp.sa r.ch = false ∧ (saAt s h).st ≠ Sa.active ∧ (saAt s h).st ≠ Sa.grace ∧ (saAt s h).st ≠ Sa.staged ∧ (saAt s h).st ≠ Sa.skipped ∧ Admitted s r K.saData true) :=
   ⟨⟨r0, 2 ^ 32 - 1, base, by decide +kernel⟩,
    ⟨r0, 2 ^ 32 - 1, 131071, 4, stg Grp.sa [0] (put [(K.saAddr, 4 * 2 ^ 20 + 131071)] base), by decide +kernel⟩,
    ⟨r0, 2 ^ 32 - 1, 131071, 6, stg Grp.sa [0] (put [(K.saAddr, 6 * 2 ^ 20 + 131071)] base), by decide +kernel⟩,
    ⟨r0, 5, 131071, _, saBase, by decide, by decide +kernel, by decide +kernel, by decide +kernel, rfl, by decide +kernel⟩,
    ⟨r0, 2 ^ 29, 131071, saBase, by decide +kernel⟩,
    ⟨r0, 2 ^ 29, 131071, saBase, by decide +kernel⟩⟩

/-- The clauses of Obligations.KeySlots are about something. -/
theorem test_witness_KeySlots :
    (∃ (r : Req) (v : Nat) (s : State), v < 2 ^ 32 ∧ bits v 27 24 ≤ 11 ∧ heldByOther s Grp.key r.ch = false ∧ Admitted s r K.keyAddr true) ∧
    (∃ (r : Req) (v : Nat) (h : _) (s : State), v < 2 ^ 32 ∧ keyPtr s = (h, 0) ∧ heldByOther s Grp.key r.ch = false ∧ keyClosed s 0 = false ∧ slotProtected s h = false ∧ Admitted s r K.keyData true) ∧
    (∃ (r : Req) (v : Nat) (h : _) (w : _) (s : State), v < 2 ^ 32 ∧ keyPtr s = (h, w) ∧ 0 < w ∧ w < 10 ∧ heldByOther s Grp.key r.ch = false ∧ keyClosed s w = false ∧ slotProtected s h = false ∧ (slotAt s h).fill = some w ∧ Admitted s r K.keyData true) ∧
    (∃ (r : Req) (v : Nat) (h : _) (s : State), v < 2 ^ 32 ∧ keyPtr s = (h, 10) ∧ heldByOther s Grp.key r.ch = false ∧ keyClosed s 10 = false ∧ slotProtected s h = false ∧ (slotAt s h).fill = some 10 ∧ Admitted s r K.keyData true) ∧
    (∃ (r : Req) (h : _) (w : _) (s : State), keyPtr s = (h, w) ∧ ((keyClosed s w = true ∨ slotProtected s h = true)) ∧ Admitted s r K.keyData true) :=
   ⟨⟨r0, 0xFBFFFFFF, base, by decide +kernel⟩,
    ⟨r0, 2 ^ 32 - 1, 131071, put [(K.keyAddr, 131071), (K.plaintextKeyEn, 1)] base, by decide +kernel⟩,
    ⟨r0, 2 ^ 32 - 1, 131071, 9, asc (fun a => { a with slot := [(131071, { slot0 with fill := some 9 })] }) (put [(K.keyAddr, 9 * 2 ^ 24 + 131071), (K.plaintextKeyEn, 1)] base), by decide +kernel⟩,
    ⟨r0, 2 ^ 32 - 1, 131071, asc (fun a => { a with slot := [(131071, { slot0 with fill := some 10 })] }) (put [(K.keyAddr, 10 * 2 ^ 24 + 131071), (K.plaintextKeyEn, 1)] base), by decide +kernel⟩,
    ⟨r0, 131071, 10, put [(K.keyAddr, 10 * 2 ^ 24 + 131071), (K.plaintextKeyEn, 0)] base, by decide +kernel⟩⟩

/-- The clauses of Obligations.KeyCommits are about something. -/
theorem test_witness_KeyCommits :
    (∃ (r : Req) (i : _) (n : Nat) (s : State), 1 ≤ i ∧ i ≤ 15 ∧ n < 2 ^ 64 ∧ armWrite s (rd s (K.armTick i)) n = none ∧ Admitted s r (K.armTick i) true) ∧
    (∃ (r : Req) (i : _) (n : Nat) (s : State), n < 2 ^ 64 - 1 ∧ armKeyOk s n = false ∧ Admitted s r (K.armTick i) true) ∧
    (∃ (s : State) (c : _) (h : _) (g : _), (scAt s c).inbound = false ∧ (scAt s c).cur = some g ∧ g ≠ h ∧ (saAt s g).st = Sa.active) ∧
    (∃ (h : _) (s : State), (saAt s h).st = Sa.grace ∧ dueNow s (saAt s h).graceEnd = true) ∧
    (∃ (h : _) (s : State), (saAt s h).st = Sa.grace ∧ h / 128 = s.assoc.scrub ∧ s.assoc.scrub < 1023 ∧ bgSlot s 4 ≠ none) ∧
    (∃ (s : State), bgSlot s 4 ≠ none) ∧
    (∃ (s : State), bgSlot s 4 = none) :=
   ⟨⟨r0, 15, 2 ^ 31, put [(K.tickStatus, 1)] base, by decide +kernel⟩,
    ⟨r0, 15, 2 ^ 64 - 2, base, by decide +kernel⟩,
    ⟨asc (fun a => { a with sc := [(65535, { sc0 with cur := some 0 })], sa := [(0, { sa0 with st := 2 })] }) base, 65535, 131071, 0, by decide +kernel⟩,
    ⟨131071, saOf { sa0 with st := 3 }, by decide +kernel⟩,
    ⟨130943, asc (fun a => { a with sa := [(130943, { sa0 with st := 3 })], scrub := 1022 }) base, by decide +kernel⟩,
    ⟨base, by decide +kernel⟩,
    ⟨tks (fun t => { t with clock := 12400 }) base, by decide +kernel⟩⟩

/-- The clauses of Obligations.QueuesAndFlows are about something. -/
theorem test_witness_QueuesAndFlows :
    (∃ (r : Req) (k : _) (v : Nat) (s : State), k < 4 ∧ v < 2 ^ 32 ∧ v % 8 = 0 ∧ heldByOther s (Grp.flow k) r.ch = false ∧ Admitted s r (K.flowData k) true) ∧
    (∃ (r : Req) (k : _) (v : Nat) (s : State), k < 4 ∧ v < 2 ^ 32 ∧ heldByOther s (Grp.queue k) r.ch = false ∧ Admitted s r (K.queueAddr k) true) ∧
    (∃ (r : Req) (k : _) (v : Nat) (i : _) (w : _) (s : State), k < 4 ∧ v < 2 ^ 32 ∧ quePtr s k = (i, w) ∧ w < 3 ∧ stageOf s (Grp.queue k) ≠ [] ∧ heldByOther s (Grp.queue k) r.ch = false ∧ Admitted s r (K.queueData k) true) ∧
    (∃ (r : Req) (k : _) (v : Nat) (i : _) (s : State), k < 4 ∧ v < 2 ^ 32 ∧ quePtr s k = (i, 3) ∧ stageOf s (Grp.queue k) ≠ [] ∧ heldByOther s (Grp.queue k) r.ch = false ∧ queCheck k (queAt s k i) (queFrom s (queAt s k i) (lset (stageOf s (Grp.queue k)) 3 v)) = none ∧ Admitted s r (K.queueData k) true) ∧
    (∃ (r : Req) (k : _) (v : Nat) (i : _) (c : _) (s : State), k < 4 ∧ v < 2 ^ 32 ∧ quePtr s k = (i, 3) ∧ stageOf s (Grp.queue k) ≠ [] ∧ heldByOther s (Grp.queue k) r.ch = false ∧ queCheck k (queAt s k i) (queFrom s (queAt s k i) (lset (stageOf s (Grp.queue k)) 3 v)) = some c ∧ Admitted s r (K.queueData k) true) ∧
    (∃ (r : Req) (k : _) (i : _) (w : _) (s : State), k < 4 ∧ quePtr s k = (i, w) ∧ 3 < w ∧ heldByOther s (Grp.queue k) r.ch = false ∧ Admitted s r (K.queueData k) true) :=
   ⟨⟨r0, 3, 2 ^ 32 - 8, base, by decide +kernel⟩,
    ⟨r0, 3, 2 ^ 32 - 1, base, by decide +kernel⟩,
    ⟨r0, 3, 2 ^ 32 - 1, 4095, 2, stg (Grp.queue 3) [0, 0, 0, 0] (put [(K.queueAddr 3, 2 * 65536 + 4095)] base), by decide +kernel⟩,
    ⟨r0, 3, 64, 4095, stg (Grp.queue 3) [31 * 2 ^ 24 + 64, 1048576, 800000, 0] (put [(K.queueAddr 3, 3 * 65536 + 4095)] base), by decide +kernel⟩,
    ⟨r0, 3, 63, 4095, .unsupportedValue, stg (Grp.queue 3) [31 * 2 ^ 24 + 64, 1048576, 800000, 0] (put [(K.queueAddr 3, 3 * 65536 + 4095)] base), by decide +kernel⟩,
    ⟨r0, 3, 4095, 7, put [(K.queueAddr 3, 7 * 65536 + 4095)] base, by decide +kernel⟩⟩

/-- The clauses of Obligations.Policers are about something. -/
theorem test_witness_Policers :
    (∃ (r : Req) (i : _) (v : Nat) (s : State), i < 4 ∧ v < 2 ^ 32 ∧ heldByOther s (Grp.pol i) r.ch = false ∧ Admitted s r (K.polAddr i) true) ∧
    (∃ (r : Req) (i : _) (v : Nat) (n : _) (w : _) (s : State), i < 4 ∧ v < 2 ^ 32 ∧ polPtr s i = (n, w) ∧ w < 4 ∧ stageOf s (Grp.pol i) ≠ [] ∧ heldByOther s (Grp.pol i) r.ch = false ∧ Admitted s r (K.polData i) true) ∧
    (∃ (r : Req) (i : _) (n : _) (w : _) (s : State), i < 4 ∧ polPtr s i = (n, w) ∧ 4 < w ∧ heldByOther s (Grp.pol i) r.ch = false ∧ Admitted s r (K.polData i) true) ∧
    (∃ (r : Req) (i : _) (v : Nat) (n : _) (s : State), i < 4 ∧ v < 2 ^ 32 ∧ polPtr s i = (n, 4) ∧ stageOf s (Grp.pol i) ≠ [] ∧ heldByOther s (Grp.pol i) r.ch = false ∧ polOk (polFrom s (polAt s i n) (lset (stageOf s (Grp.pol i)) 4 v)) = true ∧ Admitted s r (K.polData i) true) ∧
    (∃ (r : Req) (i : _) (v : Nat) (n : _) (s : State), i < 4 ∧ v < 2 ^ 32 ∧ polPtr s i = (n, 4) ∧ stageOf s (Grp.pol i) ≠ [] ∧ heldByOther s (Grp.pol i) r.ch = false ∧ polOk (polFrom s (polAt s i n) (lset (stageOf s (Grp.pol i)) 4 v)) = false ∧ Admitted s r (K.polData i) true) ∧
    (∃ (i : _) (n : _) (len : _) (x : _) (s : State), polAt s i n = x ∧ x.cir ≠ 0 ∧ bits x.ctl 15 8 = 0 ∧ 1 ≤ len) :=
   ⟨⟨r0, 3, 2 ^ 32 - 1, base, by decide +kernel⟩,
    ⟨r0, 3, 2 ^ 32 - 1, 1023, 3, stg (Grp.pol 3) [0, 64, 800000, 64, 0] (put [(K.polAddr 3, 3 * 65536 + 1023)] base), by decide +kernel⟩,
    ⟨r0, 3, 1023, 7, put [(K.polAddr 3, 7 * 65536 + 1023)] base, by decide +kernel⟩,
    ⟨r0, 3, 0xC000, 1023, stg (Grp.pol 3) [0, 64, 800000, 64, 0] (put [(K.polAddr 3, 4 * 65536 + 1023)] base), by decide +kernel⟩,
    ⟨r0, 3, 0xBF00, 1023, stg (Grp.pol 3) [0, 64, 800000, 64, 0] (put [(K.polAddr 3, 4 * 65536 + 1023)] base), by decide +kernel⟩,
    ⟨3, 1023, 1, { pol0 with cir := 1, pir := 1 }, dpt (fun d => { d with pols := [(3 * 1024 + 1023, some { pol0 with cir := 1, pir := 1 })] }) base, by decide +kernel⟩⟩

/-- The clauses of Obligations.GateLists are about something. -/
theorem test_witness_GateLists :
    (∃ (r : Req) (q : _) (v : Nat) (s : State), q < 32 ∧ v < 2 ^ 32 ∧ gateArmed s q = false ∧ bit (rd s (K.gateAddr q)) 15 = false ∧ heldByOther s (Grp.gate q) r.ch = false ∧ Admitted s r (K.gateData q) true) ∧
    (∃ (r : Req) (q : _) (s : State), q < 32 ∧ gateArmed s q = false ∧ heldByOther s (Grp.gate q) r.ch = false ∧ gateListOk (gateStandby s q) (rd s (K.gateCycle q)) = false ∧ Admitted s r (K.gateArm q) true) ∧
    (∃ (r : Req) (q : _) (s : State), q < 32 ∧ gateArmed s q = false ∧ heldByOther s (Grp.gate q) r.ch = false ∧ gateListOk (gateStandby s q) (rd s (K.gateCycle q)) = true ∧ tbValid s (rdField s (K.gateCtrl q) 1 0) = false ∧ Admitted s r (K.gateArm q) true) ∧
    (∃ (r : Req) (q : _) (n : _) (start : _) (s : State), q < 32 ∧ gateArmed s q = false ∧ heldByOther s (Grp.gate q) r.ch = false ∧ gateListOk (gateStandby s q) (rd s (K.gateCycle q)) = true ∧ rdField s (K.gateCtrl q) 1 0 = n ∧ tbValid s n = true ∧ tickValid s = true ∧ ((rdBit s (K.gateCtrl q) 4 = true → start = baseUnits (rd s (K.gateBase q)))) ∧ gateStart s q n (baseUnits (rd s (K.gateBase q))) (rd s (K.gateCycle q) * nsU) 32 ((tbNow s n + 20000 * nsU - baseUnits (rd s (K.gateBase q)) + rd s (K.gateCycle q) * nsU - 1) / (rd s (K.gateCycle q) * nsU)) = start ∧ tickOf s (gateSwapTime s q n start) - tickNo s ≤ 2 ^ 31 ∧ Admitted s r (K.gateArm q) true) ∧
    (∃ (r : Req) (q : _) (s : State), q < 32 ∧ gateArmed s q = true ∧ heldByOther s (Grp.gate q) r.ch = false ∧ tickNo s + 1 < rd s (K.gateSwapTick q) ∧ Admitted s r (K.gateArm q) true) ∧
    (∃ (q : _) (g : _) (s : State), q < 32 ∧ (gateAt s q).active = some g) ∧
    (∃ (r : Req) (q : _) (s : State), q < 32 ∧ gateArmed s q = false ∧ heldByOther s (Grp.gate q) r.ch = false ∧ Admitted s r (K.gateArm q) true) :=
   ⟨⟨r0, 31, 2 ^ 32 - 1, base, by decide +kernel⟩,
    ⟨r0, 31, base, by decide +kernel⟩,
    ⟨r0, 31, gate31 [], by decide +kernel⟩,
    ⟨r0, 31, 3, _, gateOn, by decide, by decide +kernel, by decide +kernel, by decide +kernel, by decide +kernel, by decide +kernel, by decide +kernel, by decide +kernel, rfl, by decide +kernel⟩,
    ⟨r0, 31, put [(K.gateStatus 31, 2), (K.gateSwapTick 31, 2)] base, by decide +kernel⟩,
    ⟨31, ⟨[], 1000, 0, 0, false, 0⟩, dpt (fun d => { d with gates := [(31, { gate0 with active := some ⟨[], 1000, 0, 0, false, 0⟩ })] }) base, by decide +kernel⟩,
    ⟨r0, 31, base, by decide +kernel⟩⟩

/-- The clauses of Obligations.HostFrames are about something. -/
theorem test_witness_HostFrames1 :
    (∃ (q : _) (s : State), rxUp s q .host = false) ∧
    (∃ (q : _) (bytes : List Nat) (b : _) (r : _) (s : State), q < 32 ∧ isPort s q = true ∧ rxUp s q .host = true ∧ bytes.map (· % 256) = b ∧ malformed b true 10240 (parseFast b) = some r ∧ r < 3) :=
   ⟨⟨31, base, by decide +kernel⟩,
    ⟨31, [], [], 0, up [], by decide +kernel⟩⟩
theorem test_witness_HostFrames2 :
    (∃ (q : _) (bytes : List Nat) (b : _) (p : _) (sl : _) (cut : _) (res : _) (ptp : _) (par : _) (ecc : _) (s : State) (s1 : State) (s2 : State) (s3 : _), isPort s q = true ∧ rxUp s q .host = true ∧ bytes.map (· % 256) = b ∧ malformed b true 10240 (parseFast b) = none ∧ s1 = cellsTake (inc (inc (spoil s par) (K.outHostFrames q) 1) (K.outHostOctets q) (b.length + 4)) (q / 8) (cellsOf b.length) ∧ frontFast s1 (q / 8) (detEn s1 q) b (parseFast b) = .go p sl cut ∧ classify s1 (q / 8) false q b p sl cut = (s2, some res) ∧ s3 = (if resAction res = Act.secure then lookupHits s2 (resSc res) (scAt s2 (resSc res)).cur ecc else s2) ∧ ((resAction res = Act.bypass ∨ resAction res = Act.secure ∧ scOut s3 (resSc res) = true)) ∧ ptp = (if ptpMode s3 q = 0 then none else (ptpFind b p).map (·.1))) ∧
    (∃ (q : _) (bytes : List Nat) (b : _) (p : _) (sl : _) (cut : _) (res : _) (par : _) (ecc : _) (s : State) (s1 : State) (s2 : State) (s3 : _), q < 32 ∧ isPort s q = true ∧ rxUp s q .host = true ∧ bytes.map (· % 256) = b ∧ malformed b true 10240 (parseFast b) = none ∧ s1 = cellsTake (inc (inc (spoil s par) (K.outHostFrames q) 1) (K.outHostOctets q) (b.length + 4)) (q / 8) (cellsOf b.length) ∧ frontFast s1 (q / 8) (detEn s1 q) b (parseFast b) = .go p sl cut ∧ classify s1 (q / 8) false q b p sl cut = (s2, some res) ∧ resAction res = Act.secure ∧ s3 = lookupHits s2 (resSc res) (scAt s2 (resSc res)).cur ecc ∧ scOut s3 (resSc res) = false) :=
   ⟨⟨31, eth, eth, parseFast eth, false, false, 2 ^ 30, none, [], [], (up [(K.outDefault 31, 2 ^ 30)]), hostS1 (up [(K.outDefault 31, 2 ^ 30)]), hostS1 (up [(K.outDefault 31, 2 ^ 30)]), hostS1 (up [(K.outDefault 31, 2 ^ 30)]), by decide +kernel, by decide +kernel, by decide +kernel, by decide +kernel, rfl, front_eth _ _ _, classify_same (by decide +kernel), (if_neg (by decide +kernel)).symm, by decide +kernel, by decide +kernel⟩,
    ⟨31, eth, eth, parseFast eth, false, false, 2 ^ 29, [], [], (up [(K.outDefault 31, 2 ^ 29)]), hostS1 (up [(K.outDefault 31, 2 ^ 29)]), hostS1 (up [(K.outDefault 31, 2 ^ 29)]), hostS1 (up [(K.outDefault 31, 2 ^ 29)]), by decide, by decide +kernel, by decide +kernel, by decide +kernel, by decide +kernel, rfl, front_eth _ _ _, classify_same (by decide +kernel), by decide +kernel, lookup_none _ _ _, by decide +kernel⟩⟩
theorem test_witness_HostFrames3 :
    (∃ (q : _) (bytes : List Nat) (b : _) (p : _) (sl : _) (cut : _) (res : _) (par : _) (s : State) (s1 : State) (s2 : State), q < 32 ∧ isPort s q = true ∧ rxUp s q .host = true ∧ bytes.map (· % 256) = b ∧ malformed b true 10240 (parseFast b) = none ∧ s1 = cellsTake (inc (inc (spoil s par) (K.outHostFrames q) 1) (K.outHostOctets q) (b.length + 4)) (q / 8) (cellsOf b.length) ∧ frontFast s1 (q / 8) (detEn s1 q) b (parseFast b) = .go p sl cut ∧ classify s1 (q / 8) false q b p sl cut = (s2, some res) ∧ resAction res = Act.drop) ∧
    (∃ (j : _) (f : _) (l : _) (res : _) (ptp : _) (s : State) (s1 : State) (s2 : State) (s3 : _), slowQ s j = f :: l ∧ f.inb = false ∧ hdrReason f.bytes (parseSlow f.bytes) = none ∧ s1 = perfAdd (inc (setSlowQ s j l) (K.slowFrames j) 1) (192 + j) 1 ∧ classify s1 (f.q / 8) false f.q f.bytes (parseSlow f.bytes) (parseSlow f.bytes).overl false = (s2, some res) ∧ s3 = (if resAction res = Act.secure then lookupHits s2 (resSc res) (scAt s2 (resSc res)).cur f.ecc else s2) ∧ ((resAction res = Act.bypass ∨ resAction res = Act.secure ∧ scOut s3 (resSc res) = true)) ∧ ptp = (if ptpMode s3 f.q = 0 then none else (ptpFind f.bytes (parseSlow f.bytes)).map (·.1))) :=
   ⟨⟨31, eth, eth, parseFast eth, false, false, 3 * 2 ^ 29, [], (up [(K.outDefault 31, 3 * 2 ^ 29)]), hostS1 (up [(K.outDefault 31, 3 * 2 ^ 29)]), hostS1 (up [(K.outDefault 31, 3 * 2 ^ 29)]), by decide, by decide +kernel, by decide +kernel, by decide +kernel, by decide +kernel, rfl, front_eth _ _ _, classify_same (by decide +kernel), by decide +kernel⟩,
    ⟨7, slowF, [], 2 ^ 30, none, slowS, slowS1, slowS1, slowS1, by decide +kernel, by decide +kernel, by decide +kernel, rfl, classify_same (by decide +kernel), (if_neg (by decide +kernel)).symm, by decide +kernel, by decide +kernel⟩⟩
theorem test_witness_HostFrames4 :
    (∃ (j : _) (f : _) (l : _) (res : _) (s : State) (s1 : State) (s2 : State), slowQ s j = f :: l ∧ f.inb = true ∧ hdrReason f.bytes (parseSlow f.bytes) = none ∧ s1 = perfAdd (inc (setSlowQ s j l) (K.slowFrames j) 1) (192 + j) 1 ∧ inPasses s1 f.q = true ∧ classify s1 (ibOf f.q) true f.q f.bytes (parseSlow f.bytes) (parseSlow f.bytes).overl false = (s2, some res) ∧ resAction res = Act.bypass) ∧
    (∃ (s : State) (j : _) (inb : _) (b : _) (p : _) (l : _), j < 8 ∧ parityFound s j inb p (macKey p (fieldBE b 0 6)) = l ∧ l ≠ []) :=
   ⟨⟨7, { slowF with inb := true }, [], 2 ^ 30, slowI, slowI1, slowI1, by decide +kernel, by decide +kernel, by decide +kernel, rfl, by decide +kernel, classify_same (by decide +kernel), by decide +kernel⟩,
    ⟨{ base with tables := { base.tables with rules := [(7 * 4096 + 4095, List.replicate 21 0 ++ [2 ^ 31])], parity := [7 * 2 ^ 18 + 4095] } }, 7, true, eth, parseFast eth, [(7, 4095)], by decide, by decide +kernel, by decide⟩⟩

/-- The clauses of Obligations.Admission are about something. -/
theorem test_witness_Admission :
    (∃ (q : _) (f : _) (rest : _) (x : _) (s : State), takeStage (outQ s q) 0 = some (f, rest) ∧ bit (flowAt s (q / 8) (resFlow f.res)) 31 = true ∧ queAt s (q / 8) (flowAt s (q / 8) (resFlow f.res) % 4096 + resTc f.res) = x ∧ x.port = q ∧ x.depth + f.cells ≤ x.maxCells ∧ rd s (K.bufUsed (q / 8)) ≤ rd s (K.bufLimit (q / 8)) ∧ bufAll s ≤ 1048576) ∧
    (∃ (q : _) (f : _) (rest : _) (s : State), q < 32 ∧ takeStage (outQ s q) 0 = some (f, rest) ∧ bit (flowAt s (q / 8) (resFlow f.res)) 31 = false) ∧
    (∃ (q : _) (f : _) (rest : _) (x : _) (s : State), q < 32 ∧ takeStage (outQ s q) 0 = some (f, rest) ∧ bit (flowAt s (q / 8) (resFlow f.res)) 31 = true ∧ queAt s (q / 8) (flowAt s (q / 8) (resFlow f.res) % 4096 + resTc f.res) = x ∧ x.port = q ∧ x.maxCells < x.depth + f.cells ∧ tget 0 s.fired (K.tailDrops (q / 8)) = 0) ∧
    (∃ (q : _) (f : _) (rest : _) (s : State), takeStage (outQ s q) 1 = some (f, rest) ∧ tagShort s f = false) ∧
    (∃ (q : _) (f : _) (rest : _) (s : State), q < 32 ∧ takeStage (outQ s q) 1 = some (f, rest) ∧ f.q = q ∧ tagShort s f = true) :=
   ⟨⟨31, frm 0 4096, [], { que0 3 with port := 31 }, inDp (frm 0 4096) [(3 * 1024, 2 ^ 31)] base, by decide +kernel⟩,
    ⟨31, frm 0 4096, [], inDp (frm 0 4096) [] base, by decide +kernel⟩,
    ⟨31, frm 0 4097, [], { que0 3 with port := 31 }, inDp (frm 0 4097) [(3 * 1024, 2 ^ 31)] base, by decide +kernel⟩,
    ⟨31, frm 1 2, [], inDp (frm 1 2) [] base, by decide +kernel⟩,
    ⟨31, { frm 1 2 with res := 2 ^ 29 + 5 }, [], asc (fun a => { a with sc := [(5, { sc0 with ctrl := 0x80010C00 })] }) (inDp { frm 1 2 with res := 2 ^ 29 + 5 } [] base), by decide +kernel⟩⟩

/-- The clauses of Obligations.Announcing are about something. -/
theorem test_witness_Announcing1 :
    (∃ (q : _) (f : _) (s : State) (s1 : State), q < 32 ∧ f.q = q ∧ mayAnnounce s q = true ∧ detEn s q = false ∧ s1 = passTo s (annClock s q) ∧ 0 ≤ portBucket s1 q ∧ passedOver s1 q = false ∧ (gateAt s q).active = none ∧ outQ s q = [f] ∧ f.stage = 2 ∧ f.ptp = none ∧ resAction f.res = Act.bypass ∧ readyHeads s1 q (f.qi % 8) = [f] ∧ (wlen s f : Int) ≤ (queAt s (q / 8) f.qi).deficit + (queAt s (q / 8) f.qi).quantum) ∧
    (∃ (q : _) (f : _) (rest : _) (s : State), q < 32 ∧ f.q = q ∧ mayAnnounce s q = true ∧ detEn s q = true ∧ takeStage (outQ s q) 3 = some (f, rest) ∧ f.ptp = none ∧ resAction f.res = Act.bypass ∧ annFree s q ≤ f.elig) :=
   ⟨⟨31, frm 2 2, schS, _, by decide +kernel, by decide +kernel, by decide +kernel, by decide +kernel, rfl, by decide +kernel, by decide +kernel, by decide +kernel, by decide +kernel, by decide +kernel, by decide +kernel, by decide +kernel, by decide +kernel, by decide +kernel⟩,
    ⟨31, frm 3 2, [], inDp (frm 3 2) [] (up [(K.cipherCtrl 31, 1)]), by decide +kernel⟩⟩
theorem test_witness_Announcing2 :
    (∃ (q : _) (tc : _) (f : _) (line : _) (h : _) (s : State) (s1 : State) (s2 : State) (s3 : _) (s4 : _), q < 32 ∧ f.q = q ∧ tc < 8 ∧ mayAnnounce s q = true ∧ detEn s q = false ∧ s1 = passTo s (annClock s q) ∧ 0 ≤ portBucket s1 q ∧ passedOver s1 q = false ∧ s2 = oversize (gateRefresh s1 q) q ∧ ((∀ c, c < 8 → tc < c → openNow s2 q c = true → readyHeads s2 q c = [])) ∧ openNow s2 q tc = true ∧ drrTurn s2 q tc (readyHeads s2 q tc) = some (s3, f) ∧ readyHeads s2 q tc ≠ [] ∧ grant (setOutQ s3 q ((outQ s3 q).erase f)) f (ptpOut (setOutQ s3 q ((outQ s3 q).erase f)) f).2 = (s4, h, .sent line false)) ∧
    (∃ (q : _) (am : Bool) (f : _) (rest : _) (line : _) (h : _) (s : State) (s1 : State) (s2 : State) (s3 : _), q < 32 ∧ f.q = q ∧ mayAnnounce s q = true ∧ takeStage (outQ s q) 3 = some (f, rest) ∧ s1 = setOutQ (passTo s (Nat.max f.elig (annFree s q))) q rest ∧ tagShort s1 f = false ∧ s2 = (if am then inc (if f.elig < annFree s q then incFirst s1 (K.detLate q) Ev.detLate q 0 else s1) (K.detAmDefer q) 1 else if f.elig < annFree s q then incFirst s1 (K.detLate q) Ev.detLate q 0 else s1) ∧ grant s2 f (ptpOut s2 f).2 = (s3, h, .sent line false)) :=
   ⟨⟨31, 0, frm 2 2, eth, none, schS, _, schS2, schS3, setOutQ schS3 31 ((outQ schS3 31).erase (frm 2 2)), by decide, rfl, by decide, by decide +kernel, by decide +kernel, rfl, by decide +kernel, by decide +kernel, rfl, by decide +kernel, by decide +kernel, sch_turn, by decide +kernel, grant_bypass _ 2 _⟩,
    ⟨31, false, frm 3 2, [], eth, none, detS, detS1, detS1, detS1, by decide, rfl, by decide +kernel, by decide +kernel, rfl, by decide +kernel, det_s2, grant_bypass _ 3 _⟩⟩
theorem test_witness_Announcing3 :
    (∃ (s : State) (c : _) (h : _), (scAt s c).exh = false ∧ saLocal s (saAt s h) = true ∧ (saAt s h).st = Sa.active ∧ (saAt s h).pn ≠ pnEnd (scAt s c) ∧ resvApplies s (saAt s h) = false ∧ (slotAt s h).complete = true) ∧
    (∃ (s : State) (c : _) (h : _), (scAt s c).exh = false ∧ saLocal s (saAt s h) = true ∧ (saAt s h).st = Sa.active ∧ (saAt s h).pn = pnEnd (scAt s c)) :=
   ⟨⟨saOf { sa0 with st := 2, pn := 2 ^ 32 - 2 }, 5, 131071, by decide +kernel⟩,
    ⟨saOf { sa0 with st := 2, pn := 2 ^ 32 - 1 }, 5, 131071, by decide +kernel⟩⟩
theorem test_witness_Announcing4 :
    (∃ (s : State) (c : _) (h : _), (scAt s c).exh = true ∧ saLocal s (saAt s h) = true) ∧
    (∃ (s : State) (c : _) (h : _), (scAt s c).exh = false ∧ saLocal s (saAt s h) = true ∧ (saAt s h).st ≠ Sa.active ∧ (saAt s h).st ≠ Sa.exhausted) :=
   ⟨⟨asc (fun a => { a with sc := [(5, { sc0 with exh := true })] }) (saOf sa0), 5, 131071, by decide +kernel⟩,
    ⟨saOf sa0, 5, 131071, by decide +kernel⟩⟩

/-- The clauses of Obligations.CipherControls are about something. -/
theorem test_witness_CipherControls :
    (∃ (r : Req) (q : _) (v : Nat) (s : State), q < 32 ∧ v < 2 ^ 32 ∧ bit v 0 = false ∧ bit v 1 = false ∧ Admitted s r (K.cipherCtrl q) true) ∧
    (∃ (r : Req) (q : _) (i : _) (v : Nat) (s : State), q < 32 ∧ v < 2 ^ 32 ∧ bit v 0 = true ∧ detEn s q = false ∧ i < 8 ∧ 8 * (q / 8) + i ≠ q ∧ detEn s (8 * (q / 8) + i) = true ∧ isPort s (8 * (q / 8) + i) = true ∧ Admitted s r (K.cipherCtrl q) true) ∧
    (∃ (r : Req) (q : _) (v : Nat) (s : State), v < 2 ^ 32 ∧ bit v 0 = true ∧ bit v 1 = true ∧ Admitted s r (K.cipherCtrl q) true) ∧
    (∃ (r : Req) (q : _) (s : State), q < 32 ∧ Admitted s r (K.latClear q) true) :=
   ⟨⟨r0, 31, 2 ^ 32 - 4, base, by decide +kernel⟩,
    ⟨r0, 31, 6, 2 ^ 32 - 1, up [(K.cipherCtrl 30, 1)], by decide +kernel⟩,
    ⟨r0, 31, 2 ^ 32 - 1, base, by decide +kernel⟩,
    ⟨r0, 31, base, by decide +kernel⟩⟩

/-- The clauses of Obligations.LineFrames are about something. -/
theorem test_witness_LineFrames1 :
    (∃ (q : _) (s : State), rxUp s q .line = false) ∧
    (∃ (q : _) (bytes : List Nat) (ok : Bool) (s : State), lineIn s q (bytes.map (· % 256)) ok = none) :=
   ⟨⟨31, base, by decide +kernel⟩,
    ⟨31, eth, true, up [(K.groupMode 7, 2)], by decide +kernel⟩⟩
theorem test_witness_LineFrames2 :
    (∃ (q : _) (bytes : List Nat) (b : _) (par : _) (s : State) (s0 : _) (s1 : State), q < 32 ∧ isPort s q = true ∧ rxUp s q .line = true ∧ bytes.map (· % 256) = b ∧ malformed b true 10272 (parseFast b) = none ∧ lineIn s q b true = some s0 ∧ s1 = perfAdd (inc (inc (spoil s0 par) (K.inLineFrames q) 1) (K.inLineOctets q) (b.length + 4)) (160 + q) (b.length + 4) ∧ inPasses s1 q = false) ∧
    (∃ (q : _) (bytes : List Nat) (b : _) (p : _) (sl : _) (cut : _) (res : _) (par : _) (s : State) (s0 : _) (s1 : State) (s2 : State), isPort s q = true ∧ rxUp s q .line = true ∧ bytes.map (· % 256) = b ∧ malformed b true 10272 (parseFast b) = none ∧ lineIn s q b true = some s0 ∧ s1 = perfAdd (inc (inc (spoil s0 par) (K.inLineFrames q) 1) (K.inLineOctets q) (b.length + 4)) (160 + q) (b.length + 4) ∧ inPasses s1 q = true ∧ frontFast s1 (ibOf q) (detEn s1 q) b (parseFast b) = .go p sl cut ∧ classify s1 (ibOf q) true q b p sl cut = (s2, some res) ∧ resAction res = Act.bypass) :=
   ⟨⟨31, eth, eth, [], (up [(K.armStatus, 0)]), (up [(K.armStatus, 0)]), lineS1 (up [(K.armStatus, 0)]), by decide, by decide +kernel, by decide +kernel, by decide +kernel, by decide +kernel, if_pos (by decide +kernel), rfl, by decide +kernel⟩,
    ⟨31, eth, eth, parseFast eth, false, false, 2 ^ 30, [], (up [(K.inDefault 31, 2 ^ 30)]), (up [(K.inDefault 31, 2 ^ 30)]), lineS1 (up [(K.inDefault 31, 2 ^ 30)]), lineS1 (up [(K.inDefault 31, 2 ^ 30)]), by decide +kernel, by decide +kernel, by decide +kernel, by decide +kernel, if_pos (by decide +kernel), rfl, by decide +kernel, front_eth _ _ _, classify_same (by decide +kernel), by decide +kernel⟩⟩
theorem test_witness_LineFrames3 :
    (∃ (q : _) (bytes : List Nat) (b : _) (p : _) (sl : _) (cut : _) (res : _) (par : _) (ecc : _) (sci : _) (idx : _) (x : _) (s : State) (s0 : _) (s1 : State) (s2 : State) (s3 : _) (s4 : _), isPort s q = true ∧ rxUp s q .line = true ∧ bytes.map (· % 256) = b ∧ malformed b true 10272 (parseFast b) = none ∧ lineIn s q b true = some s0 ∧ s1 = perfAdd (inc (inc (spoil s0 par) (K.inLineFrames q) 1) (K.inLineOctets q) (b.length + 4)) (160 + q) (b.length + 4) ∧ inPasses s1 q = true ∧ frontFast s1 (ibOf q) (detEn s1 q) b (parseFast b) = .go p sl cut ∧ classify s1 (ibOf q) true q b p sl cut = (s2, some res) ∧ resAction res = Act.secure ∧ p.sectag = true ∧ sciOf s2 q b p = (sci, idx) ∧ s3 = lookupHits s2 idx ((scAt s2 idx).handle (p.tci % 4)) ecc ∧ (scAt s3 idx).valid = true ∧ (scAt s3 idx).inbound = true ∧ (scAt s3 idx).sci = sci ∧ predict s3 { inFrm0 s2 q b p res ⟨s1.tick.clock, detEn s1 q, true, decide (10272 < b.length + 4), tbsNow s1, ecc⟩ with sc := some idx, ent := scAt s3 idx } ((scAt s3 idx).handle (p.tci % 4)) = (s4, x)) ∧
    (∃ (s : State) (f : InFrm) (h : _) (s0 : _), s0 = settleDue s f.q f.clk ∧ (predAt s0 f.q).st = 2 ∧ (predAt s0 f.q).handle = h ∧ f.pnLo = ((predAt s0 f.q).pn + 1) % 2 ^ 32) :=
   ⟨⟨31, sec, sec, parseFast sec, false, false, 2 ^ 29 + 5, [], [], 5, 5, _, secUp [], secUp [], lineSec, lineSec, lineSec, _, by decide +kernel, by decide +kernel, by decide +kernel, by decide +kernel, if_pos (by decide +kernel), rfl, by decide +kernel, front_sec _ _ _, classify_same (by decide +kernel), by decide +kernel, by decide +kernel, by decide +kernel, lookup_none _ _ _, by decide +kernel, by decide +kernel, by decide +kernel, Prod.mk.eta.symm⟩,
    ⟨asc (fun a => { a with pred := [(31, ⟨2, 131071, 2 ^ 32 - 1, 0, 0, []⟩)] }) base, inF, 131071, _, rfl, by decide +kernel, by decide +kernel, by decide +kernel⟩⟩
theorem test_witness_LineFrames4 :
    (∃ (s : State) (f : InFrm) (h : _) (s0 : _), f.q < 32 ∧ s0 = settleDue s f.q f.clk ∧ (¬ ((predAt s0 f.q).st = 2 ∧ (predAt s0 f.q).handle = h ∧ f.pnLo = ((predAt s0 f.q).pn + 1) % 2 ^ 32))) :=
   ⟨base, inF, 131071, _, by decide, rfl, by decide +kernel⟩

/-- The clauses of Obligations.InboundVerdicts are about something. -/
theorem test_witness_InboundVerdicts :
    (∃ (q : _) (am : Bool) (f : _) (s : State), f.q = q ∧ (inQ s q).find? (fun f => !f.checked) = some f ∧ f.sc = none ∧ f.sf = false ∧ (f.det && am) = false) ∧
    (∃ (q : _) (f : _) (s : State), q < 32 ∧ f.q = q ∧ (inQ s q).find? (fun f => !f.checked) = some f ∧ f.sc = none ∧ f.sf = false ∧ f.det = true) ∧
    (∃ (q : _) (f : _) (sc : _) (s : State), q < 32 ∧ f.q = q ∧ (inQ s q).find? (fun f => !f.checked) = some f ∧ f.sc = some sc ∧ f.handle = none ∧ f.tags = f.ent.tagsClear) ∧
    (∃ (q : _) (g : _) (f : InFrm) (sc : _) (h : _) (pn : _) (next : _) (window : _) (s : State) (s1 : State), q < 32 ∧ f.q = q ∧ (inQ s q).find? (fun f => !f.checked) = some f ∧ f.sc = some sc ∧ f.handle = some h ∧ ((f.hit = true ∨ g = true)) ∧ s1 = passTo s (f.clk + 64) ∧ (if f.hit && (predAt s q).st != 0 && (predAt s q).handle == h then ((predAt s q).nextPn, (predAt s q).window) else ((saAt s h).pn, f.ent.window)) = (next, window) ∧ pn = recoverPn f.ent.xpn next window f.pnLo ∧ ((f.hit = true → f.ent.xpn = true → pn = f.pn)) ∧ f.tags = f.ent.tagsClear ∧ movedFrom s1 q sc (saAt s h) = none ∧ f.acc = true ∧ saLocal s (saAt s h) = true ∧ (slotAt s h).complete = true ∧ pn ≠ (if f.ent.xpn then 2 ^ 64 - 1 else 2 ^ 32 - 1) ∧ ((f.ent.replay = true → Nat.max (next - window) 1 ≤ pn))) ∧
    (∃ (q : _) (f : _) (sc : _) (h : _) (s : State), q < 32 ∧ f.q = q ∧ (inQ s q).find? (fun f => !f.checked) = some f ∧ f.sc = some sc ∧ f.handle = some h ∧ f.hit = false) ∧
    (∃ (q : _) (f : _) (rest : _) (s : State), q < 32 ∧ f.q = q ∧ inQ s q = f :: rest ∧ f.checked = true ∧ f.sc = none ∧ f.fcsOk = true ∧ f.overl = false ∧ ptpMode s q = 0 ∧ (polAt s (q / 8) f.flow).cir = 0 ∧ detEn s q = false) ∧
    (∃ (q : _) (f : _) (rest : _) (sc : _) (h : _) (pt : _) (s : State), q < 32 ∧ f.q = q ∧ inQ s q = f :: rest ∧ f.checked = true ∧ f.sc = some sc ∧ f.handle = some h ∧ f.fcsOk = true ∧ f.overl = false ∧ f.sf = false ∧ ptpMode s q = 0 ∧ unprotect f = (pt, false) ∧ f.ent.validate = true ∧ (polAt s (q / 8) f.flow).cir = 0 ∧ detEn s q = false) ∧
    (∃ (q : _) (f : _) (rest : _) (sc : _) (h : _) (pt : _) (s : State), q < 32 ∧ f.q = q ∧ inQ s q = f :: rest ∧ f.checked = true ∧ f.sc = some sc ∧ f.handle = some h ∧ f.fcsOk = true ∧ f.overl = false ∧ ptpMode s q = 0 ∧ unprotect f = (pt, true) ∧ (polAt s (q / 8) f.flow).cir = 0 ∧ detEn s q = false) :=
   ⟨⟨31, false, inF, inS inF, by decide +kernel⟩,
    ⟨31, { inF with det := true }, inS { inF with det := true }, by decide +kernel⟩,
    ⟨31, { inF with sc := some 5 }, 5, inS { inF with sc := some 5 }, by decide +kernel⟩,
    ⟨31, false, { inF with sc := some 5, handle := some 131071, hit := true, pnLo := 9 }, 5, 131071, 9, 9, 0, inV { inF with sc := some 5, handle := some 131071, hit := true, pnLo := 9 }, _, by decide +kernel, by decide +kernel, by decide +kernel, by decide +kernel, by decide +kernel, by decide +kernel, rfl, by decide +kernel, by decide +kernel, by decide +kernel, by decide +kernel, by decide +kernel, by decide +kernel, by decide +kernel, by decide +kernel, by decide +kernel, by decide +kernel⟩,
    ⟨31, { inF with sc := some 5, handle := some 131071 }, 5, 131071, inS { inF with sc := some 5, handle := some 131071 }, by decide +kernel⟩,
    ⟨31, { inF with checked := true }, [], inS { inF with checked := true }, by decide +kernel⟩,
    ⟨31, { inF with checked := true, sc := some 5, handle := some 131071 }, [], 5, 131071, (unprotect { inF with checked := true, sc := some 5, handle := some 131071 }).1, inS { inF with checked := true, sc := some 5, handle := some 131071 }, by decide +kernel⟩,
    ⟨31, goodF, [], 5, 131071, (unprotect goodF).1, inS goodF, by decide +kernel⟩⟩

/-- The clauses of Obligations.TimeBaseSteps are about something. -/
theorem test_witness_TimeBaseSteps :
    (∃ (r : Req) (n : _) (v : Nat) (s : State), n < 4 ∧ v < 2 ^ 96 ∧ v / 2 ^ 16 % 2 ^ 32 < 1000000000 ∧ Admitted s r (K.tbSet n) true) ∧
    (∃ (r : Req) (n : _) (v : Nat) (s : State), n < 4 ∧ v < 2 ^ 96 ∧ 1000000000 ≤ v / 2 ^ 16 % 2 ^ 32 ∧ Admitted s r (K.tbSet n) true) ∧
    (∃ (r : Req) (n : _) (ps : Int) (s : State), n < 4 ∧ -(2 ^ 63) ≤ ps ∧ ps < 2 ^ 63 ∧ Admitted s r (K.tbStep n) true) ∧
    (∃ (r : Req) (n : _) (s : State), n < 4 ∧ ((∀ m, m < 4 → m ≠ n → rdBit s (K.tbCtrl m) 8 = true → rdField s (K.tbCtrl m) 23 16 ≠ rdField s (K.tbCtrl n) 23 16)) ∧ Admitted s r (K.tbCtrl n) true) ∧
    (∃ (r : Req) (n : _) (s : State), Admitted s r (K.tbNow n) false) ∧
    (∃ (r : Req) (s : State), Admitted s r K.captureCmd true) :=
   ⟨⟨r0, 3, (2 ^ 48 - 1) * 2 ^ 48 + 999999999 * 2 ^ 16 + 65535, base, by decide +kernel⟩,
    ⟨r0, 3, (2 ^ 48 - 1) * 2 ^ 48 + 1000000000 * 2 ^ 16, base, by decide +kernel⟩,
    ⟨r0, 3, -(2 ^ 63), base, by decide +kernel⟩,
    ⟨r0, 3, base, by decide +kernel⟩,
    ⟨r0, 3, base, by decide +kernel⟩,
    ⟨r0, base, by decide +kernel⟩⟩

/-- The clauses of Obligations.ServoLoop are about something. -/
theorem test_witness_ServoLoop :
    (∃ (r : Req) (n : _) (o : Int) (s : State), n < 4 ∧ -(2 ^ 63) ≤ o ∧ o < 2 ^ 63 ∧ servo s n = Servo.free ∧ Admitted s r (K.servoOffset n) true ∧ tbSetNow s r n = false) ∧
    (∃ (r : Req) (n : _) (o : Int) (s : State), n < 4 ∧ -(2 ^ 63) ≤ o ∧ o < 2 ^ 63 ∧ servo s n ≠ Servo.free ∧ o.natAbs ≤ rd s (K.stepThreshold n) ∧ Admitted s r (K.servoOffset n) true ∧ tbSetNow s r n = false) ∧
    (∃ (r : Req) (n : _) (o : Int) (s : State), n < 4 ∧ -(2 ^ 63) ≤ o ∧ o < 2 ^ 63 ∧ rdBit s (K.tbCtrl n) 0 = true ∧ rd s (K.stepThreshold n) < o.natAbs ∧ Admitted s r (K.servoOffset n) true ∧ tbSetNow s r n = false) ∧
    (∃ (r : Req) (n : _) (o : Int) (s : State), n < 4 ∧ -(2 ^ 63) ≤ o ∧ o < 2 ^ 63 ∧ tbSetNow s r n = true ∧ Admitted s r (K.servoOffset n) true) ∧
    (∃ (r : Req) (n : _) (s : State), n < 4 ∧ ((servo s n = Servo.acquiring ∨ servo s n = Servo.locked)) ∧ Admitted s r (K.servoCtrl n) true) ∧
    (∃ (r : Req) (n : _) (s : State), servo s n = Servo.free ∧ Admitted s r (K.servoCtrl n) true) ∧
    (∃ (n : _) (s : State), n < 4 ∧ servoStale s n = false) ∧
    (∃ (n : _) (s : State), n < 4 ∧ ((servo s n = Servo.acquiring ∨ servo s n = Servo.locked)) ∧ servoStale s n = true) :=
   ⟨⟨r0, 3, -(2 ^ 63), base, by decide +kernel⟩,
    ⟨r0, 3, -100, put [(K.tbStatus 3, 2), (K.stepThreshold 3, 100)] base, by decide +kernel⟩,
    ⟨r0, 3, -101, put [(K.tbCtrl 3, 1), (K.tbStatus 3, 2), (K.stepThreshold 3, 100)] base, by decide +kernel⟩,
    ⟨r0, 3, 2 ^ 63 - 1, { base with tbs := [(3, { State.idleTb with setBy := some (0, 1) })] }, by decide +kernel⟩,
    ⟨r0, 3, put [(K.tbStatus 3, 4)] base, by decide +kernel⟩,
    ⟨r0, 3, base, by decide +kernel⟩,
    ⟨3, base, by decide +kernel⟩,
    ⟨3, tks (fun t => { t with clock := 1250000000 }) (put [(K.tbStatus 3, 2)] base), by decide +kernel⟩⟩

/-- The clauses of Obligations.TimersAndStamps are about something. -/
theorem test_witness_TimersAndStamps :
    (∃ (r : Req) (n : _) (v : Nat) (s : State), n < 4 ∧ v < 2 ^ 32 ∧ rdBit s (K.tbCtrl n) 4 = false ∧ Admitted s r (K.tmrCtrl n) true) ∧
    (∃ (n : _) (i : _) (s : State), n < 4 ∧ i < 4 ∧ rdBit s (K.tmrCtrl n) i = true ∧ (tb s n).stopped = false ∧ timerDue s n i = true ∧ rdBit s (K.tmrCtrl n) (4 + i) = false) ∧
    (∃ (n : _) (i : _) (s : State), n < 4 ∧ i < 4 ∧ rdBit s (K.tmrCtrl n) i = true ∧ (tb s n).stopped = false ∧ timerDue s n i = true ∧ rdBit s (K.tmrCtrl n) (4 + i) = true ∧ rdField s K.syncOutCtrl 1 0 = 3) ∧
    (∃ (n : _) (i : _) (s : State), n < 4 ∧ i < 4 ∧ rdBit s (K.tmrCtrl n) i = true ∧ (tb s n).stopped = false ∧ timerDue s n i = true ∧ rdBit s (K.tmrCtrl n) (4 + i) = true ∧ rdField s K.syncOutCtrl 1 0 ≠ 3) ∧
    (∃ (n : _) (i : _) (s : State), timerDue s n i = false) ∧
    (∃ (r : Req) (n : _) (v : Nat) (i : _) (s : State), n < 4 ∧ v < 16 ∧ i < 4 ∧ bit v i = true ∧ rdBit s (K.tbCtrl n) 4 = true ∧ (tb s n).stopped = false ∧ Admitted s r (K.tmrCtrl n) true) ∧
    (∃ (s : State), tbValid s (rd s K.ppsTb) = true ∧ s.tick.pps < ppsSecond s (rd s K.ppsTb) ∧ rdField s K.syncOutCtrl 1 0 ≠ 1) ∧
    (∃ (s : State), tbValid s (rd s K.ppsTb) = true ∧ s.tick.pps < ppsSecond s (rd s K.ppsTb) ∧ rdField s K.syncOutCtrl 1 0 = 1) ∧
    (∃ (s : State), ((tbValid s (rd s K.ppsTb) = false ∨ ppsSecond s (rd s K.ppsTb) ≤ s.tick.pps))) ∧
    (∃ (r : Req) (q : _) (e : _) (l : _) (s : State), q < 32 ∧ txTs s q = e :: l ∧ tget 0 s.dp.txWord q = 3 ∧ Admitted s r (K.txTsData q) false) ∧
    (∃ (r : Req) (q : _) (e : _) (l : _) (s : State), txTs s q = e :: l ∧ tget 0 s.dp.txWord q < 3 ∧ Admitted s r (K.txTsData q) false) ∧
    (∃ (r : Req) (q : _) (s : State), txTs s q = [] ∧ Admitted s r (K.txTsData q) false) :=
   ⟨⟨r0, 3, 2 ^ 32 - 1, base, by decide +kernel⟩,
    ⟨3, 3, { put [(K.tmrCtrl 3, 8), (K.tmrTarget 3 3, 1)] base with tbs := [(3, { State.idleTb with base := 2 ^ 32 })] }, by decide +kernel⟩,
    ⟨3, 3, { put [(K.tmrCtrl 3, 0x88), (K.tmrTarget 3 3, 1), (K.syncOutCtrl, 3)] base with tbs := [(3, { State.idleTb with base := 2 ^ 32 })] }, by decide +kernel⟩,
    ⟨3, 3, { put [(K.tmrCtrl 3, 0x88), (K.tmrTarget 3 3, 1)] base with tbs := [(3, { State.idleTb with base := 2 ^ 32 })] }, by decide +kernel⟩,
    ⟨3, 3, { put [(K.tmrCtrl 3, 8), (K.tmrTarget 3 3, 1)] base with tbs := [(3, { State.idleTb with base := 2 ^ 32, tmrAt := [(3, 1)] })] }, by decide +kernel⟩,
    ⟨r0, 3, 15, 3, put [(K.tbCtrl 3, 16)] base, by decide +kernel⟩,
    ⟨{ put [(K.tbStatus 0, 1)] base with tbs := [(0, { State.idleTb with base := tbSecond })] }, by decide +kernel⟩,
    ⟨{ put [(K.tbStatus 0, 1), (K.syncOutCtrl, 1)] base with tbs := [(0, { State.idleTb with base := tbSecond })] }, by decide +kernel⟩,
    ⟨base, by decide +kernel⟩,
    ⟨r0, 31, [1, 2, 3, 4], [], dpt (fun d => { d with txTs := [(31, [[1, 2, 3, 4]])], txWord := [(31, 3)] }) base, by decide +kernel⟩,
    ⟨r0, 31, [1, 2, 3, 4], [], dpt (fun d => { d with txTs := [(31, [[1, 2, 3, 4]])], txWord := [(31, 2)] }) base, by decide +kernel⟩,
    ⟨r0, 31, base, by decide +kernel⟩⟩

/-- The clauses of Obligations.PerformanceCounters are about something. -/
theorem test_witness_PerformanceCounters :
    (∃ (r : Req) (h : _) (w : _) (s : State), frozenSnap s = none ∧ w < 6 ∧ rd s K.saStatAddr = w * 2 ^ 20 + h ∧ h < 131072 ∧ ((∀ low, s.assoc.latch ≠ some (w * 2 ^ 20 + h, low))) ∧ Admitted s r K.saStatData false) ∧
    (∃ (r : Req) (h : _) (w : _) (s : State), frozenSnap s = none ∧ w < 6 ∧ rd s K.saStatAddr = w * 2 ^ 20 + h ∧ h < 131072 ∧ ((∀ low, s.assoc.latch ≠ some (w * 2 ^ 20 + h, low))) ∧ Admitted s r K.saStatData false) ∧
    (∃ (r : Req) (h : _) (w : _) (n : _) (s : State), frozenSnap s = some n ∧ w < 6 ∧ rd s K.saStatAddr = w * 2 ^ 20 + h ∧ h < 131072 ∧ ((∀ low, s.assoc.latch ≠ some (w * 2 ^ 20 + h, low))) ∧ Admitted s r K.saStatData false) ∧
    (∃ (r : Req) (h : _) (w : _) (low : _) (s : State), ((w = 1 ∨ w = 3)) ∧ rd s K.saStatAddr = w * 2 ^ 20 + h ∧ h < 131072 ∧ s.assoc.latch = some (w * 2 ^ 20 + h, low) ∧ Admitted s r K.saStatData false) ∧
    (∃ (r : Req) (n : _) (v : _) (s : State), v < 1024 ∧ perfSelOk v = true ∧ Admitted s r (K.perfSel n) true) ∧
    (∃ (r : Req) (n : _) (v : _) (s : State), v < 1024 ∧ perfSelOk v = false ∧ Admitted s r (K.perfSel n) true) ∧
    (∃ (r : Req) (v : Nat) (s : State), v < 2 ^ 32 ∧ Admitted s r K.perfChain true) ∧
    (∃ (r : Req) (s : State), Admitted s r K.perfCtrl true) ∧
    (∃ (s : State) (n : _), n < 64 ∧ n ∈ s.stats.dirty) ∧
    (∃ (s : State) (p : Perf) (n : _), n < 64 ∧ n ∉ s.stats.dirty ∧ tget 0 p.hw n < 65536 ∧ rd s (K.perfAcc n) < 2 ^ 48) :=
   ⟨⟨r0, 131071, 5, put [(K.saStatAddr, 5 * 2 ^ 20 + 131071)] base, by decide +kernel, by decide, by decide +kernel, by decide, (fun low h => by cases h), by decide +kernel⟩,
    ⟨r0, 131071, 5, put [(K.saStatAddr, 5 * 2 ^ 20 + 131071)] base, by decide +kernel, by decide, by decide +kernel, by decide, (fun low h => by cases h), by decide +kernel⟩,
    ⟨r0, 131071, 5, snap0, sts (fun x => { x with snap := some snap0, frozen := some 0 }) (put [(K.saStatAddr, 5 * 2 ^ 20 + 131071)] base), by decide +kernel, by decide, by decide +kernel, by decide, (fun low h => by cases h), by decide +kernel⟩,
    ⟨r0, 131071, 3, 7, asc (fun a => { a with latch := some (3 * 2 ^ 20 + 131071, 7) }) (put [(K.saStatAddr, 3 * 2 ^ 20 + 131071)] base), by decide +kernel⟩,
    ⟨r0, 63, 809, base, by decide +kernel⟩,
    ⟨r0, 63, 1023, base, by decide +kernel⟩,
    ⟨r0, 2 ^ 32 - 1, base, by decide +kernel⟩,
    ⟨r0, base, by decide +kernel⟩,
    ⟨sts (fun x => { x with dirty := [63] }) base, 63, by decide +kernel⟩,
    ⟨base, base.perf, 63, by decide +kernel⟩⟩

/-- The clauses of Obligations.Dumps are about something. -/
theorem test_witness_Dumps :
    (∃ (r : Req) (s : State), Admitted s r K.dumpRequest true) ∧
    (∃ (s : State), s.stats.snap.isSome = true ∧ s.stats.frozen = none ∧ s.stats.dump = none) ∧
    (∃ (i : _) (crc : _) (n : _) (s : State), s.stats.dump = some (i, crc) ∧ s.stats.snap = some n ∧ s.stats.bank.length < 4096 ∧ bgSlot s 3 ≠ none ∧ (dumpCopy n (rd s K.dumpSeq) (Nat.min 1024 (4096 - s.stats.bank.length)) i crc []).2.1 < dumpLen n) ∧
    (∃ (i : _) (crc : _) (n : _) (s : State), s.stats.dump = some (i, crc) ∧ s.stats.snap = some n ∧ s.stats.bank.length < 4096 ∧ bgSlot s 3 ≠ none ∧ dumpLen n ≤ (dumpCopy n (rd s K.dumpSeq) (Nat.min 1024 (4096 - s.stats.bank.length)) i crc []).2.1) ∧
    (∃ (x : _) (n : _) (s : State), s.stats.dump = some x ∧ s.stats.snap = some n ∧ s.stats.bank.length = 4096 ∧ bgSlot s 3 ≠ none) ∧
    (∃ (r : Req) (w : _) (l : _) (s : State), s.stats.bank = w :: l ∧ Admitted s r K.dumpData false) ∧
    (∃ (r : Req) (s : State), s.stats.bank = [] ∧ Admitted s r K.dumpData false) :=
   ⟨⟨r0, base, by decide +kernel⟩,
    ⟨sts (fun x => { x with snap := some snap0 }) base, by decide +kernel⟩,
    ⟨0, 0, snap0, sts (fun x => { x with snap := some snap0, dump := some (0, 0), bank := List.replicate 4095 0 }) base, by decide +kernel⟩,
    ⟨0, 0, snap0, sts (fun x => { x with snap := some snap0, dump := some (0, 0) }) base, by decide +kernel⟩,
    ⟨(0, 0), snap0, sts (fun x => { x with snap := some snap0, dump := some (0, 0), bank := List.replicate 4096 0 }) base, by decide +kernel⟩,
    ⟨r0, 7, [], sts (fun x => { x with bank := [7] }) base, by decide +kernel⟩,
    ⟨r0, base, by decide +kernel⟩⟩

/-- The clauses of Obligations.Freezes are about something. -/
theorem test_witness_Freezes :
    (∃ (r : Req) (s : State), s.stats.frozen = none ∧ Admitted s r K.freezeCtrl true) ∧
    (∃ (s : State), rdBit s K.freezeStatus 1 = true ∧ s.stats.snap = none ∧ s.tick.clock = s.tick.start) ∧
    (∃ (r : Req) (e : _) (s : State), s.stats.frozen = some e ∧ Admitted s r K.freezeCtrl true) ∧
    (∃ (e : _) (s : State), s.stats.frozen = some e ∧ e + 100000 ≤ s.tick.elapsed) ∧
    (∃ (e : _) (s : State), s.stats.frozen = some e ∧ s.tick.elapsed < e + 100000) :=
   ⟨⟨r0, base, by decide +kernel⟩,
    ⟨put [(K.freezeStatus, 2)] base, by decide +kernel⟩,
    ⟨r0, 0, sts (fun x => { x with frozen := some 0 }) base, by decide +kernel⟩,
    ⟨0, tks (fun t => { t with elapsed := 100000 }) (sts (fun x => { x with frozen := some 0 }) base), by decide +kernel⟩,
    ⟨1, tks (fun t => { t with elapsed := 100000 }) (sts (fun x => { x with frozen := some 1 }) base), by decide +kernel⟩⟩

/-- The clauses of Obligations.FabricPorts are about something. -/
theorem test_witness_FabricPorts :
    (∃ (r : Req) (p : _) (v : Nat) (s : State), p < 4 ∧ v < 2 ^ 32 ∧ Admitted s r (K.fabCtrl p) true) ∧
    (∃ (p : _) (s : State), p < 4 ∧ fabLoop s p = false ∧ rdBit s (K.fabStatus p) 4 = true) ∧
    (∃ (p : _) (s : State), p < 4 ∧ fabLoop s p = true) ∧
    (∃ (p : _) (s : State), p < 4 ∧ ((rdBit s (K.fabCtrl p) 0 = true ∨ rdBit s (K.fabCtrl p) 1 = true))) ∧
    (∃ (p : _) (d : _) (s : State), p < 4 ∧ d < 4 ∧ rdBit s (K.fabStatus p) 4 = true ∧ fabOn s p = true) ∧
    (∃ (p : _) (d : _) (s : State), p < 4 ∧ d < 4 ∧ rdBit s (K.fabStatus p) d = true) ∧
    (∃ (p : _) (k : _) (s : State), p < 4 ∧ k ≤ 32 ∧ rdField s (K.fabStatus p) 4 0 = 31) ∧
    (∃ (p : _) (k : _) (s : State), p < 4 ∧ 32 < k ∧ rdField s (K.fabStatus p) 4 0 = 31) ∧
    (∃ (p : _) (s : State), p < 4 ∧ fabOn s p = true) ∧
    (∃ (d : _) (s : State), d ≤ 1 ∧ s.boot.engine = true ∧ s.life.trans = none) ∧
    (∃ (d : _) (s : State), 2 ≤ d ∧ d < 18 ∧ s.boot.engine = true) ∧
    (∃ (d : _) (s : State), 18 ≤ d ∧ d < 22 ∧ s.boot.engine = true ∧ fabLoop s (d - 18) = false ∧ rdBit s (K.fabStatus (d - 18)) 4 = true) ∧
    (∃ (s : State), s.boot.engine = true ∧ (chan s 1).sess = none ∧ (chan s 2).sess = none ∧ rdBit s K.clkLocked 22 = true) ∧
    (∃ (s : State), s.boot.engine = true ∧ canFire s 28 = false ∧ rdBit s K.clkLocked 24 = true) ∧
    (∃ (d : _) (s : State), 2 ≤ d ∧ d < 18 ∧ s.boot.engine = true ∧ groupClk s d = true) ∧
    (∃ (d : _) (s : State), 18 ≤ d ∧ d < 22 ∧ s.boot.engine = true ∧ ((rdBit s (K.fabCtrl (d - 18)) 0 = true ∨ rdBit s (K.fabCtrl (d - 18)) 1 = true))) ∧
    (∃ (s : State), s.boot.engine = true) ∧
    (∃ (s : State), s.boot.engine = true ∧ backupOsc s = true) ∧
    (∃ (s : State), s.boot.engine = true ∧ (tb s 0).stopped = false) ∧
    (∃ (s : State), s.boot.engine = true) :=
   ⟨⟨r0, 3, 2 ^ 32 - 1, base, by decide +kernel⟩,
    ⟨3, put [(K.fabStatus 3, 16)] base, by decide +kernel⟩,
    ⟨3, put [(K.fabCtrl 3, 4)] base, by decide +kernel⟩,
    ⟨3, put [(K.fabCtrl 3, 1)] base, by decide +kernel⟩,
    ⟨3, 3, put [(K.fabStatus 3, 16), (K.fabCtrl 3, 1)] base, by decide +kernel⟩,
    ⟨3, 3, put [(K.fabStatus 3, 8)] base, by decide +kernel⟩,
    ⟨3, 32, put [(K.fabStatus 3, 31)] base, by decide +kernel⟩,
    ⟨3, 33, put [(K.fabStatus 3, 31)] base, by decide +kernel⟩,
    ⟨3, put [(K.fabCtrl 3, 1)] base, by decide +kernel⟩,
    ⟨1, base, by decide +kernel⟩,
    ⟨17, put [(K.laneStatus 63, 37), (K.groupLayout 7, 1), (K.groupMode 7, 1), (K.clkLocked, 2 ^ 17)] base, by decide +kernel⟩,
    ⟨21, put [(K.fabStatus 3, 16), (K.clkLocked, 2 ^ 21)] base, by decide +kernel⟩,
    ⟨put [(K.clkLocked, 2 ^ 22), (K.chanCtrl 2, 1)] base, by decide +kernel⟩,
    ⟨ons (fun o => { o with fired := [28] }) (put [(K.clkLocked, 2 ^ 24)] base), by decide +kernel⟩,
    ⟨17, put ([(K.groupLayout 7, 1), (K.groupMode 7, 1)] ++ [60, 61, 62, 63].map (fun m => (K.laneStatus m, 37))) base, by decide +kernel⟩,
    ⟨21, put [(K.fabCtrl 3, 1)] base, by decide +kernel⟩,
    ⟨put [(K.chanCtrl 2, 1)] base, by decide +kernel⟩,
    ⟨ons (fun o => { o with fired := [28] }) (put [(K.onyxStatus, 2)] base), by decide +kernel⟩,
    ⟨base, by decide +kernel⟩,
    ⟨base, by decide +kernel⟩⟩

/-- The clauses of Obligations.FabricLinks are about something. -/
theorem test_witness_FabricLinks :
    (∃ (p : _) (s : State), p < 4 ∧ fabUp s p = true) ∧
    (∃ (p : _) (m : FabMsg) (n : _) (a : _) (q : _) (lo : _) (hi : _) (s : State), p < 4 ∧ fabUp s p = true ∧ Whole s p m ∧ m.typ = 1 ∧ m.ttl ≠ 0 ∧ m.payload = [n, a, q, lo, hi] ∧ n < 256 ∧ q < 4 ∧ n ≠ nodeId s ∧ 1 ≤ hi ∧ lo ≤ hi ∧ lo ≤ rd s K.fabVersionMax ∧ joined s p = false) ∧
    (∃ (p : _) (m : FabMsg) (n : _) (a : _) (q : _) (lo : _) (hi : _) (s : State), p < 4 ∧ fabUp s p = true ∧ Whole s p m ∧ m.typ = 1 ∧ m.ttl ≠ 0 ∧ m.payload = [n, a, q, lo, hi] ∧ n < 256 ∧ n ≠ nodeId s ∧ 1 ≤ hi ∧ lo ≤ hi ∧ lo ≤ rd s K.fabVersionMax ∧ joined s p = true) ∧
    (∃ (p : _) (m : FabMsg) (l : _) (s : State), p < 4 ∧ fabUp s p = true ∧ Whole s p m ∧ m.typ = 1 ∧ m.ttl ≠ 0 ∧ m.payload = nodeId s :: l ∧ nodeId s < 256) ∧
    (∃ (p : _) (m : FabMsg) (n : _) (a : _) (q : _) (lo : _) (hi : _) (s : State), p < 4 ∧ fabUp s p = true ∧ Whole s p m ∧ m.typ = 1 ∧ m.ttl ≠ 0 ∧ m.payload = [n, a, q, lo, hi] ∧ n < 256 ∧ n ≠ nodeId s ∧ ((hi < lo ∨ rd s K.fabVersionMax < lo))) ∧
    (∃ (p : _) (m : FabMsg) (s : State), p < 4 ∧ fabUp s p = true ∧ fabLoop s p = false ∧ m.good = false) ∧
    (∃ (p : _) (m : _) (s : State), p < 4 ∧ fabLoop s p = true ∧ (tget [] s.fab.looped p).head? ≠ some m) ∧
    (∃ (p : _) (m : FabMsg) (l : _) (w : _) (s : State), p < 4 ∧ fabUp s p = true ∧ fabLoop s p = true ∧ tget [] s.fab.looped p = m :: l ∧ m.good = true ∧ m.typ = 1 ∧ m.ttl ≠ 0 ∧ m.payload = nodeId s :: w ∧ nodeId s < 256) ∧
    (∃ (p : _) (s : State), p < 4 ∧ joined s p = true ∧ tget 0 s.fab.hello p + 299 ≤ s.tick.elapsed) ∧
    (∃ (p : _) (m : FabMsg) (a : _) (q : _) (l : _) (s : State), p < 4 ∧ joined s p = true ∧ Whole s p m ∧ m.typ = 2 ∧ m.ttl ≠ 0 ∧ m.src ≠ nodeId s ∧ m.payload = a :: q :: l ∧ tget none s.fab.db m.src = none) ∧
    (∃ (p : _) (m : FabMsg) (a : _) (q : _) (l : _) (e : _) (s : State), p < 4 ∧ joined s p = true ∧ Whole s p m ∧ m.typ = 2 ∧ m.ttl ≠ 0 ∧ m.src ≠ nodeId s ∧ m.payload = a :: q :: l ∧ tget none s.fab.db m.src = some e ∧ e.tag = a ∧ e.seq = q) ∧
    (∃ (p : _) (m : FabMsg) (a : _) (q : _) (l : _) (e : _) (s : State), p < 4 ∧ joined s p = true ∧ Whole s p m ∧ m.typ = 2 ∧ m.ttl ≠ 0 ∧ m.src ≠ nodeId s ∧ m.payload = a :: q :: l ∧ tget none s.fab.db m.src = some e ∧ e.tag = a ∧ e.seq ≠ q ∧ e.dup = false) ∧
    (∃ (p : _) (m : FabMsg) (a : _) (l : _) (s : State), p < 4 ∧ joined s p = true ∧ Whole s p m ∧ m.typ = 2 ∧ m.ttl ≠ 0 ∧ m.src = nodeId s ∧ m.payload = a :: l ∧ a ≠ unitTag s) ∧
    (∃ (n : _) (e : _) (s : State), tget none s.fab.db n = some e ∧ e.at_ + 300000 ≤ s.tick.elapsed) ∧
    (∃ (s : State), s.fab.ownDup = true) ∧
    (∃ (s : State), s.fab.ownDup = false) ∧
    (∃ (p : _) (m : FabMsg) (o : _) (s : State), p < 4 ∧ joined s p = true ∧ Whole s p m ∧ msgKnown m.typ = true ∧ m.ttl ≠ 0 ∧ m.bcast = false ∧ m.dst ≠ nodeId s ∧ routeTo s (max 1 (min 3 m.ver)) m.dst = some o) ∧
    (∃ (p : _) (m : FabMsg) (s : State), p < 4 ∧ joined s p = true ∧ Whole s p m ∧ msgKnown m.typ = true ∧ m.ttl ≠ 0 ∧ m.bcast = false ∧ m.dst ≠ nodeId s ∧ routeTo s (max 1 (min 3 m.ver)) m.dst = none) ∧
    (∃ (p : _) (m : FabMsg) (s : State), p < 4 ∧ joined s p = true ∧ Whole s p m ∧ msgKnown m.typ = true ∧ m.ttl ≠ 0 ∧ m.bcast = true ∧ m.src ≠ nodeId s ∧ tget 0 s.fab.relayed m.src ≠ m.seq + 1) ∧
    (∃ (p : _) (m : FabMsg) (s : State), p < 4 ∧ joined s p = true ∧ Whole s p m ∧ msgKnown m.typ = true ∧ m.ttl = 0) :=
   ⟨⟨3, put [(K.fabStatus 3, 64)] base, by decide +kernel⟩,
    ⟨3, msg 1 [255, 0, 3, 3, 3], 255, 0, 3, 3, 3, node9 [(K.fabStatus 3, 64)], by decide +kernel⟩,
    ⟨3, msg 1 [255, 0, 3, 3, 3], 255, 0, 3, 3, 3, node9 [(K.fabStatus 3, 64), (K.linkStatus 3, 1)], by decide +kernel⟩,
    ⟨3, msg 1 [9, 0], [0], node9 [(K.fabStatus 3, 64)], by decide +kernel⟩,
    ⟨3, msg 1 [255, 0, 3, 4, 4], 255, 0, 3, 4, 4, node9 [(K.fabStatus 3, 64)], by decide +kernel⟩,
    ⟨3, { msg 1 [] with clean := false }, node9 [(K.fabStatus 3, 64)], by decide +kernel⟩,
    ⟨3, msg 1 [], node9 [(K.fabCtrl 3, 4)], by decide +kernel⟩,
    ⟨3, FabMsg.sealed ⟨9, 1, 1, 9, 0, true, 0, 1, 0, [9, 0], true, 0⟩, [], [0], fbs (fun f => { f with looped := [(3, [FabMsg.sealed ⟨9, 1, 1, 9, 0, true, 0, 1, 0, [9, 0], true, 0⟩])] }) (node9 [(K.fabStatus 3, 64), (K.fabCtrl 3, 4)]), by decide +kernel⟩,
    ⟨3, tks (fun t => { t with elapsed := 299 }) (node9 [(K.linkStatus 3, 1)]), by decide +kernel⟩,
    ⟨3, msg 2 [1, 2], 1, 2, [], node9 [(K.linkStatus 3, 1)], by decide +kernel⟩,
    ⟨3, msg 2 [1, 2], 1, 2, [], ⟨1, 2, [], 0, false⟩, fbs (fun f => { f with db := [(5, some ⟨1, 2, [], 0, false⟩)] }) (node9 [(K.linkStatus 3, 1)]), by decide +kernel⟩,
    ⟨3, msg 2 [1, 3], 1, 3, [], ⟨1, 2, [], 0, false⟩, fbs (fun f => { f with db := [(5, some ⟨1, 2, [], 0, false⟩)] }) (node9 [(K.linkStatus 3, 1)]), by decide +kernel⟩,
    ⟨3, FabMsg.sealed { msg 2 [0] with src := 9 }, 0, [], node9 [(K.linkStatus 3, 1)], by decide +kernel⟩,
    ⟨5, ⟨1, 2, [], 0, false⟩, tks (fun t => { t with elapsed := 300000 }) (fbs (fun f => { f with db := [(5, some ⟨1, 2, [], 0, false⟩)] }) base), by decide +kernel⟩,
    ⟨fbs (fun f => { f with ownDup := true }) base, by decide +kernel⟩,
    ⟨base, by decide +kernel⟩,
    ⟨3, FabMsg.sealed { msg 0x10 [] with dst := 5 }, 3, fbs (fun f => { f with routes := [(517, 4)] }) (node9 [(K.linkStatus 3, 1)]), by decide +kernel⟩,
    ⟨3, FabMsg.sealed { msg 0x10 [] with dst := 5 }, node9 [(K.linkStatus 3, 1)], by decide +kernel⟩,
    ⟨3, FabMsg.sealed { msg 0x10 [] with bcast := true }, node9 [(K.linkStatus 3, 1)], by decide +kernel⟩,
    ⟨3, FabMsg.sealed { msg 0x10 [] with ttl := 0 }, node9 [(K.linkStatus 3, 1)], by decide +kernel⟩⟩

/-- The clauses of Obligations.Roles are about something. -/
theorem test_witness_Roles :
    (∃ (m : FabMsg) (g : _) (e : Nat) (w : _) (s : State), MsgFor s m Msg.takeover ∧ entryOf s m.group = some g ∧ m.payload = [e, w] ∧ e < 2 ^ 32 ∧ 0 < toSigned 32 ((e + 2 ^ 32 - roleEpochOf s g) % 2 ^ 32) ∧ (roleAt s g).st = 1 ∧ (roleAt s g).taking = none) ∧
    (∃ (m : FabMsg) (g : _) (e : Nat) (w : _) (s : State), MsgFor s m Msg.stale ∧ entryOf s m.group = some g ∧ m.payload = [e, w] ∧ e < 2 ^ 32 ∧ 0 < toSigned 32 ((e + 2 ^ 32 - roleEpochOf s g) % 2 ^ 32) ∧ roleActive (roleAt s g) = true) ∧
    (∃ (m : FabMsg) (g : _) (a : _) (b : _) (s : State), MsgFor s m Msg.takeover ∧ entryOf s m.group = some g ∧ m.payload = [roleEpochOf s g, a] ∧ a < 256 ∧ (roleAt s g).node = some b ∧ b ≠ nodeId s) ∧
    (∃ (m : FabMsg) (g : _) (e : Nat) (w : _) (o : _) (s : State), MsgFor s m Msg.stale ∧ entryOf s m.group = some g ∧ m.payload = [e, w] ∧ e < 2 ^ 32 ∧ toSigned 32 ((e + 2 ^ 32 - roleEpochOf s g) % 2 ^ 32) < 0 ∧ routeTo s 2 m.src = some o) ∧
    (∃ (r : Req) (g : _) (v : Nat) (s : State), g < 4 ∧ v < 2 ^ 32 ∧ bit v 31 = true ∧ roleEn s g = false ∧ roleCtrlOk s g (Nat.land v 0xB8FF0F03) = true ∧ Admitted s r (K.roleCtrl g) true) ∧
    (∃ (r : Req) (g : _) (v : Nat) (s : State), g < 4 ∧ v < 2 ^ 32 ∧ bit v 31 = true ∧ ((bits v 29 28 = 1 ∨ bits v 29 28 = 2)) ∧ roleEn s g = true ∧ Admitted s r (K.roleCtrl g) true) ∧
    (∃ (r : Req) (g : _) (v : Nat) (s : State), g < 4 ∧ v < 2 ^ 32 ∧ ((bits v 29 28 = 1 ∨ bits v 29 28 = 2)) ∧ bit v 31 = false ∧ roleEn s g = true ∧ Admitted s r (K.roleCtrl g) true) ∧
    (∃ (r : Req) (g : _) (v : Nat) (s : State), g < 4 ∧ v < 2 ^ 32 ∧ ((bits v 29 28 = 1 ∨ bits v 29 28 = 2)) ∧ bit v 31 = false ∧ roleEn s g = false ∧ Admitted s r (K.roleCtrl g) true) ∧
    (∃ (r : Req) (g : _) (v : Nat) (s : State), g < 4 ∧ v < 2 ^ 32 ∧ ((bits v 29 28 = 0 ∨ bits v 29 28 = 3)) ∧ Admitted s r (K.roleCtrl g) true) ∧
    (∃ (g : _) (s : State), g < 4 ∧ roleEn s g = true ∧ rdBit s (K.roleCtrl g) 27 = true ∧ (roleAt s g).st = 1 ∧ (roleAt s g).taking = none ∧ (roleAt s g).heard = false ∧ (roleAt s g).since + 2 ≤ s.tick.elapsed ∧ classBlocked s g = false ∧ busyElsewhere s g = false ∧ ((rolePair s g = false ∨ lockHigh s = true))) ∧
    (∃ (r : Req) (g : _) (v : Nat) (s : State), g < 4 ∧ v < none64 ∧ roleActive (roleAt s g) = true ∧ rd s (K.roleSwitchTick g) = none64 ∧ armOk s v = true ∧ Admitted s r (K.roleSwitchTick g) true) ∧
    (∃ (r : Req) (g : _) (s : State), g < 4 ∧ roleActive (roleAt s g) = false ∧ Admitted s r (K.roleSwitchTick g) true) ∧
    (∃ (g : _) (old : _) (s : State), g < 4 ∧ (roleAt s g).taking = some old ∧ ((∀ k, k < 4 → k ≠ g → (roleAt s k).taking = none)) ∧ old ≠ nodeId s ∧ (roleAt s g).dropAfter = false ∧ migTouches s old = false) :=
   ⟨⟨msg 0x10 [2 ^ 31 - 3, 7], 3, 2 ^ 31 - 3, 7, pair (rst 1) [], by decide +kernel⟩,
    ⟨msg 0x11 [2 ^ 31 - 3, 7], 3, 2 ^ 31 - 3, 7, pair (rst 2) [], by decide +kernel⟩,
    ⟨msg 0x10 [0, 6], 3, 6, 5, pair { rst 1 with node := some 5 } [], by decide +kernel⟩,
    ⟨msg 0x11 [2 ^ 32 - 1, 7], 3, 2 ^ 32 - 1, 7, 3, fbs (fun f => { f with routes := [(517, 4)] }) (pair (rst 1) []), by decide +kernel⟩,
    ⟨r0, 3, 0x90010103, base, by decide +kernel⟩,
    ⟨r0, 3, 0x90000000, pair (rst 1) [], by decide +kernel⟩,
    ⟨r0, 3, 0x10010103, pair (rst 2) [], by decide +kernel⟩,
    ⟨r0, 3, 0x10010103, base, by decide +kernel⟩,
    ⟨r0, 3, 2 ^ 32 - 1, base, by decide +kernel⟩,
    ⟨3, tks (fun t => { t with elapsed := 2 }) (lease (rst 1) []), by decide +kernel⟩,
    ⟨r0, 3, 2 ^ 31, pair (rst 2) [(K.tickStatus, 1)], by decide +kernel⟩,
    ⟨r0, 3, base, by decide +kernel⟩,
    ⟨3, 5, pair { rst 2 with taking := some 5 } [], by decide +kernel⟩⟩

/-- The clauses of Obligations.Heartbeats are about something. -/
theorem test_witness_Heartbeats :
    (∃ (g : _) (s : State), OnePair s g ∧ ((roleActive (roleAt s g) = true → s.fab.lock = true)) ∧ fabUp s (roleHbPort s g) = true ∧ ranNow s 1 = false) ∧
    (∃ (g : _) (s : State), OnePair s g ∧ ((roleActive (roleAt s g) = true → s.fab.lock = true)) ∧ fabUp s (roleHbPort s g) = false ∧ ranNow s 1 = false) ∧
    (∃ (s : State), ((∀ k, k < 4 → rolePair s k = false))) ∧
    (∃ (s : State), ((∀ k, k < 4 → rolePair s k = false))) ∧
    (∃ (g : _) (s : State), OnePair s g ∧ (roleAt s g).seenF = s.tick.elapsed + 1 ∧ (roleAt s g).seenP = s.tick.elapsed + 1 ∧ (roleAt s g).lost = false ∧ (((roleAt s g).st = 2 ∨ (roleAt s g).st = 1 ∧ (eligible s g = false ∨ bit (roleAt s g).flags 7 = true))) ∧ ranNow s 2 = false) ∧
    (∃ (g : _) (s : State), OnePair s g ∧ (roleAt s g).seenF = s.tick.elapsed + 1 ∧ (roleAt s g).seenP = s.tick.elapsed + 1 ∧ (roleAt s g).lost = true ∧ 0 < (roleAt s g).goodF ∧ (roleAt s g).st = 1 ∧ ((eligible s g = false ∨ bit (roleAt s g).flags 7 = true)) ∧ ranNow s 2 = false) ∧
    (∃ (p : _) (g : _) (set : _) (s : State), OnePair s g ∧ p < 4 ∧ roleHbPort s g = p ∧ fabUp s p = true ∧ fabLoop s p = false ∧ nth set 4 = 0xB5 ∧ crc8 ((set.drop 4).take 11) = nth set 15 ∧ nth set 5 = rolePeer s g ∧ nth set 6 = roleGroup s g ∧ nth set 9 * 65536 + nth set 10 * 256 + nth set 11 = tickNo s % 2 ^ 24) ∧
    (∃ (set : _), crc8 ((set.drop 4).take 11) ≠ nth set 15) ∧
    (∃ (g : _) (set : _) (s : State), OnePair s g ∧ nth set 0 = 0xAB ∧ crc8 ((set.drop 1).take 3) = nth set 4 ∧ nth set 1 = rolePeer s g ∧ nth set 3 = tickNo s % 2 ^ 8) ∧
    (∃ (g : _) (set : _) (s : State), OnePair s g ∧ nth set 0 = 0xAB ∧ crc8 ((set.drop 1).take 3) = nth set 4 ∧ nth set 1 = rolePeer s g ∧ nth set 3 ≠ tickNo s % 2 ^ 8) ∧
    (∃ (g : _) (s : State), OnePair s g ∧ (roleAt s g).missF = 1 ∧ (roleAt s g).missP = 1 ∧ (roleAt s g).lost = false ∧ (roleAt s g).st = 2 ∧ (roleAt s g).seenF ≠ s.tick.elapsed + 1 ∧ (roleAt s g).seenP ≠ s.tick.elapsed + 1 ∧ ranNow s 2 = false) ∧
    (∃ (g : _) (s : State), OnePair s g ∧ 0 < (roleAt s g).missF ∧ 0 < (roleAt s g).missP ∧ (roleAt s g).lost = true ∧ (roleAt s g).st = 1 ∧ (roleAt s g).taking = none ∧ (roleAt s g).seenF ≠ s.tick.elapsed + 1 ∧ (roleAt s g).seenP ≠ s.tick.elapsed + 1 ∧ eligible s g = true ∧ classBlocked s g = false ∧ busyElsewhere s g = false ∧ ranNow s 2 = false) ∧
    (∃ (i : _) (c : _) (s : State), (i, c) ∈ [(1, Instr.heartbeatSend), (2, .heartbeatCheck), (3, .leaseClaimDecide), (4, .reservationSend), (5, .replaySyncSend)] ∧ ranNow s i = true) ∧
    (∃ (s : State), s.fab.lockAt + 16384 ≤ s.tick.clock) ∧
    (∃ (s : State), s.tick.clock < s.fab.lockAt + 16384) ∧
    (∃ (g : _) (s : State), g < 4 ∧ roleEn s g = true ∧ roleStandby (roleAt s g) = true ∧ s.fab.selfStep < 8 ∧ bgSlot s 5 ≠ none) ∧
    (∃ (g : _) (s : State), g < 4 ∧ roleEn s g = true ∧ roleStandby (roleAt s g) = true ∧ bgSlot s 5 ≠ none) ∧
    (∃ (s : State), ((∀ g, g < 4 → roleEn s g = false ∨ roleStandby (roleAt s g) = false))) :=
   ⟨⟨3, pair (rst 1) [], by decide +kernel⟩,
    ⟨3, pair (rst 1) [(K.fabStatus 3, 0)], by decide +kernel⟩,
    ⟨base, by decide +kernel⟩,
    ⟨base, by decide +kernel⟩,
    ⟨3, pair { rst 2 with seenF := 1, seenP := 1 } [], by decide +kernel⟩,
    ⟨3, pair { rst 1 with seenF := 1, seenP := 1, lost := true, goodF := 1 } [], by decide +kernel⟩,
    ⟨3, 3, hbGood, pair (rst 1) [], by decide +kernel⟩,
    ⟨[0, 0, 0, 0, 0xB5, 0, 0, 0, 0, 0, 0, 0, 0, 0, 0, 0], by decide +kernel⟩,
    ⟨3, burst 0, pair (rst 1) [], by decide +kernel⟩,
    ⟨3, burst 1, pair (rst 1) [], by decide +kernel⟩,
    ⟨3, pair { rst 2 with missF := 1, missP := 1 } [], by decide +kernel⟩,
    ⟨3, pair { rst 1 with missF := 1, missP := 1, lost := true } [(K.health 3, 128)], by decide +kernel⟩,
    ⟨5, Instr.replaySyncSend, tks (fun t => { t with ran := [(5, 1)] }) base, by decide +kernel⟩,
    ⟨tks (fun t => { t with clock := 16384 }) base, by decide +kernel⟩,
    ⟨tks (fun t => { t with clock := 16383 }) base, by decide +kernel⟩,
    ⟨3, fbs (fun f => { f with selfStep := 7 }) (pair (rst 1) []), by decide +kernel⟩,
    ⟨3, fbs (fun f => { f with selfStep := 135 }) (pair (rst 1) []), by decide +kernel⟩,
    ⟨base, by decide +kernel⟩⟩

/-- The clauses of Obligations.Leases are about something. -/
theorem test_witness_Leases :
    (∃ (m : FabMsg) (g : _) (s : State), GroupMsg s m Msg.renew g ∧ roleLease s g = true ∧ (roleAt s g).node = some m.src) ∧
    (∃ (m : FabMsg) (g : _) (s : State), GroupMsg s m Msg.renew g ∧ roleLease s g = true ∧ (roleAt s g).node ≠ some m.src) ∧
    (∃ (m : FabMsg) (g : _) (s : State), MsgFor s m Msg.renew ∧ 2 ≤ m.ver ∧ entryOf s m.group = some g ∧ m.epoch ≠ roleEpochOf s g) ∧
    (∃ (m : FabMsg) (g : _) (s : State), GroupMsg s m Msg.answer g ∧ roleLease s g = true ∧ bit (nth m.payload 0) 31 = true ∧ wordsTick m.payload 1 = (roleAt s g).want ∧ (roleAt s g).want ≠ none64 ∧ m.src ∉ (roleAt s g).grants ∧ m.src ∈ roleMembers s g ∧ majority s g ((roleAt s g).grants.length + 1) = true ∧ (roleAt s g).st = 2) ∧
    (∃ (m : FabMsg) (g : _) (s : State), GroupMsg s m Msg.answer g ∧ roleLease s g = true ∧ ((bit (nth m.payload 0) 31 = false ∨ wordsTick m.payload 1 ≠ (roleAt s g).want))) ∧
    (∃ (m : FabMsg) (g : _) (s : State), GroupMsg s m Msg.answer g ∧ roleLease s g = true ∧ bit (nth m.payload 0) 31 = true ∧ wordsTick m.payload 1 = (roleAt s g).want ∧ (roleAt s g).want ≠ none64 ∧ m.src ∉ (roleAt s g).grants ∧ m.src ∈ roleMembers s g ∧ majority s g ((roleAt s g).grants.length + 1) = false) ∧
    (∃ (g : _) (s : State), g < 4 ∧ roleLease s g = true ∧ rd s (K.leaseExpiry g) ≠ none64 ∧ dueNow s (rd s (K.leaseExpiry g)) = true ∧ (roleAt s g).lapsed = false ∧ roleActive (roleAt s g) = true) ∧
    (∃ (g : _) (s : State), g < 4 ∧ roleLease s g = true ∧ rd s (K.leaseExpiry g) ≠ none64 ∧ dueNow s (rd s (K.leaseExpiry g)) = true ∧ (roleAt s g).lapsed = false ∧ roleActive (roleAt s g) = false) ∧
    (∃ (m : FabMsg) (g : _) (s : State), GroupMsg s m Msg.claim g ∧ roleLease s g = true ∧ m.src ∈ roleMembers s g) ∧
    (∃ (g : _) (s : State), ((∀ k, k < 4 → roleLease s k = decide (k = g))) ∧ g < 4 ∧ (roleAt s g).claims ≠ [] ∧ rd s (K.leaseExpiry g) = none64 ∧ ranNow s 3 = false) ∧
    (∃ (g : _) (s : State), ((∀ k, k < 4 → roleLease s k = decide (k = g))) ∧ g < 4 ∧ (roleAt s g).claims ≠ [] ∧ rd s (K.leaseExpiry g) ≠ none64 ∧ dueNow (toCc s 960) (rd s (K.leaseExpiry g)) = false ∧ ranNow s 3 = false) ∧
    (∃ (s : State), ((∀ k, k < 4 → roleLease s k = true → (roleAt s k).claims = []))) ∧
    (∃ (s : State), ((∀ k, k < 4 → roleLease s k = false)) ∧ s.assoc.skips = [] ∧ s.lines.l1Skips = []) ∧
    (∃ (h : _) (l : _) (s : State), ((∀ k, k < 4 → roleLease s k = false)) ∧ s.assoc.skips = h :: l ∧ s.lines.l1Skips = []) ∧
    (∃ (s : State), activeEntry s = none ∧ ((∀ k, k < 4 → roleEn s k = false)) ∧ ranNow s 4 = false) ∧
    (∃ (g : _) (s : State), activeEntry s = some g ∧ (roleAt s g).st = 3 ∧ ((∀ k, k < 4 → roleLease s k = false)) ∧ ranNow s 4 = false) ∧
    (∃ (g : _) (s : State), activeEntry s = some g ∧ (roleAt s g).st ≠ 3 ∧ (roleAt s g).resync = [] ∧ ((∀ k, k < 4 → roleLease s k = false)) ∧ ranNow s 4 = false) ∧
    (∃ (m : FabMsg) (g : _) (h : _) (q : _) (a : _) (b : _) (s : State), GroupMsg s m Msg.resvReq g ∧ m.payload = [q, h, a, b] ∧ h < 2 ^ 17 ∧ saLocal s (saAt s h) = false ∧ (saAt s h).node = m.src ∧ (saAt s h).resv = true ∧ (saAt s h).st = Sa.active ∧ (roleAt s g).seqRx = none) ∧
    (∃ (m : FabMsg) (g : _) (h : _) (q : _) (a : _) (b : _) (s : State), GroupMsg s m Msg.resvConf g ∧ m.payload = [q, h, a, b] ∧ h < 2 ^ 17 ∧ (saAt s h).asked ≠ 0 ∧ (saAt s h).asked ≤ a * 2 ^ 32 + b ∧ resvTo s g = [m.src] ∧ (roleAt s g).st = 2) ∧
    (∃ (s : State), activeEntry s = none) ∧
    (∃ (g : _) (s : State), activeEntry s = some g ∧ rd s K.insyncPerTick = 0 ∧ ranNow s 5 = false) ∧
    (∃ (g : _) (s : State), activeEntry s = some g ∧ 0 < rd s K.insyncPerTick ∧ 3 ≤ rd s K.fabVersionMax ∧ replayTo s g ≠ [] ∧ (replayLeft s).length ≤ rd s K.insyncPerTick ∧ replayLeft s ≠ [] ∧ ranNow s 5 = false) ∧
    (∃ (g : _) (s : State), activeEntry s = some g ∧ 0 < rd s K.insyncPerTick ∧ 3 ≤ rd s K.fabVersionMax ∧ replayTo s g ≠ [] ∧ rd s K.insyncPerTick < (replayLeft s).length ∧ ranNow s 5 = false) ∧
    (∃ (g : _) (d : _) (o : _) (s : State), activeEntry s = some g ∧ 3 ≤ rd s K.fabVersionMax ∧ replayTo s g = [d] ∧ routeTo s 3 d = some o ∧ (replayLeft s).length ≤ rd s K.insyncPerTick ∧ (replayLeft s).length ≤ 85 ∧ replayLeft s ≠ [] ∧ ranNow s 5 = false) ∧
    (∃ (m : FabMsg) (g : _) (h : _) (a : _) (b : _) (s : State), GroupMsg s m Msg.replay g ∧ m.payload = [h, a, b] ∧ h < 2 ^ 17 ∧ saLocal s (saAt s h) = false ∧ (saAt s h).node = m.src) :=
   ⟨⟨msg 0x12 [], 3, lease { rst 1 with node := some 5 } [], by decide +kernel⟩,
    ⟨msg 0x12 [], 3, lease (rst 1) [], by decide +kernel⟩,
    ⟨FabMsg.sealed { msg 0x12 [] with epoch := 1 }, 3, lease (rst 1) [], by decide +kernel⟩,
    ⟨msg 0x14 [2 ^ 31, 0, 1], 3, lease { rst 2 with want := 1, grants := [6, 7] } [], by decide +kernel⟩,
    ⟨msg 0x14 [], 3, lease (rst 2) [], by decide +kernel⟩,
    ⟨msg 0x14 [2 ^ 31, 0, 1], 3, lease { rst 2 with want := 1 } [], by decide +kernel⟩,
    ⟨3, lease (rst 2) [(K.leaseExpiry 3, 0)], by decide +kernel⟩,
    ⟨3, lease (rst 1) [(K.leaseExpiry 3, 0)], by decide +kernel⟩,
    ⟨msg 0x13 [], 3, lease (rst 1) [], by decide +kernel⟩,
    ⟨3, lease { rst 1 with claims := [(0, 5)] } [], by decide +kernel⟩,
    ⟨3, lease { rst 1 with claims := [(0, 5)] } [(K.leaseExpiry 3, 5), (K.tickNumber, 4)], by decide +kernel⟩,
    ⟨base, by decide +kernel⟩,
    ⟨base, by decide +kernel⟩,
    ⟨131071, [], asc (fun a => { a with skips := [131071] }) base, by decide +kernel⟩,
    ⟨base, by decide +kernel⟩,
    ⟨3, pair (rst 3) [], by decide +kernel⟩,
    ⟨3, pair (rst 2) [], by decide +kernel⟩,
    ⟨msg 0x20 [0, 131071, 0, 0], 3, 131071, 0, 0, 0, withSa { sa0 with node := 5, resv := true, st := 2 } (pair (rst 1) []), by decide +kernel⟩,
    ⟨msg 0x21 [0, 131071, 0, 7], 3, 131071, 0, 0, 7, withSa { sa0 with asked := 7 } (pair (rst 2) []), by decide +kernel⟩,
    ⟨base, by decide +kernel⟩,
    ⟨3, pair (rst 2) [(K.insyncPerTick, 0)], by decide +kernel⟩,
    ⟨3, asc (fun a => { a with sc := [(5, { sc0 with ctrl := 0x40000000 })], sa := [(7, { sa0 with node := 9, st := 2, sc := 5 }), (131071, { sa0 with node := 9, st := 2, sc := 5 })] }) (fbs (fun f => { f with routes := [(773, 4)] }) (pair (rst 2) [(K.insyncPerTick, 2)])), by decide +kernel⟩,
    ⟨3, asc (fun a => { a with sc := [(5, { sc0 with ctrl := 0x40000000 })], sa := [(7, { sa0 with node := 9, st := 2, sc := 5 }), (131071, { sa0 with node := 9, st := 2, sc := 5 })] }) (fbs (fun f => { f with routes := [(773, 4)] }) (pair (rst 2) [(K.insyncPerTick, 1)])), by decide +kernel⟩,
    ⟨3, 5, 3, asc (fun a => { a with sc := [(5, { sc0 with ctrl := 0x40000000 })], sa := [(7, { sa0 with node := 9, st := 2, sc := 5 }), (131071, { sa0 with node := 9, st := 2, sc := 5 })] }) (fbs (fun f => { f with routes := [(773, 4)] }) (pair (rst 2) [(K.insyncPerTick, 2)])), by decide +kernel⟩,
    ⟨msg 0x33 [131071, 0, 0], 3, 131071, 0, 0, withSa { sa0 with node := 5 } (pair (rst 1) []), by decide +kernel⟩⟩

/-- The clauses of Obligations.Migrations are about something. -/
theorem test_witness_Migrations :
    (∃ (r : Req) (v : Nat) (s : State), v < none64 ∧ rd s K.migTick = none64 ∧ rd s K.migNode = nodeId s ∧ armOk s v = true ∧ Admitted s r K.migTick true) ∧
    (∃ (r : Req) (s : State), rd s K.migTick ≠ none64 ∧ Admitted s r K.migTick true) ∧
    (∃ (r : Req) (v : Nat) (s : State), v < none64 ∧ rd s K.migTick = none64 ∧ rd s K.migNode ≠ nodeId s ∧ reaches s 3 (rd s K.migNode) = false ∧ Admitted s r K.migTick true) ∧
    (∃ (r : Req) (v : Nat) (c : _) (o : _) (s : State), v < none64 ∧ rd s K.migTick = none64 ∧ rd s K.migNode = c ∧ c ≠ nodeId s ∧ routeTo s 3 c = some o ∧ armOk s v = true ∧ Admitted s r K.migTick true) ∧
    (∃ (m : FabMsg) (c : _) (p : _) (a : _) (b : _) (e : _) (s : State), MsgFor s m Msg.moveCheck ∧ m.payload = [c, p, a, b, e] ∧ c < 65536 ∧ e < 65536 ∧ isPort s p = true ∧ s.fab.target = none ∧ ((∀ h ∈ scHandles (scAt s c), saLocal s (saAt s h) = false ∧ (slotAt s h).complete = true))) ∧
    (∃ (m : FabMsg) (s : State), MsgFor s m Msg.moveAnswer ∧ rd s K.migTick ≠ none64 ∧ rd s K.migNode = m.src) ∧
    (∃ (m : FabMsg) (h : _) (a : _) (b : _) (c : _) (d : _) (s : State), MsgFor s m Msg.move ∧ m.payload = [h, a, b, c, d] ∧ h < 2 ^ 17 ∧ saLocal s (saAt s h) = true ∧ (scAt s (saAt s h).sc).inbound = false ∧ (saAt s h).waitMove = true) ∧
    (∃ (m : FabMsg) (h : _) (a : _) (b : _) (c : _) (d : _) (e : _) (f : _) (s : State), MsgFor s m Msg.final ∧ m.payload = [h, a, b, c, d, e, f] ∧ h < 2 ^ 17 ∧ saLocal s (saAt s h) = true) ∧
    (∃ (c : _) (x : _) (s : State), s.assoc.moved = [(c, x)] ∧ x.overl = false ∧ dueNow s x.until_ = true) ∧
    (∃ (s : State), ((∀ y ∈ s.assoc.moved, y.2.overl = true ∨ dueNow s y.2.until_ = false))) :=
   ⟨⟨r0, 2 ^ 31, node9 [(K.migNode, 9), (K.tickStatus, 1)], by decide +kernel⟩,
    ⟨r0, put [(K.migTick, 5)] base, by decide +kernel⟩,
    ⟨r0, 2 ^ 64 - 2, node9 [(K.migNode, 5)], by decide +kernel⟩,
    ⟨r0, 2 ^ 31, 5, 3, fbs (fun f => { f with routes := [(773, 4)] }) (node9 [(K.migNode, 5), (K.tickStatus, 1)]), by decide +kernel⟩,
    ⟨msg 0x30 [65535, 31, 0, 0, 65535], 65535, 31, 0, 0, 65535, node9 [(K.groupLayout 7, 1)], by decide +kernel⟩,
    ⟨msg 0x34 [], node9 [(K.migTick, 5), (K.migNode, 5)], by decide +kernel⟩,
    ⟨msg 0x31 [131071, 0, 0, 0, 0], 131071, 0, 0, 0, 0, withSa sa9 (node9 []), by decide +kernel⟩,
    ⟨msg 0x32 [131071, 0, 0, 0, 0, 0, 0], 131071, 0, 0, 0, 0, 0, 0, withSa sa9 (node9 []), by decide +kernel⟩,
    ⟨65535, ⟨31, 0, 0, false⟩, asc (fun a => { a with moved := [(65535, ⟨31, 0, 0, false⟩)] }) base, by decide +kernel⟩,
    ⟨base, by decide +kernel⟩⟩

/-- The clauses of Obligations.ExternalMemory are about something. -/
theorem test_witness_ExternalMemory :
    (∃ (r : Req) (n : _) (v : Nat) (s : State), n < 64 ∧ v < 2 ^ 32 ∧ bits v 2 1 ≠ 3 ∧ rdBit s (K.regionCtrl n) 0 = false ∧ rdBit s K.startupStatus 11 = false ∧ Admitted s r (K.regionCtrl n) true) ∧
    (∃ (r : Req) (n : _) (v : Nat) (s : State), n < 64 ∧ v < 2 ^ 32 ∧ bits v 2 1 = regionWorld s n ∧ bits v 2 1 ≠ 3 ∧ rdBit s (K.regionCtrl n) 0 = true ∧ shadowNames s n = false ∧ berylNames s n = false ∧ Admitted s r (K.regionCtrl n) true) ∧
    (∃ (r : Req) (n : _) (v : Nat) (s : State), n < 64 ∧ v < 2 ^ 32 ∧ bits v 2 1 = regionWorld s n ∧ bits v 2 1 ≠ 3 ∧ rdBit s (K.regionCtrl n) 0 = true ∧ ((shadowNames s n = true ∨ berylNames s n = true)) ∧ Admitted s r (K.regionCtrl n) true) ∧
    (∃ (n : _) (s : State), n < 64 ∧ rdBit s (K.regionStatus n) 1 = true) ∧
    (∃ (r : Req) (v : Nat) (s : State), bits v 27 0 ≤ regionBytes - 4 ∧ bits v 27 0 % 4 = 0 ∧ heldByOther s Grp.hbm r.ch = false ∧ s.hbm.buf = none ∧ Admitted s r K.hbmAddr true) ∧
    (∃ (r : Req) (n : _) (off : _) (v : Nat) (s : State), v < 2 ^ 32 ∧ hbmPtr s = (n, off) ∧ off / 4 % 16 ≠ 15 ∧ s.hbm.buf = none ∧ heldByOther s Grp.hbm r.ch = false ∧ worldMay s n (secure s r) true = true ∧ regionReady s n = true ∧ inHold s = false ∧ berylLocked s (true, n, off, 4) = false ∧ Admitted s r K.hbmData true) ∧
    (∃ (r : Req) (n : _) (off : _) (ws : _) (v : Nat) (s : State), v < 2 ^ 32 ∧ hbmPtr s = (n, off) ∧ off / 4 % 16 ≠ 15 ∧ s.hbm.buf = some (n, off / 64, ws) ∧ heldByOther s Grp.hbm r.ch = false ∧ worldMay s n (secure s r) true = true ∧ regionReady s n = true ∧ inHold s = false ∧ berylLocked s (true, n, off, 4) = false ∧ Admitted s r K.hbmData true) ∧
    (∃ (r : Req) (f : MemFault) (n : _) (off : _) (ws : _) (v : Nat) (s : State), v < 2 ^ 32 ∧ hbmPtr s = (n, off) ∧ off / 4 % 16 = 15 ∧ s.hbm.buf = some (n, off / 64, ws) ∧ heldByOther s Grp.hbm r.ch = false ∧ worldMay s n (secure s r) true = true ∧ regionReady s n = true ∧ inHold s = false ∧ berylLocked s (true, n, off, 4) = false ∧ (hlineAt s (lineKey n 0 (off / 64))).retired = false ∧ above s n 0 (off / 64) (·.retired) = false ∧ (hlineAt s (lineKey n 0 (off / 64))).poison = false ∧ above s n 0 (off / 64) (·.poison) = false ∧ (hlineAt s (lineKey n 0 (off / 64))).ctr + 1 < ctrEnd ∧ s.hbm.dirty.length < cacheLines ∧ ((f = MemFault.good ∨ f = MemFault.oneSymbol ∨ (bufPatch (tset none ws 15 (some v))).all (·.isSome) = true)) ∧ Admitted s r K.hbmData true) ∧
    (∃ (r : Req) (f : MemFault) (n : _) (line : _) (ws : _) (s : State), heldByOther s Grp.hbm r.ch = false ∧ s.hbm.buf = some (n, line, ws) ∧ worldMay s n (secure s r) true = true ∧ regionReady s n = true ∧ inHold s = false ∧ (hlineAt s (lineKey n 0 line)).retired = false ∧ above s n 0 line (·.retired) = false ∧ (hlineAt s (lineKey n 0 line)).poison = false ∧ above s n 0 line (·.poison) = false ∧ (hlineAt s (lineKey n 0 line)).ctr + 1 < ctrEnd ∧ s.hbm.dirty.length < cacheLines ∧ ((f = MemFault.good ∨ f = MemFault.oneSymbol ∨ (bufPatch ws).all (·.isSome) = true)) ∧ Admitted s r K.hbmFlush true) ∧
    (∃ (r : Req) (n : _) (line : _) (ws : _) (s : State), heldByOther s Grp.hbm r.ch = false ∧ s.hbm.buf = some (n, line, ws) ∧ worldMay s n (secure s r) true = true ∧ regionReady s n = true ∧ inHold s = false ∧ (hlineAt s (lineKey n 0 line)).retired = false ∧ above s n 0 line (·.retired) = false ∧ (hlineAt s (lineKey n 0 line)).poison = false ∧ above s n 0 line (·.poison) = false ∧ (hlineAt s (lineKey n 0 line)).written = true ∧ s.hbm.dirty.length < cacheLines ∧ (bufPatch ws).all (·.isSome) = false ∧ Admitted s r K.hbmFlush true) ∧
    (∃ (r : Req) (n : _) (line : _) (ws : _) (s : State), heldByOther s Grp.hbm r.ch = false ∧ s.hbm.buf = some (n, line, ws) ∧ worldMay s n (secure s r) true = false ∧ Admitted s r K.hbmFlush true) ∧
    (∃ (r : Req) (n : _) (off : _) (s : State), hbmPtr s = (n, off) ∧ s.hbm.buf = none ∧ worldMay s n (secure s r) false = true ∧ regionReady s n = true ∧ inHold s = false ∧ berylLocked s (true, n, off, 4) = false ∧ (hlineAt s (lineKey n 0 (off / 64))).poison = false ∧ above s n 0 (off / 64) (·.poison) = false ∧ s.hbm.dirty.length < cacheLines ∧ Admitted s r K.hbmData false) ∧
    (∃ (r : Req) (n : _) (off : _) (s : State), hbmPtr s = (n, off) ∧ s.hbm.buf = none ∧ worldMay s n (secure s r) false = true ∧ regionReady s n = true ∧ inHold s = false ∧ berylLocked s (true, n, off, 4) = false ∧ (hlineAt s (lineKey n 0 (off / 64))).poison = false ∧ above s n 0 (off / 64) (·.poison) = false ∧ (hlineAt s (lineKey n 0 (off / 64))).written = true ∧ s.hbm.dirty.length < cacheLines ∧ Admitted s r K.hbmData false) ∧
    (∃ (n : _) (s : State), regionReady s n = false) ∧
    (∃ (n : _) (line : _) (s : State), regionReady s n = true ∧ (hlineAt s (lineKey n 0 line)).poison = false ∧ above s n 0 line (·.poison) = false ∧ s.hbm.dirty.length < cacheLines) ∧
    (∃ (n : _) (s : State), n < 64 ∧ regionReady s n = true) ∧
    (∃ (s : State), s.hbm.dirty = []) ∧
    (∃ (n : _) (line : _) (s : State), n < 64 ∧ line < 2 ^ 22 ∧ s.hbm.dirty = [lineKey n 6 line] ∧ (hlineAt s (lineKey n 6 line)).ctr + 1 < ctrEnd ∧ inHold s = false ∧ bgSlot s 1 ≠ none) ∧
    (∃ (s : State), rdBit s K.shadowCtrl 0 = false) ∧
    (∃ (s : State), rdBit s K.shadowCtrl 0 = true ∧ rdBit s K.shadowCtrl 1 = false ∧ regionReady s (rdField s K.shadowCtrl 13 8) = false ∧ bgSlot s 2 ≠ none) ∧
    (∃ (s : State), rdBit s K.shadowCtrl 0 = true ∧ rdBit s K.shadowCtrl 1 = false ∧ regionReady s (rdField s K.shadowCtrl 13 8) = true ∧ regionWorld s (rdField s K.shadowCtrl 13 8) ≠ 2 ∧ bgSlot s 2 ≠ none ∧ s.hbm.dirty.length < cacheLines) ∧
    (∃ (bad : _) (s : State), bad < 4 ∧ s.keys.link.isSome = true) ∧
    (∃ (bad : _) (s : State), 4 ≤ bad ∧ s.keys.link.isSome = true ∧ s.keys.op = none ∧ s.keys.bindJob = none ∧ s.boot.update = none) ∧
    (∃ (s : State), s.keys.link = none) :=
   ⟨⟨r0, 63, 0xFFFFFFFD, base, by decide +kernel⟩,
    ⟨r0, 63, 0xFFFFFFF9, put [(K.regionCtrl 63, 1)] base, by decide +kernel⟩,
    ⟨r0, 63, 0xFFFFFFF9, put [(K.regionCtrl 63, 1), (K.shadowCtrl, 1 + 63 * 256)] base, by decide +kernel⟩,
    ⟨63, put [(K.regionStatus 63, 2)] base, by decide +kernel⟩,
    ⟨r0, hbmAt 63 201326588, base, by decide +kernel⟩,
    ⟨r0, 63, 201326584, 2 ^ 32 - 1, region [(K.hbmAddr, hbmAt 63 201326584)], by decide +kernel⟩,
    ⟨r0, 63, 201326584, [], 2 ^ 32 - 1, hbs (fun h => { h with buf := some (63, 3145727, []) }) (region [(K.hbmAddr, hbmAt 63 201326584)]), by decide +kernel⟩,
    ⟨r0, MemFault.oneSymbol, 63, 201326588, [], 2 ^ 32 - 1, hbs (fun h => { h with buf := some (63, 3145727, []) }) (region [(K.hbmAddr, hbmAt 63 201326588)]), by decide +kernel⟩,
    ⟨r0, MemFault.oneSymbol, 63, 3145727, [], hbs (fun h => { h with buf := some (63, 3145727, []) }) (region []), by decide +kernel⟩,
    ⟨r0, 63, 3145727, [], hbs (fun h => { h with buf := some (63, 3145727, []), lines := [(lineKey 63 0 3145727, { hline0 with written := true })] }) (region []), by decide +kernel⟩,
    ⟨r1, 63, 3145727, [], hbs (fun h => { h with buf := some (63, 3145727, []) }) (region [(K.regionCtrl 63, 5)]), by decide +kernel⟩,
    ⟨r0, 63, 201326588, region [(K.hbmAddr, hbmAt 63 201326588)], by decide +kernel⟩,
    ⟨r0, 63, 201326588, hbs (fun h => { h with lines := [(lineKey 63 0 3145727, { hline0 with written := true })] }) (region [(K.hbmAddr, hbmAt 63 201326588)]), by decide +kernel⟩,
    ⟨63, base, by decide +kernel⟩,
    ⟨63, 3145727, region [], by decide +kernel⟩,
    ⟨63, region [], by decide +kernel⟩,
    ⟨base, by decide +kernel⟩,
    ⟨63, 2 ^ 22 - 1, hbs (fun h => { h with dirty := [lineKey 63 6 (2 ^ 22 - 1)] }) base, by decide +kernel⟩,
    ⟨base, by decide +kernel⟩,
    ⟨put [(K.shadowCtrl, 1)] base, by decide +kernel⟩,
    ⟨put [(K.shadowCtrl, 1 + 63 * 256), (K.regionStatus 63, 1)] base, by decide +kernel⟩,
    ⟨3, kys (fun k => { k with link := some [] }) base, by decide +kernel⟩,
    ⟨4, kys (fun k => { k with link := some [] }) base, by decide +kernel⟩,
    ⟨base, by decide +kernel⟩⟩

/-- The clauses of Obligations.LookasideJobs are about something. -/
theorem test_witness_LookasideJobs :
    (∃ (r : Req) (v : Nat) (s : State), v < 2 ^ 32 ∧ s.beryl.ptr < 20 ∧ heldByOther s Grp.beryl r.ch = false ∧ Admitted s r K.berylDesc true) ∧
    (∃ (r : Req) (s : State), heldByOther s Grp.beryl r.ch = false ∧ descOk (descStage s) = true ∧ s.beryl.urgent.length < 8 ∧ berylClearing s = false ∧ ((keyBlock s = true → opKeyEntry (dOp (descStage s)) = false)) ∧ Admitted s r K.berylSubmit true) ∧
    (∃ (r : Req) (s : State), heldByOther s Grp.beryl r.ch = false ∧ descOk (descStage s) = true ∧ s.beryl.normal.length < 32 ∧ berylClearing s = false ∧ ((keyBlock s = true → opKeyEntry (dOp (descStage s)) = false)) ∧ Admitted s r K.berylSubmit true) ∧
    (∃ (r : Req) (s : State), heldByOther s Grp.beryl r.ch = false ∧ descOk (descStage s) = true ∧ 32 ≤ s.beryl.normal.length ∧ Admitted s r K.berylSubmit true) ∧
    (∃ (d : _) (l : _) (s : State), s.beryl.run = none ∧ s.beryl.done.length < 64 ∧ berylClearing s = false ∧ s.beryl.urgent = d :: l) ∧
    (∃ (j : _) (s : State), s.beryl.run = none ∧ s.beryl.done.length < 64 ∧ berylClearing s = false ∧ s.beryl.urgent = [] ∧ s.beryl.susp = some j) ∧
    (∃ (d : _) (l : _) (s : State), s.beryl.run = none ∧ s.beryl.done.length < 64 ∧ berylClearing s = false ∧ s.beryl.urgent = [] ∧ s.beryl.susp = none ∧ s.beryl.normal = d :: l) ∧
    (∃ (s : State), ((s.beryl.run.isSome = true ∨ 64 ≤ s.beryl.done.length ∨ s.beryl.urgent = [] ∧ s.beryl.susp = none ∧ s.beryl.normal = []))) ∧
    (∃ (j : _) (x : _) (out : _) (s : State), s.beryl.run = some j ∧ j.urgent = false ∧ j.fail = 0 ∧ dOp j.desc < 0x10 ∧ s.beryl.urgent ≠ [] ∧ berylClearing s = false ∧ (srcRange j.desc).1 = false ∧ (dstRange j.desc).1 = false ∧ x = j.ctx ++ ioBytes s ((srcRange j.desc).2.2.1 + j.ctx.length) (berylReached s j - j.ctx.length) ∧ out = berylStream j.desc j.key x) ∧
    (∃ (j : _) (out : _) (s : State), s.beryl.run = some j ∧ berylClearing s = false ∧ j.fail = 0 ∧ j.suspect = false ∧ (srcRange j.desc).1 = false ∧ (dstRange j.desc).1 = false ∧ opKeyEntry (dOp j.desc) = false ∧ j.refused = false ∧ s.beryl.done = [] ∧ s.beryl.held = [] ∧ berylCompute j.desc j.key (j.ctx ++ ioBytes s ((srcRange j.desc).2.2.1 + j.ctx.length) ((srcRange j.desc).2.2.2 - j.ctx.length)) = some out) ∧
    (∃ (j : _) (s : State), s.beryl.run = some j ∧ berylClearing s = false ∧ j.fail = 0 ∧ j.suspect = false ∧ (srcRange j.desc).1 = false ∧ (dstRange j.desc).1 = false ∧ s.beryl.done = [] ∧ s.beryl.held = [] ∧ berylCompute j.desc j.key (j.ctx ++ ioBytes s ((srcRange j.desc).2.2.1 + j.ctx.length) ((srcRange j.desc).2.2.2 - j.ctx.length)) = none) ∧
    (∃ (r : Req) (a : _) (b : _) (l : _) (s : State), s.beryl.done = (a, b) :: l ∧ s.beryl.word = 0 ∧ Admitted s r K.berylDone false) ∧
    (∃ (r : Req) (a : _) (b : _) (l : _) (s : State), s.beryl.done = (a, b) :: l ∧ s.beryl.word = 1 ∧ s.beryl.held = [] ∧ Admitted s r K.berylDone false) ∧
    (∃ (r : Req) (j : _) (s : State), berylClearing s = false ∧ s.beryl.run = some j ∧ j.urgent = false ∧ j.fail = 0 ∧ s.beryl.susp = none ∧ (dstRange j.desc).1 = false ∧ s.beryl.done = [] ∧ s.beryl.held = [] ∧ Admitted s r K.berylAbort true) ∧
    (∃ (r : Req) (j : _) (s : State), berylClearing s = false ∧ s.beryl.run = some j ∧ j.urgent = true ∧ j.fail = 0 ∧ ((∀ k, s.beryl.susp = some k → k.urgent = false)) ∧ (dstRange j.desc).1 = false ∧ s.beryl.done = [] ∧ s.beryl.held = [] ∧ Admitted s r K.berylAbort true) ∧
    (∃ (r : Req) (s : State), berylClearing s = false ∧ ((∀ j, s.beryl.run = some j → j.urgent = false)) ∧ ((∀ j, s.beryl.susp = some j → j.urgent = false)) ∧ Admitted s r K.berylAbort true) ∧
    (∃ (r : Req) (s : State), berylClearing s = false ∧ ((∀ j ∈ startedJobs s, (dstRange j.desc).1 = false)) ∧ Admitted s r K.berylAbort true) ∧
    (∃ (r : Req) (v : Nat) (s : State), v < 2 ^ 16 ∧ Admitted s r K.berylKeyregClear true) ∧
    (∃ (r : Req) (s : State), rd s K.berylIoAddr < 8192 ∧ berylLocked s (false, 0, 4 * rd s K.berylIoAddr, 4) = false ∧ Admitted s r K.berylIoData false) ∧
    (∃ (r : Req) (v : Nat) (s : State), v < 2 ^ 32 ∧ rd s K.berylIoAddr < 8192 ∧ berylLocked s (false, 0, 4 * rd s K.berylIoAddr, 4) = false ∧ Admitted s r K.berylIoData true) ∧
    (∃ (s : State), berylClearing s = true ∧ ((∀ j ∈ startedJobs s, (dstRange j.desc).1 = false))) :=
   ⟨⟨r0, 2 ^ 32 - 1, bys (fun b => { b with ptr := 19 }) base, by decide +kernel⟩,
    ⟨r0, bys (fun b => { b with urgent := List.replicate 7 ecb }) (stg Grp.beryl ecb base), by decide +kernel⟩,
    ⟨r0, bys (fun b => { b with normal := List.replicate 31 ecb }) (stg Grp.beryl ecb base), by decide +kernel⟩,
    ⟨r0, bys (fun b => { b with normal := List.replicate 32 ecb }) (stg Grp.beryl ecb base), by decide +kernel⟩,
    ⟨ecb, [], bys (fun b => { b with urgent := [ecb], done := List.replicate 63 (0, 0) }) base, by decide +kernel⟩,
    ⟨job ecb, bys (fun b => { b with susp := some (job ecb) }) base, by decide +kernel⟩,
    ⟨ecb, [], bys (fun b => { b with normal := [ecb], done := List.replicate 63 (0, 0) }) base, by decide +kernel⟩,
    ⟨bys (fun b => { b with done := List.replicate 64 (0, 0) }) base, by decide +kernel⟩,
    ⟨job ecb, _, _, bys (fun b => { b with run := some (job ecb), urgent := [ecb] }) base, rfl, rfl, rfl, by decide, by decide, by decide +kernel, by decide, by decide, rfl, rfl⟩,
    ⟨job ecb, _, bys (fun b => { b with run := some (job ecb) }) base, rfl, by decide +kernel, rfl, rfl, by decide +kernel, by decide +kernel, by decide +kernel, rfl, rfl, rfl, rfl⟩,
    ⟨job gcm, bys (fun b => { b with run := some (job gcm) }) base, by decide +kernel⟩,
    ⟨r0, 1, 2, [], bys (fun b => { b with done := [(1, 2)] }) base, by decide +kernel⟩,
    ⟨r0, 1, 2, [], bys (fun b => { b with done := [(1, 2)], word := 1 }) base, by decide +kernel⟩,
    ⟨r0, job ecb, bys (fun b => { b with run := some (job ecb) }) base, by decide +kernel⟩,
    ⟨r0, { job ecb with urgent := true }, bys (fun b => { b with run := some { job ecb with urgent := true } }) base, by decide +kernel, rfl, rfl, rfl, (fun _ h => by cases h), by decide +kernel, rfl, rfl, by decide +kernel⟩,
    ⟨r0, base, by decide +kernel, (fun _ h => by cases h), (fun _ h => by cases h), by decide +kernel⟩,
    ⟨r0, bys (fun b => { b with run := some (job ecb) }) base, by decide +kernel⟩,
    ⟨r0, 2 ^ 16 - 1, base, by decide +kernel⟩,
    ⟨r0, put [(K.berylIoAddr, 8191)] base, by decide +kernel⟩,
    ⟨r0, 2 ^ 32 - 1, put [(K.berylIoAddr, 8191)] base, by decide +kernel⟩,
    ⟨bys (fun b => { b with run := some (job ecb) }) (put [(K.berylStatus, 4)] base), by decide +kernel⟩⟩

/-- The clauses of Obligations.PublicKeyJobs are about something. -/
theorem test_witness_PublicKeyJobs :
    (∃ (r : Req) (p : _) (s : State), r.ch < 4 ∧ p ∈ [1, 2, 3] ∧ jMine s r = none ∧ (jpart s p).owner = none ∧ (jpart s p).zeroing = false ∧ ((∀ q, q < p → q = 0 ∨ (jpart s q).owner ≠ none ∨ (jpart s q).zeroing = true)) ∧ Admitted s r K.jasperClaim true) ∧
    (∃ (r : Req) (p : _) (s : State), jMine s r = some p ∧ Admitted s r K.jasperClaim true) ∧
    (∃ (r : Req) (s : State), jMine s r = none ∧ ((∀ q, q < 4 → q = 0 ∨ (jpart s q).owner ≠ none ∨ (jpart s q).zeroing = true)) ∧ Admitted s r K.jasperClaim true) ∧
    (∃ (r : Req) (p : _) (s : State), jMine s r = some p ∧ Admitted s r K.jasperClaim true) ∧
    (∃ (p : _) (s : State), (jpart s p).zeroing = true) ∧
    (∃ (r : Req) (p : _) (s : State), jMine s r = some p ∧ (jpart s p).job = false ∧ Admitted s r K.jasperData false) ∧
    (∃ (r : Req) (p : _) (v : Nat) (s : State), v < 2 ^ 32 ∧ jMine s r = some p ∧ (jpart s p).job = false ∧ Admitted s r K.jasperData true) ∧
    (∃ (r : Req) (a : Acc) (s : State), jMine s r = none ∧ Admitted s r K.jasperData (a != .read)) ∧
    (∃ (r : Req) (v : Nat) (i : _) (op : _) (p : _) (s : State), v < 2 ^ 24 ∧ (i, op) ∈ [(Instr.ecdsaSign r v, 1), (.ecdsaVerify r v, 2), (.ecKeygen r v, 3), (.ecdh r v, 4), (.ecValidate r v, 5), (.x25519 r v, 8), (.x25519Keygen r v, 9), (.rsaPublic r v, 16), (.rsaPrivate r v, 17), (.modInv r v, 24), (.curveLoad r v, 32)] ∧ jMine s r = some p ∧ jCmdOk (op * 2 ^ 24 + v) = true ∧ (jpart s p).job = false ∧ Admitted s r K.jasperCmd true) ∧
    (∃ (p : _) (l : _) (s : State), s.jasper.run = none ∧ s.jasper.queue = p :: l) ∧
    (∃ (p : _) (l : _) (a : _) (m : _) (w : _) (s : State), s.jasper.run = some p ∧ p ≠ 0 ∧ bits (jpart s p).cmd 31 24 = 24 ∧ bits (jpart s p).cmd 12 0 / 8 = l ∧ jNum (jpart s p) 0 l = m ∧ jNum (jpart s p) 1 l = a ∧ 0 < a ∧ a < m ∧ m % 2 = 1 ∧ 3 ≤ m ∧ invMod m a = some w) ∧
    (∃ (p : _) (l : _) (n : _) (e : _) (m : _) (s : State), s.jasper.run = some p ∧ p ≠ 0 ∧ bits (jpart s p).cmd 31 24 = 16 ∧ bits (jpart s p).cmd 12 0 = 8 * l ∧ jNum (jpart s p) 0 l = n ∧ ofBytes (jIn (jpart s p) 1 0 4) = e ∧ jNum (jpart s p) 2 l = m ∧ m < n ∧ n % 2 = 1 ∧ 2 ^ (8 * l - 1) ≤ n ∧ e % 2 = 1 ∧ 3 ≤ e) ∧
    (∃ (p : _) (qx : _) (qy : _) (x : _) (z : _) (s : State), s.jasper.run = some p ∧ p ≠ 0 ∧ (jpart s p).cmd = 2 * 2 ^ 24 ∧ jNum (jpart s p) 4 32 = qx ∧ jNum (jpart s p) 5 32 = qy ∧ jNum (jpart s p) 2 32 = x ∧ jNum (jpart s p) 3 32 = z ∧ qx < p256.p ∧ qy < p256.p ∧ onCurve p256 qx qy = true ∧ (qx, qy) ≠ (0, 0) ∧ 0 < x ∧ x < p256.n ∧ 0 < z ∧ z < p256.n) ∧
    (∃ (p : _) (s : State), s.jasper.run = some p ∧ p ≠ 0 ∧ opEc (bits (jpart s p).cmd 31 24) = true ∧ bits (jpart s p).cmd 23 20 = 4 ∧ (jpart s p).curve = none) ∧
    (∃ (j : _) (l : _) (s : State), s.jasper.run = some 0 ∧ s.jasper.queue = [] ∧ s.jasper.svc = j :: l ∧ j.kind = .check) ∧
    (∃ (r : Req) (p : _) (s : State), jMine s r = some p ∧ (jpart s p).job = true ∧ Admitted s r K.jasperAbort true) ∧
    (∃ (r : Req) (p : _) (s : State), jMine s r = some p ∧ Admitted s r K.jasperResult false) :=
   ⟨⟨r0, 3, { base with jasper := { base.jasper with parts := [(1, { jpart0 with owner := some 1 }), (2, { jpart0 with zeroing := true })] } }, by decide +kernel⟩,
    ⟨r0, 3, jas { jpart0 with owner := some 0 } base, by decide +kernel⟩,
    ⟨r0, { base with jasper := { base.jasper with parts := [(1, { jpart0 with owner := some 1 }), (2, { jpart0 with zeroing := true }), (3, { jpart0 with owner := some 3 })] } }, by decide +kernel⟩,
    ⟨r0, 3, jas { jpart0 with owner := some 0 } base, by decide +kernel⟩,
    ⟨3, jas { jpart0 with zeroing := true } base, by decide +kernel⟩,
    ⟨r0, 3, jas { jpart0 with owner := some 0 } base, by decide +kernel⟩,
    ⟨r0, 3, 2 ^ 32 - 1, jas { jpart0 with owner := some 0 } base, by decide +kernel⟩,
    ⟨r0, .read, base, by decide +kernel⟩,
    ⟨r0, 2 ^ 21 + 2 ^ 20 - 1, .ecdsaSign r0 (2 ^ 21 + 2 ^ 20 - 1), 1, 3, jas { jpart0 with owner := some 0 } base, by decide +kernel⟩,
    ⟨3, [], { base with jasper := { base.jasper with queue := [3] } }, by decide +kernel⟩,
    ⟨3, 8, 2, 3, 2, jas { jpart0 with cmd := 24 * 2 ^ 24 + 64, mem := [(1, 3), (129, 2)] } base, by decide +kernel⟩,
    ⟨3, 128, 2 ^ 1023 + 1, 3, 2 ^ 1023, jas { jpart0 with cmd := 16 * 2 ^ 24 + 1024, mem := [(0, 2 ^ 31), (31, 1), (128, 3), (256, 2 ^ 31)] } base, by decide +kernel⟩,
    ⟨3, p256.gx, p256.gy, p256.n - 1, p256.n - 1, jas { jpart0 with cmd := 2 * 2 ^ 24, mem := wordsAt 256 (toWords 8 (p256.n - 1)) ++ wordsAt 384 (toWords 8 (p256.n - 1)) ++ wordsAt 512 (toWords 8 p256.gx) ++ wordsAt 640 (toWords 8 p256.gy) } base, by decide +kernel⟩,
    ⟨3, jas { jpart0 with cmd := 5 * 2 ^ 24 + 4 * 2 ^ 20 } base, by decide +kernel⟩,
    ⟨⟨.check, 2⟩, [], { base with jasper := { base.jasper with run := some 0, svc := [⟨.check, 2⟩] } }, by decide +kernel⟩,
    ⟨r0, 3, jas { jpart0 with owner := some 0, job := true } base, by decide +kernel⟩,
    ⟨r0, 3, jas { jpart0 with owner := some 0 } base, by decide +kernel⟩⟩

/-- The clauses of Obligations.RootAndKeys are about something. -/
theorem test_witness_RootAndKeys :
    (∃ (x : _) (root : _) (w : _) (s : State), rebuilding s = true ∧ keysOff s = false ∧ rootTry s x = some (root, w) ∧ w ≤ 24 ∧ s.keys.tries < 9) ∧
    (∃ (x : _) (s : State), rebuilding s = true ∧ keysOff s = false ∧ rootTry s x = none ∧ s.keys.tries < 8) ∧
    (∃ (x : _) (s : State), rebuilding s = true ∧ keysOff s = false ∧ rootTry s x = none ∧ s.keys.tries = 8) ∧
    (∃ (s : State), keysOff s = false ∧ s.keys.deriving_ = true ∧ epochOf s < 4095) ∧
    (∃ (root : _) (s : State), keysOff s = false ∧ s.keys.deriving_ = false ∧ s.keys.rederive = true ∧ s.keys.root = some root ∧ epochOf s < 4095) ∧
    (∃ (i : _) (x : _) (s : State), (i = Instr.pufAttemptDone x ∨ i = .keyDerivationDone) ∧ keysOff s = true) ∧
    (∃ (r : Req) (s : State), s.keys.advance = 0 ∧ s.keys.rederive = false ∧ s.keys.wiping = false ∧ clearing s = false ∧ epochOf s < 65535 ∧ Admitted s r K.epochAdvance true) ∧
    (∃ (r : Req) (v : Nat) (s : State), v < 65536 ∧ v ≠ epochOf s + 1 ∧ s.keys.advance = 0 ∧ s.keys.rederive = false ∧ s.keys.wiping = false ∧ clearing s = false ∧ Admitted s r K.epochAdvance true) ∧
    (∃ (s : State), s.keys.advance = 1 ∧ epochOf s < 4095 ∧ s.life.trans = none ∧ s.keys.root = none) ∧
    (∃ (root : _) (s : State), s.keys.advance = 1 ∧ epochOf s < 4095 ∧ s.life.trans = none ∧ s.keys.root = some root) ∧
    (∃ (s : State), s.keys.advance = 1 ∧ epochOf s = 4095 ∧ s.life.trans = none) ∧
    (∃ (r : Req) (v : _) (s : State), v ≤ 1 ∧ ((v = 1 → rd s K.plaintextKeyEn ≠ 0)) ∧ Admitted s r K.plaintextKeyEn true) ∧
    (∃ (r : Req) (s : State), rd s K.plaintextKeyEn = 0 ∧ Admitted s r K.plaintextKeyEn true) ∧
    (∃ (s : State), stepEnded s 51 = true ∧ stepEnded s 5 = false ∧ rd s K.rootStatus = Root.ready) ∧
    (∃ (i : _) (r : Req) (op : _) (s : State), (i, op) ∈ [(Instr.pkeyStore r, 1), (.pkeyLoad r, 2), (.pkeyErase r, 3)] ∧ heldByOther s Grp.pkey r.ch = false ∧ s.keys.op = none ∧ s.keys.wiping = false ∧ clearing s = false ∧ ((op = 2 → keyBlock s = false)) ∧ Admitted s r K.pkeyOp true) ∧
    (∃ (k : _) (reg : _) (z : _) (s : State), s.keys.op = some (3, k, reg, z) ∧ rd s K.rootStatus = Root.ready ∧ epochOf s < 4095) ∧
    (∃ (k : _) (reg : _) (store : _) (s : State), s.keys.op = some (1, k, reg, false) ∧ rd s K.rootStatus = Root.ready ∧ epochOf s < 4095 ∧ s.keys.store = some store ∧ tget [] s.beryl.regs reg ≠ [] ∧ currentRec s k = none) ∧
    (∃ (k : _) (reg : _) (b : _) (n : _) (store : _) (s : State), s.keys.op = some (1, k, reg, false) ∧ rd s K.rootStatus = Root.ready ∧ epochOf s < 4095 ∧ s.keys.store = some store ∧ tget [] s.beryl.regs reg ≠ [] ∧ currentRec s k = some b ∧ nth (recordAt s (2 * k + b)) 1 = n ∧ n ≠ 0xFFFFFFFE) ∧
    (∃ (k : _) (reg : _) (b : _) (key : _) (s : State), s.keys.op = some (2, k, reg, false) ∧ rd s K.rootStatus = Root.ready ∧ epochOf s < 4095 ∧ s.keys.store ≠ none ∧ currentRec s k = some b ∧ recordKey s (recordAt s (2 * k + b)) = some key ∧ ((key.length = 16 ∨ key.length = 24 ∨ key.length = 32))) ∧
    (∃ (k : _) (reg : _) (s : State), s.keys.op = some (2, k, reg, false) ∧ rd s K.rootStatus = Root.ready ∧ epochOf s < 4095 ∧ s.keys.store ≠ none ∧ currentRec s k = none) ∧
    (∃ (i : _) (r : Req) (s : State), (i = Instr.zeroiseCmd r ∨ i = .zeroiseCmdWipe r) ∧ clearing s = false ∧ Admitted s r K.zeroiseCmd true) ∧
    (∃ (s : State), clearing s = true ∧ s.life.trans = none ∧ s.keys.wipeDue = false ∧ ((∀ j ∈ startedJobs s, (dstRange j.desc).1 = false))) ∧
    (∃ (s : State), s.keys.wiping = true ∧ s.keys.wipeDue = false ∧ s.keys.advance = 0) :=
   ⟨⟨2 ^ 24 - 1, pufRoot 0, 24, pufS, by decide +kernel, by decide +kernel, puf_try, by decide, by decide +kernel⟩,
    ⟨2 ^ 25 - 1, kys (fun k => { k with tries := 7 }) pufS, by decide +kernel⟩,
    ⟨2 ^ 25 - 1, kys (fun k => { k with tries := 8 }) pufS, by decide +kernel⟩,
    ⟨kys (fun k => { k with deriving_ := true }) (put [(K.ownerEpoch, 4094)] base), by decide +kernel⟩,
    ⟨[], kys (fun k => { k with rederive := true, root := some [] }) (put [(K.ownerEpoch, 4094)] base), by decide +kernel⟩,
    ⟨.keyDerivationDone, 0, lfs (fun l => { l with state := 4 }) base, by decide +kernel⟩,
    ⟨r0, put [(K.ownerEpoch, 65534)] base, by decide +kernel⟩,
    ⟨r0, 65535, base, by decide +kernel⟩,
    ⟨kys (fun k => { k with advance := 1 }) (put [(K.ownerEpoch, 4094)] base), by decide +kernel⟩,
    ⟨[], kys (fun k => { k with advance := 1, root := some [] }) (put [(K.ownerEpoch, 4094)] base), by decide +kernel⟩,
    ⟨kys (fun k => { k with advance := 1 }) (put [(K.ownerEpoch, 4095)] base), by decide +kernel⟩,
    ⟨r0, 1, put [(K.plaintextKeyEn, 1)] base, by decide +kernel⟩,
    ⟨r0, put [(K.plaintextKeyEn, 0)] base, by decide +kernel⟩,
    ⟨steps [1, 2, 3, 4, 51] (put [(K.rootStatus, 1)] base), by decide +kernel⟩,
    ⟨.pkeyLoad r0, r0, 2, base, by decide +kernel⟩,
    ⟨31, 15, false, kys (fun k => { k with op := some (3, 31, 15, false) }) (put [(K.rootStatus, 1), (K.ownerEpoch, 4094)] base), by decide +kernel⟩,
    ⟨31, 15, List.replicate 32 1, kys (fun k => { k with store := some (List.replicate 32 1), op := some (1, 31, 15, false) }) (bys (fun b => { b with regs := [(15, List.replicate 16 2)] }) (put [(K.rootStatus, 1), (K.ownerEpoch, 4094)] base)), by decide +kernel⟩,
    ⟨3, 15, 0, 4294967293, List.replicate 32 1, kys (fun k => { k with store := some (List.replicate 32 1), op := some (1, 3, 15, false), records := [(6, [16977920, 4294967293, 4094, 2135310386, 237646525, 770716500, 3738663484, 2820135199, 42239482, 899086165, 1764498960, 4294967295, 4294967295, 4294967295, 4294967295, 406135665, 2781035610])] }) (bys (fun b => { b with regs := [(15, List.replicate 16 2)] }) (put [(K.rootStatus, 1), (K.ownerEpoch, 4094)] base)), by decide +kernel⟩,
    ⟨31, 15, 1, List.replicate 16 3, kys (fun k => { k with store := some (List.replicate 32 1), op := some (2, 31, 15, false), records := [(63, [18812928, 4294967293, 4094, 1851716114, 928841359, 2226818922, 46243853, 1457891316, 1900612785, 3954423798, 2111844705, 4294967295, 4294967295, 4294967295, 4294967295, 1717700123, 2781035610])] }) (bys (fun b => { b with regs := [(15, List.replicate 16 2)] }) (put [(K.rootStatus, 1), (K.ownerEpoch, 4094)] base)), by decide +kernel⟩,
    ⟨31, 15, kys (fun k => { k with store := some (List.replicate 32 1), op := some (2, 31, 15, false) }) (bys (fun b => { b with regs := [(15, List.replicate 16 2)] }) (put [(K.rootStatus, 1), (K.ownerEpoch, 4094)] base)), by decide +kernel⟩,
    ⟨.zeroiseCmd r0, r0, base, by decide +kernel⟩,
    ⟨put [(K.zeroiseStatus, 1)] base, by decide +kernel⟩,
    ⟨kys (fun k => { k with wiping := true }) base, by decide +kernel⟩⟩

/-- The clauses of Obligations.TamperDomain are about something. -/
theorem test_witness_TamperDomain :
    (∃ (d : RailDev) (k : _) (n : _) (s : State), d.rail < 6 ∧ k < 3 ∧ n = 8 + 3 * d.rail + k ∧ railFires s d k = true ∧ ((∀ j, j < 3 → j ≠ k → railFires s d j = false)) ∧ canFire s n = true ∧ s.onyx.log.length < 64 ∧ s.onyx.main = true ∧ startupDone s = true) ∧
    (∃ (ds : List RailDev) (s : State), ((∀ d ∈ ds, ∀ k, k < 3 → railFires s d k = false ∨ canFire s (8 + 3 * d.rail + k) = false))) ∧
    (∃ (n : _), 8 ≤ n ∧ n ≤ 27) ∧
    (∃ (d : _) (s : State), s.onyx.main = true ∧ -450 ≤ d ∧ d ≤ 1150) ∧
    (∃ (d : _) (s : State), s.onyx.main = true ∧ d < -450 ∧ canFire s 26 = true ∧ s.onyx.log.length < 64 ∧ startupDone s = true) ∧
    (∃ (d : _) (s : State), s.onyx.main = true ∧ 1150 < d ∧ canFire s 27 = true ∧ s.onyx.log.length < 64 ∧ startupDone s = true) ∧
    (∃ (i : _) (r : Req) (n : _) (a : _) (s : State), (i, a) ∈ [(Instr.loopArm r n, 1), (.loopDisarm r n, 0)] ∧ n < 8 ∧ s.onyx.writes = [] ∧ Admitted s r (K.loopCtrl n) true) ∧
    (∃ (n : _) (a : _) (at_ : _) (s : State), n < 8 ∧ s.onyx.writes = [(n, a, at_)] ∧ at_ ≤ onyxNow s) ∧
    (∃ (n : _) (s : State), n < 8 ∧ rd (loopWrites s) (K.loopState n) = 1) ∧
    (∃ (n : _) (s : State), n < 8 ∧ rd (loopWrites s) (K.loopState n) = 1 ∧ s.onyx.main = true) ∧
    (∃ (n : _) (s : State), rd s (K.loopState n) = 0) ∧
    (∃ (n : _) (v : _) (s : State) (a : _), n < 8 ∧ v < 4 ∧ a = loopWrites s ∧ rd a (K.loopState n) = 2 ∧ mismatch a n v = true ∧ s.onyx.main = true ∧ clearing s = false ∧ s.keys.wiping = false) ∧
    (∃ (n : _) (m : _) (v : _) (w : _) (s : State) (a : _), n < m ∧ m < 8 ∧ v < 4 ∧ w < 4 ∧ a = loopWrites s ∧ rd a (K.loopState n) = 2 ∧ rd a (K.loopState m) = 2 ∧ mismatch a n v = true ∧ mismatch a m w = true ∧ s.onyx.main = true) ∧
    (∃ (n : _) (v : _) (s : State) (a : _), n < 8 ∧ v < 4 ∧ a = loopWrites s ∧ rd a (K.loopState n) = 2 ∧ mismatch a n v = true ∧ s.onyx.main = false ∧ s.onyx.log.length < 64) ∧
    (∃ (l : List (Nat × Nat)) (s : State), ((∀ e ∈ l, mismatch (loopWrites s) e.1 (e.2 % 4) = false))) ∧
    (∃ (r : Req) (v : Nat) (s : State), v < 2 ^ 32 ∧ rd s K.tamperFlags < 2 ^ 32 ∧ Admitted s r K.flagClear true) ∧
    (∃ (r : Req) (v : Nat) (s : State), v < 2 ^ 47 ∧ Admitted s r K.onyxRtc true) ∧
    (∃ (r : Req) (s : State), tbValid s 0 = true ∧ Admitted s r K.rtcSyncTb0 true) ∧
    (∃ (r : Req) (s : State), tbValid s 0 = false ∧ Admitted s r K.rtcSyncTb0 true) ∧
    (∃ (s : State), rd s K.rtcSyncTb0 = 1) ∧
    (∃ (r : Req) (s : State), s.onyx.ptr < s.onyx.log.flatten.length ∧ Admitted s r K.logData false) ∧
    (∃ (r : Req) (v : Nat) (s : State), v < 2 ^ 32 ∧ s.onyx.log.findIdx? (fun e => nth e 0 == v) = some (s.onyx.log.length - 1) ∧ Admitted s r K.logAck true) ∧
    (∃ (s : State), canFire s 28 = false ∧ rdBit s K.clkLocked 24 = true) ∧
    (∃ (s : State), backupOsc s = true ∧ s.boot.engine = true) :=
   ⟨⟨⟨5, 3000000, 3300001, 1000, 0, 3300001⟩, 2, 25, ons (fun o => { o with log := List.replicate 63 [] }) (live []), by decide +kernel⟩,
    ⟨[⟨0, 750000, 700000, 1000, 9999, 700000⟩], base, by decide +kernel⟩,
    ⟨27, by decide +kernel⟩,
    ⟨1150, base, by decide +kernel⟩,
    ⟨-451, ons (fun o => { o with log := List.replicate 63 [] }) (live []), by decide +kernel⟩,
    ⟨1151, ons (fun o => { o with log := List.replicate 63 [] }) (live []), by decide +kernel⟩,
    ⟨.loopArm r0 7, r0, 7, 1, base, by decide +kernel⟩,
    ⟨7, 1, 0, ons (fun o => { o with writes := [(7, 1, 0)] }) base, by decide +kernel⟩,
    ⟨7, put [(K.loopState 7, 1)] base, by decide +kernel⟩,
    ⟨7, put [(K.loopState 7, 1)] base, by decide +kernel⟩,
    ⟨7, base, by decide +kernel⟩,
    ⟨7, 3, put [(K.loopState 7, 2)] base, _, by decide, by decide, rfl, by decide +kernel, by decide +kernel, by decide +kernel, by decide +kernel, by decide +kernel⟩,
    ⟨6, 7, 2, 3, put [(K.loopState 6, 2), (K.loopState 7, 2)] base, _, by decide, by decide, by decide, by decide, rfl, by decide +kernel, by decide +kernel, by decide +kernel, by decide +kernel, by decide +kernel⟩,
    ⟨7, 3, ons (fun o => { o with main := false, log := List.replicate 63 [] }) (put [(K.loopState 7, 2)] base), _, by decide, by decide, rfl, by decide +kernel, by decide +kernel, by decide +kernel, by decide +kernel⟩,
    ⟨[(7, 4)], base, by decide +kernel⟩,
    ⟨r0, 2 ^ 32 - 1, put [(K.tamperFlags, 2 ^ 32 - 1)] base, by decide +kernel⟩,
    ⟨r0, 2 ^ 47 - 1, base, by decide +kernel⟩,
    ⟨r0, put [(K.tbStatus 0, 1)] base, by decide +kernel⟩,
    ⟨r0, base, by decide +kernel⟩,
    ⟨put [(K.rtcSyncTb0, 1)] base, by decide +kernel⟩,
    ⟨r0, ons (fun o => { o with log := [[1]] }) base, by decide +kernel⟩,
    ⟨r0, 7, ons (fun o => { o with log := [[6], [7]] }) base, by decide +kernel⟩,
    ⟨ons (fun o => { o with fired := [28] }) (put [(K.clkLocked, 2 ^ 24)] base), by decide +kernel⟩,
    ⟨put [(K.onyxStatus, 2)] base, by decide +kernel⟩⟩

/-- The clauses of Obligations.LifeAndDebug are about something. -/
theorem test_witness_LifeAndDebug :
    (∃ (r : Req) (s : State), s.life.state = Lc.fab ∧ r.ch = 4 ∧ s.life.trans = none ∧ cleanup s = false ∧ clearing s = false ∧ s.keys.wiping = false ∧ zeroisePending s = false ∧ armed s = false ∧ rd s K.monNow = 0 ∧ Admitted s r K.lcRequest true) ∧
    (∃ (r : Req) (s : State), s.life.state = Lc.enrol ∧ s.life.trans = none ∧ cleanup s = false ∧ clearing s = false ∧ s.keys.wiping = false ∧ zeroisePending s = false ∧ armed s = false ∧ rd s K.monNow = 0 ∧ rd s K.rootSource ≠ 0 ∧ s.life.devCert = true ∧ s.life.enrolling = false ∧ Admitted s r K.lcRequest true) ∧
    (∃ (i : _) (r : Req) (g : _) (s : State), (i, g) ∈ [(Instr.lcToReturned r, Lc.returned), (.lcToScrap r, Lc.scrap)] ∧ s.life.state = Lc.owned ∧ r.ch ≠ 4 ∧ s.life.trans = none ∧ cleanup s = false ∧ clearing s = false ∧ s.keys.wiping = false ∧ zeroisePending s = false ∧ armed s = false ∧ rd s K.monNow = 0 ∧ Admitted s r K.lcRequest true) ∧
    (∃ (r : Req) (s : State), s.life.state = Lc.owned ∧ Admitted s r K.lcRequest true) ∧
    (∃ (g : _) (s : State), s.life.trans = some g ∧ s.life.stepNo = 3 ∧ s.life.heldReset = none ∧ s.keys.wipeDue = false ∧ 1 ≤ g ∧ g ≤ 4 ∧ s.life.pairs.length = 4) ∧
    (∃ (g : _) (s : State), s.life.trans = some g ∧ s.life.stepNo = 3 ∧ s.life.heldReset = none ∧ s.keys.wipeDue = false) ∧
    (∃ (s : State), cleanup s = true ∧ s.life.state = Lc.returned) ∧
    (∃ (s : State), cleanup s = true ∧ s.life.state = Lc.scrap) ∧
    (∃ (r : Req) (s : State), s.life.state = Lc.enrol ∧ s.life.enrolling = false ∧ rd s K.rootSource = 0 ∧ s.life.trans = none ∧ Admitted s r K.enrolStart true) ∧
    (∃ (r : Req) (s : State), rd s K.rootSource ≠ 0 ∧ Admitted s r K.enrolStart true) ∧
    (∃ (l : _) (s : State), s.life.enrolling = true ∧ s.life.blockBits = false ∧ pufPasses l = true) ∧
    (∃ (l : _) (s : State), s.life.enrolling = true ∧ s.life.blockBits = false ∧ pufPasses l = false) ∧
    (∃ (s : State), s.life.enrolling = true ∧ s.life.blockBits = false) ∧
    (∃ (r : Req) (v : _) (s : State), v ≤ 2 ∧ Admitted s r K.debugConsent true) ∧
    (∃ (r : Req) (v : _) (d : _) (s : State), ((v = 1 ∨ v = 2)) ∧ s.keys.devid = some d ∧ s.life.state = Lc.owned ∧ v ≤ rd s K.debugConsent ∧ rd s K.dbgFails < 8 ∧ s.jasper.svc = [] ∧ Admitted s r K.dbgRequest true) ∧
    (∃ (body : _) (v : _) (d : _) (s : State), s.jasper.run = some 0 ∧ s.jasper.svc = [⟨.challenge body v, 1⟩] ∧ s.jasper.queue = [] ∧ s.keys.devid = some d) ∧
    (∃ (r : Req) (v : Nat) (s : State), v < 2 ^ 32 ∧ chalGood s = true ∧ s.life.checking = none ∧ s.life.resp.length < 23 ∧ Admitted s r K.dbgResponse true) ∧
    (∃ (r : Req) (v : Nat) (s : State), v < 2 ^ 32 ∧ chalGood s = true ∧ s.life.checking = none ∧ s.life.resp.length = 23 ∧ Admitted s r K.dbgResponse true) ∧
    (∃ (s : State), svcBusy s .check = true) ∧
    (∃ (c : _) (w : _) (v : _) (s : State), s.life.checking = some (c, w, v) ∧ svcBusy s .check = false) ∧
    (∃ (s : State), s.life.chalAt + 6000000 ≤ s.tick.elapsed) :=
   ⟨⟨⟨4, false, 0⟩, lfs (fun l => { l with state := 0, scope := 2 }) base, by decide +kernel⟩,
    ⟨r0, lfs (fun l => { l with state := 1 }) (put [(K.rootSource, 1)] base), by decide +kernel⟩,
    ⟨.lcToScrap r0, r0, Lc.scrap, base, by decide +kernel⟩,
    ⟨r0, base, by decide +kernel⟩,
    ⟨4, lfs (fun l => { l with trans := some 4, stepNo := 3 }) base, by decide +kernel⟩,
    ⟨4, lfs (fun l => { l with trans := some 4, stepNo := 3 }) base, by decide +kernel⟩,
    ⟨lfs (fun l => { l with state := 3 }) (put [(K.lcStatus, 16)] base), by decide +kernel⟩,
    ⟨lfs (fun l => { l with state := 4 }) (put [(K.lcStatus, 16)] base), by decide +kernel⟩,
    ⟨r0, lfs (fun l => { l with state := 1 }) (put [(K.rootSource, 0)] base), by decide +kernel⟩,
    ⟨r0, put [(K.rootSource, 1)] base, by decide +kernel⟩,
    ⟨List.replicate 32 (2 ^ 27526 - 1), lfs (fun l => { l with enrolling := true }) base, by decide +kernel⟩,
    ⟨[], lfs (fun l => { l with enrolling := true }) base, by decide +kernel⟩,
    ⟨lfs (fun l => { l with enrolling := true }) base, by decide +kernel⟩,
    ⟨r0, 2, base, by decide +kernel⟩,
    ⟨r0, 2, 5, kys (fun k => { k with devid := some 5 }) (put [(K.debugConsent, 2), (K.dbgFails, 7)] base), by decide +kernel⟩,
    ⟨[], 2, 5, kys (fun k => { k with devid := some 5 }) { base with jasper := { base.jasper with run := some 0, svc := [⟨.challenge [] 2, 1⟩] } }, by decide +kernel⟩,
    ⟨r0, 2 ^ 32 - 1, lfs (fun l => { l with chal := [1], resp := List.replicate 22 0 }) base, by decide +kernel⟩,
    ⟨r0, 2 ^ 32 - 1, lfs (fun l => { l with chal := [1], resp := List.replicate 23 0 }) base, by decide +kernel⟩,
    ⟨{ base with jasper := { base.jasper with svc := [⟨.check, 1⟩] } }, by decide +kernel⟩,
    ⟨[], [], 2, lfs (fun l => { l with checking := some ([], [], 2) }) base, by decide +kernel⟩,
    ⟨tks (fun t => { t with elapsed := 6000000 }) base, by decide +kernel⟩⟩

/-- The clauses of Obligations.Attachment are about something. -/
theorem test_witness_Attachment :
    (∃ (r : Req) (s : State), r.ch < 4 ∧ lockedOut s r.ch = false ∧ (attach s r.ch).inBuf.length = 96 ∧ Admitted s r K.attachCtrl true) ∧
    (∃ (r : Req) (s : State), r.ch < 4 ∧ lockedOut s r.ch = true ∧ Admitted s r K.attachCtrl true) ∧
    (∃ (r : Req) (s : State), r.ch < 4 ∧ (attach s r.ch).step = 2 ∧ s.tick.elapsed ≤ (attach s r.ch).readyAt + 6000000 ∧ Admitted s r K.attachCtrl true) ∧
    (∃ (r : Req) (s : State), r.ch < 4 ∧ (attach s r.ch).step ≠ 2 ∧ Admitted s r K.attachCtrl true) ∧
    (∃ (c : _) (s : State), c < 4 ∧ svcBusy s (.reply c) = true) ∧
    (∃ (c : _) (s : State), c < 4 ∧ svcBusy s (.proof c) = true) ∧
    (∃ (c : _) (s : State), c < 4 ∧ (attach s c).step = 1 ∧ svcBusy s (.reply c) = false ∧ devidOf s = none ∧ (attach s c).bad < 7) ∧
    (∃ (c : _) (d : _) (s : State), c < 4 ∧ (attach s c).step = 1 ∧ svcBusy s (.reply c) = false ∧ devidOf s = some d ∧ pointOk p256 (fieldBE (attach s c).t1 32 32) (fieldBE (attach s c).t1 64 32) = true) ∧
    (∃ (c : _) (s : State), c < 4 ∧ (attach s c).step = 3 ∧ svcBusy s (.proof c) = false ∧ (chan s c).sess = none ∧ s.keys.binding ≠ none) ∧
    (∃ (s : State), (attach s 0).step = 3 ∧ svcBusy s (.proof 0) = false ∧ (chan s 0).sess = none ∧ s.keys.binding = none) ∧
    (∃ (r : Req) (x : _) (s : State), r.ch < 4 ∧ (chan s r.ch).sess = some x ∧ Admitted s r K.attachCtrl true) ∧
    (∃ (r : Req) (v : Nat) (s : State), r.ch < 4 ∧ v < 2 ^ 32 ∧ (attach s r.ch).inBuf.length < 1024 ∧ Admitted s r K.attachData true) ∧
    (∃ (r : Req) (s : State), r.ch < 4 ∧ Admitted s r K.attachData false) ∧
    (∃ (c : _) (s : State), c < 4 ∧ (attach s c).step = 2 ∧ (attach s c).readyAt + 6000000 < s.tick.elapsed ∧ (attach s c).bad < 7) ∧
    (∃ (c : _) (s : State), c < 4 ∧ lockedOut s c = false) ∧
    (∃ (c : _) (s : State), c < 4 ∧ lockedOut s c = true) ∧
    (∃ (c : _) (x : _) (s : State), (chan s c).sess = some x ∧ x.seen + timeoutCc s c ≤ s.tick.clock) ∧
    (∃ (c : _) (x : _) (s : State), (chan s c).sess = some x ∧ s.tick.clock < x.seen + timeoutCc s c) ∧
    (∃ (r : Req) (b : _) (s : State), heldByOther s Grp.ownerBind r.ch = false ∧ bindRecord (stageOf s Grp.ownerBind) = some b ∧ s.keys.bindJob = none ∧ Admitted s r K.ownerBindWrite true) ∧
    (∃ (w : _) (s : State), s.keys.bindJob = some w ∧ ((∀ e, bindCurrent s.keys.bindRecs = some e → e.2.1 < 2 ^ 32 - 2))) ∧
    (∃ (w : _) (s : State), s.keys.bindJob = some w ∧ s.keys.binding = (bindCurrent s.keys.bindRecs).bind (fun e => bindRecord e.2.2)) :=
   ⟨⟨r0, att 0 (fun a => { a with inBuf := List.replicate 96 0 }) base, by decide +kernel⟩,
    ⟨r0, att 0 (fun a => { a with locked := some 1 }) base, by decide +kernel⟩,
    ⟨r0, tks (fun t => { t with elapsed := 6000000 }) (att 0 (fun a => { a with step := 2 }) base), by decide +kernel⟩,
    ⟨r0, base, by decide +kernel⟩,
    ⟨3, { base with jasper := { base.jasper with svc := [⟨.reply 3, 1⟩] } }, by decide +kernel⟩,
    ⟨3, { base with jasper := { base.jasper with svc := [⟨.proof 3, 1⟩] } }, by decide +kernel⟩,
    ⟨3, att 3 (fun a => { a with step := 1, bad := 6 }) base, by decide +kernel⟩,
    ⟨3, 5, kys (fun k => { k with devid := some 5 }) (att 3 (fun a => { a with step := 1, t1 := List.replicate 32 0 ++ toBytes 32 p256.gx ++ toBytes 32 p256.gy }) base), by decide +kernel⟩,
    ⟨3, kys (fun k => { k with binding := some (0, [], []) }) (att 3 (fun a => { a with step := 3 }) base), by decide +kernel⟩,
    ⟨att 0 (fun a => { a with step := 3 }) (cht 0 (fun x => { x with sess := none }) base), by decide +kernel⟩,
    ⟨r0, sess0, base, by decide +kernel⟩,
    ⟨r0, 2 ^ 32 - 1, att 0 (fun a => { a with inBuf := List.replicate 1023 0 }) base, by decide +kernel⟩,
    ⟨r0, base, by decide +kernel⟩,
    ⟨3, tks (fun t => { t with elapsed := 6000001 }) (att 3 (fun a => { a with step := 2, bad := 6 }) base), by decide +kernel⟩,
    ⟨3, base, by decide +kernel⟩,
    ⟨3, att 3 (fun a => { a with locked := some 1 }) base, by decide +kernel⟩,
    ⟨0, sess0, tks (fun t => { t with clock := 37500000000 }) base, by decide +kernel⟩,
    ⟨0, sess0, tks (fun t => { t with clock := 37499999999 }) base, by decide +kernel⟩,
    ⟨r0, (0, List.replicate 64 0, []), stg Grp.ownerBind (List.replicate 17 0) base, by decide +kernel⟩,
    ⟨[], kys (fun k => { k with bindJob := some [], bindRecs := [(0, some (4294967293, []))] }) base, rfl, (fun e h => by cases h; decide)⟩,
    ⟨[], kys (fun k => { k with bindJob := some [] }) base, by decide +kernel⟩⟩

/-- The clauses of Obligations.Resets are about something. -/
theorem test_witness_Resets :
    (∃ (i : _) (r : Req) (c : _) (s : State), (i, c) ∈ [(Instr.resetNAssert, 1), (.vcorePowerOn, 2), (.resetCmdDevice r, 4)] ∧ s.life.trans = none ∧ Admitted s r K.resetCmd true) ∧
    (∃ (s : State), s.boot.pinLow = true) ∧
    (∃ (i : _) (r : Req) (c : _) (s : State), (i, c) ∈ [(Instr.controllerWatchdog, 1), (.resetCmdController r, 2)] ∧ s.life.trans = none ∧ Admitted s r K.resetCmd true) ∧
    (∃ (r : Req) (s : State), armed s = false ∧ s.life.trans = none ∧ Admitted s r K.resetCmd true) ∧
    (∃ (r : Req) (s : State), armed s = true ∧ Admitted s r K.resetCmd true) ∧
    (∃ (s : State), s.boot.dpReset = true) ∧
    (∃ (s : State) (g : _), s.life.trans = some g ∧ s.life.heldReset = none) :=
   ⟨⟨.resetCmdDevice r0, r0, 4, base, by decide +kernel⟩,
    ⟨bts (fun b => { b with inReset := true, pinLow := true }) base, by decide +kernel⟩,
    ⟨.resetCmdController r0, r0, 2, base, by decide +kernel⟩,
    ⟨r0, base, by decide +kernel⟩,
    ⟨r0, put [(K.armStatus, 1)] base, by decide +kernel⟩,
    ⟨bts (fun b => { b with dpReset := true }) base, by decide +kernel⟩,
    ⟨lfs (fun l => { l with trans := some 4 }) base, 4, by decide +kernel⟩⟩

/-- The clauses of Obligations.PowerUp are about something. -/
theorem test_witness_PowerUp :
    (∃ (s : State), s.boot.inReset = false ∧ s.boot.engine = false ∧ ((∀ n, n < 8 → rdBit s (K.loopCtrl n) 0 = false)) ∧ onyxLost s = false ∧ s.onyx.log.length ≤ ackedLen s) ∧
    (∃ (b : _) (s : State), b ≤ 3 ∧ stepEnded s 1 = true ∧ stepEnded s 2 = false ∧ rdBit s K.startupStatus 10 = false) ∧
    (∃ (s : State), stepEnded s 1 = true ∧ stepEnded s 2 = false ∧ rdBit s K.startupStatus 10 = false) ∧
    (∃ (s : State), stepEnded s 2 = true ∧ stepEnded s 3 = false ∧ zeroisePending s = true ∧ clearing s = false ∧ s.keys.root = none ∧ ((∀ j ∈ startedJobs s, (dstRange j.desc).1 = false))) ∧
    (∃ (s : State), stepEnded s 2 = true ∧ stepEnded s 3 = false ∧ zeroisePending s = false) ∧
    (∃ (s : State), stepEnded s 3 = true ∧ stepEnded s 4 = false) ∧
    (∃ (s : State), stepEnded s 4 = true ∧ stepEnded s 51 = false) ∧
    (∃ (s : State), stepEnded s 4 = true ∧ stepEnded s 50 = false ∧ svcBusy s .firmware = false ∧ rd s K.fwPrefer ≤ 1 ∧ imageVerdict s (imageOf s (rd s K.fwPrefer)) = 1) ∧
    (∃ (s : State), stepEnded s 4 = true ∧ stepEnded s 50 = false ∧ svcBusy s .firmware = false ∧ rd s K.fwPrefer ≤ 1 ∧ imageVerdict s s.boot.imgA ≠ 1 ∧ imageVerdict s s.boot.imgB ≠ 1) ∧
    (∃ (s : State), stepEnded s 4 = true ∧ stepEnded s 50 = false ∧ svcBusy s .firmware = false ∧ rd s K.fwPrefer ≤ 1 ∧ imageVerdict s (imageOf s (rd s K.fwPrefer)) ≠ 1 ∧ imageVerdict s (imageOf s (1 - rd s K.fwPrefer)) = 1) ∧
    (∃ (s : State), svcBusy s .firmware = true) ∧
    (∃ (s : State), stepEnded s 1 = true ∧ stepEnded s 6 = false) ∧
    (∃ (s : State), stepEnded s 1 = true ∧ stepEnded s 6 = false) ∧
    (∃ (s : State), stepEnded s 1 = true ∧ stepEnded s 7 = false) ∧
    (∃ (s : State), ((∀ n ∈ [1, 2, 3, 4, 5, 50, 6, 7], stepEnded s n = true)) ∧ startupDone s = false) :=
   ⟨⟨State.reset, by decide +kernel⟩,
    ⟨3, steps [1] base, by decide +kernel⟩,
    ⟨steps [1] base, by decide +kernel⟩,
    ⟨steps [1, 2] (put [(K.onyxStatus, 4)] base), by decide +kernel⟩,
    ⟨steps [1, 2] base, by decide +kernel⟩,
    ⟨steps [1, 2, 3] base, by decide +kernel⟩,
    ⟨steps [1, 2, 3, 4] base, by decide +kernel⟩,
    ⟨steps [1, 2, 3, 4] (put [(K.fwPrefer, 1)] base), by decide +kernel⟩,
    ⟨bts (fun b => { b with imgA := { b.imgA with sigOk := false }, imgB := { b.imgB with hashOk := false } }) (steps [1, 2, 3, 4] base), by decide +kernel⟩,
    ⟨bts (fun b => { b with imgB := { b.imgB with hashOk := false } }) (steps [1, 2, 3, 4] (put [(K.fwPrefer, 1)] base)), by decide +kernel⟩,
    ⟨{ base with jasper := { base.jasper with svc := [⟨.firmware, 1⟩] } }, by decide +kernel⟩,
    ⟨steps [1] base, by decide +kernel⟩,
    ⟨steps [1] base, by decide +kernel⟩,
    ⟨steps [1] base, by decide +kernel⟩,
    ⟨base, by decide +kernel⟩⟩

/-- The clauses of Obligations.UpdateArmHold are about something. -/
theorem test_witness_UpdateArmHold :
    (∃ (i : _) (r : Req) (b : _) (n : _) (s : State), (i, n) ∈ [(Instr.fwUpdateA r b, 0), (.fwUpdateB r b, 1)] ∧ flashDown s = false ∧ s.boot.update = none ∧ ((s.boot.fw = true → rd s K.fwImage ≠ n)) ∧ Admitted s r K.fwUpdateOp true) ∧
    (∃ (s : State), svcBusy s .update = true) ∧
    (∃ (n : _) (b : _) (a : _) (i : _) (s : State), s.boot.update = some (n, b, a) ∧ svcBusy s .update = false ∧ n < 2 ∧ (readStaged { s with boot := { s.boot with update := none } } a true).2 = some i ∧ s.hbm.dirty.length < cacheLines) ∧
    (∃ (n : _) (b : _) (a : _) (s : State), s.boot.update = some (n, b, a) ∧ svcBusy s .update = false) ∧
    (∃ (r : Req) (v : _) (s : State), v ≤ 1 ∧ flashDown s = false ∧ Admitted s r K.fwPrefer true) ∧
    (∃ (r : Req) (v : _) (s : State), v < 256 ∧ flashDown s = false ∧ s.boot.fw = true ∧ v = (imageOf s (rd s K.fwImage)).svn ∧ Admitted s r K.fwSvnCommit true) ∧
    (∃ (r : Req) (s : State), armRefusal s = 0 ∧ Admitted s r K.armCtrl true) ∧
    (∃ (r : Req) (s : State), armRefusal s ≠ 0 ∧ Admitted s r K.armCtrl true) ∧
    (∃ (s : State), startupDone s = false) ∧
    (∃ (r : Req) (s : State), Admitted s r K.armCtrl true) ∧
    (∃ (s : State), s.boot.drain = true ∧ s.dp.inq = []) ∧
    (∃ (r : Req) (s : State), holdRefused s = false ∧ rd s K.holdStatus = 0 ∧ Admitted s r K.holdCtrl true) ∧
    (∃ (r : Req) (s : State), holdRefused s = true ∧ Admitted s r K.holdCtrl true) ∧
    (∃ (r : Req) (s : State), rd s K.holdStatus = 2 ∧ Admitted s r K.holdCtrl true) ∧
    (∃ (s : State), rd s K.holdStatus = 1 ∧ s.boot.exitNext = false) ∧
    (∃ (s : State), rd s K.holdStatus = 3) :=
   ⟨⟨.fwUpdateA r0 true, r0, true, 0, put [(K.fwImage, 1)] base, by decide +kernel⟩,
    ⟨{ base with jasper := { base.jasper with svc := [⟨.update, 1⟩] } }, by decide +kernel⟩,
    ⟨1, true, 63 * 2 ^ 32, imageGone, bts (fun b => { b with update := some (1, true, 63 * 2 ^ 32) }) (region []), by decide +kernel⟩,
    ⟨1, true, 7, bts (fun b => { b with update := some (1, true, 7) }) base, by decide +kernel⟩,
    ⟨r0, 1, base, by decide +kernel⟩,
    ⟨r0, 255, bts (fun b => { b with imgA := { b.imgA with svn := 255 } }) base, by decide +kernel⟩,
    ⟨r0, live [(K.rootStatus, 1)], by decide +kernel⟩,
    ⟨r0, base, by decide +kernel⟩,
    ⟨base, by decide +kernel⟩,
    ⟨r0, base, by decide +kernel⟩,
    ⟨bts (fun b => { b with drain := true }) base, by decide +kernel⟩,
    ⟨r0, live [], by decide +kernel⟩,
    ⟨r0, base, by decide +kernel⟩,
    ⟨r0, put [(K.holdStatus, 2)] base, by decide +kernel⟩,
    ⟨put [(K.holdStatus, 1)] base, by decide +kernel⟩,
    ⟨put [(K.holdStatus, 3)] base, by decide +kernel⟩⟩

/-- The clauses of Obligations.Channels are about something. -/
theorem test_witness_Channels :
    (∃ (r : Req) (s : State), Admitted s r K.tickLength false) ∧
    (∃ (r : Req) (v : Nat) (s : State), v ≤ 1 ∧ Admitted s r K.evtCtrl true) ∧
    (∃ (r : Req) (k : _) (s : State), Admitted s r k false) ∧
    (∃ (k : _) (ws : _) (v : _), decVal (typeOf k) ws = some v) ∧
    (∃ (r : Req) (k : _) (ws : _) (s : State), decVal (typeOf k) ws = none ∧ Admitted s r k true) ∧
    (∃ (r : Req) (s : State), Admitted s r K.evtCtrl true) ∧
    (∃ (r : Req) (s : State), s.boot.engine = true ∧ s.ns.recs = [] ∧ Admitted s r K.evtData false) ∧
    (∃ (r : Req) (k : _) (n : _) (s : State), ((n = 0 ∨ 250 < n ∨ isWindow k = false)) ∧ Admitted s r k false) ∧
    (∃ (r : Req) (n : _) (s : State), r.ch < 4 ∧ 1 ≤ n ∧ n ≤ 250 ∧ Admitted s r K.attachData false) ∧
    (∃ (r : Req) (k : _) (ws : List Nat) (s : State), ((ws = [] ∨ 250 < ws.length ∨ isWindow k = false)) ∧ Admitted s r k true) ∧
    (∃ (r : Req) (ws : List Nat) (s : State), ((∀ w ∈ ws, w < 2 ^ 32)) ∧ ws ≠ [] ∧ ws.length ≤ 250 ∧ r.ch < 4 ∧ (attach s r.ch).inBuf.length + 4 * ws.length < 1028 ∧ Admitted s r K.attachData true) ∧
    (∃ (s : State), ((∀ c, c < 4 → (chan s c).queue = []))) ∧
    (∃ (c : _) (a : _) (u : _) (ws : _) (l : _) (s : State), nextChan s = some c ∧ c ≠ 0 ∧ (chan s c).queue = (a, u, ws) :: l ∧ notRequest ws = true) ∧
    (∃ (a : _) (u : _) (q : _) (l : _) (s : State), nextChan s = some 0 ∧ (chan s 0).queue = (a, u, [0x10010000, q * 65536 + 1, 0x10000000 + K.tickLength]) :: l ∧ q < 65536 ∧ (chan s 0).last ≠ some q ∧ Admitted s ⟨0, false, u⟩ K.tickLength false) ∧
    (∃ (a : _) (u : _) (ws : _) (l : _) (s : State), nextChan s = some 0 ∧ (chan s 0).queue = (a, u, ws) :: l ∧ notRequest ws = false ∧ (kdaHdr ws).ver = 1 ∧ (chan s 0).last = some (kdaHdr ws).seq) ∧
    (∃ (a : _) (u : _) (ws : _) (l : _) (ops : _) (x : _) (y : _) (z : _) (s : State), nextChan s = some 0 ∧ (chan s 0).queue = (a, u, ws) :: l ∧ notRequest ws = false ∧ (kdaHdr ws).ver = 1 ∧ (chan s 0).last ≠ some (kdaHdr ws).seq ∧ kdaFormOk 0 (kdaHdr ws) ws = true ∧ kdaOps (kdaHdr ws).ops ((ws.drop (kdaHdr ws).hlen).take (kdaHdr ws).len) = some ops ∧ kdaRun ⟨0, false, u⟩ ops (setChan s 0 { chan s 0 with queue := l }) (kdaHdr ws).hlen .ok [] = some (x, y, z) ∧ x.boot.engine = true) ∧
    (∃ (c : _) (ws : _) (s : State), ((c = 1 ∨ c = 2)) ∧ s.boot.engine = true ∧ s.life.state ≠ Lc.lost ∧ rdBit s (K.chanCtrl c) 0 = true ∧ rdBit s (K.chanCtrl c) 1 = true ∧ notRequest ws = false ∧ (chan s c).queue.length < 4) ∧
    (∃ (c : _) (ws : _) (s : State), ((c = 1 ∨ c = 2)) ∧ s.boot.engine = true ∧ s.life.state ≠ Lc.lost ∧ rdBit s (K.chanCtrl c) 0 = true ∧ rdBit s (K.chanCtrl c) 1 = true ∧ notRequest ws = true) ∧
    (∃ (ws : _) (s : State), s.boot.engine = true ∧ (chan s 0).queue = [] ∧ notRequest ws = false) ∧
    (∃ (s : State), s.boot.engine = true ∧ (chan s 0).queue ≠ []) ∧
    (∃ (s : State), s.boot.engine = true ∧ (chan s 0).queue = []) ∧
    (∃ (ws : _) (s : State), s.boot.engine = true ∧ (chan s 0).queue = [] ∧ notRequest ws = true) ∧
    (∃ (l : _) (s : State), (chan s 0).held = some l) ∧
    (∃ (s : State), (chan s 0).held = none) ∧
    (∃ (c : _) (s : State), ((c = 1 ∨ c = 2)) ∧ (chan s c).sess = none) ∧
    (∃ (i : _) (c : _) (r : Req) (s : State), (i = Instr.spiChannelReset ∧ c = 0 ∨ i = .chanReset r c ∧ c < 4) ∧ s.boot.engine = true ∧ (chan s c).sess = none ∧ Admitted s r (K.chanReset c) true) ∧
    (∃ (c : _) (v6 : Bool) (a : _) (s : State), ((c = 1 ∨ c = 2)) ∧ s.boot.engine = true ∧ s.life.state ≠ Lc.lost ∧ rdBit s (K.chanCtrl c) 0 = true ∧ (if v6 then rd s (K.chanIpv6 c) else rd s (K.chanIpv4 c)) = a ∧ a ≠ 0) ∧
    (∃ (c : _) (v6 : Bool) (a : _) (s : State), ((s.life.state = Lc.lost ∨ (if v6 then rd s (K.chanIpv6 c) else rd s (K.chanIpv4 c)) ≠ a))) ∧
    (∃ (r : Req) (s : State), 0 < r.ch ∧ r.ch < 4 ∧ Admitted s r (K.evtSub r.ch) true) ∧
    (∃ (r : Req) (c : _) (s : State), 0 < c ∧ c < 4 ∧ Admitted s r (K.evtSub c) true) ∧
    (∃ (c : _) (b : _) (s : State), ((c = 1 ∨ c = 2)) ∧ (chan s c).sub = some b ∧ b.sess = false ∧ 8 ≤ b.waiting.length) ∧
    (∃ (c : _) (b : _) (s : State), ((c = 1 ∨ c = 2)) ∧ (chan s c).sub = some b ∧ b.sess = false ∧ b.waiting ≠ [] ∧ b.waiting.length < 8 ∧ b.since < s.tick.elapsed) ∧
    (∃ (c : _) (s : State), ((∀ b, (chan s c).sub = some b → b.waiting = []))) ∧
    (∃ (r : Req) (a : _) (l : _) (s : State), s.ns.recs = a :: l ∧ s.ns.ptr = 5 ∧ Admitted s r K.evtData false) ∧
    (∃ (r : Req) (a : _) (l : _) (s : State), s.sec.recs = a :: l ∧ s.sec.ptr < 5 ∧ Admitted s r K.evtDataS false) ∧
    (∃ (r : Req) (w : _) (v : Nat) (s : State), w < 12 ∧ v < 2 ^ 32 ∧ rd s (K.evtPending w) < 2 ^ 32 ∧ Admitted s r (K.evtPending w) true) ∧
    (∃ (i : _) (r : Req) (k : _) (c : _) (s : State), (i, k) ∈ [(Instr.evtLostRead r false, K.evtLost), (.evtLostRead r true, K.evtLostS), (.chanRejectedRead r (c % 4), K.chanRejected (c % 4)), (.chanRxDropsRead r (1 + c % 3), K.chanRxDrops (1 + c % 3)), (.masterRefusedRead r, K.masterRefused), (.memLastRead r, K.memLast), (.slowOverflowRead r (c % 8), K.slowOverflow (c % 8)), (.learnFullRead r (c % 4), K.learnFull (c % 4)), (.resvDropsRead r, K.resvDrops), (.migrateLateRead r, K.migrateLate)] ∧ Admitted s r k false) ∧
    (∃ (i : _) (r : Req) (k : _) (q : _) (s : State), q < 32 ∧ isPort s q = true ∧ (i, k) ∈ [(Instr.detLateRead r q, K.detLate q), (.verifyLastRead r q, K.verifyLast q), (.txTsLostRead r q, K.txTsLost q)] ∧ Admitted s r k false) ∧
    (∃ (r : Req) (k : _) (s : State), k < 4 ∧ Admitted s r (K.tailDrops k) false) :=
   ⟨⟨r0, base, by decide +kernel⟩,
    ⟨r0, 1, base, by decide +kernel⟩,
    ⟨r0, K.tickLength, base, by decide +kernel⟩,
    ⟨K.evtCtrl, [1], 1, by decide +kernel⟩,
    ⟨r0, K.evtCtrl, [1, 1], base, by decide +kernel⟩,
    ⟨r0, base, by decide +kernel⟩,
    ⟨r0, base, by decide +kernel⟩,
    ⟨r0, K.evtData, 251, base, by decide +kernel⟩,
    ⟨r0, 250, base, by decide +kernel⟩,
    ⟨r0, K.attachData, List.replicate 251 0, base, by decide +kernel⟩,
    ⟨r0, List.replicate 250 (2 ^ 32 - 1), att 0 (fun a => { a with inBuf := List.replicate 27 0 }) base, by decide +kernel⟩,
    ⟨base, by decide +kernel⟩,
    ⟨3, 0, 0, [2 ^ 24], [], cht 3 (fun x => { x with queue := [(0, 0, [2 ^ 24])] }) base, by decide +kernel⟩,
    ⟨0, 0, 65535, [], cht 0 (fun x => { x with queue := [(0, 0, [0x10010000, 65535 * 65536 + 1, 0x10000000 + K.tickLength])] }) base, by decide +kernel⟩,
    ⟨0, 0, [0x10010000, 65536 + 1, 0], [], cht 0 (fun x => { x with queue := [(0, 0, [0x10010000, 65536 + 1, 0])], last := some 1 }) base, by decide +kernel⟩,
    ⟨0, 0, [0x10010000, 1, 0], [], _, _, _, _, cht 0 (fun x => { x with queue := [(0, 0, [0x10010000, 1, 0])] }) base, by decide +kernel, rfl, by decide, by decide, by decide, by decide, rfl, rfl, rfl⟩,
    ⟨2, [0], cht 2 (fun x => { x with queue := List.replicate 3 (0, 0, []) }) (put [(K.chanCtrl 2, 3)] base), by decide +kernel⟩,
    ⟨2, [2 ^ 24], put [(K.chanCtrl 2, 3)] base, by decide +kernel⟩,
    ⟨[0], base, by decide +kernel⟩,
    ⟨cht 0 (fun x => { x with queue := [(0, 0, [])] }) base, by decide +kernel⟩,
    ⟨base, by decide +kernel⟩,
    ⟨[2 ^ 24], base, by decide +kernel⟩,
    ⟨[1], cht 0 (fun x => { x with held := some [1] }) base, by decide +kernel⟩,
    ⟨base, by decide +kernel⟩,
    ⟨2, base, by decide +kernel⟩,
    ⟨.chanReset r0 3, 3, r0, base, by decide +kernel⟩,
    ⟨2, true, 1, put [(K.chanCtrl 2, 1), (K.chanIpv6 2, 1)] base, by decide +kernel⟩,
    ⟨2, false, 1, base, by decide +kernel⟩,
    ⟨⟨3, false, 0⟩, base, by decide +kernel⟩,
    ⟨r0, 3, base, by decide +kernel⟩,
    ⟨2, ⟨0, false, 0, 0, List.replicate 8 [], 0⟩, cht 2 (fun x => { x with sub := some ⟨0, false, 0, 0, List.replicate 8 [], 0⟩ }) base, by decide +kernel⟩,
    ⟨2, ⟨0, false, 0, 0, List.replicate 7 [], 0⟩, tks (fun t => { t with elapsed := 1 }) (cht 2 (fun x => { x with sub := some ⟨0, false, 0, 0, List.replicate 7 [], 0⟩ }) base), by decide +kernel⟩,
    ⟨2, base, (fun b h => by cases h)⟩,
    ⟨r0, [1, 2, 3, 4, 5, 6], [], { base with ns := ⟨[[1, 2, 3, 4, 5, 6]], 1, false, 5⟩ }, by decide +kernel⟩,
    ⟨r0, [1, 2, 3, 4, 5, 6], [], { base with sec := ⟨[[1, 2, 3, 4, 5, 6]], 1, false, 4⟩ }, by decide +kernel⟩,
    ⟨r0, 11, 2 ^ 32 - 1, put [(K.evtPending 11, 2 ^ 32 - 1)] base, by decide +kernel⟩,
    ⟨.chanRejectedRead r0 3, r0, K.chanRejected 3, 3, base, by decide +kernel⟩,
    ⟨.txTsLostRead r0 31, r0, K.txTsLost 31, 31, put [(K.groupLayout 7, 1)] base, by decide +kernel⟩,
    ⟨r0, 3, base, by decide +kernel⟩⟩

/-- The clauses of Obligations.NonSecureAccess are about something. -/
theorem test_witness_NonSecureAccess :
    (∃ (i : _) (r : Req) (k : _) (v : _) (n : _) (ws : _) (o : _) (s : State), i ∈ [Instr.registerWrite r k v, .kdaRead r k, .kdaWrite r k ws, .kdaWindowRead r k n, .kdaWindowWrite r k ws] ∧ s.boot.engine = true ∧ s.boot.fw = true ∧ s.life.state < 4 ∧ ((r.ch = 4 → s.life.scope ≠ 0)) ∧ rdBit s K.startupStatus 10 = false ∧ inProfile s r = false ∧ objOf k = some o ∧ o.acc.secureOnly = true ∧ secure s r = false) :=
   ⟨.kdaRead r1 K.keyData, r1, K.keyData, 0, 0, [], (objOf K.keyData).get (by decide +kernel), base, by decide +kernel, rfl, rfl, by decide +kernel, by decide +kernel, by decide +kernel, by decide +kernel, (Option.some_get _).symm, by decide +kernel, by decide +kernel⟩

/-- The clauses of Obligations.SecureSources are about something. -/
theorem test_witness_SecureSources :
    (∃ (r : Req) (w : _) (k : _) (s : State), w < 12 ∧ k ∈ [K.evtPending w, K.evtIrqEn w, K.evtRecordEn w, K.evtMsgEn w] ∧ secure s r = false ∧ rd s k < 2 ^ 32 ∧ Admitted s r k false) ∧
    (∃ (r : Req) (w : _) (k : _) (v : Nat) (s : State), w < 12 ∧ k ∈ [K.evtIrqEn w, K.evtRecordEn w, K.evtMsgEn w] ∧ secure s r = false ∧ v < 2 ^ 32 ∧ rd s k < 2 ^ 32 ∧ Admitted s r k true) ∧
    (∃ (r : Req) (w : _) (v : Nat) (i : _) (s : State), w < 12 ∧ (i = Instr.registerWrite r (K.evtPending w) v ∨ i = .evtPendingClear r w v) ∧ secure s r = false ∧ v < 2 ^ 32 ∧ rd s (K.evtPending w) < 2 ^ 32 ∧ Admitted s r (K.evtPending w) true) :=
   ⟨⟨r1, 11, K.evtIrqEn 11, base, by decide +kernel⟩,
    ⟨r1, 11, K.evtIrqEn 11, 2 ^ 32 - 1, base, by decide +kernel⟩,
    ⟨r1, 11, 2 ^ 32 - 1, .evtPendingClear r1 11 (2 ^ 32 - 1), put [(K.evtPending 11, 2 ^ 32 - 1)] base, by decide +kernel⟩⟩

/-- The clauses of Obligations.ChecksOfAnAccess are about something. -/
theorem test_witness_ChecksOfAnAccess :
    (∃ (i : _) (r : Req) (k : _) (v : _) (ws : _) (s : State), i ∈ [Instr.registerWrite r k v, .kdaRead r k, .kdaWrite r k ws] ∧ (s.boot.engine = false ∨ s.life.state = Lc.lost ∧ r.ch ≠ 0)) ∧
    (∃ (i : _) (r : Req) (k : _) (v : _) (ws : _) (c : _) (s : State), i ∈ [Instr.registerWrite r k v, .kdaRead r k, .kdaWrite r k ws] ∧ s.boot.engine = true ∧ ((s.life.state = Lc.lost ∧ r.ch = 0 ∧ c = Code.wrongState ∨ s.life.state = Lc.scrap ∧ isIdentity k = false ∧ c = .wrongState ∨ s.life.state < 4 ∧ r.ch = 4 ∧ s.life.scope = 0 ∧ isIdentity k = false ∧ isLifeCycle k = false ∧ c = .wrongState ∨ s.life.state < 4 ∧ r.ch ≠ 4 ∧ inProfile s r = true ∧ profileHas k = false ∧ c = .noObject ∨ s.life.state < 4 ∧ r.ch ≠ 4 ∧ objOf k = none ∧ c = .noObject ∨ s.life.state < 4 ∧ r.ch ≠ 4 ∧ inProfile s r = false ∧ (objOf k).isSome = true ∧ rdBit s K.startupStatus 10 = true ∧ flashFailHas k = false ∧ c = .notReady ∨ s.life.state < 4 ∧ r.ch ≠ 4 ∧ inProfile s r = false ∧ (objOf k).isSome = true ∧ s.boot.fw = false ∧ hwServed s r k = false ∧ c = .notReady))) ∧
    (∃ (i : _) (r : Req) (k : _) (v : _) (ws : _) (o : _) (s : State), i ∈ [Instr.registerWrite r k v, .kdaWrite r k ws] ∧ s.boot.engine = true ∧ s.boot.fw = true ∧ s.life.state < 4 ∧ r.ch ≠ 4 ∧ rdBit s K.startupStatus 10 = false ∧ inProfile s r = false ∧ objOf k = some o ∧ o.acc.readOnly = true ∧ ((o.acc.secureOnly = true → secure s r = true))) :=
   ⟨⟨.kdaRead r0 K.tickLength, r0, K.tickLength, 0, [], State.reset, by decide +kernel⟩,
    ⟨.kdaRead r0 K.keyData, r0, K.keyData, 0, [], .notReady, bts (fun b => { b with fw := false }) base, by decide +kernel⟩,
    ⟨.registerWrite r0 K.tickNumber 0, r0, K.tickNumber, 0, [], (objOf K.tickNumber).get (by decide +kernel), base, by decide +kernel, rfl, rfl, by decide +kernel, by decide +kernel, by decide +kernel, by decide +kernel, (Option.some_get _).symm, by decide +kernel, by decide +kernel⟩⟩

/-- The clauses of Obligations.StepRunsFront are about something. -/
theorem test_witness_StepRunsFront :
    (∃ (s : Machine.State), s.pending = []) :=
   ⟨State.reset, by decide +kernel⟩

end Sys2Proof.Machine.Tests
end

/-! The checks of an access, one rule at a time (R13–R15, R282, R427, R437, R439, R441): what `gate` answers where each applies. -/

namespace Sys2Proof.Machine

section
variable {s : State} {r : Req} {k : Nat} {w : Bool} {o : Obj}

/-- R437: until the engine runs, and in LOST on every channel but SPI (R282), there is no answer. -/
theorem gate_silent (h : s.boot.engine = false ∨ s.life.state = Lc.lost ∧ r.ch ≠ 0) : gate s r k w = .silent := by
  obtain he | ⟨hl, hc⟩ := h
  · simp [gate, he]
  · cases he : s.boot.engine <;> simp [gate, he, hl, hc, Lc.lost]

/-- R282: LOST on SPI. -/
theorem gate_lost (he : s.boot.engine = true) (hl : s.life.state = Lc.lost) (hc : r.ch = 0) :
    gate s r k w = .abort .wrongState := by
  simp [gate, he, hl, hc, Lc.lost]

/-- R282: SCRAP leaves the identity objects alone. -/
theorem gate_scrap (he : s.boot.engine = true) (hl : s.life.state = Lc.scrap) (hi : isIdentity k = false) :
    gate s r k w = .abort .wrongState := by
  simp [gate, he, hl, hi, Lc.scrap]

theorem beforeScrap (hl : s.life.state < 4) : s.life.state ≠ 5 ∧ s.life.state ≠ 4 := by omega

theorem debugOpen (hd : r.ch = 4 → s.life.scope ≠ 0) : ¬ (r.ch = 4 ∧ s.life.scope = 0) := fun ⟨hc, h⟩ => hd hc h

/-- R15, R282: a closed debug port reaches the identity objects and the life-cycle range alone. -/
theorem gate_debugClosed (he : s.boot.engine = true) (hl : s.life.state < 4) (hc : r.ch = 4) (hd : s.life.scope = 0)
    (hi : isIdentity k = false) (hy : isLifeCycle k = false) : gate s r k w = .abort .wrongState := by
  simp [gate, he, beforeScrap hl, hc, hd, hi, hy]

/-- R427: a channel in the IV0800 profile has the profile's objects alone. -/
theorem gate_outsideProfile (he : s.boot.engine = true) (hl : s.life.state < 4) (hd : r.ch = 4 → s.life.scope ≠ 0)
    (hp : inProfile s r = true) (hk : profileHas k = false) : gate s r k w = .abort .noObject := by
  simp [gate, he, beforeScrap hl, debugOpen hd, hp, hk]

/-- R15: an index that no object occupies. -/
theorem gate_noObject (he : s.boot.engine = true) (hl : s.life.state < 4) (hd : r.ch = 4 → s.life.scope ≠ 0)
    (ho : objOf k = none) : gate s r k w = .abort .noObject := by
  simp [gate, he, beforeScrap hl, debugOpen hd, ho]

/-- Past the rules that do not ask what the object is: flash (R441), firmware (R437), world (R14), read-only (R13). -/
theorem gate_of_objOf (he : s.boot.engine = true) (hl : s.life.state < 4) (hd : r.ch = 4 → s.life.scope ≠ 0)
    (hp : inProfile s r = false) (ho : objOf k = some o) :
    gate s r k w =
      if rdBit s K.startupStatus 10 && !flashFailHas k then .abort .notReady
      else if !s.boot.fw && !hwServed s r k then .abort .notReady
      else if o.acc.secureOnly && !secure s r then .abort .worldViolation
      else if w && o.acc.readOnly then .abort .readOnly
      else .pass := by
  simp [gate, he, beforeScrap hl, debugOpen hd, hp, ho]

/-- R441: after a failed flash link. -/
theorem gate_flashFailed (he : s.boot.engine = true) (hl : s.life.state < 4) (hd : r.ch = 4 → s.life.scope ≠ 0)
    (hp : inProfile s r = false) (ho : objOf k = some o) (hf : rdBit s K.startupStatus 10 = true) (hk : flashFailHas k = false) :
    gate s r k w = .abort .notReady := by
  simp [gate_of_objOf he hl hd hp ho, hf, hk]

/-- R437: without firmware. -/
theorem gate_noFirmware (he : s.boot.engine = true) (hl : s.life.state < 4) (hd : r.ch = 4 → s.life.scope ≠ 0)
    (hp : inProfile s r = false) (ho : objOf k = some o) (hf : s.boot.fw = false) (hk : hwServed s r k = false) :
    gate s r k w = .abort .notReady := by
  simp [gate_of_objOf he hl hd hp ho, hf, hk]

/-- R14: a secure-only object, from the non-secure world. -/
theorem gate_worldViolation (he : s.boot.engine = true) (hl : s.life.state < 4) (hd : r.ch = 4 → s.life.scope ≠ 0)
    (hp : inProfile s r = false) (ho : objOf k = some o) (hf : rdBit s K.startupStatus 10 = false) (hw : s.boot.fw = true)
    (hs : o.acc.secureOnly = true) (hn : secure s r = false) : gate s r k w = .abort .worldViolation := by
  simp [gate_of_objOf he hl hd hp ho, hf, hw, hs, hn]

/-- R13: a write of a read-only object that the requester's world may reach. -/
theorem gate_readOnly (he : s.boot.engine = true) (hl : s.life.state < 4) (hd : r.ch = 4 → s.life.scope ≠ 0)
    (hp : inProfile s r = false) (ho : objOf k = some o) (hf : rdBit s K.startupStatus 10 = false) (hw : s.boot.fw = true)
    (hr : o.acc.readOnly = true) (hs : o.acc.secureOnly = true → secure s r = true) : gate s r k true = .abort .readOnly := by
  have hns : (o.acc.secureOnly && !secure s r) = false := by
    cases h : o.acc.secureOnly
    · rfl
    · simp [hs h]
  simp [gate_of_objOf he hl hd hp ho, hf, hw, hr, hns]

end

/-! How a command of an access ends: settled, with or without the chance of a restart. -/

/-- The command ends in `u`, its queue, antifuse values and grid phase settled. -/
def EndsIn (i : Instr) (s u : State) : Prop := exec i s = done s u ∨ exec i s = doneReset s u

section
variable {i : Instr} {r : Req} {k v n : Nat} {ws : List Nat} {s u : State}

/-- What is said of the answer and of the frame does not depend on how the command is settled. -/
theorem EndsIn.runs {ks : List Nat} {ps : List Part} {R : Reply → Prop} (h : EndsIn i s u) (hr : R u.reply) (hf : Frame ks ps s u) :
    Runs i s (fun t => R t.reply ∧ Frame ks ps s t) := by
  obtain h | h := h
  · exact ⟨_, h, hr, hf.settled⟩
  · exact ⟨_, h, hr, hf.settledReset⟩

theorem exec_registerWrite : exec (.registerWrite r k v) s = doneReset s (access s r k true (dictWrite r k v)) := rfl
theorem exec_kdaRead : exec (.kdaRead r k) s = done s (access s r k false (dictRead r k)) := rfl
theorem exec_kdaWrite : exec (.kdaWrite r k ws) s = doneReset s (opAnswer s r (kdaWrite r k ws s)) := rfl
theorem exec_kdaWindowRead : exec (.kdaWindowRead r k n) s = done s (opAnswer s r (kdaWinRead r k n s)) := rfl
theorem exec_kdaWindowWrite : exec (.kdaWindowWrite r k ws) s = done s (opAnswer s r (kdaWinWrite r k ws s)) := rfl

/-- A write, of a value or of words, is one access. -/
theorem write_endsIn_access (hi : i ∈ [Instr.registerWrite r k v, .kdaWrite r k ws]) :
    ∃ eff, EndsIn i s (access s r k true eff) := by
  simp only [List.mem_cons, List.not_mem_nil, or_false] at hi
  obtain rfl | rfl := hi
  · exact ⟨_, .inr exec_registerWrite⟩
  · exact ⟨_, .inr exec_kdaWrite⟩

/-- A write or a read is one access. -/
theorem single_endsIn_access (hi : i ∈ [Instr.registerWrite r k v, .kdaRead r k, .kdaWrite r k ws]) :
    ∃ w eff, EndsIn i s (access s r k w eff) := by
  simp only [List.mem_cons, List.not_mem_nil, or_false] at hi
  obtain rfl | rfl | rfl := hi
  · exact ⟨_, _, .inr exec_registerWrite⟩
  · exact ⟨_, _, .inl exec_kdaRead⟩
  · exact ⟨_, _, .inr exec_kdaWrite⟩

/-- An access that its checks answer with silence leaves everything, the last reply too. -/
theorem EndsIn.runs_silent {w : Bool} {eff : State → Res} (h : EndsIn i s (access s r k w eff)) (hg : gate s r k w = .silent) :
    Runs i s (fun t => t.reply = s.reply ∧ Frame [] [] s t) := by
  rw [access_silent hg] at h
  exact h.runs (R := (· = s.reply)) rfl .refl

/-- An access that its checks abort, but for a world violation, changes no register. -/
theorem EndsIn.runs_abort {w : Bool} {eff : State → Res} {c : Code} (h : EndsIn i s (access s r k w eff))
    (hg : gate s r k w = .abort c) (hc : c ≠ .worldViolation) : Runs i s (fun t => t.reply.code = c ∧ Frame [] [.chans] s t) := by
  rw [access_abort hg hc] at h
  exact h.runs (R := (·.code = c)) rfl (Frame.refl.touch (by decide)).replied

/-! A world violation (R14). -/

/-- Only a request of the secure world renews the time of a session (R304). -/
theorem touch_of_nonsecure (h : secure s r = false) : touch s r = s := by
  unfold touch
  split
  · rfl
  · simp [h]

/-- The world of a requester is read from the sessions and the debug scope alone (R299). -/
theorem secure_congr {t : State} (hc : t.chans = s.chans) (hl : t.life = s.life) : secure t r = secure s r := by
  simp only [secure, chan, hc, hl]

theorem secure_countViolation (q : Req) : secure (countViolation s q k) r = secure s r :=
  secure_congr (by simp [countViolation, inc]) (by simp [countViolation, inc])

theorem countViolation_frame : Frame [K.worldViolations, K.worldLast] [] s (countViolation s r k) :=
  (Frame.refl.inc (by decide)).wr (by decide)

theorem opRes_violation {w : Bool} (h : gate s r k w = .abort .worldViolation) (eff : State → Res) :
    opRes s r k w eff = some (abortR (countViolation s r k) .worldViolation) := by
  simp [opRes, h]

theorem access_violation {w : Bool} (h : gate s r k w = .abort .worldViolation) (eff : State → Res) :
    access s r k w eff = opAnswer s r (some ⟨countViolation s r k, .worldViolation, []⟩) := by
  simp [access, opAnswer, opRes_violation h, abortR]

/-- A window read ends at its first word, before any moved. -/
theorem kdaWinRead_violation (h : gate s r k false = .abort .worldViolation) :
    kdaWinRead r k n s = some (abortR (countViolation s r k) .worldViolation) := by
  unfold kdaWinRead
  split
  · exact opRes_violation h _
  · next hn =>
    cases n with
    | zero => simp at hn
    | succ n => simp [winRead, opRes_violation h, abortR]

/-- So does a window write, which may answer the number of words moved. -/
theorem kdaWinWrite_violation (h : gate s r k true = .abort .worldViolation) :
    ∃ l, kdaWinWrite r k ws s = some ⟨countViolation s r k, .worldViolation, l⟩ := by
  unfold kdaWinWrite
  split
  · exact ⟨[], opRes_violation h _⟩
  · next hn =>
    cases ws with
    | nil => simp at hn
    | cons w ws => exact ⟨[0], by simp [winWrite, opRes_violation h, abortR]⟩

/-- An operation that answers the violation keeps everything but the count and the name of it. -/
theorem opAnswer_violation_runs {l : List Word} (hn : secure s r = false)
    (h : EndsIn i s (opAnswer s r (some ⟨countViolation s r k, .worldViolation, l⟩))) :
    Runs i s (fun t => t.reply.code = .worldViolation ∧ Frame [K.worldViolations, K.worldLast] [] s t) := by
  have ht : touch (countViolation s r k) r = countViolation s r k := touch_of_nonsecure (by rw [secure_countViolation, hn])
  simp only [opAnswer, ht] at h
  exact h.runs (R := (·.code = .worldViolation)) rfl countViolation_frame.replied

/-- Every operation on the object ends in the answer of the violation. -/
theorem operation_endsIn_violation
    (hi : i ∈ [Instr.registerWrite r k v, .kdaRead r k, .kdaWrite r k ws, .kdaWindowRead r k n, .kdaWindowWrite r k ws])
    (hg : ∀ w, gate s r k w = .abort .worldViolation) :
    ∃ l, EndsIn i s (opAnswer s r (some ⟨countViolation s r k, .worldViolation, l⟩)) := by
  simp only [List.mem_cons, List.not_mem_nil, or_false] at hi
  obtain rfl | rfl | rfl | rfl | rfl := hi
  · exact ⟨[], .inr (by rw [exec_registerWrite, access_violation (hg true)])⟩
  · exact ⟨[], .inl (by rw [exec_kdaRead, access_violation (hg false)])⟩
  · exact ⟨[], .inr (by rw [exec_kdaWrite, kdaWrite, opRes_violation (hg true), abortR])⟩
  · exact ⟨[], .inl (by rw [exec_kdaWindowRead, kdaWinRead_violation (hg false), abortR])⟩
  · obtain ⟨l, hl⟩ := kdaWinWrite_violation (ws := ws) (hg true)
    exact ⟨l, .inl (by rw [exec_kdaWindowWrite, hl])⟩

end

/-- Settles O54: the checks answer the violation for reads and writes alike, and so the operation ends before any effect. -/
theorem nonSecureAccess : Obligations.NonSecureAccess := by
  intro i r k v n ws o s hi he hw hl hd hf hp ho hs hn
  have hg (w : Bool) : gate s r k w = .abort .worldViolation := gate_worldViolation he hl hd hp ho hf hw hs hn
  obtain ⟨_, h⟩ := operation_endsIn_violation hi hg
  exact opAnswer_violation_runs hn h

/-- Settles O56, clause by clause from what the checks answer. -/
theorem checksOfAnAccess : Obligations.ChecksOfAnAccess := by
  refine ⟨?_, ?_, ?_⟩
  · intro i r k v ws s hi h
    obtain ⟨_, _, hx⟩ := single_endsIn_access hi
    exact hx.runs_silent (gate_silent h)
  · intro i r k v ws c s hi he h
    obtain ⟨w, _, hx⟩ := single_endsIn_access hi
    obtain ⟨hl, hc, rfl⟩ | ⟨hl, hk, rfl⟩ | ⟨hl, hc, hd, hk, hy, rfl⟩ | ⟨hl, hc, hp, hk, rfl⟩ | ⟨hl, hc, ho, rfl⟩ |
      ⟨hl, hc, hp, ho, hf, hk, rfl⟩ | ⟨hl, hc, hp, ho, hf, hk, rfl⟩ := h
    · exact hx.runs_abort (gate_lost he hl hc) (by decide)
    · exact hx.runs_abort (gate_scrap he hl hk) (by decide)
    · exact hx.runs_abort (gate_debugClosed he hl hc hd hk hy) (by decide)
    · exact hx.runs_abort (gate_outsideProfile he hl (absurd · hc) hp hk) (by decide)
    · exact hx.runs_abort (gate_noObject he hl (absurd · hc) ho) (by decide)
    · obtain ⟨o, ho⟩ := Option.isSome_iff_exists.mp ho
      exact hx.runs_abort (gate_flashFailed he hl (absurd · hc) hp ho hf hk) (by decide)
    · obtain ⟨o, ho⟩ := Option.isSome_iff_exists.mp ho
      exact hx.runs_abort (gate_noFirmware he hl (absurd · hc) hp ho hf hk) (by decide)
  · intro i r k v ws o s hi he hw hl hc hf hp ho hr hs
    obtain ⟨_, hx⟩ := write_endsIn_access hi
    exact hx.runs_abort (gate_readOnly he hl (absurd · hc) hp ho hf hw hr hs) (by decide)

/-! The state right after reset. -/

/-- The register file lists nothing, so every object reads its default (R12). -/
theorem rd_reset (k : Nat) : rd State.reset k = dfltOf k := rfl

/-- No channel is listed, so each is idle. -/
theorem chan_reset (c : Nat) : chan State.reset c = State.idleChan := rfl

/-- The grid starts in phase, within the limit of R43. -/
theorem inv_reset : Inv State.reset := by
  have h : State.reset.phase = 0 := rfl
  simp [Inv, h]

/-- Settles O60: the registers, the channels and the phase by their lemmas, the other fields as the reset state lists them. -/
theorem resetState : Obligations.ResetState :=
  ⟨inv_reset, rfl, rfl, rd_reset, rfl, rfl, rfl, rfl, rfl, rfl, fun c => by rw [chan_reset]; exact ⟨rfl, rfl⟩, rfl, rfl⟩

end Sys2Proof.Machine

/-! A verified frame teaches its learning table (R131, R189): what the refresh of an entry writes besides the table. -/

namespace Sys2Proof.Machine

section
variable {s t u : State} {f : InFrm} {i n key sc port : Nat} {y : LearnEnt}

/-- Where a key stands depends on the tables alone. -/
theorem learnAt_congr (ht : t.tables = s.tables) : learnAt t i n = learnAt s i n := by simp [learnAt, ht]
theorem learnFindAt_congr (ht : t.tables = s.tables) : learnFindAt t i key = learnFindAt s i key := by
  simp [learnFindAt, learnAt_congr ht]

/-- R131: a source met again at its SC and port is marked ACTIVE at once. -/
theorem learnOffer_refresh (hn : learnFindAt s i key = some n) (hy : learnAt s i n = some y) (hs : y.sc = sc) (hp : y.port = port) :
    learnOffer s i key sc port = setLearn s i n (some { y with active := true }) := by
  simp [learnOffer, learnApply, hn, hy, hs, hp]

/-- Every change of an entry counts LEARN_USED anew from the table. -/
theorem rd_setLearn_learnUsed (x : Option LearnEnt) : rd (setLearn s i n x) (K.learnUsed i) =
    (tset none s.tables.learn (i * 131072 + n) x).countP (fun e => e.1 / 131072 == i) := by
  simp [setLearn]

/-- R337: without a committed rate every frame passes. -/
theorem polMeter_open {len : Nat} (hp : (polAt s i n).cir = 0) :
    polMeter s i n len = (setPol s i n { polAt s i n with green := ((polAt s i n).green + 1) % 2 ^ 32 }, true) := by
  simp [polMeter, hp]

theorem ptpIn_off {b : List Byte} (hm : ptpMode s f.q = 0) : ptpIn s f b = (s, b) := by simp [ptpIn, hm]

/-- R184: what the latency measurement of an inbound frame writes. -/
theorem latMeasure_inbound_frame (q wait : Nat) :
    Frame [K.latInLast q, K.latInMin q, K.latInMax q] [.datapath] s (latMeasure s q 1 wait) := by
  unfold latMeasure
  dsimp only
  split
  · exact Frame.refl
  · split
    · exact Frame.refl.set_dp (by decide)
    · exact ((((Frame.refl.set_dp (by decide)).wr (by simp)).wr (by simp)).wr (by simp)).set_dp (by decide)

/-- R153: NEXT_PN rises in the SA and the predictor's copy. -/
theorem pnRaise_frame (h : Nat) : Frame [] [.assoc] s (pnRaise s f h) := by
  unfold pnRaise
  dsimp only
  split
  · split
    · exact (Frame.refl.set_assoc (by decide)).set_assoc (by decide)
    · exact Frame.refl.set_assoc (by decide)
  · exact Frame.refl

/-- What a verified frame on SC `sc` teaches (R131). -/
def taught (f : InFrm) (sc : Nat) (s : State) : State :=
  if rd s (K.learnEn f.q) = 1 then learnOffer s (f.q / 8) f.learn sc f.q else s

/-- The registers a delivered frame counts in (R184, R368). -/
def deliveredKeys (q : Nat) : List Nat := [K.inHostFrames q, K.inHostOctets q, K.latInLast q, K.latInMin q, K.latInMax q]

/-- A frame that passes its policer is delivered after it taught; counting and sending it leaves what it taught. -/
theorem deliver_frame_teach {b : List Byte} {teach count : State → State} (hsf : f.sf = false)
    (hp : (polAt s (f.q / 8) f.flow).cir = 0) (hc : ∀ v, Frame [] [.assoc] v (count v)) :
    ∃ u, Frame [] [.datapath] s u ∧
      EvFrame (deliveredKeys f.q) [.assoc, .datapath, .out] (teach u) (deliver s f b false teach count) := by
  refine ⟨(polMeter s (f.q / 8) f.flow 0).1, ?_, ?_⟩
  · rw [polMeter_open hp]
    exact Frame.refl.set_dp (by decide)
  · simp only [deliver, polMeter_open hp, hsf, if_true, Bool.not_false, Bool.not_true, Bool.and_true, Bool.false_or, Bool.true_or,
      Bool.false_eq_true, if_false]
    refine EvFrame.emit (by decide) (EvFrame.trans ?_ ((latMeasure_inbound_frame _ _).mono ?_ ?_).toEv)
    · refine EvFrame.trans ?_ ((hc _).mono (by simp) (by decide)).toEv
      exact ((EvFrame.refl.inc (by simp [deliveredKeys])).inc (by simp [deliveredKeys])).perfAdd
    · simp [deliveredKeys]
    · decide

theorem statAdd_frame (h a b c d : Nat) : Frame [] [.assoc] s (statAdd s h a b c d) := Frame.refl.set_assoc (by decide)

/-- The state in which a verified frame of clock `c` meets its policer: gone from its port, counted, NEXT_PN raised (R153, R189). -/
def verified (s : State) (f : InFrm) (rest : List InFrm) (h c : Nat) : State :=
  pnRaise (inc (passTo (setInQ s f.q rest) c) (K.inVerified f.q) 1) f h

theorem verified_frame (rest : List InFrm) (h c : Nat) :
    Frame [K.inVerified f.q] [.clock, .assoc, .datapath] s (verified s f rest h c) := by
  refine Frame.trans ?_ ((pnRaise_frame h).mono (by simp) (by decide))
  exact ((Frame.refl.set_dp (by decide)).set_tick (by decide)).inc (by simp)

theorem polAt_verified (rest : List InFrm) (h c i n : Nat) : polAt (verified s f rest h c) i n = polAt s i n := by
  have hdp : (verified s f rest h c).dp = (setInQ s f.q rest).dp := (pnRaise_frame h).2 .datapath (by decide)
  simp [polAt, hdp, setInQ]

/-- R189: a secured frame whose tag is right teaches, from a state that its arrival changed in its own counts alone, and leaves. -/
theorem verifyTail_teaches {rest : List InFrm} {h : Nat} {pt : List Byte} (hq : inQ s f.q = f :: rest) (hk : f.checked = true)
    (hs : f.sc = some sc) (hh : f.handle = some h) (hok : f.fcsOk = true) (hov : f.overl = false) (hsf : f.sf = false)
    (hm : ptpMode s f.q = 0) (hu : unprotect f = (pt, true)) (hp : (polAt s (f.q / 8) f.flow).cir = 0)
    (ht : exec (.verifyTail f.q) s = .next t) :
    ∃ u, Frame [K.inVerified f.q] [.clock, .assoc, .datapath] s u ∧
      EvFrame (deliveredKeys f.q) [.assoc, .datapath, .out] (taught f sc u) t := by
  let v := verified s f rest h (inFirst f + beatsCc (portRate s f.q) (f.bytes.length + 4))
  have hx : exec (.verifyTail f.q) s =
      done s (deliver v f pt false (taught f sc) (fun s => statAdd s h 1 (f.bytes.length + 4) 0 0)) := by
    have hm' (c : Nat) : ptpMode (passTo (setInQ s f.q rest) c) f.q = 0 := hm
    change execVerifyTail f.q s = _
    simp only [execVerifyTail, hq, hk, hs, hh, hok, hov, inPlain, hu, ptpIn_off (hm' _), Option.isSome_some]
    rfl
  obtain ⟨u, hvu, htu⟩ := deliver_frame_teach (s := v) (b := pt) (teach := taught f sc) hsf
    (by rw [polAt_verified]; exact hp) (fun w => statAdd_frame (s := w) h 1 (f.bytes.length + 4) 0 0)
  rw [hx] at ht
  cases ht
  exact ⟨u, (verified_frame ..).trans (hvu.mono (by simp) (by decide)), htu.settled⟩

/-- Where the source stands in the table at the frame's SC and port, LEARN_USED is then what the refreshed table counts. -/
theorem rd_learnUsed_of_refresh (hu : Frame [K.inVerified f.q] [.clock, .assoc, .datapath] s u)
    (ht : EvFrame (deliveredKeys f.q) [.assoc, .datapath, .out] (taught f sc u) t) (hlt : f.q < 32) (hs : y.sc = sc) (hp : y.port = f.q)
    (he : rd s (K.learnEn f.q) = 1) (hn : learnFindAt s (f.q / 8) f.learn = some n) (hy : learnAt s (f.q / 8) n = some y) :
    rd t (K.learnUsed (f.q / 8)) = (tset none s.tables.learn (f.q / 8 * 131072 + n) (some { y with active := true })).countP
      (fun e => e.1 / 131072 == f.q / 8) := by
  have htab : u.tables = s.tables := hu.2 .tables (by decide)
  have heu : rd u (K.learnEn f.q) = 1 := by
    rw [hu.1 _ (by simp [K.learnEn, K.inVerified]; omega), he]
  have htaught : taught f sc u = setLearn u (f.q / 8) n (some { y with active := true }) := by
    rw [taught, if_pos heu]
    exact learnOffer_refresh ((learnFindAt_congr htab).trans hn) ((learnAt_congr htab).trans hy) hs hp
  have hkeep : rd t (K.learnUsed (f.q / 8)) = rd (taught f sc u) (K.learnUsed (f.q / 8)) := by
    have hlow : ¬ 0xE000 ≤ K.learnUsed (f.q / 8) / 256 := by simp only [K.learnUsed]; omega
    refine ht.1 _ ?_ ?_
    · simp [eventKey, hlow]
    · simp [deliveredKeys, K.learnUsed, K.inHostFrames, K.inHostOctets, K.latInLast, K.latInMin, K.latInMax]; omega
  rw [hkeep, htaught, rd_setLearn_learnUsed, htab]

end

/-- A good frame of port 0 on SC 5, its tag made under the key of zeros. -/
def goodFrm : InFrm :=
  let key := List.replicate 16 0
  let salt := List.replicate 12 0
  let aad := [2, 0, 0, 0, 0, 1, 2, 0, 0, 0, 0, 2, 0x88, 0xE5, 0x2C, 0, 0, 0, 0, 9, 0, 0, 0, 0, 0, 0, 0, 5]
  let ct := List.replicate 48 0
  { q := 0, bytes := aad ++ ct ++ gcmTag key (frameIv false 0 0 9 salt) aad ct, fcsOk := true, overl := false, flow := 0, sc := some 5,
    ent := sc0, handle := some 7, acc := true, hit := true, held := false, det := false, sf := false, pnLo := 9, pn := 9, secAt := 28,
    tagAt := 12, tags := 0, tci := 0x2C, key := key, salt := salt, h := hashKey key, ssci := 0, epoch := 0, checked := true,
    learn := 2 * 2 ^ 40 + 2, clk := 0, ing := [], wait := 0, dom := [] }

/-- The entry of its source, and the slot of the key's bucket it stands in. -/
def goodEnt : LearnEnt := ⟨goodFrm.learn, 5, 0, false, false, 0⟩
def goodSlot : Nat := 8 * (Config.learnBucket 0 goodFrm.learn).toNat

/-- Port 0 learns, its table holds that entry, and LEARN_USED still reads 0. -/
def uncounted : State :=
  { State.reset with
    regs := [(K.learnEn 0, 1)]
    tables := { State.reset.tables with learn := [(goodSlot, some goodEnt)] }
    dp := { State.reset.dp with inq := [(0, [goodFrm])] } }

theorem goodFrm_verifies : unprotect goodFrm = ((unprotect goodFrm).1, true) := by decide +kernel

theorem learnAt_uncounted : learnAt uncounted 0 goodSlot = some goodEnt := by simp [learnAt, uncounted, tget]

theorem learnFindAt_uncounted : learnFindAt uncounted 0 goodFrm.learn = some goodSlot := by
  have hb : learnBucketOf goodFrm.learn = goodSlot :: (List.range' 1 7).map (goodSlot + ·) := rfl
  simp [learnFindAt, hb, learnAt_uncounted, goodEnt]

/-- One entry stands in table 0 after its refresh. -/
theorem countP_refreshed : (tset none uncounted.tables.learn (0 * 131072 + goodSlot) (some { goodEnt with active := true })).countP
    (fun e => e.1 / 131072 == 0) = 1 := by
  have hlt : goodSlot / 131072 = 0 := by
    have := (Config.learnBucket 0 goodFrm.learn).isLt
    unfold goodSlot
    omega
  simp [uncounted, tset, tdel, tins, hlt]

/-- Refutes O30 in its last clause: a verified frame whose source stands in the learning table refreshes its entry (R131), and the
model then counts LEARN_USED anew from the table, a register that the clause's frame does not name. It changes where it disagreed
with the table before, which the clause does not exclude. -/
theorem not_inboundVerdicts : ¬ Obligations.InboundVerdicts := by
  intro hall
  obtain ⟨-, -, -, -, -, -, -, hgood⟩ := hall
  obtain ⟨t, ht, -, -, -, -, -, hframe⟩ := hgood 0 goodFrm [] 5 7 _ uncounted (by decide) rfl (by decide +kernel) rfl rfl rfl rfl rfl
    (by decide +kernel) goodFrm_verifies (by decide +kernel) (by decide +kernel)
  obtain ⟨u, hu, htu⟩ := verifyTail_teaches (f := goodFrm) (rest := []) rfl rfl rfl rfl rfl rfl rfl (by decide +kernel)
    goodFrm_verifies (by decide +kernel) ht
  have hafter : rd t (K.learnUsed 0) = 1 :=
    (rd_learnUsed_of_refresh (y := goodEnt) hu htu (by decide) rfl rfl (by decide +kernel) learnFindAt_uncounted
      learnAt_uncounted).trans countP_refreshed
  have hbefore : rd t (K.learnUsed 0) = rd uncounted (K.learnUsed 0) := hframe.1 _ (by decide) (by decide)
  have hzero : rd uncounted (K.learnUsed 0) = 0 := by decide +kernel
  omega

end Sys2Proof.Machine

/-! Steps that run over numbers or a list: a relation that composes and each step keeps holds from end to end. -/

namespace Sys2Proof

section
variable {α σ : Type} {R : σ → σ → Prop}

theorem forNat_rel (hr : ∀ x, R x x) (ht : ∀ {x y z}, R x y → R y z → R x z) {f : Nat → σ → σ} (n : Nat)
    (hf : ∀ i, i < n → ∀ x, R x (f i x)) (x : σ) : R x (forNat n f x) := by
  induction n with
  | zero => exact hr x
  | succ n ih => exact ht (ih fun i hi => hf i (by omega)) (hf n (by omega) _)

theorem forList_rel (hr : ∀ x, R x x) (ht : ∀ {x y z}, R x y → R y z → R x z) {f : α → σ → σ} (l : List α)
    (hf : ∀ a ∈ l, ∀ x, R x (f a x)) (x : σ) : R x (forList l f x) := by
  induction l generalizing x with
  | nil => exact hr x
  | cons a l ih => exact ht (hf a (List.mem_cons_self ..) x) (ih (fun b hb => hf b (List.mem_cons_of_mem _ hb)) _)

end

end Sys2Proof

/-! The tick grid (R30–R33, R43): what a boundary does to its phase, its clock and its number. -/

namespace Sys2Proof.Machine

section
variable {i : Instr} {s t u : State}

/-- The grid is as it was: its phase, the clocks of the tick, its number and whether it is VALID; no pending event is
lost, and no alignment begins on a VALID grid (R33). -/
structure GridSame (s t : State) : Prop where
  phase : t.phase = s.phase
  clock : t.tick.clock = s.tick.clock
  start : t.tick.start = s.tick.start
  elapsed : t.tick.elapsed = s.tick.elapsed
  number : rd t K.tickNumber = rd s K.tickNumber
  valid : tickValid t = tickValid s
  aligned : tickValid s = true → s.tick.aligning = false → t.tick.aligning = false
  events : ∀ n, Pending s n → Pending t n

theorem GridSame.refl : GridSame s s := ⟨rfl, rfl, rfl, rfl, rfl, rfl, fun _ h => h, fun _ h => h⟩

theorem GridSame.trans (h : GridSame s t) (h' : GridSame t u) : GridSame s u where
  phase := h'.phase.trans h.phase
  clock := h'.clock.trans h.clock
  start := h'.start.trans h.start
  elapsed := h'.elapsed.trans h.elapsed
  number := h'.number.trans h.number
  valid := h'.valid.trans h.valid
  aligned := fun hv ha => h'.aligned (h.valid.trans hv) (h.aligned hv ha)
  events := fun n hn => h'.events n (h.events n hn)

theorem GridSame.of_raise (h : RaiseFrame s t) : GridSame s t where
  phase := h.phase
  clock := by rw [h.tick]
  start := by rw [h.tick]
  elapsed := by rw [h.tick]
  number := h.regs _ (by decide)
  valid := by simp only [tickValid, rdBit, h.regs K.tickStatus (by decide)]
  aligned := fun _ ha => by rw [h.tick]; exact ha
  events := fun n hn => h.bits _ _ hn


theorem GridSame.raise {src a b : Nat} (hs : src < 384) (h : GridSame s u) : GridSame s (raise u src a b) :=
  h.trans (.of_raise (raise_frame u src a b hs))

/-- A pending event is lost by no write below the events' chapter. -/
theorem Pending.wr {n k v : Nat} (hk : k / 256 < 0xE000) (h : Pending s n) : Pending (wr s k v) n := by
  have : k ≠ K.evtPending (n / 32) := by simp only [K.evtPending]; omega
  simpa [Pending, rdBit, rd_wr_ne _ _ this] using h

/-- A write of a register that is neither TICK_NUMBER nor TICK_STATUS nor of the events' chapter. -/
theorem GridSame.wr {k v : Nat} (hn : k ≠ K.tickNumber) (hs : k ≠ K.tickStatus) (hk : k / 256 < 0xE000) (h : GridSame s u) :
    GridSame s (wr u k v) :=
  h.trans ⟨rfl, rfl, rfl, rfl, rd_wr_ne u v hn, by simp only [tickValid, rdBit, rd_wr_ne u v hs], fun _ ha => ha,
    fun _ hp => hp.wr hk⟩

/-- A write of a bit of TICK_STATUS other than VALID. -/
theorem GridSame.statusBit {j : Nat} {b : Bool} (hj : j ≠ 0) (h : GridSame s u) : GridSame s (wrBit u K.tickStatus j b) :=
  h.trans ⟨rfl, rfl, rfl, rfl, rd_wrBit_ne u j b (by decide),
    by simp [tickValid, rdBit, wrBit, bit_setBit_ne _ b hj], fun _ ha => ha, fun _ hp => hp.wr (by decide)⟩

/-- A change of other fields than the phase, the tick and the registers. -/
theorem GridSame.of_fields (hp : t.phase = s.phase) (ht : t.tick = s.tick) (hr : t.regs = s.regs) : GridSame s t where
  phase := hp
  clock := by rw [ht]
  start := by rw [ht]
  elapsed := by rw [ht]
  number := rd_of_regs hr _
  valid := by simp only [tickValid, rdBit, rd_of_regs hr]
  aligned := fun _ ha => by rw [ht]; exact ha
  events := fun n hn => by simpa [Pending, rdBit, rd_of_regs hr] using hn

theorem GridSame.set_dp {x : Dp} (h : GridSame s u) : GridSame s { u with dp := x } := h.trans (.of_fields rfl rfl rfl)
theorem GridSame.set_stats {x : Stats} (h : GridSame s u) : GridSame s { u with stats := x } := h.trans (.of_fields rfl rfl rfl)
theorem GridSame.set_perf {x : Perf} (h : GridSame s u) : GridSame s { u with perf := x } := h.trans (.of_fields rfl rfl rfl)

/-! What the boundary does beside moving the tick (R35). -/

theorem foldOne_gridSame (p : Perf) (n : Nat) (hn : n < 64) :
    GridSame s (foldOne s p n).1 ∧ ∀ e ∈ (foldOne s p n).2, e.1 < 384 := by
  have hacc {v : Nat} : GridSame s (wr s (K.perfAcc n) v) :=
    GridSame.refl.wr (by simp [K.perfAcc, K.tickNumber]; omega) (by simp [K.perfAcc, K.tickStatus]; omega) (by simp only [K.perfAcc]; omega)
  have hwrap {u : State} {b : Bool} (h : GridSame s u) : GridSame s (wrBit u K.perfWrap n b) := h.wr (by decide) (by decide) (by decide)
  have hsat {u : State} {b : Bool} (h : GridSame s u) : GridSame s (wrBit u K.perfSat n b) := h.wr (by decide) (by decide) (by decide)
  unfold foldOne
  split
  · exact ⟨hsat (hwrap hacc), by simp⟩
  · dsimp only
    split <;> split <;> simp [hacc, hwrap, hsat, Ev.perfSaturated, Ev.perfWrap]

theorem GridSame.perfAdd {a b : Nat} (h : GridSame s u) : GridSame s (perfAdd u a b) := h.trans (.of_raise (perfAdd_frame u a b))

/-- One counter's fold, with what it will raise, keeps the grid and names event sources alone. -/
theorem perfFold_gridSame (len : Nat) : GridSame s (perfFold s len) := by
  have hfold := forNat_rel (R := fun x y : State × List (Nat × Nat) =>
      GridSame x.1 y.1 ∧ ((∀ e ∈ x.2, e.1 < 384) → ∀ e ∈ y.2, e.1 < 384))
    (f := fun n x => let (s, l) := foldOne x.1 (perfHws s len) n; (s, x.2 ++ l)) (fun _ => ⟨.refl, id⟩)
    (fun h h' => ⟨h.1.trans h'.1, fun hx => h'.2 (h.2 hx)⟩) 64
    (fun n hn x => ⟨(foldOne_gridSame _ n hn).1, fun hx e he => (List.mem_append.1 he).elim (hx e) ((foldOne_gridSame _ n hn).2 e)⟩)
    (s, [])
  unfold perfFold
  dsimp only at hfold ⊢
  generalize forNat 64 _ (s, []) = y at hfold ⊢
  obtain ⟨v, l⟩ := y
  obtain ⟨hg, hl⟩ := hfold
  exact (hg.set_perf.set_stats.perfAdd (a := 2) (b := 1)).trans
    (forList_rel (R := GridSame) (fun _ => .refl) .trans _ (fun e he x => GridSame.refl.raise (hl (by simp) e he)) _)

theorem dumpDue_gridSame : GridSame s (dumpDue s) := by
  have hreq {x : Stats} : GridSame s { s with stats := x } := .set_stats .refl
  unfold dumpDue
  dsimp only
  split
  · exact hreq
  · split
    · exact (hreq.wr (by decide) (by decide) (by decide)).raise (by decide)
    · exact .of_fields rfl rfl rfl

theorem protUpdate_gridSame {q : Nat} (hq : q < 32) : GridSame s (protUpdate s q) := by
  have hw {u : State} {k v : Nat} (hk : k / 256 = 0x8300 + q) (h : GridSame s u) : GridSame s (wr u k v) :=
    h.wr (by simp only [K.tickNumber]; omega) (by simp only [K.tickStatus]; omega) (by omega)
  have hprot {a b c : Nat} : GridSame s (wr (wr (wr s (K.protOut q) a) (K.protIn q) b) (K.protAsym q) c) :=
    hw (by simp only [K.protAsym]; omega) (hw (by simp only [K.protIn]; omega) (hw (by simp only [K.protOut]; omega) .refl))
  unfold protUpdate
  dsimp only
  split
  · exact .refl
  · split
    · exact hprot.set_dp.raise (by decide)
    · exact hprot

/-- All of it leaves the grid where the boundary put it. -/
theorem boundaryEff_gridSame : GridSame (boundary s) (boundaryEff s) := by
  have hsync {u : State} (h : GridSame (boundary s) u) :
      GridSame (boundary s) (if rdField u K.syncOutCtrl 1 0 = 2 then emit u .syncOut else u) := by
    split
    · exact h.trans (.of_fields rfl rfl rfl)
    · exact h
  have hprot {u : State} (h : GridSame (boundary s) u) := h.trans
    (forNat_rel (R := GridSame) (f := fun q s => protUpdate s q) (fun _ => .refl) .trans 32 (fun q hq x => protUpdate_gridSame hq) u)
  exact hsync ((hprot ((perfFold_gridSame _).trans dumpDue_gridSame)).set_dp)

/-! The boundary itself (R30–R33, R43). -/

theorem clampInt_bounds {lo hi i : Int} (h : lo ≤ hi) : lo ≤ clampInt lo hi i ∧ clampInt lo hi i ≤ hi := by
  unfold clampInt
  split
  · omega
  · split <;> omega

/-- R43: a correction is clipped at the phase limit. -/
theorem correction_within (idx : Nat) (h : Inv s) : -5000 ≤ s.phase + (correction s idx).1 ∧ s.phase + (correction s idx).1 ≤ 5000 := by
  obtain ⟨hlo, hhi⟩ := h
  have hzero : -5000 ≤ s.phase + 0 ∧ s.phase + 0 ≤ 5000 := by omega
  have hclip (c : Int) : -5000 ≤ s.phase + clampInt (-phaseLimit - s.phase) (phaseLimit - s.phase) c ∧
      s.phase + clampInt (-phaseLimit - s.phase) (phaseLimit - s.phase) c ≤ 5000 := by
    have := clampInt_bounds (i := c) (show -phaseLimit - s.phase ≤ phaseLimit - s.phase by simp only [phaseLimit]; omega)
    simp only [phaseLimit] at this ⊢
    omega
  unfold correction
  dsimp only
  split
  · split
    · exact hclip _
    · exact hzero
  · split
    · rw [apply_ite Prod.fst, ite_self]
      exact hclip _
    · exact hzero

theorem GridSame.set_tick {x : TickSt} (hc : x.clock = u.tick.clock) (hs : x.start = u.tick.start) (he : x.elapsed = u.tick.elapsed)
    (ha : x.aligning = u.tick.aligning) (h : GridSame s u) : GridSame s { u with tick := x } :=
  h.trans ⟨rfl, hc, hs, he, rfl, rfl, fun _ h' => ha.trans h', fun _ hp => hp⟩

/-- What a correction writes besides moving the grid is its own bookkeeping (R43–R45). -/
theorem correction_gridSame (idx : Nat) : GridSame s (correction s idx).2 := by
  have hstep {u : State} (h : GridSame s u) : GridSame s (wrBit (inc u K.syncSteps 1) K.tickStatus 4 false) :=
    GridSame.statusBit (by decide) (h.wr (by decide) (by decide) (by decide))
  have hlimit {u : State} {c c' : Int} (h : GridSame s u) : GridSame s (if c' ≠ c then raise u Ev.syncPhaseLimit 0 0 else u) := by
    split
    · exact h.raise (by decide)
    · exact h
  unfold correction
  dsimp only
  split
  · split
    · split
      · exact .statusBit (by decide) (.set_tick rfl rfl rfl rfl (hlimit (hstep (.set_tick rfl rfl rfl rfl .refl))))
      · exact .set_tick rfl rfl rfl rfl (hlimit (hstep (.set_tick rfl rfl rfl rfl .refl)))
      · exact hlimit (hstep (.set_tick rfl rfl rfl rfl .refl))
    · exact .refl
  · split
    · split
      · exact .set_tick rfl rfl rfl rfl .refl
      · exact GridSame.raise (by decide) (.set_tick rfl rfl rfl rfl .refl)
    · exact .refl

/-- A boundary takes the correction that is due, or none (R42, R43). -/
theorem boundaryMove_cases : boundaryMove s = correction s (s.tick.elapsed + 1) ∨ boundaryMove s = (0, s) := by
  unfold boundaryMove
  dsimp only
  generalize (tickValid s && (_ || !s.tick.realigning)) = due
  cases due
  · exact .inr rfl
  · exact .inl rfl

theorem boundaryMove_within (h : Inv s) : -5000 ≤ s.phase + (boundaryMove s).1 ∧ s.phase + (boundaryMove s).1 ≤ 5000 := by
  obtain hm | hm := boundaryMove_cases (s := s)
  · rw [hm]; exact correction_within _ h
  · rw [hm]; simpa [Inv] using h

theorem boundaryMove_gridSame : GridSame s (boundaryMove s).2 := by
  obtain hm | hm := boundaryMove_cases (s := s)
  · rw [hm]; exact correction_gridSame _
  · rw [hm]; exact .refl

/-- Without a correction pending a boundary takes none (R43). -/
theorem boundaryMove_idle (hst : s.tick.step = none) (hsl : s.tick.slew = 0) : boundaryMove s = (0, s) := by
  simp [boundaryMove, correction, hst, hsl]

/-- A boundary lies ahead of the tick's start and of the core clock (R30). -/
theorem start_lt_tickEnd : s.tick.start < tickEnd s := Nat.lt_of_succ_le (Nat.le_max_left ..)
theorem clock_le_tickEnd : s.tick.clock ≤ tickEnd s := (Nat.le_max_left ..).trans (Nat.le_max_right ..)

/-- An alignment that begins leaves the grid until its end; on a VALID grid none begins (R33). -/
theorem alignBegin_gridSame : GridSame s (alignBegin s) := by
  unfold alignBegin
  split
  · next h =>
    have hv : tickValid s = false := by simp at h; exact h.1
    exact ⟨rfl, rfl, rfl, rfl, rfl, rfl, fun h' => by simp [hv] at h', fun _ hp => hp⟩
  · split
    · exact .statusBit (by decide) (.set_tick rfl rfl rfl rfl .refl)
    · exact .refl

/-- The tick that ends, with its number still to be given. -/
def boundaryMoved (s : State) : State :=
  let x := boundaryMove s
  let ends := s.tick.aligning || s.tick.realigning
  let u := wr x.2 K.tickLength ((tickEnd s - x.2.tick.start) % 2 ^ 32)
  let u := { u with
    phase := u.phase + x.1
    tick := { u.tick with
      clock := tickEnd s
      start := tickEnd s
      elapsed := u.tick.elapsed + 1
      target := ((x.2.tick.target : Int) + if ends then 0 else ccUnits x.1).toNat + tickUnits } }
  wr u K.tickTime (toTime96 (tbNow u 0))

theorem boundaryMoved_phase : (boundaryMoved s).phase = s.phase + (boundaryMove s).1 :=
  congrArg (· + (boundaryMove s).1) boundaryMove_gridSame.phase
theorem boundaryMoved_elapsed : (boundaryMoved s).tick.elapsed = s.tick.elapsed + 1 :=
  congrArg (· + 1) boundaryMove_gridSame.elapsed

/-- The tick that begins behind an alignment or a realignment tick: its number as R30 gives it, VALID (R33, R49). -/
def realigned (s : State) (target : Nat) : State :=
  let u := wr s K.tickNumber (gridNo s target)
  let u := { u with tick := { u.tick with aligning := false, realigning := false } }
  wrBit (wrBit u K.tickStatus 0 true) K.tickStatus 3 (offGrid u target)

/-- The number that a boundary gives the tick that begins, and what that tick then begins. -/
theorem boundary_eq : (∃ target, (s.tick.aligning || s.tick.realigning) = true ∧
      boundary s = alignBegin (raise (realigned (boundaryMoved s) target) Ev.tickRealigned (tickNo s % 2 ^ 32)
        (gridNo (boundaryMoved s) target % 2 ^ 32))) ∨
    (s.tick.aligning || s.tick.realigning) = false ∧
      boundary s = alignBegin (wr (boundaryMoved s) K.tickNumber ((tickNo s + 1) % 2 ^ 64)) := by
  have h : ∃ target, boundary s =
      boundaryNumber (boundaryMoved s) (tickNo s) target (s.tick.aligning || s.tick.realigning) := ⟨_, rfl⟩
  obtain ⟨target, h⟩ := h
  cases he : s.tick.aligning || s.tick.realigning
  · exact .inr ⟨rfl, by rw [h, he]; rfl⟩
  · exact .inl ⟨target, rfl, by rw [h, he]; rfl⟩

/-- The boundary as the rest of the command finds it: the phase moved by the correction, the clocks at its end. -/
theorem boundary_grid : (boundary s).phase = s.phase + (boundaryMove s).1 ∧ (boundary s).tick.start = tickEnd s ∧
    (boundary s).tick.clock = tickEnd s ∧ (boundary s).tick.elapsed = s.tick.elapsed + 1 := by
  rw [← boundaryMoved_phase, ← boundaryMoved_elapsed]
  obtain ⟨target, -, h⟩ | ⟨-, h⟩ := boundary_eq (s := s)
  · have hg := (GridSame.refl.raise (a := tickNo s % 2 ^ 32) (b := gridNo (boundaryMoved s) target % 2 ^ 32)
      (show Ev.tickRealigned < 384 by decide)).trans
      (alignBegin_gridSame (s := raise (realigned (boundaryMoved s) target) _ _ _))
    rw [h]
    exact ⟨hg.phase, hg.start, hg.clock, hg.elapsed⟩
  · have hg := alignBegin_gridSame (s := wr (boundaryMoved s) K.tickNumber ((tickNo s + 1) % 2 ^ 64))
    rw [h]
    exact ⟨hg.phase, hg.start, hg.clock, hg.elapsed⟩

/-- R43: the correction keeps the phase within the limit, and nothing else of a boundary moves it. -/
theorem boundaryEff_inv (h : Inv s) : Inv (boundaryEff s) := by
  obtain ⟨hp, -⟩ := boundary_grid (s := s)
  rw [Inv, boundaryEff_gridSame.phase, hp]
  exact boundaryMove_within h

/-- A command other than the boundary settles the phase. -/
theorem exec_endsIn (hi : i ≠ .tickBoundary) : ∃ u, EndsIn i s u := by
  cases i with
  | tickBoundary => exact absurd rfl hi
  | registerWrite | kdaRequest | kdaWrite | resetNAssert | vcorePowerOn | controllerWatchdog | resetCmdDevice
    | resetCmdController | resetCmdDatapath | clockLost | lcWindowDone => exact ⟨_, .inr rfl⟩
  | _ => exact ⟨_, .inl rfl⟩

/-- Settled, the phase is the one before, or 0 after a reset of the device (R30, R451). -/
theorem EndsIn.inv (h : EndsIn i s u) (hs : Inv s) (ht : exec i s = .next t) : Inv t := by
  obtain h | h := h <;> rw [h] at ht <;> cases ht
  · exact hs
  · unfold settledReset
    split
    · simp [Inv]
    · exact hs

/-- Settles O59: a boundary moves the phase by a clamped correction, and every other command settles it. -/
theorem stepKeepsPhase : Obligations.StepKeepsPhase := by
  intro s t hs ht
  unfold step at ht
  split at ht
  · cases ht
    exact hs
  · next c rest _ =>
    have hrest : Inv { s with pending := rest } := hs
    by_cases hc : c = .tickBoundary
    · subst hc
      have hb : exec .tickBoundary { s with pending := rest } = doneTick { s with pending := rest }
        (if s.boot.engine then boundaryEff { s with pending := rest } else { s with pending := rest }) := rfl
      rw [hb] at ht
      cases ht
      rw [Inv, settledTick_phase]
      split
      · exact boundaryEff_inv hrest
      · exact hrest
    · obtain ⟨u, hu⟩ := exec_endsIn (s := { s with pending := rest }) hc
      exact hu.inv hrest ht

/-! A boundary of a running sequencer (R31, R33, R35, R49). -/

theorem runs_tickBoundary {P : State → Prop} (he : s.boot.engine = true) (hp : P (settledTick s (boundaryEff s))) :
    Runs .tickBoundary s P := ⟨_, by change doneTick s (if s.boot.engine then boundaryEff s else s) = _; rw [he]; rfl, hp⟩

/-- R32, R35: the new tick starts behind the old one's start, and core clocks only go forward. -/
theorem boundaryEff_clocks : (boundaryEff s).tick.elapsed = s.tick.elapsed + 1 ∧ s.tick.start < (boundaryEff s).tick.start ∧
    s.tick.clock ≤ (boundaryEff s).tick.clock := by
  obtain ⟨-, hstart, hclock, helapsed⟩ := boundary_grid (s := s)
  rw [boundaryEff_gridSame.elapsed, boundaryEff_gridSame.start, boundaryEff_gridSame.clock, hstart, hclock]
  exact ⟨helapsed, start_lt_tickEnd, clock_le_tickEnd⟩

/-- R31: outside an alignment the number counts one up. -/
theorem boundaryEff_number (h : (s.tick.aligning || s.tick.realigning) = false) :
    rd (boundaryEff s) K.tickNumber = (rd s K.tickNumber + 1) % 2 ^ 64 := by
  obtain ⟨_, hends, -⟩ | ⟨-, hb⟩ := boundary_eq (s := s)
  · rw [h] at hends; cases hends
  · rw [boundaryEff_gridSame.number, hb, alignBegin_gridSame.number, rd_wr_same]
    rfl

/-- R33, R49: behind an alignment or a realignment tick the grid is VALID, and TICK_REALIGNED is raised. -/
theorem boundaryEff_realigned (h : (s.tick.aligning || s.tick.realigning) = true) :
    rdBit (boundaryEff s) K.tickStatus 0 = true ∧ (boundaryEff s).tick.aligning = false ∧ Pending (boundaryEff s) Ev.tickRealigned := by
  obtain ⟨target, -, hb⟩ | ⟨hends, -⟩ := boundary_eq (s := s)
  · let u := realigned (boundaryMoved s) target
    have hv : tickValid u = true := by
      simp only [u, realigned, tickValid, rdBit, wrBit, rd_wr_same, bit_setBit_ne _ _ (show 3 ≠ 0 by decide), bit_setBit_same]
    have hraise : GridSame u (raise u Ev.tickRealigned (tickNo s % 2 ^ 32) (gridNo (boundaryMoved s) target % 2 ^ 32)) :=
      GridSame.refl.raise (by decide)
    have hpend := raise_sets_pending u Ev.tickRealigned (tickNo s % 2 ^ 32) (gridNo (boundaryMoved s) target % 2 ^ 32) (by decide)
    have hafter := alignBegin_gridSame.trans (hb ▸ boundaryEff_gridSame)
    exact ⟨(hafter.valid.trans hraise.valid).trans hv, hafter.aligned (hraise.valid.trans hv) (hraise.aligned hv rfl),
      hafter.events _ hpend⟩
  · rw [h] at hends; cases hends

/-- Settles O11, from what a boundary does to the grid. -/
theorem tickBoundaryCounts : Obligations.TickBoundaryCounts := by
  refine ⟨?_, ?_, ?_⟩
  · intro s he ha hr
    exact runs_tickBoundary he ⟨boundaryEff_number (by rw [ha, hr]; rfl), boundaryEff_clocks⟩
  · intro s he _ _ hstep hslew
    refine runs_tickBoundary he ?_
    obtain ⟨hp, -⟩ := boundary_grid (s := s)
    rw [settledTick_phase, boundaryEff_gridSame.phase, hp, boundaryMove_idle hstep hslew, Int.add_zero]
  · intro s he h
    obtain ⟨hvalid, haligning, hevent⟩ := boundaryEff_realigned (s := s) (by simpa using h)
    obtain ⟨helapsed, hclocks⟩ := boundaryEff_clocks (s := s)
    exact runs_tickBoundary he ⟨hvalid, haligning, helapsed, hevent, hclocks⟩
end
end Sys2Proof.Machine

/-! The commit point (R35, R36): where nothing but an arm of the data path is pending, each of the other parts leaves the
state as it is. -/

namespace Sys2Proof.Machine

section
variable {s t u : State}

/-- No arm set is due: the evaluation starts anew and nothing switches (R155). -/
theorem commitSets_idle (h : ∀ i, i < 15 → rd s (K.armTick (i + 1)) = none64) :
    commitSets s = { s with assoc := { s.assoc with skips := [], evald := [], evalAt := s.tick.clock } } := by
  have hdue : ((List.range 15).map (· + 1)).filter
      (fun i => rd s (K.armTick i) != none64 && dueNow s (rd s (K.armTick i))) = [] := by
    simp only [List.filter_eq_nil_iff, List.mem_map, List.mem_range]
    rintro _ ⟨i, hi, rfl⟩
    simp [h i hi]
  simp only [commitSets, hdue, List.foldl_nil]

theorem l1Commits_idle (h : s.lines.l1 = []) : l1Commits s = s := by rw [l1Commits, h]; rfl

theorem tsiCommit_idle {k : Nat} (h : rdBit s (K.tsiStatus k) 0 = false) : tsiCommit s k = s := by simp [tsiCommit, h]

theorem gateCommit_idle {q : Nat} (h : (gateAt s q).armed = none) : gateCommit s q = s := by simp [gateCommit, h]

theorem migCommit_idle (ht : rd s K.migTick = none64) (hn : s.fab.target = none) : migCommit s = s := by simp [migCommit, ht, hn]

/-- A step that does nothing at `s`, for none of its numbers, leaves `s`. -/
theorem forNat_idle {f : Nat → State → State} (n : Nat) (h : ∀ i, i < n → f i s = s) : forNat n f s = s := by
  induction n with
  | zero => rfl
  | succ n ih => rw [forNat, ih fun i hi => h i (by omega), h n (by omega)]

theorem switchCommit_idle (h : ∀ g, g < 4 → rd s (K.roleSwitchTick g) = none64) : switchCommit s = s :=
  forNat_idle 4 fun g hg => by simp [h g hg]

/-- What a commit point does where an arm of the data path alone is pending (R446). -/
theorem armCommit_arms (h : rdBit s K.armStatus 1 = true) :
    rdBit (armCommit s) K.armStatus 0 = true ∧ rdField (armCommit s) K.armStatus 2 1 = 0 ∧ (armCommit s).dp.squelch = false ∧
      Frame [K.armStatus] [.datapath, .boot, .assoc] s (armCommit s) := by
  have he : armCommit s = { wrBit (wrField s K.armStatus 2 1 0) K.armStatus 0 true with
      dp := { s.dp with squelch := false }, boot := { s.boot with drain := false }, assoc := { s.assoc with pred := [] } } := by
    simp only [armCommit, h, if_true]
    rfl
  rw [he]
  refine ⟨rdBit_wrBit_same .., ?_, rfl, ?_⟩
  · change rdField (wrBit _ _ _ _) _ _ _ = 0
    rw [rdField, wrBit, rd_wr_same, bits_setBit_ne _ _ _ _ _ (by decide), wrField, rd_wr_same, bits_setBits_same _ _ _ _ (by decide)]
    rfl
  · have hregs : Frame [K.armStatus] [.datapath, .boot, .assoc] s (wrBit (wrField s K.armStatus 2 1 0) K.armStatus 0 true) :=
      (Frame.refl.wrField (by decide)).wrBit (by decide)
    exact ((hregs.set_dp (x := { s.dp with squelch := false }) (by decide)).set_boot
      (x := { s.boot with drain := false }) (by decide)).set_assoc (x := { s.assoc with pred := [] }) (by decide)

/-- Settles O12: the order is the model's own; and with nothing else due, only the arm acts. -/
theorem commitPointOrder : Obligations.CommitPointOrder := by
  have hrun (s : State) (he : s.boot.engine = true) : exec .commitPoint s = done s (commitEff s) := by
    change done s (if s.boot.engine then commitEff s else s) = _
    rw [he]
    rfl
  refine ⟨fun s he => hrun s he, ?_⟩
  intro s he hl1 harm htsi hgate hmig htarget hrole hpend
  let u : State := { toCc s 16 with assoc := { s.assoc with skips := [], evald := [], evalAt := (toCc s 16).tick.clock } }
  have hu : commitEff s = armCommit u := by
    have hgates : forNat 32 (fun q s => gateCommit s q) u = u := forNat_idle 32 fun q hq => gateCommit_idle (hgate q hq)
    have htsis : forNat 4 (fun k s => tsiCommit s k) u = u := forNat_idle 4 fun k hk => tsiCommit_idle (htsi k hk)
    have hsw : switchCommit (armCommit u) = armCommit u := switchCommit_idle fun g hg => by
      obtain ⟨-, -, -, hf⟩ := armCommit_arms (s := u) hpend
      rw [hf.1 _ (by simp [K.roleSwitchTick, K.armStatus]; omega)]
      exact hrole g hg
    rw [commitEff, commitSets_idle (s := toCc s 16) harm]
    change switchCommit (armCommit (migCommit (forNat 32 _ (forNat 4 _ (l1Commits u))))) = _
    rw [l1Commits_idle (s := u) hl1, htsis, hgates, migCommit_idle (s := u) hmig htarget, hsw]
  obtain ⟨h0, h21, hsq, hf⟩ := armCommit_arms (s := u) hpend
  have hsu : Frame [K.armStatus, K.commitSkipped] [.clock, .datapath, .boot, .assoc] s u :=
    (Frame.refl.toCc (by decide)).set_assoc (by decide)
  refine runs_done (hrun s he) ?_
  rw [hu]
  exact ⟨h0, h21, hsq, (hsu.trans (hf.mono (by simp) (by decide))).settled⟩

end
end Sys2Proof.Machine

/-! How an access that is admitted ends: the state of its effect, answered. -/

namespace Sys2Proof.Machine

section
variable {ks : List Nat} {ps : List Part} {s u : State} {c : Instr} {r : Req} {k : Nat} {w : Bool} {eff : State → Res} {code : Code}
  {ws : List Word} {x : Tbl Chan}

/-- `u` as the answer leaves it: the session's time, the reply, and what every command settles. -/
def answered (s u : State) (x : Tbl Chan) (code : Code) (ws : List Word) : State := settled s { u with chans := x, reply := ⟨code, ws⟩ }

theorem touch_eq : touch u r = { u with chans := (touch u r).chans } := by
  unfold touch
  split
  · rfl
  · split <;> rfl

theorem runs_answered {P : State → Prop} (hx : exec c s = done s (access s r k w eff)) (hg : Admitted s r k w)
    (he : eff s = ⟨u, code, ws⟩) (hp : ∀ x, P (answered s u x code ws)) : Runs c s P := by
  refine runs_access hx hg ?_
  rw [he, touch_eq]
  exact hp _

@[simp] theorem rd_answered : rd (answered s u x code ws) k = rd u k := rfl
@[simp] theorem rdBit_answered {i : Nat} : rdBit (answered s u x code ws) k i = rdBit u k i := rfl
@[simp] theorem rdField_answered {i j : Nat} : rdField (answered s u x code ws) k i j = rdField u k i j := rfl

theorem Frame.answered (hp : Part.chans ∈ ps) (h : Frame ks ps s u) : Frame ks ps s (answered s u x code ws) :=
  ((h.set_chans (x := x) hp).replied (c := code) (l := ws)).settled

theorem EvFrame.answered (h : EvFrame ks ps s u) : EvFrame ks ps s (answered s u x code ws) :=
  ((h.set_chans (x := x)).replied (c := code) (l := ws)).settled

end
end Sys2Proof.Machine

/-! What commands count, and the slots of the background jobs (R39, R40, R53). -/

namespace Sys2Proof.Machine

section
variable {ks : List Nat} {ps : List Part} {s t u : State}

/-- A counter that read as before counts one step (R53). -/
theorem Counts.of_inc {k n : Nat} (h : rd u k = rd s k) : Counts s (inc u k n) k n := by rw [Counts, rd_inc_same, h]

theorem Counts.settled {z : State} {k n : Nat} (h : Counts s u k n) : Counts s (settled z u) k n := h
theorem Pending.settled {z : State} {n : Nat} (h : Pending u n) : Pending (settled z u) n := h
theorem Counts.of_rd {k n : Nat} (h : Counts s u k n) (ht : rd t k = rd u k) : Counts s t k n := ht.trans h

/-- A frame within one that may raise events, which the performance counters and the channels' subscriptions belong to. -/
theorem Frame.ev {ks' : List Nat} {ps' : List Part} (h : Frame ks' ps' s t) (hk : ks' ⊆ ks) (hp : ps' ⊆ eventParts ++ ps) :
    EvFrame ks ps s t :=
  ⟨fun k _ hk' => h.1 k fun hm => hk' (hk hm), fun p hp' => h.2 p fun hm => hp' (hp hm)⟩

theorem EvFrame.mono {ks' : List Nat} {ps' : List Part} (h : EvFrame ks' ps' s t) (hk : ks' ⊆ ks) (hp : ps' ⊆ ps) : EvFrame ks ps s t :=
  ⟨fun k he hk' => h.1 k he fun hm => hk' (hk hm),
    fun p hp' => h.2 p fun hm => hp' (List.mem_append.2 ((List.mem_append.1 hm).imp id fun hq => hp hq))⟩

/-- The performance counters alone (R369). -/
theorem Frame.perfAdd {a b : Nat} (hp : Part.perf ∈ ps) (h : Frame ks ps s u) : Frame ks ps s (perfAdd u a b) := by
  unfold Machine.perfAdd
  split
  · exact h.set_perf hp
  · exact h

theorem perfAdd_regs {a b : Nat} : (perfAdd s a b).regs = s.regs := by unfold perfAdd; split <;> rfl
theorem perfAdd_tick {a b : Nat} : (perfAdd s a b).tick = s.tick := (perfAdd_frame s a b).tick
theorem perfAdd_fired {a b : Nat} : (perfAdd s a b).fired = s.fired := by unfold perfAdd; split <;> rfl

/-- The first count since the counter was read raises its event. -/
theorem incFirst_pending_event {k src a b : Nat} (hs : src < 384) (hf : tget 0 s.fired k = 0) : Pending (incFirst s k src a b) src := by
  have hf' : tget 0 (inc s k 1).fired k = 0 := hf
  rw [incFirst, raiseFirst, if_pos hf']
  exact raise_sets_pending _ _ _ _ hs

/-- A job's run changes the clock, the performance counters and BG_HIGH_WATER. -/
theorem bgRun_frame {job off : Nat} {ends : Bool} : Frame [K.bgHighWater] [.clock, .perf] s (bgRun s job off ends) := by
  unfold bgRun
  dsimp only
  exact .ite (fun _ => .wr (by decide) (.perfAdd (by decide) (.set_tick (by decide) (.toCc (by decide) .refl))))
    (fun _ => .perfAdd (by decide) (.set_tick (by decide) (.toCc (by decide) .refl)))

theorem bgRun_fired {job off : Nat} {ends : Bool} : (bgRun s job off ends).fired = s.fired :=
  (bgRun_frame.2 .events (by decide)).2.2

/-- Its slot is used: the job's place in the tick, and the tick itself. -/
theorem bgRun_tick {job off : Nat} {ends : Bool} : (bgRun s job off ends).tick.elapsed = s.tick.elapsed ∧
    (bgRun s job off ends).tick.bg.at_ = s.tick.elapsed ∧ (bgRun s job off ends).tick.bg.job = job := by
  have hmax (x : State) (v : Nat) : (if rd x K.bgHighWater < v then wr x K.bgHighWater v else x).tick = x.tick := by split <;> rfl
  unfold bgRun
  dsimp only
  rw [hmax, perfAdd_tick]
  exact ⟨rfl, rfl, rfl⟩

/-- A slot is used once a tick (R39). -/
theorem bgSlot_used {job : Nat} (hj : job ≠ 0) (h : t.tick.bg.at_ = t.tick.elapsed) (hb : t.tick.bg.job = job) : bgSlot t job = none := by
  simp [bgSlot, h, hb, hj]

theorem bgStep_some {job : Nat} {eff : State → State} (h : bgSlot s job ≠ none) :
    ∃ off, bgStep s job eff = eff (bgRun s job off true) := by
  obtain ⟨off, ho⟩ := Option.ne_none_iff_exists'.mp h
  exact ⟨off, by simp [bgStep, ho]⟩

theorem bgSuspend_some {job : Nat} (h : bgSlot s job ≠ none) : ∃ off, bgSuspend s job =
    incFirst (perfAdd (bgRun s job off false) (804 + job) 1) (K.bgOverrun job) Ev.tickOverrun job 0 := by
  obtain ⟨off, ho⟩ := Option.ne_none_iff_exists'.mp h
  exact ⟨off, by simp [bgSuspend, ho]⟩

/-- R40: a job that does not finish is counted, raises TICK_OVERRUN on the first count, and has used its slot. -/
theorem bgSuspend_counts {j : Nat} (h1 : 1 ≤ j) (h5 : j ≤ 5) (hslot : bgSlot s j ≠ none) (hf : tget 0 s.fired (K.bgOverrun j) = 0) :
    Counts s (bgSuspend s j) (K.bgOverrun j) 1 ∧ Pending (bgSuspend s j) Ev.tickOverrun ∧
      (bgSuspend s j).tick.bg.at_ = (bgSuspend s j).tick.elapsed ∧ (bgSuspend s j).tick.bg.job = j ∧
      EvFrame [K.bgHighWater, K.bgOverrun j] [.clock] s (bgSuspend s j) := by
  obtain ⟨off, he⟩ := bgSuspend_some hslot
  have hrun : EvFrame [K.bgHighWater, K.bgOverrun j] [.clock] s (perfAdd (bgRun s j off false) (804 + j) 1) :=
    (bgRun_frame.ev (by simp) (by decide)).perfAdd
  have hkey : eventKey (K.bgOverrun j) = false := by
    have : K.bgOverrun j / 256 = 0x8020 := by simp only [K.bgOverrun]; omega
    simp [eventKey, this]
  obtain ⟨he1, he2, he3⟩ := bgRun_tick (s := s) (job := j) (off := off) (ends := false)
  rw [he]
  refine ⟨?_, ?_, ?_, ?_, hrun.incFirst (by simp) (by decide)⟩
  · refine (Counts.of_inc ?_).of_rd (rd_incFirst _ _ _ _ _ _ (by decide) hkey)
    rw [rd_of_regs perfAdd_regs, bgRun_frame.1 _ (by simp [K.bgOverrun, K.bgHighWater]; omega)]
  · exact incFirst_pending_event (by decide) (by rw [perfAdd_fired, bgRun_fired, hf])
  · rw [incFirst_tick _ _ _ _ _ (by decide), perfAdd_tick, he1, he2]
  · rw [incFirst_tick _ _ _ _ _ (by decide), perfAdd_tick, he3]


end
end Sys2Proof.Machine

/-! SYNC_IN (R42–R49): an edge taken, or a glitch; what its correction writes. -/

namespace Sys2Proof.Machine

section
variable {s t u : State} {ps : Nat}

/-- The state with the edge at `ps` picoseconds taken and counted (R42). -/
def edgeTaken (s : State) (ps : Nat) : State :=
  let s1 := toCc s (ps / 800)
  inc { s1 with tick := { s1.tick with lastEdge := some (s.tick.start + ps / 800) } } K.syncEdges 1

theorem edgeTaken_frame : Frame [K.syncEdges] [.clock] s (edgeTaken s ps) :=
  ((Frame.refl.toCc (by decide)).set_tick (by decide)).inc (by decide)

theorem edgeTaken_counts : Counts s (edgeTaken s ps) K.syncEdges 1 := Counts.of_inc rfl

/-- R42: an edge at least half a period behind the last accepted one is taken; on a VALID grid it corrects it. -/
theorem exec_syncInEdge_taken (he : s.boot.engine = true) (hs : rd s K.syncSource ≠ 0)
    (hc : ∀ c, s.tick.lastEdge = some c → c + syncPeriod s / 2 ≤ s.tick.start + ps / 800) :
    exec (.syncInEdge ps) s = done s (if tickValid s then syncCorrect (edgeTaken s ps) ps else edgeTaken s ps) := by
  have hv : tickValid (edgeTaken s ps) = tickValid s := by
    simp only [tickValid, rdBit, edgeTaken_frame.1 K.tickStatus (by decide)]
  rw [← hv]
  change execSyncInEdge ps s = _
  simp only [execSyncInEdge, he, hs, decide_false, Bool.or_false, Bool.not_true, Bool.false_eq_true, if_false]
  split
  · next c h =>
    rw [if_neg (Nat.not_lt.mpr (show c + syncPeriod s / 2 ≤ (toCc s (ps / 800)).tick.start + ps / 800 from hc c h))]
    rfl
  · rfl

/-- R42: an edge nearer than half a period is a glitch. -/
theorem exec_syncInEdge_glitch {c : Nat} (he : s.boot.engine = true) (hs : rd s K.syncSource ≠ 0) (hl : s.tick.lastEdge = some c)
    (hc : s.tick.start + ps / 800 < c + syncPeriod s / 2) :
    exec (.syncInEdge ps) s = done s (inc (toCc s (ps / 800)) K.syncGlitches 1) := by
  have hl' : (toCc s (ps / 800)).tick.lastEdge = some c := hl
  change execSyncInEdge ps s = _
  simp only [execSyncInEdge, he, hs, decide_false, Bool.or_false, Bool.not_true, Bool.false_eq_true, if_false, hl']
  rw [if_pos (show (toCc s (ps / 800)).tick.start + ps / 800 < c + syncPeriod s / 2 from hc)]

/-- What the correction of an edge leaves: the edge, and every register but SYNC_ERROR, TICK_STATUS and those of events. -/
def EdgeKept (s t : State) : Prop := EvFrame [K.tickStatus] [.clock] s t ∧ t.tick.lastEdge = s.tick.lastEdge

theorem EdgeKept.refl : EdgeKept s s := ⟨.refl, rfl⟩
theorem EdgeKept.raise {src a b : Nat} (hs : src < 384) (h : EdgeKept s u) : EdgeKept s (raise u src a b) :=
  ⟨h.1.raise hs, by rw [raise_tick _ _ _ _ hs, h.2]⟩
theorem EdgeKept.status {i : Nat} {b : Bool} (h : EdgeKept s u) : EdgeKept s (wrBit u K.tickStatus i b) :=
  ⟨h.1.wrBit (by decide), h.2⟩
theorem EdgeKept.set_tick {x : TickSt} (hx : x.lastEdge = u.tick.lastEdge) (h : EdgeKept s u) : EdgeKept s { u with tick := x } :=
  ⟨h.1.set_tick (by decide), hx.trans h.2⟩
theorem EdgeKept.ite {c : Prop} [Decidable c] {v : State} (h : EdgeKept s u) (h' : EdgeKept s v) : EdgeKept s (if c then u else v) := by
  split <;> assumption

theorem syncCorrect_edgeKept : EdgeKept (wr s K.syncError (ofSigned 32 (syncErr s ps))) (syncCorrect s ps) := by
  unfold syncCorrect
  extract_lets e s1 good _ s2 s3 first b bTick stepEn overl want blocked s4 s5 isStep c
  have h2 : EdgeKept s1 s2 := .set_tick rfl .refl
  have h3 : EdgeKept s1 s3 := .ite (.status h2) h2
  have h4 : EdgeKept s1 s4 := .ite (.raise (by decide) h3) h3
  have h5 : EdgeKept s1 s5 := .ite (.raise (by decide) h4) h4
  split
  · exact .set_tick rfl h5
  · exact .ite (.status (.set_tick rfl h5)) (.set_tick rfl h5)

/-- R42: on a VALID grid the edge's phase error stands in SYNC_ERROR. -/
theorem edgeTaken_corrected : Counts s (syncCorrect (edgeTaken s ps) ps) K.syncEdges 1 ∧
    rd (syncCorrect (edgeTaken s ps) ps) K.syncError = ofSigned 32 (syncErr s ps) ∧
    (syncCorrect (edgeTaken s ps) ps).tick.lastEdge = some (s.tick.start + ps / 800) := by
  obtain ⟨hf, hlast⟩ := syncCorrect_edgeKept (s := edgeTaken s ps) (ps := ps)
  have herr : syncErr (edgeTaken s ps) ps = syncErr s ps := by
    have hd : rdI32 (edgeTaken s ps) K.syncDelay = rdI32 s K.syncDelay := by simp only [rdI32, edgeTaken_frame.1 K.syncDelay (by decide)]
    have ht : (edgeTaken s ps).tick.step = s.tick.step := rfl
    simp only [syncErr, hd, ht]
  refine ⟨edgeTaken_counts (ps := ps) |>.of_rd ?_, ?_, hlast⟩
  · rw [hf.1 _ (by decide) (by decide), rd_wr_ne _ _ (by decide)]
  · rw [hf.1 _ (by decide) (by decide), rd_wr_same, herr]

/-- R46: two periods without an edge end the lock. -/
theorem exec_syncInLost (hs : rd s K.syncSource ≠ 0) : exec .syncInLost s =
    done s (raise (wrBit { s with tick := { s.tick with lastEdge := none, goodRun := 0 } } K.tickStatus 2 false) Ev.syncInLost 0 0) := by
  change done s (if rd s K.syncSource = 0 then s else _) = _
  rw [if_neg hs]

/-- R49: 1 and 0 are taken, into the request bit. -/
theorem tickRealignEff_request {v : Nat} (hv : v < 2) : tickRealignEff (v % 256) s = okR (wrBit s K.tickStatus 5 (v == 1)) := by
  have hm : v % 256 = v := by omega
  simp only [tickRealignEff, hm, if_neg (show ¬ 1 < v by omega)]

/-- Settles O13, clause by clause: the edges, their loss, the realignment request, and the background jobs. -/
theorem syncInput : Obligations.SyncInput := by
  refine ⟨?_, ?_, ?_, ?_, ?_, ?_, ?_⟩
  · intro ps s he hs hc hv
    have hx := exec_syncInEdge_taken he hs hc
    rw [if_neg (by simp [hv])] at hx
    exact runs_done hx ⟨edgeTaken_counts.settled, rfl, edgeTaken_frame.settled⟩
  · intro ps s he hs hc hv
    have hx := exec_syncInEdge_taken he hs hc
    rw [if_pos hv] at hx
    obtain ⟨hcount, herror, hlast⟩ := edgeTaken_corrected (s := s) (ps := ps)
    exact runs_done hx ⟨hcount.settled, (rd_settled ..).trans herror, by rw [settled_tick, hlast]⟩
  · intro ps c s he hs hl hc
    exact runs_done (exec_syncInEdge_glitch he hs hl hc)
      ⟨(Counts.of_inc (u := toCc s (ps / 800)) rfl).settled, hl, ((Frame.refl.toCc (by decide)).inc (by decide)).settled⟩
  · intro s hs
    refine runs_done (exec_syncInLost hs) ⟨?_, ?_, ?_, ?_⟩
    · rw [rdBit, rd_settled, ← rdBit, rdBit_raise _ _ _ _ _ _ (by decide) (by decide), rdBit_wrBit_same]
    · rw [settled_tick, raise_tick _ _ _ _ (by decide)]
      rfl
    · exact raise_sets_pending _ _ _ _ (by decide)
    · exact (((EvFrame.refl.set_tick (by decide)).wrBit (by decide)).raise (by decide)).settled
  · intro r v s hv hg
    exact runs_answered rfl hg (tickRealignEff_request hv) fun x =>
      ⟨rfl, rdBit_answered.trans (rdBit_wrBit_same ..), (Frame.refl.wrBit (by decide)).answered (by decide)⟩
  · intro j s h1 h5 hw hslot hf
    obtain ⟨hcount, hevent, hat, hjob, hframe⟩ := bgSuspend_counts h1 h5 hslot hf
    refine runs_done (t := bgSuspend s j) ?_ ⟨hcount.settled, hevent.settled, bgSlot_used (by omega) hat hjob, hframe.settled⟩
    change done s (if bgWork s j then bgSuspend s j else s) = _
    rw [hw]
    rfl
  · intro r j s h1 h5 hg
    have hobj : (objOf (K.bgOverrun j)).map (fun o => (o.ty, o.acc)) = some (.u32, .ro) := by
      interval_cases j <;> rfl
    have hread := readPlain_u32 (s := rearm s (K.bgOverrun j)) hobj (by decide)
    exact runs_answered (eff := fun s => readPlain (rearm s (K.bgOverrun j)) (K.bgOverrun j)) rfl hg hread fun x =>
      ⟨rfl, show tget 0 (tset 0 s.fired _ 0) _ = 0 from tget_tset_same .., (Frame.refl.rearm (by decide)).answered (by decide)⟩
end
end Sys2Proof.Machine

/-! A step of the scrubber that finds nothing (R159). -/

namespace Sys2Proof.Machine

section
variable {s t u : State}

/-- A command ends in one state. -/
theorem eq_settled_of_done (h : done s u = .next t) : t = settled s u := by
  cases h
  rfl

/-- Before the last step of a pass, SCRUB_PASSES stays as it is. -/
theorem exec_scrubStep_noHits (hb : bgSlot s 4 ≠ none) (hs : s.assoc.scrub < 1023) :
    ∃ u, exec (.scrubStep []) s = done s u ∧ rd u K.scrubPasses = rd s K.scrubPasses := by
  obtain ⟨off, ho⟩ := Option.ne_none_iff_exists'.mp hb
  have hn : (bgRun s 4 off true).assoc.scrub + 1 ≠ 1024 := by
    rw [show (bgRun s 4 off true).assoc = s.assoc from bgRun_frame.2 .assoc (by decide)]
    omega
  refine ⟨bgStep s 4 _, rfl, ?_⟩
  simp only [bgStep, ho, if_neg hn]
  exact bgRun_frame.1 _ (by decide)

end

/-- SCRUB_PASSES holds a value beyond its 32 bits, at the first step of a pass. -/
def widePasses : State := { State.reset with regs := [(K.scrubPasses, 2 ^ 32)] }

/-- Refutes O21 in its clause of the scrubber: where a pass does not end, the clause has SCRUB_PASSES count 0 more, which reduces
what it held to its width, while the model leaves the register alone; no hypothesis says that it held no more than its width. -/
theorem not_keyCommits : ¬ Obligations.KeyCommits := by
  intro h
  obtain ⟨-, -, -, -, -, hscrub, -⟩ := h
  have hslot : bgSlot widePasses 4 ≠ none := by decide
  obtain ⟨t, ht, -, hcount, -⟩ := hscrub widePasses hslot
  obtain ⟨u, hu, hkept⟩ := exec_scrubStep_noHits hslot (by decide)
  have htu : t = settled widePasses u := eq_settled_of_done (hu ▸ ht)
  have hbefore : rd widePasses K.scrubPasses = 2 ^ 32 := by decide
  have hafter : rd t K.scrubPasses = 0 := by
    rw [hcount, hbefore]
    decide
  rw [htu, rd_settled, hkept, hbefore] at hafter
  omega

end Sys2Proof.Machine

/-! What each answer of the gate registers leaves (R330–R332). -/

namespace Sys2Proof.Machine

section
variable {ks : List Nat} {ps : List Part} {s u : State} {r : Req} {q v n start : Nat}

theorem Frame.setGate {x : GateSet} (hp : Part.datapath ∈ ps) (h : Frame ks ps s u) : Frame ks ps s (setGate u q x) := h.set_dp hp

/-- A group that no other channel holds is claimed. -/
theorem claimed_free {g : Nat} {f : State → Res} (h : heldByOther s g r.ch = false) : claimed s g r f = f (claim s g r.ch) := by
  simp [claimed, h]

/-- The word GATE_DATA stores: an even word names gates, of which there are eight. -/
def gateWord (a v : Nat) : Nat := if a % 2 = 0 then v % 256 else v

/-- The standby list with that word. -/
def gateStored (s : State) (q v : Nat) : GateSet :=
  { gateAt s q with words := tset 0 (gateAt s q).words (rd s (K.gateAddr q) % 2048) (gateWord (rd s (K.gateAddr q)) v) }

/-- R331: a word of the standby list is stored, and the address advances. -/
theorem gateDataEff_stores (ha : gateArmed s q = false) (hb : bit (rd s (K.gateAddr q)) 15 = false)
    (hh : heldByOther s (Grp.gate q) r.ch = false) : gateDataEff q r v s =
    okR (wr (setGate (claim s (Grp.gate q) r.ch) q (gateStored s q v)) (K.gateAddr q) ((rd s (K.gateAddr q) + 1) % 2048)) := by
  simp only [gateDataEff, ha, hb, claimed_free hh, Bool.or_self, Bool.false_eq_true, if_false]
  rfl

/-- R331: GATE_ARM 1 on a list outside R330. -/
theorem gateArmEff_badList (ha : gateArmed s q = false) (hh : heldByOther s (Grp.gate q) r.ch = false)
    (hl : gateListOk (gateStandby s q) (rd s (K.gateCycle q)) = false) :
    gateArmEff q r 1 s = ⟨gateResult s q 3, .unsupportedValue, []⟩ := by
  simp [gateArmEff, ha, hh, hl]

/-- R331: GATE_ARM 1 on an invalid time base. -/
theorem gateArmEff_badBase (ha : gateArmed s q = false) (hh : heldByOther s (Grp.gate q) r.ch = false)
    (hl : gateListOk (gateStandby s q) (rd s (K.gateCycle q)) = true) (hv : tbValid s (rdField s (K.gateCtrl q) 1 0) = false) :
    gateArmEff q r 1 s = ⟨gateResult s q 5, .wrongState, []⟩ := by
  simp [gateArmEff, ha, hh, hl, hv]

/-- The list that GATE_ARM 1 arms to start at `start`. -/
def gateArming (s : State) (q start : Nat) : GateList :=
  ⟨gateStandby s q, rd s (K.gateCycle q), rdField s (K.gateCtrl q) 1 0, rd s (K.gateBase q), rdBit s (K.gateCtrl q) 4, start⟩

/-- The state with `g` armed, its swap tick `t`. -/
def gateWithArmed (s : State) (q : Nat) (g : GateList) (t : Nat) : State :=
  wr (wr (wrBit (gateResult (setGate (release s (Grp.gate q)) q { gateAt s q with armed := some g }) q 1) (K.gateStatus q) 1 true)
    (K.gateSwapTick q) t) (K.gateStart q) (unitsBase g.start)

/-- The cycle at which GATE_ARM begins to look for the start: at least 20 µs ahead (R331). -/
def gateFirst (s : State) (q n : Nat) : Nat :=
  (tbNow s n + 20000 * nsU - baseUnits (rd s (K.gateBase q)) + rd s (K.gateCycle q) * nsU - 1) / (rd s (K.gateCycle q) * nsU)

/-- R331: GATE_ARM 1 arms a list that a strict base lets start and whose swap tick is not too far. -/
theorem gateArmEff_arms (ha : gateArmed s q = false) (hh : heldByOther s (Grp.gate q) r.ch = false)
    (hl : gateListOk (gateStandby s q) (rd s (K.gateCycle q)) = true) (hn : rdField s (K.gateCtrl q) 1 0 = n) (hv : tbValid s n = true)
    (ht : tickValid s = true) (hb : rdBit s (K.gateCtrl q) 4 = true → start = baseUnits (rd s (K.gateBase q)))
    (hs : gateStart s q n (baseUnits (rd s (K.gateBase q))) (rd s (K.gateCycle q) * nsU) 32 (gateFirst s q n) = start)
    (hd : tickOf s (gateSwapTime s q n start) - tickNo s ≤ 2 ^ 31) :
    gateArmEff q r 1 s = okR (gateWithArmed s q (gateArming s q start) (tickOf s (gateSwapTime s q n start))) := by
  have hbase : (rdBit s (K.gateCtrl q) 4 && start != baseUnits (rd s (K.gateBase q))) = false := by
    cases h : rdBit s (K.gateCtrl q) 4
    · rfl
    · simp [← hb h]
  subst hn
  unfold gateFirst at hs
  simp only [gateArmEff, ha, hh, hl, hv, ht, hs, hbase, if_neg (Nat.not_lt.mpr hd), show (1 : Nat) ≠ 2 by decide, if_false,
    ne_eq, not_true, Bool.or_self, Bool.not_true, Bool.false_eq_true]
  rfl

/-- R331: GATE_ARM 2 with nothing armed. -/
theorem gateArmEff_nothing (ha : gateArmed s q = false) (hh : heldByOther s (Grp.gate q) r.ch = false) :
    gateArmEff q r 2 s = okR (release s (Grp.gate q)) := by
  simp [gateArmEff, ha, hh]

/-- GATE_START where no list is armed: the start of the active one. -/
def gateActiveStart (x : GateSet) : Nat := match x.active with | some g => unitsBase g.start | none => 0

/-- The state with nothing armed at port `q`. -/
def gateDisarmed (s : State) (q : Nat) : State :=
  wr (wr (wrBit (setGate (release s (Grp.gate q)) q { gateAt s q with armed := none }) (K.gateStatus q) 1 false)
    (K.gateSwapTick q) none64) (K.gateStart q) (gateActiveStart (gateAt s q))

/-- R331: GATE_ARM 2 disarms while the swap tick is more than one away. -/
theorem gateArmEff_disarms (ha : gateArmed s q = true) (hh : heldByOther s (Grp.gate q) r.ch = false)
    (ht : tickNo s + 1 < rd s (K.gateSwapTick q)) : gateArmEff q r 2 s = okR (gateDisarmed s q) := by
  simp only [gateArmEff, ha, hh, if_neg (Nat.not_le.mpr ht), Bool.not_true, Bool.false_eq_true, if_true, if_false,
    gateAt_setGate_same]
  rfl

/-- The keys of port `q`'s gates are all different. -/
theorem gateKeys_ne : K.gateStatus q ≠ K.gateStart q ∧ K.gateStatus q ≠ K.gateSwapTick q ∧ K.gateSwapTick q ≠ K.gateStart q := by
  simp only [K.gateStatus, K.gateStart, K.gateSwapTick]
  omega

/-! What the armed, the disarmed and the refreshed gates read as. -/

/-- The bit of a field and the field of a write of the same register. -/
theorem rdField_wrField_same {k hi lo x : Nat} (h : lo ≤ hi + 1) : rdField (wrField s k hi lo x) k hi lo = x % 2 ^ (hi + 1 - lo) := by
  rw [rdField, wrField, rd_wr_same, bits_setBits_same _ _ _ _ h]

theorem rdField_wrField_ne {k hi lo x hi' lo' : Nat} (h : lo ≤ hi + 1) (hd : hi < lo' ∨ hi' < lo) :
    rdField (wrField s k hi lo x) k hi' lo' = rdField s k hi' lo' := by
  rw [rdField, wrField, rd_wr_same, bits_setBits_ne _ _ _ _ _ _ h hd, rdField]

theorem rdField_wrBit_ne {k i hi lo : Nat} {b : Bool} (hd : i < lo ∨ hi < i) : rdField (wrBit s k i b) k hi lo = rdField s k hi lo := by
  rw [rdField, wrBit, rd_wr_same, bits_setBit_ne _ _ _ _ _ hd, rdField]

theorem rdField_wr_ne {k k' hi lo : Nat} (h : k ≠ k') : rdField (wr s k v) k' hi lo = rdField s k' hi lo := by
  rw [rdField, rd_wr_ne _ _ h, rdField]

theorem rdBit_wr_ne {k k' i : Nat} (h : k ≠ k') : rdBit (wr s k v) k' i = rdBit s k' i := by
  rw [rdBit, rd_wr_ne _ _ h, rdBit]

theorem gateResult_reads : rdField (gateResult s q v) (K.gateStatus q) 7 4 = v % 2 ^ 4 := rdField_wrField_same (by decide)

theorem gateResult_frame : Frame [K.gateStatus q] [] s (gateResult s q v) := Frame.refl.wrField (by simp)

/-- The gates of a port are read from the data path alone. -/
theorem gateAt_congr {t : State} (h : t.dp = u.dp) : gateAt t q = gateAt u q := by simp [gateAt, h]

theorem gateAt_answered {x : Tbl Chan} {code : Code} {ws : List Word} : gateAt (answered s u x code ws) q = gateAt u q := gateAt_congr rfl

theorem gateWithArmed_gate {g : GateList} : gateAt (gateWithArmed s q g n) q = { gateAt s q with armed := some g } := by
  rw [← gateAt_setGate_same s q { gateAt s q with armed := some g }]
  exact gateAt_congr (by simp [gateWithArmed, wrBit, gateResult, wrField, setGate])

theorem gateDisarmed_gate : gateAt (gateDisarmed s q) q = { gateAt s q with armed := none } := by
  rw [← gateAt_setGate_same s q { gateAt s q with armed := none }]
  exact gateAt_congr (by simp [gateDisarmed, wrBit, setGate])

/-- An armed list shows in GATE_STATUS, GATE_SWAP_TICK and GATE_START. -/
theorem gateWithArmed_reads {g : GateList} {n : Nat} :
    gateArmed (gateWithArmed s q g n) q = true ∧ rdField (gateWithArmed s q g n) (K.gateStatus q) 7 4 = 1 ∧
    rd (gateWithArmed s q g n) (K.gateStart q) = unitsBase g.start ∧ rd (gateWithArmed s q g n) (K.gateSwapTick q) = n := by
  obtain ⟨hstart, hswap, hss⟩ := gateKeys_ne (q := q)
  refine ⟨?_, ?_, rd_wr_same .., ?_⟩
  · rw [gateArmed, gateWithArmed, rdBit_wr_ne hstart.symm, rdBit_wr_ne hswap.symm, rdBit_wrBit_same]
  · rw [gateWithArmed, rdField_wr_ne hstart.symm, rdField_wr_ne hswap.symm, rdField_wrBit_ne (by decide), gateResult_reads]
    rfl
  · rw [gateWithArmed, rd_wr_ne _ _ hss.symm, rd_wr_same]

theorem gateWithArmed_frame {g : GateList} {n : Nat} :
    Frame [K.gateStatus q, K.gateStart q, K.gateSwapTick q] [.chans, .staging, .datapath] s (gateWithArmed s q g n) :=
  .wr (by simp) (.wr (by simp) (.wrBit (by simp) (.wrField (by simp) (.setGate (by decide) (.release (by decide) .refl)))))

/-- A disarmed list no longer shows. -/
theorem gateDisarmed_reads :
    gateArmed (gateDisarmed s q) q = false ∧
    rd (gateDisarmed s q) (K.gateSwapTick q) = none64 ∧ rd (gateDisarmed s q) (K.gateStart q) = gateActiveStart (gateAt s q) := by
  obtain ⟨hstart, hswap, hss⟩ := gateKeys_ne (q := q)
  refine ⟨?_, ?_, rd_wr_same ..⟩
  · rw [gateArmed, gateDisarmed, rdBit_wr_ne hstart.symm, rdBit_wr_ne hswap.symm, rdBit_wrBit_same]
  · rw [gateDisarmed, rd_wr_ne _ _ hss.symm, rd_wr_same]

theorem gateDisarmed_frame :
    Frame [K.gateStatus q, K.gateStart q, K.gateSwapTick q] [.chans, .staging, .datapath] s (gateDisarmed s q) :=
  .wr (by simp) (.wr (by simp) (.wrBit (by simp) (.setGate (by decide) (.release (by decide) .refl))))

/-- The time whose gates port `q` shows now under the list `g`: D ahead (R332). -/
def gateTime (s : State) (q : Nat) (g : GateList) : Int := tbPlus s g.tb (gateDelay s q)

/-- R332: GATE_STATUS shows the gates and the entry of the active list. -/
theorem gateRefresh_active {g : GateList} (h : (gateAt s q).active = some g) : gateRefresh s q =
    wrBit (wrField (wrField s (K.gateStatus q) 15 8 (gatesNow s q g)) (K.gateStatus q) 26 16 (gateEntry g (gateTime s q g)))
      (K.gateStatus q) 2 (decide (gateTime s q g < g.start)) := by
  simp only [gateRefresh, h]
  rfl

theorem gateRefresh_reads {g : GateList} (h : (gateAt s q).active = some g) :
    rdField (gateRefresh s q) (K.gateStatus q) 15 8 = gatesNow s q g % 2 ^ 8 ∧
    rdField (gateRefresh s q) (K.gateStatus q) 26 16 = gateEntry g (gateTime s q g) % 2 ^ 11 ∧
    Frame [K.gateStatus q] [] s (gateRefresh s q) := by
  rw [gateRefresh_active h]
  refine ⟨?_, ?_, .wrBit (by simp) (.wrField (by simp) (.wrField (by simp) .refl))⟩
  · rw [rdField_wrBit_ne (by decide), rdField_wrField_ne (by decide) (by decide), rdField_wrField_same (by decide)]
  · rw [rdField_wrBit_ne (by decide), rdField_wrField_same (by decide)]

/-- Settles O24, clause by clause from what each answer leaves. -/
theorem gateLists : Obligations.GateLists := by
  refine ⟨?_, ?_, ?_, ?_, ?_, ?_, ?_⟩
  · intro r q v s _ hv ha hb hh hg
    have hx : exec (.gateDataWrite r q v) s = done s (access s r (K.gateData q) true (gateDataEff q r (v % 2 ^ 32))) := rfl
    rw [Nat.mod_eq_of_lt hv] at hx
    refine runs_answered hx hg (gateDataEff_stores ha hb hh) fun x => ⟨rfl, ?_, ?_, ?_, rd_answered.trans (rd_wr_same ..), ?_⟩
    · rw [gateAt_answered, gateAt_congr (wr_dp ..), gateAt_setGate_same, gateStored, tget_tset_same, gateWord]
    · rw [gateAt_answered, gateAt_congr (wr_dp ..), gateAt_setGate_same, gateStored]
    · intro p hp
      rw [gateAt_answered, gateAt_congr (wr_dp ..), gateAt_setGate_ne _ _ hp.symm, gateAt_congr (claim_dp ..)]
    · exact Frame.answered (by decide) (.wr (by simp) (.setGate (by decide) (.claim (by decide) .refl)))
  · intro r q s _ ha hh hl hg
    exact runs_answered rfl hg (gateArmEff_badList ha hh hl) fun x =>
      ⟨rfl, rdField_answered.trans gateResult_reads, (gateResult_frame.mono (by simp) (by simp)).answered (by simp)⟩
  · intro r q s _ ha hh hl hv hg
    exact runs_answered rfl hg (gateArmEff_badBase ha hh hl hv) fun x =>
      ⟨rfl, rdField_answered.trans gateResult_reads, (gateResult_frame.mono (by simp) (by simp)).answered (by simp)⟩
  · intro r q n start s _ ha hh hl hn hv ht hb hs hd hg
    obtain ⟨harmed, hresult, hstart, hswap⟩ := gateWithArmed_reads (s := s) (q := q) (g := gateArming s q start)
      (n := tickOf s (gateSwapTime s q n start))
    refine runs_answered rfl hg (gateArmEff_arms ha hh hl hn hv ht hb hs hd) fun x =>
      ⟨rfl, rdBit_answered.trans harmed, rdField_answered.trans hresult, rd_answered.trans hstart, rd_answered.trans hswap, ?_, ?_,
        gateWithArmed_frame.answered (by simp)⟩
    · rw [gateAt_answered, gateWithArmed_gate]
    · rw [gateAt_answered, gateWithArmed_gate, gateArming, hn]
  · intro r q s _ ha hh ht hg
    obtain ⟨harmed, hswap, hstart⟩ := gateDisarmed_reads (s := s) (q := q)
    refine runs_answered rfl hg (gateArmEff_disarms ha hh ht) fun x =>
      ⟨rfl, rdBit_answered.trans harmed, ?_, rd_answered.trans hswap, ?_, rd_answered.trans hstart, gateDisarmed_frame.answered (by simp)⟩
    · rw [gateAt_answered, gateDisarmed_gate]
    · rw [gateAt_answered, gateDisarmed_gate]
  · intro q g s _ h
    obtain ⟨hgates, hentry, hframe⟩ := gateRefresh_reads h
    exact runs_done rfl ⟨hgates, hentry, hframe.settled⟩
  · intro r q s _ ha hh hg
    exact runs_answered rfl hg (gateArmEff_nothing ha hh) fun x =>
      ⟨rfl, ha, Frame.answered (by decide) (.release (by decide) .refl)⟩

end
end Sys2Proof.Machine

/-! Fabric messages (R383–R389): what receiving one counts, and what sending one changes. -/

namespace Sys2Proof.Machine

/-- The counters of messages: by link, and of those without a route. -/
def msgKey (k : Nat) : Bool :=
  k == K.fabNoRoute || (decide (0xC010 ≤ k / 256) && decide (k / 256 < 0xC014) && decide (2 ≤ k % 256) && decide (k % 256 ≤ 3))

theorem msgKey_linkTxMsgs {p : Nat} (hp : p < 4) : msgKey (K.linkTxMsgs p) = true := by
  interval_cases p <;> decide

theorem msgKey_linkRxMsgs {p : Nat} (hp : p < 4) : msgKey (K.linkRxMsgs p) = true := by
  interval_cases p <;> decide

theorem linkTxMsgs_mem {p : Nat} (hp : p < 4) : K.linkTxMsgs p ∈ txKeys := by
  interval_cases p <;> decide

theorem msgKey_of_mem_txKeys {k : Nat} (h : k ∈ txKeys) : msgKey k = true := by
  simp only [txKeys, List.mem_cons, List.mem_map, List.mem_range] at h
  obtain rfl | ⟨p, hp, rfl⟩ := h
  · decide
  · exact msgKey_linkTxMsgs hp

/-- What a message, received or sent, may change: its counters, the sequence number and what loops back, and the output. -/
structure MsgSame (s t : State) : Prop where
  rd : ∀ k, msgKey k = false → rd t k = rd s k
  parts : Keeps [.fabric, .out] s t
  fab : t.fab = { s.fab with seq := t.fab.seq, looped := t.fab.looped }

/-- What sending messages changes. -/
structure Sent (s t : State) : Prop extends MsgSame s t where
  frame : Frame txKeys [.fabric, .out] s t

section
variable {s t u : State} {m : FabMsg} {p typ g h dst grp ep n k : Nat} {pl : List Word} {e : SaEnt}

theorem MsgSame.refl : MsgSame s s := ⟨fun _ _ => rfl, fun p _ => p.same_refl s, rfl⟩

theorem MsgSame.trans (h : MsgSame s t) (h' : MsgSame t u) : MsgSame s u :=
  ⟨fun k hk => (h'.rd k hk).trans (h.rd k hk), fun p hp => Part.same_trans (h.parts p hp) (h'.parts p hp), by rw [h'.fab, h.fab]⟩

theorem Sent.refl : Sent s s := ⟨.refl, .refl⟩
theorem Sent.trans (h : Sent s t) (h' : Sent t u) : Sent s u := ⟨h.toMsgSame.trans h'.toMsgSame, h.frame.trans h'.frame⟩

/-! What messages leave as it was. -/

theorem MsgSame.tick (h : MsgSame s t) : t.tick = s.tick := h.parts .clock (by decide)
theorem MsgSame.assoc (h : MsgSame s t) : t.assoc = s.assoc := h.parts .assoc (by decide)
theorem MsgSame.lock (h : MsgSame s t) : t.fab.lock = s.fab.lock := by rw [h.fab]
theorem MsgSame.target (h : MsgSame s t) : t.fab.target = s.fab.target := by rw [h.fab]
theorem MsgSame.routes (h : MsgSame s t) : t.fab.routes = s.fab.routes := by rw [h.fab]
theorem MsgSame.syncPos (h : MsgSame s t) : t.fab.syncPos = s.fab.syncPos := by rw [h.fab]
theorem MsgSame.roles (h : MsgSame s t) : t.fab.roles = s.fab.roles := by rw [h.fab]
theorem MsgSame.roleAt (hm : MsgSame s t) : roleAt t g = roleAt s g := by rw [Machine.roleAt, hm.roles, Machine.roleAt]
theorem MsgSame.saAt (hm : MsgSame s t) : saAt t h = saAt s h := by rw [Machine.saAt, hm.assoc, Machine.saAt]
theorem MsgSame.scAt (hm : MsgSame s t) : scAt t n = scAt s n := by rw [Machine.scAt, hm.assoc, Machine.scAt]
theorem MsgSame.slotAt (hm : MsgSame s t) : slotAt t h = slotAt s h := by simp only [Machine.slotAt, slotFlip, hm.assoc]
theorem MsgSame.statAt (hm : MsgSame s t) : statAt t h = statAt s h := by rw [Machine.statAt, hm.assoc, Machine.statAt]
theorem MsgSame.routeTo (hm : MsgSame s t) : routeTo t n dst = routeTo s n dst := by rw [Machine.routeTo, hm.routes, Machine.routeTo]
theorem MsgSame.nodeId (hm : MsgSame s t) : nodeId t = nodeId s := hm.rd _ (by decide)
theorem MsgSame.tickNo (hm : MsgSame s t) : tickNo t = tickNo s := hm.rd _ (by decide)
theorem MsgSame.saLocal (hm : MsgSame s t) : saLocal t e = saLocal s e := by simp only [Machine.saLocal, hm.rd K.fabNodeId (by decide)]
theorem MsgSame.resvApplies (hm : MsgSame s t) : resvApplies t e = resvApplies s e := by simp only [Machine.resvApplies, hm.scAt]
theorem MsgSame.dueNow (hm : MsgSame s t) : dueNow t n = dueNow s n := by simp only [Machine.dueNow, hm.tickNo]

/-- A register of a role entry, of the fabric's first page and of a port are no counters of messages. -/
theorem msgKey_of_page (h : k / 256 < 0xC000 ∨ 0xC014 ≤ k / 256) : msgKey k = false := by
  simp only [msgKey, K.fabNoRoute, Bool.or_eq_false_iff, beq_eq_false_iff_ne, Bool.and_eq_false_iff, decide_eq_false_iff_not]
  omega

theorem MsgSame.roleEpochOf (hm : MsgSame s t) : roleEpochOf t g = roleEpochOf s g :=
  hm.rd _ (msgKey_of_page (by simp only [K.roleEpoch]; omega))
theorem MsgSame.roleCtrl (hm : MsgSame s t) : Machine.rd t (K.roleCtrl g) = Machine.rd s (K.roleCtrl g) :=
  hm.rd _ (msgKey_of_page (by simp only [K.roleCtrl]; omega))
theorem MsgSame.roleEn (hm : MsgSame s t) : roleEn t g = roleEn s g := by simp only [Machine.roleEn, rdBit, hm.roleCtrl]
theorem MsgSame.rolePair (hm : MsgSame s t) : rolePair t g = rolePair s g := by
  simp only [Machine.rolePair, hm.roleEn, rdField, hm.roleCtrl]
theorem MsgSame.roleLease (hm : MsgSame s t) : roleLease t g = roleLease s g := by
  simp only [Machine.roleLease, hm.roleEn, rdField, hm.roleCtrl]
theorem MsgSame.roleGroup (hm : MsgSame s t) : roleGroup t g = roleGroup s g := by simp only [Machine.roleGroup, rdField, hm.roleCtrl]
theorem MsgSame.entryOf (hm : MsgSame s t) : entryOf t n = entryOf s n := by simp only [Machine.entryOf, hm.roleEn, hm.roleGroup]
theorem MsgSame.roleMembers (hm : MsgSame s t) : roleMembers t g = roleMembers s g := by
  simp only [Machine.roleMembers, rdField, hm.roleCtrl, hm.rd (K.roleMembersA g) (msgKey_of_page (by simp only [K.roleMembersA]; omega)),
    hm.rd (K.roleMembersB g) (msgKey_of_page (by simp only [K.roleMembersB]; omega))]
theorem MsgSame.rolePeer (hm : MsgSame s t) : rolePeer t g = rolePeer s g := by
  simp only [Machine.rolePeer, rdField, hm.rd (K.roleMembersA g) (msgKey_of_page (by simp only [K.roleMembersA]; omega))]

/-! Sending. -/

theorem routeTo_lt {o : Nat} (h : routeTo s n dst = some o) : o < 4 := by
  unfold routeTo at h
  split at h
  · cases h
  · cases h
    omega

theorem fabOut_sent (hp : p < 4) : Sent s (fabOut s p m) := by
  have hbase : Sent s (inc (emit s (.fab p m.sealed)) (K.linkTxMsgs p) 1) := by
    refine ⟨⟨fun k hk => rd_inc_ne _ _ fun h => ?_, ?_, rfl⟩, .inc (linkTxMsgs_mem hp) (.emit (by decide) .refl)⟩
    · rw [← h, msgKey_linkTxMsgs hp] at hk
      cases hk
    · exact ((Frame.refl.emit (by decide)).inc (linkTxMsgs_mem hp)).2
  unfold fabOut
  dsimp only
  split
  · exact hbase.trans ⟨⟨fun _ _ => rfl, ((Frame.refl (ks := [])).set_fab (by decide)).2, rfl⟩, .set_fab (by decide) .refl⟩
  · exact hbase

theorem fabMsg_sent {b : Bool} : Sent s (fabMsg s typ dst b grp ep pl).2 :=
  ⟨⟨fun _ _ => rfl, ((Frame.refl (ks := [])).set_fab (by decide)).2, rfl⟩, .set_fab (by decide) .refl⟩

theorem fabSend_sent : Sent s (fabSend s typ dst grp ep pl) := by
  unfold fabSend
  split
  · refine ⟨⟨fun k hk => rd_inc_ne _ _ fun h => ?_, ((Frame.refl (ks := txKeys)).inc (by decide)).2, rfl⟩, .inc (by decide) .refl⟩
    rw [← h] at hk
    revert hk
    decide
  · next o ho => exact (fabMsg_sent (typ := typ) (dst := dst) (b := false) (grp := grp) (ep := ep) (pl := pl)).trans (fabOut_sent (routeTo_lt ho))

theorem roleSend_sent : Sent s (roleSend s g typ dst pl) := fabSend_sent

theorem fabFlood_sent {skip : Option Nat} : Sent s (fabFlood s m skip) :=
  forNat_rel (R := Sent) (f := fun p s => if joinedAt s p m.ver && skip != some p then fabOut s p m else s) (fun _ => .refl) .trans 4
    (fun p hp x => by
      split
      · exact fabOut_sent hp
      · exact .refl) s

theorem fabCast_sent : Sent s (fabCast s typ grp ep pl) :=
  (fabMsg_sent (typ := typ) (dst := 0) (b := true) (grp := grp) (ep := ep) (pl := pl)).trans fabFlood_sent

/-- Sending one after the other. -/
theorem foldl_sent {α : Type} {f : State → α → State} (hf : ∀ x a, Sent x (f x a)) (l : List α) (x : State) : Sent x (l.foldl f x) := by
  induction l generalizing x with
  | nil => exact .refl
  | cons a l ih => exact (hf x a).trans (ih _)

/-- What goes out where the node has a route. -/
theorem fabSend_out {o : Nat} (h : routeTo s (msgVer typ) dst = some o) :
    ∃ m, (fabSend s typ dst grp ep pl).out = .fab o m :: s.out ∧ m.typ = typ ∧ m.dst = dst ∧ m.payload = pl := by
  refine ⟨(fabMsg s typ dst false grp ep pl).1.sealed, ?_, rfl, rfl, rfl⟩
  simp only [fabSend, h, fabOut]
  split <;> rfl

/-! Receiving. -/

theorem portFrom_lt : portFrom s m < 4 := by
  unfold portFrom
  cases h : routeTo s (Nat.max 1 (Nat.min 3 m.ver)) m.src with
  | none => decide
  | some o => exact routeTo_lt h

/-- A message taken off its link: counted there. -/
def received (s : State) (m : FabMsg) : State := inc s (rxKey s m) 1

theorem received_same : MsgSame s (received s m) := by
  refine ⟨fun k hk => rd_inc_ne _ _ fun h => ?_, ((Frame.refl (ks := [rxKey s m])).inc (by simp)).2, rfl⟩
  rw [← h, rxKey, msgKey_linkRxMsgs portFrom_lt] at hk
  cases hk

theorem received_frame : Frame [rxKey s m] [] s (received s m) := .inc (by simp) .refl

/-- The ports of the device are read from other registers than the counts of received messages. -/
theorem isPort_received : isPort (received s m) n = isPort s n := by
  have hkey (k : Nat) (hk : k % 256 ≠ 3) : Machine.rd (received s m) k = Machine.rd s k :=
    rd_inc_ne _ _ (by simp only [rxKey, K.linkRxMsgs]; omega)
  have hlayout (j : Nat) : layout (received s m) j = layout s j := hkey _ (by simp only [K.groupLayout]; omega)
  have hmode (j : Nat) : mode (received s m) j = mode s j := hkey _ (by simp only [K.groupMode]; omega)
  simp only [isPort, portLanes, hlayout, hmode]

/-- R387, R388: an intact message for this node is counted and takes effect. -/
theorem fabMine_of {f : State → State} (h : MsgFor s m typ) (hk : msgKnown typ = true) : fabMine s m typ f = f (received s m) := by
  obtain ⟨⟨hloop, hgood⟩, rfl, httl, hdst⟩ := h
  have hmine : (m.bcast || m.dst == nodeId (received s m)) = true := by
    rw [received_same.nodeId]
    simpa using hdst
  have htake : fabTake s (portFrom s m) m = some s := by simp [fabTake, hloop]
  unfold received at hmine
  simp only [fabMine, fabIn, htake, hgood, hk, Bool.not_true, Bool.or_self, Bool.false_eq_true, if_false, if_neg httl]
  simp only [rxKey] at hmine
  rw [hmine]
  simp [received, rxKey]

end
end Sys2Proof.Machine

/-! Migration of a secure channel (R160, R161, R367, R413). -/

namespace Sys2Proof.Machine

section
variable {s t u : State} {m : FabMsg} {v h c o : Nat}

/-- A migration armed for tick `v`. -/
def migArmed (s : State) (v : Nat) : State := wr { s with assoc := { s.assoc with migOk := false } } K.migTick v

theorem migArmed_frame : Frame [K.migTick] [.assoc] s (migArmed s v) := .wr (by simp) (.set_assoc (by decide) .refl)

/-- The words of a move check (R388). -/
def moveCheckWords (s : State) (v : Nat) : List Word := [rd s K.migSc, rd s K.migPort] ++ tickWords v ++ [migEpoch s (rd s K.migSc)]

theorem moveCheckWords_migArmed : moveCheckWords (migArmed s v) v = moveCheckWords s v := by
  have hsc : rd (migArmed s v) K.migSc = rd s K.migSc := migArmed_frame.1 _ (by decide)
  have hport : rd (migArmed s v) K.migPort = rd s K.migPort := migArmed_frame.1 _ (by decide)
  have hepoch (n : Nat) : migEpoch (migArmed s v) n = migEpoch s n := rfl
  simp only [moveCheckWords, hsc, hport, hepoch]

/-- R160: a second migration. -/
theorem migTickEff_second (ht : rd s K.migTick ≠ none64) : migTickEff v s = abortR s .wrongState := by simp [migTickEff, ht]

/-- R390: a node that class 3 does not reach. -/
theorem migTickEff_unreached (hv : v < none64) (ht : rd s K.migTick = none64) (hn : rd s K.migNode ≠ nodeId s)
    (hr : reaches s 3 (rd s K.migNode) = false) : migTickEff v s = abortR s .unsupportedValue := by
  simp [migTickEff, ht, hn, hr, hv.ne]

/-- R160, R413: the migration is armed; another node is asked. -/
theorem migTickEff_arms (hv : v < none64) (ht : rd s K.migTick = none64)
    (hr : rd s K.migNode = nodeId s ∨ reaches s 3 (rd s K.migNode) = true) (ha : armOk s v = true) :
    migTickEff v s = okR (if rd s K.migNode = nodeId s then migArmed s v
      else fabSend (migArmed s v) Msg.moveCheck (rd s K.migNode) 0 0 (moveCheckWords s v)) := by
  have hnode : nodeId (migArmed s v) = nodeId s := migArmed_frame.1 _ (by decide)
  have hreach : ¬ (rd s K.migNode ≠ nodeId s ∧ (!reaches s 3 (rd s K.migNode)) = true) := by
    obtain h | h := hr <;> simp [h]
  rw [← moveCheckWords_migArmed]
  unfold migArmed at hnode
  simp only [migTickEff, if_neg (not_not.mpr ht), if_neg hv.ne, if_neg hreach, ha, hnode]
  rfl

/-- R160: a migration within this node. -/
theorem migTickEff_here (hv : v < none64) (ht : rd s K.migTick = none64) (hn : rd s K.migNode = nodeId s) (ha : armOk s v = true) :
    migTickEff v s = okR (migArmed s v) := by
  rw [migTickEff_arms hv ht (.inl hn) ha, if_pos hn]

/-- R413: a migration to another node asks it. -/
theorem migTickEff_asks (hv : v < none64) (ht : rd s K.migTick = none64) (hc : rd s K.migNode = c) (hn : c ≠ nodeId s)
    (hr : routeTo s 3 c = some o) (ha : armOk s v = true) :
    migTickEff v s = okR (fabSend (migArmed s v) Msg.moveCheck c 0 0 (moveCheckWords s v)) := by
  subst hc
  rw [migTickEff_arms hv ht (.inr (by simp [reaches, hr])) ha, if_neg hn]

theorem exec_migTickWrite {r : Req} (hv : v < none64) :
    exec (.migTickWrite r v) s = done s (access s r K.migTick true (migTickEff v)) := by
  change execMigTickWrite r v s = _
  rw [execMigTickWrite, Nat.mod_eq_of_lt (by unfold none64 at hv; omega)]

/-! The answers of the nodes. -/

/-- R413: the SAs of a channel are all remote, with complete keys. -/
def movable (s : State) (c : Nat) : Bool := (scHandles (scAt s c)).all (fun h => !saLocal s (saAt s h) && (slotAt s h).complete)

theorem movable_received : movable (received s m) c = movable s c := by
  simp only [movable, received_same.scAt, received_same.saLocal, received_same.saAt, received_same.slotAt]

/-- The node has a channel to take over. -/
def withTarget (s : State) (x : Target) : State := { s with fab := { s.fab with target := some x } }

/-- R413: a node that can take the channel notes it and says so. -/
theorem exec_saMoveCheckRx {p a b e : Nat} (hm : MsgFor s m Msg.moveCheck) (hp : m.payload = [c, p, a, b, e]) (hc : c < 65536) (he : e < 65536)
    (hq : isPort s p = true) (ht : s.fab.target = none) (hk : movable s c = true) :
    exec (.saMoveCheckRx m) s =
      done s (fabSend (withTarget (received s m) ⟨c, p, a * 2 ^ 32 + b, e, m.src⟩) Msg.moveAnswer m.src 0 0 [2 ^ 31]) := by
  have hk' : movable (received s m) c = true := movable_received.trans hk
  have hq' : isPort (received s m) p = true := isPort_received.trans hq
  have ht' : (received s m).fab.target = none := ht
  unfold movable at hk'
  change done s (fabMine s m Msg.moveCheck _) = _
  rw [fabMine_of hm (by decide)]
  simp only [hp, nth, List.getD_cons_zero, List.getD_cons_succ, wordsTick, Nat.mod_eq_of_lt hc, Nat.mod_eq_of_lt he, hk', hq', ht']
  rfl

/-- R413: the answer of the node that was asked. -/
theorem exec_moveAnswerRx (hm : MsgFor s m Msg.moveAnswer) (ht : rd s K.migTick ≠ none64) (hn : rd s K.migNode = m.src) :
    exec (.moveAnswerRx m) s = done s { received s m with assoc := { s.assoc with migOk := bit (nth m.payload 0) 31 } } := by
  have hcond : rd (received s m) K.migTick ≠ none64 ∧ rd (received s m) K.migNode = m.src := by
    rw [received_same.rd _ (by decide), received_same.rd _ (by decide)]
    exact ⟨ht, hn⟩
  change done s (fabMine s m Msg.moveAnswer _) = _
  rw [fabMine_of hm (by decide), if_pos hcond]
  rfl

/-- A moved outbound SA (R161): it goes on from its ceiling with RESV, else from its NEXT_PN. -/
def saMoved (s : State) (h pn ceil : Nat) : SaEnt :=
  { saAt s h with pn := if resvApplies s (saAt s h) then ceil else pn, ceiling := ceil, waitMove := false }

/-- R413: SA_MOVE of one SA. -/
theorem exec_saMoveRx {a b c d : Nat} (hm : MsgFor s m Msg.move) (hp : m.payload = [h, a, b, c, d]) (hh : h < 2 ^ 17)
    (hl : saLocal s (saAt s h) = true) (ho : (scAt s (saAt s h).sc).inbound = false) (hw : (saAt s h).waitMove = true) :
    exec (.saMoveRx m) s = done s (setSa (received s m) h (saMoved s h (a * 2 ^ 32 + b) (c * 2 ^ 32 + d))) := by
  change done s (fabMine s m Msg.move _) = _
  rw [fabMine_of hm (by decide)]
  simp only [hp, List.length_cons, List.length_nil, List.range_succ, List.range_zero, List.nil_append, List.foldl_cons, List.foldl_nil, nth,
    wordsTick, Nat.reduceMul, Nat.reduceAdd, Nat.reduceDiv, List.getD_cons_zero, List.getD_cons_succ, Nat.mod_eq_of_lt hh, received_same.saAt,
    received_same.saLocal, received_same.scAt, received_same.resvApplies, hl, ho, hw]
  rfl

/-- R367, R413: SA_FINAL of one SA. -/
theorem exec_saFinalRx {a b c d e f : Nat} (hm : MsgFor s m Msg.final) (hp : m.payload = [h, a, b, c, d, e, f]) (hh : h < 2 ^ 17)
    (hl : saLocal s (saAt s h) = true) :
    exec (.saFinalRx m) s = done s (statAdd (received s m) h (a * 2 ^ 32 + b) (c * 2 ^ 32 + d) e f) := by
  change done s (fabMine s m Msg.final _) = _
  rw [fabMine_of hm (by decide)]
  simp only [hp, List.length_cons, List.length_nil, List.range_succ, List.range_zero, List.nil_append, List.foldl_cons, List.foldl_nil, nth,
    wordsTick, Nat.reduceMul, Nat.reduceAdd, Nat.reduceDiv, List.getD_cons_zero, List.getD_cons_succ, Nat.mod_eq_of_lt hh, received_same.saAt,
    received_same.saLocal, hl]
  rfl

theorem statAt_statAdd_same {a b c d : Nat} : statAt (statAdd s h a b c d) h =
    ⟨((statAt s h).frames + a) % 2 ^ 64, ((statAt s h).octets + b) % 2 ^ 64, ((statAt s h).fails + c) % 2 ^ 32,
      ((statAt s h).drops + d) % 2 ^ 32⟩ := statAt_setStat_same ..

theorem statAt_statAdd_ne {a b c d k : Nat} (hk : k ≠ h) : statAt (statAdd s h a b c d) k = statAt s k := statAt_setStat_ne _ _ hk.symm

/-! The end of the drain (R161). -/

/-- The step of one moved channel at the end of its drain. -/
def drainStep (s : State) (x : Nat × Moved) : State :=
  if !x.2.overl ∧ dueNow s x.2.until_ then
    let s := { s with assoc := { s.assoc with moved := tset ⟨0, 0, 0, true⟩ s.assoc.moved x.1 { x.2 with overl := true } } }
    match (scHandles (scAt s x.1)).map (fun h => (saAt s h).node) with
    | n :: _ => if n = nodeId s then s else fabSend s Msg.final n 0 0 (finalWords s x.1)
    | [] => s
  else s

theorem exec_migrationDrainEnd : exec .migrationDrainEnd s = done s ((toCc s 16).assoc.moved.foldl drainStep (toCc s 16)) := rfl

/-- A channel whose drain is over, or has not ended yet, stays. -/
theorem drainStep_idle {x : Nat × Moved} (h : x.2.overl = true ∨ dueNow s x.2.until_ = false) : drainStep s x = s := by
  obtain h | h := h <;> simp [drainStep, h]

/-- The old placement of a channel is over. -/
def drained (s : State) (x : Nat × Moved) : State :=
  { s with assoc := { s.assoc with moved := tset ⟨0, 0, 0, true⟩ s.assoc.moved x.1 { x.2 with overl := true } } }

/-- At the end of its drain the old placement is over, and SA_FINAL may go out. -/
theorem drainStep_ends {x : Nat × Moved} (ho : x.2.overl = false) (hd : dueNow s x.2.until_ = true) :
    Sent (drained s x) (drainStep s x) := by
  simp only [drainStep, ho, hd, Bool.not_false, and_self, if_true]
  split
  · split
    · exact .refl
    · exact fabSend_sent
  · exact .refl

theorem foldl_drainStep_idle (l : List (Nat × Moved)) (h : ∀ y ∈ l, y.2.overl = true ∨ dueNow s y.2.until_ = false) :
    l.foldl drainStep s = s := by
  induction l with
  | nil => rfl
  | cons a l ih =>
    rw [List.foldl_cons, drainStep_idle (h a (List.mem_cons_self ..))]
    exact ih fun y hy => h y (List.mem_cons_of_mem _ hy)

/-- Settles O42, clause by clause from what each message and each write leaves. -/
theorem migrations : Obligations.Migrations := by
  refine ⟨?_, ?_, ?_, ?_, ?_, ?_, ?_, ?_, ?_, ?_⟩
  · intro r v s hv ht hn ha hg
    exact runs_answered (exec_migTickWrite hv) hg (migTickEff_here hv ht hn ha) fun x =>
      ⟨rfl, rd_answered.trans (rd_wr_same ..), (migArmed_frame.mono (by simp) (by decide)).answered (by decide)⟩
  · intro r v s ht hg
    exact runs_answered rfl hg (migTickEff_second ht) fun x => ⟨rfl, Frame.refl.answered (by decide)⟩
  · intro r v s hv ht hn hr hg
    exact runs_answered (exec_migTickWrite hv) hg (migTickEff_unreached hv ht hn hr) fun x => ⟨rfl, Frame.refl.answered (by decide)⟩
  · intro r v c o s hv ht hc hn hr ha hg
    have hsent : Sent (migArmed s v) (fabSend (migArmed s v) Msg.moveCheck c 0 0 (moveCheckWords s v)) := fabSend_sent
    obtain ⟨m, hout, htyp, hdst, hwords⟩ := fabSend_out (s := migArmed s v) (typ := Msg.moveCheck) (grp := 0) (ep := 0)
      (pl := moveCheckWords s v) hr
    refine runs_answered (exec_migTickWrite hv) hg (migTickEff_asks hv ht hc hn hr ha) fun x =>
      ⟨rfl, rd_answered.trans ?_, ?_, ⟨m, hout, htyp, hdst, hwords⟩, ?_⟩
    · exact (hsent.rd K.migTick (by decide)).trans (rd_wr_same ..)
    · exact congrArg (·.migOk) hsent.assoc
    · exact Frame.answered (by decide)
        ((migArmed_frame.mono (by simp) (by decide)).trans (hsent.frame.mono (List.subset_cons_self ..) (by decide)))
  · intro m c p a b e s hm hp hc he hq ht hk
    have hmov : movable s c = true := by
      rw [movable, List.all_eq_true]
      intro h hh
      obtain ⟨hremote, hcomplete⟩ := hk h hh
      simp [hremote, hcomplete]
    have hsent : Sent (withTarget (received s m) ⟨c, p, a * 2 ^ 32 + b, e, m.src⟩) (fabSend _ Msg.moveAnswer m.src 0 0 [2 ^ 31]) := fabSend_sent
    refine runs_done (exec_saMoveCheckRx hm hp hc he hq ht hmov) ⟨hsent.target, Frame.settled ?_⟩
    exact ((received_frame.mono (by simp) (by simp)).set_fab (by decide)).trans (hsent.frame.mono (List.subset_cons_self ..) (by decide))
  · intro m s hm ht hn
    exact runs_done (exec_moveAnswerRx hm ht hn) ⟨rfl, ((received_frame.mono (by simp) (by simp)).set_assoc (by decide)).settled⟩
  · intro m h a b c d s hm hp hh hl ho hw
    have hsa (k : Nat) : saAt (settled s (setSa (received s m) h (saMoved s h (a * 2 ^ 32 + b) (c * 2 ^ 32 + d)))) k =
        saAt (setSa (received s m) h (saMoved s h (a * 2 ^ 32 + b) (c * 2 ^ 32 + d))) k := rfl
    refine runs_done (exec_saMoveRx hm hp hh hl ho hw) ⟨(hsa h).trans (saAt_setSa_same ..), fun k hk => ?_, ?_⟩
    · rw [hsa, saAt_setSa_ne _ _ hk.symm, received_same.saAt]
    · exact ((received_frame.mono (by simp) (by simp)).set_assoc (by decide)).settled
  · intro m h a b c d e f s hm hp hh hl
    have hstat (k : Nat) : statAt (settled s (statAdd (received s m) h (a * 2 ^ 32 + b) (c * 2 ^ 32 + d) e f)) k =
        statAt (statAdd (received s m) h (a * 2 ^ 32 + b) (c * 2 ^ 32 + d) e f) k := rfl
    have hadded := (hstat h).trans statAt_statAdd_same
    rw [received_same.statAt] at hadded
    refine runs_done (exec_saFinalRx hm hp hh hl) ⟨congrArg (·.frames) hadded, congrArg (·.octets) hadded, congrArg (·.fails) hadded,
      congrArg (·.drops) hadded, fun k hk => ?_, ?_⟩
    · rw [hstat, statAt_statAdd_ne hk, received_same.statAt]
    · exact ((received_frame.mono (by simp) (by simp)).trans ((statAdd_frame (s := received s m) ..).mono (by simp) (by simp))).settled
  · intro c x s hmoved ho hd
    have hsent := drainStep_ends (s := toCc s 16) (x := (c, x)) ho hd
    have hrun : exec .migrationDrainEnd s = done s (drainStep (toCc s 16) (c, x)) := by
      rw [exec_migrationDrainEnd, show (toCc s 16).assoc.moved = [(c, x)] from hmoved]
      rfl
    refine runs_done hrun ⟨?_, Frame.settled ?_⟩
    · rw [settled_assoc, hsent.assoc]
      exact tget_tset_same ..
    · exact Frame.trans (.set_assoc (x := (drained (toCc s 16) (c, x)).assoc) (by decide) (.toCc (by decide) .refl))
        (hsent.frame.mono (fun _ h => h) (by decide))
  · intro s h
    have hrun : exec .migrationDrainEnd s = done s (toCc s 16) := by
      rw [exec_migrationDrainEnd]
      exact congrArg _ (foldl_drainStep_idle _ h)
    exact runs_done hrun (Frame.refl.toCc (by decide)).settled

end
end Sys2Proof.Machine

/-! The acts of the sequencer, once a tick (R35), and the rotation of replay sync (R408). -/

namespace Sys2Proof.Machine

section
variable {s x : State} {g i off : Nat} {eff : State → State}

/-- Act `i` has run in this tick, and the clock has passed to its offset. -/
def actAt (s : State) (i off : Nat) : State := toCc { s with tick := { s.tick with ran := tset 0 s.tick.ran i (s.tick.elapsed + 1) } } off

theorem actAt_frame : Frame [] [.clock] s (actAt s i off) := .toCc (by decide) (.set_tick (by decide) .refl)

theorem oncePerTick_first (h : ranNow s i = false) : oncePerTick s i (fun s => eff (toCc s off)) = eff (actAt s i off) := by
  simp [oncePerTick, h, actAt]

theorem oncePerTick_again (h : ranNow s i = true) : oncePerTick s i eff = s := by simp [oncePerTick, h]

/-- The tick in which the rotation under way began. -/
def rotationStart (s : State) : Nat := if s.fab.syncPos = 0 then s.tick.elapsed else s.fab.syncStart

/-- The handles of this tick. -/
def replayNow (s : State) : List Nat := (replayLeft s).take (rd s K.insyncPerTick)

/-- This tick ends the rotation. -/
def rotationEnds (s : State) : Bool := decide ((replayLeft s).length ≤ rd s K.insyncPerTick)

/-- The place in the rotation after this tick. -/
def rotated (s : State) : State :=
  let s1 := if rotationEnds s && !(replayNow s).isEmpty then wr s K.insyncLag (s.tick.elapsed + 1 - rotationStart s) else s
  { s1 with fab := { s1.fab with syncPos := if rotationEnds s then 0 else (replayNow s).getLast?.getD 0 + 1, syncStart := rotationStart s } }

/-- The messages of one tick of replay sync. -/
def replayMsgs (g : Nat) (l : List (List Nat)) (s : State) : State :=
  l.foldl (fun s hs => (replayTo s g).foldl (fun s d => roleSend s g Msg.replay d (hs.flatMap (fun h => h :: toWords 2 (saAt s h).pn))) s) s

theorem replayMsgs_sent {l : List (List Nat)} : Sent x (replayMsgs g l x) :=
  foldl_sent (fun _ _ => foldl_sent (fun _ _ => roleSend_sent) _ _) _ _

/-- R408: what an active member with a standby in class 3 does. -/
def replaySync (s : State) (g : Nat) : State := replayMsgs g (pieces 85 25 (replayNow s)) (rotated s)

/-- The act of replay sync at its offset. -/
def replayAct (s : State) : State :=
  match activeEntry s with
  | none => s
  | some g =>
    if rd s K.insyncPerTick = 0 ∨ rd s K.fabVersionMax < 3 ∨ (replayTo s g).isEmpty then wr s K.insyncLag (2 ^ 32 - 1) else replaySync s g

theorem exec_replaySyncSend : exec .replaySyncSend s = done s (oncePerTick s 5 (fun s =>
    replayAct (toCc s 1024))) := rfl

theorem exec_replaySyncSend_syncs (ha : activeEntry s = some g) (hn : 0 < rd s K.insyncPerTick) (hv : 3 ≤ rd s K.fabVersionMax)
    (hd : replayTo s g ≠ []) (hr : ranNow s 5 = false) : exec .replaySyncSend s = done s (replaySync (actAt s 5 1024) g) := by
  have hact : activeEntry (actAt s 5 1024) = some g := ha
  have hskip : ¬ (rd (actAt s 5 1024) K.insyncPerTick = 0 ∨ rd (actAt s 5 1024) K.fabVersionMax < 3 ∨
      (replayTo (actAt s 5 1024) g).isEmpty = true) := by
    rw [actAt_frame.1 _ (by decide), actAt_frame.1 _ (by decide), show replayTo (actAt s 5 1024) g = replayTo s g from rfl,
      List.isEmpty_iff]
    simp only [hd, or_false]
    omega
  rw [exec_replaySyncSend, oncePerTick_first hr, replayAct, hact]
  dsimp only
  rw [if_neg hskip]

/-- R408: the last entries of a rotation leave INSYNC_LAG at its length in ticks. -/
theorem rd_replaySync_ends (hl : (replayLeft s).length ≤ rd s K.insyncPerTick) (hne : replayLeft s ≠ []) :
    rd (replaySync s g) K.insyncLag = s.tick.elapsed + 1 - rotationStart s := by
  have hnow : (replayNow s).isEmpty = false := by
    rw [replayNow, List.take_of_length_le hl]
    simpa using hne
  have hends : rotationEnds s = true := decide_eq_true hl
  rw [replaySync, replayMsgs_sent.rd _ (by decide)]
  change rd (if rotationEnds s && !(replayNow s).isEmpty then _ else s) K.insyncLag = _
  rw [if_pos (by simp [hends, hnow]), rd_wr_same]

end

/-- Entry 0 is active and sends to node 0, to which class 3 has a route; one inbound SA is local; the rotation began at tick 0 and
2^32 ticks have elapsed. -/
def longRotation : State :=
  { State.reset with
    regs := [(K.roleCtrl 0, 0x100)]
    tick := { State.reset.tick with elapsed := 2 ^ 32 }
    assoc := { State.reset.assoc with sc := [(0, { sc0 with ctrl := 2 ^ 30 })], sa := [(1, { sa0 with st := Sa.active })] }
    fab := { State.reset.fab with roles := [(0, { role0 with st := 2 })], routes := [(768, 1)], syncPos := 1 } }

/-- Refutes O41 in its clause of the end of a rotation: the clause reads INSYNC_LAG as the rotation's length in ticks modulo 2^32,
while the model writes the length itself. The two differ for a rotation that lasted 2^32 ticks, as one does that was left when the
entry lost its active role and is taken up when it is active again. -/
theorem not_leases : ¬ Obligations.Leases := by
  intro h
  obtain ⟨-, -, -, -, -, -, -, -, -, -, -, -, -, -, -, -, -, -, -, -, -, hends, -⟩ := h
  have ha : activeEntry longRotation = some 0 := by decide +kernel
  have hn : 0 < rd longRotation K.insyncPerTick := by decide +kernel
  have hv : 3 ≤ rd longRotation K.fabVersionMax := by decide +kernel
  have hd : replayTo longRotation 0 ≠ [] := by decide +kernel
  have hl : (replayLeft longRotation).length ≤ rd longRotation K.insyncPerTick := by decide +kernel
  have hne : replayLeft longRotation ≠ [] := by decide +kernel
  have hr : ranNow longRotation 5 = false := by decide +kernel
  obtain ⟨t, ht, -, hlag, -⟩ := hends 0 longRotation ha hn hv hd hl hne hr
  rw [exec_replaySyncSend_syncs ha hn hv hd hr] at ht
  have hmodel := rd_replaySync_ends (s := actAt longRotation 5 1024) (g := 0) hl hne
  rw [eq_settled_of_done ht, rd_settled, hmodel] at hlag
  change 2 ^ 32 + 1 - 0 = (2 ^ 32 + 1 - 0) % 2 ^ 32 at hlag
  omega

end Sys2Proof.Machine

/-! Heartbeats: what a pair sends, takes and judges (R394–R397), and the self-test of a standby (R402–R404). -/

namespace Sys2Proof

/-- A step that acts at one index alone. -/
theorem forNat_at {σ : Type} {f : Nat → σ → σ} {n g : Nat} {x : σ} (hg : g < n) (hbefore : ∀ k, k < n → k ≠ g → f k x = x)
    (hafter : ∀ k, k < n → k ≠ g → f k (f g x) = f g x) : forNat n f x = f g x := by
  induction n with
  | zero => omega
  | succ n ih =>
    rw [forNat]
    by_cases h : n = g
    · subst h
      have hidle : ∀ m, m ≤ n → forNat m f x = x := by
        intro m hm
        induction m with
        | zero => rfl
        | succ m ihm => rw [forNat, ihm (by omega), hbefore m (by omega) (by omega)]
      rw [hidle n le_rfl]
    · rw [ih (by omega) (fun k hk => hbefore k (by omega)) (fun k hk => hafter k (by omega)), hafter n (by omega) h]

/-- What the step at one index makes true, and the others keep. -/
theorem forNat_sets {σ : Type} {f : Nat → σ → σ} {Q P : σ → Prop} {n g : Nat} {x : σ} (hg : g < n)
    (hbefore : ∀ k y, k < n → k ≠ g → Q y → Q (f k y)) (hset : ∀ y, Q y → P (f g y))
    (hafter : ∀ k y, k < n → k ≠ g → P y → P (f k y)) (h : Q x) : P (forNat n f x) := by
  have hkept : ∀ m, m ≤ g → Q (forNat m f x) := by
    intro m hm
    induction m with
    | zero => exact h
    | succ m ih => exact hbefore m _ (by omega) (by omega) (ih (by omega))
  have hrest : ∀ m, m ≤ n → g < m → P (forNat m f x) := by
    intro m hm hgm
    induction m with
    | zero => omega
    | succ m ih =>
      by_cases he : m = g
      · subst he
        exact hset _ (hkept m le_rfl)
      · exact hafter m _ (by omega) he (ih (by omega) (by omega))
  exact hrest n le_rfl hg

namespace Machine

section
variable {s t u : State} {g k i off : Nat}

/-- An act's first coming in a tick. -/
theorem exec_act {c : Instr} {f : State → State} (hx : exec c s = done s (oncePerTick s i (fun s => f (toCc s off)))) (hr : ranNow s i = false) :
    exec c s = done s (f (actAt s i off)) := hx.trans (congrArg _ (oncePerTick_first hr))

/-! What a pair sends at cc 64. -/

/-- The driver of ACT_LOCK is refreshed where it is held (R397). -/
def lockRefreshed (s : State) : State :=
  { s with fab := { s.fab with lockAt := if s.fab.lock then s.tick.clock else s.fab.lockAt } }

theorem hbSend_other (h : rolePair s g = false) : hbSend s g = s := by simp [hbSend, h]

/-- What a pair sends is read from the registers and the role entries. -/
theorem hbBurst_congr (hr : t.regs = s.regs) (hf : t.fab.roles = s.fab.roles) : hbBurst t g = hbBurst s g := by
  simp only [hbBurst, hbFlags, nodeId, roleAt, eligible, rdBit, tickNo, rd, hr, hf]

theorem hbSet_congr (hr : t.regs = s.regs) (hf : t.fab.roles = s.fab.roles) : hbSet t g = hbSet s g := by
  simp only [hbSet, hbFlags, nodeId, roleGroup, rdField, roleEpochOf, roleAt, eligible, rdBit, tickNo, rd, hr, hf]

/-- R394, R395: a pair that may be active sends on both paths. -/
theorem hbSend_pair (hp : rolePair s g = true) (hl : roleActive (roleAt s g) = true → s.fab.lock = true) :
    hbSend s g = emit (if fabUp s (roleHbPort s g) then emit (lockRefreshed s) (.fabSet (roleHbPort s g) (hbSet s g)) else lockRefreshed s)
      (.peerHb (hbBurst s g)) := by
  have hkeep : (roleActive (roleAt s g) && !s.fab.lock) = false := by
    cases h : roleActive (roleAt s g)
    · rfl
    · simp [hl h]
  simp only [hbSend, hp, hkeep, Bool.not_true, Bool.false_eq_true, if_false]
  change emit (if fabUp s (roleHbPort s g) then emit (lockRefreshed s) (.fabSet _ (hbSet (lockRefreshed s) g)) else lockRefreshed s)
    (.peerHb (hbBurst (if fabUp s (roleHbPort s g) then emit (lockRefreshed s) _ else lockRefreshed s) g)) = _
  rw [hbSet_congr (s := s) (t := lockRefreshed s) rfl rfl, hbBurst_congr (s := s) (by split <;> rfl) (by split <;> rfl)]
  rfl

/-- What a pair leaves of an act of the sequencer, the other entries taking no part. -/
theorem forNat_pair {f : Nat → State → State} (hg : OnePair s g) (hidle : ∀ k x, rolePair x k = false → f k x = x)
    (hkept : ∀ k, k < 4 → rolePair (f g s) k = rolePair s k) : forNat 4 f s = f g s := by
  obtain ⟨hlt, -, hothers⟩ := hg
  exact forNat_at hlt (fun k hk hne => hidle k _ (hothers k hk hne)) fun k hk hne => hidle k _ ((hkept k hk).trans (hothers k hk hne))

/-- The pairs are read from ROLE_CTRL alone. -/
theorem rolePair_congr (h : rd t (K.roleCtrl k) = rd s (K.roleCtrl k)) : rolePair t k = rolePair s k := by
  simp only [rolePair, roleEn, rdBit, rdField, h]

/-- Every entry's heartbeats. -/
def hbSends (s : State) : State := forNat 4 (fun g s => hbSend s g) s

theorem exec_heartbeatSend : exec .heartbeatSend s = done s (oncePerTick s 1 (fun s => hbSends (toCc s 64))) := rfl

theorem hbSends_pair (hg : OnePair s g) (hl : roleActive (roleAt s g) = true → s.fab.lock = true) : hbSends s = hbSend s g :=
  forNat_pair hg (fun _ _ h => hbSend_other h) fun k _ => rolePair_congr (by rw [hbSend_pair hg.2.1 hl]; split <;> rfl)

theorem hbSends_none (h : ∀ k, k < 4 → rolePair s k = false) : hbSends s = s := forNat_idle 4 fun i hi => hbSend_other (h i hi)

theorem exec_heartbeatSend_pair (hg : OnePair s g) (hl : roleActive (roleAt s g) = true → s.fab.lock = true) (hr : ranNow s 1 = false) :
    exec .heartbeatSend s = done s (emit (if fabUp s (roleHbPort s g) then
        emit (lockRefreshed (actAt s 1 64)) (.fabSet (roleHbPort s g) (hbSet s g)) else lockRefreshed (actAt s 1 64))
      (.peerHb (hbBurst s g))) := by
  have hpair : hbSends (actAt s 1 64) = hbSend (actAt s 1 64) g := hbSends_pair hg hl
  rw [exec_act exec_heartbeatSend hr, hpair, hbSend_pair (s := actAt s 1 64) hg.2.1 hl, hbSet_congr (s := s) (t := actAt s 1 64) rfl rfl,
    hbBurst_congr (s := s) (t := actAt s 1 64) rfl rfl]
  rfl

theorem lockRefreshed_frame : Frame [] [.clock, .fabric] s (lockRefreshed (actAt s i off)) :=
  (actAt_frame.mono (by simp) (by simp)).set_fab (by decide)

/-- An act that does nothing lets the clock pass at most. -/
theorem runs_idleAct {c : Instr} {f : State → State} (hx : exec c s = done s (oncePerTick s i (fun s => f (toCc s off))))
    (hf : f (actAt s i off) = actAt s i off) : Runs c s (fun t => Frame [] [.clock] s t) := by
  cases hr : ranNow s i
  · refine runs_done (exec_act hx hr) (Frame.settled ?_)
    rw [hf]
    exact actAt_frame
  · rw [oncePerTick_again hr] at hx
    exact runs_done hx Frame.refl.settled

/-- What the sequencer does once a tick it does not do again. -/
theorem runs_again {c : Instr} {f : State → State} (hx : exec c s = done s (oncePerTick s i f)) (hr : ranNow s i = true) :
    Runs c s (fun t => Frame [] [] s t) := by
  rw [oncePerTick_again hr] at hx
  exact runs_done hx Frame.refl.settled

/-! HEALTH of an entry (R404). -/

/-- HEALTH as it is stored: bit 7 follows bits 5:0. -/
def healthWord (v : Nat) : Nat := v % 128 + (if v % 64 = 63 then 128 else 0)

theorem bit_mod {v n i : Nat} (h : i < n) : bit (v % 2 ^ n) i = bit v i := by
  rw [bit_eq_testBit, bit_eq_testBit, Nat.testBit_mod_two_pow, decide_eq_true h, Bool.true_and]

/-- A condition that fails leaves its bit and bit 7 clear. -/
theorem healthWord_failed {v : Nat} (hi : i < 6) (hv : bit v i = false) : bit (healthWord v) i = false ∧ bit (healthWord v) 7 = false := by
  have hall : v % 64 ≠ 63 := by
    intro h
    have hbit : bit (v % 2 ^ 6) i = bit v i := bit_mod hi
    rw [show v % 2 ^ 6 = 63 from h, hv] at hbit
    interval_cases i <;> revert hbit <;> decide
  rw [healthWord, if_neg hall, Nat.add_zero]
  refine ⟨(bit_mod (n := 7) (by omega)).trans hv, ?_⟩
  rw [bit_eq_testBit]
  exact Nat.testBit_lt_two_pow (by omega)

theorem eventKey_health (hg : g < 4) : eventKey (K.health g) = false := by
  interval_cases g <;> decide

theorem setHealth_eq {v : Nat} : setHealth s g v = if bit (healthWord v) 7 != eligible s g then
    raise (wr s (K.health g) (healthWord v)) Ev.healthChanged g 0 else wr s (K.health g) (healthWord v) := by
  have h : eligible (wr s (K.health g) (healthWord v)) g = bit (healthWord v) 7 := by rw [eligible, rdBit, rd_wr_same]
  rw [← h]
  rfl

theorem rd_setHealth {v : Nat} (hg : g < 4) : rd (setHealth s g v) (K.health g) = healthWord v := by
  rw [setHealth_eq]
  split
  · rw [rd_raise _ _ _ _ _ (by decide) (eventKey_health hg), rd_wr_same]
  · rw [rd_wr_same]

theorem setHealth_frame {v : Nat} : EvFrame [K.health g] [] s (setHealth s g v) := by
  rw [setHealth_eq]
  exact .ite (fun _ => .raise (by decide) (.wr (by simp) .refl)) (fun _ => .wr (by simp) .refl)

theorem setHealth_fab {v : Nat} : (setHealth s g v).fab = s.fab := setHealth_frame.2 .fabric (by decide)
theorem roleAt_setHealth {v : Nat} : roleAt (setHealth s g v) k = roleAt s k := by rw [roleAt, setHealth_fab, roleAt]

theorem setHealth_failed {v : Nat} (hg : g < 4) (hi : i < 6) (hv : bit v i = false) :
    rdBit (setHealth s g v) (K.health g) i = false ∧ eligible (setHealth s g v) g = false := by
  rw [eligible, rdBit, rdBit, rd_setHealth hg]
  exact healthWord_failed hi hv

/-! Taking a heartbeat (R396). -/

/-- The entry after a valid heartbeat of its peer: `low` the tick bits it carries, of `w` bits. -/
def hbNotes (s : State) (g flags low w : Nat) : RoleSt :=
  let x := roleAt s g
  { x with flags := flags, tickOk := low == tickNo s % 2 ^ w, heard := x.heard || bit flags 7,
           node := if bit flags 7 && !roleActive x && x.taking.isNone then some (rolePeer s g) else x.node }

/-- The entry notes a heartbeat; one of another tick clears TICK_OK (R404). -/
def hbKept (s : State) (g flags low w : Nat) : State :=
  let t := setRole s g (hbNotes s g flags low w)
  if low == tickNo s % 2 ^ w then t else setHealth t g (setBit (rd t (K.health g)) 3 false)

/-- An ordered set may bring a later epoch besides. -/
theorem hbTake_set {flags low w e : Nat} : Frame [K.roleEpoch g] [] (hbKept s g flags low w) (hbTake s g flags low w (some e)) := by
  change Frame _ _ _ (if _ then wr (hbKept s g flags low w) (K.roleEpoch g) _ else hbKept s g flags low w)
  exact .ite (fun _ => .wr (by simp) .refl) (fun _ => .refl)

theorem hbKept_tick {flags low w : Nat} (h : low = tickNo s % 2 ^ w) : hbKept s g flags low w = setRole s g (hbNotes s g flags low w) :=
  if_pos (by simpa using h)

theorem hbKept_otherTick {flags low w : Nat} (h : low ≠ tickNo s % 2 ^ w) : hbKept s g flags low w =
    setHealth (setRole s g (hbNotes s g flags low w)) g (setBit (rd s (K.health g)) 3 false) :=
  if_neg (by simpa using h)

/-- The entry whose peer a heartbeat may come from. -/
theorem find_entry {q : Nat → Bool} (hlt : g < 4) (hq : q g = true) (hu : ∀ k, k < 4 → k ≠ g → q k = false) :
    (List.range 4).find? q = some g := by
  rw [List.find?_range_eq_some]
  refine ⟨hq, List.mem_range.mpr hlt, fun j hj => ?_⟩
  rw [hu j (by omega) (by omega)]
  rfl

/-- The entry after a path brought a heartbeat. -/
def seenOnFabric (s : State) (g : Nat) : State := setRole s g { roleAt s g with seenF := s.tick.elapsed + 1 }
def seenOnPath (s : State) (g : Nat) : State := setRole s g { roleAt s g with seenP := s.tick.elapsed + 1 }

/-- R394: the tick and the epoch of an ordered set. -/
def setTick (set : List Byte) : Nat := nth set 9 * 65536 + nth set 10 * 256 + nth set 11
def setEpoch (set : List Byte) : Nat := nth set 12 * 256 + nth set 13

theorem exec_fabHeartbeatRx_takes {p : Nat} {set : List Byte} (hg : OnePair s g) (hp : p < 4) (hport : roleHbPort s g = p)
    (hup : fabUp s p = true) (hloop : fabLoop s p = false) (h4 : nth set 4 = 0xB5) (hcrc : crc8 ((set.drop 4).take 11) = nth set 15)
    (h5 : nth set 5 = rolePeer s g) (h6 : nth set 6 = roleGroup s g) : exec (.fabHeartbeatRx p set) s =
      done s (hbTake (wr (seenOnFabric s g) (K.peerHealth g) (nth set 8)) g (nth set 7) (setTick set) 24 (some (setEpoch set))) := by
  obtain ⟨hlt, hpair, hothers⟩ := hg
  have hfind : (List.range 4).find? (fun g => rolePair s g && roleHbPort s g == p) = some g :=
    find_entry hlt (by simp [hpair, hport]) fun k hk hne => by simp [hothers k hk hne]
  change execFabHeartbeatRx p set s = _
  simp only [execFabHeartbeatRx, hfind]
  rw [if_pos ⟨hp, hup, by simp [hloop], h4, hcrc, h5, h6⟩]
  rfl

/-- The entry and its peer's HEALTH as an ordered set of this tick leaves them. -/
theorem hbTake_set_reads {v flags low e : Nat} (h : low = tickNo s % 2 ^ 24) {T : State}
    (hT : T = hbTake (wr (seenOnFabric s g) (K.peerHealth g) v) g flags low 24 (some e)) :
    (roleAt T g).seenF = s.tick.elapsed + 1 ∧ (roleAt T g).flags = flags ∧ rd T (K.peerHealth g) = v ∧ (roleAt T g).tickOk = true ∧
      Frame [K.peerHealth g, K.roleEpoch g] [.fabric] s T := by
  have htick : tickNo (wr (seenOnFabric s g) (K.peerHealth g) v) = tickNo s :=
    rd_wr_ne _ _ (by simp only [K.peerHealth, K.tickNumber]; omega)
  have hkept := hbKept_tick (s := wr (seenOnFabric s g) (K.peerHealth g) v) (g := g) (flags := flags) (h.trans (by rw [htick]))
  have hframe := hbTake_set (s := wr (seenOnFabric s g) (K.peerHealth g) v) (g := g) (flags := flags) (low := low) (w := 24) (e := e)
  rw [← hT, hkept] at hframe
  have hrole : roleAt T g = hbNotes (wr (seenOnFabric s g) (K.peerHealth g) v) g flags low 24 := by
    rw [roleAt, show T.fab = _ from hframe.2 .fabric (by decide)]
    exact roleAt_setRole_same ..
  have hseen : (roleAt (wr (seenOnFabric s g) (K.peerHealth g) v) g).seenF = s.tick.elapsed + 1 :=
    congrArg (·.seenF) (roleAt_setRole_same s g _)
  refine ⟨?_, ?_, ?_, ?_, ?_⟩
  · rw [hrole]
    exact hseen
  · rw [hrole]
    rfl
  · rw [hframe.1 _ (by simp [K.peerHealth, K.roleEpoch])]
    exact rd_wr_same ..
  · rw [hrole]
    exact decide_eq_true (h.trans (by rw [htick]))
  · exact Frame.trans (.set_fab (by decide) (.wr (by simp) (.set_fab (by decide) .refl))) (hframe.mono (by simp) (by simp))

/-- A heartbeat that fails its CRC has no effect. -/
theorem exec_fabHeartbeatRx_bad {p : Nat} {set : List Byte} (hcrc : crc8 ((set.drop 4).take 11) ≠ nth set 15) :
    exec (.fabHeartbeatRx p set) s = done s s := by
  change execFabHeartbeatRx p set s = _
  unfold execFabHeartbeatRx
  dsimp only
  split
  · rw [if_neg fun ⟨_, _, _, _, h, _⟩ => hcrc h]
  · rfl

theorem exec_peerHbRx_takes {burst : List Byte} (hg : OnePair s g) (h0 : nth burst 0 = 0xAB)
    (hcrc : crc8 ((burst.drop 1).take 3) = nth burst 4) (h1 : nth burst 1 = rolePeer s g) :
    exec (.peerHbRx burst) s = done s (hbKept (seenOnPath s g) g (nth burst 2) (nth burst 3) 8) := by
  obtain ⟨hlt, hpair, hothers⟩ := hg
  have hfind : (List.range 4).find? (rolePair s) = some g := find_entry hlt hpair hothers
  change execPeerHbRx burst s = _
  simp only [execPeerHbRx, hfind]
  rw [if_pos ⟨h0, hcrc, h1⟩]
  rfl

/-! The judgement at cc 448 (R396, R397, R409). -/

theorem hbCheck_other (h : rolePair s g = false) : hbCheck s g = s := by simp [hbCheck, h]

/-- Every entry's judgement. -/
def hbChecks (s : State) : State := forNat 4 (fun g s => hbCheck s g) s

theorem exec_heartbeatCheck : exec .heartbeatCheck s = done s (oncePerTick s 2 (fun s => hbChecks (toCc s 448))) := rfl

theorem hbChecks_none (h : ∀ k, k < 4 → rolePair s k = false) : hbChecks s = s := forNat_idle 4 fun i hi => hbCheck_other (h i hi)

/-- The judgement of a pair, the other entries taking no part. -/
theorem exec_heartbeatCheck_pair {ks : List Nat} {ps : List Part} (hg : OnePair s g) (hr : ranNow s 2 = false)
    (hx : hbCheck (actAt s 2 448) g = u) (hf : EvFrame ks ps (actAt s 2 448) u) (hk : ∀ k, k < 4 → K.roleCtrl k ∉ ks) :
    exec .heartbeatCheck s = done s u := by
  have hpair : hbChecks (actAt s 2 448) = hbCheck (actAt s 2 448) g :=
    forNat_pair hg (fun _ _ h => hbCheck_other h) fun k hlt =>
      rolePair_congr (by rw [hx]; exact hf.1 _ (by interval_cases k <;> decide) (hk k hlt))
  rw [exec_act exec_heartbeatCheck hr, hpair, hx]

theorem pathCheck_seen {now miss good : Nat} : pathCheck now (now + 1) miss good = (0, good + 1, false) := by simp [pathCheck]

/-- A further miss is not the first. -/
theorem pathCheck_missed {now seen miss good : Nat} (h : seen ≠ now + 1) (hm : 0 < miss) :
    pathCheck now seen miss good = (miss + 1, 0, false) := by
  simp [pathCheck, h]
  omega

/-- The entry after a heartbeat on both paths. -/
def bothSeen (s : State) (g : Nat) : RoleSt :=
  { roleAt s g with missF := 0, goodF := (roleAt s g).goodF + 1, missP := 0, goodP := (roleAt s g).goodP + 1 }

/-- The entry after a further miss on both paths. -/
def bothMissed (s : State) (g : Nat) : RoleSt :=
  { roleAt s g with missF := (roleAt s g).missF + 1, goodF := 0, missP := (roleAt s g).missP + 1, goodP := 0 }

/-- Where an entry does not become active while its peer is there. -/
def staysStandby (s : State) (g : Nat) : Prop := (roleAt s g).st = 1 ∧ (eligible s g = false ∨ bit (roleAt s g).flags 7 = true)

/-- Heartbeats on both paths keep the peer. -/
theorem hbCheck_kept (hp : rolePair s g = true) (hF : (roleAt s g).seenF = s.tick.elapsed + 1) (hP : (roleAt s g).seenP = s.tick.elapsed + 1)
    (hl : (roleAt s g).lost = false) (hst : (roleAt s g).st = 2 ∨ staysStandby s g) : hbCheck s g = setRole s g (bothSeen s g) := by
  have he (x : RoleSt) : eligible (setRole s g x) g = eligible s g := rfl
  simp only [hbCheck, hp, hF, hP, pathCheck_seen, hl]
  obtain hst | ⟨hst, hb⟩ := hst
  · simp [roleActive, hst, bothSeen, hl, hF, hP]
  · obtain hb | hb := hb <;> simp [roleActive, hst, bothSeen, hl, hF, hP, hb, he]

/-- The second tick with heartbeats finds a lost peer. -/
theorem hbCheck_found (hg : g < 4) (hp : rolePair s g = true) (hF : (roleAt s g).seenF = s.tick.elapsed + 1) (hP : (roleAt s g).seenP = s.tick.elapsed + 1)
    (hl : (roleAt s g).lost = true) (hgood : 0 < (roleAt s g).goodF) (hst : staysStandby s g) : hbCheck s g =
      raise (setRole (setRole s g (bothSeen s g)) g { bothSeen s g with lost := false }) Ev.peerFound g 0 := by
  have he (y x : RoleSt) : eligible (raise (setRole (setRole s g y) g x) Ev.peerFound g 0) g = eligible s g :=
    rdBit_raise _ _ _ _ _ _ (by decide) (eventKey_health hg)
  have hr (y x : RoleSt) : roleAt (raise (setRole (setRole s g y) g x) Ev.peerFound g 0) g = x := by
    rw [roleAt, raise_fab _ _ _ _ (by decide)]
    exact roleAt_setRole_same ..
  have htwo : decide (2 ≤ (roleAt s g).goodF + 1) = true := decide_eq_true (by omega)
  obtain ⟨hst, hb⟩ := hst
  simp only [hbCheck, hp, hF, hP, pathCheck_seen, hl, htwo]
  obtain hb | hb := hb <;> simp [roleActive, hst, bothSeen, hl, hF, hP, hb, he, hr]

/-- The second miss on both paths loses the peer, and an active entry goes on alone. -/
theorem hbCheck_loses (hp : rolePair s g = true) (hF : (roleAt s g).seenF ≠ s.tick.elapsed + 1) (hP : (roleAt s g).seenP ≠ s.tick.elapsed + 1)
    (hl : (roleAt s g).lost = false) (hmF : 0 < (roleAt s g).missF) (hmP : 0 < (roleAt s g).missP) (hst : (roleAt s g).st = 2) :
    hbCheck s g = wr (setRole (raise (setRole (setRole s g (bothMissed s g)) g { bothMissed s g with lost := true }) Ev.peerLost g 0) g
      { bothMissed s g with lost := true, st := 3, resync := [] }) K.resyncLeft 0 := by
  have hr (y x : RoleSt) : roleAt (raise (setRole (setRole s g y) g x) Ev.peerLost g 0) g = x := by
    rw [roleAt, raise_fab _ _ _ _ (by decide)]
    exact roleAt_setRole_same ..
  have htwoF : decide (2 ≤ (roleAt s g).missF + 1) = true := decide_eq_true (by omega)
  have htwoP : decide (2 ≤ (roleAt s g).missP + 1) = true := decide_eq_true (by omega)
  simp only [hbCheck, hp, pathCheck_missed hF hmF, pathCheck_missed hP hmP, hl, htwoF, htwoP]
  simp [roleActive, hst, bothMissed, hl, hr]

/-- An eligible standby of a lost peer takes over where ACT_LOCK reads high, and is blocked where it reads low. -/
theorem hbCheck_takes (hp : rolePair s g = true) (hF : (roleAt s g).seenF ≠ s.tick.elapsed + 1) (hP : (roleAt s g).seenP ≠ s.tick.elapsed + 1)
    (hl : (roleAt s g).lost = true) (hmF : 0 < (roleAt s g).missF) (hmP : 0 < (roleAt s g).missP) (hst : (roleAt s g).st = 1)
    (ht : (roleAt s g).taking = none) (he : eligible s g = true) : hbCheck s g =
      if lockHigh s then takeover (setRole s g (bothMissed s g)) g
      else raise (setRole (setRole s g (bothMissed s g)) g { bothMissed s g with st := 4 }) Ev.takeoverBlocked g 0 := by
  have hlock (x : RoleSt) : lockHigh (setRole s g x) = lockHigh s := rfl
  have he' (x : RoleSt) : eligible (setRole s g x) g = true := he
  simp only [hbCheck, hp, pathCheck_missed hF hmF, pathCheck_missed hP hmP, hl]
  simp [roleActive, hst, bothMissed, hl, ht, he', hlock]

/-- An entry that has taken over from `old` (R409). -/
def tookOverEntry (s : State) (g old : Nat) : RoleSt :=
  { roleAt s g with st := 1, node := some (nodeId s), taking := some old, claiming := false, lapsed := false, takeAt := s.tick.clock }

/-- A pair's entry has taken over from `old`, before it says so (R409). -/
def tookOver (s : State) (g old : Nat) : State :=
  let t := setRole (wr s (K.roleEpoch g) ((roleEpochOf s g + 1) % 2 ^ 32)) g (tookOverEntry s g old)
  { t with fab := { t.fab with lock := true, lockAt := s.tick.clock } }

/-- ROLE_TAKEOVER goes out to every node. -/
def announced (s : State) (g : Nat) : State := fabCast s Msg.takeover (roleGroup s g) (roleEpochOf s g) (roleWords s g)

theorem takeover_pair (hp : rolePair s g = true) (hc : classBlocked s g = false) (hb : busyElsewhere s g = false) :
    ∃ old, takeover s g = announced (tookOver s g old) g := by
  unfold takeover
  extract_lets x pair old t e t1 f t2
  rw [if_neg (by simp [hc]), if_neg (by simp [hb])]
  refine ⟨old, ?_⟩
  have ht : t2 = tookOver s g old := by
    have hn : nodeId t = nodeId s := rd_wr_ne _ _ (by simp only [K.roleEpoch, K.fabNodeId]; omega)
    change (if pair = true then _ else t1) = _
    rw [if_pos hp, tookOver, tookOverEntry, ← hn]
    rfl
  rw [← ht]
  rfl

theorem tookOver_frame {old : Nat} : Frame [K.roleEpoch g] [.fabric] s (tookOver s g old) :=
  .set_fab (by decide) (.set_fab (by decide) (.wr (by simp) .refl))

theorem busyElsewhere_setRole {x : RoleSt} : busyElsewhere (setRole s g x) g = busyElsewhere s g := by
  have hrole (k : Nat) : (k != g && (roleActive (roleAt (setRole s g x) k) || (roleAt (setRole s g x) k).taking.isSome)) =
      (k != g && (roleActive (roleAt s k) || (roleAt s k).taking.isSome)) := by
    by_cases hk : k = g
    · simp [hk]
    · rw [roleAt_setRole_ne _ _ (Ne.symm hk)]
  simp only [busyElsewhere, hrole]

theorem not_mem_txKeys (h : msgKey k = false) : k ∉ txKeys := fun hm => by
  rw [msgKey_of_mem_txKeys hm] at h
  cases h

/-- What the takeover of a pair leaves (R409). -/
theorem takeover_reads (hp : rolePair s g = true) (hc : classBlocked s g = false) (hb : busyElsewhere s g = false) :
    (roleAt (takeover s g) g).taking.isSome = true ∧ (roleAt (takeover s g) g).node = some (nodeId s) ∧
    (takeover s g).fab.lock = true ∧ rd (takeover s g) (K.roleEpoch g) = (roleEpochOf s g + 1) % 2 ^ 32 ∧
    Frame (K.roleEpoch g :: txKeys) [.fabric, .out] s (takeover s g) := by
  obtain ⟨old, he⟩ := takeover_pair hp hc hb
  have hsent : Sent (tookOver s g old) (takeover s g) := by
    rw [he]
    exact fabCast_sent
  have hrole : roleAt (takeover s g) g = tookOverEntry s g old :=
    hsent.roleAt.trans (roleAt_setRole_same (wr s (K.roleEpoch g) ((roleEpochOf s g + 1) % 2 ^ 32)) g (tookOverEntry s g old))
  refine ⟨?_, ?_, hsent.lock, ?_, ?_⟩
  · rw [hrole]
    rfl
  · rw [hrole]
    rfl
  · rw [hsent.rd _ (msgKey_of_page (by simp only [K.roleEpoch]; omega))]
    exact rd_wr_same ..
  · exact (tookOver_frame.mono (by simp) (by simp)).trans (hsent.frame.mono (by simp) (by simp))

/-! The self-test of a standby (R403, R404). -/

/-- The entry is enabled, in a standby role. -/
def testedEntry (s : State) (g : Nat) : Bool := roleEn s g && roleStandby (roleAt s g)

/-- The faults a step finds: those of its slice or of its handles. -/
def stepFaults (s : State) (sliceOk : Bool) : Nat :=
  let n := s.fab.selfStep
  let hs := if n < 8 then [] else (s.assoc.sa.map (·.1)).filter (fun h => decide ((n - 8) * 1024 ≤ h) && decide (h < (n - 8) * 1024 + 1024))
  hs.foldl (fun a h => Nat.lor a (handleFaults s h)) (if n < 8 ∧ !sliceOk then 1 else 0)

/-- What a step that found the faults `f1` does to an entry. -/
def entryTested (n f1 g : Nat) (s : State) : State :=
  if testedEntry s g then
    let f := Nat.lor f1 (if classBlocked s g then 127 else healthFaults s g)
    let x := roleAt s g
    let all := Nat.lor x.fails f
    let h := Nat.land (rd s (K.health g) % 128) (127 - f % 128)
    let h := if n = 135 then Nat.lor h (127 - all % 128) else h
    setHealth (setRole s g { x with fails := if n = 135 then 0 else all }) g h
  else s

/-- One step of the self-test. -/
def selfTested (sliceOk : Bool) (s : State) : State :=
  let s1 := forNat 4 (entryTested s.fab.selfStep (stepFaults s sliceOk)) s
  { s1 with fab := { s1.fab with selfStep := (s.fab.selfStep + 1) % 136 } }

theorem exec_standbySelftestStep {b : Bool} : exec (.standbySelftestStep b) s =
    done s (if !(List.range 4).any (testedEntry s) then s else bgStep s 5 (selfTested b)) := rfl

theorem entryTested_frame {n f1 : Nat} : EvFrame [K.health g] [.fabric] s (entryTested n f1 g s) := by
  unfold entryTested
  dsimp only
  split
  · exact (EvFrame.refl.set_fab (by decide)).trans (setHealth_frame.mono (by simp) (by simp))
  · exact .refl

/-- A step at another entry leaves this one's test and health. -/
theorem entryTested_other {n f1 : Nat} (hg : g < 4) (hne : k ≠ g) :
    testedEntry (entryTested n f1 k s) g = testedEntry s g ∧ rd (entryTested n f1 k s) (K.health g) = rd s (K.health g) := by
  have hframe := entryTested_frame (s := s) (g := k) (n := n) (f1 := f1)
  have hctrl : rd (entryTested n f1 k s) (K.roleCtrl g) = rd s (K.roleCtrl g) :=
    hframe.1 _ (by interval_cases g <;> decide) (by simp [K.roleCtrl, K.health]; omega)
  have hrole : roleAt (entryTested n f1 k s) g = roleAt s g := by
    unfold entryTested
    dsimp only
    split
    · rw [roleAt_setHealth, roleAt_setRole_ne _ _ hne]
    · rfl
  refine ⟨by simp only [testedEntry, roleEn, rdBit, hctrl, hrole], hframe.1 _ (eventKey_health hg) ?_⟩
  simp only [K.health, List.mem_singleton]
  omega

/-- What is masked with a fault of bit 0 left out has bit 0 clear. -/
theorem bit_land_fault {a f : Nat} (hf : f % 2 = 1) : bit (Nat.land a (127 - f % 128)) 0 = false := by
  have hmask : (127 - f % 128).testBit 0 = false := by
    rw [Nat.testBit_zero]
    simp only [decide_eq_false_iff_not]
    omega
  rw [bit_eq_testBit, show Nat.land a (127 - f % 128) = a &&& (127 - f % 128) from rfl, Nat.testBit_and, hmask, Bool.and_false]

theorem odd_lor {a b : Nat} (h : a % 2 = 1) : Nat.lor a b % 2 = 1 := by
  have hbit : (a ||| b).testBit 0 = true := by
    rw [Nat.testBit_or, Nat.testBit_zero, h]
    rfl
  rw [Nat.testBit_zero] at hbit
  exact of_decide_eq_true hbit

/-- A fault of bit 0 clears bit 0 and bit 7 of a tested entry's HEALTH. -/
theorem entryTested_fails {n f1 : Nat} (hg : g < 4) (ht : testedEntry s g = true) (hn : n ≠ 135) (hf : f1 % 2 = 1) :
    rdBit (entryTested n f1 g s) (K.health g) 0 = false ∧ eligible (entryTested n f1 g s) g = false := by
  unfold entryTested
  dsimp only
  simp only [if_pos ht, if_neg hn]
  exact setHealth_failed hg (by decide) (bit_land_fault (odd_lor hf))

/-- A failed slice is fault 0. -/
theorem stepFaults_slice (h : s.fab.selfStep < 8) : stepFaults s false = 1 := by simp [stepFaults, h]

theorem entriesTested_frame {n f1 : Nat} : EvFrame ((List.range 4).map K.health) [.fabric] s (forNat 4 (entryTested n f1) s) :=
  forNat_rel (R := EvFrame ((List.range 4).map K.health) [.fabric]) (fun _ => .refl) .trans 4
    (fun g hg x => entryTested_frame.mono (by simpa using ⟨g, hg, rfl⟩) (by simp)) s

theorem selfTested_frame {b : Bool} : EvFrame ((List.range 4).map K.health) [.fabric] s (selfTested b s) :=
  entriesTested_frame.set_fab (by decide)

/-- A failed slice clears bit 0 and ELIGIBLE of every tested entry. -/
theorem selfTested_fails (hg : g < 4) (ht : testedEntry s g = true) (hn : s.fab.selfStep < 8) :
    rdBit (selfTested false s) (K.health g) 0 = false ∧ eligible (selfTested false s) g = false :=
  forNat_sets (Q := fun x => testedEntry x g = true) (P := fun x => rdBit x (K.health g) 0 = false ∧ eligible x g = false)
    (f := entryTested s.fab.selfStep (stepFaults s false)) hg
    (fun k y _ hne h => (entryTested_other hg hne).1.trans h)
    (fun y h => entryTested_fails hg h (by omega) (by rw [stepFaults_slice hn]))
    (fun k y _ hne h => by
      simp only [eligible, rdBit, (entryTested_other hg hne).2]
      exact h) ht

/-- The step of a standby in its slot of the tick. -/
theorem exec_standbySelftestStep_tested {b : Bool} (hg : g < 4) (ht : testedEntry s g = true) (hb : bgSlot s 5 ≠ none) :
    ∃ x, exec (.standbySelftestStep b) s = done s (selfTested b x) ∧ Frame [K.bgHighWater] [.clock, .perf] s x := by
  have hany : (List.range 4).any (testedEntry s) = true := List.any_eq_true.mpr ⟨g, List.mem_range.mpr hg, ht⟩
  obtain ⟨off, he⟩ := bgStep_some (eff := selfTested b) hb
  refine ⟨bgRun s 5 off true, ?_, bgRun_frame⟩
  rw [exec_standbySelftestStep, hany, he]
  rfl

theorem selfTested_keys {b : Bool} {x : State} (h : Frame [K.bgHighWater] [.clock, .perf] s x) :
    EvFrame (K.bgHighWater :: (List.range 4).map K.health) [.clock, .fabric] s (selfTested b x) :=
  (h.ev (by simp) (by decide)).trans (selfTested_frame.mono (List.subset_cons_self ..) (by decide))

theorem testedEntry_bgRun {x : State} (hg : g < 4) (h : Frame [K.bgHighWater] [.clock, .perf] s x) : testedEntry x g = testedEntry s g := by
  have hfab : x.fab = s.fab := h.2 .fabric (by decide)
  have hctrl : rd x (K.roleCtrl g) = rd s (K.roleCtrl g) := h.1 _ (by interval_cases g <;> decide)
  simp only [testedEntry, roleEn, rdBit, roleAt, hfab, hctrl]

theorem roleAt_settled {z : State} : roleAt (settled z s) g = roleAt s g := rfl
theorem roleAt_raise {src a b : Nat} (h : src < 384) : roleAt (raise s src a b) g = roleAt s g := by
  rw [roleAt, raise_fab _ _ _ _ h, roleAt]

/-- Settles O40, clause by clause from what each act leaves. -/
theorem heartbeats : Obligations.Heartbeats := by
  refine ⟨?_, ?_, ?_, ?_, ?_, ?_, ?_, ?_, ?_, ?_, ?_, ?_, ?_, ?_, ?_, ?_, ?_, ?_⟩
  · intro g s hg hl hup hr
    have hx := exec_heartbeatSend_pair hg hl hr
    rw [if_pos hup] at hx
    refine runs_done hx ⟨rfl, rfl, fun h => ?_, ?_⟩
    · exact if_pos h
    · exact (((lockRefreshed_frame.mono (by simp) (by simp)).emit (by decide)).emit (by decide)).settled
  · intro g s hg hl hup hr
    have hx := exec_heartbeatSend_pair hg hl hr
    rw [if_neg (by simp [hup])] at hx
    exact runs_done hx ⟨rfl, ((lockRefreshed_frame.mono (by simp) (by simp)).emit (by decide)).settled⟩
  · intro s h
    exact runs_idleAct exec_heartbeatSend (hbSends_none h)
  · intro s h
    exact runs_idleAct exec_heartbeatCheck (hbChecks_none h)
  · intro g s hg hF hP hl hst hr
    have hframe : Frame [] [.fabric] (actAt s 2 448) (setRole (actAt s 2 448) g (bothSeen (actAt s 2 448) g)) := .set_fab (by decide) .refl
    have hrun := exec_heartbeatCheck_pair hg hr (hbCheck_kept (s := actAt s 2 448) hg.2.1 hF hP hl hst) hframe.toEv (by simp)
    have hrole : roleAt (settled s (setRole (actAt s 2 448) g (bothSeen (actAt s 2 448) g))) g = bothSeen s g :=
      roleAt_settled.trans (roleAt_setRole_same ..)
    refine runs_done hrun ?_
    rw [hrole]
    exact ⟨rfl, rfl, rfl, rfl, hl, rfl, ((actAt_frame.mono (by simp) (by simp)).trans (hframe.mono (by simp) (by simp))).settled⟩
  · intro g s hg hF hP hl hgood hst hb hr
    have hframe : EvFrame [] [.fabric] (actAt s 2 448) (raise (setRole (setRole (actAt s 2 448) g (bothSeen (actAt s 2 448) g)) g
        { bothSeen (actAt s 2 448) g with lost := false }) Ev.peerFound g 0) :=
      .raise (by decide) (.set_fab (by decide) (.set_fab (by decide) .refl))
    have hrun := exec_heartbeatCheck_pair hg hr (hbCheck_found (s := actAt s 2 448) hg.1 hg.2.1 hF hP hl hgood ⟨hst, hb⟩) hframe (by simp)
    have hrole : roleAt (settled s (raise (setRole (setRole (actAt s 2 448) g (bothSeen (actAt s 2 448) g)) g
        { bothSeen (actAt s 2 448) g with lost := false }) Ev.peerFound g 0)) g = { bothSeen s g with lost := false } :=
      roleAt_settled.trans ((roleAt_raise (by decide)).trans (roleAt_setRole_same ..))
    refine runs_done hrun ?_
    rw [hrole]
    exact ⟨rfl, hst, raise_sets_pending _ _ _ _ (by decide),
      ((actAt_frame.toEv.mono (by simp) (by simp)).trans (hframe.mono (by simp) (by simp))).settled⟩
  · intro p g set s hg hp hport hup hloop h4 hcrc h5 h6 htick
    obtain ⟨hseen, hflags, hhealth, hok, hframe⟩ := hbTake_set_reads (s := s) (g := g) (v := nth set 8) (flags := nth set 7)
      (low := setTick set) (e := setEpoch set) htick rfl
    exact runs_done (exec_fabHeartbeatRx_takes hg hp hport hup hloop h4 hcrc h5 h6)
      ⟨hseen, hflags, hhealth, hok, hframe.settled⟩
  · intro p set s hcrc
    exact runs_done (exec_fabHeartbeatRx_bad hcrc) Frame.refl.settled
  · intro g set s hg h0 hcrc h1 htick
    have hrole : roleAt (settled s (setRole (seenOnPath s g) g (hbNotes (seenOnPath s g) g (nth set 2) (nth set 3) 8))) g =
        hbNotes (seenOnPath s g) g (nth set 2) (nth set 3) 8 := roleAt_settled.trans (roleAt_setRole_same ..)
    have hx := exec_peerHbRx_takes hg h0 hcrc h1
    rw [hbKept_tick (s := seenOnPath s g) htick] at hx
    refine runs_done hx ?_
    rw [hrole]
    exact ⟨congrArg (·.seenP) (roleAt_setRole_same s g _), rfl, decide_eq_true htick,
      (Frame.set_fab (by decide) (.set_fab (by decide) .refl)).settled⟩
  · intro g set s hg h0 hcrc h1 htick
    have hx := exec_peerHbRx_takes hg h0 hcrc h1
    rw [hbKept_otherTick (s := seenOnPath s g) htick] at hx
    obtain ⟨hbit, helig⟩ := setHealth_failed (s := setRole (seenOnPath s g) g (hbNotes (seenOnPath s g) g (nth set 2) (nth set 3) 8))
      (g := g) (i := 3) hg.1 (by decide) (bit_setBit_same (rd (seenOnPath s g) (K.health g)) 3 false)
    refine runs_done hx ⟨?_, hbit, helig, ?_⟩
    · rw [roleAt_settled, roleAt_setHealth, roleAt_setRole_same]
      exact decide_eq_false htick
    · exact ((EvFrame.set_fab (by decide) (.set_fab (by decide) .refl)).trans (setHealth_frame.mono (by simp) (by simp))).settled
  · intro g s hg hmF hmP hl hst hF hP hr
    have hx := hbCheck_loses (s := actAt s 2 448) hg.2.1 hF hP hl (show 0 < (roleAt s g).missF by omega)
      (show 0 < (roleAt s g).missP by omega) hst
    have hframe : EvFrame [K.resyncLeft] [.fabric] (actAt s 2 448) (hbCheck (actAt s 2 448) g) := by
      rw [hx]
      exact .wr (by simp) (.set_fab (by decide) (.raise (by decide) (.set_fab (by decide) (.set_fab (by decide) .refl))))
    have hrun := exec_heartbeatCheck_pair hg hr rfl hframe (fun k hk => by simp [K.roleCtrl, K.resyncLeft]; omega)
    have hrole : roleAt (hbCheck (actAt s 2 448) g) g = { bothMissed s g with lost := true, st := 3, resync := [] } := by
      rw [hx]
      exact roleAt_setRole_same ..
    refine runs_done hrun ⟨?_, ?_, ?_, ?_, ?_⟩
    · rw [roleAt_settled, hrole]
    · rw [roleAt_settled, hrole]
    · rw [rd_settled, hx, rd_wr_same]
    · refine Pending.settled ?_
      rw [hx, Pending, rdBit_wr_ne (by decide)]
      exact raise_sets_pending _ _ _ _ (by decide)
    · exact ((actAt_frame.toEv.mono (by simp) (by simp)).trans (hframe.mono (by simp) (by simp))).settled
  · intro g s hg hmF hmP hl hst ht hF hP he hc hb hr
    have hx := hbCheck_takes (s := actAt s 2 448) hg.2.1 hF hP hl hmF hmP hst ht he
    have hb' : busyElsewhere (setRole (actAt s 2 448) g (bothMissed (actAt s 2 448) g)) g = false := busyElsewhere_setRole.trans hb
    obtain ⟨htaking, hnode, hlock, hepoch, htframe⟩ :=
      takeover_reads (s := setRole (actAt s 2 448) g (bothMissed (actAt s 2 448) g)) hg.2.1 hc hb'
    have hrole : roleAt (raise (setRole (setRole (actAt s 2 448) g (bothMissed (actAt s 2 448) g)) g
        { bothMissed (actAt s 2 448) g with st := 4 }) Ev.takeoverBlocked g 0) g = { bothMissed s g with st := 4 } :=
      (roleAt_raise (by decide)).trans (roleAt_setRole_same ..)
    have hframe : EvFrame (K.roleEpoch g :: txKeys) [.fabric, .out] (actAt s 2 448) (hbCheck (actAt s 2 448) g) := by
      rw [hx]
      exact .ite (fun _ => (EvFrame.set_fab (by decide) .refl).trans htframe.toEv)
        (fun _ => .raise (by decide) (.set_fab (by decide) (.set_fab (by decide) .refl)))
    have hrun := exec_heartbeatCheck_pair hg hr rfl hframe (fun k _ => List.not_mem_cons_of_ne_of_not_mem
      (by simp only [K.roleCtrl, K.roleEpoch]; omega) (not_mem_txKeys (msgKey_of_page (by simp only [K.roleCtrl]; omega))))
    refine runs_done hrun ⟨fun h => ?_, fun h => ?_, ?_⟩
    · have hu : hbCheck (actAt s 2 448) g = takeover (setRole (actAt s 2 448) g (bothMissed (actAt s 2 448) g)) g := hx.trans (if_pos h)
      rw [roleAt_settled, rd_settled, settled_fab, hu]
      exact ⟨htaking, hnode, hlock, hepoch⟩
    · have hu : hbCheck (actAt s 2 448) g = _ := hx.trans (if_neg (by rw [show lockHigh (actAt s 2 448) = false from h]; simp))
      rw [roleAt_settled, hu, hrole]
      exact ⟨rfl, ht, Pending.settled (raise_sets_pending _ _ _ _ (by decide))⟩
    · exact ((actAt_frame.toEv.mono (by simp) (by simp)).trans (hframe.mono (by simp) (by simp))).settled
  · intro i c s hi hr
    simp only [List.mem_cons, List.not_mem_nil, or_false, Prod.mk.injEq] at hi
    obtain ⟨rfl, rfl⟩ | ⟨rfl, rfl⟩ | ⟨rfl, rfl⟩ | ⟨rfl, rfl⟩ | ⟨rfl, rfl⟩ := hi
    · exact runs_again rfl hr
    · exact runs_again rfl hr
    · exact runs_again rfl hr
    · exact runs_again rfl hr
    · exact runs_again rfl hr
  · intro s h
    refine runs_done (if_pos h |> congrArg (done s)) ⟨rfl, ((Frame.refl (s := s)).set_fab (by decide)).settled⟩
  · intro s h
    exact runs_done ((if_neg (by omega)) |> congrArg (done s)) ⟨rfl, Frame.refl.settled⟩
  · intro g s hg hen hst hn hb
    have ht : testedEntry s g = true := by rw [testedEntry, hen, hst]; rfl
    obtain ⟨x, hx, hframe⟩ := exec_standbySelftestStep_tested (b := false) hg ht hb
    have hfab : x.fab = s.fab := hframe.2 .fabric (by decide)
    obtain ⟨hbit, helig⟩ := selfTested_fails hg ((testedEntry_bgRun hg hframe).trans ht) (by rw [hfab]; exact hn)
    refine runs_done hx ⟨hbit, helig, ?_, (selfTested_keys hframe).settled⟩
    rw [settled_fab]
    change (x.fab.selfStep + 1) % 136 = _
    rw [hfab, Nat.mod_eq_of_lt (by omega)]
  · intro b g s hg hen hst hb
    have ht : testedEntry s g = true := by rw [testedEntry, hen, hst]; rfl
    obtain ⟨x, hx, hframe⟩ := exec_standbySelftestStep_tested (b := b) hg ht hb
    have hfab : x.fab = s.fab := hframe.2 .fabric (by decide)
    refine runs_done hx ⟨?_, (selfTested_keys hframe).settled⟩
    rw [settled_fab]
    change (x.fab.selfStep + 1) % 136 = _
    rw [hfab]
  · intro b s h
    have hnone : (List.range 4).any (testedEntry s) = false := by
      rw [List.any_eq_false]
      intro g hg
      obtain h | h := h g (List.mem_range.mp hg) <;> simp [testedEntry, h]
    have hx := exec_standbySelftestStep (s := s) (b := b)
    rw [hnone] at hx
    exact runs_done hx Frame.refl.settled

end
end Machine
end Sys2Proof

/-! The ports of the fabric (R67–R73): what their control, their clock, their lanes and their alignment change. -/

namespace Sys2Proof.Machine

section
variable {s t u : State} {p k n v d : Nat}

/-! What stays pending. -/

theorem Pending.raise {src a b : Nat} (hs : src < 384) (h : Pending s n) : Pending (raise s src a b) n :=
  (raise_frame s src a b hs).bits _ _ h

/-! A domain's bit of CLK_LOCKED (R52). -/

theorem clkFall_frame : EvFrame [K.clkLocked, K.clkLost] [] s (clkFall s d) := by
  unfold clkFall
  exact .ite (fun _ => .raise (by decide) (.wrBit (by simp) (.wrBit (by simp) .refl))) (fun _ => .refl)

theorem clkFall_clears : rdBit (clkFall s d) K.clkLocked d = false := by
  unfold clkFall
  split
  · rw [rdBit_raise _ _ _ _ _ _ (by decide) (by decide), wrBit, rdBit_wr_ne (by decide), rdBit_wrBit_same]
  · next h => simpa using h

theorem Pending.clkFall (h : Pending s n) : Pending (clkFall s d) n := by
  unfold Machine.clkFall
  split
  · exact ((h.wr (by decide)).wr (by decide)).raise (by decide)
  · exact h

/-- The fall of a bit that read 1 shows in CLK_LOST and is raised. -/
theorem clkFall_raises (h : rdBit s K.clkLocked d = true) : rdBit (clkFall s d) K.clkLost d = true ∧ Pending (clkFall s d) Ev.clockLost := by
  unfold Machine.clkFall
  rw [if_pos h]
  exact ⟨by rw [rdBit_raise _ _ _ _ _ _ (by decide) (by decide), rdBit_wrBit_same], raise_sets_pending _ _ _ _ (by decide)⟩

/-! A port comes up and goes down (R73). -/

/-- The port carries traffic, and its six conditions hold. -/
def fabReady (s : State) (p : Nat) : Bool := fabOn s p && rdField s (K.fabStatus p) 5 0 == 63

theorem fabRefresh_frame : Frame [K.fabStatus p, K.linkStatus p] [.fabric] s (fabRefresh s p) := by
  unfold fabRefresh
  exact .ite (fun _ => .set_fab (by decide) (.wr (by simp) (.wrBit (by simp) .refl))) (fun _ => .wrBit (by simp) .refl)

theorem rd_fabRefresh : rd (fabRefresh s p) (K.fabStatus p) = setBit (rd s (K.fabStatus p)) 6 (fabReady s p) := by
  have hkey : K.linkStatus p ≠ K.fabStatus p := by simp only [K.linkStatus, K.fabStatus]; omega
  unfold fabRefresh
  dsimp only
  split
  · exact (rd_wr_ne _ _ hkey).trans (rd_wr_same ..)
  · exact rd_wr_same ..

theorem fabUp_fabRefresh : fabUp (fabRefresh s p) p = fabReady s p := by rw [fabUp, rdBit, rd_fabRefresh, bit_setBit_same]

/-- The other bits of FAB_STATUS stay. -/
theorem rdBit_fabRefresh {i : Nat} (hi : i ≠ 6) : rdBit (fabRefresh s p) (K.fabStatus p) i = rdBit s (K.fabStatus p) i := by
  rw [rdBit, rd_fabRefresh, bit_setBit_ne _ _ hi.symm, rdBit]

theorem rdField_fabRefresh : rdField (fabRefresh s p) (K.fabStatus p) 5 0 = rdField s (K.fabStatus p) 5 0 := by
  rw [rdField, rd_fabRefresh, bits_setBit_ne _ _ _ _ _ (by decide), rdField]

/-- A port with a condition unmet is down. -/
theorem fabReady_false {i : Nat} (hi : i < 6) (h : rdBit s (K.fabStatus p) i = false) : fabReady s p = false := by
  have hne : rdField s (K.fabStatus p) 5 0 ≠ 63 := by
    intro hall
    rw [rdBit, bit_eq_testBit] at h
    have hbit := bits_testBit (rd s (K.fabStatus p)) 5 0 i
    rw [show bits (rd s (K.fabStatus p)) 5 0 = 63 from hall, Nat.zero_add, h, Bool.and_false] at hbit
    interval_cases i <;> revert hbit <;> decide
  simp [fabReady, hne]

/-- A port that has found nothing shows nothing. -/
theorem fabStatus_cleared (h : rdField s (K.fabStatus p) 5 0 = 0) : rdField (fabRefresh s p) (K.fabStatus p) 6 0 = 0 := by
  have hlow : rdField (fabRefresh s p) (K.fabStatus p) 5 0 = 0 := rdField_fabRefresh.trans h
  have hup : rdBit (fabRefresh s p) (K.fabStatus p) 6 = false := by
    have hready : fabReady s p = false := by simp [fabReady, h]
    exact fabUp_fabRefresh.trans hready
  simp only [rdField, rdBit, bits, bit] at hlow hup ⊢
  simp at hlow hup ⊢
  omega

/-! FAB_CTRL (R78, R80). -/

/-- FAB_CTRL holds its defined bits, and nothing loops back. -/
def ctrlStored (p v : Nat) (s : State) : State :=
  wr { s with fab := { s.fab with looped := tset [] s.fab.looped p [] } } (K.fabCtrl p) (Nat.land v 0xFF7)

/-- Out of test, the port's checkers read 0. -/
def checkersCleared (p v : Nat) (s : State) : State :=
  if bit v 1 then s else forNat 4 (fun d s => wr s (K.chkStatus (64 + 4 * p + d)) 0) s

/-- A port that is off, or in test, has nothing in sync; one that is off has no clock either. -/
def portCleared (p v : Nat) (s : State) : State :=
  if !bit v 0 && !bit v 1 then wrBit (wrField s (K.fabStatus p) 5 0 0) K.clkLocked (18 + p) false
  else if bit v 1 || !bit v 0 then wrBit (wrField s (K.fabStatus p) 3 0 0) (K.fabStatus p) 5 false
  else s

theorem fabCtrlEff_eq : fabCtrlEff p v s = okR (fabRefresh (portCleared p v (checkersCleared p v (ctrlStored p v s))) p) := by
  change (if (!bit v 0 && !bit v 1) = true then _ else if (bit v 1 || !bit v 0) = true then _ else _) = _
  unfold portCleared
  split
  · rfl
  · split <;> rfl

/-- The keys of the checkers of a port's lanes. -/
def checkerKeys (p : Nat) : List Nat := (List.range 4).map (fun d => K.chkStatus (64 + 4 * p + d))

theorem checkersCleared_frame : Frame (checkerKeys p) [] s (checkersCleared p v s) := by
  unfold checkersCleared
  refine .ite (fun _ => .refl) fun _ => ?_
  exact forNat_rel (R := Frame (checkerKeys p) []) (f := fun d s => wr s (K.chkStatus (64 + 4 * p + d)) 0) (fun _ => .refl) .trans 4
    (fun d hd x => .wr (List.mem_map.mpr ⟨d, List.mem_range.mpr hd, rfl⟩) .refl) s

theorem portCleared_frame : Frame [K.fabStatus p, K.clkLocked] [] s (portCleared p v s) := by
  unfold portCleared
  exact .ite (fun _ => .wrBit (by simp) (.wrField (by simp) .refl))
    (fun _ => .ite (fun _ => .wrBit (by simp) (.wrField (by simp) .refl)) (fun _ => .refl))

theorem rd_checkersCleared (hv : bit v 1 = false) (hd : d < 4) : rd (checkersCleared p v s) (K.chkStatus (64 + 4 * p + d)) = 0 := by
  unfold checkersCleared
  rw [if_neg (by simp [hv])]
  refine forNat_sets (Q := fun _ => True) (P := fun x => rd x (K.chkStatus (64 + 4 * p + d)) = 0)
    (f := fun d s => wr s (K.chkStatus (64 + 4 * p + d)) 0) hd (fun _ _ _ _ h => h) (fun _ _ => rd_wr_same ..) (fun k y _ hne h => ?_) trivial
  exact (rd_wr_ne _ _ (by simp only [K.chkStatus]; omega)).trans h

/-- The keys a write of FAB_CTRL may change. -/
def fabCtrlKeys (p : Nat) : List Nat := [K.fabCtrl p, K.fabStatus p, K.linkStatus p, K.clkLocked] ++ checkerKeys p

theorem fabCtrl_frame : Frame (fabCtrlKeys p) [.fabric] s (fabRefresh (portCleared p v (checkersCleared p v (ctrlStored p v s))) p) := by
  have hctrl : Frame (fabCtrlKeys p) [.fabric] s (ctrlStored p v s) := .wr (by simp [fabCtrlKeys]) (.set_fab (by decide) .refl)
  refine ((hctrl.trans (checkersCleared_frame.mono ?_ (by simp))).trans (portCleared_frame.mono ?_ (by simp))).trans
    (fabRefresh_frame.mono ?_ (by simp))
  · exact List.subset_append_right ..
  · simp [fabCtrlKeys]
  · simp [fabCtrlKeys]

theorem rd_fabCtrl (hp : p < 4) : rd (fabRefresh (portCleared p v (checkersCleared p v (ctrlStored p v s))) p) (K.fabCtrl p) = Nat.land v 0xFF7 := by
  have hrest : K.fabCtrl p ∉ checkerKeys p := by
    simp [checkerKeys, K.fabCtrl, K.chkStatus]
    omega
  have hstatus : K.fabCtrl p ∉ [K.fabStatus p, K.linkStatus p] ∧ K.fabCtrl p ∉ [K.fabStatus p, K.clkLocked] := by
    simp only [List.mem_cons, List.not_mem_nil, K.fabCtrl, K.fabStatus, K.linkStatus, K.clkLocked, or_false]
    omega
  rw [fabRefresh_frame.1 _ hstatus.1, portCleared_frame.1 _ hstatus.2, checkersCleared_frame.1 _ hrest]
  exact rd_wr_same ..

/-- The checkers' words stay through the rest of the write. -/
theorem rd_fabCtrl_chkStatus (hd : d < 4) (hv : bit v 1 = false) :
    rd (fabRefresh (portCleared p v (checkersCleared p v (ctrlStored p v s))) p) (K.chkStatus (64 + 4 * p + d)) = 0 := by
  rw [fabRefresh_frame.1 _ (by simp [K.chkStatus, K.fabStatus, K.linkStatus]; omega),
    portCleared_frame.1 _ (by simp [K.chkStatus, K.fabStatus, K.clkLocked]; omega), rd_checkersCleared hv hd]

/-- A port switched off shows nothing. -/
theorem portCleared_off (h0 : bit v 0 = false) (h1 : bit v 1 = false) : rdField (portCleared p v s) (K.fabStatus p) 5 0 = 0 := by
  have hkey : K.clkLocked ≠ K.fabStatus p := by simp only [K.clkLocked, K.fabStatus]; omega
  rw [portCleared, if_pos (by simp [h0, h1]), wrBit, rdField_wr_ne hkey, rdField_wrField_same (by decide)]
  rfl

/-! The clock of a port (R52, R68). -/

/-- What a port had found is gone with its clock. -/
def fabClkGone (s : State) (p : Nat) : State := fabRefresh (wrField s (K.fabStatus p) 5 0 0) p

theorem fabClkLost_takes (hl : fabLoop s p = false) (hc : rdBit s (K.fabStatus p) 4 = true) :
    fabClkLost s p = clkFall (raise (wrBit (fabClkGone s p) (K.fabEvents p) 0 true) Ev.fabClkLost p 0) (18 + p) := by
  simp [fabClkLost, hl, hc, fabClkGone]

theorem fabClkLost_looped (hl : fabLoop s p = true) : fabClkLost s p = s := by simp [fabClkLost, hl]

theorem eventKey_fab (hp : p < 4) : eventKey (K.fabStatus p) = false ∧ eventKey (K.fabEvents p) = false := by
  interval_cases p <;> decide

/-- The keys a lost clock of a port may change. -/
def fabClkKeys (p : Nat) : List Nat := [K.fabStatus p, K.fabEvents p, K.linkStatus p, K.clkLocked, K.clkLost]

theorem fabClkLost_reads (hp : p < 4) (hl : fabLoop s p = false) (hc : rdBit s (K.fabStatus p) 4 = true) :
    rdField (fabClkLost s p) (K.fabStatus p) 6 0 = 0 ∧ rdBit (fabClkLost s p) (K.fabEvents p) 0 = true ∧
    rdBit (fabClkLost s p) K.clkLocked (18 + p) = false ∧ Pending (fabClkLost s p) Ev.fabClkLost ∧
    EvFrame (fabClkKeys p) [.fabric] s (fabClkLost s p) := by
  obtain ⟨hstatus, hevents⟩ := eventKey_fab hp
  have hfield : rdField (fabClkGone s p) (K.fabStatus p) 6 0 = 0 := fabStatus_cleared (rdField_wrField_same (by decide))
  have hne : K.fabEvents p ≠ K.fabStatus p := by simp only [K.fabEvents, K.fabStatus]; omega
  rw [fabClkLost_takes hl hc]
  refine ⟨?_, ?_, clkFall_clears, Pending.clkFall (raise_sets_pending _ Ev.fabClkLost _ _ (by decide)), ?_⟩
  · rw [rdField, clkFall_frame.1 _ hstatus (by simp [K.fabStatus, K.clkLocked, K.clkLost]; omega), rd_raise _ _ _ _ _ (by decide) hstatus,
      rd_wrBit_ne _ _ _ hne, ← rdField, hfield]
  · rw [rdBit, clkFall_frame.1 _ hevents (by simp [K.fabEvents, K.clkLocked, K.clkLost]; omega), rd_raise _ _ _ _ _ (by decide) hevents,
      ← rdBit, rdBit_wrBit_same]
  · have hgone : EvFrame (fabClkKeys p) [.fabric] s (fabClkGone s p) :=
      (Frame.trans (.wrField (by simp [fabClkKeys]) .refl) (fabRefresh_frame.mono (by simp [fabClkKeys]) (by simp))).toEv
    exact ((hgone.wrBit (by simp [fabClkKeys])).raise (by decide)).trans (clkFall_frame.mono (by simp [fabClkKeys]) (by simp))

/-- The clock is back on a port that is on or in test. -/
theorem fabClkBack_reads (h : rdBit s (K.fabCtrl p) 0 = true ∨ rdBit s (K.fabCtrl p) 1 = true) :
    rdBit (fabClkBack s p) (K.fabStatus p) 4 = true ∧ rdBit (fabClkBack s p) K.clkLocked (18 + p) = true ∧
    Frame [K.fabStatus p, K.clkLocked] [] s (fabClkBack s p) := by
  have hkey : K.clkLocked ≠ K.fabStatus p := by simp only [K.clkLocked, K.fabStatus]; omega
  rw [fabClkBack, if_pos (by simpa using h)]
  refine ⟨?_, rdBit_wrBit_same .., .wrBit (by simp) (.wrBit (by simp) .refl)⟩
  rw [rdBit, rd_wrBit_ne _ _ _ hkey, ← rdBit, rdBit_wrBit_same]

/-! The lanes and the alignment of a port (R71–R73). -/

/-- Whether a port carries traffic is read from FAB_CTRL alone. -/
theorem fabOn_congr (h : rd t (K.fabCtrl p) = rd s (K.fabCtrl p)) : fabOn t p = fabOn s p := by simp only [fabOn, rdBit, h]

theorem fabOn_wr (h : k % 256 ≠ 1) : fabOn (wr s k v) p = fabOn s p :=
  fabOn_congr (rd_wr_ne _ _ (by simp only [K.fabCtrl]; omega))

theorem rdBit_wrBit_ne {i j : Nat} {b : Bool} (h : i ≠ j) : rdBit (wrBit s k i b) k j = rdBit s k j := by
  rw [rdBit, wrBit, rd_wr_same, bit_setBit_ne _ _ h, rdBit]

theorem exec_fabSyncAcquired (hp : p < 4) (hd : d < 4) (hc : rdBit s (K.fabStatus p) 4 = true) (ho : fabOn s p = true) :
    exec (.fabSyncAcquired p d) s = done s (fabRefresh (wrBit s (K.fabStatus p) d true) p) := by
  change done s (if p < 4 ∧ d < 4 ∧ rdBit s (K.fabStatus p) 4 = true ∧ fabOn s p = true then _ else s) = _
  rw [if_pos ⟨hp, hd, hc, ho⟩]

/-- A lane in sync on a port that carries traffic. -/
theorem fabSynced_reads (hd : d < 4) (ho : fabOn s p = true) :
    rdBit (fabRefresh (wrBit s (K.fabStatus p) d true) p) (K.fabStatus p) d = true ∧
    fabUp (fabRefresh (wrBit s (K.fabStatus p) d true) p) p =
      (rdField (fabRefresh (wrBit s (K.fabStatus p) d true) p) (K.fabStatus p) 5 0 == 63) ∧
    Frame [K.fabStatus p, K.linkStatus p] [.fabric] s (fabRefresh (wrBit s (K.fabStatus p) d true) p) := by
  have hon : fabOn (wrBit s (K.fabStatus p) d true) p = true := (fabOn_wr (by simp only [K.fabStatus]; omega)).trans ho
  refine ⟨?_, ?_, (Frame.wrBit (by simp) .refl).trans fabRefresh_frame⟩
  · rw [rdBit_fabRefresh (by omega), rdBit_wrBit_same]
  · rw [fabUp_fabRefresh, rdField_fabRefresh, fabReady, hon, Bool.true_and]

/-- A lane out of sync, with the port no longer aligned. -/
def laneUnsynced (s : State) (p d errs : Nat) : State :=
  wrBit (wrBit (inc s (K.fabCodeErrors p) errs) (K.fabStatus p) d false) (K.fabStatus p) 5 false

/-- R71: the port down, with the event. -/
def fabUnsynced (s : State) (p d errs : Nat) : State :=
  raise (wrBit (fabRefresh (laneUnsynced s p d errs) p) (K.fabEvents p) 1 true) Ev.fabSyncLost (64 + 4 * p + d) 0

theorem exec_fabSyncLost (hp : p < 4) (hd : d < 4) (hs : rdBit s (K.fabStatus p) d = true) :
    exec (.fabSyncLost p d n) s = done s (fabUnsynced s p d n) := by
  change done s (if p < 4 ∧ d < 4 ∧ rdBit s (K.fabStatus p) d = true then _ else s) = _
  rw [if_pos ⟨hp, hd, hs⟩]
  rfl

/-- What a raise after a mark in FAB_EVENTS leaves of FAB_STATUS and of the mark. -/
theorem fabEvent_reads {src a b i : Nat} (hp : p < 4) (hs : src < 384) :
    rd (raise (wrBit s (K.fabEvents p) i true) src a b) (K.fabStatus p) = rd s (K.fabStatus p) ∧
    rdBit (raise (wrBit s (K.fabEvents p) i true) src a b) (K.fabEvents p) i = true := by
  obtain ⟨hstatus, hevents⟩ := eventKey_fab hp
  refine ⟨?_, ?_⟩
  · rw [rd_raise _ _ _ _ _ hs hstatus, rd_wrBit_ne _ _ _ (by simp only [K.fabEvents, K.fabStatus]; omega)]
  · rw [rdBit_raise _ _ _ _ _ _ hs hevents, rdBit_wrBit_same]

/-- The keys a lost sync of a port's lane may change. -/
def fabSyncKeys (p : Nat) : List Nat := [K.fabStatus p, K.fabEvents p, K.linkStatus p, K.fabCodeErrors p]

theorem laneUnsynced_frame : Frame (fabSyncKeys p) [] s (laneUnsynced s p d n) :=
  .wrBit (by simp [fabSyncKeys]) (.wrBit (by simp [fabSyncKeys]) (.inc (by simp [fabSyncKeys]) .refl))

theorem fabUnsynced_counts (hp : p < 4) : Counts s (fabUnsynced s p d n) (K.fabCodeErrors p) n := by
  have hkey : eventKey (K.fabCodeErrors p) = false := by interval_cases p <;> decide
  refine Counts.of_rd (u := inc s (K.fabCodeErrors p) n) (Counts.of_inc rfl) ?_
  rw [fabUnsynced, rd_raise _ _ _ _ _ (by decide) hkey, rd_wrBit_ne _ _ _ (by simp only [K.fabEvents, K.fabCodeErrors]; omega),
    fabRefresh_frame.1 _ (by simp [K.fabStatus, K.fabCodeErrors, K.linkStatus]; omega), laneUnsynced,
    rd_wrBit_ne _ _ _ (by simp only [K.fabStatus, K.fabCodeErrors]; omega),
    rd_wrBit_ne _ _ _ (by simp only [K.fabStatus, K.fabCodeErrors]; omega)]

theorem fabUnsynced_reads (hp : p < 4) (hd : d < 4) :
    rdBit (fabUnsynced s p d n) (K.fabStatus p) d = false ∧ rdBit (fabUnsynced s p d n) (K.fabStatus p) 5 = false ∧
    fabUp (fabUnsynced s p d n) p = false ∧ rdBit (fabUnsynced s p d n) (K.fabEvents p) 1 = true ∧
    Pending (fabUnsynced s p d n) Ev.fabSyncLost ∧ EvFrame (fabSyncKeys p) [.fabric] s (fabUnsynced s p d n) := by
  obtain ⟨hstatus, hevent⟩ := fabEvent_reads (s := fabRefresh (laneUnsynced s p d n) p) (src := Ev.fabSyncLost) (a := 64 + 4 * p + d)
    (b := 0) (i := 1) hp (by decide)
  have hlane : rdBit (laneUnsynced s p d n) (K.fabStatus p) d = false := by
    rw [laneUnsynced, rdBit_wrBit_ne (by omega), rdBit_wrBit_same]
  have hfive : rdBit (laneUnsynced s p d n) (K.fabStatus p) 5 = false := rdBit_wrBit_same ..
  refine ⟨?_, ?_, ?_, hevent, raise_sets_pending _ _ _ _ (by decide), ?_⟩
  · rw [fabUnsynced, rdBit, hstatus, ← rdBit, rdBit_fabRefresh (by omega), hlane]
  · rw [fabUnsynced, rdBit, hstatus, ← rdBit, rdBit_fabRefresh (by decide), hfive]
  · rw [fabUp, fabUnsynced, rdBit, hstatus]
    exact fabUp_fabRefresh.trans (fabReady_false (by decide) hfive)
  · exact .raise (by decide) (.wrBit (by simp [fabSyncKeys])
      ((laneUnsynced_frame.mono (fun _ h => h) (by simp)).trans (fabRefresh_frame.mono (by simp [fabSyncKeys]) (by simp))).toEv)

/-- The port's skew as FAB_SKEW shows it, with its deskew bit. -/
def fabSkewed (s : State) (p skew : Nat) (b : Bool) : State := wrBit (wr s (K.fabSkew p) (Nat.min 255 skew)) (K.fabStatus p) 5 b

theorem exec_fabAlignSetRx (hp : p < 4) (h : rdField s (K.fabStatus p) 4 0 = 31) : exec (.fabAlignSetRx p k) s =
    done s (if k ≤ 32 then fabRefresh (fabSkewed s p k true) p
      else raise (wrBit (fabRefresh (fabSkewed s p k false) p) (K.fabEvents p) 2 true) Ev.fabDeskewFail p 0) := by
  change done s (if p < 4 ∧ rdField s (K.fabStatus p) 4 0 = 31 then _ else s) = _
  rw [if_pos ⟨hp, h⟩]
  rfl

theorem fabSkewed_frame {b : Bool} : Frame [K.fabStatus p, K.fabSkew p] [] s (fabSkewed s p k b) := .wrBit (by simp) (.wr (by simp) .refl)

theorem rd_fabSkewed {b : Bool} : rd (fabRefresh (fabSkewed s p k b) p) (K.fabSkew p) = min 255 k := by
  rw [fabRefresh_frame.1 _ (by simp [K.fabSkew, K.fabStatus, K.linkStatus]; omega), fabSkewed,
    rd_wrBit_ne _ _ _ (by simp only [K.fabSkew, K.fabStatus]; omega), rd_wr_same]

/-- All lanes in sync and the clock, with the deskew bit: the six conditions. -/
theorem fabReady_skewed (h : rdField s (K.fabStatus p) 4 0 = 31) : fabReady (fabSkewed s p k true) p = fabOn s p := by
  have hon : fabOn (fabSkewed s p k true) p = fabOn s p :=
    (fabOn_wr (by simp only [K.fabStatus]; omega)).trans (fabOn_wr (by simp only [K.fabSkew]; omega))
  have hlow : rdField (fabSkewed s p k true) (K.fabStatus p) 4 0 = 31 := by
    rw [fabSkewed, rdField_wrBit_ne (by decide), rdField_wr_ne (by simp only [K.fabSkew, K.fabStatus]; omega), h]
  have hfive : rdBit (fabSkewed s p k true) (K.fabStatus p) 5 = true := rdBit_wrBit_same ..
  have hall : rdField (fabSkewed s p k true) (K.fabStatus p) 5 0 = 63 := by
    simp only [rdField, rdBit, bits, bit] at hlow hfive ⊢
    simp at hlow hfive ⊢
    omega
  rw [fabReady, hon, hall, beq_self_eq_true, Bool.and_true]

end
end Sys2Proof.Machine

/-! Clock domains that are lost and that return (R52, R341). -/

namespace Sys2Proof.Machine

section
variable {s t u : State} {m n k v d i : Nat}

theorem eventKey_of_page (h : k / 256 < 0xE000) : eventKey k = false := by
  simp only [eventKey, Bool.and_eq_false_iff, decide_eq_false_iff_not]
  omega

theorem runs_doneReset {c : Instr} {P : State → Prop} (h : exec c s = doneReset s u) (hp : P (settledReset s u)) : Runs c s P := ⟨_, h, hp⟩

/-! A lane loses its recovered clock (R59). -/

/-- A lane's state, with the sticky loss of an OTU4 (R108). -/
theorem setLaneState_frame : Frame [K.laneStatus m, K.otnEvents (laneIdx m / 4)] [] s (setLaneState s m v) := by
  unfold setLaneState
  exact .ite (fun _ => .wrBit (by simp) (.wrField (by simp) .refl)) (fun _ => .wrField (by simp) .refl)

theorem rd_setLaneState : rd (setLaneState s m v) (K.laneStatus m) = setBits (rd s (K.laneStatus m)) 3 0 v := by
  have hkey : K.otnEvents (laneIdx m / 4) ≠ K.laneStatus m := by simp only [K.otnEvents, K.laneStatus]; omega
  unfold setLaneState
  dsimp only
  split
  · rw [rd_wrBit_ne _ _ _ hkey, wrField, rd_wr_same]
  · rw [wrField, rd_wr_same]

theorem refreshLane_frame : EvFrame [K.clkLocked, K.clkLost] [] s (refreshLane s m) := by
  unfold refreshLane refreshClk
  exact .ite (fun _ => .wrBit (by simp) .refl) (fun _ => clkFall_frame)

/-- The keys a lane's loss may change. -/
def laneLossKeys (m : Nat) : List Nat :=
  [K.clkLocked, K.clkLost, K.otnEvents (laneIdx m / 4), K.laneStatus m, K.rxSnr m, K.laneEvents m]

/-- A lane goes back to CDR, before its domain's bit follows. -/
def laneRelocks (s : State) (m : Nat) : State :=
  raise (wrBit (wr (setLaneState (wrBit s (K.laneStatus m) 5 false) m Lane.cdr) (K.rxSnr m) 0) (K.laneEvents m) 1 true) Ev.laneCdrLost m 0

theorem cdrLost_eq : cdrLost s m =
    if laneState s m = Lane.adapt ∨ laneState s m = Lane.ready then refreshLane (laneRelocks s m) m
    else if rdBit s (K.laneStatus m) 5 then refreshLane (wrBit s (K.laneStatus m) 5 false) m
    else s := rfl

theorem laneRelocks_frame : EvFrame (laneLossKeys m) [] s (laneRelocks s m) := by
  refine .raise (by decide) (.wrBit (by simp [laneLossKeys]) (.wr (by simp [laneLossKeys]) ?_))
  exact (Frame.trans (.wrBit (by simp [laneLossKeys]) .refl) (setLaneState_frame.mono (by simp [laneLossKeys]) (by simp))).toEv

theorem cdrLost_frame : EvFrame (laneLossKeys m) [] s (cdrLost s m) := by
  rw [cdrLost_eq]
  exact .ite (fun _ => laneRelocks_frame.trans (refreshLane_frame.mono (by simp [laneLossKeys]) (by simp)))
    (fun _ => .ite (fun _ => (EvFrame.wrBit (by simp [laneLossKeys]) .refl).trans (refreshLane_frame.mono (by simp [laneLossKeys]) (by simp)))
      (fun _ => .refl))

theorem rd_refreshLane (hk : k / 256 < 0x8000) : rd (refreshLane s m) k = rd s k :=
  refreshLane_frame.1 _ (eventKey_of_page (by omega)) (by simp [K.clkLocked, K.clkLost]; omega)

theorem rd_laneRelocks (hm : m < 64) : rd (laneRelocks s m) (K.laneStatus m) = setBits (setBit (rd s (K.laneStatus m)) 5 false) 3 0 Lane.cdr := by
  rw [laneRelocks, rd_raise _ _ _ _ _ (by decide) (eventKey_of_page (by simp only [K.laneStatus]; omega)),
    rd_wrBit_ne _ _ _ (by simp only [K.laneStatus, K.laneEvents]; omega), rd_wr_ne _ _ (by simp only [K.laneStatus, K.rxSnr]; omega),
    rd_setLaneState, wrBit, rd_wr_same]

theorem rdBit_laneRelocks (hm : m < 64) : rdBit (laneRelocks s m) (K.laneEvents m) 1 = true := by
  rw [laneRelocks, rdBit_raise _ _ _ _ _ _ (by decide) (eventKey_of_page (by simp only [K.laneEvents]; omega)), rdBit_wrBit_same]

/-- What a lane shows after the loss, where it was in state `st`: no recovered clock, and from READY the state CDR with its mark. -/
def LaneLost (st m : Nat) (t : State) : Prop :=
  rdBit t (K.laneStatus m) 5 = false ∧ (st = Lane.ready → laneState t m = Lane.cdr ∧ rdBit t (K.laneEvents m) 1 = true)

theorem LaneLost.congr {st : Nat} (h : LaneLost st m t) (hs : rd u (K.laneStatus m) = rd t (K.laneStatus m))
    (he : rd u (K.laneEvents m) = rd t (K.laneEvents m)) : LaneLost st m u := by
  simp only [LaneLost, laneState, rdField, rdBit, hs, he] at h ⊢
  exact h

theorem cdrLost_laneLost (hm : m < 64) : LaneLost (laneState s m) m (cdrLost s m) := by
  have hpage : K.laneStatus m / 256 < 0x8000 ∧ K.laneEvents m / 256 < 0x8000 := by
    simp only [K.laneStatus, K.laneEvents]
    omega
  rw [cdrLost_eq]
  split
  · refine LaneLost.congr (t := laneRelocks s m) ⟨?_, fun _ => ⟨?_, rdBit_laneRelocks hm⟩⟩ (rd_refreshLane hpage.1) (rd_refreshLane hpage.2)
    · rw [rdBit, rd_laneRelocks hm, bit_setBits_ne _ _ _ _ _ (by decide) (by decide), bit_setBit_same]
    · rw [laneState, rdField, rd_laneRelocks hm, bits_setBits_same _ _ _ _ (by decide)]
      rfl
  · next hst =>
    have hnot : laneState s m ≠ Lane.ready := fun h => hst (.inr h)
    split
    · refine ⟨?_, fun h => absurd h hnot⟩
      rw [rdBit, rd_refreshLane hpage.1, ← rdBit, rdBit_wrBit_same]
    · next hb => exact ⟨by simpa using hb, fun h => absurd h hnot⟩

/-- The four lanes of a group lose their clock (R52). -/
def groupLost (d : Nat) (s : State) : State := forNat 4 (fun i s => cdrLost s (clkLane d + i)) s

/-- The keys that may change. -/
def groupLossKeys (d : Nat) : List Nat :=
  [K.clkLocked, K.clkLost, K.otnEvents ((d - 2) % 8)] ++ (List.range 4).map (fun i => K.laneStatus (clkLane d + i)) ++
    (List.range 4).map (fun i => K.rxSnr (clkLane d + i)) ++ (List.range 4).map (fun i => K.laneEvents (clkLane d + i))

theorem clkLane_lt (hi : i < 4) : clkLane d + i < 64 ∧ laneIdx (clkLane d + i) / 4 = (d - 2) % 8 := by
  simp only [clkLane, laneIdx]
  split <;> omega

theorem laneLossKeys_subset (hi : i < 4) : laneLossKeys (clkLane d + i) ⊆ groupLossKeys d := by
  have hmem {f : Nat → Nat} : f (clkLane d + i) ∈ (List.range 4).map (fun i => f (clkLane d + i)) :=
    List.mem_map.mpr ⟨i, List.mem_range.mpr hi, rfl⟩
  have hstatus := hmem (f := K.laneStatus)
  have hsnr := hmem (f := K.rxSnr)
  have hevents := hmem (f := K.laneEvents)
  intro k hk
  simp only [laneLossKeys, (clkLane_lt (d := d) hi).2, List.mem_cons, List.not_mem_nil, or_false] at hk
  simp only [groupLossKeys, List.mem_append, List.mem_cons, List.not_mem_nil, or_false]
  obtain rfl | rfl | rfl | rfl | rfl | rfl := hk
  · simp
  · simp
  · simp
  · exact .inl (.inl (.inr hstatus))
  · exact .inl (.inr hsnr)
  · exact .inr hevents

theorem groupLost_frame : EvFrame (groupLossKeys d) [] s (groupLost d s) :=
  forNat_rel (R := EvFrame (groupLossKeys d) []) (f := fun i s => cdrLost s (clkLane d + i)) (fun _ => .refl) .trans 4
    (fun _ hi _ => cdrLost_frame.mono (laneLossKeys_subset hi) (by simp)) s

/-- The loss of another lane leaves this one's words. -/
theorem rd_cdrLost_other {m' : Nat} (hm : m < 64) (hne : m' ≠ m) :
    rd (cdrLost s m') (K.laneStatus m) = rd s (K.laneStatus m) ∧ rd (cdrLost s m') (K.laneEvents m) = rd s (K.laneEvents m) := by
  refine ⟨cdrLost_frame.1 _ (eventKey_of_page (by simp only [K.laneStatus]; omega)) ?_,
    cdrLost_frame.1 _ (eventKey_of_page (by simp only [K.laneEvents]; omega)) ?_⟩ <;>
  · simp only [laneLossKeys, List.mem_cons, List.not_mem_nil, or_false, K.clkLocked, K.clkLost, K.otnEvents, K.laneStatus, K.rxSnr, K.laneEvents]
    omega

theorem groupLost_laneLost (hi : i < 4) : LaneLost (laneState s (clkLane d + i)) (clkLane d + i) (groupLost d s) := by
  have hm := (clkLane_lt (d := d) hi).1
  refine forNat_sets (Q := fun x => rd x (K.laneStatus (clkLane d + i)) = rd s (K.laneStatus (clkLane d + i)))
    (P := LaneLost (laneState s (clkLane d + i)) (clkLane d + i)) (f := fun i s => cdrLost s (clkLane d + i)) hi ?_ ?_ ?_ rfl
  · intro k y hk hne h
    exact (rd_cdrLost_other hm (by omega)).1.trans h
  · intro y h
    have hst : laneState y (clkLane d + i) = laneState s (clkLane d + i) := by simp only [laneState, rdField, h]
    rw [← hst]
    exact cdrLost_laneLost hm
  · intro k y hk hne h
    obtain ⟨hstatus, hevents⟩ := rd_cdrLost_other (s := y) hm (m' := clkLane d + k) (by omega)
    exact h.congr hstatus hevents

/-! What a lost clock does, by its domain (R52). -/

theorem exec_clockLost_device (hd : d ≤ 1) (he : s.boot.engine = true) (ht : s.life.trans = none) :
    exec (.clockLost d) s = doneReset s (deviceReset s 3) := by
  have hreset : requestReset s 3 = deviceReset s 3 := by
    rw [requestReset, if_neg (by simp [ht])]
    rfl
  change execClockLost d s = _
  unfold execClockLost
  rw [if_neg (by simp [he]), if_pos hd, hreset]

theorem exec_clockLost_group (h2 : 2 ≤ d) (h18 : d < 18) (he : s.boot.engine = true) : exec (.clockLost d) s = doneReset s (groupLost d s) := by
  change execClockLost d s = _
  unfold execClockLost
  rw [if_neg (by simp [he]), if_neg (by omega), if_pos h18]
  rfl

theorem exec_clockLost_port (h18 : 18 ≤ d) (h22 : d < 22) (he : s.boot.engine = true) :
    exec (.clockLost d) s = doneReset s (fabClkLost s (d - 18)) := by
  change execClockLost d s = _
  unfold execClockLost
  rw [if_neg (by simp [he]), if_neg (by omega), if_neg (by omega), if_pos h22]

/-- The management channels that are on. -/
def mgOn (s : State) : List Nat := (List.range 2).filter (fun i => rdBit s (K.chanCtrl (1 + i)) 0)

/-- Without their clock neither management port has one. -/
def mgUnclocked (s : State) : State := { s with lines := { s.lines with mgA := false, mgB := false } }

theorem exec_clockLost_mg (he : s.boot.engine = true) :
    exec (.clockLost 22) s = doneReset s (forList (mgOn s) (fun i s => resetChan s (1 + i)) (clkFall (mgUnclocked s) 22)) := by
  change execClockLost 22 s = _
  unfold execClockLost
  rw [if_neg (by simp [he]), if_neg (by omega), if_neg (by omega), if_neg (by omega), if_pos rfl]
  rfl

theorem exec_clockLost_time (he : s.boot.engine = true) (hs : (tb s 0).stopped = false) : exec (.clockLost 23) s = doneReset s (timeStop s) := by
  change execClockLost 23 s = _
  unfold execClockLost
  rw [if_neg (by simp [he]), if_neg (by omega), if_neg (by omega), if_neg (by omega), if_neg (by omega), if_pos rfl, if_neg (by simp [hs])]

theorem exec_clockLost_crystal (he : s.boot.engine = true) : exec (.clockLost 24) s = doneReset s (crystalFail s) := by
  change execClockLost 24 s = _
  unfold execClockLost
  rw [if_neg (by simp [he]), if_neg (by omega), if_neg (by omega), if_neg (by omega), if_neg (by omega), if_neg (by omega), if_pos rfl]

/-! The device reset of a lost core clock (R450, R451). -/

/-- A register that does not survive is no longer listed. -/
theorem tget_tkeep {α : Type} (d : α) {q : Nat → Bool} (l : Tbl α) (hk : q k = false) : tget d (tkeep q l) k = d := by
  induction l with
  | nil => rfl
  | cons e l ih =>
    obtain ⟨j, x⟩ := e
    simp only [tkeep, List.filter_cons] at ih ⊢
    split
    · next hq =>
      rw [tget, if_neg (fun h => by subst h; simp [hk] at hq)]
      exact ih
    · exact ih

theorem rd_deviceReset {c : Nat} (hk : survives k = false) (hc : k ≠ K.resetCause) : rd (deviceReset s c) k = dfltOf k :=
  (rd_wr_ne _ _ hc.symm).trans (tget_tkeep _ _ hk)

end
end Sys2Proof.Machine

/-! The sessions of the channels through a raise (R433), and the management clock (R52, R423). -/

namespace Sys2Proof.Machine

/-- The channels' sessions are the same. -/
def SessSame (s t : State) : Prop := ∀ c, (chan t c).sess = (chan s c).sess

section
variable {s t u : State} {c d src a b : Nat}

theorem SessSame.refl : SessSame s s := fun _ => rfl
theorem SessSame.trans (h : SessSame s t) (h' : SessSame t u) : SessSame s u := fun c => (h' c).trans (h c)
theorem SessSame.of_chans (h : t.chans = s.chans) : SessSame s t := fun c => by rw [chan, h, chan]

/-- An offer changes a channel's subscription, not its session. -/
theorem setChan_sub_sess {x : Option Sub} : SessSame s (setChan s c { chan s c with sub := x }) := fun c' => by
  rw [chan_setChan]
  split
  · next h => rw [h]
  · rfl

theorem offerStep_sess : SessSame s (offerStep s c src a b).1 := by
  unfold offerStep
  split
  · exact .refl
  · split
    · exact .refl
    · dsimp only
      split
      · exact setChan_sub_sess
      · exact setChan_sub_sess.trans (.of_chans rfl)

theorem lossRaise_chans {sc k : Nat} : (lossRaise s sc k).1.chans = s.chans := by
  unfold lossRaise
  split <;> rfl

theorem setFifo_chans {sc : Nat} {f : Fifo} : (setFifo s sc f).chans = s.chans := by
  unfold setFifo
  split <;> rfl

theorem fifoStep_sess {sc : Nat} : SessSame s (fifoStep s sc src a b).1 := by
  unfold fifoStep
  generalize (if sc = 1 then s.sec else s.ns).put src (tickNo s) a b = x
  dsimp only
  split
  · exact .of_chans (lossRaise_chans.trans setFifo_chans)
  · exact .of_chans setFifo_chans

theorem perfAdd_sess {sel w : Nat} : SessSame s (perfAdd s sel w) :=
  .of_chans ((Frame.perfAdd (ks := []) (ps := [.perf]) (by decide) .refl).2 .chans (by decide))

/-- The record of a raise, in both FIFOs. -/
theorem records_sess : SessSame s (if srcSecure src then (s, ([] : List Raise)) else fifoStep s 0 src a b).1 := by
  split
  · exact .refl
  · exact fifoStep_sess

theorem raiseOne_sess {r : Raise} : SessSame s (raiseOne s r).1 := by
  obtain ⟨src, a, b⟩ := r
  unfold raiseOne
  dsimp only
  have hbase : SessSame s (perfAdd (wrBit s (K.evtPending (src / 32)) (src % 32) true) (384 + src) 1) :=
    (SessSame.of_chans rfl).trans perfAdd_sess
  generalize perfAdd (wrBit s (K.evtPending (src / 32)) (src % 32) true) (384 + src) 1 = x at hbase ⊢
  have hrec : SessSame x (if rdBit x (K.evtRecordEn (src / 32)) (src % 32) = true then
      ((fifoStep (if srcSecure src then (x, ([] : List Raise)) else fifoStep x 0 src a b).1 1 src a b).1,
        (if srcSecure src then (x, ([] : List Raise)) else fifoStep x 0 src a b).2 ++
        (fifoStep (if srcSecure src then (x, ([] : List Raise)) else fifoStep x 0 src a b).1 1 src a b).2) else (x, [])).1 := by
    split
    · exact records_sess.trans fifoStep_sess
    · exact .refl
  generalize (if rdBit x (K.evtRecordEn (src / 32)) (src % 32) = true then _ else _) = y at hrec ⊢
  split
  · exact (((hbase.trans hrec).trans offerStep_sess).trans offerStep_sess).trans offerStep_sess
  · exact hbase.trans hrec

theorem raiseAll_sess (n : Nat) (l : List Raise) (x : State) : SessSame x (raiseAll n l x) := by
  induction n generalizing l x with
  | zero => exact .refl
  | succ n ih =>
    cases l with
    | nil => exact .refl
    | cons r l =>
      have hrest := ih ((raiseOne x r).2 ++ l) (raiseOne x r).1
      rw [raiseAll]
      exact raiseOne_sess.trans hrest

/-- A raise leaves every session. -/
theorem raise_sess : SessSame s (raise s src a b) := raiseAll_sess _ _ _

theorem clkFall_sess : SessSame s (clkFall s d) := by
  have hmark : SessSame s (wrBit (wrBit s K.clkLocked d false) K.clkLost d true) := .of_chans rfl
  unfold clkFall
  split
  · exact hmark.trans raise_sess
  · exact .refl

/-! Channels that are reset (R423). -/

/-- A channel with nothing on it. -/
def Emptied (c : Nat) (s : State) : Prop := (chan s c).queue = [] ∧ (chan s c).held = none

/-- Without a session a reset touches the channel alone. -/
theorem resetChan_noSess (h : (chan s c).sess = none) :
    Frame [] [.chans] s (resetChan s c) ∧ Emptied c (resetChan s c) ∧ SessSame s (resetChan s c) ∧
      ∀ c', c' ≠ c → chan (resetChan s c) c' = chan s c' := by
  have hend : endSession s c = s := by simp only [endSession, h]
  unfold resetChan
  rw [hend]
  refine ⟨.setChan (by decide) .refl, ⟨?_, ?_⟩, fun c' => ?_, fun c' hc => chan_setChan_ne _ _ hc.symm⟩
  · rw [chan_setChan_same]
    rfl
  · rw [chan_setChan_same]
    rfl
  · rw [chan_setChan]
    split
    · next hc =>
      rw [← hc, h]
      rfl
    · rfl

/-- The reset of a list of channels without sessions. -/
theorem resetChans (l : List Nat) (h : ∀ c, (c = 1 ∨ c = 2) → (chan s c).sess = none) (hl : ∀ i ∈ l, i < 2) :
    Frame [] [.chans] s (forList l (fun i s => resetChan s (1 + i)) s) ∧
      ∀ i, (i ∈ l ∨ Emptied (1 + i) s) → Emptied (1 + i) (forList l (fun i s => resetChan s (1 + i)) s) := by
  induction l generalizing s with
  | nil => exact ⟨.refl, fun i hi => hi.resolve_left (List.not_mem_nil)⟩
  | cons a l ih =>
    have ha : a < 2 := hl a (List.mem_cons_self ..)
    obtain ⟨hframe, hempty, hsess, hother⟩ := resetChan_noSess (h (1 + a) (by omega))
    obtain ⟨hrest, hall⟩ := ih (s := resetChan s (1 + a)) (fun c hc => (hsess c).trans (h c hc)) fun i hi => hl i (List.mem_cons_of_mem _ hi)
    refine ⟨hframe.trans hrest, fun i hi => hall i ?_⟩
    by_cases hia : i = a
    · subst hia
      exact .inr hempty
    · refine hi.imp (fun hm => (List.mem_cons.mp hm).resolve_left hia) fun hm => ?_
      rw [Emptied, hother (1 + i) (by omega)]
      exact hm

end
end Sys2Proof.Machine

/-! The crystal and the time domain (R277, R341), and what a returned clock sets (R52). -/

namespace Sys2Proof.Machine

section
variable {s t u x : State} {k n v d : Nat}

/-! The crystal (R277). -/

/-- The backup oscillator has taken over, and the RTC counts on from its value. -/
def onBackup (s : State) : State := wrBit (rtcSet s (rtcNow s)) K.onyxStatus 1 true

/-- What fired last, the main power and the pin decide what can fire. -/
theorem canFire_congr (hf : t.onyx.fired = s.onyx.fired) (hm : t.onyx.main = s.onyx.main) (hb : t.boot = s.boot) :
    canFire t n = canFire s n := by simp only [canFire, hf, hm, hb]

theorem fireOnce_silent (h : canFire s n = false) : fireOnce s n v = s := by simp [fireOnce, h]

theorem rtcSet_fired : (rtcSet s v).onyx.fired = s.onyx.fired ∧ (rtcSet s v).onyx.main = s.onyx.main ∧ (rtcSet s v).boot = s.boot :=
  ⟨rfl, rfl, rfl⟩

theorem canFire_onBackup : canFire (onBackup s) n = canFire s n := by
  obtain ⟨hfired, hmain, hboot⟩ := rtcSet_fired (s := s) (v := rtcNow s)
  have honyx : (onBackup s).onyx = (rtcSet s (rtcNow s)).onyx := wr_onyx ..
  exact canFire_congr (by rw [honyx, hfired]) (by rw [honyx, hmain]) ((wr_boot ..).trans hboot)

theorem crystalFail_eq : crystalFail s = clkFall (fireOnce (onBackup s) 28 0) 24 := rfl

theorem crystalFail_silent (h : canFire s 28 = false) : crystalFail s = clkFall (onBackup s) 24 := by
  rw [crystalFail_eq, fireOnce_silent (canFire_onBackup.trans h)]

theorem onBackup_frame : Frame [K.onyxStatus] [.onyx] s (onBackup s) := .wrBit (by simp) (.set_onyx (by decide) .refl)

theorem crystalFail_reads (h : canFire s 28 = false) (hl : rdBit s K.clkLocked 24 = true) :
    backupOsc (crystalFail s) = true ∧ rdBit (crystalFail s) K.clkLocked 24 = false ∧ rdBit (crystalFail s) K.clkLost 24 = true ∧
    Pending (crystalFail s) Ev.clockLost ∧ EvFrame [K.onyxStatus, K.clkLocked, K.clkLost] [.onyx] s (crystalFail s) := by
  have hlocked : rdBit (onBackup s) K.clkLocked 24 = true := by
    rw [rdBit, onBackup_frame.1 _ (by decide)]
    exact hl
  obtain ⟨hlost, hpending⟩ := clkFall_raises hlocked
  rw [crystalFail_silent h]
  refine ⟨?_, clkFall_clears, hlost, hpending, (onBackup_frame.toEv.mono (by simp) (by simp)).trans (clkFall_frame.mono (by simp) (by simp))⟩
  rw [backupOsc, rdBit, clkFall_frame.1 _ (by decide) (by decide), ← rdBit]
  exact rdBit_wrBit_same ..

/-- The crystal is back: source 28 may fire again, and the RTC counts on. -/
def onCrystal (s : State) : State := rtcSet { s with onyx := { s.onyx with fired := s.onyx.fired.filter (· != 28) } } (rtcNow s)

theorem crystalBack_runs (he : s.boot.engine = true) (h : backupOsc s = true) :
    crystalBack s = wrBit (wrBit (onCrystal s) K.clkLocked 24 true) K.onyxStatus 1 false := by
  rw [crystalBack, if_pos h]
  simp only [he, if_true]
  rfl

theorem crystalBack_reads (he : s.boot.engine = true) (h : backupOsc s = true) :
    backupOsc (crystalBack s) = false ∧ rdBit (crystalBack s) K.clkLocked 24 = true ∧ 28 ∉ (crystalBack s).onyx.fired ∧
    Frame [K.onyxStatus, K.clkLocked] [.onyx] s (crystalBack s) := by
  rw [crystalBack_runs he h]
  refine ⟨rdBit_wrBit_same .., ?_, ?_, .wrBit (by simp) (.wrBit (by simp) (.set_onyx (by decide) (.set_onyx (by decide) .refl)))⟩
  · rw [rdBit, rd_wrBit_ne _ _ _ (by decide), ← rdBit, rdBit_wrBit_same]
  · change 28 ∉ s.onyx.fired.filter (· != 28)
    simp

/-! The clocks that return. -/

theorem exec_clockReturned_group (h2 : 2 ≤ d) (h18 : d < 18) (he : s.boot.engine = true) : exec (.clockReturned d) s = done s (refreshClk s d) := by
  change execClockReturned d s = _
  unfold execClockReturned
  rw [if_neg (by simp [he]), if_pos ⟨h2, h18⟩]

theorem exec_clockReturned_port (h18 : 18 ≤ d) (h22 : d < 22) (he : s.boot.engine = true) :
    exec (.clockReturned d) s = done s (fabClkBack s (d - 18)) := by
  change execClockReturned d s = _
  unfold execClockReturned
  rw [if_neg (by simp [he]), if_neg (by omega), if_pos ⟨h18, h22⟩]

/-- Both management ports have their clock. -/
def mgClocked (s : State) : State := { s with lines := { s.lines with mgA := true, mgB := true } }

theorem exec_clockReturned_mg (he : s.boot.engine = true) : exec (.clockReturned 22) s = done s (mgRefresh (mgClocked s)) := by
  change execClockReturned 22 s = _
  unfold execClockReturned
  rw [if_neg (by simp [he]), if_neg (by omega), if_neg (by omega), if_pos rfl]
  rfl

/-- The management bit is that of the channels that are on. -/
theorem mgLocked_mgClocked : mgLocked (mgClocked s) = (rdBit s (K.chanCtrl 1) 0 || rdBit s (K.chanCtrl 2) 0) := by
  change ((rdBit s (K.chanCtrl 1) 0 || rdBit s (K.chanCtrl 2) 0) && (!rdBit s (K.chanCtrl 1) 0 || true) &&
    (!rdBit s (K.chanCtrl 2) 0 || true)) = _
  simp

/-- A time base counts on from the value it held. -/
def tbRestarted (y : Tb) (c : Nat) : Tb := if y.stopped then { y with at_ := c, stopped := false } else y

/-- Every time base counts on. -/
def tbsRestarted (s : State) : State := forNat 4 (fun n s => setTb s n (tbRestarted (tb s n) s.tick.clock)) s

theorem exec_clockReturned_time (he : s.boot.engine = true) :
    exec (.clockReturned 23) s = done s (wrBit (tbsRestarted s) K.clkLocked 23 true) := by
  change execClockReturned 23 s = _
  unfold execClockReturned
  rw [if_neg (by simp [he]), if_neg (by omega), if_neg (by omega), if_neg (by omega), if_pos rfl]
  rfl

theorem exec_clockReturned_crystal (he : s.boot.engine = true) : exec (.clockReturned 24) s = done s (crystalBack s) := by
  change execClockReturned 24 s = _
  unfold execClockReturned
  rw [if_neg (by simp [he]), if_neg (by omega), if_neg (by omega), if_neg (by omega), if_neg (by omega), if_pos rfl]

theorem tbGain_zero {f : Int} : tbGain f 0 = 0 := by simp [tbGain]

/-- Where it stood when it was stopped, a restarted time base stands now. -/
theorem tbAt_tbRestarted {y : Tb} {c : Nat} : (tbRestarted y c).stopped = false ∧ tbAt (tbRestarted y c) c = tbAt y c := by
  unfold tbRestarted
  split
  · next h => simp [tbAt, h, tbGain_zero]
  · next h => exact ⟨by simpa using h, rfl⟩

theorem tbsRestarted_reads (hn : n < 4) :
    (tb (tbsRestarted s) n).stopped = false ∧ tbNow (tbsRestarted s) n = tbNow s n := by
  have hkept : tb (tbsRestarted s) n = tbRestarted (tb s n) s.tick.clock ∧ (tbsRestarted s).tick.clock = s.tick.clock := by
    refine forNat_sets (Q := fun x => tb x n = tb s n ∧ x.tick.clock = s.tick.clock)
      (P := fun x => tb x n = tbRestarted (tb s n) s.tick.clock ∧ x.tick.clock = s.tick.clock)
      (f := fun n s => setTb s n (tbRestarted (tb s n) s.tick.clock)) hn ?_ ?_ ?_ ⟨rfl, rfl⟩
    · exact fun k y _ hne h => ⟨(tb_setTb_ne _ _ hne).trans h.1, h.2⟩
    · exact fun y h => ⟨by rw [tb_setTb_same, h.1, h.2], h.2⟩
    · exact fun k y _ hne h => ⟨(tb_setTb_ne _ _ hne).trans h.1, h.2⟩
  obtain ⟨htb, hclock⟩ := hkept
  rw [tbNow, htb, hclock]
  exact tbAt_tbRestarted

theorem tbsRestarted_frame : Frame [] [.timeBases] s (tbsRestarted s) :=
  forNat_rel (R := Frame [] [.timeBases]) (f := fun n s => setTb s n (tbRestarted (tb s n) s.tick.clock)) (fun _ => .refl) .trans 4
    (fun _ _ _ => .setTb (by decide) .refl) s

end
end Sys2Proof.Machine

/-! The time domain is lost (R33, R52, R341): the tick runs free, and every time base stops at the value it shows. -/

namespace Sys2Proof.Machine

section
variable {s t u x : State} {k n m v : Nat}

/-! The tick runs free (R33, R42). -/

theorem tickInvalid_frame : Frame [K.tickStatus] [.clock] s (tickInvalid s) := by
  unfold tickInvalid
  exact .ite (fun _ => .wrBit (by simp) (.wrBit (by simp) (.wrBit (by simp) (.set_tick (by decide) .refl)))) (fun _ => .set_tick (by decide) .refl)

theorem tickInvalid_clock : (tickInvalid s).tick.clock = s.tick.clock := by
  unfold tickInvalid
  split <;> rfl

theorem tickInvalid_free : tickValid (tickInvalid s) = false := by
  unfold tickInvalid
  split
  · rw [tickValid, rdBit_wrBit_ne (by decide), rdBit_wrBit_ne (by decide), rdBit_wrBit_same]
  · next h => exact Bool.eq_false_iff.mpr h

/-! The servo of a time base (R346, R362). -/

theorem setServo_frame : Frame [K.tbStatus n, K.tickStatus] [] s (setServo s n v) := by
  unfold setServo
  exact .ite (fun _ => .wrBit (by simp) (.wrField (by simp) .refl)) (fun _ => .wrField (by simp) .refl)

theorem tbStatus_ne_tickStatus : K.tbStatus n ≠ K.tickStatus := by simp only [K.tbStatus, K.tickStatus]; omega

/-- The servo's state leaves VALID of the time base and of the tick. -/
theorem setServo_valid : tbValid (setServo s n v) n = tbValid s n ∧ tickValid (setServo s n v) = tickValid s := by
  have hfield : tbValid (wrField s (K.tbStatus n) 2 1 v) n = tbValid s n := by
    rw [tbValid, rdBit, wrField, rd_wr_same, bit_setBits_ne _ _ _ _ _ (by decide) (by decide), tbValid, rdBit]
  have htick : tickValid (wrField s (K.tbStatus n) 2 1 v) = tickValid s := rdBit_wr_ne tbStatus_ne_tickStatus
  unfold setServo
  dsimp only
  split
  · exact ⟨(rdBit_wr_ne tbStatus_ne_tickStatus.symm).trans hfield, (rdBit_wrBit_ne (by decide)).trans htick⟩
  · exact ⟨hfield, htick⟩

/-! A time base stops being VALID (R341, R344). -/

/-- The record of a time base that is no longer VALID. -/
def unvalidated (y : Tb) : Tb := { y with good := 0, bad := 0, clamped := false }

/-- The time base alone, before the tick and PPS_OUT follow it. -/
def tbLapsed (s : State) (n : Nat) : State :=
  setTb (setServo (wrBit s (K.tbStatus n) 0 false) n Servo.free) n
    (unvalidated (tb (setServo (wrBit s (K.tbStatus n) 0 false) n Servo.free) n))

/-- The tick follows time base 0. -/
def tickFollows (s : State) (n : Nat) : State := if n = 0 then tickInvalid (tbLapsed s n) else tbLapsed s n

theorem tbInvalidate_eq : tbInvalidate s n =
    if tbValid s n && rd (tickFollows s n) K.ppsTb == n then raise (tickFollows s n) Ev.ppsStopped n 0 else tickFollows s n := rfl

theorem tbLapsed_frame : Frame [K.tbStatus n, K.tickStatus] [.timeBases] s (tbLapsed s n) :=
  .setTb (by decide) (Frame.trans (.wrBit (by simp) .refl) (setServo_frame.mono (by simp) (by simp)))

theorem tb_congr (h : t.tbs = s.tbs) : tb t n = tb s n := by rw [tb, tb, h]

theorem tb_tbLapsed : tb (tbLapsed s n) m = if n = m then unvalidated (tb s n) else tb s m := by
  have hkept : (setServo (wrBit s (K.tbStatus n) 0 false) n Servo.free).tbs = s.tbs := (setServo_frame.2 .timeBases (by simp)).trans (wr_tbs ..)
  rw [tbLapsed, tb_setTb, tb_congr hkept, tb_congr hkept]

theorem tbLapsed_valid : tbValid (tbLapsed s n) n = false ∧ tickValid (tbLapsed s n) = tickValid s := by
  obtain ⟨htb, htick⟩ := setServo_valid (s := wrBit s (K.tbStatus n) 0 false) (n := n) (v := Servo.free)
  exact ⟨htb.trans (rdBit_wrBit_same ..), htick.trans (rdBit_wr_ne tbStatus_ne_tickStatus)⟩

theorem tickFollows_frame : Frame [K.tbStatus n, K.tickStatus] [.timeBases, .clock] s (tickFollows s n) := by
  have hlapsed : Frame [K.tbStatus n, K.tickStatus] [.timeBases, .clock] s (tbLapsed s n) := tbLapsed_frame.mono (by simp) (by simp)
  unfold tickFollows
  exact .ite (fun _ => hlapsed.trans (tickInvalid_frame.mono (by simp) (by simp))) (fun _ => hlapsed)

theorem tickFollows_tbs : (tickFollows s n).tbs = (tbLapsed s n).tbs ∧ (tickFollows s n).tick.clock = s.tick.clock := by
  have hclock : (tbLapsed s n).tick.clock = s.tick.clock := by rw [tbLapsed_frame.2 .clock (by simp)]
  unfold tickFollows
  split
  · exact ⟨tickInvalid_frame.2 .timeBases (by simp), tickInvalid_clock.trans hclock⟩
  · exact ⟨rfl, hclock⟩

theorem tickFollows_valid : tbValid (tickFollows s n) n = false ∧ (tickValid s = false → tickValid (tickFollows s n) = false) := by
  obtain ⟨htb, htick⟩ := tbLapsed_valid (s := s) (n := n)
  unfold tickFollows
  split
  · refine ⟨?_, fun _ => tickInvalid_free⟩
    rw [tbValid, rdBit, tickInvalid_frame.1 _ (by simpa using tbStatus_ne_tickStatus), ← rdBit]
    exact htb
  · exact ⟨htb, fun h => htick.trans h⟩

theorem tbInvalidate_frame : EvFrame [K.tbStatus n, K.tickStatus] [.timeBases, .clock] s (tbInvalidate s n) := by
  rw [tbInvalidate_eq]
  exact .ite (fun _ => .raise (by decide) tickFollows_frame.toEv) (fun _ => tickFollows_frame.toEv)

theorem tbInvalidate_tbs : (tbInvalidate s n).tbs = (tbLapsed s n).tbs ∧ (tbInvalidate s n).tick.clock = s.tick.clock := by
  rw [tbInvalidate_eq]
  split
  · rw [raise_tbs _ _ _ _ (by decide), raise_tick _ _ _ _ (by decide)]
    exact tickFollows_tbs
  · exact tickFollows_tbs

theorem eventKey_tbStatus (hn : n < 4) : eventKey (K.tbStatus n) = false := eventKey_of_page (by simp only [K.tbStatus]; omega)

theorem tbInvalidate_valid (hn : n < 4) :
    tbValid (tbInvalidate s n) n = false ∧ (tickValid s = false → tickValid (tbInvalidate s n) = false) := by
  rw [tbInvalidate_eq]
  split
  · rw [tbValid, rdBit_raise _ _ _ _ _ _ (by decide) (eventKey_tbStatus hn)]
    obtain ⟨htb, htick⟩ := tickFollows_valid (s := s) (n := n)
    exact ⟨htb, fun h => (rdBit_raise _ _ _ _ K.tickStatus 0 (by decide) (by decide)).trans (htick h)⟩
  · exact tickFollows_valid

/-! A time base is stopped at its value (R341). -/

/-- A record stopped at the value it has at clock `c`. -/
def tbStopped (y : Tb) (c : Nat) : Tb := { y with base := tbAt y c, at_ := c, stopped := true }

/-- Time base `n` is no longer VALID, and stopped. -/
def tbHalted (s : State) (n : Nat) : State := setTb (tbInvalidate s n) n (tbStopped (tb (tbInvalidate s n) n) (tbInvalidate s n).tick.clock)

theorem timeStop_eq : timeStop s = forNat 4 (fun n s => tbHalted s n) (tickInvalid (clkFall s 23)) := rfl

theorem tbHalted_frame : EvFrame [K.tbStatus n, K.tickStatus] [.timeBases, .clock] s (tbHalted s n) := .setTb (by decide) tbInvalidate_frame

theorem tbHalted_clock : (tbHalted s n).tick.clock = s.tick.clock := tbInvalidate_tbs.2

theorem tb_tbHalted : tb (tbHalted s n) m = if n = m then tbStopped (unvalidated (tb s n)) s.tick.clock else tb s m := by
  obtain ⟨htbs, hclock⟩ := tbInvalidate_tbs (s := s) (n := n)
  rw [tbHalted, tb_setTb, tb_congr htbs, tb_congr htbs, hclock, tb_tbLapsed, tb_tbLapsed, if_pos rfl]
  split <;> rfl

/-- The tick runs free, and the time domain has no clock. -/
def Untimed (x : State) : Prop := tickValid x = false ∧ rdBit x K.clkLocked 23 = false

theorem tbHalted_untimed (hn : n < 4) (h : Untimed s) : Untimed (tbHalted s n) := by
  obtain ⟨htick, hclk⟩ := h
  refine ⟨(tbInvalidate_valid hn).2 htick, ?_⟩
  rw [rdBit, tbHalted_frame.1 _ (by decide) (by simp only [List.mem_cons, List.not_mem_nil, or_false, K.clkLocked, K.tbStatus, K.tickStatus]; omega)]
  exact hclk

/-- Another time base keeps its record and its VALID. -/
theorem tbHalted_other (hm : m < 4) (hne : n ≠ m) : tb (tbHalted s n) m = tb s m ∧ tbValid (tbHalted s n) m = tbValid s m := by
  have hkeys : K.tbStatus m ∉ [K.tbStatus n, K.tickStatus] := by
    simp only [List.mem_cons, List.not_mem_nil, or_false, K.tbStatus, K.tickStatus]
    omega
  refine ⟨tb_tbHalted.trans (if_neg hne), ?_⟩
  rw [tbValid, rdBit, tbHalted_frame.1 _ (eventKey_tbStatus hm) hkeys, tbValid, rdBit]

/-- Before its own step a time base stands as it did in `s`, at the same clock. -/
def StandsAs (s : State) (n : Nat) (x : State) : Prop := tb x n = tb s n ∧ x.tick.clock = s.tick.clock

/-- After its own step it is stopped where it stood in `s`, and no longer VALID. -/
def StoppedAt (s : State) (n : Nat) (x : State) : Prop :=
  tb x n = tbStopped (unvalidated (tb s n)) s.tick.clock ∧ x.tick.clock = s.tick.clock ∧ tbValid x n = false

theorem StoppedAt.reads (h : StoppedAt s n x) : (tb x n).stopped = true ∧ tbNow x n = tbNow s n ∧ tbValid x n = false := by
  obtain ⟨htb, -, hvalid⟩ := h
  rw [tbNow, htb]
  exact ⟨rfl, rfl, hvalid⟩

theorem timeStop_stops (hn : n < 4) : StoppedAt s n (timeStop s) := by
  rw [timeStop_eq]
  refine forNat_sets (Q := StandsAs s n) (P := StoppedAt s n) (f := fun n s => tbHalted s n) hn ?_ ?_ ?_ ?_
  · rintro k y - hne ⟨htb, hclock⟩
    exact ⟨(tbHalted_other hn hne).1.trans htb, tbHalted_clock.trans hclock⟩
  · rintro y ⟨htb, hclock⟩
    refine ⟨?_, tbHalted_clock.trans hclock, (tbInvalidate_valid hn).1⟩
    rw [tb_tbHalted, if_pos rfl, htb, hclock]
  · rintro k y - hne ⟨htb, hclock, hvalid⟩
    obtain ⟨hrecord, hstatus⟩ := tbHalted_other (s := y) hn hne
    exact ⟨hrecord.trans htb, tbHalted_clock.trans hclock, hstatus.trans hvalid⟩
  · have hclock : (clkFall s 23).tick.clock = s.tick.clock := by rw [clkFall_frame.2 .clock (by decide)]
    exact ⟨tb_congr ((tickInvalid_frame.2 .timeBases (by simp)).trans (clkFall_frame.2 .timeBases (by decide))), tickInvalid_clock.trans hclock⟩

theorem timeStop_untimed : Untimed (timeStop s) := by
  have hstart : Untimed (tickInvalid (clkFall s 23)) := by
    refine ⟨tickInvalid_free, ?_⟩
    rw [rdBit, tickInvalid_frame.1 _ (by decide)]
    exact clkFall_clears
  rw [timeStop_eq]
  exact forNat_rel (R := fun x y => Untimed x → Untimed y) (f := fun n s => tbHalted s n) (fun _ h => h) (fun h1 h2 h => h2 (h1 h)) 4
    (fun _ hi _ h => tbHalted_untimed hi h) _ hstart

end
end Sys2Proof.Machine

/-! The fabric ports and the clock domains (R67–R73, R78, R80, R52, R341). -/

namespace Sys2Proof.Machine

section
variable {s t u : State} {p n k v d : Nat}

theorem Pending.settledReset {z : State} (h : Pending u n) : Pending (settledReset z u) n := h

/-- A bit written last reads back as the command leaves it, and the time bases stay. -/
theorem settled_wrBit_reads {z : State} {i : Nat} {b : Bool} : rdBit (settled z (wrBit u k i b)) k i = b ∧
    tb (settled z (wrBit u k i b)) n = tb u n ∧ tbNow (settled z (wrBit u k i b)) n = tbNow u n := ⟨rdBit_wrBit_same .., rfl, rfl⟩

/-- The management channels on are reset, and their domain's bit is clear (R52). -/
theorem mgLost_reads (h1 : (chan s 1).sess = none) (h2 : (chan s 2).sess = none) (hc : rdBit s K.clkLocked 22 = true)
    (hu : u = forList (mgOn s) (fun i s => resetChan s (1 + i)) (clkFall (mgUnclocked s) 22)) :
    rdBit u K.clkLocked 22 = false ∧ rdBit u K.clkLost 22 = true ∧ Pending u Ev.clockLost ∧
    (∀ c, (c = 1 ∨ c = 2) → rdBit s (K.chanCtrl c) 0 = true → (chan u c).queue = [] ∧ (chan u c).held = none) ∧
    EvFrame [K.clkLocked, K.clkLost] [.lines] s u := by
  have hsess (c : Nat) (h : c = 1 ∨ c = 2) : (chan (clkFall (mgUnclocked s) 22) c).sess = none := by
    refine (clkFall_sess c).trans ?_
    obtain rfl | rfl := h
    · exact h1
    · exact h2
  have hlt (i : Nat) (hi : i ∈ mgOn s) : i < 2 := List.mem_range.mp (List.mem_of_mem_filter hi)
  obtain ⟨hframe, hall⟩ := resetChans (mgOn s) hsess hlt
  rw [← hu] at hframe hall
  obtain ⟨hlost, hpending⟩ := clkFall_raises (s := mgUnclocked s) (d := 22) hc
  have hreg (k : Nat) : rd u k = rd (clkFall (mgUnclocked s) 22) k := hframe.1 k List.not_mem_nil
  refine ⟨?_, ?_, ?_, fun c h hon => ?_, ?_⟩
  · rw [rdBit, hreg]
    exact clkFall_clears
  · rw [rdBit, hreg]
    exact hlost
  · rw [Pending, rdBit, hreg]
    exact hpending
  · have hmem : c - 1 ∈ mgOn s := List.mem_filter.mpr ⟨List.mem_range.mpr (by omega), by rwa [show 1 + (c - 1) = c by omega]⟩
    have hempty := hall (c - 1) (.inl hmem)
    rwa [show 1 + (c - 1) = c by omega] at hempty
  · have hfall : EvFrame [K.clkLocked, K.clkLost] [.lines] s (clkFall (mgUnclocked s) 22) :=
      (EvFrame.set_lines (by simp) .refl).trans (clkFall_frame.mono (fun _ h => h) (by simp))
    exact hfall.trans (hframe.ev (by simp) (by decide))

/-- Settles O37, clause by clause: FAB_CTRL and the checkers it clears, the port's clock, sync and alignment with their events (R67–R73,
R78, R80), and what each clock domain takes and gives back (R52, R341). -/
theorem fabricPorts : Obligations.FabricPorts := by
  refine ⟨?_, ?_, ?_, ?_, ?_, ?_, ?_, ?_, ?_, ?_, ?_, ?_, ?_, ?_, ?_, ?_, ?_, ?_, ?_, ?_⟩
  · intro r p v s hp hv hg
    refine runs_answered rfl hg (he := (fabCtrlEff_eq ..).trans rfl) fun x => ⟨rfl, ?_, fun h0 h1 => ?_, fun h1 d hd => ?_, ?_⟩
    all_goals rw [Nat.mod_eq_of_lt hv]
    · exact rd_answered.trans (rd_fabCtrl hp)
    · exact rdField_answered.trans (fabStatus_cleared (portCleared_off h0 h1))
    · exact rd_answered.trans (rd_fabCtrl_chkStatus hd h1)
    · exact Frame.answered (by simp) (fabCtrl_frame.mono (fun _ h => h) (by simp))
  · intro p s hp hl hc
    obtain ⟨hstatus, hevents, hlocked, hpending, hframe⟩ := fabClkLost_reads hp hl hc
    exact runs_done (congrArg (done s) (if_pos hp)) ⟨hstatus, hevents, hlocked, hpending.settled, hframe.settled⟩
  · intro p s hp hl
    have hx : exec (.fabClkLost p) s = done s s := congrArg (done s) ((if_pos hp).trans (fabClkLost_looped hl))
    exact runs_done hx ⟨rfl, Frame.refl.settled⟩
  · intro p s hp hon
    obtain ⟨hstatus, hlocked, hframe⟩ := fabClkBack_reads hon
    exact runs_done (congrArg (done s) (if_pos hp)) ⟨hstatus, hlocked, hframe.settled⟩
  · intro p d s hp hd hc ho
    obtain ⟨hlane, hup, hframe⟩ := fabSynced_reads hd ho
    exact runs_done (exec_fabSyncAcquired hp hd hc ho) ⟨hlane, hup, hframe.settled⟩
  · intro p d n s hp hd hs
    obtain ⟨hlane, hfive, hup, hevent, hpending, hframe⟩ := fabUnsynced_reads (n := n) (s := s) hp hd
    exact runs_done (exec_fabSyncLost hp hd hs) ⟨hlane, hfive, hup, hevent, (fabUnsynced_counts hp).settled, hpending.settled, hframe.settled⟩
  · intro p k s hp hk h
    have hx := (exec_fabAlignSetRx (k := k) hp h).trans (congrArg (done s) (if_pos hk))
    have hfive : rdBit (fabRefresh (fabSkewed s p k true) p) (K.fabStatus p) 5 = true := (rdBit_fabRefresh (by decide)).trans (rdBit_wrBit_same ..)
    refine runs_done hx ⟨rd_fabSkewed.trans (min_eq_right (by omega)), hfive, fabUp_fabRefresh.trans (fabReady_skewed h), ?_⟩
    exact ((fabSkewed_frame.mono (by simp) (by simp)).trans (fabRefresh_frame.mono (by simp) (by simp))).settled
  · intro p k s hp hk h
    have hx := (exec_fabAlignSetRx (k := k) hp h).trans (congrArg (done s) (if_neg (by omega)))
    obtain ⟨hstatus, hevent⟩ := fabEvent_reads (s := fabRefresh (fabSkewed s p k false) p) (src := Ev.fabDeskewFail) (a := p) (b := 0) (i := 2) hp
      (by decide)
    have hfive : rdBit (fabSkewed s p k false) (K.fabStatus p) 5 = false := rdBit_wrBit_same ..
    have hframe : EvFrame [K.fabStatus p, K.fabSkew p, K.fabEvents p, K.linkStatus p] [.fabric] s (fabRefresh (fabSkewed s p k false) p) :=
      ((fabSkewed_frame.mono (by simp) (by simp)).trans (fabRefresh_frame.mono (by simp) (by simp))).toEv
    have hkey : eventKey (K.fabSkew p) = false := eventKey_of_page (by simp only [K.fabSkew]; omega)
    refine runs_done hx ⟨?_, ?_, ?_, hevent, Pending.settled (raise_sets_pending _ _ _ _ (by decide)),
      EvFrame.settled (.raise (by decide) (.wrBit (by simp) hframe))⟩
    · rw [rd_settled, rd_raise _ _ _ _ _ (by decide) hkey, rd_wrBit_ne _ _ _ (by simp only [K.fabEvents, K.fabSkew]; omega), rd_fabSkewed]
    · exact (congrArg (bit · 5) hstatus).trans ((rdBit_fabRefresh (by decide)).trans hfive)
    · exact (congrArg (bit · 6) hstatus).trans (fabUp_fabRefresh.trans (fabReady_false (by decide) hfive))
  · intro p s hp ho
    exact runs_done (congrArg (done s) (if_pos ⟨hp, ho⟩)) ⟨rfl, Frame.settled (.emit (by simp) .refl)⟩
  · intro d s hd he ht
    refine runs_doneReset (exec_clockLost_device hd he ht) ⟨(rd_settledReset ..).trans (rd_wr_same ..), rfl, rfl, rfl, rfl, fun k hk hc => ?_⟩
    exact (rd_settledReset ..).trans (rd_deviceReset hk hc)
  · intro d s h2 h18 he
    refine runs_doneReset (exec_clockLost_group h2 h18 he) ⟨fun i hi => ?_, groupLost_frame.settledReset⟩
    exact groupLost_laneLost hi
  · intro d s h18 h22 he hl hc
    obtain ⟨hstatus, hevents, hlocked, hpending, hframe⟩ := fabClkLost_reads (by omega) hl hc
    rw [show 18 + (d - 18) = d by omega] at hlocked
    exact runs_doneReset (exec_clockLost_port h18 h22 he) ⟨hstatus, hevents, hlocked, hpending.settledReset, hframe.settledReset⟩
  · intro s he h1 h2 hc
    obtain ⟨hlocked, hlost, hpending, hempty, hframe⟩ := mgLost_reads h1 h2 hc rfl
    exact runs_doneReset (exec_clockLost_mg he) ⟨hlocked, hlost, hpending.settledReset, hempty, hframe.settledReset⟩
  · intro s he hf hc
    obtain ⟨hosc, hlocked, hlost, hpending, hframe⟩ := crystalFail_reads hf hc
    exact runs_doneReset (exec_clockLost_crystal he) ⟨hosc, hlocked, hlost, hpending.settledReset, hframe.settledReset⟩
  · intro d s h2 h18 he hg
    have hx : exec (.clockReturned d) s = done s (wrBit s K.clkLocked d true) :=
      (exec_clockReturned_group h2 h18 he).trans (congrArg (done s) (if_pos hg))
    exact runs_done hx ⟨rdBit_wrBit_same .., Frame.settled (.wrBit (by simp) .refl)⟩
  · intro d s h18 h22 he hon
    obtain ⟨hstatus, hlocked, hframe⟩ := fabClkBack_reads hon
    rw [show 18 + (d - 18) = d by omega] at hlocked
    exact runs_done (exec_clockReturned_port h18 h22 he) ⟨hstatus, hlocked, hframe.settled⟩
  · intro s he
    refine runs_done (exec_clockReturned_mg he) ⟨?_, Frame.settled (.wrBit (by simp) (.set_lines (by simp) .refl))⟩
    refine (rdBit_wrBit_same ..).trans ?_
    rw [mgLocked_mgClocked]
    exact (congrArg (· && _) he).trans (Bool.true_and _)
  · intro s he hb
    obtain ⟨hosc, hlocked, hfired, hframe⟩ := crystalBack_reads he hb
    exact runs_done (exec_clockReturned_crystal he) ⟨hosc, hlocked, hfired, hframe.settled⟩
  · intro s he hs
    obtain ⟨htick, hclk⟩ := timeStop_untimed (s := s)
    exact runs_doneReset (exec_clockLost_time he hs) ⟨fun n hn => (timeStop_stops hn).reads, htick, hclk⟩
  · intro s he
    have hreads (n : Nat) := settled_wrBit_reads (z := s) (u := tbsRestarted s) (k := K.clkLocked) (n := n) (i := 23) (b := true)
    refine runs_done (exec_clockReturned_time he) ⟨fun n hn => ?_, (hreads 0).1, ?_⟩
    · obtain ⟨-, htb, hnow⟩ := hreads n
      rw [htb, hnow]
      exact tbsRestarted_reads hn
    · exact Frame.settled (.wrBit (by simp) (tbsRestarted_frame.mono (by simp) (fun _ h => h)))

end
end Sys2Proof.Machine

/-! The states of a line or host lane (R58): what its status word reads after each step, and what the step leaves alone. -/

namespace Sys2Proof.Machine

section
variable {ks : List Nat} {ps : List Part} {s t u : State} {m i k v taps : Nat} {b : Bool}

/-! The status word. -/

theorem laneStatus_page (hm : m < 64) : K.laneStatus m / 256 < 0x8000 := by
  simp only [K.laneStatus]
  omega

theorem laneState_congr (h : rd t (K.laneStatus m) = rd s (K.laneStatus m)) : laneState t m = laneState s m := by
  simp only [laneState, rdField, h]

theorem laneState_setLaneState : laneState (setLaneState s m v) m = v % 16 := by
  rw [laneState, rdField, rd_setLaneState]
  exact bits_setBits_same _ _ _ _ (by decide)

/-- A lane that becomes READY marks no loss (R108). -/
theorem setLaneState_ready : setLaneState s m Lane.ready = wrField s (K.laneStatus m) 3 0 Lane.ready := by simp [Machine.setLaneState]

theorem rdBit_setLaneState (hi : 3 < i) : rdBit (setLaneState s m v) (K.laneStatus m) i = rdBit s (K.laneStatus m) i := by
  rw [rdBit, rd_setLaneState, bit_setBits_ne _ _ _ _ _ (by decide) (.inr hi), rdBit]

theorem laneState_wrBit (hi : 3 < i) : laneState (wrBit s (K.laneStatus m) i b) m = laneState s m := rdField_wrBit_ne (.inr hi)

theorem laneState_wr_ne (h : k ≠ K.laneStatus m) : laneState (wr s k v) m = laneState s m := rdField_wr_ne h

theorem laneState_refreshLane (hm : m < 64) : laneState (refreshLane s m) m = laneState s m :=
  laneState_congr (rd_refreshLane (laneStatus_page hm))

theorem rdBit_refreshLane (hm : m < 64) : rdBit (refreshLane s m) (K.laneStatus m) i = rdBit s (K.laneStatus m) i :=
  congrArg (bit · i) (rd_refreshLane (laneStatus_page hm))

theorem EvFrame.refreshLane (hl : K.clkLocked ∈ ks) (hc : K.clkLost ∈ ks) (h : EvFrame ks ps s u) : EvFrame ks ps s (refreshLane u m) :=
  h.trans (refreshLane_frame.mono (by simp [hl, hc]) (by simp))

theorem Frame.setLaneState (hs : K.laneStatus m ∈ ks) (ho : K.otnEvents (m % 32 / 4) ∈ ks) (h : Frame ks ps s u) :
    Frame ks ps s (setLaneState u m v) :=
  h.trans (setLaneState_frame.mono (by simp [laneIdx, hs, ho]) (by simp))

/-! A lane that waits for a signal. -/

theorem laneState_laneToWait : laneState (laneToWait s m) m = Lane.waitSignal :=
  (laneState_wr_ne (by simp only [K.rxSnr, K.laneStatus]; omega)).trans laneState_setLaneState

theorem laneToWait_frame : Frame [K.laneStatus m, K.rxSnr m, K.otnEvents (m % 32 / 4)] [] s (laneToWait s m) :=
  .wr (by simp) (.setLaneState (by simp) (by simp) (.wrBit (by simp) .refl))

/-! The signal (R58, R63). -/

/-- The signal is noted, and the coefficients are dropped after an absence of more than 1 ms. -/
def signalNoted (s : State) (m : Nat) : State :=
  let gone := tget 0 s.lines.lost m
  let s1 := wrBit s (K.laneStatus m) 4 true
  let s1 := if gone ≠ 0 ∧ 1250000 < s.tick.clock + 1 - gone then wrBit s1 (K.laneStatus m) 6 false else s1
  { s1 with lines := { s1.lines with lost := tset 0 s1.lines.lost m 0 } }

theorem signalNoted_frame : Frame [K.laneStatus m] [.lines] s (signalNoted s m) := by
  have hbit : Frame [K.laneStatus m] [.lines] s (wrBit s (K.laneStatus m) 4 true) := .wrBit (by simp) .refl
  exact .set_lines (by decide) (.ite (fun _ => .wrBit (by simp) hbit) (fun _ => hbit))

theorem signalNoted_reads : rdBit (signalNoted s m) (K.laneStatus m) 4 = true ∧ laneState (signalNoted s m) m = laneState s m := by
  unfold signalNoted
  dsimp only
  split
  · exact ⟨(rdBit_wrBit_ne (by decide)).trans (rdBit_wrBit_same ..), (laneState_wrBit (by decide)).trans (laneState_wrBit (by decide))⟩
  · exact ⟨rdBit_wrBit_same .., laneState_wrBit (by decide)⟩

theorem exec_laneSignalDetect (hm : m < 64) (h : laneState s m = Lane.waitSignal ∨ laneState s m = Lane.test) :
    exec (.laneSignalDetect m) s =
      done s (if laneState s m = Lane.waitSignal then setLaneState (signalNoted s m) m Lane.cdr else signalNoted s m) :=
  congrArg (done s) (if_pos ⟨hm, h⟩)

/-! Clock recovery and training (R58, R61, R63). -/

/-- The receiver has recovered its clock. -/
def clockNoted (s : State) (m : Nat) : State := wrBit s (K.laneStatus m) 5 true

/-- The lane starts training, which is counted. -/
def trainingBegun (s : State) (m : Nat) : State := peerAsks (inc (setLaneState (clockNoted s m) m Lane.training) (K.trainCount m) 1) m

/-- Where lane `m` goes with its recovered clock. -/
def cdrLocked (s : State) (m : Nat) : State :=
  if laneState s m = Lane.test then clockNoted s m
  else if trains s m = true ∧ rdBit s (K.laneStatus m) 6 = false then trainingBegun s m
  else setLaneState (clockNoted s m) m Lane.adapt

theorem trains_clockNoted : trains (clockNoted s m) m = trains s m := by
  have hctrl : K.laneStatus m ≠ K.laneCtrl m := by simp only [K.laneStatus, K.laneCtrl]; omega
  have hlayout : K.laneStatus m ≠ K.groupLayout (m / 4) := by simp only [K.laneStatus, K.groupLayout]; omega
  simp only [trains, layout, rdBit, clockNoted, rd_wrBit_ne _ _ _ hctrl, rd_wrBit_ne _ _ _ hlayout]

theorem exec_laneCdrLock (hm : m < 64) (h : laneState s m = Lane.cdr ∨ laneState s m = Lane.test) :
    exec (.laneCdrLock m) s = done s (refreshLane (cdrLocked s m) m) := by
  have hbit : rdBit (clockNoted s m) (K.laneStatus m) 6 = rdBit s (K.laneStatus m) 6 := rdBit_wrBit_ne (by decide)
  refine congrArg (done s) ((if_pos ⟨hm, h⟩).trans (congrArg (refreshLane · m) ?_))
  change (if laneState s m = Lane.test then clockNoted s m
    else if trains (clockNoted s m) m && !rdBit (clockNoted s m) (K.laneStatus m) 6 then trainingBegun s m
    else setLaneState (clockNoted s m) m Lane.adapt) = _
  simp only [cdrLocked, trains_clockNoted, hbit, Bool.and_eq_true, Bool.not_eq_true']

theorem trainingBegun_frame :
    Frame [K.laneStatus m, K.trainCount m, K.otnEvents (m % 32 / 4)] [.lines, .draws] s (trainingBegun s m) :=
  .set_draws (by decide) (.set_lines (by decide) (.inc (by simp) (.setLaneState (by simp) (by simp) (.wrBit (by simp) .refl))))

theorem laneState_trainingBegun : laneState (trainingBegun s m) m = Lane.training :=
  (laneState_wr_ne (by simp only [K.trainCount, K.laneStatus]; omega)).trans laneState_setLaneState

theorem trainingBegun_counts (hm : m < 64) : Counts s (refreshLane (trainingBegun s m) m) (K.trainCount m) 1 := by
  have hbefore : rd (setLaneState (clockNoted s m) m Lane.training) (K.trainCount m) = rd s (K.trainCount m) := by
    refine (Frame.setLaneState (ks := [K.laneStatus m, K.otnEvents (m % 32 / 4)]) (ps := []) (by simp) (by simp) (.wrBit (by simp) .refl)).1 _ ?_
    simp only [List.mem_cons, List.not_mem_nil, or_false, K.trainCount, K.laneStatus, K.otnEvents]
    omega
  exact (Counts.of_inc hbefore).of_rd (rd_refreshLane (by simp only [K.trainCount]; omega))

theorem adapting_reads : laneState (setLaneState (clockNoted s m) m Lane.adapt) m = Lane.adapt ∧
    rdBit (setLaneState (clockNoted s m) m Lane.adapt) (K.laneStatus m) 5 = true :=
  ⟨laneState_setLaneState, (rdBit_setLaneState (by decide)).trans (rdBit_wrBit_same ..)⟩

/-! The end of training (R58, R61, R62). -/

/-- Training has ended with the taps the peer requested. -/
def trainingDone (s : State) (m taps : Nat) : State :=
  setPeerTaps (setLaneState (wrBit s (K.laneStatus m) 6 true) m Lane.adapt) m taps

theorem trainingDone_frame : Frame [K.laneStatus m, K.otnEvents (m % 32 / 4)] [.lines] s (trainingDone s m taps) :=
  .set_lines (by decide) (.setLaneState (by simp) (by simp) (.wrBit (by simp) .refl))

/-- The transmitter uses the taps requested, where training is enabled. -/
theorem txFirView_trainingDone (h : rdBit s (K.laneCtrl m) 2 = true) : txFirView (trainingDone s m taps) m = taps := by
  have hctrl : rdBit (trainingDone s m taps) (K.laneCtrl m) 2 = true := by
    rw [rdBit, trainingDone_frame.1 _ ?_, ← rdBit, h]
    simp only [List.mem_cons, List.not_mem_nil, or_false, K.laneCtrl, K.laneStatus, K.otnEvents]
    omega
  rw [txFirView, if_pos hctrl]
  exact tget_tset_same ..

/-- Training has failed, with its mark. -/
def trainingFailed (s : State) (m : Nat) : State := wrBit (setLaneState (peerAsks s m) m Lane.trainFailed) (K.laneEvents m) 2 true

theorem trainingFailed_frame :
    Frame [K.laneStatus m, K.laneEvents m, K.otnEvents (m % 32 / 4)] [.lines, .draws] s (trainingFailed s m) :=
  .wrBit (by simp) (.setLaneState (by simp) (by simp) (.set_draws (by decide) (.set_lines (by decide) .refl)))

theorem laneState_trainingFailed (hm : m < 64) : laneState (raise (trainingFailed s m) Ev.laneTrainFail m 0) m = Lane.trainFailed := by
  have hraise : rd (raise (trainingFailed s m) Ev.laneTrainFail m 0) (K.laneStatus m) = rd (trainingFailed s m) (K.laneStatus m) :=
    rd_raise _ _ _ _ _ (by decide) (eventKey_of_page (by have := laneStatus_page hm; omega))
  exact (laneState_congr hraise).trans
    ((laneState_wr_ne (by simp only [K.laneEvents, K.laneStatus]; omega)).trans laneState_setLaneState)

/-- Settles O1, clause by clause: what the status word of the lane reads after each step of R58. -/
theorem laneStateSteps : Obligations.LaneStateSteps := by
  refine ⟨?_, ?_, ?_, ?_, ?_, ?_, ?_, ?_, ?_, ?_, ?_⟩
  · intro m s hm h
    have hx := (exec_laneSignalDetect hm (.inl h)).trans (congrArg (done s) (if_pos h))
    refine runs_done hx ⟨laneState_setLaneState, (rdBit_setLaneState (by decide)).trans signalNoted_reads.1, Frame.settled ?_⟩
    exact .setLaneState (by simp) (by simp) (signalNoted_frame.mono (by simp) (by simp))
  · intro m s hm h ht h6
    have hx : cdrLocked s m = trainingBegun s m := (if_neg (by rw [h]; decide)).trans (if_pos ⟨ht, h6⟩)
    refine runs_done ((exec_laneCdrLock hm (.inl h)).trans (by rw [hx])) ⟨?_, (trainingBegun_counts hm).settled, EvFrame.settled ?_⟩
    · exact (laneState_refreshLane hm).trans laneState_trainingBegun
    · exact .refreshLane (by simp) (by simp) (trainingBegun_frame.toEv.mono (by simp) (by simp))
  · intro m s hm h ht
    have hnot : ¬ (trains s m = true ∧ rdBit s (K.laneStatus m) 6 = false) := by
      rintro ⟨h1, h2⟩
      simp [h1, h2] at ht
    have hx : cdrLocked s m = setLaneState (clockNoted s m) m Lane.adapt := (if_neg (by rw [h]; decide)).trans (if_neg hnot)
    refine runs_done ((exec_laneCdrLock hm (.inl h)).trans (by rw [hx])) ⟨?_, ?_, EvFrame.settled ?_⟩
    · exact (laneState_refreshLane hm).trans adapting_reads.1
    · exact (rdBit_refreshLane hm).trans adapting_reads.2
    · exact .refreshLane (by simp) (by simp) (Frame.setLaneState (by simp) (by simp) (.wrBit (by simp) .refl)).toEv
  · intro m s hm h
    refine runs_done (congrArg (done s) (if_pos ⟨hm, h⟩)) ⟨laneState_laneToWait, ?_, Frame.settled ?_⟩
    · have hlines : (laneToWait s m).lines = s.lines := laneToWait_frame.2 .lines (by simp)
      exact (tget_tset_same ..).trans (congrArg (fun l => tget 0 l.cdrFails m + 1) hlines)
    · exact .set_lines (by decide) (laneToWait_frame.mono (by simp) (by simp))
  · intro m taps s hm ht h
    have hx : exec (.laneTrainComplete m taps) s = done s (trainingDone s m (taps % 2 ^ 30)) := congrArg (done s) (if_pos ⟨hm, h⟩)
    rw [Nat.mod_eq_of_lt ht] at hx
    refine runs_done hx ⟨laneState_setLaneState, ?_, txFirView_trainingDone, trainingDone_frame.settled⟩
    exact (rdBit_setLaneState (by decide)).trans (rdBit_wrBit_same ..)
  · intro m s hm h
    have hx : exec (.laneTrainTimeout m) s = done s (raise (trainingFailed s m) Ev.laneTrainFail m 0) := congrArg (done s) (if_pos ⟨hm, h⟩)
    exact runs_done hx ⟨laneState_trainingFailed hm, Pending.settled (raise_sets_pending _ _ _ _ (by decide)),
      (EvFrame.raise (by decide) trainingFailed_frame.toEv).settled⟩
  · intro m s hm h
    refine runs_done (congrArg (done s) (if_pos ⟨hm, h⟩)) ⟨(laneState_refreshLane hm).trans laneState_laneToWait, EvFrame.settled ?_⟩
    exact .refreshLane (by simp) (by simp) (laneToWait_frame.toEv.mono (by simp) (by simp))
  · intro m snr s hm hsnr h
    have hne : K.rxSnr m ≠ K.laneStatus m := by simp only [K.rxSnr, K.laneStatus]; omega
    refine runs_done (congrArg (done s) (if_pos ⟨hm, h⟩)) ⟨(laneState_wr_ne hne).trans laneState_setLaneState, ?_, Frame.settled ?_⟩
    · exact (rd_wr_same ..).trans (Nat.mod_eq_of_lt hsnr)
    · rw [setLaneState_ready]
      exact .wr (by simp) (.wrField (by simp) .refl)
  · intro m s hm h
    refine runs_done (congrArg (done s) (if_pos ⟨hm, h⟩)) ⟨(laneState_refreshLane hm).trans laneState_setLaneState, EvFrame.settled ?_⟩
    exact .refreshLane (by simp) (by simp) (Frame.setLaneState (by simp) (by simp) (.wrBit (by simp) .refl)).toEv
  · intro m s hm h
    have hx := (exec_laneSignalDetect hm (.inr h)).trans (congrArg (done s) (if_neg (by rw [h]; decide)))
    exact runs_done hx ⟨signalNoted_reads.2.trans h, signalNoted_reads.1, signalNoted_frame.settled⟩
  · intro m s hm h
    have hx : cdrLocked s m = clockNoted s m := if_pos h
    refine runs_done ((exec_laneCdrLock hm (.inr h)).trans (by rw [hx])) ⟨?_, ?_, EvFrame.settled ?_⟩
    · exact (laneState_refreshLane hm).trans ((laneState_wrBit (by decide)).trans h)
    · exact (rdBit_refreshLane hm).trans (rdBit_wrBit_same ..)
    · exact .refreshLane (by simp) (by simp) (.wrBit (by simp) .refl)

end
end Sys2Proof.Machine

/-! A layout that no OR3216-IE has (R3, R56). -/

namespace Sys2Proof.Machine

section
variable {s : State} {r : Req} {n : Nat}

/-- On an OR3216-IE layout 11 is refused with the unsupported-value code, whatever the group's mode. -/
theorem groupLayoutEff_otu4OnIe (hv : s.unit.variant = 1) (ht : layoutTooFast s n 11 = false) :
    groupLayoutEff n 11 s = abortR s .unsupportedValue := by
  rw [groupLayoutEff, ht, if_neg (by decide), layoutEff, if_pos ⟨rfl, hv⟩]

theorem exec_groupLayoutWrite_otu4OnIe (hg : Admitted s r (K.groupLayout n) true) (hv : s.unit.variant = 1)
    (ht : layoutTooFast s n 11 = false) :
    exec (.groupLayoutWrite r n 11) s = done s (replied (touch s r) .unsupportedValue []) := by
  have heff : groupLayoutEff n (11 % 256) s = abortR s .unsupportedValue := groupLayoutEff_otu4OnIe hv ht
  refine congrArg (done s) ((access_pass hg _).trans ?_)
  rw [heff]
  rfl

end

/-- An OR3216-IE that runs, with a session on SPI; group 0 carries traffic on layout 1. -/
def ieInTraffic : State :=
  { State.reset with
    regs := [(K.groupLayout 0, 1), (K.groupMode 0, 1)]
    unit := { State.reset.unit with variant := 1 }
    boot := { State.reset.boot with engine := true, fw := true }
    chans := [(0, { State.idleChan with sess := some ⟨[], 0, 0, 0, 0, 0⟩ })] }

/-- Refutes O3 in its clause of GROUP_LAYOUT outside GROUP_MODE 0: the clause has every value abort with the wrong-state code, while
the model refuses value 11 on an OR3216-IE with the unsupported-value code in every mode (R3, R56). -/
theorem not_laneControls : ¬ Obligations.LaneControls := by
  intro h
  obtain ⟨-, hrefused, -⟩ := h
  have hmode : mode ieInTraffic 0 ≠ 0 := by decide +kernel
  have hg : Admitted ieInTraffic ⟨0, false, 0⟩ (K.groupLayout 0) true := by decide +kernel
  obtain ⟨t, ht, hcode, -⟩ := hrefused ⟨0, false, 0⟩ 0 11 ieInTraffic hmode hg
  rw [exec_groupLayoutWrite_otu4OnIe hg rfl rfl] at ht
  rw [eq_settled_of_done ht] at hcode
  exact absurd hcode (by decide)

end Sys2Proof.Machine

/-! Block lock (R51, R65, R66): the receive FIFO that follows it, and what a lock and a loss leave. -/

namespace Sys2Proof.Machine

section
variable {ps : List Part} {s t : State} {m n q l k : Nat} {sd : Side}

theorem EvFrame.rd_kept (h : EvFrame [] ps s t) (hk : k / 256 < 0xE000) : rd t k = rd s k :=
  h.1 k (eventKey_of_page hk) List.not_mem_nil

/-! The receive FIFO (R51). -/

theorem fifoRedraw_frame : EvFrame [] [.datapath, .draws] s (fifoRedraw s q sd) := by
  unfold fifoRedraw
  have hset (x : Tbl Nat) : EvFrame [] [.datapath, .draws] s { s with dp := { s.dp with fifo := x }, draws := s.draws + 1 } :=
    .set_draws (u := { s with dp := { s.dp with fifo := x } }) (by decide) (.set_dp (by decide) .refl)
  exact .ite (fun _ => .raise (by decide) (.raise (by decide) (.set_dp (by decide) (hset _)))) (fun _ => hset _)

/-- The receive FIFO of the port whose lowest lane is `m` crosses anew. -/
def fifoFollows (s : State) (m : Nat) : State :=
  match portOfLane s (laneIdx m) with
  | some q => if q = laneIdx m then fifoRedraw s q (if m < 32 then .line else .host) else s
  | none => s

theorem fifoFollows_frame : EvFrame [] [.datapath, .draws] s (fifoFollows s m) := by
  unfold fifoFollows
  split
  · exact .ite (fun _ => fifoRedraw_frame) (fun _ => .refl)
  · exact .refl

/-! Lock and loss in a lane receiver (R65, R66). -/

/-- A lane's bit of block lock, with the slips it counts. -/
def laneBlockSet (s : State) (m n : Nat) (b : Bool) : State := inc (wrBit s (K.laneStatus m) 7 b) (K.blockSlips m) n

theorem laneBlockSet_frame {b : Bool} : Frame [K.laneStatus m, K.blockSlips m] [] s (laneBlockSet s m n b) :=
  .inc (by simp) (.wrBit (by simp) .refl)

theorem laneBlockSet_reads {b : Bool} :
    rdBit (laneBlockSet s m n b) (K.laneStatus m) 7 = b ∧ Counts s (laneBlockSet s m n b) (K.blockSlips m) n := by
  have hne : K.blockSlips m ≠ K.laneStatus m := by simp only [K.blockSlips, K.laneStatus]; omega
  exact ⟨(rdBit_wr_ne hne).trans (rdBit_wrBit_same ..), Counts.of_inc (rd_wrBit_ne _ _ _ hne.symm)⟩

theorem exec_blockLockAcquired_lane (hm : m < 64) (hst : laneState s m = Lane.ready) (hb : laneBlock s m = true) :
    exec (.blockLockAcquired (.lane m) n) s = done s (fifoFollows (laneBlockSet s m n true) m) :=
  congrArg (done s) (if_pos ⟨hm, hst, hb⟩)

/-- A lane loses block lock, with its mark. -/
def laneBlockLost (s : State) (m : Nat) : State := wrBit (laneBlockSet s m 1 false) (K.laneEvents m) 3 true

theorem exec_blockLockLost_lane (hm : m < 64) (h : rdBit s (K.laneStatus m) 7 = true) :
    exec (.blockLockLost (.lane m)) s = done s (raise (laneBlockLost s m) Ev.blockLockLost m 0) := congrArg (done s) (if_pos ⟨hm, h⟩)

theorem laneBlockLost_reads : rdBit (laneBlockLost s m) (K.laneStatus m) 7 = false ∧
    Counts s (laneBlockLost s m) (K.blockSlips m) 1 ∧ rdBit (laneBlockLost s m) (K.laneEvents m) 3 = true := by
  obtain ⟨hbit, hslips⟩ := laneBlockSet_reads (s := s) (m := m) (n := 1) (b := false)
  exact ⟨(rdBit_wr_ne (by simp only [K.laneEvents, K.laneStatus]; omega)).trans hbit,
    hslips.of_rd (rd_wrBit_ne _ _ _ (by simp only [K.laneEvents, K.blockSlips]; omega)), rdBit_wrBit_same ..⟩

/-! Lock and loss behind the decoder (R65, R66, R82). -/

/-- The PCS lanes locked on a port side, with the slips they count. -/
def fecBlockSet (s : State) (q : Nat) (sd : Side) (n : Nat) (x : List Nat) : State := inc (setPcsBlk s q sd ⟨x⟩) (K.pcsBlockSlips q) n

theorem fecBlockSet_frame {x : List Nat} : Frame [K.pcsBlockSlips q] [.lines] s (fecBlockSet s q sd n x) :=
  .inc (by simp) (.set_lines (by decide) .refl)

theorem pcsBlk_congr (h : t.lines = s.lines) : pcsBlk t q sd = pcsBlk s q sd := by rw [pcsBlk, h, pcsBlk]

theorem pcsBlk_fecBlockSet {x : List Nat} : pcsBlk (fecBlockSet s q sd n x) q sd = ⟨x⟩ := tget_tset_same ..

theorem fecBlockSet_counts {x : List Nat} : Counts s (fecBlockSet s q sd n x) (K.pcsBlockSlips q) n := Counts.of_inc rfl

/-- PCS lane `l` has locked, and with the last one the FIFO is set. -/
def fecBlockLocked (s : State) (q : Nat) (sd : Side) (l n : Nat) : State :=
  let s1 := fecBlockSet s q sd n (l :: (pcsBlk s q sd).locked.filter (· != l))
  if fecLocked s1 q sd && !fecLocked s q sd then fifoRedraw s1 q sd else s1

theorem fecBlockLocked_frame : EvFrame [] [.datapath, .draws] (fecBlockSet s q sd n (l :: (pcsBlk s q sd).locked.filter (· != l)))
    (fecBlockLocked s q sd l n) := .ite (fun _ => fifoRedraw_frame) (fun _ => .refl)

theorem exec_blockLockAcquired_fec (hp : isPort s q = true) (hf : fecOf s q sd ≠ 1) (hl : l < pcsLanes s q)
    (hd : decoding s q sd = true) : exec (.blockLockAcquired (.fec q sd l) n) s = done s (fecBlockLocked s q sd l n) :=
  congrArg (done s) (if_pos (by simp [hp, hf, hl, hd]))

/-- PCS lane `l` has lost its lock. -/
def fecBlockLost (s : State) (q : Nat) (sd : Side) (l : Nat) : State := fecBlockSet s q sd 1 ((pcsBlk s q sd).locked.filter (· != l))

theorem exec_blockLockLost_fec (h : l ∈ (pcsBlk s q sd).locked) : ∃ a, exec (.blockLockLost (.fec q sd l)) s =
    done s (raise (fecBlockLost s q sd l) Ev.blockLockLost a 0) :=
  ⟨_, congrArg (done s) (if_pos (List.contains_iff_mem.mpr h))⟩

/-- Settles O4, clause by clause: a lock and a loss in a lane receiver and behind the decoder. -/
theorem blockLock : Obligations.BlockLock := by
  have hpage {m : Nat} (hm : m < 64) : K.laneStatus m / 256 < 0xE000 ∧ K.blockSlips m / 256 < 0xE000 ∧ K.laneEvents m / 256 < 0xE000 := by
    simp only [K.laneStatus, K.blockSlips, K.laneEvents]
    omega
  have hslips {q : Nat} (hq : q < 32) : K.pcsBlockSlips q / 256 < 0xE000 := by
    simp only [K.pcsBlockSlips]
    omega
  have hraise {u : State} {a : Nat} : EvFrame [] [] u (raise u Ev.blockLockLost a 0) := .raise (by decide) .refl
  have hpending {u : State} {a : Nat} : Pending (raise u Ev.blockLockLost a 0) Ev.blockLockLost := raise_sets_pending _ _ _ _ (by decide)
  refine ⟨?_, ?_, ?_, ?_⟩
  · intro m n s hm hst hb
    obtain ⟨hbit, hcount⟩ := laneBlockSet_reads (s := s) (m := m) (n := n) (b := true)
    obtain ⟨hstatus, hslip, -⟩ := hpage hm
    refine runs_done (exec_blockLockAcquired_lane hm hst hb) ⟨?_, (hcount.of_rd (fifoFollows_frame.rd_kept hslip)).settled, EvFrame.settled ?_⟩
    · exact (congrArg (bit · 7) (fifoFollows_frame.rd_kept hstatus)).trans hbit
    · exact (laneBlockSet_frame.toEv.mono (by simp) (by simp)).trans (fifoFollows_frame.mono (by simp) (by simp))
  · intro q sd l n s hq hp hf hl hd
    refine runs_done (exec_blockLockAcquired_fec hp hf hl hd)
      ⟨?_, (fecBlockSet_counts.of_rd (fecBlockLocked_frame.rd_kept (hslips hq))).settled, EvFrame.settled ?_⟩
    · have hlocked : pcsBlk (fecBlockLocked s q sd l n) q sd = ⟨l :: (pcsBlk s q sd).locked.filter (· != l)⟩ :=
        (pcsBlk_congr (fecBlockLocked_frame.2 .lines (by decide))).trans pcsBlk_fecBlockSet
      change l ∈ (pcsBlk (fecBlockLocked s q sd l n) q sd).locked
      rw [hlocked]
      exact List.mem_cons_self ..
    · exact (fecBlockSet_frame.toEv.mono (by simp) (by simp)).trans (fecBlockLocked_frame.mono (by simp) (by simp))
  · intro m s hm h
    obtain ⟨hbit, hcount, hmark⟩ := laneBlockLost_reads (s := s) (m := m)
    obtain ⟨hstatus, hslip, hevents⟩ := hpage hm
    refine runs_done (exec_blockLockLost_lane hm h) ⟨?_, (hcount.of_rd (hraise.rd_kept hslip)).settled, ?_, hpending.settled, EvFrame.settled ?_⟩
    · exact (congrArg (bit · 7) (hraise.rd_kept hstatus)).trans hbit
    · exact (congrArg (bit · 3) (hraise.rd_kept hevents)).trans hmark
    · exact .raise (by decide) (.wrBit (by simp) (laneBlockSet_frame.toEv.mono (by simp) (by simp)))
  · intro q sd l s hq h
    obtain ⟨a, hx⟩ := exec_blockLockLost_fec h
    refine runs_done hx ⟨?_, (fecBlockSet_counts.of_rd (hraise.rd_kept (hslips hq))).settled, hpending.settled,
      (EvFrame.raise (by decide) fecBlockSet_frame.toEv).settled⟩
    have hleft : pcsBlk (raise (fecBlockLost s q sd l) Ev.blockLockLost a 0) q sd = ⟨(pcsBlk s q sd).locked.filter (· != l)⟩ :=
      (pcsBlk_congr (hraise.2 .lines (by decide))).trans pcsBlk_fecBlockSet
    change l ∉ (pcsBlk (raise (fecBlockLost s q sd l) Ev.blockLockLost a 0) q sd).locked
    rw [hleft]
    simp

end
end Sys2Proof.Machine

/-! Pattern generators, checkers and error injection (R74–R77). -/

namespace Sys2Proof.Machine

section
variable {s : State} {m v k b e : Nat}

/-! The checker of a lane (R76). -/

/-- The registers of the checker of lane `m`. -/
def chkRegs (m : Nat) : List Nat := [K.chkBits m, K.chkErrors m, K.chkLosses m, K.chkStatus m]

theorem chkRegs_distinct : K.chkBits m ≠ K.chkErrors m ∧ K.chkBits m ≠ K.chkLosses m ∧ K.chkErrors m ≠ K.chkLosses m ∧
    K.chkStatus m ≠ K.chkBits m ∧ K.chkStatus m ≠ K.chkErrors m ∧ K.chkStatus m ≠ K.chkLosses m := by
  simp only [K.chkBits, K.chkErrors, K.chkLosses, K.chkStatus]
  omega

theorem pgCtrl_not_mem_chkRegs : K.pgCtrl m ∉ chkRegs m := by
  simp only [chkRegs, List.mem_cons, List.not_mem_nil, or_false, K.pgCtrl, K.chkBits, K.chkErrors, K.chkLosses, K.chkStatus]
  omega

theorem chkRun_frame : Frame (chkRegs m) [.draws] s (chkRun s m) := by
  unfold chkRun
  exact .ite (fun _ => .set_draws (by decide) (.inc (by simp [chkRegs]) (.inc (by simp [chkRegs]) .refl))) (fun _ => .refl)

/-- The checker starts anew: its counts and its lock read 0. -/
def chkCleared (s : State) (m : Nat) : State := wr (wr (wr (wr s (K.chkBits m) 0) (K.chkErrors m) 0) (K.chkLosses m) 0) (K.chkStatus m) 0

theorem chkCleared_frame : Frame (chkRegs m) [] s (chkCleared s m) :=
  .wr (by simp [chkRegs]) (.wr (by simp [chkRegs]) (.wr (by simp [chkRegs]) (.wr (by simp [chkRegs]) .refl)))

theorem chkCleared_reads : rd (chkCleared s m) (K.chkBits m) = 0 ∧ rd (chkCleared s m) (K.chkErrors m) = 0 ∧
    rd (chkCleared s m) (K.chkLosses m) = 0 := by
  obtain ⟨hbe, hbl, hel, hsb, hse, hsl⟩ := chkRegs_distinct (m := m)
  refine ⟨?_, ?_, ?_⟩
  · rw [chkCleared, rd_wr_ne _ _ hsb, rd_wr_ne _ _ hbl.symm, rd_wr_ne _ _ hbe.symm, rd_wr_same]
  · rw [chkCleared, rd_wr_ne _ _ hse, rd_wr_ne _ _ hel.symm, rd_wr_same]
  · rw [chkCleared, rd_wr_ne _ _ hsl, rd_wr_same]

/-- The checker loses lock: what it counted since it locked, and the loss. -/
def chkUnlocked (s : State) (m b e : Nat) : State :=
  inc (inc (inc (wr s (K.chkStatus m) 0) (K.chkBits m) b) (K.chkErrors m) e) (K.chkLosses m) 1

theorem chkUnlocked_frame : Frame (chkRegs m) [] s (chkUnlocked s m b e) :=
  .inc (by simp [chkRegs]) (.inc (by simp [chkRegs]) (.inc (by simp [chkRegs]) (.wr (by simp [chkRegs]) .refl)))

theorem chkUnlocked_reads : rd (chkUnlocked s m b e) (K.chkStatus m) = 0 ∧ Counts s (chkUnlocked s m b e) (K.chkBits m) b ∧
    Counts s (chkUnlocked s m b e) (K.chkErrors m) e ∧ Counts s (chkUnlocked s m b e) (K.chkLosses m) 1 := by
  obtain ⟨hbe, hbl, hel, hsb, hse, hsl⟩ := chkRegs_distinct (m := m)
  refine ⟨?_, ?_, ?_, ?_⟩
  · rw [chkUnlocked, rd_inc_ne _ _ hsl.symm, rd_inc_ne _ _ hse.symm, rd_inc_ne _ _ hsb.symm, rd_wr_same]
  · exact (Counts.of_inc (rd_wr_ne _ _ hsb)).of_rd ((rd_inc_ne _ _ hbl.symm).trans (rd_inc_ne _ _ hbe.symm))
  · exact (Counts.of_inc ((rd_inc_ne _ _ hbe).trans (rd_wr_ne _ _ hse))).of_rd (rd_inc_ne _ _ hel.symm)
  · exact Counts.of_inc ((rd_inc_ne _ _ hel).trans ((rd_inc_ne _ _ hbl).trans (rd_wr_ne _ _ hsl)))

/-! Injected errors (R77). -/

theorem injectOne_transmits (h : transmits s m = true) : injectOne s m = emit s (.inject m) := if_pos h

theorem injectOne_frame : Frame [] [.out] s (injectOne s m) := .ite (fun _ => .emit (by decide) .refl) (fun _ => .refl)

/-- INJ_ONCE in a write of PG_CTRL. -/
def injected (s : State) (m v : Nat) : State := if bit v 16 then injectOne s m else s

theorem injected_frame : Frame [] [.out] s (injected s m v) := .ite (fun _ => injectOne_frame) (fun _ => .refl)

theorem rd_injected : rd (injected s m v) k = rd s k := injected_frame.1 k List.not_mem_nil

/-! PG_CTRL (R74–R77). -/

/-- The defined bits are stored; a checker that is switched off has its counts brought up to date first. -/
def pgStored (s : State) (m v : Nat) : State := wr (if bit v 5 then s else chkRun s m) (K.pgCtrl m) (Nat.land v 0xFF3F)

/-- What CHK_EN makes of the checker: cleared where `rise`, unlocked where it is off. -/
def chkSwitched (s : State) (m v : Nat) (rise : Bool) : State :=
  let s := if rise then chkCleared s m else s
  if bit v 5 then s else wr s (K.chkStatus m) 0

theorem pgStored_frame : Frame (K.pgCtrl m :: chkRegs m) [.draws] s (pgStored s m v) :=
  .wr (by simp) (.ite (fun _ => .refl) (fun _ => chkRun_frame.mono (by simp) (by simp)))

theorem chkSwitched_frame {rise : Bool} : Frame (chkRegs m) [] s (chkSwitched s m v rise) := by
  have hclear : Frame (chkRegs m) [] s (if rise then chkCleared s m else s) := .ite (fun _ => chkCleared_frame) (fun _ => .refl)
  exact .ite (fun _ => hclear) (fun _ => .wr (by simp [chkRegs]) hclear)

/-- PG_CTRL as an accepted write leaves it. -/
def pgWritten (s : State) (m v : Nat) : State := chkSwitched (pgStored s m v) m v (bit v 5 && !rdBit s (K.pgCtrl m) 5)

theorem pgCtrlEff_accepts (hp : patternOk s m (v % 16) = true) (hk : bits v 15 8 = 0 ∨ 10 ≤ bits v 15 8 ∧ bits v 15 8 ≤ 40) :
    pgCtrlEff m v s = okR (injected (pgWritten s m v) m v) := if_neg (by simpa [hp] using or_iff_not_imp_left.mp hk)

theorem rd_pgWritten : rd (pgWritten s m v) (K.pgCtrl m) = Nat.land v 0xFF3F :=
  (chkSwitched_frame.1 _ pgCtrl_not_mem_chkRegs).trans (rd_wr_same ..)

/-- A rise of CHK_EN clears the checker. -/
theorem pgWritten_rise (hv : bit v 5 = true) (hs : rdBit s (K.pgCtrl m) 5 = false) :
    pgWritten s m v = chkCleared (pgStored s m v) m := by simp [pgWritten, chkSwitched, hv, hs]

theorem pgWritten_frame : Frame (K.pgCtrl m :: chkRegs m) [.draws] s (pgWritten s m v) :=
  pgStored_frame.trans (chkSwitched_frame.mono (by simp) (by simp))

/-- Settles O5, clause by clause: PG_CTRL, the injected errors, and the lock of the checker and its loss. -/
theorem patternsAndCheckers : Obligations.PatternsAndCheckers := by
  refine ⟨?_, ?_, ?_, ?_, ?_⟩
  · intro r m v s hm hp hk hg
    refine runs_answered rfl hg (he := pgCtrlEff_accepts hp hk) fun x => ⟨rfl, ?_, fun hv hs => ?_, ?_⟩
    · exact rd_answered.trans (rd_injected.trans rd_pgWritten)
    · simp only [rd_answered, rd_injected, pgWritten_rise hv hs]
      exact chkCleared_reads
    · exact .answered (by simp) ((pgWritten_frame.mono (by simp [chkRegs]) (by simp)).trans (injected_frame.mono (by simp) (by simp)))
  · intro r m s hm ht hg
    exact runs_answered rfl hg (he := congrArg okR (injectOne_transmits ht)) fun x => ⟨rfl, rfl, .answered (by simp) (.emit (by simp) .refl)⟩
  · intro m s hm ht hr
    have hx : exec (.injRateError m) s = done s (emit s (.inject m)) :=
      congrArg (done s) ((if_pos ⟨hm, hr⟩).trans (injectOne_transmits ht))
    exact runs_done hx ⟨rfl, Frame.settled (.emit (by simp) .refl)⟩
  · intro m s hm ha he hn
    exact runs_done (congrArg (done s) (if_pos ⟨hm, ha, he, hn⟩)) ⟨rd_wr_same .., Frame.settled (.wr (by simp) .refl)⟩
  · intro m b e s hm hl
    have hx : exec (.prbsLockLost m b e) s = done s (raise (chkUnlocked s m b e) Ev.prbsLockLost m 0) := congrArg (done s) (if_pos ⟨hm, hl⟩)
    have hraise : EvFrame [] [] (chkUnlocked s m b e) (raise (chkUnlocked s m b e) Ev.prbsLockLost m 0) := .raise (by decide) .refl
    have hkept {k : Nat} (hk : k ∈ chkRegs m) : rd (raise (chkUnlocked s m b e) Ev.prbsLockLost m 0) k = rd (chkUnlocked s m b e) k := by
      refine hraise.rd_kept ?_
      simp only [chkRegs, List.mem_cons, List.not_mem_nil, or_false, K.chkBits, K.chkErrors, K.chkLosses, K.chkStatus] at hk
      omega
    obtain ⟨hstatus, hbits, herrors, hlosses⟩ := chkUnlocked_reads (s := s) (m := m) (b := b) (e := e)
    exact runs_done hx ⟨(hkept (by simp [chkRegs])).trans hstatus, (hbits.of_rd (hkept (by simp [chkRegs]))).settled,
      (herrors.of_rd (hkept (by simp [chkRegs]))).settled, (hlosses.of_rd (hkept (by simp [chkRegs]))).settled,
      Pending.settled (raise_sets_pending _ _ _ _ (by decide)),
      ((chkUnlocked_frame.toEv.mono (by simp [chkRegs]) (by simp)).trans (hraise.mono (by simp) (by simp))).settled⟩

end
end Sys2Proof.Machine

/-! Conditions of a port's PCS (R82–R84): what the decoder counts, and what each condition leaves. -/

namespace Sys2Proof.Machine

section
variable {s t u : State} {q k n i j : Nat} {sd : Side} {o : FecObs} {b : Bool}

theorem Runs.mono {c : Instr} {P Q : State → Prop} (h : Runs c s P) (hi : ∀ t, P t → Q t) : Runs c s Q :=
  let ⟨t, hx, hp⟩ := h
  ⟨t, hx, hi t hp⟩

/-- What a counter has counted since it read as before. -/
theorem Counts.since (h : Counts u t k n) (hs : rd u k = rd s k) : Counts s t k n := by rw [Counts, h, hs]

/-! What the decoder of a side counts (R82, R108). -/

/-- The decoder's counters of a port side. -/
def fecKeys (q : Nat) : Side → List Nat
  | .line => [K.lineFecUncorr q, K.lineFecCorr q, K.lineFecSymbols q]
  | .host => [K.hostFecUncorr q, K.hostFecCorr q]

/-- The side's counters have counted `o`. -/
def FecCounts (s t : State) (q : Nat) (o : FecObs) : Side → Prop
  | .line => Counts s t (K.lineFecUncorr q) o.bad ∧ Counts s t (K.lineFecCorr q) o.corr ∧ Counts s t (K.lineFecSymbols q) o.syms
  | .host => Counts s t (K.hostFecUncorr q) o.bad ∧ Counts s t (K.hostFecCorr q) o.corr

theorem fecCount_frame : Frame (fecKeys q sd) [] s (fecCount s q sd o) := by
  cases sd with
  | line => exact .inc (by simp [fecKeys]) (.inc (by simp [fecKeys]) (.inc (by simp [fecKeys]) .refl))
  | host => exact .inc (by simp [fecKeys]) (.inc (by simp [fecKeys]) .refl)

theorem fecCount_counts : FecCounts s (fecCount s q sd o) q o sd := by
  cases sd with
  | line =>
    have hcu : K.lineFecCorr q ≠ K.lineFecUncorr q := by simp only [K.lineFecCorr, K.lineFecUncorr]; omega
    have hcs : K.lineFecCorr q ≠ K.lineFecSymbols q := by simp only [K.lineFecCorr, K.lineFecSymbols]; omega
    have hus : K.lineFecUncorr q ≠ K.lineFecSymbols q := by simp only [K.lineFecUncorr, K.lineFecSymbols]; omega
    exact ⟨(Counts.of_inc (rd_inc_ne _ _ hcu)).of_rd (rd_inc_ne _ _ hus.symm),
      (Counts.of_inc rfl).of_rd ((rd_inc_ne _ _ hcs.symm).trans (rd_inc_ne _ _ hcu.symm)),
      Counts.of_inc ((rd_inc_ne _ _ hus).trans (rd_inc_ne _ _ hcs))⟩
  | host =>
    have hcu : K.hostFecCorr q ≠ K.hostFecUncorr q := by simp only [K.hostFecCorr, K.hostFecUncorr]; omega
    exact ⟨Counts.of_inc (rd_inc_ne _ _ hcu), (Counts.of_inc rfl).of_rd (rd_inc_ne _ _ hcu.symm)⟩

/-- Counters that read alike before and after count alike. -/
theorem FecCounts.congr {s' t' : State} (h : FecCounts s t q o sd) (hs : ∀ k ∈ fecKeys q sd, rd s k = rd s' k)
    (ht : ∀ k ∈ fecKeys q sd, rd t' k = rd t k) : FecCounts s' t' q o sd := by
  cases sd with
  | line =>
    obtain ⟨hu, hc, hy⟩ := h
    exact ⟨(hu.since (hs _ (by simp [fecKeys]))).of_rd (ht _ (by simp [fecKeys])),
      (hc.since (hs _ (by simp [fecKeys]))).of_rd (ht _ (by simp [fecKeys])),
      (hy.since (hs _ (by simp [fecKeys]))).of_rd (ht _ (by simp [fecKeys]))⟩
  | host =>
    obtain ⟨hu, hc⟩ := h
    exact ⟨(hu.since (hs _ (by simp [fecKeys]))).of_rd (ht _ (by simp [fecKeys])),
      (hc.since (hs _ (by simp [fecKeys]))).of_rd (ht _ (by simp [fecKeys]))⟩

theorem fecKeys_page (h : k ∈ fecKeys q sd) : k / 256 = 0x3000 + q := by
  cases sd <;> simp only [fecKeys, List.mem_cons, List.not_mem_nil, or_false, K.lineFecUncorr, K.lineFecCorr, K.lineFecSymbols,
    K.hostFecUncorr, K.hostFecCorr] at h <;> omega

theorem ne_of_mem_fecKeys (h : k ∈ fecKeys q sd) : k ≠ K.pcsStatus q ∧ k ≠ K.pcsEvents q := by
  cases sd <;> simp only [fecKeys, List.mem_cons, List.not_mem_nil, or_false, K.lineFecUncorr, K.lineFecCorr, K.lineFecSymbols,
    K.hostFecUncorr, K.hostFecCorr, K.pcsStatus, K.pcsEvents] at h ⊢ <;> omega

theorem rdBit_fecCount {i : Nat} : rdBit (fecCount u q sd o) (K.pcsStatus q) i = rdBit u (K.pcsStatus q) i ∧
    rdBit (fecCount u q sd o) (K.pcsEvents q) i = rdBit u (K.pcsEvents q) i :=
  ⟨congrArg (bit · i) (fecCount_frame.1 _ fun h => (ne_of_mem_fecKeys h).1 rfl),
    congrArg (bit · i) (fecCount_frame.1 _ fun h => (ne_of_mem_fecKeys h).2 rfl)⟩

/-- The decoder's counts come on top of what the condition itself has written. -/
theorem fecCount_after {ks : List Nat} (hu : Frame ks [] s u) (hks : ks ⊆ [K.pcsStatus q, K.pcsEvents q]) :
    FecCounts s (fecCount u q sd o) q o sd ∧ Frame (ks ++ fecKeys q sd) [] s (fecCount u q sd o) := by
  refine ⟨fecCount_counts.congr (fun k hk => hu.1 k fun h => ?_) fun _ _ => rfl,
    (hu.mono (by simp) (by simp)).trans (fecCount_frame.mono (by simp) (by simp))⟩
  obtain ⟨hstatus, hevents⟩ := ne_of_mem_fecKeys hk
  simpa [hstatus, hevents] using hks h

/-! The conditions of a side (R82–R84). -/

/-- The bit of PCS_EVENTS of a side's high-error condition, and of its loss of marker lock (R108). -/
def hiErrEvent : Side → Nat
  | .line => 1
  | .host => 3
def amLostEvent : Side → Nat
  | .line => 0
  | .host => 2

/-- A condition with its bit `i` in PCS_STATUS and its bit `j` in PCS_EVENTS. -/
def pcsMarked (s : State) (q i : Nat) (b : Bool) (j : Nat) : State := wrBit (wrBit s (K.pcsStatus q) i b) (K.pcsEvents q) j true

theorem pcsMarked_reads : rdBit (pcsMarked s q i b j) (K.pcsStatus q) i = b ∧ rdBit (pcsMarked s q i b j) (K.pcsEvents q) j = true ∧
    Frame [K.pcsStatus q, K.pcsEvents q] [] s (pcsMarked s q i b j) := by
  have hne : K.pcsEvents q ≠ K.pcsStatus q := by simp only [K.pcsStatus, K.pcsEvents]; omega
  exact ⟨(rdBit_wr_ne hne).trans (rdBit_wrBit_same ..), rdBit_wrBit_same .., .wrBit (by simp) (.wrBit (by simp) .refl)⟩

/-- The state with the high-error condition, before its event is raised. -/
def hiErrSet (s : State) (q : Nat) (sd : Side) (o : FecObs) : State :=
  fecCount (pcsMarked s q (2 + sdOff sd) true (hiErrEvent sd)) q sd { o with bad := 8 + o.bad }

theorem exec_pcsHiErr (hp : isPort s q = true) (hf : fecOf s q sd ≠ 1) :
    exec (.pcsHiErr q sd o) s = done s (raise (hiErrSet s q sd o) Ev.pcsHiErr q 0) := by
  cases sd <;> exact congrArg (done s) (if_pos (by simp [hp, hf]))

/-- R83: eight uncorrectable codewords set the condition, are counted and raise PCS_HI_ERR. -/
theorem runs_pcsHiErr (hq : q < 32) (hp : isPort s q = true) (hf : fecOf s q sd ≠ 1) : Runs (.pcsHiErr q sd o) s (fun t =>
    rdBit t (K.pcsStatus q) (2 + sdOff sd) = true ∧ rdBit t (K.pcsEvents q) (hiErrEvent sd) = true ∧
    FecCounts s t q { o with bad := 8 + o.bad } sd ∧ Pending t Ev.pcsHiErr ∧
    EvFrame (K.pcsStatus q :: K.pcsEvents q :: fecKeys q sd) [] s t) := by
  obtain ⟨hstatus, hevent, hmarked⟩ := pcsMarked_reads (s := s) (q := q) (i := 2 + sdOff sd) (b := true) (j := hiErrEvent sd)
  obtain ⟨hcounts, hframe⟩ := fecCount_after (q := q) (sd := sd) (o := { o with bad := 8 + o.bad }) hmarked (by simp)
  have hkept {k : Nat} (hk : k / 256 = 0x3000 + q) : rd (raise (hiErrSet s q sd o) Ev.pcsHiErr q 0) k = rd (hiErrSet s q sd o) k :=
    rd_raise _ _ _ _ _ (by decide) (eventKey_of_page (by omega))
  refine runs_done (exec_pcsHiErr hp hf) ⟨?_, ?_, hcounts.congr (fun _ _ => rfl) fun k hk => hkept (fecKeys_page hk),
    Pending.settled (raise_sets_pending _ _ _ _ (by decide)), (EvFrame.raise (by decide) hframe.toEv).settled⟩
  · exact (congrArg (bit · _) (hkept (by simp only [K.pcsStatus]; omega))).trans (rdBit_fecCount.1.trans hstatus)
  · exact (congrArg (bit · _) (hkept (by simp only [K.pcsEvents]; omega))).trans (rdBit_fecCount.2.trans hevent)

/-- R83: the condition ends; on a side with FEC the decoder's counts come with it. -/
theorem runs_pcsHiErrClear : Runs (.pcsHiErrClear q sd o) s (fun t => rdBit t (K.pcsStatus q) (2 + sdOff sd) = false ∧
    (isPort s q = true → fecOf s q sd ≠ 1 → FecCounts s t q o sd) ∧ Frame (K.pcsStatus q :: fecKeys q sd) [] s t) := by
  have hcleared : Frame [K.pcsStatus q] [] s (wrBit s (K.pcsStatus q) (2 + sdOff sd) false) := .wrBit (by simp) .refl
  obtain ⟨hcounts, hframe⟩ := fecCount_after (q := q) (sd := sd) (o := o) hcleared (by simp)
  by_cases h : (isPort s q && fecOf s q sd != 1) = true
  · exact runs_done (congrArg (done s) (if_pos h)) ⟨rdBit_fecCount.1.trans (rdBit_wrBit_same ..), fun _ _ => hcounts, hframe.settled⟩
  · exact runs_done (congrArg (done s) (if_neg h)) ⟨rdBit_wrBit_same .., fun hp hf => absurd (by simp [hp, hf]) h,
      (hcleared.mono (by simp) (by simp)).settled⟩

theorem exec_amLockLost (h : rdBit s (K.pcsStatus q) (1 + sdOff sd) = true) : exec (.amLockLost q sd o) s =
    done s (fecCount (pcsMarked s q (1 + sdOff sd) false (amLostEvent sd)) q sd o) := by
  cases sd <;> exact congrArg (done s) (if_pos h)

/-- R82: marker lock that was held is lost, with its mark and the decoder's counts. -/
theorem runs_amLockLost (h : rdBit s (K.pcsStatus q) (1 + sdOff sd) = true) : Runs (.amLockLost q sd o) s (fun t =>
    rdBit t (K.pcsStatus q) (1 + sdOff sd) = false ∧ rdBit t (K.pcsEvents q) (amLostEvent sd) = true ∧ FecCounts s t q o sd ∧
    Frame (K.pcsStatus q :: K.pcsEvents q :: fecKeys q sd) [] s t) := by
  obtain ⟨hstatus, hevent, hmarked⟩ := pcsMarked_reads (s := s) (q := q) (i := 1 + sdOff sd) (b := false) (j := amLostEvent sd)
  obtain ⟨hcounts, hframe⟩ := fecCount_after (q := q) (sd := sd) (o := o) hmarked (by simp)
  exact runs_done (exec_amLockLost h) ⟨rdBit_fecCount.1.trans hstatus, rdBit_fecCount.2.trans hevent, hcounts, hframe.settled⟩

theorem exec_amLockAcquired (hp : isPort s q = true) (hf : fecOf s q sd ≠ 1) :
    exec (.amLockAcquired q sd) s = done s (wrBit s (K.pcsStatus q) (1 + sdOff sd) true) := congrArg (done s) (if_pos (by simp [hp, hf]))

theorem exec_faultReceived {f : FaultSig} (hp : isPort s q = true) : exec (.faultReceived q sd f) s =
    done s (wrBit (wrBit s (K.pcsStatus q) (3 + sdOff sd) (f == .localFault)) (K.pcsStatus q) (4 + sdOff sd) (f == .remoteFault)) :=
  congrArg (done s) (if_pos hp)

/-- Settles O6, clause by clause from what each condition of a side leaves. -/
theorem pcsConditions : Obligations.PcsConditions := by
  refine ⟨?_, ?_, ?_, ?_, ?_, ?_, ?_, ?_⟩
  · intro q o s hq hp hf
    refine (runs_pcsHiErr hq hp hf).mono ?_
    rintro t ⟨hstatus, hevent, ⟨hbad, hcorr, hsyms⟩, hraised, hframe⟩
    exact ⟨hstatus, hevent, hbad, hcorr, hsyms, hraised, hframe⟩
  · intro q o s hq hp hf
    refine (runs_pcsHiErr hq hp hf).mono ?_
    rintro t ⟨hstatus, hevent, ⟨hbad, hcorr⟩, hraised, hframe⟩
    exact ⟨hstatus, hevent, hbad, hcorr, hraised, hframe⟩
  · intro q sd o s
    refine runs_pcsHiErrClear.mono ?_
    rintro t ⟨hstatus, -, hframe⟩
    exact ⟨hstatus, hframe.mono (by cases sd <;> simp [fecKeys]) (by simp)⟩
  · intro q o s _ hp hf
    refine runs_pcsHiErrClear.mono ?_
    rintro t ⟨-, hcounts, -⟩
    exact hcounts hp hf
  · intro q sd s hp hf
    exact runs_done (exec_amLockAcquired hp hf) ⟨rdBit_wrBit_same .., Frame.settled (.wrBit (by simp) .refl)⟩
  · intro q o s _ h
    refine (runs_amLockLost (sd := .line) h).mono ?_
    rintro t ⟨hstatus, hevent, ⟨hbad, -⟩, hframe⟩
    exact ⟨hstatus, hevent, hbad, hframe⟩
  · intro q o s _ h
    refine (runs_amLockLost (sd := .host) h).mono ?_
    rintro t ⟨hstatus, hevent, ⟨hbad, -⟩, hframe⟩
    exact ⟨hstatus, hevent, hbad, hframe⟩
  · intro q sd f s hp
    exact runs_done (exec_faultReceived hp) ⟨(rdBit_wrBit_ne (by omega)).trans (rdBit_wrBit_same ..), rdBit_wrBit_same ..,
      Frame.settled (.wrBit (by simp) (.wrBit (by simp) .refl))⟩

end
end Sys2Proof.Machine

/-! OTL lanes, deskew, and the frame and multiframe defects of the OTU4 and of a tributary (R87–R90). -/

namespace Sys2Proof.Machine

section
variable {ks : List Nat} {ps : List Part} {s t u : State} {c : Instr} {n i b src lane llm rej skew late : Nat} {sd : Side}
  {x : Otl} {y : Trib}

/-! The records of a side and of its tributaries. -/

@[simp] theorem otl_setOtl_same : otl (setOtl s n sd x) n sd = x := tget_tset_same ..
@[simp] theorem trib_setTrib_same : trib (setTrib s n sd i y) n sd i = y := tget_tset_same ..
theorem otl_congr (h : t.lines = s.lines) : otl t n sd = otl s n sd := by rw [otl, h, otl]
theorem trib_congr (h : t.lines = s.lines) : trib t n sd i = trib s n sd i := by rw [trib, h, trib]

theorem Frame.setOtl (hp : Part.lines ∈ ps) (h : Frame ks ps s u) : Frame ks ps s (setOtl u n sd x) := h.set_lines hp
theorem Frame.setTrib (hp : Part.lines ∈ ps) (h : Frame ks ps s u) : Frame ks ps s (setTrib u n sd i y) := h.set_lines hp
theorem Frame.otnSticky (hk : K.otnEvents n ∈ ks) (h : Frame ks ps s u) : Frame ks ps s (otnSticky u n sd b) := h.wrBit hk

/-- A command that replaces the record of a side. -/
theorem runs_setOtl (hx : exec c s = done s (setOtl s n sd x)) : Runs c s (fun t => otl t n sd = x ∧ Frame [] [.lines] s t) :=
  runs_done hx ⟨otl_setOtl_same, (Frame.refl.setOtl (by decide)).settled⟩

/-- A command that replaces the record of a tributary. -/
theorem runs_setTrib (hx : exec c s = done s (setTrib s n sd i y)) : Runs c s (fun t => trib t n sd i = y ∧ Frame [] [.lines] s t) :=
  runs_done hx ⟨trib_setTrib_same, (Frame.refl.setTrib (by decide)).settled⟩

/-- A defect of a side: its record, its sticky bit `b` and its event. -/
def otnAlarm (s : State) (n : Nat) (sd : Side) (x : Otl) (b src : Nat) : State := raise (otnSticky (setOtl s n sd x) n sd b) src n 0

theorem runs_otnAlarm (hx : exec c s = done s (otnAlarm s n sd x b src)) (hs : src < 384) :
    Runs c s (fun t => otl t n sd = x ∧ Pending t src ∧ EvFrame [K.otnEvents n] [.lines] s t) :=
  runs_done hx ⟨(otl_congr (raise_lines _ _ _ _ hs)).trans otl_setOtl_same, Pending.settled (raise_sets_pending _ _ _ _ hs),
    (EvFrame.raise hs ((Frame.refl.setOtl (by decide)).otnSticky (by simp)).toEv).settled⟩

/-- A defect of a tributary: its record and its event. -/
def tribAlarm (s : State) (n : Nat) (sd : Side) (i : Nat) (y : Trib) (src : Nat) : State := raise (setTrib s n sd i y) src n 0

theorem runs_tribAlarm (hx : exec c s = done s (tribAlarm s n sd i y src)) (hs : src < 384) :
    Runs c s (fun t => trib t n sd i = y ∧ Pending t src ∧ EvFrame [] [.lines] s t) :=
  runs_done hx ⟨(trib_congr (raise_lines _ _ _ _ hs)).trans trib_setTrib_same, Pending.settled (raise_sets_pending _ _ _ _ hs),
    (EvFrame.raise hs (Frame.refl.setTrib (by decide)).toEv).settled⟩

/-! Lanes and deskew (R87, R88). -/

theorem exec_otlLaneLocked (hn : isOtu4 s n = true) (hl : lane < 20) (hnew : ∀ x, (lane, x) ∉ (otl s n sd).lanes) :
    exec (.otlLaneLocked n sd lane llm rej) s =
      done s (inc (setOtl s n sd { otl s n sd with lanes := (lane, llm) :: (otl s n sd).lanes }) (K.alignRejects n) rej) := by
  have hany : (otl s n sd).lanes.any (fun e => e.1 == lane) = false := by
    rw [List.any_eq_false]
    rintro ⟨l, x⟩ he hl
    exact hnew x (beq_iff_eq.mp hl ▸ he)
  exact congrArg (done s) (if_pos ⟨hn, hl, by rw [hany]; rfl⟩)

/-- Whatever stood before, a side that loses alignment is not aligned. -/
theorem misalign_leaves : (otl (misalign s n sd x) n sd).aligned = false ∧ (otl (misalign s n sd x) n sd).lanes = x.lanes ∧
    Frame [K.otnEvents n] [.lines] s (misalign s n sd x) := by
  unfold misalign
  split
  · exact ⟨congrArg (·.aligned) otl_setOtl_same, congrArg (·.lanes) otl_setOtl_same,
      .otnSticky (by simp) (.setOtl (by decide) .refl)⟩
  · next h => exact ⟨(congrArg (·.aligned) otl_setOtl_same).trans (by simpa using h), congrArg (·.lanes) otl_setOtl_same,
      .setOtl (by decide) .refl⟩

theorem exec_otlLaneUnlocked (hn : isOtu4 s n = true) : exec (.otlLaneUnlocked n sd lane) s =
    done s (misalign s n sd { otl s n sd with lanes := (otl s n sd).lanes.filter (fun e => e.1 != lane) }) := congrArg (done s) (if_pos hn)

/-- The side is aligned, with its sticky bit. -/
def otlAligned (s : State) (n : Nat) (sd : Side) : State := otnSticky (setOtl s n sd { otl s n sd with aligned := true }) n sd 1

/-- OTL_SKEW shows the skew of the line side. -/
def skewNoted (s : State) (n skew : Nat) : Side → State
  | .line => wr s (K.otlSkew n) (skew % 65536)
  | .host => s

theorem exec_otlDeskew_aligns (hn : isOtu4 s n = true) (hl : (otl s n sd).lanes.length = 20) (hc : otlClash (otl s n sd).lanes = [])
    (hk : skew ≤ 256) : exec (.otlDeskew n sd skew late) s = done s (skewNoted (otlAligned s n sd) n skew sd) := by
  refine congrArg (done s) ((if_pos ⟨hn, hl⟩).trans ?_)
  simp only [hc, List.isEmpty_nil, if_true, if_neg (Nat.not_lt.mpr hk)]
  cases sd <;> rfl

theorem skewNoted_leaves (hk : skew ≤ 256) : otl (skewNoted (otlAligned s n sd) n skew sd) n sd = { otl s n sd with aligned := true } ∧
    rd (skewNoted (otlAligned s n sd) n skew sd) (K.otlSkew n) = (if sd = .line then skew else rd s (K.otlSkew n)) ∧
    Frame [K.otnEvents n, K.otlSkew n] [.lines] s (skewNoted (otlAligned s n sd) n skew sd) := by
  have haligned : Frame [K.otnEvents n, K.otlSkew n] [.lines] s (otlAligned s n sd) := .otnSticky (by simp) (.setOtl (by decide) .refl)
  cases sd with
  | line => exact ⟨otl_setOtl_same, (rd_wr_same ..).trans (Nat.mod_eq_of_lt (by omega)), haligned.wr (by simp)⟩
  | host => exact ⟨otl_setOtl_same, rd_wrBit_ne _ _ _ (by simp only [K.otnEvents, K.otlSkew]; omega), haligned⟩

theorem exec_otlDeskew_fails (hn : isOtu4 s n = true) (hl : (otl s n sd).lanes.length = 20) (hc : otlClash (otl s n sd).lanes = [])
    (hk : 256 < skew) (ha : (otl s n sd).aligned = true) : exec (.otlDeskew n sd skew late) s = done s (otnAlarm s n sd
      { otl s n sd with lanes := (otl s n sd).lanes.filter (fun e => !([late].contains e.1)), aligned := false, mfOk := false } 2
      Ev.otlDeskewFail) := by
  refine congrArg (done s) ((if_pos ⟨hn, hl⟩).trans ?_)
  simp only [hc, List.isEmpty_nil, if_true, if_pos hk, misalign, ha]
  rfl

/-! Loss of frame and of multiframe (R89, R90): one equation per command, for the OTU4 and for a tributary. -/

theorem exec_otnLof_otu (hn : isOtu4 s n = true) (ha : (otl s n sd).aligned = false) :
    exec (.otnLof (.otu n sd)) s = done s (otnAlarm s n sd { otl s n sd with lof := true } 3 Ev.otnLof) :=
  congrArg (done s) (if_pos (by simp [hn, ha]))

theorem exec_otnLof_trib (hn : isOtu4 s n = true) (hi : i < 80) : exec (.otnLof (.trib n sd i)) s =
    done s (tribAlarm s n sd i { trib s n sd i with inFrame := false, mfOk := false, lof := true } Ev.otnLof) :=
  congrArg (done s) (if_pos ⟨hn, hi⟩)

theorem exec_otnLofClear_otu (ha : (otl s n sd).aligned = true) :
    exec (.otnLofClear (.otu n sd)) s = done s (setOtl s n sd { otl s n sd with lof := false }) := congrArg (done s) (if_pos ha)

theorem exec_otnLofClear_trib (hn : isOtu4 s n = true) (hi : i < 80) :
    exec (.otnLofClear (.trib n sd i)) s = done s (setTrib s n sd i { trib s n sd i with inFrame := true, lof := false }) :=
  congrArg (done s) (if_pos ⟨hn, hi⟩)

theorem exec_multiframeAligned_otu (hn : isOtu4 s n = true) (ha : (otl s n sd).aligned = true) :
    exec (.multiframeAligned (.otu n sd)) s = done s (setOtl s n sd { otl s n sd with mfOk := true, oom := false }) :=
  congrArg (done s) (if_pos (by simp [hn, ha]))

theorem exec_multiframeAligned_trib (hn : isOtu4 s n = true) (hi : i < 80) : exec (.multiframeAligned (.trib n sd i)) s =
    done s (setTrib s n sd i { trib s n sd i with inFrame := true, mfOk := true, oom := false }) := congrArg (done s) (if_pos ⟨hn, hi⟩)

theorem exec_outOfMultiframe_otu (hn : isOtu4 s n = true) :
    exec (.outOfMultiframe (.otu n sd)) s = done s (setOtl s n sd { otl s n sd with mfOk := false, oom := true }) :=
  congrArg (done s) (if_pos hn)

theorem exec_outOfMultiframe_trib (hn : isOtu4 s n = true) (hi : i < 80) :
    exec (.outOfMultiframe (.trib n sd i)) s = done s (setTrib s n sd i { trib s n sd i with mfOk := false, oom := true }) :=
  congrArg (done s) (if_pos ⟨hn, hi⟩)

theorem exec_otnLom_otu (hn : isOtu4 s n = true) (ho : (otl s n sd).oom = true) :
    exec (.otnLom (.otu n sd)) s = done s (otnAlarm s n sd { otl s n sd with lom := true } 4 Ev.otnLom) :=
  congrArg (done s) (if_pos (by simp [hn, ho]))

theorem exec_otnLom_trib (ho : (trib s n sd i).oom = true) :
    exec (.otnLom (.trib n sd i)) s = done s (tribAlarm s n sd i { trib s n sd i with lom := true } Ev.otnLom) :=
  congrArg (done s) (if_pos ho)

theorem exec_otnLomClear_otu (ha : (otl s n sd).aligned = true) (hm : (otl s n sd).mfOk = true) :
    exec (.otnLomClear (.otu n sd)) s = done s (setOtl s n sd { otl s n sd with lom := false }) :=
  congrArg (done s) (if_pos (by simp [ha, hm]))

theorem exec_otnLomClear_trib (hf : (trib s n sd i).inFrame = true) (hm : (trib s n sd i).mfOk = true) :
    exec (.otnLomClear (.trib n sd i)) s = done s (setTrib s n sd i { trib s n sd i with lom := false }) :=
  congrArg (done s) (if_pos (by simp [hf, hm]))

/-- Settles O7, clause by clause: each command replaces one record, and a defect raises its event. -/
theorem otnAlignment : Obligations.OtnAlignment := by
  refine ⟨?_, ?_, ?_, ?_, ?_, ?_, ?_, ?_, ?_, ?_, ?_, ?_, ?_, ?_, ?_, ?_⟩
  · intro n sd lane llm rej s _ hlane hn hnew
    refine runs_done (exec_otlLaneLocked hn hlane hnew) ⟨?_, Counts.settled (Counts.of_inc rfl),
      Frame.settled (.inc (by simp) (.setOtl (by decide) .refl))⟩
    change (lane, llm) ∈ (otl (setOtl s n sd _) n sd).lanes
    rw [otl_setOtl_same]
    exact List.mem_cons_self ..
  · intro n sd lane s _ hn
    obtain ⟨haligned, hlanes, hframe⟩ := misalign_leaves (s := s) (n := n) (sd := sd)
      (x := { otl s n sd with lanes := (otl s n sd).lanes.filter (fun e => e.1 != lane) })
    refine runs_done (exec_otlLaneUnlocked hn) ⟨fun x hx => ?_, haligned, hframe.settled⟩
    exact absurd (hlanes ▸ hx) (by simp)
  · intro n sd skew late s _ hn hl hc hk
    obtain ⟨hrecord, hskew, hframe⟩ := skewNoted_leaves (s := s) (n := n) (sd := sd) hk
    exact runs_done (exec_otlDeskew_aligns hn hl hc hk) ⟨congrArg (·.aligned) hrecord, hskew, hframe.settled⟩
  · intro n sd skew late s _ hn hl hc hk ha
    exact (runs_otnAlarm (exec_otlDeskew_fails hn hl hc hk ha) (by decide)).mono fun t ⟨hx, hrest⟩ =>
      ⟨congrArg (·.aligned) hx, hrest⟩
  · intro n sd s _ hn ha
    exact (runs_otnAlarm (exec_otnLof_otu hn ha) (by decide)).mono fun t ⟨hx, hrest⟩ => ⟨congrArg (·.lof) hx, hrest⟩
  · intro n sd i s hi hn
    exact (runs_tribAlarm (exec_otnLof_trib hn hi) (by decide)).mono fun t ⟨hx, hrest⟩ => ⟨congrArg (·.lof) hx, hrest⟩
  · intro n sd s ha
    exact (runs_setOtl (exec_otnLofClear_otu ha)).mono fun t ⟨hx, hf⟩ => ⟨congrArg (·.lof) hx, hf⟩
  · intro n sd i s hi hn
    exact (runs_setTrib (exec_otnLofClear_trib hn hi)).mono fun t ⟨hx, hf⟩ => ⟨congrArg (·.lof) hx, congrArg (·.inFrame) hx, hf⟩
  · intro n sd s hn ha
    exact (runs_setOtl (exec_multiframeAligned_otu hn ha)).mono fun t ⟨hx, hf⟩ => ⟨congrArg (·.mfOk) hx, congrArg (·.oom) hx, hf⟩
  · intro n sd i s hi hn
    exact (runs_setTrib (exec_multiframeAligned_trib hn hi)).mono fun t ⟨hx, hf⟩ => ⟨congrArg (·.mfOk) hx, congrArg (·.oom) hx, hf⟩
  · intro n sd s hn
    exact (runs_setOtl (exec_outOfMultiframe_otu hn)).mono fun t ⟨hx, hf⟩ => ⟨congrArg (·.mfOk) hx, congrArg (·.oom) hx, hf⟩
  · intro n sd i s hi hn
    exact (runs_setTrib (exec_outOfMultiframe_trib hn hi)).mono fun t ⟨hx, hf⟩ => ⟨congrArg (·.mfOk) hx, congrArg (·.oom) hx, hf⟩
  · intro n sd s _ hn ho
    exact (runs_otnAlarm (exec_otnLom_otu hn ho) (by decide)).mono fun t ⟨hx, hrest⟩ => ⟨congrArg (·.lom) hx, hrest⟩
  · intro n sd i s _ ho
    exact (runs_tribAlarm (exec_otnLom_trib ho) (by decide)).mono fun t ⟨hx, hrest⟩ => ⟨congrArg (·.lom) hx, hrest⟩
  · intro n sd s ha hm
    exact (runs_setOtl (exec_otnLomClear_otu ha hm)).mono fun t ⟨hx, hf⟩ => ⟨congrArg (·.lom) hx, hf⟩
  · intro n sd i s _ hf hm
    exact (runs_setTrib (exec_otnLomClear_trib hf hm)).mono fun t ⟨hx, hr⟩ => ⟨congrArg (·.lom) hx, hr⟩

end
end Sys2Proof.Machine

/-! The payload structure received, and the justification of tributaries (R92, R93). -/

namespace Sys2Proof.Machine

section
variable {s t u : State} {n i pt cm cnd : Nat} {sd : Side} {x : Otl} {msi : List Nat} {ais bdi ok : Bool}

/-! The payload structure (R92, R108). -/

/-- The record of a side with the overhead it has received. -/
def psiTaken (s : State) (n : Nat) (sd : Side) (pt : Nat) (msi : List Nat) (ais bdi : Bool) : Otl :=
  { otl s n sd with plm := decide (pt ≠ 0x21) && rdBit s (K.otnCtrl n) 4, ais := ais, bdi := bdi, msi := msi }

/-- The record stored, with the sticky bits of the AIS and the BDI it shows. -/
def psiMarked (s : State) (n : Nat) (sd : Side) (x : Otl) : State :=
  let s1 := setOtl s n sd x
  let s1 := if x.ais then otnSticky s1 n sd 7 else s1
  if x.bdi then otnSticky s1 n sd 6 else s1

/-- PLM is raised where it was not there before. -/
def psiAlarmed (s : State) (n : Nat) (sd : Side) (x : Otl) : State :=
  if x.plm && !(otl s n sd).plm then raise (otnSticky (psiMarked s n sd x) n sd 5) Ev.otnPlm n 0 else psiMarked s n sd x

/-- The judgement of tributary `i`: MSIM and its event follow the MSI received. -/
def msiJudged (n : Nat) (sd : Side) (msi : List Nat) (i : Nat) (s : State) : State :=
  if msiBad s n sd msi i == (trib s n sd i).msim then s else
  let u := setTrib s n sd i { trib s n sd i with msim := msiBad s n sd msi i }
  if msiBad s n sd msi i then raise u Ev.tribMsim n 0 else u

theorem exec_otnPsiRx (hn : isOtu4 s n = true) : exec (.otnPsiRx n sd pt msi ais bdi) s =
    done s (forNat 80 (msiJudged n sd msi) (psiAlarmed s n sd (psiTaken s n sd pt msi ais bdi))) := congrArg (done s) (if_pos hn)

theorem psiMarked_leaves : otl (psiMarked s n sd x) n sd = x ∧ Frame [K.otnEvents n] [.lines] s (psiMarked s n sd x) := by
  have hset : Frame [K.otnEvents n] [.lines] s (setOtl s n sd x) := .setOtl (by decide) .refl
  have hais : Frame [K.otnEvents n] [.lines] s (if x.ais then otnSticky (setOtl s n sd x) n sd 7 else setOtl s n sd x) :=
    .ite (fun _ => hset.otnSticky (by simp)) (fun _ => hset)
  refine ⟨(otl_congr (s := setOtl s n sd x) ?_).trans otl_setOtl_same, .ite (fun _ => hais.otnSticky (by simp)) (fun _ => hais)⟩
  unfold psiMarked
  cases x.ais <;> cases x.bdi <;> rfl

theorem psiAlarmed_leaves : otl (psiAlarmed s n sd x) n sd = x ∧
    (x.plm = true → (otl s n sd).plm = false → Pending (psiAlarmed s n sd x) Ev.otnPlm) ∧
    EvFrame [K.otnEvents n] [.lines] s (psiAlarmed s n sd x) := by
  obtain ⟨hrecord, hframe⟩ := psiMarked_leaves (s := s) (n := n) (sd := sd) (x := x)
  unfold psiAlarmed
  split
  · exact ⟨(otl_congr (raise_lines _ _ _ _ (by decide))).trans hrecord, fun _ _ => raise_sets_pending _ _ _ _ (by decide),
      .raise (by decide) (hframe.otnSticky (by simp)).toEv⟩
  · next h => exact ⟨hrecord, fun hx ho => absurd (by simp [hx, ho]) h, hframe.toEv⟩

/-- What a judgement leaves: the records of the sides, and every pending event. -/
structure SidesKept (s t : State) : Prop where
  record : ∀ n sd, otl t n sd = otl s n sd
  events : ∀ m, Pending s m → Pending t m
  frame : EvFrame [] [.lines] s t

theorem SidesKept.refl : SidesKept s s := ⟨fun _ _ => rfl, fun _ h => h, .refl⟩

theorem SidesKept.trans (h : SidesKept s t) (h' : SidesKept t u) : SidesKept s u :=
  ⟨fun n sd => (h'.record n sd).trans (h.record n sd), fun m hm => h'.events m (h.events m hm), h.frame.trans h'.frame⟩

theorem msiJudged_sidesKept : SidesKept s (msiJudged n sd msi i s) := by
  have hset (y : Trib) : SidesKept s (setTrib s n sd i y) := ⟨fun _ _ => rfl, fun _ h => h, (Frame.refl.setTrib (by decide)).toEv⟩
  have hraise (u : State) : SidesKept u (raise u Ev.tribMsim n 0) :=
    ⟨fun _ _ => otl_congr (raise_lines _ _ _ _ (by decide)), fun _ h => h.raise (by decide), .raise (by decide) .refl⟩
  unfold msiJudged
  split
  · exact .refl
  · dsimp only
    split
    · exact (hset _).trans (hraise _)
    · exact hset _

theorem msiJudgedAll_sidesKept : SidesKept s (forNat 80 (msiJudged n sd msi) s) :=
  forNat_rel (R := SidesKept) (fun _ => .refl) .trans 80 (fun _ _ _ => msiJudged_sidesKept) s

/-! The justification controls (R93). -/

/-- The record of a tributary whose justification control is not taken: the last valid values stay, and the fifth in a row is a
loss of mapping. -/
def gmpReplaced (y : Trib) : Trib := { y with bad := y.bad + 1, good := 0, loss := y.loss || decide (5 ≤ y.bad + 1) }

/-- It is counted. -/
def gmpCounted (s : State) (n : Nat) (sd : Side) (i : Nat) : State :=
  inc (setTrib s n sd i (gmpReplaced (trib s n sd i))) (K.gmpErrors n) 1

/-- The loss of mapping raises GMP_LOSS as it begins. -/
def gmpAlarmed (s : State) (n : Nat) (sd : Side) (i : Nat) : State :=
  if !(trib s n sd i).loss && decide (5 ≤ (trib s n sd i).bad + 1) then raise (gmpCounted s n sd i) Ev.gmpLoss n 0
  else gmpCounted s n sd i

theorem exec_gmpJcRx_valid (hn : isOtu4 s n = true) (hi : i < 80) (hlo : (cmRange s n sd i).1 ≤ cm) (hhi : cm ≤ (cmRange s n sd i).2) :
    exec (.gmpJcRx n sd i cm cnd true) s = done s (setTrib s n sd i { trib s n sd i with
      cm := cm, cnd := cnd, bad := 0, good := (trib s n sd i).good + 1,
      loss := (trib s n sd i).loss && decide ((trib s n sd i).good + 1 < 2) }) :=
  congrArg (done s) ((if_pos ⟨hn, hi⟩).trans (if_pos (by simp [hlo, hhi])))

theorem exec_gmpJcRx_invalid (hn : isOtu4 s n = true) (hi : i < 80)
    (hbad : ok = false ∨ cm < (cmRange s n sd i).1 ∨ (cmRange s n sd i).2 < cm) :
    exec (.gmpJcRx n sd i cm cnd ok) s = done s (gmpAlarmed s n sd i) := by
  refine congrArg (done s) ((if_pos ⟨hn, hi⟩).trans (if_neg ?_))
  simp only [Bool.and_eq_true, decide_eq_true_eq]
  rintro ⟨⟨hok, hlo⟩, hhi⟩
  obtain h | h | h := hbad
  · simp [hok] at h
  · omega
  · omega

theorem gmpAlarmed_leaves (hn : n < 8) : trib (gmpAlarmed s n sd i) n sd i = gmpReplaced (trib s n sd i) ∧
    Counts s (gmpAlarmed s n sd i) (K.gmpErrors n) 1 ∧ EvFrame [K.gmpErrors n] [.lines] s (gmpAlarmed s n sd i) := by
  have hkey : eventKey (K.gmpErrors n) = false := eventKey_of_page (by simp only [K.gmpErrors]; omega)
  have hrecord : trib (gmpCounted s n sd i) n sd i = gmpReplaced (trib s n sd i) := trib_setTrib_same
  have hcount : Counts s (gmpCounted s n sd i) (K.gmpErrors n) 1 := .of_inc rfl
  have hframe : EvFrame [K.gmpErrors n] [.lines] s (gmpCounted s n sd i) := .inc (by simp) (Frame.refl.setTrib (by decide)).toEv
  unfold gmpAlarmed
  split
  · exact ⟨(trib_congr (raise_lines _ _ _ _ (by decide))).trans hrecord, hcount.of_rd (rd_raise _ _ _ _ _ (by decide) hkey),
      hframe.raise (by decide)⟩
  · exact ⟨hrecord, hcount, hframe⟩

/-- R93: the fifth in a row raises GMP_LOSS. -/
theorem gmpAlarmed_raises (hb : (trib s n sd i).bad = 4) (hl : (trib s n sd i).loss = false) :
    Pending (gmpAlarmed s n sd i) Ev.gmpLoss := by
  rw [gmpAlarmed, if_pos (by simp [hb, hl])]
  exact raise_sets_pending _ _ _ _ (by decide)

/-- Settles O8: the overhead is kept through the judgement of every tributary, and a justification control is taken or replaced. -/
theorem otnTributaries : Obligations.OtnTributaries := by
  refine ⟨?_, ?_, ?_, ?_⟩
  · intro n sd pt msi ais bdi s _ hn
    let x := psiTaken s n sd pt msi ais bdi
    obtain ⟨hrecord, hraised, hframe⟩ := psiAlarmed_leaves (s := s) (n := n) (sd := sd) (x := x)
    have hjudged := msiJudgedAll_sidesKept (s := psiAlarmed s n sd x) (n := n) (sd := sd) (msi := msi)
    have hx : otl (settled s (forNat 80 (msiJudged n sd msi) (psiAlarmed s n sd x))) n sd = x := (hjudged.record n sd).trans hrecord
    refine runs_done (exec_otnPsiRx hn) ⟨congrArg (·.msi) hx, congrArg (·.ais) hx, congrArg (·.bdi) hx, congrArg (·.plm) hx, ?_,
      (hframe.trans (hjudged.frame.mono (by simp) (by simp))).settled⟩
    intro hplm hold
    exact (hjudged.events _ (hraised ((congrArg (·.plm) hx).symm.trans hplm) hold)).settled
  · intro n sd i cm cnd s _ hi hlo hhi hn
    exact (runs_setTrib (exec_gmpJcRx_valid hn hi hlo hhi)).mono fun t ⟨hy, hframe⟩ =>
      ⟨congrArg (·.cm) hy, congrArg (·.cnd) hy, congrArg (·.bad) hy, hframe⟩
  · intro n sd i cm cnd s hn8 hi hn hb hl
    obtain ⟨hy, hcount, hframe⟩ := gmpAlarmed_leaves (s := s) (sd := sd) (i := i) hn8
    exact runs_done (exec_gmpJcRx_invalid hn hi (.inl rfl)) ⟨congrArg (·.cm) hy, congrArg (·.cnd) hy,
      (congrArg (·.loss) hy).trans (by simp [gmpReplaced, hb]), hcount.settled, (gmpAlarmed_raises hb hl).settled, hframe.settled⟩
  · intro n sd i cm cnd ok s hn8 hi hn hbad
    obtain ⟨hy, hcount, hframe⟩ := gmpAlarmed_leaves (s := s) (sd := sd) (i := i) hn8
    exact runs_done (exec_gmpJcRx_invalid hn hi hbad) ⟨congrArg (·.cm) hy, congrArg (·.cnd) hy, congrArg (·.bad) hy, hcount.settled,
      hframe.settled⟩

end
end Sys2Proof.Machine

/-! The pages of a time-slot interchange (R95–R97): written, copied, armed and swapped. -/

namespace Sys2Proof.Machine

section
variable {ks : List Nat} {ps : List Part} {s t u : State} {k pg pg' e e' v n d g : Nat}

/-! The entries of a page (R95). -/

@[simp] theorem tsiAt_setTsi_same : tsiAt (setTsi s k pg e v) k pg e = v := tget_tset_same ..

theorem tsiAt_setTsi_entry (h : e ≠ e') : tsiAt (setTsi s k pg e v) k pg e' = tsiAt s k pg e' := tget_tset_ne _ _ _ _ (by omega)

theorem tsiAt_setTsi_page (he : e < 320) (he' : e' < 320) (h : pg ≠ pg') : tsiAt (setTsi s k pg e v) k pg' e' = tsiAt s k pg' e' :=
  tget_tset_ne _ _ _ _ (by omega)

theorem tsiAt_congr (h : t.lines = s.lines) : tsiAt t k pg e = tsiAt s k pg e := by rw [tsiAt, h, tsiAt]

theorem answered_lines {y : Tbl Chan} {code : Code} {ws : List Word} : (answered s u y code ws).lines = u.lines := rfl

theorem Frame.setTsi (hp : Part.lines ∈ ps) (h : Frame ks ps s u) : Frame ks ps s (setTsi u k pg e v) := h.set_lines hp

/-- There are two pages, and the standby page is one of them. -/
theorem tsiStandby_ne_active : tsiStandby s k ≠ 1 - tsiStandby s k := by simp only [tsiStandby]; omega

theorem tsiPage_congr (h : rd t (K.tsiActive k) = rd s (K.tsiActive k)) : tsiPage t k d g = tsiPage s k d g := by
  rw [tsiPage, rdBit, h, ← rdBit, tsiPage]

theorem tsiStandby_congr (h : t.regs = s.regs) : tsiStandby t k = tsiStandby s k := by
  rw [tsiStandby, tsiPage_congr (rd_of_regs h _), tsiStandby]

/-- TSI_DATA, its fields in range, stores the entry and advances the address (R95, R96). -/
theorem tsiDataEff_stores (hb : tsiBusy s k = false) (ha : rd s (K.tsiAddr k) < 320) (ht : tsiType v ≤ 4) (hs : tsiSrcT v ≤ 79)
    (hd : tsiDstT v ≤ 79) (hc : tsiCtx v ≤ 159) (hv : tsiCipher v = true → s.unit.variant ≠ 1) : tsiDataEff k v s =
    okR (wr (setTsi s k (tsiStandby s k) (rd s (K.tsiAddr k)) (Nat.land v 0xF8FFFF7F)) (K.tsiAddr k) ((rd s (K.tsiAddr k) + 1) % 320)) := by
  have hbit : bit (rd s (K.tsiAddr k)) 15 = false := by
    rw [bit, Nat.div_eq_of_lt (by omega)]
    rfl
  have hmod : rd s (K.tsiAddr k) % 512 = rd s (K.tsiAddr k) := Nat.mod_eq_of_lt (by omega)
  have hcipher : ¬ (tsiCipher v = true ∧ s.unit.variant = 1) := fun h => hv h.1 h.2
  have hrange : ¬ (4 < tsiType v ∨ 79 < tsiSrcT v ∨ 79 < tsiDstT v ∨ 159 < tsiCtx v) := by omega
  simp only [tsiDataEff, hb, hbit, hmod, if_neg hcipher, Bool.or_self, Bool.false_eq_true, if_false]
  exact if_neg (by simpa [and_assoc] using hrange)

/-! TSI_COPY (R95). -/

/-- One entry of the active page copied to the standby page. -/
def tsiEntryCopied (k e : Nat) (s : State) : State := setTsi s k (tsiStandby s k) e (tsiAt s k (1 - tsiStandby s k) e)

theorem tsiCopyEff_copies (hb : tsiBusy s k = false) : tsiCopyEff k 1 s = okR (forNat 320 (tsiEntryCopied k) s) := by
  simp only [tsiCopyEff, hb, ne_eq, not_true, if_false, Bool.false_eq_true]
  rfl

/-- The copy under way: no register changed, and the active page is as it was. -/
def CopyFrom (s : State) (k : Nat) (u : State) : Prop :=
  u.regs = s.regs ∧ ∀ e, e < 320 → tsiAt u k (1 - tsiStandby s k) e = tsiAt s k (1 - tsiStandby s k) e

/-- As it goes on, each entry is written as the active page had it. -/
theorem CopyFrom.entry (h : CopyFrom s k u) (he : e < 320) :
    tsiEntryCopied k e u = setTsi u k (tsiStandby s k) e (tsiAt s k (1 - tsiStandby s k) e) := by
  rw [tsiEntryCopied, tsiStandby_congr h.1, h.2 e he]

theorem CopyFrom.step (h : CopyFrom s k u) (he : e < 320) : CopyFrom s k (tsiEntryCopied k e u) := by
  rw [h.entry he]
  exact ⟨h.1, fun e' he' => (tsiAt_setTsi_page he he' tsiStandby_ne_active).trans (h.2 e' he')⟩

/-- Entry `e` is the same in both pages once its turn has come. -/
theorem tsiAt_copied (he : e < 320) :
    tsiAt (forNat 320 (tsiEntryCopied k) s) k (tsiStandby s k) e = tsiAt s k (1 - tsiStandby s k) e := by
  have hcopied := forNat_sets (f := tsiEntryCopied k) (Q := CopyFrom s k)
    (P := fun u => CopyFrom s k u ∧ tsiAt u k (tsiStandby s k) e = tsiAt s k (1 - tsiStandby s k) e) (x := s) he
    (fun i u hi _ h => h.step hi)
    (fun u h => ⟨h.step he, by rw [h.entry he, tsiAt_setTsi_same]⟩)
    (fun i u hi hne ⟨h, ht⟩ => ⟨h.step hi, by rw [h.entry hi, tsiAt_setTsi_entry hne, ht]⟩)
    ⟨rfl, fun _ _ => rfl⟩
  exact hcopied.2

theorem tsiCopied_frame : Frame [] [.lines] s (forNat 320 (tsiEntryCopied k) s) :=
  forNat_rel (R := Frame [] [.lines]) (fun _ => .refl) .trans 320 (fun _ _ _ => .setTsi (by decide) .refl) s

/-! The swap (R96, R97). -/

/-- The swap is armed for tick `n`. -/
def tsiArmed (s : State) (k n : Nat) : State := wrBit (wr s (K.tsiSwapTick k) n) (K.tsiStatus k) 0 true

theorem tsiSwapEff_arms (hb : tsiBusy s k = false) (ha : armOk s n = true) (hf : tsiFirstFault s k = none) :
    tsiSwapEff k n s = okR (tsiArmed s k n) := by
  simp only [tsiSwapEff, hb, ha, hf, Bool.not_true, Bool.false_eq_true, if_false]
  rfl

theorem tsiArmed_leaves : rd (tsiArmed s k n) (K.tsiSwapTick k) = n ∧ rdBit (tsiArmed s k n) (K.tsiStatus k) 0 = true ∧
    Frame [K.tsiSwapTick k, K.tsiStatus k] [] s (tsiArmed s k n) := by
  have hne : K.tsiStatus k ≠ K.tsiSwapTick k := by simp only [K.tsiStatus, K.tsiSwapTick]; omega
  exact ⟨(rd_wrBit_ne _ _ _ hne).trans (rd_wr_same ..), rdBit_wrBit_same .., .wrBit (by simp) (.wr (by simp) .refl)⟩

/-- The side a direction sends to. -/
def tsiSide (d : Nat) : Side := if d = 0 then .line else .host

/-- The group runs the new page. -/
def tsiTurned (s : State) (k d g : Nat) : State := wrBit s (K.tsiActive k) (2 * d + g) (tget 0 s.lines.tsiOld k == 0)

/-- It runs the new page, and has sent its structure. -/
def tsiTaken (s : State) (k d g : Nat) : State :=
  emit (tsiTurned s k d g) (.psi (2 * k + g) (tsiSide d) (psiTx (tsiTurned s k d g) k d g))

/-- The swap ends with its last group. -/
def tsiEnded (s : State) (k old : Nat) : State :=
  if rd s (K.tsiActive k) = (if old = 0 then 15 else 0) then raise (wr s (K.tsiStatus k) 0) Ev.tsiSwapped k 0 else s

theorem exec_tsiGroupSwap (hk : k < 4) (hd : d < 2) (hg : g < 2) (hs : rdBit s (K.tsiStatus k) 1 = true)
    (hp : tsiPage s k d g = tget 0 s.lines.tsiOld k) :
    exec (.tsiGroupSwap k d g) s = done s (tsiEnded (tsiTaken s k d g) k (tget 0 s.lines.tsiOld k)) :=
  congrArg (done s) ((if_pos ⟨hk, hd, hg⟩).trans (if_pos (by simp [hs, hp])))

/-- What the end of a swap leaves: which pages are active, the pages, and what was sent. -/
theorem tsiEnded_leaves {old : Nat} (hk : k < 4) : rd (tsiEnded s k old) (K.tsiActive k) = rd s (K.tsiActive k) ∧
    (tsiEnded s k old).lines = s.lines ∧ (tsiEnded s k old).out = s.out ∧ EvFrame [K.tsiStatus k] [] s (tsiEnded s k old) := by
  have hkey : eventKey (K.tsiActive k) = false := eventKey_of_page (by simp only [K.tsiActive]; omega)
  have hne : K.tsiStatus k ≠ K.tsiActive k := by simp only [K.tsiStatus, K.tsiActive]; omega
  by_cases h : rd s (K.tsiActive k) = (if old = 0 then 15 else 0)
  · rw [tsiEnded, if_pos h]
    exact ⟨(rd_raise _ _ _ _ _ (by decide) hkey).trans (rd_wr_ne _ _ hne), raise_lines _ _ _ _ (by decide),
      raise_out _ _ _ _ (by decide), .raise (by decide) (.wr (by simp) .refl)⟩
  · rw [tsiEnded, if_neg h]
    exact ⟨rfl, rfl, rfl, .refl⟩

/-- The structure a group sends is read from its active page. -/
theorem psiTx_congr (hl : t.lines = s.lines) (ha : rd t (K.tsiActive k) = rd s (K.tsiActive k)) : psiTx t k d g = psiTx s k d g := by
  have hentries (pg : Nat) : tsiGroup t k pg d g = tsiGroup s k pg d g := by simp only [tsiGroup, tsiAt, hl]
  rw [psiTx, hentries, tsiPage_congr ha, psiTx]

/-- Settles O9, clause by clause: an entry written, the page copied, a swap armed, and a group that takes the new page. -/
theorem tsiPages : Obligations.TsiPages := by
  refine ⟨?_, ?_, ?_, ?_⟩
  · intro r k v s _ hv hb ha ht hs hd hc hi hg
    have hx : exec (.tsiDataWrite r k v) s = done s (access s r (K.tsiData k) true (tsiDataEff k (v % 2 ^ 32))) := rfl
    rw [Nat.mod_eq_of_lt hv] at hx
    exact runs_answered hx hg (tsiDataEff_stores hb ha ht hs hd hc hi) fun x =>
      ⟨rfl, (tsiAt_congr answered_lines).trans tsiAt_setTsi_same, rd_answered.trans (rd_wr_same ..),
        .answered (by decide) (.wr (by simp) (.setTsi (by decide) .refl))⟩
  · intro r k s _ hb hg
    exact runs_answered rfl hg (tsiCopyEff_copies hb) fun x => ⟨rfl, fun e he => (tsiAt_congr answered_lines).trans (tsiAt_copied he),
      .answered (by decide) (tsiCopied_frame.mono (by simp) (by simp))⟩
  · intro r k n s _ hn hb ha hf hg
    have hx : exec (.tsiSwapArm r k n) s = done s (access s r (K.tsiSwapTick k) true (tsiSwapEff k (n % 2 ^ 64))) := rfl
    rw [Nat.mod_eq_of_lt hn] at hx
    obtain ⟨htick, harmed, hframe⟩ := tsiArmed_leaves (s := s) (k := k) (n := n)
    exact runs_answered hx hg (tsiSwapEff_arms hb ha hf) fun x =>
      ⟨rfl, htick, harmed, .answered (by simp) (hframe.mono (by simp) (by simp))⟩
  · intro k d g s hk hd hg hs hp
    obtain ⟨hactive, hlines, hout, hframe⟩ := tsiEnded_leaves (s := tsiTaken s k d g) (old := tget 0 s.lines.tsiOld k) hk
    refine runs_done (exec_tsiGroupSwap hk hd hg hs hp) ⟨?_, ?_, EvFrame.settled ?_⟩
    · exact (congrArg (bit · _) hactive).trans (rdBit_wrBit_same ..)
    · rw [settled_out, hout, psiTx_congr (t := settled s _) (s := tsiTurned s k d g) hlines hactive]
      exact List.mem_cons_self ..
    · exact .trans (.emit (by simp) (.wrBit (by simp) .refl)) (hframe.mono (by simp) (by simp))

end
end Sys2Proof.Machine

/-! The rules of a slice (R117, R122–R125): the live table, the staging copy, and what a word written to it does. -/

namespace Sys2Proof.Machine

section
variable {s t u : State} {r : Req} {j e e' w v g c n : Nat} {ws : List Word} {load : Bool}

/-! The live table and its window. -/

theorem liveRule_ne_nil : liveRule s j e ≠ [] := by
  unfold liveRule
  dsimp only
  split
  · simp [ruleWords]
  · next h => simpa using h

theorem liveRule_setRule_same (h : ws ≠ []) : liveRule (setRule s j e ws) j e = ws := by
  simp only [liveRule, setRule, tget_tset_same]
  by_cases hz : ws = List.replicate ruleWords 0 <;> simp [hz, h]

theorem liveRule_setRule_ne (h : e' ≠ e) : liveRule (setRule s j e ws) j e' = liveRule s j e' := by
  simp only [liveRule, setRule, tget_tset_ne _ _ _ _ (show j * 4096 + e ≠ j * 4096 + e' by omega)]

theorem Frame.setRule {ks : List Nat} {ps : List Part} (hp : Part.tables ∈ ps) (h : Frame ks ps s u) :
    Frame ks ps s (setRule u j e ws) := h.set_tables hp

theorem ruleCopy_ne_nil : ruleCopy s j ≠ [] := by
  unfold ruleCopy
  dsimp only
  split
  · exact liveRule_ne_nil
  · next h => simpa using h

theorem rd_ruleTo : rd (ruleTo s j e w load) (K.ruleAddr j) = w * 2 ^ 16 + e := by
  cases load <;> exact rd_wr_same ..

theorem liveRule_ruleTo : liveRule (ruleTo s j e w load) j e' = liveRule s j e' := by cases load <;> rfl

theorem stageOf_ruleTo_loads : stageOf (ruleTo s j e w true) (Grp.rule j) = liveRule s j e := tget_tset_same ..

theorem ruleTo_frame : Frame [K.ruleAddr j] [.staging] s (ruleTo s j e w load) := by
  cases load
  · exact .wr (by simp) .refl
  · exact .setStage (by simp) (.wr (by simp) .refl)

/-! What a write of the window does. -/

theorem ruleAddrEff_loads (hw : bits v 20 16 < 22) (hh : heldByOther s (Grp.rule j) r.ch = false) :
    ruleAddrEff j r v s = okR (ruleTo (claim s (Grp.rule j) r.ch) j (bits v 11 0) (bits v 20 16) true) :=
  (if_neg (by rw [ruleWords]; omega)).trans (claimed_free hh)

/-- A word below 21 as the copy takes it. -/
def ruleStaged (s : State) (r : Req) (j w v : Nat) : State :=
  setStage (claim s (Grp.rule j) r.ch) (Grp.rule j) (lset (ruleCopy s j) w v)

theorem ruleDataEff_stages (ha : ruleAt s j = (e, w)) (hw : w < 21) (hm : w = 20 → resAction v ≤ 4)
    (hh : heldByOther s (Grp.rule j) r.ch = false) :
    ruleDataEff j r v s = okR (ruleTo (ruleStaged s r j w v) j e (w + 1) false) := by
  have hpass : ¬ (w = 20 && decide (4 < resAction v)) = true := by
    simp only [Bool.and_eq_true, decide_eq_true_eq]
    rintro ⟨hw, hv⟩
    exact absurd (hm hw) (by omega)
  simp only [ruleDataEff, ha, if_neg hpass, claimed_free hh, if_pos hw, if_neg (show w ≠ 21 by omega)]
  rfl

theorem stageOf_ruleStaged : stageOf (ruleStaged s r j w v) (Grp.rule j) = lset (ruleCopy s j) w v :=
  tget_tset_same ..

theorem ruleStaged_frame : Frame [] [.staging] s (ruleStaged s r j w v) := .setStage (by decide) (.claim (by decide) .refl)

/-- The rule that word 21 completes: of the word its ENABLE bit alone. -/
def ruleCompleted (s : State) (j v : Nat) : List Word := lset (ruleCopy s j) 21 (v / 2 ^ 31 * 2 ^ 31)

theorem ruleCompleted_ne_nil : ruleCompleted s j v ≠ [] := by simp [ruleCompleted, lset, ruleCopy_ne_nil]

/-- The completed rule in the live table, its group released. -/
def ruleCommitted (s : State) (r : Req) (j e v : Nat) : State :=
  release (setRule (claim s (Grp.rule j) r.ch) j e (ruleCompleted s j v)) (Grp.rule j)

theorem ruleDataEff_commits (ha : ruleAt s j = (e, 21)) (hb : ruleBad (ruleCompleted s j v) = false)
    (hh : heldByOther s (Grp.rule j) r.ch = false) :
    ruleDataEff j r v s = okR (ruleTo (ruleCommitted s r j e v) j ((e + 1) % 4096) 0 true) := by
  have hbad : ¬ ruleBad (lset (ruleCopy (claim s (Grp.rule j) r.ch) j) 21 (v / 2 ^ 31 * 2 ^ 31)) = true :=
    fun h => Bool.noConfusion (hb.symm.trans h)
  simp only [ruleDataEff, ha, claimed_free hh, if_neg hbad, Nat.lt_irrefl, if_false, if_true, show (21 = 20) = False by simp,
    decide_false, Bool.false_and, Bool.false_eq_true]
  rfl

theorem ruleCommitted_leaves : liveRule (ruleCommitted s r j e v) j e = ruleCompleted s j v ∧
    (∀ e', e' ≠ e → liveRule (ruleCommitted s r j e v) j e' = liveRule s j e') ∧
    Frame [] [.staging, .tables] s (ruleCommitted s r j e v) :=
  ⟨liveRule_setRule_same ruleCompleted_ne_nil, fun _ he => liveRule_setRule_ne he,
    .release (by decide) (.setRule (by decide) (.claim (by decide) .refl))⟩

theorem ruleDataEff_badAction (ha : ruleAt s j = (e, 20)) (hv : 4 < resAction v) (hh : heldByOther s (Grp.rule j) r.ch = false) :
    ruleDataEff j r v s = abortR s .unsupportedValue := by
  simp [ruleDataEff, ha, hv, hh]

/-! A claim's end. -/

theorem exec_stagingClaimTimeout_due (hc : s.claims.find? (fun e => e.1 == g) = some (g, c, n)) (hn : n + claimTicks ≤ s.tick.elapsed) :
    exec (.stagingClaimTimeout g) s = done s (discard s g) := by
  change execStagingClaimTimeout g s = _
  simp only [execStagingClaimTimeout, hc, if_pos hn]

theorem map_tdel {α β : Type} (f : α → β) (l : Tbl α) (k : Nat) :
    (tdel l k).map (fun e => (e.1, f e.2)) = tdel (l.map (fun e => (e.1, f e.2))) k := by
  induction l with
  | nil => rfl
  | cons e l ih => by_cases h : e.1 = k <;> simp [tdel, h, ih]

theorem heldByOther_discard : heldByOther (discard s g) g c = false := by
  simp only [heldByOther, discard, map_tdel (fun e : Nat × Nat => some e), tget_tdel_same]

/-- Settles O15, clause by clause: the copy loaded, a word staged, the rule committed, a bad ACTION, and a claim that times out. -/
theorem ruleTable : Obligations.RuleTable := by
  refine ⟨?_, ?_, ?_, ?_, ?_⟩
  · intro r j v s _ hv hw hh hg
    have hx : exec (.ruleAddrWrite r j v) s = done s (access s r (K.ruleAddr j) true (ruleAddrEff j r (v % 2 ^ 32))) := rfl
    rw [Nat.mod_eq_of_lt hv] at hx
    exact runs_answered hx hg (ruleAddrEff_loads hw hh) fun x => ⟨rfl, stageOf_ruleTo_loads, rd_ruleTo,
      .answered (by decide) ((Frame.claim (by decide) .refl).trans (ruleTo_frame.mono (by simp) (by simp)))⟩
  · intro r j v e w s _ hv ha hw hm hh hg
    have hx : exec (.ruleDataWrite r j v) s = done s (access s r (K.ruleData j) true (ruleDataEff j r (v % 2 ^ 32))) := rfl
    rw [Nat.mod_eq_of_lt hv] at hx
    exact runs_answered hx hg (ruleDataEff_stages ha hw hm hh) fun x => ⟨rfl, stageOf_ruleStaged, rd_ruleTo,
      .answered (by decide) ((ruleStaged_frame.mono (by simp) (by simp)).trans (ruleTo_frame.mono (by simp) (by simp)))⟩
  · intro r j v e s _ hv ha hb hh hg
    have hx : exec (.ruleDataWrite r j v) s = done s (access s r (K.ruleData j) true (ruleDataEff j r (v % 2 ^ 32))) := rfl
    rw [Nat.mod_eq_of_lt hv] at hx
    obtain ⟨hsame, hother, hframe⟩ := ruleCommitted_leaves (s := s) (r := r) (j := j) (e := e) (v := v)
    exact runs_answered hx hg (ruleDataEff_commits ha hb hh) fun x => ⟨rfl, liveRule_ruleTo.trans hsame,
      fun e' he => liveRule_ruleTo.trans (hother e' he),
      .answered (by decide) ((hframe.mono (by simp) (by simp)).trans (ruleTo_frame.mono (by simp) (by simp)))⟩
  · intro r j v e s _ ha hv hh hg
    exact runs_answered rfl hg (ruleDataEff_badAction ha hv hh) fun x => ⟨rfl, .answered (by decide) .refl⟩
  · intro g c n s hc hn
    exact runs_done (exec_stagingClaimTimeout_due hc hn) ⟨tget_tdel_same .., heldByOther_discard, Frame.settled (.discard (by decide) .refl)⟩

end
end Sys2Proof.Machine

/-! The LPM table (R127–R130): its entries, an operation taken, and what each operation leaves when it completes. -/

namespace Sys2Proof.Machine

section
variable {ks : List Nat} {ps : List Part} {s t u : State} {r : Req} {v6 : Bool} {len a e e' v st : Nat} {ws : List Word}

/-! The entries of the table (R127). -/

theorem lpmEntry_setLpm_same (h : ws ≠ []) : lpmEntry (setLpm s e ws) e = ws := by
  simp only [lpmEntry, setLpm, tget_tset_same]
  by_cases hz : ws = [0, 0, 0, 0] <;> simp [hz, h]

theorem lpmEntry_setLpm_ne (h : e ≠ e') : lpmEntry (setLpm s e ws) e' = lpmEntry s e' := by
  simp only [lpmEntry, setLpm, tget_tset_ne _ _ _ _ h]

theorem lpmEntry_congr (h : t.tables.lpm = s.tables.lpm) : lpmEntry t e = lpmEntry s e := by rw [lpmEntry, h, lpmEntry]

theorem Frame.setLpm (hp : Part.tables ∈ ps) (h : Frame ks ps s u) : Frame ks ps s (setLpm u e ws) := h.set_tables hp

/-- Which entry holds the result (R127). -/
theorem lpmResultAt_eq : lpmResultAt s v6 e = nth (lpmEntry s (e + b2n v6)) 3 := by cases v6 <;> rfl

/-! An operation is taken (R129). -/

/-- Operation `v` under way. -/
def lpmTaken (s : State) (v : Nat) : State :=
  let s := release s Grp.lpm
  wr { s with tables := { s.tables with lpmOp := v } } K.lpmStatus (2 ^ 31)

theorem lpmOpEff_takes (hb : lpmBusy s = false) (hh : heldByOther s Grp.lpm r.ch = false) (h1 : 1 ≤ v) (h3 : v ≤ 3) :
    lpmOpEff r v s = okR (lpmTaken s v) := by
  simp only [lpmOpEff, hb, hh, Bool.false_eq_true, if_false, if_neg (show ¬(v = 0 ∨ 3 < v) by omega), lpmTaken]

theorem lpmBusy_lpmTaken : lpmBusy (lpmTaken s v) = true := by rw [lpmBusy, rdBit, lpmTaken, rd_wr_same]; decide

theorem lpmTaken_frame : Frame [K.lpmStatus] [.staging, .tables] s (lpmTaken s v) :=
  .wr (by simp) (.set_tables (by decide) (.release (by decide) .refl))

theorem runs_lpmTaken {c : Instr} (hx : exec c s = done s (access s r K.lpmOp true (lpmOpEff r v))) (hg : Admitted s r K.lpmOp true)
    (hb : lpmBusy s = false) (hh : heldByOther s Grp.lpm r.ch = false) (h1 : 1 ≤ v) (h3 : v ≤ 3) : Runs c s (fun t =>
      Answers t [] ∧ t.tables.lpmOp = v ∧ lpmBusy t = true ∧ Frame [K.lpmStatus] [.chans, .staging, .tables] s t) :=
  runs_answered hx hg (lpmOpEff_takes hb hh h1 h3) fun _ => ⟨rfl, rfl, lpmBusy_lpmTaken, .answered (by decide) (lpmTaken_frame.mono (by simp) (by simp))⟩

/-! It completes (R128, R129). -/

/-- What LPM_PREFIX and LPM_KEY name: the first `len` bits of an address `a` of its family. -/
def LpmNamed (s : State) (v6 : Bool) (len a : Nat) : Prop :=
  bit (rd s K.lpmPrefix) 8 = v6 ∧ bits (rd s K.lpmPrefix) 7 0 = len ∧ Nat.min len (lpmBits v6) = len ∧
    (if v6 then rd s K.lpmKey else rd s K.lpmKey / 2 ^ 96) = a

theorem LpmNamed.of_operands (hp : rd s K.lpmPrefix = b2n v6 * 256 + len) (hl : len ≤ lpmBits v6)
    (hk : rd s K.lpmKey = (if v6 then a else a * 2 ^ 96)) : LpmNamed s v6 len a := by
  have hlen : len < 256 := by cases v6 <;> simp [lpmBits] at hl <;> omega
  refine ⟨?_, ?_, Nat.min_eq_left hl, ?_⟩
  · rw [hp]
    cases v6 <;> simp [bit, b2n] <;> omega
  · rw [hp]
    cases v6 <;> simp [bits, b2n] <;> omega
  · rw [hk]
    cases v6 <;> simp

theorem exec_lpmOpDone (h : s.tables.lpmOp ≠ 0) : exec .lpmOpDone s = done s (lpmPerform s) := congrArg (done s) (if_neg h)

theorem lpmAnswer_leaves : (lpmAnswer s st e).tables.lpmOp = 0 ∧ rd (lpmAnswer s st e) K.lpmStatus = st * 2 ^ 28 + e ∧
    (lpmAnswer s st e).tables.lpm = s.tables.lpm ∧ Frame [K.lpmUsed, K.lpmStatus] [.tables] s (lpmAnswer s st e) :=
  ⟨rfl, rd_wr_same .., rfl, .wr (by simp) (.set_tables (by decide) (.wr (by simp) .refl))⟩

/-- The state that an insert leaves of what stands: it has its new result. -/
def lpmReplaced (s : State) (v6 : Bool) (e : Nat) : State :=
  setLpm s (e + b2n v6) (lset (lpmEntry s (e + b2n v6)) 3 (rd s K.lpmResult))

/-- The state that a delete leaves: the slots are free. -/
def lpmErased (s : State) (v6 : Bool) (e : Nat) : State :=
  let s := setLpm s e [0, 0, 0, 0]
  if v6 then setLpm s (e + 1) [0, 0, 0, 0] else s

/-- The free places of both buckets. -/
abbrev lpmRoomOf (s : State) (v6 : Bool) (len a : Nat) : List Nat :=
  lpmRoom s v6 (lpmCand 0 v6 len (lpmMask v6 len a)) (lpmCand 1 v6 len (lpmMask v6 len a))

theorem lpmPerform_finds (hn : LpmNamed s v6 len a) (ho : s.tables.lpmOp = 3) (he : lpmEnabled s v6 len = true)
    (hp : lpmPlace s v6 len (lpmMask v6 len a) = some e) : lpmPerform s = lpmAnswer s 1 e := by
  obtain ⟨h6, hlen, hmin, haddr⟩ := hn
  simp only [lpmPerform, h6, hlen, hmin, haddr, ho, he, hp, if_true]

theorem lpmPerform_replaces (hn : LpmNamed s v6 len a) (ho : s.tables.lpmOp = 1) (he : lpmEnabled s v6 len = true)
    (hp : lpmPlace s v6 len (lpmMask v6 len a) = some e) : lpmPerform s = lpmAnswer (lpmReplaced s v6 e) 2 e := by
  obtain ⟨h6, hlen, hmin, haddr⟩ := hn
  simp only [lpmPerform, h6, hlen, hmin, haddr, ho, he, hp, lpmReplaced]
  cases v6 <;> rfl

theorem lpmPerform_deletes (hn : LpmNamed s v6 len a) (ho : s.tables.lpmOp = 2) (he : lpmEnabled s v6 len = true)
    (hp : lpmPlace s v6 len (lpmMask v6 len a) = some e) : lpmPerform s = lpmAnswer (lpmErased s v6 e) 1 e := by
  obtain ⟨h6, hlen, hmin, haddr⟩ := hn
  simp only [lpmPerform, h6, hlen, hmin, haddr, ho, he, hp, if_true, lpmErased]

/-- The place an insert takes is one of those that are free. -/
theorem lpmPerform_inserts (hn : LpmNamed s v6 len a) (ho : s.tables.lpmOp = 1) (he : lpmEnabled s v6 len = true)
    (hp : lpmPlace s v6 len (lpmMask v6 len a) = none) (hr : lpmRoomOf s v6 len a ≠ []) :
    ∃ e ∈ lpmRoomOf s v6 len a, lpmPerform s = lpmAnswer (lpmWrite s v6 len (lpmMask v6 len a) (rd s K.lpmResult) e) 1 e := by
  obtain ⟨h6, hlen, hmin, haddr⟩ := hn
  let i := (Config.free 2 (lpmMask v6 len a)).toNat % (lpmRoomOf s v6 len a).length
  have hi : i < (lpmRoomOf s v6 len a).length := Nat.mod_lt _ (List.length_pos_iff.mpr hr)
  have hempty : (lpmRoomOf s v6 len a).isEmpty = false := by simpa using hr
  refine ⟨nth (lpmRoomOf s v6 len a) i, ?_, ?_⟩
  · rw [nth, List.getD_eq_getElem _ _ hi]
    exact List.getElem_mem _
  · simp only [lpmPerform, h6, hlen, hmin, haddr, ho, he, hp, if_true, hempty, Bool.not_true, Bool.false_eq_true, if_false, i]

/-- A disabled length is not looked for. -/
theorem lpmPerform_misses (hn : LpmNamed s v6 len a) (ho : s.tables.lpmOp = 2 ∨ s.tables.lpmOp = 3)
    (hp : lpmPlace s v6 len (lpmMask v6 len a) = none) : lpmPerform s = lpmAnswer s 3 0 := by
  obtain ⟨h6, hlen, hmin, haddr⟩ := hn
  obtain ho | ho := ho <;> simp only [lpmPerform, h6, hlen, hmin, haddr, ho, hp, ite_self]

theorem lpmPerform_refuses (ho : s.tables.lpmOp = 1)
    (he : lpmEnabled s (bit (rd s K.lpmPrefix) 8) (bits (rd s K.lpmPrefix) 7 0) = false) : lpmPerform s = lpmAnswer s 5 0 := by
  simp [lpmPerform, ho, he]

theorem lpmResultAt_lpmReplaced (hl : (lpmEntry s (e + b2n v6)).length = 4) : lpmResultAt (lpmReplaced s v6 e) v6 e = rd s K.lpmResult := by
  have hne : lset (lpmEntry s (e + b2n v6)) 3 (rd s K.lpmResult) ≠ [] := by
    rw [lset, ne_eq, List.set_eq_nil_iff, ← List.length_eq_zero_iff]
    omega
  rw [lpmResultAt_eq, lpmReplaced, lpmEntry_setLpm_same hne, nth, lset, List.getD_eq_getElem _ _ (by simp [hl]), List.getElem_set_self]

theorem lpmEntry_lpmErased : lpmEntry (lpmErased s v6 e) e = [0, 0, 0, 0] := by
  have herased : lpmEntry (setLpm s e [0, 0, 0, 0]) e = [0, 0, 0, 0] := lpmEntry_setLpm_same (by simp)
  cases v6
  · exact herased
  · exact (lpmEntry_setLpm_ne (by omega)).trans herased

theorem lpmErased_frame : Frame [] [.tables] s (lpmErased s v6 e) := by
  have herased : Frame [] [.tables] s (setLpm s e [0, 0, 0, 0]) := .setLpm (by decide) .refl
  exact .ite (fun _ => herased.setLpm (by decide)) (fun _ => herased)

theorem lpmWrite_frame {k res : Nat} : Frame [] [.tables] s (lpmWrite s v6 len k res e) :=
  .ite (fun _ => .setLpm (by decide) (.setLpm (by decide) .refl)) (fun _ => .setLpm (by decide) .refl)

/-- An operation that ends in an answer leaves what that answer leaves of the state `u` it made of the table. -/
theorem runs_lpmAnswer (ho : s.tables.lpmOp ≠ 0) (hx : lpmPerform s = lpmAnswer u st e) (hu : Frame [] [.tables] s u) :
    Runs .lpmOpDone s (fun t => t.tables.lpmOp = 0 ∧ rd t K.lpmStatus = st * 2 ^ 28 + e ∧ t.tables.lpm = u.tables.lpm ∧
      Frame [K.lpmUsed, K.lpmStatus] [.tables] s t) := by
  obtain ⟨hop, hstatus, hlpm, hframe⟩ := lpmAnswer_leaves (s := u) (st := st) (e := e)
  exact runs_done ((exec_lpmOpDone ho).trans (congrArg (done s) hx))
    ⟨hop, hstatus, hlpm, ((hu.mono (by simp) (by simp)).trans hframe).settled⟩

/-- Settles O16, clause by clause: the three operations taken, and each of their outcomes. -/
theorem lpmTable : Obligations.LpmTable := by
  refine ⟨?_, ?_, ?_, ?_, ?_, ?_, ?_, ?_, ?_⟩
  · exact fun r s hb hh hg => runs_lpmTaken rfl hg hb hh (by decide) (by decide)
  · exact fun r s hb hh hg => runs_lpmTaken rfl hg hb hh (by decide) (by decide)
  · exact fun r s hb hh hg => runs_lpmTaken rfl hg hb hh (by decide) (by decide)
  · intro v6 len a e s ho hp hl hk he hat
    refine (runs_lpmAnswer (by rw [ho]; decide) (lpmPerform_finds (LpmNamed.of_operands hp hl hk) ho he hat) .refl).mono fun t ⟨hop, hst, hlpm, hf⟩ => ?_
    exact ⟨hop, by rw [hst, Nat.one_mul], hlpm, hf⟩
  · intro v6 len a e s ho hp hl hk he hat h4
    refine (runs_lpmAnswer (by rw [ho]; decide) (lpmPerform_replaces (LpmNamed.of_operands hp hl hk) ho he hat) (.setLpm (by decide) .refl)).mono
      fun t ⟨hop, hst, hlpm, hf⟩ => ⟨hop, hst, ?_, hf⟩
    rw [lpmResultAt_eq, lpmEntry_congr hlpm, ← lpmResultAt_eq, lpmResultAt_lpmReplaced h4]
  · intro v6 len a e s ho hp hl hk he hat
    refine (runs_lpmAnswer (by rw [ho]; decide) (lpmPerform_deletes (LpmNamed.of_operands hp hl hk) ho he hat) lpmErased_frame).mono
      fun t ⟨hop, hst, hlpm, hf⟩ => ⟨hop, by rw [hst, Nat.one_mul], ?_, hf⟩
    rw [lpmEntry_congr hlpm, lpmEntry_lpmErased]
  · intro v6 len a s ho hp hl hk he hat hr
    obtain ⟨e, hmem, hx⟩ := lpmPerform_inserts (LpmNamed.of_operands hp hl hk) ho he hat hr
    refine (runs_lpmAnswer (by rw [ho]; decide) hx lpmWrite_frame).mono fun t ⟨hop, hst, hlpm, hf⟩ => ?_
    exact ⟨hop, hf, e, hmem, by rw [hst, Nat.one_mul], hlpm⟩
  · intro v6 len a s ho hp hl hk hat
    have h0 : s.tables.lpmOp ≠ 0 := by omega
    exact (runs_lpmAnswer h0 (lpmPerform_misses (LpmNamed.of_operands hp hl hk) ho hat) .refl).mono
      fun t ⟨hop, hst, hlpm, hf⟩ => ⟨hop, hst.trans (Nat.add_zero _), hlpm, hf⟩
  · intro s ho he
    exact (runs_lpmAnswer (by rw [ho]; decide) (lpmPerform_refuses ho he) .refl).mono
      fun t ⟨hop, hst, hlpm, hf⟩ => ⟨hop, hst.trans (Nat.add_zero _), hlpm, hf⟩

end
end Sys2Proof.Machine

/-! A lookup that meets words of bad parity (R135): what it counts, raises and answers. -/

namespace Sys2Proof.Machine

section
variable {s t u : State} {j q e : Nat} {inb sl cut : Bool} {b : List Byte} {p : Parsed} {l : List (Nat × Nat)}

theorem Counts.trans {k m n : Nat} (h : Counts s t k m) (h' : Counts t u k n) : Counts s u k (m + n) := by
  rw [Counts, h', h, Nat.mod_add_mod, Nat.add_assoc]

theorem rd_setLearn {i n k : Nat} {x : Option LearnEnt} (h : K.learnUsed i ≠ k) : rd (setLearn s i n x) k = rd s k := rd_wr_ne _ _ h

theorem parityHit_leaves {i : Nat} (hj : j < 8) :
    Counts s (parityHit s j i e) (K.tableParity j) 1 ∧ Pending (parityHit s j i e) Ev.tableParityErr := by
  have hkey : eventKey (K.tableParity j) = false := eventKey_of_page (by simp only [K.tableParity]; omega)
  have hcount : Counts s (raise (inc s (K.tableParity j) 1) Ev.tableParityErr i e) (K.tableParity j) 1 :=
    (Counts.of_inc rfl).of_rd (rd_raise _ _ _ _ _ (by decide) hkey)
  have hraised : Pending (raise (inc s (K.tableParity j) 1) Ev.tableParityErr i e) Ev.tableParityErr :=
    raise_sets_pending _ _ _ _ (by decide)
  unfold parityHit
  dsimp only
  split
  · have hcounter : K.learnUsed (i - 9) ≠ K.tableParity j := by simp only [K.learnUsed, K.tableParity]; omega
    have hword : K.learnUsed (i - 9) ≠ K.evtPending (Ev.tableParityErr / 32) := by simp only [K.learnUsed, K.evtPending]; omega
    exact ⟨hcount.of_rd (rd_setLearn hcounter), (congrArg (bit · _) (rd_setLearn hword)).trans hraised⟩
  · exact ⟨hcount, hraised⟩

theorem parityHits_leave (hj : j < 8) (hl : l ≠ []) :
    Counts s (l.foldl (fun s x => parityHit s j x.1 x.2) s) (K.tableParity j) l.length ∧
      Pending (l.foldl (fun s x => parityHit s j x.1 x.2) s) Ev.tableParityErr := by
  induction l generalizing s with
  | nil => exact absurd rfl hl
  | cons x l ih =>
    have hfirst := parityHit_leaves (s := s) (i := x.1) (e := x.2) hj
    obtain rfl | hne := eq_or_ne l []
    · exact hfirst
    · obtain ⟨hcount, hraised⟩ := ih (s := parityHit s j x.1 x.2) hne
      exact ⟨by simpa [Nat.add_comm] using hfirst.1.trans hcount, hraised⟩

theorem classify_badParity (h : parityFound s j inb p (macKey p (fieldBE b 0 6)) = l) (hl : l ≠ []) :
    classify s j inb q b p sl cut = (l.foldl (fun s x => parityHit s j x.1 x.2) s, none) := by
  obtain ⟨x, l', rfl⟩ := List.exists_cons_of_ne_nil hl
  simp only [classify, h]

end
end Sys2Proof.Machine

/-! A frame from the host (R18, R113–R119, R321): its counts and its cells, and where its result sends it. -/

namespace Sys2Proof.Machine

section
variable {ks : List Nat} {ps : List Part} {s t u s2 : State} {q k n j r res : Nat} {bytes par l : List Nat} {b : List Byte}
  {p : Parsed} {sl cut : Bool} {ecc : List EccHit} {a : OutArr} {f : SlowFrm} {fs : List SlowFrm}

/-! Cells (R321). -/

theorem Frame.spoil (hp : Part.tables ∈ ps) (h : Frame ks ps s u) : Frame ks ps s (spoil u l) := by
  cases l
  · exact h
  · exact h.set_tables hp

theorem cellsTake_frame : Frame [K.bufUsed k, K.bufHigh k] [] s (cellsTake s k n) :=
  .ite (fun _ => .wr (by simp) (.wr (by simp) .refl)) (fun _ => .wr (by simp) .refl)

theorem rd_cellsTake : rd (cellsTake s k n) (K.bufUsed k) = rd s (K.bufUsed k) + n := by
  have hne : K.bufHigh k ≠ K.bufUsed k := by simp only [K.bufHigh, K.bufUsed]; omega
  unfold cellsTake
  dsimp only
  split
  · rw [rd_wr_ne _ _ hne, rd_wr_same]
  · exact rd_wr_same ..

theorem outDrop_frame : Frame [K.outDropped q, K.bufUsed (q / 8)] [] s (outDrop s q n) := .wr (by simp) (.inc (by simp) .refl)

theorem outDrop_reads : Counts s (outDrop s q n) (K.outDropped q) 1 ∧
    rd (outDrop s q n) (K.bufUsed (q / 8)) = rd s (K.bufUsed (q / 8)) - n := by
  have hne : K.outDropped q ≠ K.bufUsed (q / 8) := by simp only [K.outDropped, K.bufUsed]; omega
  refine ⟨(Counts.of_inc rfl).of_rd (rd_wr_ne _ _ hne.symm), ?_⟩
  rw [outDrop, cellsFree, rd_wr_same, rd_inc_ne _ _ hne]

/-- A frame without a usable channel, counted and dropped. -/
theorem outMissed_leaves : Counts s (outDrop (inc s (K.scMiss (q / 8)) 1) q n) (K.scMiss (q / 8)) 1 ∧
    Counts s (outDrop (inc s (K.scMiss (q / 8)) 1) q n) (K.outDropped q) 1 ∧
    Frame [K.scMiss (q / 8), K.outDropped q, K.bufUsed (q / 8)] [] s (outDrop (inc s (K.scMiss (q / 8)) 1) q n) := by
  have hkept : K.scMiss (q / 8) ∉ [K.outDropped q, K.bufUsed (q / 8)] := by
    simp only [List.mem_cons, List.not_mem_nil, or_false, K.scMiss, K.outDropped, K.bufUsed]
    omega
  have hother : K.scMiss (q / 8) ≠ K.outDropped q := fun h => hkept (by simp [h])
  exact ⟨(Counts.of_inc rfl).of_rd (outDrop_frame.1 _ hkept), outDrop_reads.1.since (rd_inc_ne _ _ hother),
    (Frame.inc (by simp) .refl).trans (outDrop_frame.mono (by simp) (by simp))⟩

/-! What a result does. -/

/-- The state after the lookups that a result asks for (R159). -/
def resLooked (s : State) (res : Nat) (ecc : List EccHit) : State :=
  if resAction res = Act.secure then lookupHits s (resSc res) (scAt s (resSc res)).cur ecc else s

/-- Where the PTP header of a frame stands on a port that handles PTP. -/
def outPtp (s : State) (q : Nat) (b : List Byte) (p : Parsed) : Option Nat :=
  if ptpMode s q = 0 then none else (ptpFind b p).map (·.1)

/-- The frame with its result, as it waits for admission or, in deterministic mode, for its announcement. -/
def outFrm (s : State) (q : Nat) (b : List Byte) (p : Parsed) (res : Nat) (a : OutArr) : Frm :=
  ⟨q, b, res, p.tags.length, if a.det then 3 else 0, 0, cellsOf b.length, a.clk,
    if a.det then a.clk + 74 else Nat.max (a.clk + 72) s.tick.clock, 0, outPtp s q b p,
    (outPtp s q b p).bind (fun o => ptpBase s (byteAt b (o + 4))), a.ing⟩

/-- The state with the frame among those of its port. -/
def outJoined (s : State) (q : Nat) (x : Frm) : State := setOutQ s q (outQ s q ++ [x])

theorem runs_outJoined {c : Instr} {x : Frm} (h : exec c s = done s (outJoined u q x)) :
    Runs c s (fun t => outQ t q = outQ u q ++ [x] ∧ Frame [] [.datapath] u t) :=
  runs_done h ⟨outQ_setOutQ_same .., Frame.settled (.set_dp (by decide) .refl)⟩

theorem outResolved_joins (h : resAction res = Act.bypass ∨ resAction res = Act.secure ∧ scOut (resLooked s res a.ecc) (resSc res) = true) :
    outResolved s q b p res a = outJoined (resLooked s res a.ecc) q (outFrm (resLooked s res a.ecc) q b p res a) := by
  have hdrop : resAction res ≠ Act.drop := by
    obtain h | ⟨h, -⟩ := h <;> rw [h] <;> decide
  have husable : (decide (resAction res = Act.secure) && !scOut (resLooked s res a.ecc) (resSc res)) ≠ true := by
    obtain h | ⟨-, h⟩ := h
    · simp [h, Act.bypass, Act.secure]
    · simp [h]
  exact (if_neg hdrop).trans (if_neg husable)

theorem outResolved_drops (h : resAction res = Act.drop) : outResolved s q b p res a = outDrop s q (cellsOf b.length) := by
  have hlooked : resLooked s res a.ecc = s := if_neg (by rw [h]; decide)
  exact (if_pos h).trans (congrArg (outDrop · q (cellsOf b.length)) hlooked)

theorem outResolved_misses (h : resAction res = Act.secure) (ho : scOut (resLooked s res a.ecc) (resSc res) = false) :
    outResolved s q b p res a = outDrop (inc (resLooked s res a.ecc) (K.scMiss (q / 8)) 1) q (cellsOf b.length) :=
  (if_neg (by rw [h]; decide)).trans (if_pos (Bool.and_eq_true_iff.mpr ⟨decide_eq_true h, congrArg not ho⟩))

theorem outClassify_some (h : classify s (q / 8) false q b p sl cut = (s2, some res)) :
    outClassify s q b p sl cut a = outResolved s2 q b p res a := by simp only [outClassify, h]

/-! A frame at the pins. -/

/-- A frame of good FCS is counted and holds its cells. -/
def hostTaken (s : State) (q : Nat) (par : List Nat) (b : List Byte) : State :=
  cellsTake (inc (inc (spoil s par) (K.outHostFrames q) 1) (K.outHostOctets q) (b.length + 4)) (q / 8) (cellsOf b.length)

/-- One that is malformed and cannot be classified is counted under its reason and dropped. -/
def hostMalformed (s : State) (q : Nat) (par : List Nat) (b : List Byte) (r : Nat) : State :=
  outDrop (malfCount (hostTaken s q par b) (q / 8) r) q (cellsOf b.length)

/-- What a frame brings to the end of its classification. -/
def hostArr (s : State) (q : Nat) (ecc : List EccHit) : OutArr := ⟨s.tick.clock, detEn s q, tbsNow s, ecc⟩

theorem exec_hostFrameRx_down {ok : Bool} (h : rxUp s q .host = false) : exec (.hostFrameRx q bytes ok par ecc) s = done s s :=
  congrArg (done s) (if_pos (by simp [h]))

theorem exec_hostFrameRx_malformed (hq : isPort s q = true) (hu : rxUp s q .host = true) (hb : bytes.map (· % 256) = b)
    (hm : malformed b true 10240 (parseFast b) = some r) (hr : r < 3) : exec (.hostFrameRx q bytes true par ecc) s =
      done s (hostMalformed s q par b r) := by
  subst hb
  refine congrArg (done s) ((if_neg (by simp [hq, hu])).trans ?_)
  simp only [hm, if_pos hr, outFront, if_true, hostMalformed, hostTaken]

theorem exec_hostFrameRx_classified (hq : isPort s q = true) (hu : rxUp s q .host = true) (hb : bytes.map (· % 256) = b)
    (hm : malformed b true 10240 (parseFast b) = none)
    (hf : frontFast (hostTaken s q par b) (q / 8) (detEn (hostTaken s q par b) q) b (parseFast b) = .go p sl cut)
    (hc : classify (hostTaken s q par b) (q / 8) false q b p sl cut = (s2, some res)) :
    exec (.hostFrameRx q bytes true par ecc) s = done s (outResolved s2 q b p res (hostArr (hostTaken s q par b) q ecc)) := by
  subst hb
  refine congrArg (done s) ((if_neg (by simp [hq, hu])).trans ?_)
  rw [hostTaken] at hf hc
  simp only [hm, hf, if_true, outFront, outClassify_some hc, hostTaken, hostArr]

theorem hostKeys_distinct (hq : q < 32) (hr : r < 3) :
    K.outHostOctets q ≠ K.outHostFrames q ∧ K.outHostFrames q ∉ [K.bufUsed (q / 8), K.bufHigh (q / 8), K.malfCount (q / 8) r, K.outDropped q] ∧
      K.outHostOctets q ∉ [K.bufUsed (q / 8), K.bufHigh (q / 8), K.malfCount (q / 8) r, K.outDropped q] ∧
      K.malfCount (q / 8) r ∉ [K.outHostFrames q, K.outHostOctets q, K.bufUsed (q / 8), K.bufHigh (q / 8)] ∧
      K.malfCount (q / 8) r ∉ [K.outDropped q, K.bufUsed (q / 8)] ∧
      K.outDropped q ∉ [K.outHostFrames q, K.outHostOctets q, K.bufUsed (q / 8), K.bufHigh (q / 8), K.malfCount (q / 8) r] ∧
      K.bufUsed (q / 8) ∉ [K.outHostFrames q, K.outHostOctets q] ∧ K.bufUsed (q / 8) ∉ [K.malfCount (q / 8) r] := by
  simp only [List.mem_cons, List.not_mem_nil, or_false, K.outHostOctets, K.outHostFrames, K.bufUsed, K.bufHigh, K.malfCount, K.outDropped]
  omega

/-- A malformed frame leaves its counts alone, its cells free again. -/
theorem hostMalformed_leaves (hq : q < 32) (hr : r < 3) : Counts s (hostMalformed s q par b r) (K.outHostFrames q) 1 ∧
    Counts s (hostMalformed s q par b r) (K.outHostOctets q) (b.length + 4) ∧
    Counts s (hostMalformed s q par b r) (K.malfCount (q / 8) r) 1 ∧ Counts s (hostMalformed s q par b r) (K.outDropped q) 1 ∧
    rd (hostMalformed s q par b r) (K.bufUsed (q / 8)) = rd s (K.bufUsed (q / 8)) ∧
    Frame [K.outHostFrames q, K.outHostOctets q, K.malfCount (q / 8) r, K.outDropped q, K.bufUsed (q / 8), K.bufHigh (q / 8)]
      [.tables] s (hostMalformed s q par b r) := by
  let v := inc (spoil s par) (K.outHostFrames q) 1
  let u := inc v (K.outHostOctets q) (b.length + 4)
  let m := malfCount (hostTaken s q par b) (q / 8) r
  have hspoil : Frame [] [.tables] s (spoil s par) := .spoil (by decide) .refl
  have hv : Frame [K.outHostFrames q] [.tables] s v := .inc (by simp) (.spoil (by decide) .refl)
  have hu : Frame [K.outHostFrames q, K.outHostOctets q] [.tables] s u := .inc (by simp) (hv.mono (by simp) (by simp))
  have htake : Frame [K.outHostFrames q, K.outHostOctets q, K.bufUsed (q / 8), K.bufHigh (q / 8)] [.tables] s (hostTaken s q par b) :=
    (hu.mono (by simp) (by simp)).trans (cellsTake_frame.mono (by simp) (by simp))
  have hmalf : Frame [K.malfCount (q / 8) r] [] (hostTaken s q par b) m := .inc (by simp) .refl
  have hm : Frame [K.outHostFrames q, K.outHostOctets q, K.bufUsed (q / 8), K.bufHigh (q / 8), K.malfCount (q / 8) r] [.tables] s m :=
    (htake.mono (by simp) (by simp)).trans (hmalf.mono (by simp) (by simp))
  have hdrop : Frame [K.outDropped q, K.bufUsed (q / 8)] [] m (hostMalformed s q par b r) := outDrop_frame
  have hrest : Frame [K.bufUsed (q / 8), K.bufHigh (q / 8), K.malfCount (q / 8) r, K.outDropped q] [] u (hostMalformed s q par b r) :=
    ((cellsTake_frame.mono (by simp) (by simp)).trans (hmalf.mono (by simp) (by simp))).trans (hdrop.mono (by simp) (by simp))
  obtain ⟨hdropped, hfreed⟩ := outDrop_reads (s := m) (q := q) (n := cellsOf b.length)
  obtain ⟨hof, hframes, hoctets, hmbefore, hmafter, hdbefore, hused, husedM⟩ := hostKeys_distinct hq hr
  refine ⟨?_, ?_, ?_, ?_, ?_, ?_⟩
  · exact (Counts.of_inc (hspoil.1 _ (by simp))).of_rd ((hrest.1 _ hframes).trans (rd_inc_ne _ _ hof))
  · exact (Counts.of_inc (hv.1 _ (by simpa using hof))).of_rd (hrest.1 _ hoctets)
  · exact (Counts.of_inc (htake.1 _ hmbefore)).of_rd (hdrop.1 _ hmafter)
  · exact hdropped.since (hm.1 _ hdbefore)
  · rw [hostMalformed, hfreed, hmalf.1 _ husedM, hostTaken, rd_cellsTake, hu.1 _ hused, Nat.add_sub_cancel]
  · exact (hm.mono (by simp) (by simp)).trans (hdrop.mono (by simp) (by simp))

/-! A frame of the slow path (R114, R115). -/

/-- The oldest frame of slice `j` leaves the slow path, `fs` behind it. -/
def slowTaken (s : State) (j : Nat) (fs : List SlowFrm) : State := perfAdd (inc (setSlowQ s j fs) (K.slowFrames j) 1) (192 + j) 1

/-- What it brings with it, by its direction. -/
def slowOutArr (f : SlowFrm) : OutArr := ⟨f.clk, false, f.ing, f.ecc⟩
def slowInArr (s : State) (f : SlowFrm) : InArr := ⟨s.tick.clock - 64, false, f.fcsOk, f.overl, f.ing, f.ecc⟩

/-- A well-formed frame goes on with what the slow parser found. -/
theorem exec_slowPathDone (hs : slowQ s j = f :: fs) (hm : hdrReason f.bytes (parseSlow f.bytes) = none) : exec (.slowPathDone j) s =
    done s (let fr := Front.go (parseSlow f.bytes) (parseSlow f.bytes).overl false
      if f.inb then inFront (slowTaken s j fs) f.q f.bytes fr (slowInArr (slowTaken s j fs) f)
      else outFront (slowTaken s j fs) f.q f.bytes fr (slowOutArr f)) := by
  change execSlowPathDone j s = _
  simp only [execSlowPathDone, hs, hm, frontSlow]
  rfl

theorem exec_slowPathDone_out (hs : slowQ s j = f :: fs) (hi : f.inb = false) (hm : hdrReason f.bytes (parseSlow f.bytes) = none)
    (hc : classify (slowTaken s j fs) (f.q / 8) false f.q f.bytes (parseSlow f.bytes) (parseSlow f.bytes).overl false = (s2, some res)) :
    exec (.slowPathDone j) s = done s (outResolved s2 f.q f.bytes (parseSlow f.bytes) res (slowOutArr f)) := by
  simp only [exec_slowPathDone hs hm, hi, Bool.false_eq_true, if_false, outFront, outClassify_some hc]

end
end Sys2Proof.Machine

/-! A frame that joins the inbound frames of its port (R119, R172). -/

namespace Sys2Proof.Machine

section
variable {s t u s2 : State} {q j res : Nat} {b : List Byte} {p : Parsed} {sl cut : Bool} {a : InArr} {x : InFrm} {f : SlowFrm}
  {fs : List SlowFrm}

theorem inPush_leaves : inQ (inPush s x) x.q = inQ s x.q ++ [x] ∧ Frame [] [.datapath] s (inPush s x) := by
  have hq : inQ (setInQ s x.q (inQ s x.q ++ [x])) x.q = inQ s x.q ++ [x] := inQ_setInQ_same ..
  have hset : Frame [] [.datapath] s (setInQ s x.q (inQ s x.q ++ [x])) := .set_dp (by decide) .refl
  unfold inPush
  dsimp only
  split
  · exact ⟨hq, hset.set_dp (by decide)⟩
  · exact ⟨hq, hset⟩

theorem runs_inPush {c : Instr} (h : exec c s = done s (inPush u x)) (hq : x.q = q) :
    Runs c s (fun t => inQ t q = inQ u q ++ [x] ∧ Frame [] [.datapath] u t) := by
  subst hq
  obtain ⟨hin, hframe⟩ := inPush_leaves (s := u) (x := x)
  exact runs_done h ⟨hin, hframe.settled⟩

theorem inFront_classified (hp : inPasses s q = true) (hc : classify s (ibOf q) true q b p sl cut = (s2, some res)) :
    inFront s q b (.go p sl cut) a = inResolved s2 q b p res a := by
  simp only [inFront, hp, Bool.not_true, Bool.false_eq_true, if_false, hc]

theorem inResolved_bypass (h : resAction res = Act.bypass) : inResolved s q b p res a = inPush s (inFrm0 s q b p res a) := if_pos h

theorem exec_slowPathDone_in (hs : slowQ s j = f :: fs) (hi : f.inb = true) (hm : hdrReason f.bytes (parseSlow f.bytes) = none)
    (hp : inPasses (slowTaken s j fs) f.q = true)
    (hc : classify (slowTaken s j fs) (ibOf f.q) true f.q f.bytes (parseSlow f.bytes) (parseSlow f.bytes).overl false = (s2, some res)) :
    exec (.slowPathDone j) s = done s (inResolved s2 f.q f.bytes (parseSlow f.bytes) res (slowInArr (slowTaken s j fs) f)) := by
  simp only [exec_slowPathDone hs hm, hi, if_true, inFront_classified hp hc]

/-- Settles O25, clause by clause: a frame at the pins by what its parser and its result say, the slow path in both directions, and
words of bad parity. -/
theorem hostFrames : Obligations.HostFrames := by
  refine ⟨?_, ?_, ?_, ?_, ?_, ?_, ?_, ?_⟩
  · intro q bytes ok par ecc s hu
    exact runs_done (exec_hostFrameRx_down hu) ⟨rfl, Frame.settled .refl⟩
  · intro q bytes b r par ecc s hq hport hu hb hm hr
    obtain ⟨hframes, hoctets, hmalf, hdropped, hcells, hframe⟩ := hostMalformed_leaves (s := s) (par := par) (b := b) hq hr
    exact runs_done (exec_hostFrameRx_malformed hport hu hb hm hr)
      ⟨hframes.settled, hoctets.settled, hmalf.settled, hdropped.settled, hcells, hframe.settled⟩
  · intro q bytes b p sl cut res ptp par ecc s s1 s2 s3 hport hu hb hm hs1 hf hc hs3 hres hptp
    obtain rfl : s1 = hostTaken s q par b := hs1
    obtain rfl : s3 = resLooked s2 res ecc := hs3
    subst hptp
    have hx := exec_hostFrameRx_classified (ecc := ecc) hport hu hb hm hf hc
    rw [outResolved_joins (a := hostArr (hostTaken s q par b) q ecc) hres] at hx
    exact runs_outJoined hx
  · intro q bytes b p sl cut res par ecc s s1 s2 s3 _ hport hu hb hm hs1 hf hc hres hs3 hno
    obtain rfl : s1 = hostTaken s q par b := hs1
    obtain rfl : s3 = resLooked s2 res ecc := hs3.trans (if_pos hres).symm
    have hx := exec_hostFrameRx_classified (ecc := ecc) hport hu hb hm hf hc
    rw [outResolved_misses (a := hostArr (hostTaken s q par b) q ecc) hres hno] at hx
    obtain ⟨hmissed, hdropped, hframe⟩ := outMissed_leaves (s := resLooked s2 res ecc) (n := cellsOf b.length)
    exact runs_done hx ⟨hmissed.settled, hdropped.settled, hframe.settled⟩
  · intro q bytes b p sl cut res par ecc s s1 s2 _ hport hu hb hm hs1 hf hc hres
    obtain rfl : s1 = hostTaken s q par b := hs1
    have hx := exec_hostFrameRx_classified (ecc := ecc) hport hu hb hm hf hc
    rw [outResolved_drops hres] at hx
    exact runs_done hx ⟨outDrop_reads.1.settled, outDrop_frame.settled⟩
  · intro j f fs res ptp s s1 s2 s3 hs hi hm hs1 hc hs3 hres hptp
    obtain rfl : s1 = slowTaken s j fs := hs1
    obtain rfl : s3 = resLooked s2 res f.ecc := hs3
    subst hptp
    have hx := exec_slowPathDone_out hs hi hm hc
    rw [outResolved_joins (a := slowOutArr f) hres] at hx
    exact runs_outJoined hx
  · rintro j f fs res s s1 s2 hs hi hm rfl hp hc hres
    have hx := exec_slowPathDone_in hs hi hm hp hc
    rw [inResolved_bypass hres] at hx
    exact runs_inPush hx rfl
  · intro s j inb q b p sl cut l hj hl hne
    obtain ⟨hcount, hraised⟩ := parityHits_leave (s := s) hj hne
    rw [classify_badParity hl hne]
    exact ⟨rfl, hcount, hraised⟩

end
end Sys2Proof.Machine

/-! A frame from the line (R57, R109–R120, R446): its counts, its result, and what the predictor says of it (R172). -/

namespace Sys2Proof.Machine

section
variable {s t u s0 s2 s3 s4 : State} {q j res sci idx h : Nat} {bytes par : List Nat} {b : List Byte} {p : Parsed} {sl cut ok : Bool}
  {ecc : List EccHit} {a : InArr} {x f : InFrm}

/-! What the receiver takes (R57). -/

theorem exec_lineFrameRx_down (h : rxUp s q .line = false) : exec (.lineFrameRx q bytes ok par ecc) s = done s s :=
  congrArg (done s) (if_pos (by simp [h]))

theorem exec_lineFrameRx_notSent (h : lineIn s q (bytes.map (· % 256)) ok = none) :
    exec (.lineFrameRx q bytes ok par ecc) s = done s s := by
  change execLineFrameRx q bytes ok par ecc s = _
  simp only [execLineFrameRx, h, ite_self]

theorem lineIn_frame (h : lineIn s q b ok = some s0) : Frame [] [.datapath] s s0 := by
  unfold lineIn at h
  split at h
  · cases h
    exact .refl
  · split at h
    · split at h
      · cases h
        exact .set_dp (by decide) .refl
      · cases h
    · cases h

/-- A frame that the receiver takes is counted. -/
def lineTaken (s : State) (q : Nat) (par : List Nat) (b : List Byte) : State :=
  perfAdd (inc (inc (spoil s par) (K.inLineFrames q) 1) (K.inLineOctets q) (b.length + 4)) (160 + q) (b.length + 4)

/-- What a frame of good FCS brings to the end of its classification. -/
def lineArr (s : State) (q : Nat) (b : List Byte) (ecc : List EccHit) : InArr :=
  ⟨s.tick.clock, detEn s q, true, decide (10272 < b.length + 4), tbsNow s, ecc⟩

/-- A frame that is no malformed one is no short one either. -/
theorem length_of_wellFormed {hi : Nat} (h : malformed b ok hi p = none) : ¬ b.length + 4 < 64 := by
  intro hs
  simp [malformed, hs] at h

theorem exec_lineFrameRx_blocked (hq : isPort s q = true) (hu : rxUp s q .line = true) (hb : bytes.map (· % 256) = b)
    (hm : malformed b true 10272 (parseFast b) = none) (hl : lineIn s q b true = some s0)
    (hp : inPasses (lineTaken s0 q par b) q = false) :
    exec (.lineFrameRx q bytes true par ecc) s = done s (inDrop (lineTaken s0 q par b) q) := by
  subst hb
  refine congrArg (done s) ((if_neg (by simp [hq, hu])).trans ?_)
  rw [lineTaken] at hp
  simp only [hl, hm, hp, Bool.not_false, Bool.or_true, if_true, lineTaken]

theorem exec_lineFrameRx_classified (hq : isPort s q = true) (hu : rxUp s q .line = true) (hb : bytes.map (· % 256) = b)
    (hm : malformed b true 10272 (parseFast b) = none) (hl : lineIn s q b true = some s0)
    (hp : inPasses (lineTaken s0 q par b) q = true)
    (hf : frontFast (lineTaken s0 q par b) (ibOf q) (detEn (lineTaken s0 q par b) q) b (parseFast b) = .go p sl cut)
    (hc : classify (lineTaken s0 q par b) (ibOf q) true q b p sl cut = (s2, some res)) :
    exec (.lineFrameRx q bytes true par ecc) s = done s (inResolved s2 q b p res (lineArr (lineTaken s0 q par b) q b ecc)) := by
  have hlen := length_of_wellFormed hm
  have hfront := inFront_classified (a := lineArr (lineTaken s0 q par b) q b ecc) hp hc
  subst hb
  refine congrArg (done s) ((if_neg (by simp [hq, hu])).trans ?_)
  rw [← hfront]
  rw [lineTaken] at hf hp
  simp only [hl, hm, hf, hp, hlen, decide_false, Bool.not_true, Bool.or_false, Bool.false_eq_true, if_false, lineTaken, lineArr]

/-- Where inbound frames do not pass, the frame is counted and dropped. -/
theorem lineBlocked_leaves (hf : Frame [] [.datapath] s s0) : Counts s (inDrop (lineTaken s0 q par b) q) (K.inLineFrames q) 1 ∧
    Counts s (inDrop (lineTaken s0 q par b) q) (K.inLineOctets q) (b.length + 4) ∧
    Counts s (inDrop (lineTaken s0 q par b) q) (K.inDropped q) 1 ∧
    Frame [K.inLineFrames q, K.inLineOctets q, K.inDropped q] [.perf, .tables, .datapath] s (inDrop (lineTaken s0 q par b) q) := by
  have hfo : K.inLineOctets q ≠ K.inLineFrames q := by simp only [K.inLineOctets, K.inLineFrames]; omega
  have hdf : K.inDropped q ≠ K.inLineFrames q := by simp only [K.inDropped, K.inLineFrames]; omega
  have hdo : K.inDropped q ≠ K.inLineOctets q := by simp only [K.inDropped, K.inLineOctets]; omega
  let v := inc (spoil s0 par) (K.inLineFrames q) 1
  have hspoil : Frame [] [.tables, .datapath] s (spoil s0 par) := .spoil (by decide) (hf.mono (by simp) (by simp))
  have hv : Frame [K.inLineFrames q] [.tables, .datapath] s v := .inc (by simp) (hspoil.mono (by simp) (by simp))
  have hu : Frame [K.inLineFrames q, K.inLineOctets q] [.tables, .datapath] s (inc v (K.inLineOctets q) (b.length + 4)) :=
    .inc (by simp) (hv.mono (by simp) (by simp))
  have htaken : Frame [K.inLineFrames q, K.inLineOctets q] [.perf, .tables, .datapath] s (lineTaken s0 q par b) :=
    .perfAdd (by decide) (hu.mono (by simp) (by simp))
  have hperf {k : Nat} : rd (lineTaken s0 q par b) k = rd (inc v (K.inLineOctets q) (b.length + 4)) k := rd_of_regs perfAdd_regs k
  refine ⟨?_, ?_, ?_, .inc (by simp) (htaken.mono (by simp) (by simp))⟩
  · exact (Counts.of_inc (hspoil.1 _ (by simp))).of_rd ((rd_inc_ne _ _ hdf).trans (hperf.trans (rd_inc_ne _ _ hfo)))
  · exact (Counts.of_inc (hv.1 _ (by simpa using hfo))).of_rd ((rd_inc_ne _ _ hdo).trans hperf)
  · exact Counts.of_inc (htaken.1 _ (by simp [hdf, hdo]))

/-! The predictor's decision (R172). -/

theorem setPred_frame {y : Pred} : Frame [] [.assoc] s (setPred s q y) := .set_assoc (by decide) .refl

theorem settleDue_frame {clk : Nat} : Frame [] [.assoc] s (settleDue s q clk) := by
  unfold settleDue
  dsimp only
  split
  · exact .ite (fun _ => setPred_frame) (fun _ => .refl)
  · exact .refl

/-- The entry of the frame's port is settled on its handle with the next number. -/
def Predicted (s : State) (f : InFrm) (h : Nat) : Prop :=
  (predAt s f.q).st = 2 ∧ (predAt s f.q).handle = h ∧ f.pnLo = ((predAt s f.q).pn + 1) % 2 ^ 32

theorem predict_hit (hp : Predicted (settleDue s f.q f.clk) f h) : predict s f (some h) =
    (setPred (settleDue s f.q f.clk) f.q
      { predAt (settleDue s f.q f.clk) f.q with pn := (predAt (settleDue s f.q f.clk) f.q).pn + 1 },
      { f with handle := some h, acc := saAccepts (settleDue s f.q f.clk) h, pn := (predAt (settleDue s f.q f.clk) f.q).pn + 1 }) :=
  if_pos hp

/-- A miss of handle `h` at port `f.q`, counted. -/
def predMissed (s : State) (f : InFrm) (h : Nat) : State :=
  perfAdd (perfAdd (inc s (K.predMiss f.q) 1) (44 + f.q / 8) 1) (256 + h % 32) 1

theorem predict_miss (hp : ¬ Predicted (settleDue s f.q f.clk) f h) : predict s f (some h) =
    (setPred (predMissed (settleDue s f.q f.clk) f h) f.q { predAt (settleDue s f.q f.clk) f.q with st := 1, handle := h },
      { f with handle := some h, acc := saAccepts (settleDue s f.q f.clk) h, hit := false, held := true }) :=
  if_neg hp

theorem predMissed_leaves : Counts s (predMissed s f h) (K.predMiss f.q) 1 ∧ Frame [K.predMiss f.q] [.perf] s (predMissed s f h) :=
  ⟨(Counts.of_inc rfl).of_rd ((rd_of_regs perfAdd_regs _).trans (rd_of_regs perfAdd_regs _)),
    .perfAdd (by decide) (.perfAdd (by decide) (.inc (by simp) .refl))⟩

theorem predict_q (o : Option Nat) : (predict s f o).2.q = f.q := by
  cases o with
  | none => rfl
  | some h =>
    by_cases hp : Predicted (settleDue s f.q f.clk) f h
    · rw [predict_hit hp]
    · rw [predict_miss hp]

/-! A secured frame (R120). -/

theorem inResolved_secured (hr : resAction res = Act.secure) (ht : p.sectag = true) (hs : sciOf s q b p = (sci, idx))
    (h3 : s3 = lookupHits s idx ((scAt s idx).handle (p.tci % 4)) a.ecc) (hv : (scAt s3 idx).valid = true)
    (hi : (scAt s3 idx).inbound = true) (he : (scAt s3 idx).sci = sci)
    (hx : predict s3 { inFrm0 s q b p res a with sc := some idx, ent := scAt s3 idx } ((scAt s3 idx).handle (p.tci % 4)) = (s4, x)) :
    inResolved s q b p res a = inPush s4 x := by
  subst h3
  simp only [inResolved, hr, if_neg (show Act.secure ≠ Act.bypass by decide), ht, hs, hv, hi, he, hx, ne_eq, not_true_eq_false, Bool.not_true, Bool.and_true, Bool.false_eq_true,
    if_false]

/-- Settles O29, clause by clause: what the receiver takes, where frames do not pass, the two results, and the predictor. -/
theorem lineFrames : Obligations.LineFrames := by
  refine ⟨?_, ?_, ?_, ?_, ?_, ?_, ?_⟩
  · intro q bytes ok par ecc s hu
    exact runs_done (exec_lineFrameRx_down hu) ⟨rfl, Frame.settled .refl⟩
  · intro q bytes ok par ecc s hl
    exact runs_done (exec_lineFrameRx_notSent hl) ⟨rfl, Frame.settled .refl⟩
  · intro q bytes b par ecc s s0 s1 _ hq hu hb hm hl hs1 hp
    obtain rfl : s1 = lineTaken s0 q par b := hs1
    obtain ⟨hframes, hoctets, hdropped, hframe⟩ := lineBlocked_leaves (q := q) (par := par) (b := b) (lineIn_frame hl)
    exact runs_done (exec_lineFrameRx_blocked hq hu hb hm hl hp) ⟨hframes.settled, hoctets.settled, hdropped.settled, hframe.settled⟩
  · intro q bytes b p sl cut res par ecc s s0 s1 s2 hq hu hb hm hl hs1 hp hf hc hr
    obtain rfl : s1 = lineTaken s0 q par b := hs1
    have hx := exec_lineFrameRx_classified (ecc := ecc) hq hu hb hm hl hp hf hc
    rw [inResolved_bypass hr] at hx
    exact runs_inPush hx rfl
  · intro q bytes b p sl cut res par ecc sci idx x s s0 s1 s2 s3 s4 hq hu hb hm hl hs1 hp hf hc hr ht hsci hs3 hv hi he hx
    obtain rfl : s1 = lineTaken s0 q par b := hs1
    have hpush := exec_lineFrameRx_classified (ecc := ecc) hq hu hb hm hl hp hf hc
    rw [inResolved_secured (a := lineArr (lineTaken s0 q par b) q b ecc) hr ht hsci hs3 hv hi he hx] at hpush
    exact runs_inPush hpush ((congrArg (·.2.q) hx).symm.trans (predict_q _))
  · intro s f h s0 hs0 hst hh hpn
    subst hs0
    rw [predict_hit ⟨hst, hh, hpn⟩]
    exact ⟨rfl, rfl, settleDue_frame.trans setPred_frame⟩
  · intro s f h s0 _ hs0 hmiss
    subst hs0
    rw [predict_miss hmiss]
    obtain ⟨hcount, hframe⟩ := predMissed_leaves (s := settleDue s f.q f.clk) (f := f) (h := h)
    refine ⟨rfl, rfl, ?_, ?_, ?_, ?_⟩
    · exact congrArg (·.st) (predAt_setPred_same ..)
    · exact congrArg (·.handle) (predAt_setPred_same ..)
    · exact hcount.since (settleDue_frame.1 _ List.not_mem_nil)
    · have hmarked : Frame [K.predMiss f.q] [.assoc, .perf] _ (predMissed (settleDue s f.q f.clk) f h) := hframe.mono (by simp) (by simp)
      exact (settleDue_frame.mono (by simp) (by simp)).trans (hmarked.trans (setPred_frame.mono (by simp) (by simp)))

end
end Sys2Proof.Machine

/-! A line written under a key that AES has no rounds for (R307, R313). -/

namespace Sys2Proof.Machine

theorem lineData_settled {z s : State} {n line : Nat} : lineData (settled z s) n line = lineData s n line := rfl

/-- A request on SPI. -/
def spiRequest : Req := ⟨0, false, 0⟩

/-- The line buffer with all of its sixteen words. -/
def fullBuffer : Tbl (Option Word) := (List.range 16).map fun i => (i, some 0)

/-- Region 0 is ready, its key is one byte, and all of its line 0 waits in the buffer; a session runs on SPI. -/
def oneByteKey : State :=
  { State.reset with
    regs := [(K.regionStatus 0, 1)]
    boot := { State.reset.boot with engine := true, fw := true }
    chans := [(0, { State.idleChan with sess := some ⟨[], 0, 0, 0, 0, 0⟩ })]
    hbm := { State.reset.hbm with keys := [(0, [0])], buf := some (0, 0, fullBuffer) } }

theorem exec_hbmFlush {s : State} {r : Req} {f : MemFault} :
    exec (.hbmFlush r f) s = done s (access s r K.hbmFlush true (hbmFlushEff r 1 f)) := rfl

/-- The state in which its flush ends. -/
def oneByteKeyFlushed : State := access oneByteKey spiRequest K.hbmFlush true (hbmFlushEff spiRequest 1 .good)

/-- The one byte yields a last round key of 13 bytes, and AES answers no more than those. -/
theorem aesEnc_oneByteKey_length (blk : List Byte) : (aesEnc [0] blk).length = 13 := by
  have hkeys : roundKeys [0] = [List.replicate 16 0, List.replicate 13 0] := by decide +kernel
  simp [aesEnc, hkeys, xorBytes, shiftRows]

/-- So a line enciphered under it is cut to 52 bytes. -/
theorem lineCrypt_oneByteKey_length (addr ctr : Nat) (b : List Byte) : (lineCrypt [0] addr ctr b).length ≤ 52 := by
  simp [lineCrypt, xorBytes, List.length_flatMap, aesEnc_oneByteKey_length]

theorem lineData_oneByteKeyFlushed_length : (lineData oneByteKeyFlushed 0 0).length ≤ 52 := by
  have hwritten : (hlineAt oneByteKeyFlushed (lineKey 0 0 0)).written = true := by decide +kernel
  have hkey : encKey oneByteKeyFlushed 0 = [0] := by decide +kernel
  rw [lineData, if_pos hwritten, hkey]
  exact lineCrypt_oneByteKey_length ..

/-- Refutes O43 in its clause of a flush that writes the line: the clause has the line read as the buffer's 64 bytes, while under a key
of one byte the model's cipher, and so the line, holds 52; no hypothesis says that the region's keys are of the length they are drawn
with (R309). -/
theorem not_externalMemory : ¬ Obligations.ExternalMemory := by
  intro h
  obtain ⟨-, -, -, -, -, -, -, -, hflush, -⟩ := h
  obtain ⟨t, ht, -, -, -, hdata, -⟩ := hflush spiRequest .good 0 0 fullBuffer oneByteKey (by decide) rfl (by decide +kernel)
    (by decide +kernel) (by decide +kernel) (by decide +kernel) (by decide +kernel) (by decide +kernel) (by decide +kernel)
    (by decide +kernel) (by decide +kernel) (.inl rfl) (by decide +kernel)
  have hends : exec (.hbmFlush spiRequest .good) oneByteKey = done oneByteKey oneByteKeyFlushed := exec_hbmFlush
  obtain rfl : t = settled oneByteKey oneByteKeyFlushed := eq_settled_of_done (hends ▸ ht)
  have hclause : (List.zipWith (fun (a : Option Byte) b => a.getD b) (bufPatch fullBuffer) (lineData oneByteKey 0 0)).length = 64 := by
    decide +kernel
  have hmodel := lineData_oneByteKeyFlushed_length
  rw [← lineData_settled (z := oneByteKey), hdata, hclause] at hmodel
  omega

end Sys2Proof.Machine

/-! A fill of a key slot whose powers of H a port still keeps (R145, R167). -/

namespace Sys2Proof.Machine

/-- Port 0 keeps the powers of H of handle 0, whose SA is RETIRED; plaintext keys are open, and a session runs on SPI. -/
def keptPowers : State :=
  { State.reset with
    regs := [(K.plaintextKeyEn, 1)]
    boot := { State.reset.boot with engine := true, fw := true }
    chans := [(0, { State.idleChan with sess := some ⟨[], 0, 0, 0, 0, 0⟩ })]
    assoc := { State.reset.assoc with sa := [(0, { sa0 with st := Sa.retired })] }
    dp := { State.reset.dp with hkeep := [(0, some (0, []))] } }

theorem exec_keyDataWrite {s : State} {r : Req} {v : Nat} :
    exec (.keyDataWrite r v) s = done s (access s r K.keyData true (keyDataEff r (v % 2 ^ 32))) := rfl

/-- The state in which the write of word 0 of slot 0 ends. -/
def keptPowersFilled : State := access keptPowers spiRequest K.keyData true (keyDataEff spiRequest 0)

/-- Refutes O20 in its clause of word 0: the clause has a fill leave the data path alone, while in the model a slot that changes takes
the powers of H kept for its handle along (R167), and those are of the data path; no hypothesis says that no port keeps any. -/
theorem not_keySlots : ¬ Obligations.KeySlots := by
  intro h
  obtain ⟨-, hstart, -⟩ := h
  obtain ⟨t, ht, -, -, -, -, -, hframe⟩ := hstart spiRequest 0 0 keptPowers (by decide) (by decide +kernel) (by decide +kernel)
    (by decide +kernel) (by decide +kernel) (by decide +kernel)
  have hends : exec (.keyDataWrite spiRequest 0) keptPowers = done keptPowers keptPowersFilled := exec_keyDataWrite
  obtain rfl : t = settled keptPowers keptPowersFilled := eq_settled_of_done (hends ▸ ht)
  have hkept : keptPowersFilled.dp = keptPowers.dp := hframe.2 .datapath (by decide)
  have hbefore : keptPowers.dp.hkeep ≠ [] := List.cons_ne_nil _ _
  have hafter : keptPowersFilled.dp.hkeep = [] := by decide +kernel
  exact hbefore (hkept ▸ hafter)

end Sys2Proof.Machine

/-! Windows with a staging copy (R124, R125): where the pointer goes, and what a copy loaded or changed leaves. -/

namespace Sys2Proof.Machine

section
variable {ks : List Nat} {ps : List Part} {s t u : State} {i : Instr} {r : Req} {eff : State → Res} {k k' a g n : Nat} {c ws : List Word}
  {w load : Bool} {code : Code} {x : Tbl Chan}

/-- The state whose window register `k` holds `a`; with `load`, group `g` has taken the copy `c`. -/
def windowTo (s : State) (k a g : Nat) (c : List Word) (load : Bool) : State :=
  if load then setStage (wr s k a) g c else wr s k a

theorem windowTo_loads : windowTo s k a g c true = setStage (wr s k a) g c := rfl
theorem windowTo_stays : windowTo s k a g c false = wr s k a := rfl

theorem rd_windowTo : rd (windowTo s k a g c load) k = a := by cases load <;> exact rd_wr_same ..
theorem windowTo_assoc : (windowTo s k a g c load).assoc = s.assoc := by cases load <;> rfl

theorem windowTo_frame : Frame [k] [.staging] s (windowTo s k a g c load) := by
  cases load
  · exact .wr (by simp) .refl
  · exact .setStage (by simp) (.wr (by simp) .refl)

theorem stageOf_setStage_same : stageOf (setStage s g c) g = c := tget_tset_same ..

theorem stageOf_answered : stageOf (answered s u x code ws) g = stageOf u g := rfl
theorem answered_assoc : (answered s u x code ws).assoc = u.assoc := rfl

/-- The state in which the channel of `r` holds group `g` with the copy `c`. -/
def staged (s : State) (r : Req) (g : Nat) (c : List Word) : State := setStage (claim s g r.ch) g c

theorem staged_frame : Frame [] [.staging] s (staged s r g c) := .setStage (by decide) (.claim (by decide) .refl)

/-- An access that points its window and loads the copy. -/
theorem runs_windowLoads (hx : exec i s = done s (access s r k' w eff)) (hg : Admitted s r k' w)
    (he : eff s = okR (windowTo (claim s g r.ch) k a g c true)) :
    Runs i s (fun t => Answers t [] ∧ stageOf t g = c ∧ rd t k = a ∧ Frame [k] [.chans, .staging] s t) :=
  runs_answered hx hg he fun _ => ⟨rfl, stageOf_answered.trans stageOf_setStage_same, rd_answered.trans rd_windowTo,
    .answered (by decide) ((Frame.claim (by decide) .refl).trans (windowTo_frame.mono (by simp) (by simp)))⟩

/-- An access that leaves the copy `c` and moves the window on. -/
theorem runs_windowStages (hx : exec i s = done s (access s r k' w eff)) (hg : Admitted s r k' w)
    (he : eff s = okR (windowTo (staged s r g c) k a g ws false)) :
    Runs i s (fun t => Answers t [] ∧ stageOf t g = c ∧ rd t k = a ∧ Frame [k] [.chans, .staging] s t) :=
  runs_answered hx hg he fun _ => ⟨rfl, stageOf_answered.trans stageOf_setStage_same, rd_answered.trans rd_windowTo,
    .answered (by decide) ((staged_frame.mono (by simp) (by simp)).trans (windowTo_frame.mono (by simp) (by simp)))⟩

/-- An access that ends in the associations of `u`, its window moved on. -/
theorem runs_windowCommits (hx : exec i s = done s (access s r k' w eff)) (hg : Admitted s r k' w)
    (he : eff s = ⟨windowTo u k a g c load, code, ws⟩) (hu : Frame ks ps s u) (hk : k ∈ ks) (hst : Part.staging ∈ ps)
    (hch : Part.chans ∈ ps) :
    Runs i s (fun t => t.reply = ⟨code, ws⟩ ∧ t.assoc = u.assoc ∧ Frame ks ps s t) :=
  runs_answered hx hg he fun _ => ⟨rfl, answered_assoc.trans windowTo_assoc,
    .answered hch (hu.trans (windowTo_frame.mono (by simpa using hk) (by simpa using hst)))⟩

/-! The stores are read from the associations alone. -/

theorem scAt_congr (h : t.assoc = s.assoc) (n : Nat) : scAt t n = scAt s n := by rw [scAt, h, scAt]
theorem saAt_congr (h : t.assoc = s.assoc) (n : Nat) : saAt t n = saAt s n := by rw [saAt, h, saAt]
theorem statAt_congr (h : t.assoc = s.assoc) (n : Nat) : statAt t n = statAt s n := by rw [statAt, h, statAt]
theorem slotAt_congr (h : t.assoc = s.assoc) (n : Nat) : slotAt t n = slotAt s n := by rw [slotAt, slotFlip, h, slotAt, slotFlip]

theorem scWords_congr (h : t.assoc = s.assoc) : scWords t n = scWords s n := by
  simp only [scWords, scStatus, scAt_congr h, saAt_congr h]

theorem saWords_congr (h : t.assoc = s.assoc) : saWords t n = saWords s n := by simp only [saWords, saAt_congr h]

@[simp] theorem scAt_setSa {y : SaEnt} {m : Nat} : scAt (setSa s m y) n = scAt s n := rfl
@[simp] theorem scAt_setStat {y : SaStat} {m : Nat} : scAt (setStat s m y) n = scAt s n := rfl
@[simp] theorem scAt_predDrop {p : Nat → Bool} : scAt (predDrop s p) n = scAt s n := rfl
@[simp] theorem saAt_setSc {y : ScEnt} {m : Nat} : saAt (setSc s m y) n = saAt s n := rfl
@[simp] theorem saAt_setStat {y : SaStat} {m : Nat} : saAt (setStat s m y) n = saAt s n := rfl
@[simp] theorem saAt_predDrop {p : Nat → Bool} : saAt (predDrop s p) n = saAt s n := rfl
@[simp] theorem statAt_setSc {y : ScEnt} {m : Nat} : statAt (setSc s m y) n = statAt s n := rfl

theorem Frame.setSc {y : ScEnt} (hp : Part.assoc ∈ ps) (h : Frame ks ps s u) : Frame ks ps s (setSc u n y) := h.set_assoc hp
theorem Frame.setSa {y : SaEnt} (hp : Part.assoc ∈ ps) (h : Frame ks ps s u) : Frame ks ps s (setSa u n y) := h.set_assoc hp
theorem Frame.setStat {y : SaStat} (hp : Part.assoc ∈ ps) (h : Frame ks ps s u) : Frame ks ps s (setStat u n y) := h.set_assoc hp
theorem Frame.predDrop {p : Nat → Bool} (hp : Part.assoc ∈ ps) (h : Frame ks ps s u) : Frame ks ps s (predDrop u p) := h.set_assoc hp

end
end Sys2Proof.Machine

/-! The window of the SC store (R140, R141): what a word written to it does, and the checks of its commit. -/

namespace Sys2Proof.Machine

section
variable {s : State} {r : Req} {e w v : Nat} {c : List Word} {new : ScEnt} {code : Code} {load : Bool}

theorem scTo_eq : scTo s e w load = windowTo s K.scAddr (w * 2 ^ 16 + e) Grp.sc (scWords s e) load := by
  rw [← scWords_congr (wr_assoc s K.scAddr (w * 2 ^ 16 + e))]
  rfl

theorem scAddrEff_loads (hw : bits v 19 16 ≤ 9) (hh : heldByOther s Grp.sc r.ch = false) : scAddrEff r v s =
    okR (windowTo (claim s Grp.sc r.ch) K.scAddr (bits v 19 16 * 2 ^ 16 + bits v 15 0) Grp.sc (scWords s (bits v 15 0)) true) := by
  rw [← scWords_congr (claim_assoc s Grp.sc r.ch), ← scTo_eq]
  exact (if_neg (Nat.not_lt.mpr hw)).trans (claimed_free hh)

/-- The copy `c` with word `w` written: AN_MAP and SC_STATUS take nothing. -/
def scTaken (c : List Word) (w v : Nat) : List Word := if (2 ≤ w && w ≤ 5) || w = 8 then c else lset c w v

theorem scTaken_stores (hw : w < 2 ∨ w = 6 ∨ w = 7) : scTaken c w v = lset c w v := if_neg (by grind)

theorem scTaken_ignores (hw : 2 ≤ w ∧ w ≤ 5 ∨ w = 8) : scTaken c w v = c := if_pos (by grind)

theorem scDataEff_stages (ha : scPtr s = (e, w)) (hw : w < 9) (hne : stageOf s Grp.sc ≠ []) (hh : heldByOther s Grp.sc r.ch = false) :
    scDataEff r v s = okR (windowTo (staged s r Grp.sc (scTaken (stageOf s Grp.sc) w v)) K.scAddr ((w + 1) * 2 ^ 16 + e) Grp.sc [] false) := by
  have hptr : scPtr (claim s Grp.sc r.ch) = (e, w) := ha
  have hloaded : (stageOf (claim s Grp.sc r.ch) Grp.sc).isEmpty = false := List.isEmpty_eq_false_iff.mpr hne
  rw [scDataEff, claimed_free hh]
  simp only [hptr, hloaded, hw, if_true, Bool.false_eq_true, if_false]
  rfl

/-- The entry in its store, its group released. -/
def scCommitted (s : State) (r : Req) (e : Nat) (new : ScEnt) : State := release (scPut (claim s Grp.sc r.ch) e new) Grp.sc

theorem scDataEff_commits (ha : scPtr s = (e, 9)) (hne : stageOf s Grp.sc ≠ []) (hh : heldByOther s Grp.sc r.ch = false)
    (hk : scCheck s (scAt s e) (scFrom (scAt s e) (lset (stageOf s Grp.sc) 9 v)) = none) : scDataEff r v s =
      okR (scTo (scCommitted s r e (scFrom (scAt s e) (lset (stageOf s Grp.sc) 9 v))) (nextEntry 65536 e) 0 true) := by
  have hptr : scPtr (claim s Grp.sc r.ch) = (e, 9) := ha
  have hcheck : scCheck (claim s Grp.sc r.ch) (scAt (claim s Grp.sc r.ch) e)
      (scFrom (scAt (claim s Grp.sc r.ch) e) (lset (stageOf (claim s Grp.sc r.ch) Grp.sc) 9 v)) = none := hk
  have hloaded : (stageOf (claim s Grp.sc r.ch) Grp.sc).isEmpty = false := List.isEmpty_eq_false_iff.mpr hne
  rw [scDataEff, claimed_free hh]
  simp only [hptr, lt_self_iff_false, ↓reduceIte, Nat.reduceLeDiff, decide_true, decide_false, Bool.and_false, Nat.succ_ne_self,
    Bool.or_self, Bool.false_eq_true, hloaded, hcheck]
  rfl

theorem scDataEff_refuses (ha : scPtr s = (e, 9)) (hne : stageOf s Grp.sc ≠ []) (hh : heldByOther s Grp.sc r.ch = false)
    (hk : scCheck s (scAt s e) (scFrom (scAt s e) (lset (stageOf s Grp.sc) 9 v)) = some code) :
    scDataEff r v s = ⟨scTo (claim s Grp.sc r.ch) e 0 true, code, []⟩ := by
  have hptr : scPtr (claim s Grp.sc r.ch) = (e, 9) := ha
  have hcheck : scCheck (claim s Grp.sc r.ch) (scAt (claim s Grp.sc r.ch) e)
      (scFrom (scAt (claim s Grp.sc r.ch) e) (lset (stageOf (claim s Grp.sc r.ch) Grp.sc) 9 v)) = some code := hk
  have hloaded : (stageOf (claim s Grp.sc r.ch) Grp.sc).isEmpty = false := List.isEmpty_eq_false_iff.mpr hne
  rw [scDataEff, claimed_free hh]
  simp [hptr, hloaded, hcheck]

theorem scPut_leaves : scAt (scPut s e new) e = new ∧ (∀ n, n ≠ e → scAt (scPut s e new) n = scAt s n) ∧
    (∀ h, saAt (scPut s e new) h = saAt s h) ∧ Frame [] [.assoc] s (scPut s e new) := by
  unfold scPut
  dsimp only
  split
  · exact ⟨scAt_setSc_same .., fun n hn => scAt_setSc_ne _ _ hn.symm, fun h => rfl, .predDrop (by decide) (.setSc (by decide) .refl)⟩
  · exact ⟨scAt_setSc_same .., fun n hn => scAt_setSc_ne _ _ hn.symm, fun h => rfl,
      .predDrop (by decide) (.setSc (by decide) (.set_assoc (by decide) .refl))⟩

theorem scCommitted_leaves : scAt (scCommitted s r e new) e = new ∧ (∀ n, n ≠ e → scAt (scCommitted s r e new) n = scAt s n) ∧
    (∀ h, saAt (scCommitted s r e new) h = saAt s h) ∧ Frame [] [.staging, .assoc] s (scCommitted s r e new) := by
  obtain ⟨hsame, hother, hsa, hframe⟩ := scPut_leaves (s := claim s Grp.sc r.ch) (e := e) (new := new)
  exact ⟨hsame, hother, hsa, .release (by decide) ((Frame.claim (by decide) .refl).trans (hframe.mono (by simp) (by simp)))⟩

theorem exec_scDataWrite (hv : v < 2 ^ 32) : exec (.scDataWrite r v) s = done s (access s r K.scData true (scDataEff r v)) := by
  change done s (access s r K.scData true (scDataEff r (v % 2 ^ 32))) = _
  rw [Nat.mod_eq_of_lt hv]

/-- Settles O18, clause by clause: the copy loaded, a word it takes, a word it ignores, the entry committed, and the first check that
fails. -/
theorem scStore : Obligations.ScStore := by
  refine ⟨?_, ?_, ?_, ?_, ?_⟩
  · intro r v s hv hw hh hg
    have hx : exec (.scAddrWrite r v) s = done s (access s r K.scAddr true (scAddrEff r (v % 2 ^ 32))) := rfl
    rw [Nat.mod_eq_of_lt hv] at hx
    exact runs_windowLoads hx hg (scAddrEff_loads hw hh)
  · intro r v e w s hv ha hw htaken hne hh hg
    have hstages := scDataEff_stages (v := v) ha hw hne hh
    rw [scTaken_stores htaken] at hstages
    exact runs_windowStages (exec_scDataWrite hv) hg hstages
  · intro r v e w s hv ha hignored hne hh hg
    have hstages := scDataEff_stages (v := v) ha (by omega) hne hh
    rw [scTaken_ignores hignored] at hstages
    exact runs_windowStages (exec_scDataWrite hv) hg hstages
  · intro r v e s hv ha hne hh hk hg
    obtain ⟨hsame, hother, hsa, hframe⟩ := scCommitted_leaves (s := s) (r := r) (e := e)
      (new := scFrom (scAt s e) (lset (stageOf s Grp.sc) 9 v))
    have he := scDataEff_commits ha hne hh hk
    rw [scTo_eq] at he
    refine (runs_windowCommits (exec_scDataWrite hv) hg he (hframe.mono (by simp) (by decide)) (by simp) (by decide)
      (by decide)).mono fun t ⟨hreply, hassoc, ht⟩ => ⟨hreply, ?_, ?_, ?_, ht⟩
    · exact (scAt_congr hassoc e).trans hsame
    · exact fun n hn => (scAt_congr hassoc n).trans (hother n hn)
    · exact fun h => (saAt_congr hassoc h).trans (hsa h)
  · intro r v e c s hv ha hne hh hk hg
    have he := scDataEff_refuses ha hne hh hk
    rw [scTo_eq] at he
    exact (runs_windowCommits (exec_scDataWrite hv) hg he (.claim (by decide) .refl) (by simp) (by decide) (by decide)).mono
      fun t ⟨hreply, _, ht⟩ => ⟨congrArg (·.code) hreply, ht⟩

end
end Sys2Proof.Machine

/-! An SA staged, retired or stored (R143, R147, R148): what each commit leaves. -/

namespace Sys2Proof.Machine

section
variable {s t u : State} {r : Req} {h w v st i : Nat} {c : List Word} {new : SaEnt} {load : Bool}

/-! An SA that changes state (R143, R175). -/

theorem saState_leaves : saAt (saState s h st) h = { saAt s h with st := st } ∧ (∀ g, g ≠ h → saAt (saState s h st) g = saAt s g) ∧
    (∀ n, scAt (saState s h st) n = scAt s n) ∧ Frame [] [.assoc] s (saState s h st) := by
  have hset : Frame [] [.assoc] s (setSa s h { saAt s h with st := st }) := .setSa (by decide) .refl
  unfold saState
  dsimp only
  split
  · exact ⟨by simp, fun g hg => by simp [saAt_setSa_ne _ _ hg.symm], fun n => by simp, .predDrop (by decide) hset⟩
  · exact ⟨by simp, fun g hg => by simp [saAt_setSa_ne _ _ hg.symm], fun n => by simp, hset⟩

theorem saState_frame : Frame [] [.assoc] s (saState s h st) := by
  obtain ⟨-, -, -, hframe⟩ := saState_leaves (s := s) (h := h) (st := st)
  exact hframe

/-- The entry of an SA as a stage leaves it (R147). -/
def saStagedEnt (s : State) (new : SaEnt) : SaEnt :=
  { new with st := Sa.staged, thr := false, conf := false, asked := 0, acks := [], waitMove := false,
             ceiling := if resvApplies s new then new.pn else new.ceiling }

/-- The state with it stored, its statistics restarted (R366). -/
def saStored (s : State) (h : Nat) (new : SaEnt) : State :=
  setStat (predDrop (setSa s h (saStagedEnt s new)) (· == h)) h stat0

theorem stageSa_l1 (hl : new.l1 = true) : stageSa s h new = saStored s h new := if_pos hl

theorem stageSa_sc (hl : new.l1 = false) : stageSa s h new = setSc (saStored s h new) new.sc
    { scAt s new.sc with an := tset 0 (scAt s new.sc).an new.an (2 ^ 31 + h) } := by
  have hstored : scAt (saStored s h new) new.sc = scAt s new.sc := by simp [saStored]
  rw [← hstored]
  exact if_neg (by simp [hl])

theorem saStored_leaves : saAt (saStored s h new) h = saStagedEnt s new ∧ (∀ g, g ≠ h → saAt (saStored s h new) g = saAt s g) ∧
    (∀ n, scAt (saStored s h new) n = scAt s n) ∧ statAt (saStored s h new) h = stat0 ∧ Frame [] [.assoc] s (saStored s h new) :=
  ⟨by simp [saStored], fun _ hg => by simp [saStored, saAt_setSa_ne _ _ hg.symm], fun _ => by simp [saStored], by simp [saStored],
    .setStat (by decide) (.predDrop (by decide) (.setSa (by decide) .refl))⟩

/-- R147: a staged SA stands in the AN_MAP of its SC; a Layer-1 SA in none. -/
theorem stageSa_leaves : saAt (stageSa s h new) h = saStagedEnt s new ∧ (∀ g, g ≠ h → saAt (stageSa s h new) g = saAt s g) ∧
    (new.l1 = false → tget 0 (scAt (stageSa s h new) new.sc).an new.an = 2 ^ 31 + h) ∧
    (new.l1 = true → ∀ n, scAt (stageSa s h new) n = scAt s n) ∧ statAt (stageSa s h new) h = stat0 ∧
    Frame [] [.assoc] s (stageSa s h new) := by
  obtain ⟨hsame, hother, hsc, hstat, hframe⟩ := saStored_leaves (s := s) (h := h) (new := new)
  cases hl : new.l1 with
  | true =>
    rw [stageSa_l1 hl]
    exact ⟨hsame, hother, nofun, fun _ => hsc, hstat, hframe⟩
  | false =>
    rw [stageSa_sc hl]
    exact ⟨by rw [saAt_setSc, hsame], fun g hg => by rw [saAt_setSc, hother g hg], fun _ => by rw [scAt_setSc_same, tget_tset_same], nofun,
      by rw [statAt_setSc, hstat], .setSc (by decide) hframe⟩

/-- The entry of an SC as the retirement of its SA `h` at `an` leaves it (R148). -/
def scUnnamed (e : ScEnt) (h an : Nat) : ScEnt :=
  { e with an := if e.handle an = some h then tset 0 e.an an 0 else e.an, cur := if e.cur = some h then none else e.cur }

theorem scUnnamed_names {e : ScEnt} {an : Nat} : (scUnnamed e h an).handle an ≠ some h ∧ (scUnnamed e h an).cur ≠ some h := by
  constructor
  · by_cases hn : e.handle an = some h
    · have hcleared : (scUnnamed e h an).an = tset 0 e.an an 0 := if_pos hn
      rw [ScEnt.handle, hcleared, tget_tset_same]
      simp [bit]
    · have hkept : (scUnnamed e h an).an = e.an := if_neg hn
      rw [ScEnt.handle, hkept]
      exact hn
  · by_cases hc : e.cur = some h <;> simp [scUnnamed, hc]

theorem retireSa_l1 (hl : (saAt s h).l1 = true) : retireSa s h = saState s h Sa.retired := if_pos hl

theorem retireSa_sc (hl : (saAt s h).l1 = false) : retireSa s h =
    setSc (saState s h Sa.retired) (saAt s h).sc (scUnnamed (scAt (saState s h Sa.retired) (saAt s h).sc) h (saAt s h).an) :=
  if_neg (by simp [hl])

/-- R148: no AN_MAP entry and no current SA names a retired one. -/
theorem retireSa_leaves : (saAt (retireSa s h) h).st = Sa.retired ∧ (∀ g, g ≠ h → saAt (retireSa s h) g = saAt s g) ∧
    ((saAt s h).l1 = false → (scAt (retireSa s h) (saAt s h).sc).handle (saAt s h).an ≠ some h ∧
      (scAt (retireSa s h) (saAt s h).sc).cur ≠ some h) ∧
    ((saAt s h).l1 = true → ∀ n, scAt (retireSa s h) n = scAt s n) ∧ Frame [] [.assoc] s (retireSa s h) := by
  obtain ⟨hsame, hother, hsc, hframe⟩ := saState_leaves (s := s) (h := h) (st := Sa.retired)
  cases hl : (saAt s h).l1 with
  | true =>
    rw [retireSa_l1 hl]
    exact ⟨congrArg (·.st) hsame, hother, nofun, fun _ => hsc, hframe⟩
  | false =>
    rw [retireSa_sc hl]
    exact ⟨by rw [saAt_setSc, hsame], fun g hg => by rw [saAt_setSc, hother g hg],
      fun _ => by rw [scAt_setSc_same]; exact scUnnamed_names, nofun, .setSc (by decide) hframe⟩

/-! The window of the SA store (R143). -/

theorem saTo_eq : saTo s h w load = windowTo s K.saAddr (w * 2 ^ 20 + h) Grp.sa (saWords s h ++ saWords s h) load := by
  rw [← saWords_congr (wr_assoc s K.saAddr (w * 2 ^ 20 + h))]
  rfl

theorem saAddrEff_loads (hh : heldByOther s Grp.sa r.ch = false) : saAddrEff r v s =
    okR (windowTo (claim s Grp.sa r.ch) K.saAddr (bits v 22 20 * 2 ^ 20 + bits v 16 0) Grp.sa
      (saWords s (bits v 16 0) ++ saWords s (bits v 16 0)) true) := by
  rw [← saWords_congr (claim_assoc s Grp.sa r.ch), ← saTo_eq]
  exact claimed_free hh

/-- The copy `c` with word `w` written: CEILING takes nothing. -/
def saTaken (c : List Word) (w v : Nat) : List Word := if w = 5 || w = 6 then c else lset c w v

theorem saTaken_stores (h5 : w ≠ 5) (h6 : w ≠ 6) : saTaken c w v = lset c w v := if_neg (by simp [h5, h6])

theorem saTaken_ignores (hw : w = 5 ∨ w = 6) : saTaken c w v = c := if_pos (by simpa using hw)

theorem saDataEff_stages (ha : saPtr s = (h, w)) (hw : w < 7) (hne : stageOf s Grp.sa ≠ []) (hh : heldByOther s Grp.sa r.ch = false) :
    saDataEff r v s = okR (windowTo (staged s r Grp.sa (saTaken (stageOf s Grp.sa) w v)) K.saAddr ((w + 1) * 2 ^ 20 + h) Grp.sa [] false) := by
  have hptr : saPtr (claim s Grp.sa r.ch) = (h, w) := ha
  have hloaded : (stageOf (claim s Grp.sa r.ch) Grp.sa).isEmpty = false := List.isEmpty_eq_false_iff.mpr hne
  rw [saDataEff, claimed_free hh]
  simp only [hptr, hloaded, hw, if_true, Bool.false_eq_true, if_false]
  rfl

/-- The state in which a write of word 7 reaches SA `h`: its group claimed, the write stalled where the commit point was at `h` (R37). -/
def saReached (s : State) (r : Req) (h : Nat) : State := commitStall (claim s Grp.sa r.ch) h

theorem saReached_assoc : (saReached s r h).assoc = s.assoc := by
  unfold saReached commitStall
  split <;> rfl

theorem saReached_frame : Frame [K.commitStalls] [.clock, .staging] s (saReached s r h) :=
  .ite (fun _ => .inc (by simp) (.passCc (by decide) (.claim (by decide) .refl))) (fun _ => .claim (by decide) .refl)

theorem saDataEff_commits (ha : saPtr s = (h, 7)) (hne : stageOf s Grp.sa ≠ []) (hh : heldByOther s Grp.sa r.ch = false)
    (hk : saCommit (saReached s r h) h (lset (stageOf s Grp.sa) 7 v) = (none, u)) :
    saDataEff r v s = okR (saTo (release u Grp.sa) (nextEntry 131072 h) 0 true) := by
  have hptr : saPtr (claim s Grp.sa r.ch) = (h, 7) := ha
  have hloaded : (stageOf (claim s Grp.sa r.ch) Grp.sa).isEmpty = false := List.isEmpty_eq_false_iff.mpr hne
  have hcommit : saCommit (commitStall (claim s Grp.sa r.ch) h) h (lset (stageOf (claim s Grp.sa r.ch) Grp.sa) 7 v) = (none, u) := hk
  rw [saDataEff, claimed_free hh]
  simp [hptr, hloaded, hcommit]

/-- A write of word 7 that commits ends in the associations the commit leaves. -/
theorem runs_saCommits {c : Instr} (hx : exec c s = done s (access s r K.saData true (saDataEff r v))) (hg : Admitted s r K.saData true)
    (ha : saPtr s = (h, 7)) (hlen : 8 ≤ (stageOf s Grp.sa).length) (hh : heldByOther s Grp.sa r.ch = false)
    (hk : saCommit (saReached s r h) h (lset (stageOf s Grp.sa) 7 v) = (none, u)) (hu : Frame [] [.assoc] (saReached s r h) u) :
    Runs c s (fun t => Answers t [] ∧ t.assoc = u.assoc ∧ Frame [K.saAddr, K.commitStalls] [.clock, .chans, .staging, .assoc] s t) := by
  have he := saDataEff_commits ha (List.ne_nil_of_length_pos (by omega)) hh hk
  rw [saTo_eq] at he
  exact runs_windowCommits (u := release u Grp.sa) hx hg he (.release (by decide) ((saReached_frame.mono (by simp) (by decide)).trans
    (hu.mono (by simp) (by decide)))) (by simp) (by decide) (by decide)

/-! What word 7 asks for. -/

theorem bit_of_lt (hv : v < 2 ^ i) : bit v i = false := by simp [bit, Nat.div_eq_of_lt hv]

theorem nth_lset_same (hi : i < c.length) : nth (lset c i v) i = v := by simp [nth, lset, List.getD_eq_getElem?_getD, hi]

theorem armClash_congr (ha : t.assoc = s.assoc) (n an set : Nat) : armClash t n an set = armClash s n an set := by
  simp only [armClash, scAt_congr ha, saAt_congr ha]

theorem tooFast_congr (hl : ∀ n, layout t n = layout s n) (e : ScEnt) : tooFast t e = tooFast s e := by
  simp only [tooFast, fastPort, hl]

theorem stageCheck_congr (ha : t.assoc = s.assoc) (hl : ∀ n, layout t n = layout s n) (old : SaEnt) :
    stageCheck t h old new = stageCheck s h old new := by
  simp only [stageCheck, armClash_congr ha, tooFast_congr hl, scAt_congr ha, saAt_congr ha]

theorem saCommit_stages (h31 : bit (nth c 7) 31 = true) (h30 : bit (nth c 7) 30 = false)
    (hk : stageCheck s h (saAt s h) (saFrom (saAt s h) c) = none) : saCommit s h c = (none, stageSa s h (saFrom (saAt s h) c)) := by
  simp [saCommit, h31, h30, hk]

theorem saCommit_retires (h31 : bit (nth c 7) 31 = false) (h30 : bit (nth c 7) 30 = true)
    (hk : (saAt s h).st = Sa.active ∨ (saAt s h).st = Sa.grace → ∀ i, i < 7 → saChanged c i = false) :
    saCommit s h c = (none, retireSa s h) := by
  have hkept : ¬ (((saAt s h).st = Sa.active ∨ (saAt s h).st = Sa.grace) ∧ (List.range 7).any (saChanged c) = true) := by
    rintro ⟨hlive, hany⟩
    obtain ⟨i, hi, hchanged⟩ := List.any_eq_true.mp hany
    simp [hk hlive i (List.mem_range.mp hi)] at hchanged
  simp only [saCommit, h31, h30, Bool.false_and, Bool.false_eq_true, if_false, if_true, if_neg hkept]

theorem saCommit_stores (h31 : bit (nth c 7) 31 = false) (h30 : bit (nth c 7) 30 = false) (ha : (saAt s h).st ≠ Sa.active)
    (hg : (saAt s h).st ≠ Sa.grace) (hs : (saAt s h).st ≠ Sa.staged) (hk : (saAt s h).st ≠ Sa.skipped) :
    saCommit s h c = (none, setSa s h (saFrom (saAt s h) c)) := by
  simp [saCommit, h31, h30, saPlain, ha, hg, hs, hk]

theorem exec_saDataWrite (hv : v < 2 ^ 32) : exec (.saDataWrite r v) s = done s (access s r K.saData true (saDataEff r v)) := by
  change done s (access s r K.saData true (saDataEff r (v % 2 ^ 32))) = _
  rw [Nat.mod_eq_of_lt hv]

theorem exec_saStage (hv : v < 2 ^ 32) :
    exec (.saStage r v) s = done s (access s r K.saData true (saDataEff r (setBit v 31 true))) := by
  change done s (access s r K.saData true (saDataEff r (setBit (v % 2 ^ 32) 31 true))) = _
  rw [Nat.mod_eq_of_lt hv]

theorem exec_saRetire (hv : v < 2 ^ 32) :
    exec (.saRetire r v) s = done s (access s r K.saData true (saDataEff r (setBit v 30 true))) := by
  change done s (access s r K.saData true (saDataEff r (setBit (v % 2 ^ 32) 30 true))) = _
  rw [Nat.mod_eq_of_lt hv]

/-- Settles O19, clause by clause: the copy loaded, a word it takes, a word it ignores, an SA staged, retired, and stored. -/
theorem saStore : Obligations.SaStore := by
  refine ⟨?_, ?_, ?_, ?_, ?_, ?_⟩
  · intro r v s hv hh hg
    have hx : exec (.saAddrWrite r v) s = done s (access s r K.saAddr true (saAddrEff r (v % 2 ^ 32))) := rfl
    rw [Nat.mod_eq_of_lt hv] at hx
    exact runs_windowLoads hx hg (saAddrEff_loads hh)
  · intro r v h w s hv ha hw hne hh hg
    have hstages := saDataEff_stages (v := v) ha (by omega) hne hh
    rw [saTaken_stores (by omega) (by omega)] at hstages
    exact runs_windowStages (exec_saDataWrite hv) hg hstages
  · intro r v h w s hv ha hignored hne hh hg
    have hstages := saDataEff_stages (v := v) ha (by omega) hne hh
    rw [saTaken_ignores hignored] at hstages
    exact runs_windowStages (exec_saDataWrite hv) hg hstages
  · intro r v h e s hv ha hlen hh he hk hg
    have hsa : saAt (saReached s r h) h = saAt s h := saAt_congr saReached_assoc h
    have hlayout (n : Nat) : layout (saReached s r h) n = layout s n := saReached_frame.1 _ (by simp [K.groupLayout, K.commitStalls]; omega)
    have hword : nth (lset (stageOf s Grp.sa) 7 (setBit v 31 true)) 7 = setBit v 31 true := nth_lset_same (by omega)
    have hcommit : saCommit (saReached s r h) h (lset (stageOf s Grp.sa) 7 (setBit v 31 true)) = (none, stageSa (saReached s r h) h e) := by
      have h31 : bit (setBit v 31 true) 31 = true := bit_setBit_same ..
      have h30 : bit (setBit v 31 true) 30 = false := (bit_setBit_ne _ _ (by decide)).trans (bit_of_lt hv)
      rw [← he, ← hsa]
      refine saCommit_stages (hword.symm ▸ h31) (hword.symm ▸ h30) ?_
      rw [hsa, he, stageCheck_congr saReached_assoc hlayout, hk]
    obtain ⟨hsame, hother, hsc, hl1, hstat, hframe⟩ := stageSa_leaves (s := saReached s r h) (h := h) (new := e)
    refine (runs_saCommits (exec_saStage (by omega)) hg ha hlen hh hcommit hframe).mono fun t ⟨hreply, hassoc, ht⟩ =>
      ⟨hreply, ?_, ?_, fun hl => ?_, fun hl n => ?_, ?_, fun g hne => ?_, ht⟩
    · rw [saAt_congr hassoc, hsame]
      rfl
    · rw [saAt_congr hassoc, hsame]
      rfl
    · rw [scAt_congr hassoc, hsc hl]
    · rw [scAt_congr hassoc, hl1 hl, scAt_congr saReached_assoc]
    · rw [statAt_congr hassoc, hstat]
    · rw [saAt_congr hassoc, hother g hne, saAt_congr saReached_assoc]
  · intro r v h s hv ha hlen hh hkept hg
    have hsa : saAt (saReached s r h) h = saAt s h := saAt_congr saReached_assoc h
    have hword : nth (lset (stageOf s Grp.sa) 7 (setBit v 30 true)) 7 = setBit v 30 true := nth_lset_same (by omega)
    have hcommit : saCommit (saReached s r h) h (lset (stageOf s Grp.sa) 7 (setBit v 30 true)) = (none, retireSa (saReached s r h) h) := by
      have h31 : bit (setBit v 30 true) 31 = false := (bit_setBit_ne _ _ (by decide)).trans (bit_of_lt (by omega))
      have h30 : bit (setBit v 30 true) 30 = true := bit_setBit_same ..
      exact saCommit_retires (hword.symm ▸ h31) (hword.symm ▸ h30) (hsa ▸ hkept)
    obtain ⟨hsame, hother, hsc, hl1, hframe⟩ := retireSa_leaves (s := saReached s r h) (h := h)
    rw [hsa] at hsc hl1
    refine (runs_saCommits (exec_saRetire (by omega)) hg ha hlen hh hcommit hframe).mono fun t ⟨hreply, hassoc, ht⟩ =>
      ⟨hreply, ?_, fun hl => ?_, fun hl n => ?_, fun g hne => ?_, ht⟩
    · rw [saAt_congr hassoc, hsame]
    · rw [scAt_congr hassoc]
      exact hsc hl
    · rw [scAt_congr hassoc, hl1 hl, scAt_congr saReached_assoc]
    · rw [saAt_congr hassoc, hother g hne, saAt_congr saReached_assoc]
  · intro r v h s hv ha hlen hh hactive hgrace hstaged hskipped hg
    have hsa : saAt (saReached s r h) h = saAt s h := saAt_congr saReached_assoc h
    have hword : nth (lset (stageOf s Grp.sa) 7 v) 7 = v := nth_lset_same (by omega)
    have hcommit := saCommit_stores (s := saReached s r h) (h := h) (hword.symm ▸ bit_of_lt (by omega)) (hword.symm ▸ bit_of_lt hv)
      (hsa.symm ▸ hactive) (hsa.symm ▸ hgrace) (hsa.symm ▸ hstaged) (hsa.symm ▸ hskipped)
    refine (runs_saCommits (exec_saDataWrite (by omega)) hg ha hlen hh hcommit (.setSa (by decide) .refl)).mono
      fun t ⟨hreply, hassoc, ht⟩ => ⟨hreply, ?_, ht⟩
    rw [saAt_congr hassoc, saAt_setSa_same, hsa]

end
end Sys2Proof.Machine

/-! Packet numbers at announcement (R151, R152): what each answer of an SA leaves. -/

namespace Sys2Proof.Machine

section
variable {s t : State} {q c h lim : Nat} {b key : List Byte}

/-! An SA without a packet number (R151). -/

theorem exhausted_leaves : (∀ g, saAt (exhausted s h) g = saAt s g) ∧ (∀ n, scAt (exhausted s h) n = scAt s n) ∧
    Counts s (exhausted s h) K.exhaustedDrops 1 ∧ Frame [K.exhaustedDrops] [.assoc] s (exhausted s h) := by
  have hinc : Frame [K.exhaustedDrops] [.assoc] s (inc s K.exhaustedDrops 1) := .inc (by simp) .refl
  unfold exhausted
  dsimp only
  split
  · exact ⟨fun _ => rfl, fun _ => rfl, (Counts.of_inc rfl).of_rd rfl, .setStat (by decide) hinc⟩
  · exact ⟨fun _ => rfl, fun _ => rfl, Counts.of_inc rfl, hinc⟩

theorem grantSa_exhausted (hl : saLocal s (saAt s h) = true) (he : (scAt s c).exh = true) :
    grantSa s q c h b = (exhausted s h, .drop) := by
  simp [grantSa, hl, he]

theorem grantSa_inactive (hl : saLocal s (saAt s h) = true) (he : (scAt s c).exh = false) (hx : (saAt s h).st ≠ Sa.exhausted)
    (ha : (saAt s h).st ≠ Sa.active) : grantSa s q c h b = (inc s K.outNoSa 1, .drop) := by
  simp [grantSa, hl, he, hx, ha]

/-- The state in which SA `h` of channel `c` has met its last packet number, before the event. -/
def pnEnded (s : State) (c h : Nat) : State := saState (setSc (exhausted s h) c { scAt s c with exh := true }) h Sa.exhausted

theorem grantSa_last (hl : saLocal s (saAt s h) = true) (he : (scAt s c).exh = false) (ha : (saAt s h).st = Sa.active)
    (hp : (saAt s h).pn = pnEnd (scAt s c)) : grantSa s q c h b = (raise (pnEnded s c h) Ev.pnExhausted h 0, .drop) := by
  simp [grantSa, hl, he, ha, hp, pnEnded, Sa.active, Sa.exhausted]

theorem pnEnded_leaves : (saAt (pnEnded s c h) h).st = Sa.exhausted ∧ (scAt (pnEnded s c h) c).exh = true ∧
    Counts s (pnEnded s c h) K.exhaustedDrops 1 ∧ Frame [K.exhaustedDrops] [.assoc] s (pnEnded s c h) := by
  obtain ⟨-, -, hcount, hexh⟩ := exhausted_leaves (s := s) (h := h)
  obtain ⟨hsame, -, hsc, hframe⟩ :=
    saState_leaves (s := setSc (exhausted s h) c { scAt s c with exh := true }) (h := h) (st := Sa.exhausted)
  refine ⟨congrArg (·.st) hsame, ?_, hcount.of_rd (hframe.1 _ (by simp)), (hexh.setSc (by decide)).trans (hframe.mono (by simp) (by simp))⟩
  rw [pnEnded, hsc, scAt_setSc_same]

/-! An SA that takes its next packet number (R151). -/

/-- The state in which SA `h` has taken its packet number, with `lim` the threshold of its suite. -/
def pnTaken (s : State) (h lim : Nat) : State :=
  let a := saAt s h
  let s1 := setSa s h { a with pn := a.pn + 1, thr := a.thr || (a.pn == lim && !a.thr) }
  if a.pn == lim && !a.thr then raise s1 Ev.pnThreshold h 0 else s1

theorem pnTaken_leaves : (saAt (pnTaken s h lim) h).pn = (saAt s h).pn + 1 ∧ (∀ g, g ≠ h → saAt (pnTaken s h lim) g = saAt s g) ∧
    slotAt (pnTaken s h lim) h = slotAt s h ∧ (pnTaken s h lim).dp = s.dp ∧ EvFrame [] [.assoc] s (pnTaken s h lim) := by
  let s1 := setSa s h { saAt s h with
    pn := (saAt s h).pn + 1, thr := (saAt s h).thr || ((saAt s h).pn == lim && !(saAt s h).thr) }
  have hset : EvFrame [] [.assoc] s s1 := (Frame.setSa (by decide) .refl).toEv
  have hsame : saAt s1 h = _ := saAt_setSa_same ..
  have hother (g : Nat) (hg : g ≠ h) : saAt s1 g = saAt s g := saAt_setSa_ne _ _ hg.symm
  have hraise : (raise s1 Ev.pnThreshold h 0).assoc = s1.assoc := raise_assoc _ _ _ _ (by decide)
  unfold pnTaken
  dsimp only
  split
  · exact ⟨by rw [saAt_congr hraise, hsame], fun g hg => by rw [saAt_congr hraise, hother g hg], slotAt_congr hraise h,
      raise_dp _ _ _ _ (by decide), hset.raise (by decide)⟩
  · exact ⟨by rw [hsame], hother, rfl, rfl, hset⟩

theorem keepHash_congr (h : t.dp = s.dp) (g : Nat) : (keepHash t q g key).2 = (keepHash s q g key).2 := by
  unfold keepHash
  rw [h]
  split
  · split <;> rfl
  · rfl

theorem keepHash_frame : Frame [] [.datapath] s (keepHash s q h key).1 := by
  unfold keepHash
  split
  · split
    · exact .refl
    · exact .set_dp (by decide) .refl
  · exact .set_dp (by decide) .refl

/-- A frame sealed: its powers of H kept and its statistics counted, the SAs as they were. -/
theorem pnCounted_leaves {frames octets fails drops : Nat} :
    (∀ g, saAt (statAdd (keepHash s q h key).1 h frames octets fails drops) g = saAt s g) ∧
    Frame [] [.assoc, .datapath] s (statAdd (keepHash s q h key).1 h frames octets fails drops) :=
  ⟨fun g => saAt_congr (keepHash_frame.2 .assoc (by decide)) g, .setStat (by decide) (keepHash_frame.mono (by simp) (by simp))⟩

/-- The threshold of an SC's suite (R151). -/
def pnLimit (s : State) (e : ScEnt) : Nat := rd s (if e.xpn then K.pnThreshold64 else K.pnThreshold32)

/-- A frame of channel `e` that SA `a` gave its packet number: sealed under the key of slot `h`, or squelched where it holds none
(R157). -/
def pnSealed (s : State) (q h : Nat) (e : ScEnt) (a : SaEnt) (b : List Byte) : State × Grant :=
  let len := b.length + 4 + expansion e
  let kept := keepHash s q h (slotKey (slotAt s h) (suiteKey e.suite))
  if (slotAt s h).complete then (statAdd kept.1 h 1 len 0 0, .sent (protect e a (slotAt kept.1 h) kept.2 a.pn b) false)
  else (statAdd (inc s K.outNoSa 1) h 1 len 1 0, .sent [] true)

theorem grantSa_takes (hl : saLocal s (saAt s h) = true) (he : (scAt s c).exh = false) (ha : (saAt s h).st = Sa.active)
    (hp : (saAt s h).pn ≠ pnEnd (scAt s c)) (hr : (resvApplies s (saAt s h) && decide ((saAt s h).ceiling ≤ (saAt s h).pn)) = false) :
    grantSa s q c h b = pnSealed (pnTaken s h (pnLimit s (scAt s c))) q h (scAt s c) (saAt s h) b := by
  have hlive : (saAt s h).st ≠ Sa.exhausted := by rw [ha]; decide
  unfold grantSa
  dsimp only
  rw [if_neg (by simp [hl]), if_neg (by simp [he, hlive]), if_neg (not_not.mpr ha), if_neg hp, if_neg (by simp [hr])]
  rfl

theorem pnSealed_complete {e : ScEnt} {a : SaEnt} {x : Slot} (hx : slotAt s h = x) (hk : x.complete = true) : pnSealed s q h e a b =
    (statAdd (keepHash s q h (slotKey x (suiteKey e.suite))).1 h 1 (b.length + 4 + expansion e) 0 0,
      .sent (protect e a x (keepHash s q h (slotKey x (suiteKey e.suite))).2 a.pn b) false) := by
  simp only [pnSealed, slotAt_congr (keepHash_frame.2 .assoc (by decide)), hx, hk, if_true]

end
end Sys2Proof.Machine

/-! Frames on the line: what a step sends, and that it leaves the frames in the device, the clock and DET_AM_DEFER as they were. -/

namespace Sys2Proof.Machine

/-- From `s` to `t` the outputs `l` are sent, the newest first; the outbound frames in the device, the clock and DET_AM_DEFER of port
`q` stay. -/
structure Sends (q : Nat) (l : List Output) (s t : State) : Prop where
  out : t.out = l ++ s.out
  outq : t.dp.outq = s.dp.outq
  tick : t.tick = s.tick
  defer : q < 32 → rd t (K.detAmDefer q) = rd s (K.detAmDefer q)

section
variable {q p k v n a b c g mem h src wait cc : Nat} {l m : List Output} {s t u : State} {o : Output} {f : Frm} {bs : List Byte}
  {base : Option Nat} {pr : Parsed} {uc : Option Nat}

/-- A register's member number is the low byte of its key; that of DET_AM_DEFER is 10. -/
theorem member_ne (hm : mem % 256 ≠ 10) : (g * 256 + mem) % 256 ≠ 10 := by omega

namespace Sends

theorem refl : Sends q [] s s := ⟨rfl, rfl, rfl, fun _ => rfl⟩

theorem trans (hs : Sends q l s t) (ht : Sends q m t u) : Sends q (m ++ l) s u :=
  ⟨by rw [ht.out, hs.out, List.append_assoc], ht.outq.trans hs.outq, ht.tick.trans hs.tick,
    fun hq => (ht.defer hq).trans (hs.defer hq)⟩

/-- A step that sends nothing. -/
theorem silent (hs : Sends q l s t) (ht : Sends q [] t u) : Sends q l s u := hs.trans ht

theorem outQ (hs : Sends q l s t) (p : Nat) : outQ t p = outQ s p := by rw [Machine.outQ, hs.outq, Machine.outQ]

/-! After what came before. -/

/-- A write of a register that is no DET_AM_DEFER. -/
theorem wr (hk : k % 256 ≠ 10) (hs : Sends q l s u) : Sends q l s (wr u k v) :=
  hs.silent ⟨rfl, rfl, rfl, fun _ => rd_wr_ne _ _ (by simp only [K.detAmDefer]; omega)⟩

theorem inc (hk : k % 256 ≠ 10) (hs : Sends q l s u) : Sends q l s (inc u k n) := hs.wr hk

theorem of_raise (hr : RaiseFrame u t) (hs : Sends q l s u) : Sends q l s t :=
  hs.silent ⟨hr.out, congrArg (·.outq) hr.dp, hr.tick, fun hq => hr.regs _ (by
    have : K.detAmDefer q / 256 = 0x6100 + q := by simp only [K.detAmDefer]; omega
    simp only [eventKey, this, Bool.and_eq_false_iff, decide_eq_false_iff_not]
    omega)⟩

theorem raise (hsrc : src < 384) (hs : Sends q l s u) : Sends q l s (raise u src a b) := hs.of_raise (raise_frame u src a b hsrc)

theorem incFirst (hk : k % 256 ≠ 10) (hsrc : src < 384) (hs : Sends q l s u) : Sends q l s (incFirst u k src a b) :=
  (hs.inc hk).of_raise (raiseFirst_frame _ k src a b hsrc)

theorem perfAdd (hs : Sends q l s u) : Sends q l s (perfAdd u a b) := hs.of_raise (perfAdd_frame u a b)

theorem set_dp {x : Dp} (hx : x.outq = u.dp.outq) (hs : Sends q l s u) : Sends q l s { u with dp := x } :=
  hs.silent ⟨rfl, hx, rfl, fun _ => rfl⟩

theorem set_assoc {x : Assoc} (hs : Sends q l s u) : Sends q l s { u with assoc := x } := hs.silent ⟨rfl, rfl, rfl, fun _ => rfl⟩

theorem emit (hs : Sends q l s u) : Sends q (o :: l) s (emit u o) := hs.trans (m := [o]) ⟨rfl, rfl, rfl, fun _ => rfl⟩

theorem settled {z : State} (hs : Sends q l s t) : Sends q l s (settled z t) := ⟨hs.out, hs.outq, hs.tick, hs.defer⟩

theorem ite {P : Prop} [Decidable P] (ht : P → Sends q l s t) (hu : ¬ P → Sends q l s u) : Sends q l s (if P then t else u) := by
  split
  · exact ht ‹_›
  · exact hu ‹_›

/-- A step within the associations, which hold no frame. -/
theorem of_assoc (hf : Frame [] [.assoc] u t) (hs : Sends q l s u) : Sends q l s t :=
  hs.silent ⟨hf.2 .out (by decide), congrArg (·.outq) (hf.2 .datapath (by decide)), hf.2 .clock (by decide), fun _ => hf.1 _ (by simp)⟩

end Sends

/-! A packet number taken or refused (R151, R152). -/

theorem statAdd_sends {d e : Nat} (hs : Sends q l s u) : Sends q l s (statAdd u h a b d e) := hs.set_assoc

theorem keepHash_sends {key : List Byte} (hs : Sends q l s u) : Sends q l s (keepHash u p h key).1 := by
  unfold keepHash
  split
  · split
    · exact hs
    · exact hs.set_dp rfl
  · exact hs.set_dp rfl

theorem exhausted_sends (hs : Sends q l s u) : Sends q l s (exhausted u h) :=
  .ite (fun _ => statAdd_sends (hs.inc (by decide))) (fun _ => hs.inc (by decide))

theorem pnTaken_sends (hs : Sends q l s u) : Sends q l s (pnTaken u h n) :=
  .ite (fun _ => (hs.set_assoc).raise (by decide)) (fun _ => hs.set_assoc)

theorem pnSealed_sends {e : ScEnt} {x : SaEnt} (hs : Sends q l s u) : Sends q l s (pnSealed u p h e x bs).1 := by
  unfold pnSealed
  dsimp only
  split
  · exact statAdd_sends (keepHash_sends hs)
  · exact statAdd_sends (hs.inc (by decide))

theorem grantSa_sends : Sends q [] s (grantSa s p c h bs).1 := by
  unfold grantSa
  dsimp only
  rw [apply_ite Prod.fst, apply_ite Prod.fst, apply_ite Prod.fst, apply_ite Prod.fst, apply_ite Prod.fst]
  refine .ite (fun _ => ?_) fun _ => .ite (fun _ => ?_) fun _ => .ite (fun _ => ?_) fun _ => .ite (fun _ => ?_) fun _ =>
    .ite (fun _ => ?_) fun _ => ?_
  · exact .inc (by decide) .refl
  · exact exhausted_sends .refl
  · exact .inc (by decide) .refl
  · exact .raise (by decide) (.of_assoc saState_frame (.set_assoc (exhausted_sends .refl)))
  · exact .incFirst (by decide) (by decide) (statAdd_sends .refl)
  · exact pnSealed_sends (pnTaken_sends .refl)

theorem grant_sends {o : Option Nat} {x : Grant} (hg : grant s f bs = (t, o, x)) : Sends q [] s t := by
  obtain rfl : (grant s f bs).1 = t := by rw [hg]
  clear hg
  unfold grant
  dsimp only
  split
  · exact .refl
  split
  · exact .inc (member_ne (by decide)) .refl
  split
  · exact .inc (member_ne (by decide)) .refl
  split
  · exact .inc (by split <;> decide) .refl
  · exact grantSa_sends

/-! PTP event messages (R351, R354), and the latency measured (R184). -/

theorem txTsPut_sends : Sends q [] s (txTsPut s p n bs a b) := by
  unfold txTsPut
  dsimp only
  split
  · exact .incFirst (member_ne (by decide)) (by decide) .refl
  · exact .inc (member_ne (by decide)) (.wr (member_ne (by decide)) (.set_dp rfl .refl))

theorem ptpNoBase_sends (hn : ptpNoBase s p base = some t) : Sends q [] s t := by
  have hskipped : K.ptpSkipped p % 256 ≠ 10 := member_ne (by decide)
  unfold ptpNoBase at hn
  split at hn
  · cases hn
    exact .inc hskipped .refl
  · split at hn
    · cases hn
    · cases hn
      exact .inc (member_ne (by decide)) (.inc hskipped .refl)

theorem ptpEgress_sends : Sends q [] s (ptpEgress s p bs pr a uc base cc).1 := by
  unfold ptpEgress
  split
  · exact ptpNoBase_sends ‹_›
  · exact .refl
  · dsimp only
    split
    · exact .inc (member_ne (by decide)) .refl
    · exact txTsPut_sends

theorem ptpTransparent_sends : Sends q [] s (ptpTransparent s p base bs pr a uc n).1 := by
  unfold ptpTransparent
  dsimp only
  split
  · exact .refl
  · exact .inc (by split <;> exact member_ne (by decide)) .refl

theorem ptpOut_sends (hs : Sends q l s u) : Sends q l s (ptpOut u f).1 := by
  refine hs.silent ?_
  unfold ptpOut
  split
  · exact .refl
  dsimp only
  split
  · exact .refl
  · rw [apply_ite Prod.fst, apply_ite Prod.fst, apply_ite Prod.fst]
    exact .ite (fun _ => .inc (member_ne (by decide)) .refl) fun _ => .ite (fun _ => ptpTransparent_sends) fun _ =>
      .ite (fun _ => ptpEgress_sends) fun _ => .refl

theorem latMeasure_sends (hs : Sends q l s u) : Sends q l s (latMeasure u p 0 wait) := by
  unfold latMeasure
  dsimp only
  split
  · exact hs
  split
  · exact hs.set_dp rfl
  · exact .set_dp rfl (.wr (member_ne (by decide)) (.wr (member_ne (by decide)) (.wr (member_ne (by decide)) (hs.set_dp rfl))))

/-- The frame goes out, once. -/
theorem lineOut_sends (hs : Sends q l s u) : Sends q (.frame .line p bs true :: l) s (lineOut u p bs) := by
  unfold lineOut
  dsimp only
  split
  · exact hs.emit.set_dp rfl
  · exact hs.emit

/-! A frame announced (R19, R168, R169). -/

theorem cellsFree_sends (hs : Sends q l s u) : Sends q l s (cellsFree u p n) := hs.wr (member_ne (by decide))

theorem sliceHeld_sends {P : Prop} [Decidable P] (hs : Sends q l s u) :
    Sends q l s (if P then perfAdd (inc u (K.sliceHeld p) 1) n 1 else u) :=
  .ite (fun _ => .perfAdd (hs.inc (member_ne (by decide)))) (fun _ => hs)

/-- A granted frame goes out on the line, and nothing else does. -/
theorem announce_sends {o : Option Nat} {line : List Byte} (hg : grant s f (ptpOut s f).2 = (t, o, .sent line false)) :
    (announce s f wait).2 = true ∧ Sends q [.frame .line f.q line true] t (announce s f wait).1 := by
  unfold announce
  dsimp only
  rw [hg]
  dsimp only
  refine ⟨rfl, ?_⟩
  simp only [Bool.false_eq_true, if_false]
  refine .set_dp rfl (latMeasure_sends (lineOut_sends (.set_dp rfl (.inc ?_ (.perfAdd (.inc (member_ne (by decide))
    (.inc (member_ne (by decide)) (sliceHeld_sends (.inc (member_ne (by decide)) (.perfAdd (.perfAdd (ptpOut_sends ?_))))))))))))
  · split <;> exact member_ne (by decide)
  · split
    · exact .perfAdd (.perfAdd (cellsFree_sends (.inc (member_ne (by decide)) (.set_dp rfl .refl))))
    · exact .perfAdd (cellsFree_sends (.inc (member_ne (by decide)) (.set_dp rfl .refl)))

end
end Sys2Proof.Machine

/-! The scheduler's turn (R326–R334) and what announces a frame (R151, R181, R182, R327, R328). -/

namespace Sys2Proof.Machine

section
variable {q k n c tc : Nat} {s t u s1 s2 s3 s4 : State} {f : Frm} {rest : List Frm} {line : List Byte} {l : List Output}
  {o : Option Nat} {am : Bool}

/-! What an announcement leaves of its queue and its port (R325, R327–R329). -/

theorem setQue_sends {i : Nat} {x : Que} (hs : Sends q l s u) : Sends q l s (setQue u k i x) := hs.set_dp rfl

theorem charge_sends (hs : Sends q l s u) : Sends q l s (charge u f n) := (setQue_sends hs).set_dp rfl

theorem queLeave_sends (hs : Sends q l s u) : Sends q l s (queLeave u f) := .ite (fun _ => hs) (fun _ => setQue_sends hs)

theorem turnTo_sends (hs : Sends q l s u) : Sends q l s (turnTo u c) := hs.set_dp rfl

/-! The choice of R327. -/

/-- A class that is closed, or has no ready queue, is passed over. -/
theorem schedule_passes (hc : openNow s q tc = true → readyHeads s q tc = []) : schedule s q (tc + 1) = schedule s q tc := by
  have hnone : (if openNow s q tc then readyHeads s q tc else []) = [] := by
    split
    · exact hc ‹_›
    · rfl
  rw [schedule]
  simp [hnone]

/-- The classes from `n` down to one that is not passed over. -/
theorem schedule_descends (hn : tc < n) (hc : ∀ c, c < n → tc < c → openNow s q c = true → readyHeads s q c = []) :
    schedule s q n = schedule s q (tc + 1) := by
  induction n with
  | zero => omega
  | succ n ih =>
    obtain rfl | hlt := Nat.eq_or_lt_of_le (Nat.le_of_lt_succ hn)
    · rfl
    · rw [schedule_passes (hc n (Nat.lt_succ_self n) hlt), ih hlt fun c hcn => hc c (Nat.lt_succ_of_lt hcn)]

/-- The class whose turn gives frame `f` announces it. -/
theorem schedule_announces (ho : openNow s q tc = true) (hne : readyHeads s q tc ≠ [])
    (hd : drrTurn s q tc (readyHeads s q tc) = some (s1, f)) (ha : announce (setOutQ s1 q ((outQ s1 q).erase f)) f 0 = (s2, true)) :
    schedule s q (tc + 1) = turnTo (queLeave (charge s2 f (wlen s1 f)) f) q := by
  have hready : (readyHeads s q tc).isEmpty = false := List.isEmpty_eq_false_iff.mpr hne
  rw [schedule]
  simp [ho, hready, hd, ha]

theorem exec_schedulerAnnounce (hm : mayAnnounce s q = true) (hd : detEn s q = false) (hp : 0 ≤ portBucket (passTo s (annClock s q)) q)
    (hpass : passedOver (passTo s (annClock s q)) q = false) : exec (.schedulerAnnounce q) s =
      done s (schedule (oversize (gateRefresh (passTo s (annClock s q)) q) q) q 8) := by
  refine congrArg (done s) ((if_neg (by simp [hm, hd])).trans (if_neg ?_))
  simp [hpass, hp]

/-- The highest open class with a ready queue sends what its turn gives (R327). -/
theorem runs_schedulerAnnounce (hq : f.q = q) (htc : tc < 8) (hm : mayAnnounce s q = true) (hd : detEn s q = false)
    (h1 : s1 = passTo s (annClock s q)) (hp : 0 ≤ portBucket s1 q) (hpass : passedOver s1 q = false)
    (h2 : s2 = oversize (gateRefresh s1 q) q) (hc : ∀ c, c < 8 → tc < c → openNow s2 q c = true → readyHeads s2 q c = [])
    (ho : openNow s2 q tc = true) (ht : drrTurn s2 q tc (readyHeads s2 q tc) = some (s3, f)) (hne : readyHeads s2 q tc ≠ [])
    (hg : grant (setOutQ s3 q ((outQ s3 q).erase f)) f (ptpOut (setOutQ s3 q ((outQ s3 q).erase f)) f).2 = (s4, o, .sent line false)) :
    Runs (.schedulerAnnounce q) s (fun t => Sends q [.frame .line q line true] s4 t) := by
  subst h1 h2 hq
  obtain ⟨hok, hsent⟩ := announce_sends (q := f.q) (wait := 0) hg
  have hx := exec_schedulerAnnounce hm hd hp hpass
  rw [schedule_descends htc hc, schedule_announces ho hne ht (Prod.ext rfl hok)] at hx
  exact runs_done hx (turnTo_sends (queLeave_sends (charge_sends hsent))).settled

/-! One ready queue. -/

theorem oversize_ungated (h : (gateAt s q).active = none) : oversize s q = s := by
  unfold oversize
  simp only [h, Option.isSome_none, Bool.false_and, Bool.false_eq_true, if_false]
  exact List.foldl_fixed ..

/-- The queue of frame `f` with one quantum more. -/
def quePaid (s : State) (q : Nat) (f : Frm) : State :=
  setQue s (q / 8) f.qi { queAt s (q / 8) f.qi with deficit := (queAt s (q / 8) f.qi).deficit + (queAt s (q / 8) f.qi).quantum }

theorem drrPass_single (hw : (wlen s f : Int) ≤ (queAt s (q / 8) f.qi).deficit + (queAt s (q / 8) f.qi).quantum) :
    drrPass s (q / 8) [f] (n + 1) c = some (quePaid s q f, f) := by
  have hnext : nextHead [f] c = some f := by by_cases hlt : c < f.qi <;> simp [nextHead, hlt]
  simp only [drrPass, hnext]
  exact if_pos hw

/-- The turn of the only ready queue covers its head, with its deficit or with one quantum more. -/
theorem drrTurn_single (hw : (wlen s f : Int) ≤ (queAt s (q / 8) f.qi).deficit + (queAt s (q / 8) f.qi).quantum) :
    ∃ t, drrTurn s q tc [f] = some (t, f) ∧ Sends q [] s t := by
  unfold drrTurn
  dsimp only
  split
  · next g hkeep =>
    obtain rfl : g = f := List.mem_singleton.mp (List.mem_of_find?_eq_some hkeep)
    exact ⟨s, rfl, .refl⟩
  · rw [List.length_singleton, drrPass_single hw]
    exact ⟨_, rfl, (setQue_sends .refl).set_dp rfl⟩

/-- A frame that is not to be secured goes out as it is. -/
theorem grant_bypass (hr : resAction f.res = Act.bypass) (hp : f.ptp = none) : grant s f (ptpOut s f).2 = (s, none, .sent f.bytes false) := by
  have hptp : ptpOut s f = (s, f.bytes) := by simp only [ptpOut, hp]
  rw [hptp, grant, if_pos (by rw [hr]; decide)]

/-- The only frame of a port is a head of its own class alone. -/
theorem readyHeads_other (hq : outQ s q = [f]) (hc : f.qi % 8 ≠ c) : readyHeads s q c = [] := by
  simp [readyHeads, heads, hq, hc]

/-! A deterministic port (R181–R183). -/

/-- The state at the time of a deterministic frame: it has left the frames of its port, and its lateness is counted (R183). -/
def detLate (s : State) (q : Nat) (f : Frm) (rest : List Frm) : State :=
  let s1 := setOutQ (passTo s (Nat.max f.elig (annFree s q))) q rest
  if f.elig < annFree s q then incFirst s1 (K.detLate q) Ev.detLate q 0 else s1

/-- The state in which it is announced: with `am`, its deferral is counted (R182). -/
def detDue (s : State) (q : Nat) (f : Frm) (rest : List Frm) (am : Bool) : State :=
  if am then inc (detLate s q f rest) (K.detAmDefer q) 1 else detLate s q f rest

theorem detLate_sends : Sends q [] (setOutQ (passTo s (Nat.max f.elig (annFree s q))) q rest) (detLate s q f rest) :=
  .ite (fun _ => .incFirst (member_ne (by decide)) (by decide) .refl) (fun _ => .refl)

theorem detDue_leaves : outQ (detDue s q f rest am) q = rest ∧ (detDue s q f rest am).out = s.out ∧
    (detDue s q f rest am).tick.clock = Nat.max s.tick.clock (Nat.max f.elig (annFree s q)) ∧
    (q < 32 → rd (detDue s q f rest am) (K.detAmDefer q) =
      if am then (rd s (K.detAmDefer q) + 1) % 2 ^ widthOf (K.detAmDefer q) else rd s (K.detAmDefer q)) := by
  have hlate := detLate_sends (s := s) (q := q) (f := f) (rest := rest)
  have hq : outQ (detLate s q f rest) q = rest := (hlate.outQ q).trans (outQ_setOutQ_same ..)
  have hclock : (detLate s q f rest).tick.clock = _ := congrArg (·.clock) hlate.tick
  cases am with
  | true => exact ⟨hq, hlate.out, hclock, fun h32 => (rd_inc_same ..).trans (congrArg (fun n => (n + 1) % _) (hlate.defer h32))⟩
  | false => exact ⟨hq, hlate.out, hclock, fun h32 => hlate.defer h32⟩

theorem exec_detAnnounce (hm : mayAnnounce s q = true) (hf : takeStage (outQ s q) 3 = some (f, rest))
    (ht : tagShort (setOutQ (passTo s (Nat.max f.elig (annFree s q))) q rest) f = false) : exec (.detAnnounce q am) s =
      done s (announce (detDue s q f rest am) f (annFree s q - f.elig + if am then amWait (detDue s q f rest am) q else 0)).1 := by
  refine congrArg (done s) ((if_neg (by simp [hm])).trans ?_)
  simp only [hf, ht, Bool.false_eq_true, if_false, Nat.sub_pos_iff_lt, detDue, detLate]

/-- A deterministic frame that is granted goes out, the other frames of its port staying (R181). -/
theorem runs_detAnnounce (hq : f.q = q) (hm : mayAnnounce s q = true) (hf : takeStage (outQ s q) 3 = some (f, rest))
    (ht : tagShort (setOutQ (passTo s (Nat.max f.elig (annFree s q))) q rest) f = false)
    (hg : grant (detDue s q f rest am) f (ptpOut (detDue s q f rest am) f).2 = (t, o, .sent line false)) :
    Runs (.detAnnounce q am) s (fun u => Sends q [.frame .line q line true] t u) := by
  subst hq
  obtain ⟨-, hsent⟩ := announce_sends (q := f.q) (wait := annFree s f.q - f.elig + if am then amWait (detDue s f.q f rest am) f.q else 0) hg
  exact runs_done (exec_detAnnounce hm hf ht) hsent.settled

/-- Settles O27, clause by clause: a single bypass frame and a deterministic one, whatever frame a turn or a channel lets go, and what an
SA answers a frame: its next packet number, its last one, none any more, and none where it is not ACTIVE. -/
theorem announcing : Obligations.Announcing := by
  refine ⟨?_, ?_, ?_, ?_, ?_, ?_, ?_, ?_⟩
  · intro q f s s1 hq hfq hm hd h1 hp hpass hgate hout hstage hptp hact hready hw
    obtain ⟨hw1, hgate1, hout1⟩ : (wlen s1 f : Int) ≤ (queAt s1 (q / 8) f.qi).deficit + (queAt s1 (q / 8) f.qi).quantum ∧
        (gateAt s1 q).active = none ∧ outQ s1 q = [f] := by
      subst h1
      exact ⟨hw, hgate, hout⟩
    have h2 : s1 = oversize (gateRefresh s1 q) q := by
      have hrefresh : gateRefresh s1 q = s1 := by simp only [gateRefresh, hgate1]
      rw [hrefresh, oversize_ungated hgate1]
    obtain ⟨s3, hturn, hs3⟩ := drrTurn_single (tc := f.qi % 8) hw1
    have herase : (outQ s3 q).erase f = [] := by rw [hs3.outQ, hout1]; simp
    have hopen : openNow s1 q (f.qi % 8) = true := by simp only [openNow, hgate1]
    refine (runs_schedulerAnnounce hfq (Nat.mod_lt _ (by decide)) hm hd h1 hp hpass h2
      (fun c _ hc _ => readyHeads_other hout1 (by omega)) hopen (hready ▸ hturn) (by simp [hready]) (grant_bypass hact hptp)).mono
      fun t ht => ⟨?_, ?_⟩
    · rw [ht.outQ, outQ_setOutQ_same, herase]
    · rw [ht.out]
      change _ :: s3.out = _
      rw [hs3.out, h1]
      rfl
  · intro q am f rest s hq hfq hm _ hf hptp hact helig
    obtain ⟨houtq, hout, hclock, hdefer⟩ := detDue_leaves (s := s) (q := q) (f := f) (rest := rest) (am := am)
    have htags : tagShort (setOutQ (passTo s (Nat.max f.elig (annFree s q))) q rest) f = false := by
      simp [tagShort, hact, Act.bypass, Act.secure]
    have hnow : Nat.max f.elig (annFree s q) = f.elig := Nat.max_eq_left helig
    refine (runs_detAnnounce hfq hm hf htags (grant_bypass hact hptp)).mono fun t ht => ⟨?_, ?_, ?_, fun ham => ?_, fun ham => ?_⟩
    · rw [ht.outQ, houtq]
    · rw [ht.tick, hclock, hnow]
    · rw [ht.out, hout, List.singleton_append]
    · rw [Counts, ht.defer hq, hdefer hq, if_pos ham]
    · rw [ht.defer hq, hdefer hq, if_neg (by simp [ham])]
  · intro q tc f line h s s1 s2 s3 s4 hq hfq htc hm hd h1 hp hpass h2 hc ho ht hne hg
    have hgrant : Sends q [] _ s4 := grant_sends hg
    refine (runs_schedulerAnnounce hfq htc hm hd h1 hp hpass h2 hc ho ht hne hg).mono fun t hsent => ⟨?_, hsent.out⟩
    rw [hsent.outQ, hgrant.outQ, outQ_setOutQ_same]
  · intro q am f rest line h s s1 s2 s3 hq hfq hm hf h1 htags h2 hg
    subst h1
    obtain rfl : s2 = detDue s q f rest am := h2
    have hgrant : Sends q [] _ s3 := grant_sends hg
    obtain ⟨houtq, -⟩ := detDue_leaves (s := s) (q := q) (f := f) (rest := rest) (am := am)
    refine (runs_detAnnounce hfq hm hf htags hg).mono fun t hsent => ⟨?_, hsent.out⟩
    rw [hsent.outQ, hgrant.outQ, houtq]
  · intro s q c h b he hl ha hp hr hk
    obtain ⟨hpn, hother, hslot, hdp, hframe⟩ := pnTaken_leaves (s := s) (h := h) (lim := pnLimit s (scAt s c))
    rw [grantSa_takes hl he ha hp (by rw [hr, Bool.false_and]), pnSealed_complete hslot hk, keepHash_congr hdp]
    obtain ⟨hsa, hcounted⟩ := pnCounted_leaves (s := pnTaken s h (pnLimit s (scAt s c))) (q := q) (h := h)
      (key := slotKey (slotAt s h) (suiteKey (scAt s c).suite)) (frames := 1) (octets := b.length + 4 + expansion (scAt s c))
      (fails := 0) (drops := 0)
    exact ⟨rfl, by rw [hsa, hpn], fun g hg => by rw [hsa, hother g hg], (hframe.mono (by simp) (by simp)).trans hcounted.toEv⟩
  · intro s q c h b he hl ha hp
    obtain ⟨hst, hexh, hcount, hframe⟩ := pnEnded_leaves (s := s) (c := c) (h := h)
    have hassoc : (raise (pnEnded s c h) Ev.pnExhausted h 0).assoc = (pnEnded s c h).assoc := raise_assoc _ _ _ _ (by decide)
    rw [grantSa_last hl he ha hp]
    exact ⟨rfl, by rw [saAt_congr hassoc, hst], by rw [scAt_congr hassoc, hexh], hcount.of_rd (rd_raise _ _ _ _ _ (by decide) (by decide)),
      raise_sets_pending _ _ _ _ (by decide), (hframe.mono (by simp) (by simp)).toEv.raise (by decide)⟩
  · intro s q c h b he hl
    obtain ⟨-, -, hcount, hframe⟩ := exhausted_leaves (s := s) (h := h)
    rw [grantSa_exhausted hl he]
    exact ⟨rfl, hcount, hframe⟩
  · intro s q c h b he hl ha hx
    rw [grantSa_inactive hl he hx ha]
    exact ⟨rfl, Counts.of_inc rfl, .inc (by simp) .refl⟩

end
end Sys2Proof.Machine

/-! The controls of the cipher datapath (R179, R192, R198): CIPHER_CTRL and LAT_CLEAR. -/

namespace Sys2Proof.Machine

section
variable {s : State} {r : Req} {q v i : Nat}

/-! CIPHER_CTRL (R179). -/

/-- A defined bit of CIPHER_CTRL is stored as written. -/
theorem bit_cipherBits (hi : bit 0x33 i = true) : bit (Nat.land v 0x33) i = bit v i := by
  have hland : (Nat.land v 0x33).testBit i = (v.testBit i && Nat.testBit 0x33 i) := Nat.testBit_and v 0x33 i
  rw [bit_eq_testBit] at hi
  rw [bit_eq_testBit, bit_eq_testBit, hland, hi, Bool.and_true]

/-- Another port of the slice pair of `q` is deterministic (R179). -/
def detInPair (s : State) (q : Nat) : Bool :=
  (List.range 8).any fun i => 8 * (q / 8) + i != q && detEn s (8 * (q / 8) + i) && isPort s (8 * (q / 8) + i)

theorem detInPair_of_port (hi : i < 8) (hne : 8 * (q / 8) + i ≠ q) (hd : detEn s (8 * (q / 8) + i) = true)
    (hp : isPort s (8 * (q / 8) + i) = true) : detInPair s q = true :=
  List.any_eq_true.2 ⟨i, List.mem_range.2 hi, by simp [hne, hd, hp]⟩

/-- What a write of CIPHER_CTRL does, by the written DET_EN and VERIFY_SF and the two that stand. -/
theorem cipherCtrlEff_eq : cipherCtrlEff q v s =
    if (bit v 0 && (bit v 1 || (!detEn s q && (rdBit s (K.cipherCtrl q) 1 || detInPair s q)))) ||
      (bit v 1 && !rdBit s (K.cipherCtrl q) 1 && detEn s q) then abortR s .wrongState
    else okR (wr s (K.cipherCtrl q) (Nat.land v 0x33)) := by
  have hdet : bit (Nat.land v 0x33) 0 = bit v 0 := bit_cipherBits (by decide)
  have hsf : bit (Nat.land v 0x33) 1 = bit v 1 := bit_cipherBits (by decide)
  rw [← hdet, ← hsf]
  rfl

/-- With neither DET_EN nor VERIFY_SF nothing stands against the write. -/
theorem cipherCtrlEff_stores (h0 : bit v 0 = false) (h1 : bit v 1 = false) :
    cipherCtrlEff q v s = okR (wr s (K.cipherCtrl q) (Nat.land v 0x33)) := by
  rw [cipherCtrlEff_eq, if_neg (by simp [h0, h1])]

/-- DET_EN is refused with VERIFY_SF in the same write, and where it would rise beside another deterministic port of the pair. -/
theorem cipherCtrlEff_refuses (h0 : bit v 0 = true) (h : bit v 1 = true ∨ detEn s q = false ∧ detInPair s q = true) :
    cipherCtrlEff q v s = abortR s .wrongState := by
  rw [cipherCtrlEff_eq]
  rcases h with h1 | ⟨hdet, hpair⟩
  · rw [if_pos (by simp [h0, h1])]
  · rw [if_pos (by simp [h0, hdet, hpair])]

theorem exec_cipherCtrlWrite (hv : v < 2 ^ 32) :
    exec (.cipherCtrlWrite r q v) s = done s (access s r (K.cipherCtrl q) true (cipherCtrlEff q v)) := by
  change done s (access s r (K.cipherCtrl q) true (cipherCtrlEff q (v % 2 ^ 32))) = _
  rw [Nat.mod_eq_of_lt hv]

theorem detEn_cipherWritten {x : Nat} : detEn (wr s (K.cipherCtrl q) x) q = bit x 0 := by rw [detEn, rdBit, rd_wr_same]

theorem runs_cipherCtrlRefused (hv : v < 2 ^ 32) (hg : Admitted s r (K.cipherCtrl q) true) (h0 : bit v 0 = true)
    (h : bit v 1 = true ∨ detEn s q = false ∧ detInPair s q = true) :
    Runs (.cipherCtrlWrite r q v) s (fun t => t.reply.code = .wrongState ∧ Frame [] [.chans] s t) :=
  runs_answered (exec_cipherCtrlWrite hv) hg (he := cipherCtrlEff_refuses h0 h) fun _ => ⟨rfl, .answered (by simp) .refl⟩

/-! LAT_CLEAR (R198). -/

/-- The registers of the least and the greatest latency of port `q`, out and in. -/
def latRegs (q : Nat) : List Nat := [K.latOutMin q, K.latOutMax q, K.latInMin q, K.latInMax q]

theorem latRegs_nodup : (latRegs q).Nodup := by
  simp [latRegs, K.latOutMin, K.latOutMax, K.latInMin, K.latInMax]

/-- The minima read all ones and the maxima 0. -/
def latCleared (s : State) (q : Nat) : State :=
  wr (wr (wr (wr s (K.latOutMin q) (2 ^ 32 - 1)) (K.latOutMax q) 0) (K.latInMin q) (2 ^ 32 - 1)) (K.latInMax q) 0

theorem exec_latClear : exec (.latClear r q) s = done s (access s r (K.latClear q) true (latClearEff q 1)) := rfl

theorem latClearEff_one : latClearEff q 1 s = okR (latCleared s q) := if_neg (by decide)

theorem latCleared_reads : rd (latCleared s q) (K.latOutMin q) = 2 ^ 32 - 1 ∧ rd (latCleared s q) (K.latOutMax q) = 0 ∧
    rd (latCleared s q) (K.latInMin q) = 2 ^ 32 - 1 ∧ rd (latCleared s q) (K.latInMax q) = 0 := by
  have hd := latRegs_nodup (q := q)
  simp only [latRegs, List.nodup_cons, List.mem_cons, List.not_mem_nil, or_false, not_or] at hd
  obtain ⟨⟨hab, hac, had⟩, ⟨hbc, hbd⟩, hcd, -⟩ := hd
  refine ⟨?_, ?_, ?_, rd_wr_same ..⟩
  · rw [latCleared, rd_wr_ne _ _ (Ne.symm had), rd_wr_ne _ _ (Ne.symm hac), rd_wr_ne _ _ (Ne.symm hab), rd_wr_same]
  · rw [latCleared, rd_wr_ne _ _ (Ne.symm hbd), rd_wr_ne _ _ (Ne.symm hbc), rd_wr_same]
  · rw [latCleared, rd_wr_ne _ _ (Ne.symm hcd), rd_wr_same]

theorem latCleared_frame : Frame (latRegs q) [] s (latCleared s q) :=
  .wr (by simp [latRegs]) (.wr (by simp [latRegs]) (.wr (by simp [latRegs]) (.wr (by simp [latRegs]) .refl)))

/-- Settles O28, clause by clause: CIPHER_CTRL stored, the two refusals of DET_EN, and LAT_CLEAR. -/
theorem cipherControls : Obligations.CipherControls := by
  refine ⟨?_, ?_, ?_, ?_⟩
  · intro r q v s _ hv h0 h1 hg
    refine runs_answered (exec_cipherCtrlWrite hv) hg (he := cipherCtrlEff_stores h0 h1) fun _ => ⟨rfl, ?_, ?_, ?_⟩
    · exact rd_answered.trans (rd_wr_same ..)
    · exact detEn_cipherWritten.trans ((bit_cipherBits (by decide)).trans h0)
    · exact .answered (by simp) (.wr (by simp) .refl)
  · intro r q i v s _ hv h0 hdet hi hne hd hp hg
    exact runs_cipherCtrlRefused hv hg h0 (.inr ⟨hdet, detInPair_of_port hi hne hd hp⟩)
  · intro r q v s hv h0 h1 hg
    exact runs_cipherCtrlRefused hv hg h0 (.inl h1)
  · intro r q s _ hg
    obtain ⟨houtMin, houtMax, hinMin, hinMax⟩ := latCleared_reads (s := s) (q := q)
    refine runs_answered exec_latClear hg (he := latClearEff_one) fun _ => ⟨rfl, ?_, ?_, ?_, ?_, ?_⟩
    · exact rd_answered.trans houtMin
    · exact rd_answered.trans houtMax
    · exact rd_answered.trans hinMin
    · exact rd_answered.trans hinMax
    · exact .answered (by simp) (latCleared_frame.mono (by simp [latRegs]) (by simp))

end
end Sys2Proof.Machine

/-! The jobs of the Beryl engine as they end (R209, R211, R212): completions posted, output areas zeroed, jobs stopped. -/

namespace Sys2Proof.Machine

section
variable {s t u : State} {d : List Word} {j : BRun} {urgent : Bool} {st n off : Nat} {lock : Rng} {b : List Byte}

/-! The jobs the engine holds. -/

/-- The jobs in the engine: running, suspended and queued (R205). -/
structure Jobs where
  run    : Option BRun
  susp   : Option BRun
  urgent : List (List Word)
  normal : List (List Word)

def jobsOf (s : State) : Jobs := ⟨s.beryl.run, s.beryl.susp, s.beryl.urgent, s.beryl.normal⟩

/-- The engine goes from `s` to `t` and then holds the jobs `x`: besides itself it changed the count of completions, and it may have
raised its events. -/
structure LeavesJobs (s : State) (x : Jobs) (t : State) : Prop where
  jobs  : jobsOf t = x
  frame : EvFrame [K.berylJobs] [.beryl] s t

theorem LeavesJobs.trans {x y : Jobs} (h : LeavesJobs s x t) (h' : LeavesJobs t y u) : LeavesJobs s y u :=
  ⟨h'.jobs, h.frame.trans h'.frame⟩

theorem LeavesJobs.refl : LeavesJobs s (jobsOf s) s := ⟨rfl, .refl⟩

theorem LeavesJobs.of_beryl {x : Beryl} {y : Jobs} (h : jobsOf { s with beryl := x } = y) : LeavesJobs s y { s with beryl := x } :=
  ⟨h, .set_beryl (by simp) .refl⟩

/-! Completions (R211). -/

/-- The two words of a completion: JOB_TAG, queue and status, and the source bytes processed. -/
def completion (d : List Word) (urgent : Bool) (st n : Nat) : Nat × Nat := (dWord d 0 7 0 * 2 ^ 24 + b2n urgent * 2 ^ 16 + st, n)

/-- A completion enters the FIFO, counted. -/
def posted (s : State) (e : Nat × Nat) : State := inc { s with beryl := { s.beryl with done := s.beryl.done ++ [e] } } K.berylJobs 1

theorem posted_leaves {e : Nat × Nat} : LeavesJobs s (jobsOf s) (posted s e) := ⟨rfl, .inc (by simp) (.set_beryl (by simp) .refl)⟩

theorem berylPost_leaves : LeavesJobs s (jobsOf s) (berylPost s d urgent st n lock) := by
  unfold berylPost
  dsimp only
  split
  · exact .of_beryl rfl
  · have hposted := posted_leaves (s := s) (e := completion d urgent st n)
    split
    · exact ⟨by rw [← hposted.jobs, jobsOf, raise_beryl _ _ _ _ (by decide)]; rfl, hposted.frame.raise (by decide)⟩
    · exact hposted

/-- The first completion of an empty FIFO, which raises BERYL_COMPLETE. -/
theorem berylPost_first (hd : s.beryl.done = []) (hh : s.beryl.held = []) :
    berylPost s d urgent st n lock = raise (posted s (completion d urgent st n)) Ev.berylComplete 0 0 := by
  have hroom : (decide (berylDoneMax ≤ s.beryl.done.length) || !s.beryl.held.isEmpty) = false := by simp [hd, hh, berylDoneMax]
  have hempty : s.beryl.done.isEmpty = true := by simp [hd]
  unfold berylPost
  dsimp only
  rw [if_neg (by simp [hroom]), if_pos hempty]
  rfl

theorem berylPost_first_reads (hd : s.beryl.done = []) (hh : s.beryl.held = []) :
    (berylPost s d urgent st n lock).beryl = { s.beryl with done := [completion d urgent st n] } ∧
      Counts s (berylPost s d urgent st n lock) K.berylJobs 1 ∧ Pending (berylPost s d urgent st n lock) Ev.berylComplete := by
  rw [berylPost_first hd hh]
  refine ⟨?_, ?_, raise_sets_pending _ _ _ _ (by decide)⟩
  · rw [raise_beryl _ _ _ _ (by decide)]
    simp [posted, inc, hd]
  · exact Counts.of_rd (.of_inc rfl) (rd_raise _ _ _ _ _ (by decide) (by decide))

/-! The output area of a job in the I/O buffer (R209). -/

theorem berylPut_io {pos : Nat} {f : MemFault} (h : (dstRange d).1 = false) :
    berylPut s d pos b f = (ioPut s ((dstRange d).2.2.1 + pos) b, true) := if_pos (congrArg Bool.not h)

theorem berylZero_io (hf : j.fail = 0) (h : (dstRange j.desc).1 = false) :
    berylZero s j = ioPut s (dstRange j.desc).2.2.1 (List.replicate (outLen j.desc) 0) := by
  rw [berylZero, if_pos hf, berylPut_io h, Nat.add_zero]

theorem berylZero_leaves (h : (dstRange j.desc).1 = false) : LeavesJobs s (jobsOf s) (berylZero s j) := by
  by_cases hf : j.fail = 0
  · rw [berylZero_io hf h]
    exact .of_beryl rfl
  · rw [berylZero, if_neg hf]
    exact .refl

/-! Jobs that are stopped (R212). -/

theorem berylStop_leaves (h : (dstRange j.desc).1 = false) : LeavesJobs s (jobsOf s) (berylStop s j st) := by
  have hzero := berylZero_leaves (s := s) h
  rw [← hzero.jobs]
  exact hzero.trans berylPost_leaves

theorem berylDrop_leaves (l : List (List Word)) : LeavesJobs s (jobsOf s) (berylDrop s urgent l st) := by
  induction l generalizing s with
  | nil => exact .refl
  | cons d l ih =>
    have hpost : LeavesJobs s (jobsOf s) (berylPost s d urgent st 0 (false, 0, 0, 0)) := berylPost_leaves
    rw [← hpost.jobs]
    exact hpost.trans ih

theorem berylPartly_le : berylPartly s d ≤ dLen d := Nat.le_of_lt_succ (Nat.mod_lt _ (Nat.succ_pos _))

/-- A started job that stops before any completion waits: its output area is zeroed and its completion is the FIFO's one. -/
theorem berylStop_first (hf : j.fail = 0) (h : (dstRange j.desc).1 = false) (hd : s.beryl.done = []) (hh : s.beryl.held = []) :
    (berylStop s j st).beryl.io = (ioPut s (dstRange j.desc).2.2.1 (List.replicate (outLen j.desc) 0)).beryl.io ∧
      (∃ n, n ≤ dLen j.desc ∧ (berylStop s j st).beryl.done = [completion j.desc j.urgent st n]) ∧
      Pending (berylStop s j st) Ev.berylComplete := by
  rw [berylStop, berylZero_io hf h]
  obtain ⟨hberyl, -, hpending⟩ := berylPost_first_reads (s := ioPut s (dstRange j.desc).2.2.1 (List.replicate (outLen j.desc) 0))
    (d := j.desc) (urgent := j.urgent) (st := st) (n := berylPartly s j.desc) (lock := dstRange j.desc) hd hh
  exact ⟨by rw [hberyl], ⟨_, berylPartly_le, by rw [hberyl]⟩, hpending⟩

/-- The running job has left the engine, the suspended one has, or the queued ones have. -/
def runLeft (s : State) : State := { s with beryl := { s.beryl with run := none } }
def suspLeft (s : State) : State := { s with beryl := { s.beryl with susp := none } }
def queuesLeft (s : State) : State := { s with beryl := { s.beryl with urgent := [], normal := [] } }

/-- The two parts of `berylStopRun`: the running job, then the suspended one. -/
def runStopped (s : State) (p : BRun → Bool) (st : Nat) : State :=
  match s.beryl.run with
  | some j => if p j then berylStop (runLeft s) j st else s
  | none => s
def suspStopped (s : State) (p : BRun → Bool) (st : Nat) : State :=
  match s.beryl.susp with
  | some j => if p j then berylStop (suspLeft s) j st else s
  | none => s

variable {p : BRun → Bool}

theorem berylStopRun_eq : berylStopRun s p st = suspStopped (runStopped s p st) p st := rfl

theorem runStopped_kept (h : ∀ j, s.beryl.run = some j → p j = false) : runStopped s p st = s := by
  unfold runStopped
  split
  · next j hj => simp [h j hj]
  · rfl

theorem suspStopped_kept (h : ∀ j, s.beryl.susp = some j → p j = false) : suspStopped s p st = s := by
  unfold suspStopped
  split
  · next j hj => simp [h j hj]
  · rfl

theorem berylStopRun_kept (hr : ∀ j, s.beryl.run = some j → p j = false) (hs : ∀ j, s.beryl.susp = some j → p j = false) :
    berylStopRun s p st = s := by rw [berylStopRun_eq, runStopped_kept hr, suspStopped_kept hs]

/-- Only the running job is named. -/
theorem berylStopRun_running (hr : s.beryl.run = some j) (hp : p j = true) (hs : ∀ k, s.beryl.susp = some k → p k = false)
    (h : (dstRange j.desc).1 = false) : berylStopRun s p st = berylStop (runLeft s) j st := by
  have hrun : runStopped s p st = berylStop (runLeft s) j st := by simp [runStopped, hr, hp]
  have hsusp : (berylStop (runLeft s) j st).beryl.susp = s.beryl.susp := congrArg Jobs.susp (berylStop_leaves h).jobs
  rw [berylStopRun_eq, hrun, suspStopped_kept (hsusp ▸ hs)]

theorem runStopped_every (h : ∀ j, s.beryl.run = some j → (dstRange j.desc).1 = false) :
    LeavesJobs s { jobsOf s with run := none } (runStopped s (fun _ => true) st) := by
  unfold runStopped
  split
  · next j hj => exact LeavesJobs.trans (t := runLeft s) (.of_beryl rfl) (berylStop_leaves (h j hj))
  · next hn => exact ⟨by rw [← hn]; rfl, .refl⟩

theorem suspStopped_every (h : ∀ j, s.beryl.susp = some j → (dstRange j.desc).1 = false) :
    LeavesJobs s { jobsOf s with susp := none } (suspStopped s (fun _ => true) st) := by
  unfold suspStopped
  split
  · next j hj => exact LeavesJobs.trans (t := suspLeft s) (.of_beryl rfl) (berylStop_leaves (h j hj))
  · next hn => exact ⟨by rw [← hn]; rfl, .refl⟩

theorem mem_startedJobs : j ∈ startedJobs s ↔ s.beryl.run = some j ∨ s.beryl.susp = some j := by
  simp [startedJobs]

theorem berylStopRun_every (h : ∀ j ∈ startedJobs s, (dstRange j.desc).1 = false) :
    LeavesJobs s { jobsOf s with run := none, susp := none } (berylStopRun s (fun _ => true) st) := by
  have hrun := runStopped_every (st := st) fun j hj => h j (mem_startedJobs.2 (.inl hj))
  have hkept : (runStopped s (fun _ => true) st).beryl.susp = s.beryl.susp := congrArg Jobs.susp hrun.jobs
  have hsusp := suspStopped_every (st := st) (s := runStopped s (fun _ => true) st)
    fun j hj => h j (mem_startedJobs.2 (.inr (hkept ▸ hj)))
  rw [hrun.jobs] at hsusp
  exact hrun.trans hsusp

/-- Every job ends, the queued ones after the started ones. -/
theorem berylStopAll_leaves (h : ∀ j ∈ startedJobs s, (dstRange j.desc).1 = false) :
    LeavesJobs s ⟨none, none, [], []⟩ (berylStopAll s st) := by
  have hstarted : LeavesJobs (queuesLeft s) ⟨none, none, [], []⟩ (berylStopRun (queuesLeft s) (fun _ => true) st) :=
    berylStopRun_every (s := queuesLeft s) h
  have hurgent := hstarted.trans (berylDrop_leaves (urgent := true) (st := st) s.beryl.urgent)
  have hnormal := hurgent.trans (berylDrop_leaves (urgent := false) (st := st) s.beryl.normal)
  have hdropped : LeavesJobs s _ (berylStopAll s st) := LeavesJobs.trans (t := queuesLeft s) (.of_beryl rfl) hnormal
  exact ⟨by rw [hdropped.jobs, hurgent.jobs, hstarted.jobs], hdropped.frame⟩

end
end Sys2Proof.Machine

/-! The Beryl engine's descriptors and queues (R200, R201, R205): what a submit leaves, and which job starts. -/

namespace Sys2Proof.Machine

section
variable {s : State} {r : Req} {c : Instr} {v : Nat} {d : List Word} {l : List (List Word)} {j : BRun}

/-! Descriptors (R200). -/

theorem exec_berylDescWrite (hv : v < 2 ^ 32) : exec (.berylDescWrite r v) s = done s (access s r K.berylDesc true (berylDescEff r v)) := by
  change done s (access s r K.berylDesc true (berylDescEff r (v % 2 ^ 32))) = _
  rw [Nat.mod_eq_of_lt hv]

theorem berylDescEff_stages (hh : heldByOther s Grp.beryl r.ch = false) : berylDescEff r v s =
    okR (descNext (setStage (claim s Grp.beryl r.ch) Grp.beryl
      (lset (descStage s) s.beryl.ptr (Nat.land v (nth descMask s.beryl.ptr))))) := claimed_free hh

/-! Submits (R200, R201). -/

/-- The queue a submit of `v` names is full. -/
def queueFull (s : State) (v : Nat) : Bool := if v = 1 then decide (8 ≤ s.beryl.urgent.length) else decide (32 ≤ s.beryl.normal.length)

/-- The engine with the staged descriptor at the tail of that queue. -/
def submitted (s : State) (v : Nat) : Beryl :=
  if v = 1 then { s.beryl with ptr := 0, urgent := s.beryl.urgent ++ [descStage s] }
  else { s.beryl with ptr := 0, normal := s.beryl.normal ++ [descStage s] }

theorem berylSubmitEff_eq (hv : v = 1 ∨ v = 2) (hh : heldByOther s Grp.beryl r.ch = false) (hd : descOk (descStage s) = true) :
    berylSubmitEff r v s =
      if queueFull s v || berylClearing s || (keyBlock s && opKeyEntry (dOp (descStage s))) then
        abortR (claim s Grp.beryl r.ch) .wrongState
      else okR (discard { claim s Grp.beryl r.ch with beryl := submitted s v } Grp.beryl) := by
  rw [berylSubmitEff, if_neg (by omega), claimed_free hh]
  exact if_neg (by simp [show descOk (descStage (claim s Grp.beryl r.ch)) = true from hd])

theorem runs_berylSubmits (hx : exec c s = done s (access s r K.berylSubmit true (berylSubmitEff r v)))
    (hg : Admitted s r K.berylSubmit true) (hv : v = 1 ∨ v = 2) (hh : heldByOther s Grp.beryl r.ch = false)
    (hd : descOk (descStage s) = true) (hq : queueFull s v = false) (hc : berylClearing s = false)
    (hk : keyBlock s = true → opKeyEntry (dOp (descStage s)) = false) : Runs c s (fun t =>
      Answers t [] ∧ t.beryl = submitted s v ∧ stageOf t Grp.beryl = [] ∧ Frame [] [.chans, .staging, .beryl] s t) := by
  have hadmits : (queueFull s v || berylClearing s || (keyBlock s && opKeyEntry (dOp (descStage s)))) = false := by
    cases hb : keyBlock s <;> simp_all
  refine runs_answered hx hg (he := (berylSubmitEff_eq hv hh hd).trans (if_neg (by simp [hadmits]))) fun _ => ⟨rfl, rfl, ?_, ?_⟩
  · exact tget_tdel_same ..
  · exact .answered (by simp) (.discard (by simp) (.set_beryl (by simp) (.claim (by simp) .refl)))

theorem runs_berylSubmitFull (hx : exec c s = done s (access s r K.berylSubmit true (berylSubmitEff r v)))
    (hg : Admitted s r K.berylSubmit true) (hv : v = 1 ∨ v = 2) (hh : heldByOther s Grp.beryl r.ch = false)
    (hd : descOk (descStage s) = true) (hq : queueFull s v = true) : Runs c s (fun t =>
      t.reply.code = .wrongState ∧ t.beryl = s.beryl ∧ Frame [] [.chans, .staging] s t) :=
  runs_answered hx hg (he := (berylSubmitEff_eq hv hh hd).trans (if_pos (by simp [hq]))) fun _ =>
    ⟨rfl, rfl, .answered (by simp) (.claim (by simp) .refl)⟩

/-! The job that starts (R205). -/

theorem berylStarts_free (hr : s.beryl.run = none) (hd : s.beryl.done.length < 64) (hc : berylClearing s = false) :
    (s.beryl.run.isSome || decide (berylDoneMax ≤ s.beryl.done.length) || berylClearing s) = false := by
  have hroom : ¬ berylDoneMax ≤ s.beryl.done.length := Nat.not_le.2 hd
  simp [hr, hc, hroom]

theorem exec_berylJobStart_urgent (hr : s.beryl.run = none) (hd : s.beryl.done.length < 64) (hc : berylClearing s = false)
    (hu : s.beryl.urgent = d :: l) :
    exec .berylJobStart s = done s (berylStart { s with beryl := { s.beryl with urgent := l } } d true) := by
  change execBerylJobStart s = _
  rw [execBerylJobStart, berylStarts_free hr hd hc, hu]
  rfl

theorem exec_berylJobStart_susp (hr : s.beryl.run = none) (hd : s.beryl.done.length < 64) (hc : berylClearing s = false)
    (hu : s.beryl.urgent = []) (hs : s.beryl.susp = some j) :
    exec .berylJobStart s = done s { s with beryl := { s.beryl with run := some j, susp := none } } := by
  change execBerylJobStart s = _
  rw [execBerylJobStart, berylStarts_free hr hd hc, hu, hs]
  rfl

theorem exec_berylJobStart_normal (hr : s.beryl.run = none) (hd : s.beryl.done.length < 64) (hc : berylClearing s = false)
    (hu : s.beryl.urgent = []) (hs : s.beryl.susp = none) (hn : s.beryl.normal = d :: l) :
    exec .berylJobStart s = done s (berylStart { s with beryl := { s.beryl with normal := l } } d false) := by
  change execBerylJobStart s = _
  rw [execBerylJobStart, berylStarts_free hr hd hc, hu, hs, hn]
  rfl

theorem exec_berylJobStart_busy (h : s.beryl.run.isSome = true ∨ 64 ≤ s.beryl.done.length) : exec .berylJobStart s = done s s := by
  change done s (if _ then s else _) = _
  rw [if_pos (by obtain h | h := h <;> simp [h, berylDoneMax])]

theorem exec_berylJobStart_idle (hu : s.beryl.urgent = []) (hs : s.beryl.susp = none) (hn : s.beryl.normal = []) :
    exec .berylJobStart s = done s s := by
  change done s (if _ then s else _) = _
  rw [hu, hs, hn]
  exact congrArg (done s) (ite_self s)

/-- A job starts after its queue let it go (`x`), which its checks at the start do not ask about. -/
theorem runs_berylStart {x : Beryl} {urgent : Bool} (hx : exec c s = done s (berylStart { s with beryl := x } d urgent))
    (hs : berylStartStatus { s with beryl := x } d = berylStartStatus s d) : Runs c s (fun t =>
      (∃ key, t.beryl = { x with run := some ⟨d, urgent, berylStartStatus s d, false, key, [], 0, false⟩ }) ∧ Frame [] [.beryl] s t) :=
  runs_done hx ⟨⟨_, by rw [← hs]; rfl⟩, (Frame.set_beryl (by simp) (.set_beryl (by simp) .refl)).settled⟩

end
end Sys2Proof.Machine

/-! The Beryl engine's running job (R205, R209, R211): suspended, or at its end. -/

namespace Sys2Proof.Machine

section
variable {s : State} {j : BRun} {f : MemFault} {suspect : Bool} {pos len : Nat} {x out : List Byte}

/-- R202: a source in the I/O buffer is read from there. -/
theorem berylSrc_io (h : (srcRange j.desc).1 = false) :
    berylSrc s j pos len = (s, some (ioBytes s ((srcRange j.desc).2.2.1 + pos) len)) := if_pos (congrArg Bool.not h)

/-! Suspension (R205). -/

/-- The output of a job in the I/O buffer, up to where it stands, is in place. -/
def putSoFar (s : State) (j : BRun) (out : List Byte) : State := ioPut s ((dstRange j.desc).2.2.1 + j.put) (out.drop j.put)

theorem berylAdvance_io (hsrc : (srcRange j.desc).1 = false) (hdst : (dstRange j.desc).1 = false)
    (hx : x = j.ctx ++ ioBytes s ((srcRange j.desc).2.2.1 + j.ctx.length) (pos - j.ctx.length)) (ho : out = berylStream j.desc j.key x) :
    berylAdvance s j pos = (putSoFar s j out, { j with ctx := x, put := out.length }) := by
  subst hx ho
  simp [berylAdvance, berylSrc_io hsrc, berylPut_io hdst, putSoFar]

/-- The engine with its running job saved, counted. -/
def suspended (s : State) (j : BRun) (x out : List Byte) : State :=
  let u := putSoFar s j out
  inc { u with beryl := { u.beryl with run := none, susp := some { j with ctx := x, put := out.length } } } K.berylPreempts 1

theorem exec_berylSuspend (hr : s.beryl.run = some j) (hn : j.urgent = false) (hf : j.fail = 0) (hop : dOp j.desc < 0x10)
    (hu : s.beryl.urgent ≠ []) (hc : berylClearing s = false)
    (ha : berylAdvance s j (berylReached s j) = (putSoFar s j out, { j with ctx := x, put := out.length })) :
    exec .berylSuspend s = done s (suspended s j x out) := by
  have hmay : (!j.urgent && j.fail == 0 && decide (dOp j.desc < 0x10) && !s.beryl.urgent.isEmpty && !berylClearing s) = true := by
    simp [hn, hf, hop, hu, hc]
  change execBerylSuspend s = _
  simp only [execBerylSuspend, hr, hmay, if_true, ha]
  rfl

theorem suspended_frame : Frame [K.berylPreempts] [.beryl] s (suspended s j x out) :=
  .inc (by simp) (.set_beryl (by simp) (.set_beryl (by simp) .refl))

/-! The end of a job (R209, R211). -/

theorem exec_berylJobDone {b : Bool} (hr : s.beryl.run = some j) (hc : berylClearing s = false) :
    exec (.berylJobDone b f) s = done s (berylFinish s j (b || j.suspect) f) := by
  change execBerylJobDone b f s = _
  simp [execBerylJobDone, hr, hc]

/-- The whole source of a job in the I/O buffer: what it consumed before a suspension, and the rest. -/
def wholeSource (s : State) (j : BRun) : List Byte :=
  j.ctx ++ ioBytes s ((srcRange j.desc).2.2.1 + j.ctx.length) ((srcRange j.desc).2.2.2 - j.ctx.length)

theorem berylDeliver_io (hdst : (dstRange j.desc).1 = false) (hop : opKeyEntry (dOp j.desc) = false) (hr : j.refused = false) :
    berylDeliver s j out f = (putSoFar s j out, 1) := by
  unfold berylDeliver
  dsimp only
  split
  · next h => simp [opKeyEntry, h] at hop
  · next h => simp [opKeyEntry, h] at hop
  · next h => simp [opKeyEntry, h] at hop
  · simp [berylPut_io hdst, hr, putSoFar]

/-- How a job ends by what its operation gives for the whole source: nothing where its check failed. -/
def endedWith (s : State) (j : BRun) (f : MemFault) : Option (List Byte) → State
  | none => berylPost (raise (inc (berylZero (runLeft s) j) K.berylAuthFails 1) Ev.berylAuthFail 0 0) j.desc j.urgent 2
      (dLen j.desc) (dstRange j.desc)
  | some out => berylPost (berylDeliver (runLeft s) j out f).1 j.desc j.urgent (berylDeliver (runLeft s) j out f).2
      (dLen j.desc) (dstRange j.desc)

theorem berylFinish_io (hf : j.fail = 0) (hsrc : (srcRange j.desc).1 = false) :
    berylFinish s j suspect f = endedWith s j f (berylCompute j.desc j.key (wholeSource s j)) := by
  simp only [berylFinish, hf, ne_eq, not_true_eq_false, if_false, berylSrc_io hsrc, hsrc, Bool.and_false, Bool.false_eq_true]
  rfl

/-- The check passed: the output is in place, and the completion posted. -/
theorem berylFinish_passes (hf : j.fail = 0) (hsrc : (srcRange j.desc).1 = false) (hdst : (dstRange j.desc).1 = false)
    (hop : opKeyEntry (dOp j.desc) = false) (hr : j.refused = false) (ho : berylCompute j.desc j.key (wholeSource s j) = some out) :
    berylFinish s j suspect f = berylPost (putSoFar (runLeft s) j out) j.desc j.urgent 1 (dLen j.desc) (dstRange j.desc) := by
  rw [berylFinish_io hf hsrc, ho, endedWith, berylDeliver_io hdst hop hr]

/-- The state in which a job whose check failed posts its completion: its output area zeroed, the failure counted and raised. -/
def checkFailed (s : State) (j : BRun) : State :=
  raise (inc (ioPut (runLeft s) (dstRange j.desc).2.2.1 (List.replicate (outLen j.desc) 0)) K.berylAuthFails 1) Ev.berylAuthFail 0 0

theorem berylFinish_fails (hf : j.fail = 0) (hsrc : (srcRange j.desc).1 = false) (hdst : (dstRange j.desc).1 = false)
    (ho : berylCompute j.desc j.key (wholeSource s j) = none) :
    berylFinish s j suspect f = berylPost (checkFailed s j) j.desc j.urgent 2 (dLen j.desc) (dstRange j.desc) := by
  rw [berylFinish_io hf hsrc, ho, endedWith, berylZero_io hf hdst, checkFailed]

theorem checkFailed_beryl : (checkFailed s j).beryl =
    (ioPut (runLeft s) (dstRange j.desc).2.2.1 (List.replicate (outLen j.desc) 0)).beryl := raise_beryl _ _ _ _ (by decide)

theorem checkFailed_counts : Counts s (checkFailed s j) K.berylAuthFails 1 :=
  Counts.of_rd (.of_inc rfl) (rd_raise _ _ _ _ _ (by decide) (by decide))

theorem checkFailed_frame : EvFrame [K.berylAuthFails] [.beryl] s (checkFailed s j) :=
  .raise (by decide) (.inc (by simp) (.set_beryl (by simp) (.set_beryl (by simp) .refl)))

/-- What the completion of a failed check adds. -/
theorem berylPost_checkFailed {d : List Word} {urgent : Bool} {st n : Nat} {lock : Rng} (hd : s.beryl.done = []) (hh : s.beryl.held = []) :
    let t := berylPost (checkFailed s j) d urgent st n lock
    t.beryl = { (checkFailed s j).beryl with done := [completion d urgent st n] } ∧ Counts s t K.berylAuthFails 1 ∧
      Pending t Ev.berylAuthFail ∧ EvFrame [K.berylJobs, K.berylAuthFails] [.beryl] s t := by
  have hd' : (checkFailed s j).beryl.done = [] := by rw [checkFailed_beryl]; exact hd
  have hh' : (checkFailed s j).beryl.held = [] := by rw [checkFailed_beryl]; exact hh
  have hframe : EvFrame [K.berylJobs] [.beryl] (checkFailed s j) (berylPost (checkFailed s j) d urgent st n lock) := berylPost_leaves.frame
  refine ⟨(berylPost_first_reads hd' hh').1, ?_, ?_, ?_⟩
  · exact checkFailed_counts.of_rd (hframe.1 _ (by decide) (by decide))
  · rw [berylPost_first hd' hh']
    exact .raise (by decide) (.wr (by decide) (raise_sets_pending _ _ _ _ (by decide)))
  · exact (checkFailed_frame.mono (by simp) (by simp)).trans (hframe.mono (by simp) (by simp))

end
end Sys2Proof.Machine

/-! The Beryl engine's completion FIFO, aborts, key registers and I/O buffer (R204, R210–R214), and the settling of its statement. -/

namespace Sys2Proof.Machine

section
variable {s : State} {r : Req} {c : Instr} {v a b k : Nat} {l : List (Nat × Nat)} {j : BRun} {p : BRun → Bool}

/-! The completion FIFO (R211). -/

theorem exec_berylDoneRead : exec (.berylDoneRead r) s = done s (access s r K.berylDone false berylDoneRead) := rfl

theorem berylDoneRead_first (hd : s.beryl.done = (a, b) :: l) (hw : s.beryl.word = 0) :
    berylDoneRead s = okV { s with beryl := { s.beryl with word := 1 } } [a] := by simp [berylDoneRead, hd, hw]

theorem berylDoneRead_second (hd : s.beryl.done = (a, b) :: l) (hw : s.beryl.word = 1) (hh : s.beryl.held = []) :
    berylDoneRead s = okV { s with beryl := { s.beryl with word := 0, done := l } } [b] := by simp [berylDoneRead, hd, hw, hh]

/-! Aborts (R212). -/

theorem exec_berylAbortNormal : exec (.berylAbortNormal r) s = done s (access s r K.berylAbort true (berylAbortEff 1)) := rfl
theorem exec_berylAbortUrgent : exec (.berylAbortUrgent r) s = done s (access s r K.berylAbort true (berylAbortEff 2)) := rfl
theorem exec_berylAbortAll : exec (.berylAbortAll r) s = done s (access s r K.berylAbort true (berylAbortEff 3)) := rfl

theorem berylAbortEff_normal (hc : berylClearing s = false) : berylAbortEff 1 s = okR (berylStopRun s (fun j => !j.urgent) 8) := by
  simp [berylAbortEff, hc]
theorem berylAbortEff_urgent (hc : berylClearing s = false) : berylAbortEff 2 s = okR (berylStopRun s (fun j => j.urgent) 8) := by
  simp [berylAbortEff, hc]
theorem berylAbortEff_all (hc : berylClearing s = false) : berylAbortEff 3 s = okR (berylStopAll s 8) := by simp [berylAbortEff, hc]

/-- An abort that names the running job alone, for either queue. -/
theorem runs_berylAbort_running {eff : State → Res} (hx : exec c s = done s (access s r K.berylAbort true eff))
    (hg : Admitted s r K.berylAbort true) (he : eff s = okR (berylStopRun s p 8)) (hr : s.beryl.run = some j) (hp : p j = true)
    (hs : ∀ k, s.beryl.susp = some k → p k = false) (hf : j.fail = 0) (hdst : (dstRange j.desc).1 = false)
    (hd : s.beryl.done = []) (hh : s.beryl.held = []) : Runs c s (fun t => Answers t [] ∧ t.beryl.run = none ∧
      t.beryl.susp = s.beryl.susp ∧ t.beryl.io = (ioPut s (dstRange j.desc).2.2.1 (List.replicate (outLen j.desc) 0)).beryl.io ∧
      (∃ n, n ≤ dLen j.desc ∧ t.beryl.done = [completion j.desc j.urgent 8 n]) ∧ Pending t Ev.berylComplete ∧
      EvFrame [K.berylJobs] [.beryl] s t) := by
  rw [berylStopRun_running hr hp hs hdst] at he
  obtain ⟨hio, hdone, hpending⟩ := berylStop_first (s := runLeft s) (st := 8) hf hdst hd hh
  have hleft : LeavesJobs s (jobsOf (runLeft s)) (berylStop (runLeft s) j 8) :=
    LeavesJobs.trans (t := runLeft s) (.of_beryl rfl) (berylStop_leaves hdst)
  exact runs_answered hx hg (he := he) fun _ =>
    ⟨rfl, congrArg Jobs.run hleft.jobs, congrArg Jobs.susp hleft.jobs, hio, hdone, hpending, .answered hleft.frame⟩

/-! Key registers (R204). -/

theorem tget_tkeep_kept {α : Type} (d : α) {q : Nat → Bool} (t : Tbl α) (hk : q k = true) : tget d (tkeep q t) k = tget d t k := by
  induction t with
  | nil => rfl
  | cons e t ih =>
    obtain ⟨i, x⟩ := e
    simp only [tkeep, List.filter_cons] at ih ⊢
    split
    · simp only [tget, ih]
    · next hq =>
      have hne : i ≠ k := fun h => hq (h ▸ hk)
      rw [ih, tget, if_neg hne]

theorem exec_berylKeyregClear (hv : v < 2 ^ 16) :
    exec (.berylKeyregClear r v) s = done s (access s r K.berylKeyregClear true (berylKeyregClearEff v)) := by
  change done s (access s r K.berylKeyregClear true (berylKeyregClearEff (v % 2 ^ 16))) = _
  rw [Nat.mod_eq_of_lt hv]

theorem tget_keysCleared (t : Tbl (List Byte)) :
    tget [] (tkeep (fun k => !bit v k) t) k = if bit v k = true then [] else tget [] t k := by
  split
  · next h => exact tget_tkeep _ _ (by simp [h])
  · next h => exact tget_tkeep_kept _ _ (by simp [h])

/-! The I/O buffer (R210, R214). -/

theorem exec_berylIoRead : exec (.berylIoDataAccess r .read) s = done s (access s r K.berylIoData false berylIoRead) := rfl

theorem exec_berylIoWrite (hv : v < 2 ^ 32) :
    exec (.berylIoDataAccess r (.write v)) s = done s (access s r K.berylIoData true (berylIoEff v)) := by
  change done s (access s r K.berylIoData true (berylIoEff (v % 2 ^ 32))) = _
  rw [Nat.mod_eq_of_lt hv]

theorem berylIoAt_free {f : Nat → State → Res} (ha : rd s K.berylIoAddr < 8192)
    (hl : berylLocked s (false, 0, 4 * rd s K.berylIoAddr, 4) = false) :
    berylIoAt s f = f (rd s K.berylIoAddr) (wr s K.berylIoAddr ((rd s K.berylIoAddr + 1) % 8192)) := by
  simp [berylIoAt, Nat.mod_eq_of_lt ha, hl]

theorem berylIoRead_free (ha : rd s K.berylIoAddr < 8192) (hl : berylLocked s (false, 0, 4 * rd s K.berylIoAddr, 4) = false) :
    berylIoRead s = okV (wr s K.berylIoAddr ((rd s K.berylIoAddr + 1) % 8192)) [tget 0 s.beryl.io (rd s K.berylIoAddr)] :=
  berylIoAt_free ha hl

/-- The word at the address is written, and the address has advanced. -/
def ioWritten (s : State) (v : Nat) : State :=
  { wr s K.berylIoAddr ((rd s K.berylIoAddr + 1) % 8192) with
    beryl := { s.beryl with io := tset 0 s.beryl.io (rd s K.berylIoAddr) v } }

theorem berylIoEff_free (ha : rd s K.berylIoAddr < 8192) (hl : berylLocked s (false, 0, 4 * rd s K.berylIoAddr, 4) = false) :
    berylIoEff v s = okR (ioWritten s v) := berylIoAt_free ha hl

theorem rd_ioWritten : rd (ioWritten s v) K.berylIoAddr = (rd s K.berylIoAddr + 1) % 8192 := rd_wr_same s _ _

theorem ioWritten_frame : Frame [K.berylIoAddr] [.beryl] s (ioWritten s v) := .set_beryl (by simp) (.wr (by simp) .refl)

/-! The engine's part of a ZEROISE (R213). -/

theorem exec_berylClearDone (hc : berylClearing s = true) : exec .berylClearDone s =
    done s (let u := berylStopAll (wrBit s K.berylStatus 2 false) 9; { u with beryl := { u.beryl with io := [] } }) := by
  change done s (berylCleared s) = _
  rw [berylCleared, if_pos hc]

theorem berylClearing_stopAll {st : Nat} {u : State} (h : ∀ j ∈ startedJobs u, (dstRange j.desc).1 = false) :
    berylClearing (berylStopAll u st) = berylClearing u := by
  simp only [berylClearing, rdBit, (berylStopAll_leaves h).frame.1 K.berylStatus (by decide) (by decide)]

end

/-- Settles O44, clause by clause: descriptors, submits, the four choices of a start, the suspension, the two ends of a job, the two
words of a completion, the aborts, key registers, the I/O buffer and the engine's part of a ZEROISE. -/
theorem lookasideJobs : Obligations.LookasideJobs := by
  refine ⟨?_, ?_, ?_, ?_, ?_, ?_, ?_, ?_, ?_, ?_, ?_, ?_, ?_, ?_, ?_, ?_, ?_, ?_, ?_, ?_, ?_⟩
  · intro r v s hv _ hh hg
    exact runs_answered (exec_berylDescWrite hv) hg (he := berylDescEff_stages hh) fun _ =>
      ⟨rfl, tget_tset_same .., rfl, .answered (by simp) (.set_beryl (by simp) (.setStage (by simp) (.claim (by simp) .refl)))⟩
  · intro r s hh hd hq hc hk hg
    refine (runs_berylSubmits (v := 1) rfl hg (.inl rfl) hh hd (by simpa [queueFull] using hq) hc hk).mono ?_
    rintro t ⟨hans, hb, hstage, hf⟩
    exact ⟨hans, by rw [hb]; rfl, hstage, hf⟩
  · intro r s hh hd hq hc hk hg
    refine (runs_berylSubmits (v := 2) rfl hg (.inr rfl) hh hd (by simpa [queueFull] using hq) hc hk).mono ?_
    rintro t ⟨hans, hb, hstage, hf⟩
    exact ⟨hans, by rw [hb]; rfl, hstage, hf⟩
  · intro r s hh hd hq hg
    exact runs_berylSubmitFull (v := 2) rfl hg (.inr rfl) hh hd (by simpa [queueFull] using hq)
  · intro d l s hr hd hc hu
    refine (runs_berylStart (exec_berylJobStart_urgent hr hd hc hu) rfl).mono ?_
    rintro t ⟨⟨key, hb⟩, hf⟩
    exact ⟨⟨key, by rw [hb]⟩, by rw [hb], hf⟩
  · intro j s hr hd hc hu hs
    exact runs_done (exec_berylJobStart_susp hr hd hc hu hs) ⟨rfl, rfl, (Frame.set_beryl (by simp) .refl).settled⟩
  · intro d l s hr hd hc hu hs hn
    refine (runs_berylStart (exec_berylJobStart_normal hr hd hc hu hs hn) rfl).mono ?_
    rintro t ⟨⟨key, hb⟩, hf⟩
    exact ⟨⟨key, by rw [hb]⟩, by rw [hb], hf⟩
  · intro s h
    obtain hr | hd | ⟨hu, hs, hn⟩ := h
    · exact runs_done (exec_berylJobStart_busy (.inl hr)) Frame.refl.settled
    · exact runs_done (exec_berylJobStart_busy (.inr hd)) Frame.refl.settled
    · exact runs_done (exec_berylJobStart_idle hu hs hn) Frame.refl.settled
  · intro j x out s hr hn hf hop hu hc hsrc hdst hx ho
    exact runs_done (exec_berylSuspend hr hn hf hop hu hc (berylAdvance_io hsrc hdst hx ho))
      ⟨rfl, rfl, rfl, .settled (.of_inc rfl), suspended_frame.settled⟩
  · intro j b f out s hr hc hf _ hsrc hdst hop href hd hh ho
    obtain ⟨hb, hcount, hpending⟩ := berylPost_first_reads (s := putSoFar (runLeft s) j out) (d := j.desc) (urgent := j.urgent) (st := 1)
      (n := dLen j.desc) (lock := dstRange j.desc) hd hh
    have hput : EvFrame [K.berylJobs] [.beryl] s (putSoFar (runLeft s) j out) := .set_beryl (by simp) (.set_beryl (by simp) .refl)
    refine runs_done ((exec_berylJobDone hr hc).trans (by rw [berylFinish_passes hf hsrc hdst hop href ho])) ⟨?_, ?_, ?_, ?_, ?_, ?_⟩
    · exact congrArg Beryl.run hb
    · exact congrArg Beryl.done hb
    · exact (congrArg Beryl.io hb).trans rfl
    · exact hcount
    · exact hpending
    · exact (hput.trans berylPost_leaves.frame).settled
  · intro j b f s hr hc hf _ hsrc hdst hd hh ho
    obtain ⟨hb, hcount, hpending, hframe⟩ := berylPost_checkFailed (s := s) (j := j) (d := j.desc) (urgent := j.urgent) (st := 2)
      (n := dLen j.desc) (lock := dstRange j.desc) hd hh
    rw [checkFailed_beryl] at hb
    refine runs_done ((exec_berylJobDone hr hc).trans (by rw [berylFinish_fails hf hsrc hdst ho])) ⟨?_, ?_, ?_, ?_, ?_, ?_⟩
    · exact congrArg Beryl.run hb
    · exact congrArg Beryl.done hb
    · exact (congrArg Beryl.io hb).trans rfl
    · exact hcount
    · exact hpending
    · exact hframe.settled
  · intro r a b l s hd hw hg
    exact runs_answered exec_berylDoneRead hg (he := berylDoneRead_first hd hw) fun _ =>
      ⟨rfl, rfl, rfl, .answered (by simp) (.set_beryl (by simp) .refl)⟩
  · intro r a b l s hd hw hh hg
    exact runs_answered exec_berylDoneRead hg (he := berylDoneRead_second hd hw hh) fun _ =>
      ⟨rfl, rfl, rfl, .answered (by simp) (.set_beryl (by simp) .refl)⟩
  · intro r j s hc hr hn hf hs hdst hd hh hg
    refine (runs_berylAbort_running exec_berylAbortNormal hg (berylAbortEff_normal hc) hr (by simp [hn]) (by simp [hs]) hf hdst hd hh).mono
      ?_
    rintro t ⟨hans, hrun, -, hio, ⟨n, hle, hdone⟩, hpending, hframe⟩
    exact ⟨hans, hrun, hio, ⟨n, hle, by simpa [completion, hn, b2n] using hdone⟩, hpending, hframe⟩
  · intro r j s hc hr hu hf hs hdst hd hh hg
    refine (runs_berylAbort_running exec_berylAbortUrgent hg (berylAbortEff_urgent hc) hr hu hs hf hdst hd hh).mono ?_
    rintro t ⟨hans, hrun, hsusp, hio, ⟨n, hle, hdone⟩, hpending, hframe⟩
    exact ⟨hans, hrun, hsusp, hio, ⟨n, hle, by simpa [completion, hu, b2n] using hdone⟩, hpending, hframe⟩
  · intro r s hc hr hs hg
    exact runs_answered exec_berylAbortUrgent hg (he := (berylAbortEff_urgent hc).trans (by rw [berylStopRun_kept hr hs]; rfl)) fun _ =>
      ⟨rfl, .answered (by simp) .refl⟩
  · intro r s hc hdst hg
    have hleft := berylStopAll_leaves (st := 8) hdst
    exact runs_answered exec_berylAbortAll hg (he := berylAbortEff_all hc) fun _ =>
      ⟨rfl, congrArg Jobs.run hleft.jobs, congrArg Jobs.susp hleft.jobs, congrArg Jobs.urgent hleft.jobs,
        congrArg Jobs.normal hleft.jobs, .answered hleft.frame⟩
  · intro r v s hv hg
    exact runs_answered (exec_berylKeyregClear hv) hg (he := rfl) fun _ =>
      ⟨rfl, fun _ => tget_keysCleared _, .answered (by simp) (.set_beryl (by simp) .refl)⟩
  · intro r s ha hl hg
    exact runs_answered exec_berylIoRead hg (he := berylIoRead_free ha hl) fun _ =>
      ⟨rfl, rd_answered.trans (rd_wr_same ..), .answered (by simp) (.wr (by simp) .refl)⟩
  · intro r v s hv ha hl hg
    exact runs_answered (exec_berylIoWrite hv) hg (he := berylIoEff_free ha hl) fun _ =>
      ⟨rfl, tget_tset_same .., fun k hk => tget_tset_ne _ _ _ _ hk.symm, rd_answered.trans rd_ioWritten,
        .answered (by simp) (ioWritten_frame.mono (by simp) (by simp))⟩
  · intro s hc hdst
    have hleft := berylStopAll_leaves (s := wrBit s K.berylStatus 2 false) (st := 9) hdst
    have hclear : berylClearing (berylStopAll (wrBit s K.berylStatus 2 false) 9) = false :=
      (berylClearing_stopAll (u := wrBit s K.berylStatus 2 false) hdst).trans (rdBit_wrBit_same ..)
    have hframe : EvFrame [K.berylStatus, K.berylJobs] [.beryl] s (berylStopAll (wrBit s K.berylStatus 2 false) 9) :=
      (EvFrame.wrBit (by simp) .refl).trans (hleft.frame.mono (by simp) (by simp))
    exact runs_done (exec_berylClearDone hc) ⟨hclear, rfl, congrArg Jobs.run hleft.jobs, congrArg Jobs.urgent hleft.jobs,
      congrArg Jobs.normal hleft.jobs, (hframe.set_beryl (by simp)).settled⟩

end Sys2Proof.Machine

/-! Partitions of the public-key engine (R215–R218): claims, releases, the window, and commands taken (R219, R224). -/

namespace Sys2Proof.Machine

section
variable {ks : List Nat} {ps : List Part} {s t u : State} {r : Req} {p q v op hi lo : Nat} {f : Nat → Res}

theorem Frame.setJpart {x : JPart} (hp : Part.jasper ∈ ps) (h : Frame ks ps s u) : Frame ks ps s (setJpart u p x) := h.set_jasper hp

theorem jpart_congr (h : t.jasper = s.jasper) (p : Nat) : jpart t p = jpart s p := by rw [jpart, h, jpart]

/-- The job of a partition has left the engine: it neither runs nor waits. -/
theorem jLeave_run_ne : (jLeave s p).jasper.run ≠ some p := by
  simp only [jLeave]
  split
  · simp
  · assumption

theorem jLeave_run (h : s.jasper.run = some p) : (jLeave s p).jasper.run = none := if_pos h

theorem not_mem_queue_jLeave : p ∉ (jLeave s p).jasper.queue := by simp [jLeave]

/-! The caller's partition (R216). -/

theorem jOwn_mine (h : jMine s r = some p) : jOwn r s f = f p := by simp [jOwn, h]
theorem jOwn_none (h : jMine s r = none) : jOwn r s f = abortR s .wrongState := by simp [jOwn, h]

/-- The lowest of the session partitions with a property. -/
theorem find_session {g : Nat → Bool} (hp : p ∈ [1, 2, 3]) (hg : g p = true) (hl : ∀ q ∈ [1, 2, 3], q < p → g q = false) :
    [1, 2, 3].find? g = some p := by
  simp only [List.mem_cons, List.not_mem_nil, or_false, forall_eq_or_imp, forall_eq] at hp hl
  obtain ⟨h1, h2, -⟩ := hl
  obtain rfl | rfl | rfl := hp
  · simp [hg]
  · simp [h1 (by decide), hg]
  · simp [h1 (by decide), h2 (by decide), hg]

/-- No partition is the caller's. -/
theorem owner_ne_of_jMine_none (hc : r.ch < 4) (h : jMine s r = none) (hq : q ∈ [1, 2, 3]) : (jpart s q).owner ≠ some r.ch := by
  rw [jMine, if_neg (by omega), List.find?_eq_none] at h
  simpa using h q hq

/-! Claims (R216, R217). -/

/-- A partition that can be claimed: no session has it, and its zeroing has ended. -/
def jFree (s : State) (q : Nat) : Bool := (jpart s q).owner.isNone && !(jpart s q).zeroing

theorem jFree_eq_false (h : (jpart s q).owner ≠ none ∨ (jpart s q).zeroing = true) : jFree s q = false := by
  rcases h with h | h
  · simp [jFree, h]
  · simp [jFree, h]

/-- Partition `p` with the caller for its owner. -/
def jClaimed (s : State) (r : Req) (p : Nat) : State := setJpart s p { jpart s p with owner := some r.ch }

theorem exec_jasperClaim : exec (.jasperClaim r) s = done s (access s r K.jasperClaim true (jasperClaimEff r 1)) := rfl
theorem exec_jasperRelease : exec (.jasperRelease r) s = done s (access s r K.jasperClaim true (jasperClaimEff r 0)) := rfl

theorem jasperClaimEff_mine (h : jMine s r = some p) : jasperClaimEff r 1 s = okR s := by simp [jasperClaimEff, h]

theorem jasperClaimEff_release (h : jMine s r = some p) : jasperClaimEff r 0 s = okR (jRelease s p) := by simp [jasperClaimEff, h]

theorem jasperClaimEff_claims (hc : r.ch < 4) (h : jMine s r = none) (hf : [1, 2, 3].find? (jFree s) = some p) :
    jasperClaimEff r 1 s = okR (jClaimed s r p) := by
  unfold jFree at hf
  simp [jasperClaimEff, h, hf, Nat.not_le.2 hc, jClaimed]

theorem jasperClaimEff_noneFree (h : jMine s r = none) (hf : [1, 2, 3].find? (jFree s) = none) :
    jasperClaimEff r 1 s = abortR s .wrongState := by
  unfold jFree at hf
  simp [jasperClaimEff, h, hf]

theorem jMine_jClaimed (hc : r.ch < 4) (hp : p ∈ [1, 2, 3]) (h : jMine s r = none) : jMine (jClaimed s r p) r = some p := by
  rw [jMine, if_neg (by omega)]
  refine find_session hp (by simp [jClaimed]) fun q hq hlt => ?_
  simpa [jClaimed, jpart_setJpart_ne _ _ (Nat.ne_of_gt hlt)] using owner_ne_of_jMine_none hc h hq

theorem jClaimed_frame : Frame [] [.jasper] s (jClaimed s r p) := .setJpart (by simp) .refl

theorem jRelease_frame : Frame [] [.jasper] s (jRelease s p) := .setJpart (by simp) (.set_jasper (by simp) .refl)

theorem exec_jasperZeroingDone (h : (jpart s p).zeroing = true) :
    exec (.jasperZeroingDone p) s = done s (setJpart s p { jpart s p with zeroing := false }) := congrArg (done s) (if_pos h)

/-! The window and the result (R218, R232). -/

theorem exec_jasperDataRead : exec (.jasperDataAccess r .read) s = done s (access s r K.jasperData false (jasperDataRead r)) := rfl

theorem exec_jasperDataWrite (hv : v < 2 ^ 32) :
    exec (.jasperDataAccess r (.write v)) s = done s (access s r K.jasperData true (jasperDataEff r v)) := by
  change done s (access s r K.jasperData true (jasperDataEff r (v % 2 ^ 32))) = _
  rw [Nat.mod_eq_of_lt hv]

/-- The partition once the window has moved its word: the address has advanced. -/
def jAdvanced (x : JPart) : JPart := { x with addr := (x.addr + 1) % 1024 }

theorem jDataAt_mine {g : Nat → JPart → State × List Word} (h : jMine s r = some p) (hj : (jpart s p).job = false) :
    jDataAt r s g = okV (g p (jAdvanced (jpart s p))).1 (g p (jAdvanced (jpart s p))).2 := by
  rw [jDataAt, jOwn_mine h]
  simp [hj, jAdvanced]

theorem jDataAt_none {g : Nat → JPart → State × List Word} (h : jMine s r = none) : jDataAt r s g = abortR s .wrongState := jOwn_none h

theorem jasperDataRead_mine (h : jMine s r = some p) (hj : (jpart s p).job = false) : jasperDataRead r s =
    okV (setJpart s p (jAdvanced (jpart s p))) [tget 0 (jpart s p).mem (jpart s p).addr] := jDataAt_mine h hj

theorem jasperDataEff_mine (h : jMine s r = some p) (hj : (jpart s p).job = false) : jasperDataEff r v s =
    okR (setJpart s p { jAdvanced (jpart s p) with mem := tset 0 (jpart s p).mem (jpart s p).addr v }) := jDataAt_mine h hj

/-- A caller without a partition has no window (R216). -/
theorem runs_jasperDataAccess_none {a : Acc} (h : jMine s r = none) (hg : Admitted s r K.jasperData (a != .read)) :
    Runs (.jasperDataAccess r a) s (fun t => t.reply.code = .wrongState ∧ Frame [] [.chans] s t) := by
  cases a with
  | read => exact runs_answered exec_jasperDataRead hg (he := jDataAt_none h) fun _ => ⟨rfl, .answered (by simp) .refl⟩
  | write v =>
    have hx : exec (.jasperDataAccess r (.write v)) s = done s (access s r K.jasperData true (jasperDataEff r (v % 2 ^ 32))) := rfl
    exact runs_answered hx hg (he := jDataAt_none h) fun _ => ⟨rfl, .answered (by simp) .refl⟩

theorem exec_jasperResultRead : exec (.jasperResultRead r) s = done s (access s r K.jasperResult false (jasperResultRead r)) := rfl

theorem jasperResultRead_mine (h : jMine s r = some p) : jasperResultRead r s =
    okV (setJpart s p { jpart s p with wiped := false }) [jResult (jpart s p)] := jOwn_mine h

/-! Commands (R219, R224). -/

/-- The operations by their codes (R220). -/
def jInstrs (r : Req) (v : Nat) : List (Instr × Nat) :=
  [(.ecdsaSign r v, 1), (.ecdsaVerify r v, 2), (.ecKeygen r v, 3), (.ecdh r v, 4), (.ecValidate r v, 5), (.x25519 r v, 8),
    (.x25519Keygen r v, 9), (.rsaPublic r v, 16), (.rsaPrivate r v, 17), (.modInv r v, 24), (.curveLoad r v, 32)]

theorem exec_jInstrs {i : Instr} (h : (i, op) ∈ jInstrs r v) : exec i s = jasperCmd r op v s := by
  simp only [jInstrs, List.mem_cons, Prod.mk.injEq, List.not_mem_nil, or_false] at h
  rcases h with ⟨rfl, rfl⟩ | ⟨rfl, rfl⟩ | ⟨rfl, rfl⟩ | ⟨rfl, rfl⟩ | ⟨rfl, rfl⟩ | ⟨rfl, rfl⟩ |
    ⟨rfl, rfl⟩ | ⟨rfl, rfl⟩ | ⟨rfl, rfl⟩ | ⟨rfl, rfl⟩ | ⟨rfl, rfl⟩ <;> rfl

theorem op_lt_of_jInstrs {i : Instr} (h : (i, op) ∈ jInstrs r v) : op < 2 ^ 8 := by
  have hall : ∀ e ∈ jInstrs r v, e.2 < 2 ^ 8 := by simp [jInstrs]
  exact hall _ h

/-- The value of JASPER_CMD with `op` over the other fields. -/
theorem setBits_op (hv : v < 2 ^ 24) (hop : op < 2 ^ 8) : setBits v 31 24 op = op * 2 ^ 24 + v := by
  simp only [setBits]
  omega

/-- A field of JASPER_CMD that is not reserved is kept as written. -/
theorem bits_cmdKept (h : bits 0xFFF01FFF hi lo = 2 ^ (hi + 1 - lo) - 1) : bits (Nat.land v 0xFFF01FFF) hi lo = bits v hi lo := by
  apply Nat.eq_of_testBit_eq
  intro j
  have hmask := congrArg (Nat.testBit · j) h
  have hland : (Nat.land v 0xFFF01FFF).testBit (lo + j) = (v.testBit (lo + j) && Nat.testBit 0xFFF01FFF (lo + j)) := Nat.testBit_and ..
  simp only [bits_testBit, Nat.testBit_two_pow_sub_one] at hmask
  rw [bits_testBit, bits_testBit, hland]
  by_cases hj : j < hi + 1 - lo
  · simp only [hj, decide_true, Bool.true_and] at hmask ⊢
    rw [hmask, Bool.and_true]
  · simp [hj]

/-- A command of partition `p` waits. -/
def jQueued (s : State) (p v : Nat) : State :=
  let u := setJpart s p { jpart s p with cmd := Nat.land v 0xFFF01FFF, job := true, fin := false }
  { u with jasper := { u.jasper with queue := s.jasper.queue ++ [p] } }

theorem jasperCmdEff_queues (h : jMine s r = some p) (hv : jCmdOk v = true) (hj : (jpart s p).job = false) :
    jasperCmdEff r v s = okR (jQueued s p v) := by
  rw [jasperCmdEff, jOwn_mine h]
  simp only [hv, hj, Bool.not_true, Bool.false_eq_true, if_false]
  rfl

theorem jpart_jQueued : jpart (jQueued s p v) p = { jpart s p with cmd := Nat.land v 0xFFF01FFF, job := true, fin := false } :=
  tget_tset_same ..

theorem jQueued_frame : Frame [] [.jasper] s (jQueued s p v) := .set_jasper (by simp) (.setJpart (by simp) .refl)

/-- Every operation's command, its fields within R219, is taken from a partition without a job. -/
theorem runs_jasperCmd {i : Instr} (hi : (i, op) ∈ jInstrs r v) (hv : v < 2 ^ 24) (h : jMine s r = some p)
    (hok : jCmdOk (op * 2 ^ 24 + v) = true) (hj : (jpart s p).job = false) (hg : Admitted s r K.jasperCmd true) : Runs i s (fun t =>
      Answers t [] ∧ bits (jpart t p).cmd 31 24 = op ∧ bits (jpart t p).cmd 23 20 = bits v 23 20 ∧
      bits (jpart t p).cmd 12 0 = bits v 12 0 ∧ (jpart t p).job = true ∧ t.jasper.queue = s.jasper.queue ++ [p] ∧
      Frame [] [.chans, .jasper] s t) := by
  have hop := op_lt_of_jInstrs hi
  have hx : exec i s = done s (access s r K.jasperCmd true (jasperCmdEff r (setBits v 31 24 op))) := by
    rw [exec_jInstrs hi, jasperCmd, Nat.mod_eq_of_lt (by omega)]
  rw [← setBits_op hv hop] at hok
  refine runs_answered hx hg (he := jasperCmdEff_queues h hok hj) fun x => ?_
  have hcmd : jpart (answered s (jQueued s p (setBits v 31 24 op)) x .ok []) p =
      { jpart s p with cmd := Nat.land (setBits v 31 24 op) 0xFFF01FFF, job := true, fin := false } := jpart_jQueued
  rw [hcmd]
  refine ⟨rfl, ?_, ?_, ?_, rfl, rfl, .answered (by simp) (jQueued_frame.mono (by simp) (by simp))⟩
  · exact (bits_cmdKept (by decide)).trans ((bits_setBits_same _ _ _ _ (by decide)).trans (Nat.mod_eq_of_lt hop))
  · exact (bits_cmdKept (by decide)).trans (bits_setBits_ne _ _ _ _ _ _ (by decide) (by decide))
  · exact (bits_cmdKept (by decide)).trans (bits_setBits_ne _ _ _ _ _ _ (by decide) (by decide))

end
end Sys2Proof.Machine

/-! The jobs of the public-key engine (R224–R226, R229): the one that starts, and how each ends. -/

namespace Sys2Proof.Machine

section
variable {s t u : State} {p k v st detail len n : Nat} {x : JPart} {e : JEnd} {b : Bool} {c : JCurve} {l : List Nat}

/-! A job starts (R222, R224). -/

/-- The engine with the front of its queue running. -/
def jStarted (s : State) (p : Nat) (l : List Nat) : State :=
  let x := jpart s p
  let u := if p = 0 then s else setJpart s p { x with curve := if bits x.cmd 31 24 = 0x20 then none else x.curve }
  { u with jasper := { u.jasper with queue := l, run := some p } }

theorem exec_jasperJobStart (hr : s.jasper.run = none) (hq : s.jasper.queue = p :: l) :
    exec .jasperJobStart s = done s (jStarted s p l) := by
  change execJasperJobStart s = _
  rw [execJasperJobStart, hr, hq]
  rfl

theorem jStarted_curve (hp : p ≠ 0) (hop : bits (jpart s p).cmd 31 24 = 32) : (jpart (jStarted s p l) p).curve = none := by
  have hpart : jpart (jStarted s p l) p = { jpart s p with curve := none } := by
    rw [jStarted, if_neg hp, if_pos hop]
    exact tget_tset_same ..
  rw [hpart]

theorem jStarted_frame : Frame [] [.jasper] s (jStarted s p l) := by
  refine .set_jasper (by simp) ?_
  split
  · exact .refl
  · exact .setJpart (by simp) .refl

/-! A completion (R225, R232). -/

/-- From `s` to `t` one completion is posted, and nothing but the engine changed. -/
structure PostsOne (s t : State) : Prop where
  counts : Counts s t K.jasperJobs 1
  pending : Pending t Ev.jasperComplete
  frame : EvFrame [K.jasperJobs] [.jasper] s t

theorem PostsOne.settled (h : PostsOne s t) : PostsOne s (settled u t) := ⟨h.counts, h.pending, h.frame.settled⟩

theorem PostsOne.set_jasper {z : Jasper} (h : PostsOne s t) : PostsOne s { t with jasper := z } :=
  ⟨h.counts, h.pending, h.frame.set_jasper (by simp)⟩

theorem jPost_jasper : (jPost s p).jasper = s.jasper := raise_jasper _ _ _ _ (by decide)

/-- The engine's own change leaves everything else to the completion. -/
theorem jPost_posts {z : Jasper} : PostsOne s (jPost { s with jasper := z } p) where
  counts := Counts.of_rd (.of_inc (u := { s with jasper := z }) rfl) (rd_raise _ _ _ _ _ (by decide) (by decide))
  pending := raise_sets_pending _ _ _ _ (by decide)
  frame := .raise (by decide) (.inc (by simp) (.set_jasper (by simp) .refl))

/-- A partition whose job has ended. -/
def jEnded (x : JPart) (detail st : Nat) : JPart :=
  { x with job := false, fin := true, op := bits x.cmd 31 24, detail := detail, status := st }

theorem jpart_jComplete (q : Nat) : jpart (jComplete s p detail st) q = if p = q then jEnded (jpart s p) detail st else jpart s q :=
  (jpart_congr jPost_jasper _).trans (jpart_setJpart ..)

theorem jComplete_run (h : s.jasper.run = some p) : (jComplete s p detail st).jasper.run = none :=
  (congrArg Jasper.run jPost_jasper).trans (jLeave_run h)

/-- The job of partition `p` completes with the partition as `x`. -/
theorem jComplete_setJpart_posts : PostsOne s (jComplete (setJpart s p x) p detail st) := jPost_posts

theorem jpart_jComplete_setJpart : jpart (jComplete (setJpart s p x) p detail st) p = jEnded x detail st := by
  rw [jpart_jComplete, if_pos rfl, jpart_setJpart_same]

/-! Operands given out (R218). -/

/-- Consecutive words of a store written in turn. -/
theorem tget_forNat_tset (g : Nat → Nat) (o : Nat) (m : Tbl Nat) (k : Nat) :
    tget 0 (forNat n (fun i m => tset 0 m (o + i) (g i)) m) k = if o ≤ k ∧ k < o + n then g (k - o) else tget 0 m k := by
  induction n with
  | zero => rw [if_neg (by omega), forNat]
  | succ n ih =>
    rw [forNat, tget_tset, ih]
    by_cases hk : o + n = k
    · subst hk
      rw [if_pos rfl, if_pos (by omega), Nat.add_sub_cancel_left]
    · rw [if_neg hk]
      congr 1
      rw [eq_iff_iff]
      omega

theorem tget_jOut {bs : List Byte} : tget 0 (jOut x k bs).mem v =
    if 128 * k ≤ v ∧ v < 128 * k + 128 then nth (bytesToWords 128 bs) (v - 128 * k) else tget 0 x.mem v := tget_forNat_tset ..

theorem tget_jOut_slot {bs : List Byte} {i : Nat} (hi : i < 128) :
    tget 0 (jOut x k bs).mem (128 * k + i) = nth (bytesToWords 128 bs) i := by
  rw [tget_jOut, if_pos (by omega), Nat.add_sub_cancel_left]

theorem tget_jOut_other {bs : List Byte} (h : v < 128 * k ∨ 128 * k + 128 ≤ v) : tget 0 (jOut x k bs).mem v = tget 0 x.mem v := by
  rw [tget_jOut, if_neg (by omega)]

/-! The end of a job (R220–R226). -/

/-- The partition with the outputs of an operation, or with zeros in their slots where its status is not OK (R225). -/
def jGiven (x : JPart) (e : JEnd) : JPart :=
  if e.2.1 = 1 then e.2.2.foldl (fun y o => jOut y o.1 o.2) x else (jOuts (bits x.cmd 31 24)).foldl (fun y k => jOut y k []) x

/-- The job of partition `p` ends as `e`. -/
def jFinished (s : State) (p : Nat) (e : JEnd) : State := jComplete (setJpart s p (jGiven (jpart s p) e)) p e.1 e.2.1

theorem jGiven_one {bs : List Byte} : jGiven x (jDone [(k, bs)]) = jOut x k bs := rfl

theorem jpart_jFinished : jpart (jFinished s p e) p = jEnded (jGiven (jpart s p) e) e.1 e.2.1 := jpart_jComplete_setJpart

theorem jFinished_posts : PostsOne s (jFinished s p e) := jComplete_setJpart_posts

theorem jFinished_run (h : s.jasper.run = some p) : (jFinished s p e).jasper.run = none := jComplete_run h

theorem exec_jasperJobDone_session (hr : s.jasper.run = some p) (hp : p ≠ 0) :
    exec (.jasperJobDone b) s = done s (jFinish s p b) := by
  change execJasperJobDone b s = _
  rw [execJasperJobDone, hr]
  split
  · next h => exact absurd (Option.some.inj h) hp
  · next h => rw [Option.some.inj h]
  · next h => exact absurd h (by simp)

theorem op_ne_load (h : opEc v = true) : v ≠ 32 := by
  rintro rfl
  exact absurd h (by decide)

/-- An operation on a curve that leaves nothing to draw ends its job with what it gives (R223). -/
theorem jFinish_ec (hop : opEc (bits (jpart s p).cmd 31 24) = true) (hc : jCurve (jpart s p) = some c)
    (he : jEc s (jpart s p) (bits (jpart s p).cmd 31 24) c = (s, some e)) : jFinish s p b = jFinished s p e := by
  simp only [jFinish, if_neg (op_ne_load hop), hop, if_true, hc, he]
  rfl

/-- Without its curve it ends with NO_CURVE (R222, R226). -/
theorem jFinish_noCurve (hop : opEc (bits (jpart s p).cmd 31 24) = true) (hc : jCurve (jpart s p) = none) :
    jFinish s p b = jFinished s p (jFail 10) := by
  simp only [jFinish, if_neg (op_ne_load hop), hop, if_true, hc]
  rfl

theorem jFinish_rsaPublic (hop : bits (jpart s p).cmd 31 24 = 16)
    (he : jRsa s (jpart s p) 16 (bits (jpart s p).cmd 12 0) b = (s, e)) : jFinish s p b = jFinished s p e := by
  simp [jFinish, jFinished, jGiven, hop, opEc, opX, opRsa, he]

theorem jFinish_modInv (hop : bits (jpart s p).cmd 31 24 = 24) :
    jFinish s p b = jFinished s p (jModInv (jpart s p) (bits (jpart s p).cmd 12 0)) := by
  simp only [jFinish, jFinished, jGiven, hop]
  rfl

theorem runs_jobEnds {P : State → Prop} (hr : s.jasper.run = some p) (hp : p ≠ 0) (he : jFinish s p b = jFinished s p e)
    (h : P (settled s (jFinished s p e))) : Runs (.jasperJobDone b) s P :=
  runs_done ((exec_jasperJobDone_session hr hp).trans (by rw [he])) h

theorem jpart_settled_jFinished : jpart (settled t (jFinished s p e)) p = jEnded (jGiven (jpart s p) e) e.1 e.2.1 := jpart_jFinished

/-! What operations give. -/

/-- MOD_INV of an operand with an inverse (R220, R225). -/
theorem jModInv_inverse {m a w : Nat} (hm : jNum x 0 (len / 8) = m) (ha : jNum x 1 (len / 8) = a) (h0 : 0 < a) (hlt : a < m)
    (hodd : m % 2 = 1) (h3 : 3 ≤ m) (hw : invMod m a = some w) : jModInv x len = jDone [(2, toBytes (len / 8) w)] := by
  have hrange : (decide (m ≤ a) || m % 2 == 0 || decide (m < 3)) = false := by
    simp only [Bool.or_eq_false_iff, decide_eq_false_iff_not, beq_eq_false_iff_ne]
    omega
  have hzero : (a == 0) = false := by simpa using Nat.ne_of_gt h0
  simp only [jModInv, hm, ha, hw, hrange, hzero, jFirst, Bool.false_eq_true, if_false]

/-- RSA_PUBLIC of operands in range (R220, R225). -/
theorem jRsa_public {m a : Nat} (hl : len = 8 * k) (hn : jNum x 0 k = n) (he : ofBytes (jIn x 1 0 4) = a) (hm : jNum x 2 k = m)
    (hlt : m < n) (hodd : n % 2 = 1) (htop : 2 ^ (8 * k - 1) ≤ n) (haodd : a % 2 = 1) (h3 : 3 ≤ a) :
    jRsa s x 16 len b = (s, jDone [(3, toBytes k (powMod m a n))]) := by
  have hrange : (decide (n ≤ m) || n % 2 == 0 || decide (n < 2 ^ (8 * k - 1)) || a % 2 == 0 || decide (a < 3)) = false := by
    simp only [Bool.or_eq_false_iff, decide_eq_false_iff_not, beq_eq_false_iff_ne]
    omega
  have hlen : 8 * k / 8 = k := Nat.mul_div_cancel_left _ (by decide)
  simp only [jRsa, hl, hlen, hn, he, hm, hrange, Bool.false_eq_true, if_false, if_true]

/-- A point in range and on the curve passes the checks of a point, which come first (R226). -/
theorem jFirst_goodPoint {qx qy : Nat} (hx : qx < c.p) (hy : qy < c.p) (hon : onCurve c qx qy = true) (hne : (qx, qy) ≠ (0, 0))
    (l : List (Bool × Nat)) :
    jFirst ([(decide (c.p ≤ qx) || decide (c.p ≤ qy), 4), (qx == 0 && qy == 0, 6), (!onCurve c qx qy, 5)] ++ l) e = jFirst l e := by
  have hinf : (qx == 0 && qy == 0) = false := by
    rw [Bool.eq_false_iff]
    intro h
    exact hne (by simpa using h)
  simp [jFirst, Nat.not_le.2 hx, Nat.not_le.2 hy, hinf, hon]

/-- ECDSA_VERIFY of a good point and a signature in range, their numbers `k` bytes long: the verdict alone is left (R220, R225). -/
theorem jEc_verify {qx qy z : Nat} (hk : (c.len + 7) / 8 = k) (hqx : jNum x 4 k = qx) (hqy : jNum x 5 k = qy)
    (hr : jNum x 2 k = n) (hz : jNum x 3 k = z) (hx : qx < c.p) (hy : qy < c.p) (hon : onCurve c qx qy = true)
    (hne : (qx, qy) ≠ (0, 0)) (hr0 : 0 < n) (hrn : n < c.n) (hz0 : 0 < z) (hzn : z < c.n) : jEc s x 2 c =
      (s, some (jFirst [(!ecdsaOk c (some (qx, qy)) (hashNum c (jIn x 1 0 x.hlen)) n z, 2)] (jDone []))) := by
  have hrange : (n == 0 || decide (c.n ≤ n) || z == 0 || decide (c.n ≤ z)) = false := by
    simp only [Bool.or_eq_false_iff, decide_eq_false_iff_not, beq_eq_false_iff_ne]
    omega
  simp only [jEc, hk, hqx, hqy, hr, hz, hrange, jFirst_goodPoint hx hy hon hne]
  rfl

theorem jFirst_verdict {ok : Bool} : (jFirst [(!ok, 2)] (jDone [])).2.1 = if ok = true then 1 else 2 := by cases ok <;> rfl

end
end Sys2Proof.Machine

/-! The public-key engine's aborts (R229) and the service controller's jobs in partition 0 (R215, R224), and the settling of its
statement. -/

namespace Sys2Proof.Machine

section
variable {s : State} {r : Req} {p : Nat} {b : Bool} {j : SvcReq} {l : List SvcReq}

/-! Aborts (R229). -/

theorem exec_jasperAbort : exec (.jasperAbort r) s = done s (access s r K.jasperAbort true (jasperAbortEff r 1)) := rfl

/-- A partition zeroed by an abort. -/
def jZeroed (x : JPart) : JPart := { x with mem := [], curve := none, wiped := true }

theorem jasperAbortEff_mine (h : jMine s r = some p) (hj : (jpart s p).job = true) : jasperAbortEff r 1 s =
    okR (jComplete (setJpart s p (jZeroed (jpart s p))) p 0 12) := by
  rw [jasperAbortEff, if_neg (by decide), jOwn_mine h, if_pos hj]
  rfl

/-! The service controller's jobs (R215, R224). -/

theorem exec_jasperJobDone_svc (hr : s.jasper.run = some 0) : exec (.jasperJobDone b) s = done s (svcFinish s) := by
  change execJasperJobDone b s = _
  rw [execJasperJobDone, hr]
  rfl

/-- What is left of the requests once the oldest has had one of its jobs. -/
def svcRest (j : SvcReq) (l : List SvcReq) : List SvcReq := if 1 < j.left then { j with left := j.left - 1 } :: l else l

/-- A check asks nothing more of its job's end than to let the next job in. -/
theorem svcFinish_check (hs : s.jasper.svc = j :: l) (hk : j.kind = .check) :
    svcFinish s = svcEnter (setSvc (jPost (jLeave s 0) 0) (svcRest j l)) := by
  simp only [svcFinish, hs, hk, svcRest]

theorem svcEnter_free (h : svcIn s = false) : svcEnter s =
    { s with jasper := { s.jasper with queue := s.jasper.queue ++ if s.jasper.svc = [] then [] else [0] } } := by
  by_cases hs : s.jasper.svc = []
  · rw [if_pos hs, List.append_nil]
    exact if_pos (by simp [hs])
  · rw [if_neg hs]
    exact if_neg (by simp [h, hs])

/-- With nothing else waiting, the next job of the service controller has the engine's queue to itself. -/
theorem svcFinish_lets_in (hr : s.jasper.run = some 0) (hq : s.jasper.queue = [])
    (hs : s.jasper.svc = j :: l) (hk : j.kind = .check) : PostsOne s (svcFinish s) ∧ (svcFinish s).jasper =
      { s.jasper with run := none, svc := svcRest j l, queue := if svcRest j l = [] then [] else [0] } := by
  have hleft : (jPost (jLeave s 0) 0).jasper = { s.jasper with run := none } := by
    rw [jPost_jasper]
    simp [jLeave, hr, hq]
  have hfree : svcIn (setSvc (jPost (jLeave s 0) 0) (svcRest j l)) = false := by simp [svcIn, setSvc, hleft, hq]
  rw [svcFinish_check hs hk, svcEnter_free hfree]
  exact ⟨jPost_posts.set_jasper, by simp [setSvc, hleft, hq]⟩

end

/-- Settles O45, clause by clause: the claim, its three outcomes and the release, the window, the commands, a start, the four ends of
a session's job, a job of the service controller, the abort and the result. -/
theorem publicKeyJobs : Obligations.PublicKeyJobs := by
  refine ⟨?_, ?_, ?_, ?_, ?_, ?_, ?_, ?_, ?_, ?_, ?_, ?_, ?_, ?_, ?_, ?_, ?_⟩
  · intro r p s hc hp hn ho hz hlow hg
    have hfind : [1, 2, 3].find? (jFree s) = some p :=
      find_session hp (by simp [jFree, ho, hz]) fun q hq hlt => jFree_eq_false ((hlow q hlt).resolve_left (by rintro rfl; simp at hq))
    exact runs_answered exec_jasperClaim hg (he := jasperClaimEff_claims hc hn hfind) fun _ =>
      ⟨rfl, congrArg JPart.owner (jpart_setJpart_same ..), jMine_jClaimed hc hp hn, fun q hq => jpart_setJpart_ne _ _ hq.symm,
        .answered (by simp) (jClaimed_frame.mono (by simp) (by simp))⟩
  · intro r p s h hg
    exact runs_answered exec_jasperClaim hg (he := jasperClaimEff_mine h) fun _ => ⟨rfl, .answered (by simp) .refl⟩
  · intro r s h hfull hg
    have hnone : [1, 2, 3].find? (jFree s) = none := by
      refine List.find?_eq_none.2 fun q hq => ?_
      simp only [List.mem_cons, List.not_mem_nil, or_false] at hq
      rw [jFree_eq_false ((hfull q (by omega)).resolve_left (by omega))]
      decide
    exact runs_answered exec_jasperClaim hg (he := jasperClaimEff_noneFree h hnone) fun _ => ⟨rfl, .answered (by simp) .refl⟩
  · intro r p s h hg
    exact runs_answered exec_jasperRelease hg (he := jasperClaimEff_release h) fun _ =>
      ⟨rfl, jpart_setJpart_same .., not_mem_queue_jLeave, jLeave_run_ne, .answered (by simp) (jRelease_frame.mono (by simp) (by simp))⟩
  · intro p s hz
    exact runs_done (exec_jasperZeroingDone hz) ⟨jpart_setJpart_same .., (Frame.setJpart (by simp) .refl).settled⟩
  · intro r p s h hj hg
    exact runs_answered exec_jasperDataRead hg (he := jasperDataRead_mine h hj) fun _ =>
      ⟨rfl, jpart_setJpart_same .., .answered (by simp) (.setJpart (by simp) .refl)⟩
  · intro r p v s hv h hj hg
    refine runs_answered (exec_jasperDataWrite hv) hg (he := jasperDataEff_mine h hj) fun x => ?_
    have hpart : jpart (answered s (setJpart s p { jAdvanced (jpart s p) with mem := tset 0 (jpart s p).mem (jpart s p).addr v }) x .ok [])
        p = { jAdvanced (jpart s p) with mem := tset 0 (jpart s p).mem (jpart s p).addr v } := jpart_setJpart_same ..
    rw [hpart]
    exact ⟨rfl, tget_tset_same .., fun k hk => tget_tset_ne _ _ _ _ hk.symm, rfl, .answered (by simp) (.setJpart (by simp) .refl)⟩
  · intro r a s h hg
    exact runs_jasperDataAccess_none h hg
  · intro r v i op p s hv hi h hok hj hg
    exact runs_jasperCmd hi hv h hok hj hg
  · intro p l s hr hq
    exact runs_done (exec_jasperJobStart hr hq) ⟨rfl, rfl, jStarted_curve, jStarted_frame.settled⟩
  · intro b p l a m w s hr hp hop hl hm ha h0 hlt hodd h3 hw
    subst hl
    have hend := jModInv_inverse hm ha h0 hlt hodd h3 hw
    refine runs_jobEnds hr hp ((jFinish_modInv hop).trans (by rw [hend])) ?_
    rw [jpart_settled_jFinished, jGiven_one]
    exact ⟨rfl, rfl, rfl, jFinished_run hr, fun i hi => tget_jOut_slot (k := 2) hi, fun i hi => tget_jOut_other (k := 2) hi,
      jFinished_posts.counts, jFinished_posts.pending, jFinished_posts.frame.settled⟩
  · intro b p l n e m s hr hp hop hl hn he hm hlt hodd htop heodd h3
    refine runs_jobEnds hr hp (jFinish_rsaPublic hop (jRsa_public hl hn he hm hlt hodd htop heodd h3)) ?_
    rw [jpart_settled_jFinished, jGiven_one]
    exact ⟨rfl, fun i hi => tget_jOut_slot (k := 3) hi, jFinished_posts.counts, jFinished_posts.pending, jFinished_posts.frame.settled⟩
  · intro b p qx qy x z s hr hp hcmd hqx hqy hx hz hqxp hqyp hon hne hx0 hxn hz0 hzn
    have hop : bits (jpart s p).cmd 31 24 = 2 := by rw [hcmd]; rfl
    have hcurve : jCurve (jpart s p) = some p256 := by rw [jCurve, hcmd]; rfl
    have hend := jEc_verify (s := s) rfl hqx hqy hx hz hqxp hqyp hon hne hx0 hxn hz0 hzn
    refine runs_jobEnds hr hp (jFinish_ec (by rw [hop]; rfl) hcurve (by rw [hop]; exact hend)) ?_
    rw [jpart_settled_jFinished]
    exact ⟨jFirst_verdict, jFinished_posts.counts, jFinished_posts.pending, jFinished_posts.frame.settled⟩
  · intro b p s hr hp hop hc hx
    have hcurve : jCurve (jpart s p) = none := by rw [jCurve, hc]; exact hx
    refine runs_jobEnds hr hp (jFinish_noCurve hop hcurve) ?_
    rw [jpart_settled_jFinished]
    exact ⟨rfl, jFinished_posts.pending, jFinished_posts.frame.settled⟩
  · intro b j l s hr hq hs hk
    obtain ⟨⟨hcounts, hpending, hframe⟩, hjasper⟩ := svcFinish_lets_in hr hq hs hk
    refine runs_done (exec_jasperJobDone_svc hr) ⟨?_, ?_, ?_, ?_, hcounts, hpending, hframe.settled⟩
    · exact congrArg Jasper.run hjasper
    · exact congrArg Jasper.svc hjasper
    · rw [settled_jasper, hjasper]
    · intro p
      rw [jpart, settled_jasper, hjasper, jpart]
  · intro r p s h hj hg
    refine runs_answered exec_jasperAbort hg (he := jasperAbortEff_mine h hj) fun x => ?_
    have hpart : jpart (answered s (jComplete (setJpart s p (jZeroed (jpart s p))) p 0 12) x .ok []) p =
        jEnded (jZeroed (jpart s p)) 0 12 := jpart_jComplete_setJpart
    rw [hpart]
    exact ⟨rfl, rfl, rfl, rfl, rfl, jComplete_setJpart_posts.pending, .answered jComplete_setJpart_posts.frame⟩
  · intro r p s h hg
    exact runs_answered exec_jasperResultRead hg (he := jasperResultRead_mine h) fun _ =>
      ⟨rfl, jpart_setJpart_same .., .answered (by simp) (.setJpart (by simp) .refl)⟩

end Sys2Proof.Machine

/-! A ZEROISE that meets an OTU4 group in test (R79, R108). -/

namespace Sys2Proof.Machine

theorem exec_zeroiseCmd {s : State} {r : Req} :
    exec (.zeroiseCmd r) s = done s (access s r K.zeroiseCmd true (zeroiseCmdEff 0x2E500001)) := rfl

/-- OTN_EVENTS is no register of a slice or of a port's counters. -/
theorem otnEvents_not_mem_squelchKeys (n j : Nat) : K.otnEvents n ∉ squelchKeys j := by
  simp only [squelchKeys, K.otnEvents, K.squelched, K.sliceFrames, K.sliceHeld, K.outLineFrames, K.outLineOctets, K.outProtected,
    K.outBypassed, K.inDropped, List.mem_cons, List.not_mem_nil, or_false]
  omega

/-- A ZEROISE whose frame names no register besides its own leaves OTN_EVENTS as it read. -/
theorem ZeroiseFrame.otnEvents_kept {ps : List Part} {s t : State} {n : Nat} (h : ZeroiseFrame [] ps s t) (hn : n < 8) :
    rd t (K.otnEvents n) = rd s (K.otnEvents n) := by
  have hz : ∀ n, n < 8 → eventKey (K.otnEvents n) = false ∧ K.otnEvents n ∉ zeroiseKeys := by decide
  obtain ⟨hevent, hown⟩ := hz n hn
  exact h.1 _ hevent (fun j => otnEvents_not_mem_squelchKeys n j) hown List.not_mem_nil

/-- Group 0 is an OTU4 in GROUP_MODE 3, its eight lanes in state 7; no LOS is noted, and a session runs on SPI. -/
def otu4InTest : State :=
  { State.reset with
    regs := (groupLanes 0).map (fun m => (K.laneStatus m, Lane.test)) ++ [(K.groupLayout 0, 11), (K.groupMode 0, 3)]
    boot := { State.reset.boot with engine := true, fw := true }
    chans := [(0, { State.idleChan with sess := some ⟨[], 0, 0, 0, 0, 0⟩ })] }

/-- The state in which its ZEROISE ends. -/
def otu4Zeroised : State := access otu4InTest spiRequest K.zeroiseCmd true (zeroiseCmdEff 0x2E500001)

/-- Its lanes have gone back to state 1, and both sides note LOS. -/
theorem otu4Zeroised_los : rd otu4Zeroised (K.otnEvents 0) = 0x101 := by decide +kernel

/-- Refutes O46 in its clause of ZEROISE_CMD: ZEROISE sets a group pair in test back to traffic (R79), which takes its lanes from state 7
to state 1, and a lane of an OTU4 group outside state 5 sets the sticky LOS of its side in OTN_EVENTS (R108), a register that the clause's
frame does not name; no hypothesis says that no OTU4 group is in test. -/
theorem not_rootAndKeys : ¬ Obligations.RootAndKeys := by
  intro h
  obtain ⟨-, -, -, -, -, -, -, -, -, -, -, -, -, -, -, -, -, -, -, -, hzeroise, -⟩ := h
  have hg : Admitted otu4InTest spiRequest K.zeroiseCmd true := by decide +kernel
  obtain ⟨t, ht, -, -, -, -, -, -, -, -, -, -, -, -, -, -, hframe⟩ :=
    hzeroise (.zeroiseCmd spiRequest) spiRequest otu4InTest (.inl rfl) (by decide) hg
  obtain rfl : t = settled otu4InTest otu4Zeroised := eq_settled_of_done (exec_zeroiseCmd ▸ ht)
  have hkept := hframe.otnEvents_kept (n := 0) (by decide)
  have hbefore : rd otu4InTest (K.otnEvents 0) = 0 := by decide
  rw [rd_settled, otu4Zeroised_los, hbefore] at hkept
  omega

end Sys2Proof.Machine

/-! A step of the queue, and what every command leaves of it (R418). -/

namespace Sys2Proof.Machine

section
variable {i : Instr} {s u : State}

theorem EndsIn.keeps_queue (h : EndsIn i s u) : Runs i s (fun t => t.pending = s.pending ∧ t.unit = s.unit) := by
  obtain h | h := h
  · exact ⟨_, h, rfl, rfl⟩
  · exact ⟨_, h, rfl, rfl⟩

end

/-- Settles O57, by what a step is on each form of the queue. -/
theorem stepRunsFront : Obligations.StepRunsFront :=
  ⟨fun _ _ _ => rfl, fun s hs => ⟨passCc s 1, by simp [step, hs], rfl, hs, rfl, .passCc (by decide) .refl⟩⟩

/-- Settles O58: each of the three ways a command is settled puts the queue and the antifuse values back. -/
theorem everyCommandAnswers : Obligations.EveryCommandAnswers := by
  intro c s
  by_cases hc : c = .tickBoundary
  · subst hc
    exact ⟨_, rfl, rfl, rfl⟩
  · obtain ⟨_, hu⟩ := exec_endsIn (s := s) hc
    exact hu.keeps_queue

end Sys2Proof.Machine

/-! Words under a mask: the bits a write reaches, and the others. -/

namespace Sys2Proof

theorem and_mod_two (a m : Nat) : (a &&& m) % 2 = a % 2 * (m % 2) := by
  rw [← Nat.pow_one 2, Nat.and_mod_two_pow, Nat.pow_one]
  rcases Nat.mod_two_eq_zero_or_one a with h | h <;> rcases Nat.mod_two_eq_zero_or_one m with h' | h' <;> simp [h, h']

theorem and_div_two (a m : Nat) : (a &&& m) / 2 = a / 2 &&& m / 2 := Nat.and_div_two_pow (n := 1)

/-- The bits of `m` are taken from `v`, the others kept. -/
theorem testBit_masked (a m v i : Nat) : (a - (a &&& m) + (v &&& m)).testBit i = if m.testBit i then v.testBit i else a.testBit i := by
  induction i generalizing a m v with
  | zero =>
    have hle := Nat.and_le_left (n := a) (m := m)
    have ha := and_mod_two a m
    have hv := and_mod_two v m
    simp only [Nat.testBit_zero]
    rcases Nat.mod_two_eq_zero_or_one m with h | h <;> simp only [h] at ha hv ⊢ <;> simp <;> omega
  | succ i ih =>
    have hle := Nat.and_le_left (n := a) (m := m)
    have ha := and_mod_two a m
    have hv := and_mod_two v m
    have hhalf : (a - (a &&& m) + (v &&& m)) / 2 = a / 2 - (a / 2 &&& m / 2) + (v / 2 &&& m / 2) := by
      rw [← and_div_two, ← and_div_two]
      rcases Nat.mod_two_eq_zero_or_one m with h | h <;> simp only [h] at ha hv <;> omega
    simp only [Nat.testBit_succ, hhalf, ih]

theorem bit_masked (a m v i : Nat) : bit (a - Nat.land a m + Nat.land v m) i = if bit m i then bit v i else bit a i := by
  simp only [bit_eq_testBit]
  exact testBit_masked a m v i

theorem bit_land (a m i : Nat) : bit (Nat.land a m) i = (bit a i && bit m i) := by
  simp only [bit_eq_testBit]
  exact Nat.testBit_and ..

/-- The bits of `m` cleared. -/
theorem bit_cleared (a m i : Nat) : bit (a - Nat.land a m) i = (bit a i && !bit m i) := by
  have h := bit_masked a m 0 i
  have h0 : Nat.land 0 m = 0 := Nat.zero_and m
  rw [h0, Nat.add_zero] at h
  rw [h]
  cases bit m i <;> simp [bit]

/-- A sum of powers of two below `2 ^ n`, each where `p` holds. -/
theorem bit_maskSum (p : Nat → Bool) (n i : Nat) :
    bit (forNat n (fun b m => if p b then m + 2 ^ b else m) 0) i = (decide (i < n) && p i) ∧
    forNat n (fun b m => if p b then m + 2 ^ b else m) 0 < 2 ^ n := by
  induction n with
  | zero => simp [forNat, bit]
  | succ n ih =>
    obtain ⟨hbit, hlt⟩ := ih
    simp only [forNat]
    generalize forNat n (fun b m => if p b then m + 2 ^ b else m) 0 = m at hbit hlt
    rw [bit_eq_testBit] at hbit
    split
    · next hp =>
      refine ⟨?_, by rw [Nat.pow_succ]; omega⟩
      rw [bit_eq_testBit, Nat.add_comm]
      by_cases hi : i = n
      · subst hi
        simp [Nat.testBit_two_pow_add_eq, Nat.testBit_lt_two_pow hlt, hp]
      · by_cases hin : i < n
        · rw [Nat.testBit_two_pow_add_gt hin, hbit]
          simp [hin, Nat.lt_succ_of_lt hin]
        · rw [Nat.testBit_lt_two_pow]
          · simp; omega
          · exact lt_of_lt_of_le (b := 2 ^ (n + 1)) (by rw [Nat.pow_succ]; omega) (Nat.pow_le_pow_right (by decide) (by omega))
    · next hp =>
      refine ⟨?_, by rw [Nat.pow_succ]; omega⟩
      rw [bit_eq_testBit, hbit]
      by_cases hi : i = n
      · subst hi; simp [hp]
      · congr 2; apply propext; omega

end Sys2Proof

/-! Secure event sources (R429): the bits a group's mask reaches in each world. -/

namespace Sys2Proof.Machine

section
variable {r : Req} {w k v i : Nat} {s : State}

theorem bit_evMask (hi : i < 32) {b : Bool} : bit (evMask w b) i = (srcDefined (32 * w + i) && (b || !srcSecure (32 * w + i))) := by
  rw [evMask, groupMask, (bit_maskSum (fun i => srcDefined (32 * w + i) && (b || !srcSecure (32 * w + i))) 32 i).1]
  simp [hi]


theorem srcSecure_eq (n : Nat) :
    ((decide (112 ≤ n) && decide (n < 160)) || (decide (176 ≤ n) && decide (n < 192))) = srcSecure n := by
  simp [srcSecure, Nat.lt_succ_iff]

/-- The registers of a group of sources, by their member. -/
def evtKey (w m : Nat) : Nat := (0xE010 + w) * 256 + m

theorem objOf_evtKey : ∀ w < 12, ∀ m ∈ [1, 2, 3, 4],
    (objOf (evtKey w m)).map (fun o => (o.ty, o.acc)) = some (.u32, if m = 1 then .w1c else .rw) := by decide +kernel

theorem evtKey_place {m : Nat} (hw : w < 12) (hm : m ∈ [1, 2, 3, 4]) :
    evtKey w m / 256 = 0xE010 + w ∧ evtKey w m % 256 = m ∧ evtKey w m / 256 / 0x1000 = 14 ∧ 1 ≤ m ∧ m ≤ 4 := by
  have : 1 ≤ m ∧ m ≤ 4 := by simp at hm; omega
  simp only [evtKey]
  omega

theorem evtKey_not_fifo {m : Nat} (hw : w < 12) (hm : m ∈ [1, 2, 3, 4]) : K.evtCtrl + 5 < evtKey w m := by
  have := evtKey_place hw hm
  simp only [K.evtCtrl]
  omega

theorem exists_obj_evtKey {m : Nat} (hw : w < 12) (hm : m ∈ [1, 2, 3, 4]) :
    ∃ o, objOf (evtKey w m) = some o ∧ o.ty = .u32 ∧ o.acc ≠ .wo := by
  obtain ⟨o, ho, h⟩ := Option.map_eq_some_iff.mp (objOf_evtKey w hw m hm)
  simp only [Prod.mk.injEq] at h
  refine ⟨o, ho, h.1, ?_⟩
  rw [h.2]
  split <;> decide

/-- A read of a group's register is masked by the world (R429). -/
theorem dictRead_evtKey {m : Nat} (hw : w < 12) (hm : m ∈ [1, 2, 3, 4]) :
    dictRead r (evtKey w m) s = okV s [Nat.land (rd s (evtKey w m)) (evMask w (secure s r))] := by
  obtain ⟨o, ho, -, hacc⟩ := exists_obj_evtKey hw hm
  obtain ⟨hi, hmem, hpage, h1, -⟩ := evtKey_place hw hm
  have hfifo := evtKey_not_fifo hw hm
  have hread : readE r (0xE010 + w) m (evtKey w m) s = evtGroupRead r (0xE010 + w - 0xE010) (evtKey w m) s := by
    simp only [K.evtCtrl] at hfifo
    have hne : evtKey w m ≠ K.evtData ∧ evtKey w m ≠ K.evtDataS ∧ evtKey w m ≠ K.evtLevel ∧ evtKey w m ≠ K.evtLevelS := by
      simp only [K.evtData, K.evtDataS, K.evtLevel, K.evtLevelS]
      omega
    obtain ⟨hd, hds, hl, hls⟩ := hne
    rw [readE, if_neg hd, if_neg hds, if_neg hl, if_neg hls, if_pos ⟨Nat.le_add_right .., h1⟩]
  simp only [dictRead, ho, if_neg hacc, hpage, hmem]
  rw [hi, hread, Nat.add_sub_cancel_left, evtGroupRead]

theorem widthOf_evtKey {m : Nat} (hw : w < 12) (hm : m ∈ [1, 2, 3, 4]) : widthOf (evtKey w m) = 32 := by
  obtain ⟨o, ho, hty, -⟩ := exists_obj_evtKey hw hm
  simp [widthOf, ho, hty, Ty.width]

theorem dictWrite_evtKey {m : Nat} (hw : w < 12) (hm : m ∈ [1, 2, 3, 4]) (hv : v < 2 ^ 32) :
    dictWrite r (evtKey w m) v s = if m = 1 then evtPendingEff r w v s else evtEnableEff r w (evtKey w m) v s := by
  obtain ⟨hi, hmem, hpage, h1, -⟩ := evtKey_place hw hm
  have hlow : 0xE010 ≤ 0xE010 + w := Nat.le_add_right ..
  simp only [dictWrite, hpage, hmem, widthOf_evtKey hw hm, Nat.mod_eq_of_lt hv]
  rw [hi, writeE, Nat.add_sub_cancel_left]
  by_cases h : m = 1
  · simp [h, hlow]
  · simp [h, hlow, show 2 ≤ m by omega]

/-- What a masked bit is to a request of the non-secure world. -/
theorem bit_evMask_nonsecure (hi : i < 32) (hs : secure s r = false) :
    bit (evMask w (secure s r)) i = (srcDefined (32 * w + i) && !srcSecure (32 * w + i)) := by
  rw [bit_evMask hi, hs, Bool.false_or]

/-- An enable written by the non-secure world: the shared bits take the value, the others stay (R429). -/
theorem evtEnableEff_runs {m : Nat} (hw : w < 12) (hm : m ∈ [2, 3, 4]) (hs : secure s r = false) (hv : v < 2 ^ 32)
    (hg : Admitted s r (evtKey w m) true) : Runs (.registerWrite r (evtKey w m) v) s (fun t => Answers t [] ∧
      Frame [evtKey w m] [.chans] s t ∧ ∀ i, i < 32 → (srcSecure (32 * w + i) = true → rdBit t (evtKey w m) i = rdBit s (evtKey w m) i) ∧
        (srcDefined (32 * w + i) = true → srcSecure (32 * w + i) = false → rdBit t (evtKey w m) i = bit v i)) := by
  have hm' : m ∈ [1, 2, 3, 4] := List.mem_cons_of_mem _ hm
  have hne : m ≠ 1 := by rintro rfl; simp at hm
  refine runs_doneReset exec_registerWrite ?_
  rw [access_pass hg, dictWrite_evtKey hw hm' hv, if_neg hne]
  refine ⟨rfl, ((Frame.wr (by simp) .refl).touch (by simp)).replied.settledReset, fun i hi => ?_⟩
  have hbit : rdBit (settledReset s (replied (touch (evtEnableEff r w (evtKey w m) v s).st r) .ok [])) (evtKey w m) i =
      if srcDefined (32 * w + i) && !srcSecure (32 * w + i) then bit v i else rdBit s (evtKey w m) i := by
    rw [← bit_evMask_nonsecure hi hs]
    simp only [rdBit, rd_settledReset, rd_replied, rd_touch, evtEnableEff, okR, rd_wr_same]
    exact bit_masked ..
  constructor
  · intro hsec
    exact hbit.trans (by simp [hsec])
  · intro hd hsec
    exact hbit.trans (by simp [hd, hsec])

theorem evtPendingEff_masked : evtPendingEff r w v s =
    okR (wr s (K.evtPending w) (rd s (K.evtPending w) - Nat.land (rd s (K.evtPending w)) (Nat.land v (evMask w (secure s r))))) := rfl

/-- Pending bits cleared: those written 1 that the world reaches (R429, R430). -/
theorem bit_pendingCleared (hi : i < 32) (hs : secure s r = false) :
    bit (rd s (K.evtPending w) - Nat.land (rd s (K.evtPending w)) (Nat.land v (evMask w (secure s r)))) i =
      (rdBit s (K.evtPending w) i && !(bit v i && (srcDefined (32 * w + i) && !srcSecure (32 * w + i)))) := by
  rw [bit_cleared, bit_land, bit_evMask_nonsecure hi hs, rdBit]

end

/-- Settles O55, from the mask of the world that each access of a group of sources goes through. -/
theorem secureSources : Obligations.SecureSources := by
  unfold Obligations.SecureSources
  simp only [srcSecure_eq]
  refine ⟨?_, ?_, ?_⟩
  · intro r w k s hw hk hs _ hg
    obtain ⟨m, hm, rfl⟩ : ∃ m ∈ [1, 2, 3, 4], k = evtKey w m := by
      simpa [K.evtPending, K.evtIrqEn, K.evtRecordEn, K.evtMsgEn, evtKey] using hk
    refine runs_answered exec_kdaRead hg (dictRead_evtKey hw hm) fun x =>
      ⟨.answered (by decide) .refl, _, rfl, fun i hi => ?_⟩
    rw [bit_land, bit_evMask_nonsecure hi hs]
    constructor
    · intro hsec
      simp [hsec]
    · intro hd hsec
      simp [hd, hsec, rdBit]
  · intro r w k v s hw hk hs hv _ hg
    obtain ⟨m, hm, rfl⟩ : ∃ m ∈ [2, 3, 4], k = evtKey w m := by
      simpa [K.evtIrqEn, K.evtRecordEn, K.evtMsgEn, evtKey] using hk
    exact evtEnableEff_runs hw hm hs hv hg
  · intro r w v i s hw hi hs hv _ hg
    have hread (t : State) (h : rd t (K.evtPending w) =
        rd s (K.evtPending w) - Nat.land (rd s (K.evtPending w)) (Nat.land v (evMask w (secure s r)))) :
        ∀ j, j < 32 → (srcSecure (32 * w + j) = true → rdBit t (K.evtPending w) j = rdBit s (K.evtPending w) j) ∧
          (srcDefined (32 * w + j) = true → srcSecure (32 * w + j) = false →
            rdBit t (K.evtPending w) j = (rdBit s (K.evtPending w) j && !bit v j)) := by
      intro j hj
      have hbit : rdBit t (K.evtPending w) j = _ := (congrArg (bit · j) h).trans (bit_pendingCleared hj hs)
      exact ⟨fun hsec => hbit.trans (by simp [hsec]), fun hd hsec => hbit.trans (by simp [hd, hsec])⟩
    have hframe : Frame [K.evtPending w] [.chans] s (touch (evtPendingEff r w v s).st r) := (Frame.wr (by simp) .refl).touch (by simp)
    obtain rfl | rfl := hi
    · have hw1 : dictWrite r (K.evtPending w) v s = evtPendingEff r w v s := dictWrite_evtKey (m := 1) hw (by simp) hv
      refine runs_doneReset exec_registerWrite ?_
      rw [access_pass hg, hw1]
      exact ⟨rfl, hframe.replied.settledReset, hread _ (by simp [evtPendingEff_masked, okR])⟩
    · have hx : exec (.evtPendingClear r w v) s = done s (access s r (K.evtPending w) true (evtPendingEff r w (v % 2 ^ 32))) := rfl
      rw [Nat.mod_eq_of_lt hv] at hx
      exact runs_access hx hg ⟨rfl, hframe.replied.settled, hread _ (by simp [evtPendingEff_masked, okR])⟩

end Sys2Proof.Machine

/-! Flow entries and queues through their windows (R324, R325). -/

namespace Sys2Proof.Machine

section
variable {ks : List Nat} {ps : List Part} {s u : State} {r : Req} {k v i w f n : Nat} {c : List Word} {new : Que} {code : Code} {load : Bool}

/-! Flow entries (R324). -/

/-- Slice `k` with flow entry `f` written. -/
def setFlow (s : State) (k f v : Nat) : State := { s with dp := { s.dp with flows := tset 0 s.dp.flows (k * 1024 + f) v } }

theorem flowAt_congr {t : State} (h : t.dp = s.dp) : flowAt t k f = flowAt s k f := by simp [flowAt, h]
theorem flowAt_setFlow_same : flowAt (setFlow s k f v) k f = v := tget_tset_same ..
theorem flowAt_setFlow_ne (h : n ≠ f) : flowAt (setFlow s k f v) k n = flowAt s k n := tget_tset_ne _ _ _ _ (by omega)

theorem flowDataEff_stores (hh : heldByOther s (Grp.flow k) r.ch = false) (hv : v % 8 = 0) : flowDataEff k r v s =
    okR (wr (release (setFlow s k (rd s (K.flowAddr k)) (Nat.land v 0x80000FFF)) (Grp.flow k)) (K.flowAddr k)
      ((rd s (K.flowAddr k) + 1) % 1024)) := by
  rw [flowDataEff, hh, if_neg Bool.false_ne_true, if_neg (not_not.mpr hv)]
  rfl

/-! Queues (R325). -/

theorem queAt_congr {t : State} (h : t.dp = s.dp) : queAt t k i = queAt s k i := by simp [queAt, h]

theorem queAt_setQue_same : queAt (setQue s k i new) k i = new := by
  unfold queAt setQue
  split
  · next h => simp [h]
  · simp

theorem queAt_setQue_ne (h : n ≠ i) : queAt (setQue s k i new) k n = queAt s k n := by
  simp only [queAt, setQue, tget_tset_ne _ _ _ _ (show k * 4096 + i ≠ k * 4096 + n by omega)]

theorem Frame.setQue (hp : Part.datapath ∈ ps) (h : Frame ks ps s u) : Frame ks ps s (setQue u k i new) := h.set_dp hp

theorem queTo_eq : queTo s k i w load = windowTo s (K.queueAddr k) (w * 2 ^ 16 + i) (Grp.queue k) (queWords (queAt s k i)) load := rfl

theorem queueAddrEff_loads (hh : heldByOther s (Grp.queue k) r.ch = false) : queueAddrEff k r v s =
    okR (windowTo (claim s (Grp.queue k) r.ch) (K.queueAddr k) (bits v 18 16 * 2 ^ 16 + bits v 11 0) (Grp.queue k)
      (queWords (queAt s k (bits v 11 0))) true) := claimed_free hh

theorem queueDataEff_stages (ha : quePtr s k = (i, w)) (hw : w < 3) (hne : stageOf s (Grp.queue k) ≠ [])
    (hh : heldByOther s (Grp.queue k) r.ch = false) : queueDataEff k r v s =
      okR (windowTo (staged s r (Grp.queue k) (lset (stageOf s (Grp.queue k)) w v)) (K.queueAddr k) ((w + 1) * 2 ^ 16 + i) (Grp.queue k) []
        false) := by
  have hptr : quePtr (claim s (Grp.queue k) r.ch) k = (i, w) := ha
  have hloaded : (stageOf (claim s (Grp.queue k) r.ch) (Grp.queue k)).isEmpty = false := List.isEmpty_eq_false_iff.mpr hne
  rw [queueDataEff, claimed_free hh]
  simp only [hptr, hloaded, hw, if_true, Bool.false_eq_true, if_false]
  rfl

/-- The settings that word 3 commits to queue `i`. -/
def queNew (s : State) (k i v : Nat) : Que := queFrom s (queAt s k i) (lset (stageOf s (Grp.queue k)) 3 v)

/-- The queue in its slice, its group released. -/
def queCommitted (s : State) (r : Req) (k i : Nat) (new : Que) : State :=
  release (setQue (claim s (Grp.queue k) r.ch) k i new) (Grp.queue k)

theorem queueDataEff_word3 (ha : quePtr s k = (i, 3)) (hne : stageOf s (Grp.queue k) ≠ [])
    (hh : heldByOther s (Grp.queue k) r.ch = false) : queueDataEff k r v s =
      match queCheck k (queAt s k i) (queNew s k i v) with
      | some code => ⟨queTo (claim s (Grp.queue k) r.ch) k i 0 true, code, []⟩
      | none => okR (queTo (queCommitted s r k i (queNew s k i v)) k i 4 true) := by
  have hptr : quePtr (claim s (Grp.queue k) r.ch) k = (i, 3) := ha
  have hloaded : (stageOf (claim s (Grp.queue k) r.ch) (Grp.queue k)).isEmpty = false := List.isEmpty_eq_false_iff.mpr hne
  rw [queueDataEff, claimed_free hh]
  simp only [hptr, hloaded, lt_self_iff_false, if_true, Bool.false_eq_true, if_false]
  rfl

theorem queueDataEff_ignores (ha : quePtr s k = (i, w)) (hw : 3 < w) (hh : heldByOther s (Grp.queue k) r.ch = false) :
    queueDataEff k r v s = okR (queTo (claim s (Grp.queue k) r.ch) k (winNext 4096 8 i w).1 (winNext 4096 8 i w).2
      ((winNext 4096 8 i w).2 == 0)) := by
  have hptr : quePtr (claim s (Grp.queue k) r.ch) k = (i, w) := ha
  rw [queueDataEff, claimed_free hh]
  simp only [hptr, if_neg (show ¬ w < 3 by omega), if_neg (show w ≠ 3 by omega)]

theorem queCommitted_leaves : queAt (queCommitted s r k i new) k i = new ∧
    (∀ j, j ≠ i → queAt (queCommitted s r k i new) k j = queAt s k j) ∧ Frame [] [.staging, .datapath] s (queCommitted s r k i new) :=
  ⟨queAt_setQue_same, fun _ hj => queAt_setQue_ne hj, .release (by decide) (.setQue (by decide) (.claim (by decide) .refl))⟩

theorem windowTo_dp {a g : Nat} : (windowTo s k a g c load).dp = s.dp := by cases load <;> rfl

/-- Where the window stands after word `w` of entry `i`. -/
theorem winNext_queue (hw : w < 8) :
    winNext 4096 8 i w = if w < 7 then (i, w + 1) else ((i + 1) % 4096, 0) := by
  by_cases h : w < 7
  · rw [winNext, if_pos (by omega), if_pos h]
  · rw [winNext, if_neg (by omega), if_neg h, nextEntry]

theorem quePtr_of_rd (h : rd u (K.queueAddr k) = w * 2 ^ 16 + i) (hi : i < 4096) (hw : w < 8) : quePtr u k = (i, w) := by
  simp only [quePtr, rdField, h, bits]
  refine Prod.ext ?_ ?_ <;> dsimp only <;> omega

theorem exec_queueDataWrite (hv : v < 2 ^ 32) : exec (.queueDataWrite r k v) s = done s (access s r (K.queueData k) true (queueDataEff k r v)) := by
  change done s (access s r (K.queueData k) true (queueDataEff k r (v % 2 ^ 32))) = _
  rw [Nat.mod_eq_of_lt hv]


theorem quePtr_lt (ha : quePtr s k = (i, w)) : i < 4096 ∧ w < 8 := by
  simp only [quePtr, rdField, bits, Prod.mk.injEq] at ha
  omega

end

/-- Settles O22, clause by clause: the flow entry stored, the copy loaded, a word it takes, the queue committed or refused by the
first check that fails, and the words ignored. -/
theorem queuesAndFlows : Obligations.QueuesAndFlows := by
  refine ⟨?_, ?_, ?_, ?_, ?_, ?_⟩
  · intro r k v s _ hv h8 hh hg
    have hx : exec (.flowDataWrite r k v) s = done s (access s r (K.flowData k) true (flowDataEff k r (v % 2 ^ 32))) := rfl
    rw [Nat.mod_eq_of_lt hv] at hx
    refine runs_answered hx hg (flowDataEff_stores hh h8) fun x => ⟨rfl, ?_, fun f hf => ?_, rd_answered.trans (rd_wr_same ..), ?_⟩
    · exact (flowAt_congr rfl).trans flowAt_setFlow_same
    · exact (flowAt_congr rfl).trans (flowAt_setFlow_ne hf)
    · exact Frame.answered (by decide) (.wr (by simp) (.release (by decide) (.set_dp (by decide) .refl)))
  · intro r k v s _ hv hh hg
    have hx : exec (.queueAddrWrite r k v) s = done s (access s r (K.queueAddr k) true (queueAddrEff k r (v % 2 ^ 32))) := rfl
    rw [Nat.mod_eq_of_lt hv] at hx
    exact runs_windowLoads hx hg (queueAddrEff_loads hh)
  · intro r k v i w s _ hv ha hw hne hh hg
    exact runs_windowStages (exec_queueDataWrite hv) hg (queueDataEff_stages ha hw hne hh)
  · intro r k v i s _ hv ha hne hh hk hg
    obtain ⟨hsame, hother, hframe⟩ := queCommitted_leaves (s := s) (r := r) (k := k) (i := i) (new := queNew s k i v)
    have he := queueDataEff_word3 (v := v) ha hne hh
    rw [show queCheck k (queAt s k i) (queNew s k i v) = none from hk, queTo_eq] at he
    refine runs_answered (exec_queueDataWrite hv) hg he fun x => ⟨rfl, ?_, fun j hj => ?_, rd_answered.trans rd_windowTo, ?_⟩
    · exact (queAt_congr windowTo_dp).trans hsame
    · exact (queAt_congr windowTo_dp).trans (hother j hj)
    · exact Frame.answered (by decide) ((hframe.mono (by simp) (by decide)).trans (windowTo_frame.mono (by simp) (by decide)))
  · intro r k v i c s _ hv ha hne hh hk hg
    have he := queueDataEff_word3 (v := v) ha hne hh
    rw [show queCheck k (queAt s k i) (queNew s k i v) = some c from hk, queTo_eq] at he
    exact (runs_windowCommits (exec_queueDataWrite hv) hg he (.claim (by decide) .refl) (by simp) (by decide) (by decide)).mono
      fun t ⟨hreply, _, ht⟩ => ⟨congrArg (·.code) hreply, ht⟩
  · intro r k v i w s _ ha hw hh hg
    obtain ⟨hi, hw8⟩ := quePtr_lt ha
    have hx : exec (.queueDataWrite r k v) s = done s (access s r (K.queueData k) true (queueDataEff k r (v % 2 ^ 32))) := rfl
    have he := queueDataEff_ignores (v := v % 2 ^ 32) ha hw hh
    rw [queTo_eq, winNext_queue hw8] at he
    refine runs_answered hx hg he fun x => ⟨rfl, ?_, ?_⟩
    · by_cases h : w < 7
      · rw [if_pos h]
        exact quePtr_of_rd (rd_answered.trans rd_windowTo) hi (by omega)
      · rw [if_neg h]
        exact quePtr_of_rd (rd_answered.trans rd_windowTo) (Nat.mod_lt _ (by decide)) (by decide)
    · exact Frame.answered (by decide) ((Frame.claim (by decide) .refl).trans (windowTo_frame.mono (by simp) (by decide)))

end Sys2Proof.Machine

/-! A step of a time base (R341, R343): what follows it, and what it leaves. -/

namespace Sys2Proof

theorem foldl_rel {α σ : Type} {R : σ → σ → Prop} (hr : ∀ x, R x x) (ht : ∀ {x y z}, R x y → R y z → R x z) {f : σ → α → σ}
    (hf : ∀ x a, R x (f x a)) (l : List α) (x : σ) : R x (l.foldl f x) := by
  induction l generalizing x with
  | nil => exact hr x
  | cons a l ih => exact ht (hf x a) (ih _)

end Sys2Proof

namespace Sys2Proof.Machine

section
variable {s t u : State} {k n m v j : Nat} {d : Int} {o : Int} {r : Req}

theorem Pending.wr_member (hk : k % 256 ≠ 1) (h : Pending s n) : Pending (Machine.wr s k v) n := by
  have hne : k ≠ K.evtPending (n / 32) := by simp only [K.evtPending]; omega
  simpa [Pending, rdBit, rd_wr_ne _ _ hne] using h

theorem Pending.of_regs (hr : t.regs = s.regs) (h : Pending s n) : Pending t n := by
  simpa [Pending, rdBit, rd_of_regs hr] using h

/-- What the tick, the gates and the performance bins do when a time base has moved: the time bases stand where they stood. -/
structure TbFollows (s t : State) : Prop where
  tbs : t.tbs = s.tbs
  clock : t.tick.clock = s.tick.clock
  keeps : Keeps (eventParts ++ [.clock, .lines]) s t
  pending : ∀ n, Pending s n → Pending t n
  regs : ∀ k, k / 256 < 0xE000 → k % 256 ≠ 10 → k ≠ K.tickStatus → rd t k = rd s k

theorem TbFollows.refl : TbFollows s s := ⟨rfl, rfl, fun p _ => p.same_refl s, fun _ h => h, fun _ _ _ _ => rfl⟩

theorem TbFollows.trans (h : TbFollows s t) (h' : TbFollows t u) : TbFollows s u where
  tbs := h'.tbs.trans h.tbs
  clock := h'.clock.trans h.clock
  keeps p hp := Part.same_trans (h.keeps p hp) (h'.keeps p hp)
  pending n hn := h'.pending n (h.pending n hn)
  regs k hp hm hs := (h'.regs k hp hm hs).trans (h.regs k hp hm hs)

theorem TbFollows.ite {c : Prop} [Decidable c] (h : c → TbFollows s t) (h' : ¬ c → TbFollows s u) : TbFollows s (if c then t else u) := by
  split <;> simp_all

theorem TbFollows.raise {a b : Nat} (hn : n < 384) (h : TbFollows s u) : TbFollows s (raise u n a b) := by
  have hr := raise_frame u n a b hn
  exact h.trans ⟨hr.tbs, by rw [hr.tick], (hr.ev (ks := [])).2, fun m => Pending.raise hn,
    fun k hk _ _ => hr.regs k (eventKey_of_page hk)⟩

/-- A register that neither shows pending sources nor belongs to what the frame keeps. -/
theorem TbFollows.wr (h1 : k % 256 ≠ 1) (hk : k % 256 = 10 ∨ k = K.tickStatus) (h : TbFollows s u) : TbFollows s (wr u k v) := by
  refine h.trans ⟨rfl, rfl, (Frame.wr (ks := [k]) (by simp) .refl).2, fun m => Pending.wr_member h1, fun k' _ hm hs => rd_wr_ne _ _ ?_⟩
  rintro rfl
  exact hk.elim hm hs

theorem TbFollows.set_tick {x : TickSt} (hc : x.clock = u.tick.clock) (h : TbFollows s u) : TbFollows s { u with tick := x } :=
  h.trans ⟨rfl, hc, (Frame.set_tick (ks := []) (by decide) .refl).2, fun _ => .of_regs rfl, fun _ _ _ _ => rfl⟩

theorem TbFollows.set_lines {x : Lines} (h : TbFollows s u) : TbFollows s { u with lines := x } :=
  h.trans ⟨rfl, rfl, (Frame.set_lines (ks := []) (by decide) .refl).2, fun _ => .of_regs rfl, fun _ _ _ _ => rfl⟩

theorem TbFollows.ppsFrom (h : TbFollows s u) : TbFollows s (ppsFrom u) := h.set_tick rfl

theorem alignStep_follows : TbFollows s (alignStep s d) := by
  unfold alignStep
  exact .ite (fun _ => .set_tick rfl .refl) (fun _ => .wr (by decide) (.inr rfl) (.set_tick rfl .refl))

theorem tickTbStep_follows : TbFollows s (tickTbStep s d) := by
  unfold tickTbStep
  refine .ite (fun _ => alignStep_follows) (fun _ => .ite (fun _ => .refl) fun _ => ?_)
  have hmoved : TbFollows s (wrBit { s with tick := { s.tick with target := ((s.tick.target : Int) + d).toNat } } K.tickStatus 3 true) :=
    .wr (by decide) (.inr rfl) (.set_tick rfl .refl)
  exact .ite (fun _ => hmoved.raise (by decide)) (fun _ => hmoved)

theorem pmStepped_follows : TbFollows s (pmStepped s) := by
  unfold pmStepped
  exact forNat_rel (R := TbFollows) (fun _ => .refl) .trans 8 (fun _ _ _ => .set_lines .refl) s

theorem gateRefresh_follows : TbFollows s (gateRefresh s m) := by
  have h10 : K.gateStatus m % 256 = 10 := by simp only [K.gateStatus]; omega
  unfold gateRefresh
  split
  · exact .refl
  · exact .wr (by omega) (.inl h10) (.wr (by omega) (.inl h10) (.wr (by omega) (.inl h10) .refl))

theorem gateFollow_follows : TbFollows s (gateFollow s n) := by
  unfold gateFollow
  refine foldl_rel (R := TbFollows) (fun _ => .refl) .trans (fun x e => ?_) _ s
  split
  · exact .ite (fun _ => gateRefresh_follows) (fun _ => .refl)
  · exact .refl

/-! The step itself. -/

/-- The record of a time base whose value is `v` from clock `c` on. -/
def tbMovedTo (y : Tb) (v c : Nat) : Tb := { y with base := v, at_ := c, tmrAt := y.tmrAt.map (fun e => (e.1, Nat.min e.2 (v / 2 ^ 32 - 1))) }

/-- The time base moved, and PPS_OUT waiting anew where it follows it. -/
def tbLoaded (s : State) (n v : Nat) : State :=
  let x := setTb s n (tbMovedTo (tb s n) v s.tick.clock)
  if rd x K.ppsTb = n then ppsFrom x else x

/-- Its steps counted. -/
def tbPlaced (s : State) (n v : Nat) : State :=
  wrField (tbLoaded s n v) (K.tbStatus n) 31 16 (rdField (tbLoaded s n v) (K.tbStatus n) 31 16 + 1)

/-- The tick and the performance bins follow a step of time base 0 by `d`. -/
def tbTicked (s : State) (n : Nat) (d : Int) : State := if n = 0 then tickTbStep s d else s
def tbBinned (s : State) (n : Nat) (d : Int) : State := if n = 0 ∧ tbSecond ≤ d.natAbs then pmStepped s else s

theorem tbStepTo_eq : tbStepTo s n v = gateFollow (tbBinned (tbTicked
    (raise (tbPlaced s n v) Ev.tbStepped n (ofSigned 32 (clampInt (-(2 ^ 31)) (2 ^ 31 - 1) (((v : Int) - tbNow s n) / 2 ^ 32))))
    n ((v : Int) - tbNow s n)) n ((v : Int) - tbNow s n)) n := rfl

theorem tbTicked_follows : TbFollows s (tbTicked s n d) := .ite (fun _ => tickTbStep_follows) (fun _ => .refl)
theorem tbBinned_follows : TbFollows s (tbBinned s n d) := .ite (fun _ => pmStepped_follows) (fun _ => .refl)

theorem tbLoaded_follows : TbFollows (setTb s n (tbMovedTo (tb s n) v s.tick.clock)) (tbLoaded s n v) :=
  .ite (fun _ => .ppsFrom .refl) (fun _ => .refl)

theorem tbLoaded_frame : Frame [] [.clock, .timeBases] s (tbLoaded s n v) :=
  .ite (fun _ => .set_tick (by decide) (.setTb (by decide) .refl)) (fun _ => .setTb (by decide) .refl)

theorem tbPlaced_tbs : (tbPlaced s n v).tbs = (setTb s n (tbMovedTo (tb s n) v s.tick.clock)).tbs := (wr_tbs ..).trans tbLoaded_follows.tbs
theorem tbPlaced_clock : (tbPlaced s n v).tick.clock = s.tick.clock := (congrArg (·.clock) (wr_tick ..)).trans tbLoaded_follows.clock
theorem tbPlaced_frame : Frame [K.tbStatus n] [.clock, .timeBases] s (tbPlaced s n v) := .wrField (by simp) (tbLoaded_frame.mono (by simp) (by simp))

theorem tbStepTo_follows : ∃ a, TbFollows (raise (tbPlaced s n v) Ev.tbStepped n a) (tbStepTo s n v) :=
  ⟨_, by rw [tbStepTo_eq]; exact tbTicked_follows.trans (tbBinned_follows.trans gateFollow_follows)⟩

/-- What a step of time base `n` to `v` leaves: that time base at `v`, the others as they were, and TB_STEPPED pending. -/
structure TbStepped (s : State) (n v : Nat) (t : State) : Prop where
  tb : tb t n = tbMovedTo (tb s n) v s.tick.clock
  others : ∀ m, m ≠ n → Machine.tb t m = Machine.tb s m
  clock : t.tick.clock = s.tick.clock
  keeps : Keeps (eventParts ++ [.clock, .timeBases, .lines]) s t
  pending : Pending t Ev.tbStepped
  regs : ∀ k, k / 256 < 0xE000 → k % 256 ≠ 10 → k ≠ K.tickStatus → k ≠ K.tbStatus n → rd t k = rd s k

theorem tbStepTo_stepped : TbStepped s n v (tbStepTo s n v) := by
  obtain ⟨a, h⟩ := tbStepTo_follows (s := s) (n := n) (v := v)
  have hraise := raise_frame (tbPlaced s n v) Ev.tbStepped n a (by decide)
  have htb (m : Nat) : tb (tbStepTo s n v) m = tb (setTb s n (tbMovedTo (tb s n) v s.tick.clock)) m :=
    tb_congr (h.tbs.trans (hraise.tbs.trans tbPlaced_tbs))
  have hkeeps : Keeps (eventParts ++ [.clock, .timeBases, .lines]) s (raise (tbPlaced s n v) Ev.tbStepped n a) :=
    ((tbPlaced_frame.ev (ks := [K.tbStatus n]) (ps := [.clock, .timeBases, .lines]) (by simp) (by decide)).raise (by decide)).2
  refine ⟨(htb n).trans (tb_setTb_same ..), fun m hm => (htb m).trans (tb_setTb_ne _ _ hm.symm), ?_, ?_, ?_, ?_⟩
  · rw [h.clock, hraise.tick, tbPlaced_clock]
  · refine fun p hp => Part.same_trans (hkeeps p hp) (h.keeps p fun hm => hp ?_)
    simp only [List.mem_append, List.mem_cons] at hm ⊢
    tauto
  · exact h.pending _ (raise_sets_pending _ _ _ _ (by decide))
  · exact fun k hk hm hs hst => (h.regs k hk hm hs).trans ((hraise.regs k (eventKey_of_page hk)).trans (tbPlaced_frame.1 k (by simpa using hst)))

theorem tbAt_tbMovedTo {y : Tb} {c : Nat} : tbAt (tbMovedTo y v c) c = v := by
  simp [tbAt, tbMovedTo, tbGain_zero]

theorem TbStepped.now (h : TbStepped s n v t) : tbNow t n = v := by rw [tbNow, h.tb, h.clock, tbAt_tbMovedTo]

theorem TbStepped.now_other (h : TbStepped s n v t) (hm : m ≠ n) : tbNow t m = tbNow s m := by rw [tbNow, h.others m hm, h.clock, tbNow]

/-- A time base shows the same value where its clock and the fields it is computed from are the same. -/
theorem tbNow_congr (ht : ∀ c, tbAt (tb t m) c = tbAt (tb s m) c) (hc : t.tick.clock = s.tick.clock) : tbNow t m = tbNow s m := by
  rw [tbNow, ht, hc, tbNow]

theorem tbAt_tbSetBy (c : Nat) : tbAt (tb (tbSetBy s r n) m) c = tbAt (tb s m) c := by
  rw [tbSetBy, tb_setTb]
  split
  · next h => subst h; rfl
  · rfl

theorem tbAt_unvalidated {y : Tb} (c : Nat) : tbAt (unvalidated y) c = tbAt y c := rfl

end
end Sys2Proof.Machine

/-! Loading, stepping, invalidating and reading the time bases (R339–R343). -/

namespace Sys2Proof.Machine

section
variable {ks : List Nat} {ps : List Part} {s t u : State} {k n m v : Nat} {p : Int} {r : Req} {x : Tbl Chan} {code : Code} {ws : List Word}

theorem Keeps.trans_frame (h : Keeps ps s t) (h' : Frame ks ps t u) : Keeps ps s u := fun p hp => Part.same_trans (h p hp) (h'.2 p hp)

theorem Keeps.answered (hp : Part.chans ∈ ps) (h : Keeps ps s u) : Keeps ps s (answered s u x code ws) :=
  h.trans_frame (ks := []) (show Frame [] ps u (settled s (replied { u with chans := x } code ws)) from (Frame.refl.set_chans hp).replied.settled)

theorem Pending.answered {j : Nat} (h : Pending u j) : Pending (answered s u x code ws) j := h

theorem tbNow_tbSetBy : tbNow (tbSetBy u r n) m = tbNow u m := tbNow_congr tbAt_tbSetBy rfl

theorem tbSetBy_frame : Frame ks [.timeBases] s (tbSetBy s r n) := .setTb (by simp) .refl

/-- The state that TB_SET leaves (R341, R343). -/
def tbLoadedWith (s : State) (r : Req) (n v : Nat) : State := tbSetBy (wrBit (tbStepTo s n (ofTime96 v)) (K.tbStatus n) 0 true) r n

theorem tbLoadedWith_frame : Frame [K.tbStatus n] [.timeBases] (tbStepTo s n (ofTime96 v)) (tbLoadedWith s r n v) :=
  .setTb (by simp) (.wrBit (by simp) .refl)

theorem tbSetEff_loads (hv : v / 2 ^ 16 % 2 ^ 32 < 1000000000) : tbSetEff r n v s = okR (tbLoadedWith s r n v) := if_neg (Nat.not_le.mpr hv)

theorem tbSetEff_refuses (hv : 1000000000 ≤ v / 2 ^ 16 % 2 ^ 32) : tbSetEff r n v s = abortR s .unsupportedValue := if_pos hv

theorem tbStatus_member : K.tbStatus n % 256 ≠ 1 := by simp only [K.tbStatus]; omega

theorem Pending.setTb {j : Nat} {y : Tb} (h : Pending u j) : Pending (setTb u n y) j := h

theorem exec_tbSet (hv : v < 2 ^ 96) : exec (.tbSet r n v) s = done s (access s r (K.tbSet n) true (tbSetEff r n v)) := by
  change done s (access s r (K.tbSet n) true (tbSetEff r n (v % 2 ^ 96))) = _
  rw [Nat.mod_eq_of_lt hv]

/-- An operand in the range of a 64-bit word is itself. -/
theorem toSigned_ofSigned (h1 : -(2 ^ 63) ≤ p) (h2 : p < 2 ^ 63) : toSigned 64 (ofSigned 64 p) = p := by
  simp only [toSigned, ofSigned]
  norm_num at h1 h2 ⊢
  omega

theorem exec_tbStep (h1 : -(2 ^ 63) ≤ p) (h2 : p < 2 ^ 63) :
    exec (.tbStep r n p) s = done s (access s r (K.tbStep n) true (tbStepEff r n p)) := by
  change done s (access s r (K.tbStep n) true (tbStepEff r n (toSigned 64 (ofSigned 64 p)))) = _
  rw [toSigned_ofSigned h1 h2]

/-! TB_INVALIDATE (R341). -/

/-- TB_CTRL as an invalidation writes it: its stored fields as they stand. -/
def tbCtrlKept (s : State) (n : Nat) : State := wr s (K.tbCtrl n) (Nat.land (setBit (rd s (K.tbCtrl n)) 1 true) 0x00FF0111)

theorem tbCtrlEff_invalidates
    (h : ∀ m, m < 4 → m ≠ n → rdBit s (K.tbCtrl m) 8 = true → rdField s (K.tbCtrl m) 23 16 ≠ rdField s (K.tbCtrl n) 23 16) :
    tbCtrlEff n (setBit (rd s (K.tbCtrl n)) 1 true) s = okR (tbInvalidate (tbCtrlKept s n) n) := by
  have hclash : (bit (setBit (rd s (K.tbCtrl n)) 1 true) 8 && (List.range 4).any (fun m => m != n && rdBit s (K.tbCtrl m) 8 &&
      rdField s (K.tbCtrl m) 23 16 == bits (setBit (rd s (K.tbCtrl n)) 1 true) 23 16)) = false := by
    rw [Bool.and_eq_false_iff, List.any_eq_false]
    refine .inr fun m hm => ?_
    rw [bits_setBit_ne _ _ _ _ _ (by decide)]
    have := h m (List.mem_range.mp hm)
    simp only [rdField] at this
    simp only [rdField, Bool.and_eq_true, bne_iff_ne, beq_iff_eq]
    tauto
  simp only [tbCtrlEff, hclash, Bool.false_eq_true, if_false, bit_setBit_same, if_true]
  rfl

theorem tbCtrlKept_frame : Frame [K.tbCtrl n] [] s (tbCtrlKept s n) := .wr (by simp) .refl

theorem tbValid_tbCtrlKept : tbValid (tbCtrlKept s n) m = tbValid s m := rdBit_wr_ne (by simp only [K.tbCtrl, K.tbStatus]; omega)

theorem servo_setServo (hv : v < 4) : servo (setServo s n v) n = v := by
  have hfield : servo (wrField s (K.tbStatus n) 2 1 v) n = v := by
    rw [servo, rdField_wrField_same (by decide)]
    omega
  unfold setServo
  dsimp only
  split
  · exact (rdField_wr_ne tbStatus_ne_tickStatus.symm).trans hfield
  · exact hfield

theorem servo_congr (h : rd t (K.tbStatus n) = rd s (K.tbStatus n)) : servo t n = servo s n := by rw [servo, rdField, h, servo, rdField]

theorem servo_tbInvalidate (hn : n < 4) : servo (tbInvalidate s n) n = Servo.free := by
  have hlapsed : servo (tbLapsed s n) n = Servo.free := servo_setServo (by decide)
  have htick : servo (tickFollows s n) n = Servo.free := by
    unfold tickFollows
    split
    · exact (servo_congr (tickInvalid_frame.1 _ (by simpa using tbStatus_ne_tickStatus))).trans hlapsed
    · exact hlapsed
  rw [tbInvalidate_eq]
  split
  · exact (servo_congr (rd_raise _ _ _ _ _ (by decide) (eventKey_tbStatus hn))).trans htick
  · exact htick

theorem tbInvalidate_stopsPps (hv : tbValid s n = true) (hp : rd s K.ppsTb = n) : Pending (tbInvalidate s n) Ev.ppsStopped := by
  have hkept : rd (tickFollows s n) K.ppsTb = n :=
    (tickFollows_frame.1 _ (by simp [K.ppsTb, K.tbStatus, K.tickStatus]; omega)).trans hp
  rw [tbInvalidate_eq, hv, hkept, if_pos (by simp)]
  exact raise_sets_pending _ _ _ _ (by decide)

/-! The capture of all time bases (R342). -/

/-- Every time base captured. -/
def tbsCaptured (s : State) : State := forNat 4 (fun i t => wr t (K.captureTb i) (toTime96 (tbNow s i))) s

theorem captureEff_one : captureEff 1 s = okR (wr (tbsCaptured s) K.captureTick (tickNo s)) := rfl

theorem captureTb_injective {i j : Nat} (h : i ≠ j) : K.captureTb i ≠ K.captureTb j := by simp only [K.captureTb]; omega

theorem tbsCaptured_reads {i : Nat} (hi : i < 4) : rd (tbsCaptured s) (K.captureTb i) = toTime96 (tbNow s i) :=
  forNat_sets (Q := fun _ => True) (P := fun t => rd t (K.captureTb i) = toTime96 (tbNow s i))
    (f := fun i t => wr t (K.captureTb i) (toTime96 (tbNow s i))) hi (fun _ _ _ _ _ => trivial) (fun _ _ => rd_wr_same ..)
    (fun _ _ _ hne h => (rd_wr_ne _ _ (captureTb_injective hne)).trans h) trivial

theorem forNat_rel_mem {σ : Type} {R : σ → σ → Prop} (hr : ∀ x, R x x) (ht : ∀ {x y z}, R x y → R y z → R x z) {f : Nat → σ → σ} (n : Nat)
    (hf : ∀ i ∈ List.range n, ∀ x, R x (f i x)) (x : σ) : R x (forNat n f x) :=
  forNat_rel hr ht n (fun i hi => hf i (List.mem_range.mpr hi)) x

theorem tbsCaptured_frame : Frame ((List.range 4).map K.captureTb) [] s (tbsCaptured s) :=
  forNat_rel_mem (R := Frame ((List.range 4).map K.captureTb) []) (f := fun i t => wr t (K.captureTb i) (toTime96 (tbNow s i)))
    (fun _ => .refl) .trans 4 (fun _ hi _ => .wr (List.mem_map_of_mem hi) .refl) s

end

/-- Settles O31, clause by clause: the time loaded or refused, the step, the end of VALID, and the two readings of one instant. -/
theorem timeBaseSteps : Obligations.TimeBaseSteps := by
  refine ⟨?_, ?_, ?_, ?_, ?_, ?_⟩
  · intro r n v s _ hv hns hg
    have h := tbStepTo_stepped (s := s) (n := n) (v := ofTime96 v)
    have hnow (m : Nat) : tbNow (tbLoadedWith s r n v) m = tbNow (tbStepTo s n (ofTime96 v)) m := tbNow_tbSetBy
    refine runs_answered (exec_tbSet hv) hg (tbSetEff_loads hns) fun x => ⟨rfl, ?_, ?_, ?_, fun m hm => ?_, ?_⟩
    · exact rdBit_answered.trans (rdBit_wrBit_same (tbStepTo s n (ofTime96 v)) ..)
    · exact (hnow n).trans h.now
    · exact ((h.pending.wr_member tbStatus_member).setTb).answered
    · exact (hnow m).trans (h.now_other hm)
    · exact (h.keeps.trans_frame (tbLoadedWith_frame.mono (List.Subset.refl _) (by decide))).answered (by decide)
  · intro r n v s _ hv hns hg
    exact runs_answered (exec_tbSet hv) hg (tbSetEff_refuses hns) fun x => ⟨rfl, .answered (by decide) .refl⟩
  · intro r n p s _ h1 h2 hg
    have h := tbStepTo_stepped (s := s) (n := n) (v := tbMoved (tbNow s n) p)
    refine runs_answered (exec_tbStep h1 h2) hg rfl fun x => ⟨rfl, ?_, ?_, fun m hm => ?_, ?_⟩
    · exact tbNow_tbSetBy.trans h.now
    · exact h.pending.setTb.answered
    · exact tbNow_tbSetBy.trans (h.now_other hm)
    · exact (h.keeps.trans_frame ((tbSetBy_frame (ks := [])).mono (List.Subset.refl _) (by decide))).answered (by decide)
  · intro r n s hn hd hg
    have hvalid (hv : tbValid s n = true) : tbValid (tbCtrlKept s n) n = true := tbValid_tbCtrlKept.trans hv
    have hpps (hp : rd s K.ppsTb = n) : rd (tbCtrlKept s n) K.ppsTb = n :=
      (tbCtrlKept_frame.1 _ (by simp [K.ppsTb, K.tbCtrl]; omega)).trans hp
    refine runs_answered rfl hg (tbCtrlEff_invalidates hd) fun x => ⟨rfl, ?_, ?_, fun hv hp => ?_, ?_⟩
    · exact (tbInvalidate_valid hn).1
    · exact (servo_congr rd_answered).trans (servo_tbInvalidate hn)
    · exact (tbInvalidate_stopsPps (hvalid hv) (hpps hp)).answered
    · exact ((tbCtrlKept_frame.toEv.mono (by simp) (by simp)).trans (tbInvalidate_frame.mono (by simp) (by simp))).answered
  · intro r n s hg
    exact runs_answered rfl hg rfl fun x => ⟨rfl, .answered (by decide) .refl⟩
  · intro r s hg
    refine runs_answered rfl hg captureEff_one fun x => ⟨rfl, fun i hi => ?_, rd_answered.trans (rd_wr_same ..), ?_⟩
    · exact rd_answered.trans ((rd_wr_ne _ _ (by simp only [K.captureTick, K.captureTb]; omega)).trans (tbsCaptured_reads hi))
    · exact Frame.answered (by decide) (.wr (by simp) (tbsCaptured_frame.mono (List.subset_cons_self ..) (by simp)))

end Sys2Proof.Machine

/-! Offsets written to a servo, and its holdover (R344–R346, R361). -/

namespace Sys2Proof.Machine

section
variable {s t u : State} {k n m v : Nat} {o : Int} {r : Req}

/-- The offset stored and counted, at the clock it came. -/
def servoCounted (s : State) (n : Nat) (o : Int) : State :=
  let x := inc (wr s (K.servoOffset n) (ofSigned 64 o)) (K.servoUpdates n) 1
  setTb x n { tb x n with offAt := x.tick.clock }

theorem servoCounted_frame : Frame [K.servoOffset n, K.servoUpdates n] [.timeBases] s (servoCounted s n o) :=
  .setTb (by simp) (.inc (by simp) (.wr (by simp) .refl))

theorem tb_servoCounted : tb (servoCounted s n o) n = { tb s n with offAt := s.tick.clock } := tb_setTb_same ..

theorem tbNow_servoCounted : tbNow (servoCounted s n o) n = tbNow s n := by
  rw [tbNow, tb_servoCounted]
  rfl

theorem servoCounted_reads : rd (servoCounted s n o) (K.servoOffset n) = ofSigned 64 o ∧ Counts s (servoCounted s n o) (K.servoUpdates n) 1 := by
  have hne : K.servoOffset n ≠ K.servoUpdates n := by simp only [K.servoOffset, K.servoUpdates]; omega
  exact ⟨(rd_inc_ne _ _ hne.symm).trans (rd_wr_same ..), Counts.of_inc (rd_wr_ne _ _ hne)⟩

/-- What the servo reads of its settings: no register that an offset writes. -/
theorem rd_servoCounted (h : k ≠ K.servoOffset n) (h' : k ≠ K.servoUpdates n) : rd (servoCounted s n o) k = rd s k :=
  servoCounted_frame.1 _ (by simp [h, h'])

theorem servo_servoCounted : servo (servoCounted s n o) n = servo s n :=
  servo_congr (rd_servoCounted (by simp only [K.tbStatus, K.servoOffset]; omega) (by simp only [K.tbStatus, K.servoUpdates]; omega))

/-- The servo's condition to step the time base (R345). -/
def servoSteps (s : State) (n : Nat) (o : Int) : Prop :=
  servo s n = Servo.free ∨ (rdBit s (K.tbCtrl n) 0 = true ∧ rd s (K.stepThreshold n) < o.natAbs)

/-- The time base stepped by the offset, VALID, its servo ACQUIRING. -/
def servoStepped (s : State) (n : Nat) (o : Int) : State :=
  let x := tbStepTo (servoCounted s n o) n (tbMoved (tbNow s n) (-o))
  setServo (wrBit (setTb x n (unvalidated (tb x n))) (K.tbStatus n) 0 true) n Servo.acquiring

theorem servoSteps_servoCounted : servoSteps (servoCounted s n o) n o ↔ servoSteps s n o := by
  have hctrl : rd (servoCounted s n o) (K.tbCtrl n) = rd s (K.tbCtrl n) :=
    rd_servoCounted (by simp only [K.tbCtrl, K.servoOffset]; omega) (by simp only [K.tbCtrl, K.servoUpdates]; omega)
  have hthr : rd (servoCounted s n o) (K.stepThreshold n) = rd s (K.stepThreshold n) :=
    rd_servoCounted (by simp only [K.stepThreshold, K.servoOffset]; omega) (by simp only [K.stepThreshold, K.servoUpdates]; omega)
  rw [servoSteps, servo_servoCounted, rdBit, hctrl, hthr, servoSteps, rdBit]

theorem servoUpdate_steps (h : servoSteps s n o) : servoUpdate s n o = servoStepped s n o := by
  have hc : servoSteps (servoCounted s n o) n o := servoSteps_servoCounted.mpr h
  rw [servoStepped, ← tbNow_servoCounted (o := o)]
  exact if_pos hc

theorem servoStepped_tbs : (servoStepped s n o).tbs = (setTb (tbStepTo (servoCounted s n o) n (tbMoved (tbNow s n) (-o))) n
    (unvalidated (tb (tbStepTo (servoCounted s n o) n (tbMoved (tbNow s n) (-o))) n))).tbs :=
  (setServo_frame.2 .timeBases (by simp)).trans (wr_tbs ..)

/-- What the step leaves of other registers and of the sources pending. -/
theorem setServo_follows : (∀ j, Pending s j → Pending (setServo s n v) j) ∧ (setServo s n v).tick.clock = s.tick.clock := by
  constructor
  · intro j h
    unfold setServo
    dsimp only
    split
    · exact Pending.wr_member (by decide) (h.wr_member tbStatus_member)
    · exact h.wr_member tbStatus_member
  · rw [(setServo_frame (s := s) (n := n) (v := v)).2 .clock (by simp)]

theorem servoStepped_reads (hn : n < 4) : tbNow (servoStepped s n o) n = tbMoved (tbNow s n) (-o) ∧ tbValid (servoStepped s n o) n = true ∧
    servo (servoStepped s n o) n = Servo.acquiring ∧ rd (servoStepped s n o) (K.servoOffset n) = ofSigned 64 o ∧
    Counts s (servoStepped s n o) (K.servoUpdates n) 1 ∧ Pending (servoStepped s n o) Ev.tbStepped := by
  have h := tbStepTo_stepped (s := servoCounted s n o) (n := n) (v := tbMoved (tbNow s n) (-o))
  have hrest (k : Nat) (hk : k / 256 < 0xE000) (h10 : k % 256 ≠ 10) (ht : k ≠ K.tickStatus) (hs : k ≠ K.tbStatus n) :
      rd (servoStepped s n o) k = rd (servoCounted s n o) k :=
    (setServo_frame.1 k (by simp [ht, hs])).trans ((rd_wrBit_ne _ _ _ hs.symm).trans (h.regs k hk h10 ht hs))
  obtain ⟨hoffset, hcount⟩ := servoCounted_reads (s := s) (n := n) (o := o)
  refine ⟨?_, ?_, servo_setServo (by decide), ?_, ?_, ?_⟩
  · have hclock : (servoStepped s n o).tick.clock = (tbStepTo (servoCounted s n o) n (tbMoved (tbNow s n) (-o))).tick.clock :=
      setServo_follows.2
    rw [tbNow, tb_congr servoStepped_tbs, tb_setTb_same, tbAt_unvalidated, hclock]
    exact h.now
  · exact setServo_valid.1.trans (rdBit_wrBit_same ..)
  · exact (hrest _ (by simp only [K.servoOffset]; omega) (by simp only [K.servoOffset]; omega) (by simp only [K.servoOffset, K.tickStatus]; omega)
      (by simp only [K.servoOffset, K.tbStatus]; omega)).trans hoffset
  · exact hcount.of_rd (hrest _ (by simp only [K.servoUpdates]; omega) (by simp only [K.servoUpdates]; omega)
      (by simp only [K.servoUpdates, K.tickStatus]; omega) (by simp only [K.servoUpdates, K.tbStatus]; omega))
  · exact setServo_follows.1 _ (h.pending.setTb.wr_member tbStatus_member)

/-! An offset below the threshold (R344, R345). -/

/-- The record `y` at its frequency, shown in FREQ and in the servo's state. -/
def servoTuned (s : State) (n : Nat) (y : Tb) (st : Nat) : State := setServo (wr (setTb s n y) (K.freq n) (ofSigned 32 y.freq)) n st

theorem natAbs_clampInt {l i : Int} (h : 0 ≤ l) : ((clampInt (-l) l i).natAbs : Int) ≤ l := by
  have := clampInt_bounds (lo := -l) (hi := l) (i := i) (by omega)
  omega

theorem servoUpdate_tunes (h : ¬ servoSteps s n o) : ∃ y st b,
    y.freq.natAbs ≤ rd (servoCounted s n o) (K.freqLimit n) * 1024 ∧ y.integ.natAbs ≤ rd (servoCounted s n o) (K.freqLimit n) * 1024 ∧
    servoUpdate s n o = if b = true then raise (servoTuned (servoCounted s n o) n y st) Ev.servoClamped n 0
      else servoTuned (servoCounted s n o) n y st := by
  have hc : ¬ servoSteps (servoCounted s n o) n o := fun hc => h (servoSteps_servoCounted.mp hc)
  have hlim : (0 : Int) ≤ rd (servoCounted s n o) (K.freqLimit n) * 1024 := by positivity
  refine ⟨_, _, _, ?_, ?_, if_neg hc⟩
  · exact_mod_cast natAbs_clampInt hlim
  · exact_mod_cast natAbs_clampInt hlim

theorem servoTuned_frame {y : Tb} {st : Nat} : Frame [K.freq n, K.tbStatus n, K.tickStatus] [.timeBases] s (servoTuned s n y st) :=
  Frame.trans (.wr (by simp) (.setTb (by simp) .refl)) (setServo_frame.mono (by simp) (by simp))

theorem tb_servoTuned {y : Tb} {st : Nat} : tb (servoTuned s n y st) n = y :=
  (tb_congr ((setServo_frame.2 .timeBases (by simp)).trans (wr_tbs ..))).trans (tb_setTb_same ..)


/-- The servo's counter and its offset register are no registers that tuning writes. -/
theorem servoUpdates_kept (hn : n < 4) : eventKey (K.servoUpdates n) = false ∧ K.servoUpdates n ∉ [K.freq n, K.tbStatus n, K.tickStatus] := by
  refine ⟨eventKey_of_page (by simp only [K.servoUpdates]; omega), ?_⟩
  simp only [List.mem_cons, List.not_mem_nil, or_false, K.servoUpdates, K.freq, K.tbStatus, K.tickStatus]
  omega

/-- An offset that does not step keeps frequency and integrator within FREQ_LIMIT. -/
theorem servoUpdate_within (hn : n < 4) (h : ¬ servoSteps s n o) :
    (tb (servoUpdate s n o) n).freq.natAbs ≤ rd s (K.freqLimit n) * 1024 ∧
    (tb (servoUpdate s n o) n).integ.natAbs ≤ rd s (K.freqLimit n) * 1024 ∧ Counts s (servoUpdate s n o) (K.servoUpdates n) 1 ∧
    EvFrame [K.servoOffset n, K.servoUpdates n, K.freq n, K.tbStatus n, K.tickStatus] [.timeBases] s (servoUpdate s n o) := by
  obtain ⟨y, st, b, hfreq, hinteg, he⟩ := servoUpdate_tunes h
  have hlim : rd (servoCounted s n o) (K.freqLimit n) = rd s (K.freqLimit n) :=
    rd_servoCounted (by simp only [K.freqLimit, K.servoOffset]; omega) (by simp only [K.freqLimit, K.servoUpdates]; omega)
  rw [hlim] at hfreq hinteg
  have htuned : EvFrame [K.freq n, K.tbStatus n, K.tickStatus] [.timeBases] (servoCounted s n o) (servoUpdate s n o) := by
    rw [he]
    exact .ite (fun _ => .raise (by decide) servoTuned_frame.toEv) (fun _ => servoTuned_frame.toEv)
  have htb : tb (servoUpdate s n o) n = y := by
    rw [he]
    split
    · exact (tb_congr (raise_tbs _ _ _ _ (by decide))).trans tb_servoTuned
    · exact tb_servoTuned
  obtain ⟨hkey, hmem⟩ := servoUpdates_kept hn
  refine ⟨by rw [htb]; exact hfreq, by rw [htb]; exact hinteg, servoCounted_reads.2.of_rd (htuned.1 _ hkey hmem), ?_⟩
  exact (servoCounted_frame.toEv.mono (by simp) (by simp)).trans (htuned.mono (by simp) (by simp))

/-! SERVO_OFFSET (R344, R361). -/

theorem exec_servoOffset (h1 : -(2 ^ 63) ≤ o) (h2 : o < 2 ^ 63) :
    exec (.servoOffset r n o) s = done s (access s r (K.servoOffset n) true (servoOffsetEff r n o)) := by
  change done s (access s r (K.servoOffset n) true (servoOffsetEff r n (toSigned 64 (ofSigned 64 o)))) = _
  rw [toSigned_ofSigned h1 h2]

theorem servoOffsetEff_updates (h : tbSetNow s r n = false) : servoOffsetEff r n o s = okR (servoUpdate s n o) := by
  rw [servoOffsetEff, h, if_neg Bool.false_ne_true]

theorem servoOffsetEff_discards (h : tbSetNow s r n = true) : servoOffsetEff r n o s = okR (inc s (K.servoDiscarded n) 1) := by
  rw [servoOffsetEff, h, if_pos rfl]

/-! HOLDOVER (R346). -/

/-- The time base runs on at its integrator. -/
def atIntegrator (s : State) (n : Nat) : State :=
  wr (setTb s n { reanchor s n with freq := (reanchor s n).integ }) (K.freq n) (ofSigned 32 (reanchor s n).integ)

theorem toHoldover_enters (h : servo s n = Servo.acquiring ∨ servo s n = Servo.locked) :
    toHoldover s n = raise (setServo (atIntegrator s n) n Servo.holdover) Ev.servoHoldover n 0 := if_pos h

theorem toHoldover_free (h : servo s n = Servo.free) : toHoldover s n = s := if_neg (by rw [h]; decide)

theorem toHoldover_reads (hn : n < 4) (h : servo s n = Servo.acquiring ∨ servo s n = Servo.locked) :
    servo (toHoldover s n) n = Servo.holdover ∧ (tb (toHoldover s n) n).freq = (tb s n).integ ∧ Pending (toHoldover s n) Ev.servoHoldover ∧
    EvFrame [K.freq n, K.tbStatus n, K.tickStatus] [.timeBases] s (toHoldover s n) := by
  rw [toHoldover_enters h]
  refine ⟨?_, ?_, raise_sets_pending _ _ _ _ (by decide), .raise (by decide) (Frame.toEv ?_)⟩
  · exact (servo_congr (rd_raise _ _ _ _ _ (by decide) (eventKey_tbStatus hn))).trans (servo_setServo (by decide))
  · have htbs : (raise (setServo (atIntegrator s n) n Servo.holdover) Ev.servoHoldover n 0).tbs = (atIntegrator s n).tbs :=
      (raise_tbs _ _ _ _ (by decide)).trans (setServo_frame.2 .timeBases (by simp))
    have hrecord : tb (atIntegrator s n) n = { reanchor s n with freq := (reanchor s n).integ } := tb_setTb_same ..
    rw [tb_congr htbs, hrecord]
    rfl
  · exact Frame.trans (.wr (by simp) (.setTb (by simp) .refl)) (setServo_frame.mono (by simp) (by simp))

theorem exec_servoUpdateTimeout_fresh (h : servoStale s n = false) : exec (.servoUpdateTimeout n) s = done s s := by
  change done s (if n < 4 ∧ servoStale s n = true then toHoldover s n else s) = _
  rw [h, if_neg (by simp)]

theorem exec_servoUpdateTimeout_stale (hn : n < 4) (h : servoStale s n = true) : exec (.servoUpdateTimeout n) s = done s (toHoldover s n) :=
  congrArg (done s) (if_pos ⟨hn, h⟩)

end

/-- Settles O32, clause by clause: an offset that steps, one that tunes, one discarded, and the two ways into HOLDOVER. -/
theorem servoLoop : Obligations.ServoLoop := by
  refine ⟨?_, ?_, ?_, ?_, ?_, ?_, ?_, ?_⟩
  · intro r n o s hn h1 h2 hfree hg hset
    obtain ⟨hnow, hvalid, hservo, hoffset, hcount, -⟩ := servoStepped_reads (s := s) (o := o) hn
    have he : servoOffsetEff r n o s = okR (servoStepped s n o) := by rw [servoOffsetEff_updates hset, servoUpdate_steps (.inl hfree)]
    exact runs_answered (exec_servoOffset h1 h2) hg he fun x => ⟨rfl, hnow, hvalid, hservo, hoffset, hcount⟩
  · intro r n o s hn h1 h2 hfree hthr hg hset
    have hsteps : ¬ servoSteps s n o := by
      rintro (h | ⟨-, h⟩)
      · exact hfree h
      · omega
    obtain ⟨hfreq, hinteg, hcount, hframe⟩ := servoUpdate_within hn hsteps
    exact runs_answered (exec_servoOffset h1 h2) hg (servoOffsetEff_updates hset) fun x => ⟨rfl, hfreq, hinteg, hcount, hframe.answered⟩
  · intro r n o s hn h1 h2 hen hthr hg hset
    obtain ⟨hnow, hvalid, hservo, -, hcount, hpending⟩ := servoStepped_reads (s := s) (o := o) hn
    have he : servoOffsetEff r n o s = okR (servoStepped s n o) := by rw [servoOffsetEff_updates hset, servoUpdate_steps (.inr ⟨hen, hthr⟩)]
    exact runs_answered (exec_servoOffset h1 h2) hg he fun x => ⟨rfl, hnow, hvalid, hservo, hcount, hpending.answered⟩
  · intro r n o s _ h1 h2 hset hg
    exact runs_answered (exec_servoOffset h1 h2) hg (servoOffsetEff_discards hset) fun x =>
      ⟨rfl, Counts.of_inc rfl, .answered (by simp) (.inc (by simp) .refl)⟩
  · intro r n s hn h hg
    obtain ⟨hservo, hfreq, hpending, hframe⟩ := toHoldover_reads hn h
    exact runs_answered (u := toHoldover s n) rfl hg rfl fun x => ⟨rfl, hservo, hfreq, hpending.answered, hframe.answered⟩
  · intro r n s h hg
    exact runs_answered (u := toHoldover s n) rfl hg rfl fun x => ⟨rfl, by rw [toHoldover_free h]; exact .answered (by simp) .refl⟩
  · intro n s _ h
    exact runs_done (exec_servoUpdateTimeout_fresh h) Frame.refl.settled
  · intro n s hn h hstale
    obtain ⟨hservo, hfreq, hpending, hframe⟩ := toHoldover_reads hn h
    exact runs_done (exec_servoUpdateTimeout_stale hn hstale) ⟨hservo, hfreq, hpending.settled, hframe.settled⟩

end Sys2Proof.Machine

/-! Timers, PPS_OUT and the transmit-timestamp FIFO (R355, R357–R359). -/

namespace Sys2Proof.Machine

section
variable {s t u y : State} {k n i j q v m : Nat} {late b : Bool} {r : Req}

theorem tmrCtrl_member : K.tmrCtrl n % 256 ≠ 1 := by simp only [K.tmrCtrl]; omega

/-! One timer fires (R357, R359). -/

/-- The timer disarmed, with LATE where it was past. -/
def timerOff (s : State) (n t : Nat) (late : Bool) : State :=
  let s := wrBit s (K.tmrCtrl n) t false
  if late then wrBit s (K.tmrCtrl n) (8 + t) true else s

theorem timerFire_eq : timerFire s n i late = if rdBit (timerOff s n i late) (K.tmrCtrl n) (4 + i) = true then
    (if rdField (timerOff s n i late) K.syncOutCtrl 1 0 = 3 then emit (timerOff s n i late) .syncOut else timerOff s n i late)
    else raise (timerOff s n i late) Ev.tbTimer n i := rfl

theorem timerOff_frame : Frame [K.tmrCtrl n] [] s (timerOff s n i late) := by
  have h : Frame [K.tmrCtrl n] [] s (wrBit s (K.tmrCtrl n) i false) := .wrBit (by simp) .refl
  exact .ite (fun _ => .wrBit (by simp) h) (fun _ => h)

theorem timerOff_reads : rdBit (timerOff s n i late) (K.tmrCtrl n) i = false ∧
    (late = true → rdBit (timerOff s n i late) (K.tmrCtrl n) (8 + i) = true) := by
  cases late with
  | false => exact ⟨rdBit_wrBit_same .., nofun⟩
  | true => exact ⟨(rdBit_wrBit_ne (by omega)).trans (rdBit_wrBit_same ..), fun _ => rdBit_wrBit_same ..⟩

/-- The other timers' bits stay. -/
theorem timerOff_other (h : j ≠ i) (h8 : j ≠ 8 + i) : rdBit (timerOff s n i late) (K.tmrCtrl n) j = rdBit s (K.tmrCtrl n) j := by
  have h0 : rdBit (wrBit s (K.tmrCtrl n) i false) (K.tmrCtrl n) j = rdBit s (K.tmrCtrl n) j := rdBit_wrBit_ne h.symm
  cases late with
  | false => exact h0
  | true => exact (rdBit_wrBit_ne h8.symm).trans h0

theorem timerOff_syncOut : rdField (timerOff s n i late) K.syncOutCtrl 1 0 = rdField s K.syncOutCtrl 1 0 := by
  rw [rdField, timerOff_frame.1 _ (by simp only [List.mem_singleton, K.syncOutCtrl, K.tmrCtrl]; omega), rdField]

theorem timerFire_raises (h : rdBit s (K.tmrCtrl n) (4 + i) = false) :
    timerFire s n i late = raise (timerOff s n i late) Ev.tbTimer n i := by
  rw [timerFire_eq, timerOff_other (by omega) (by omega), h, if_neg (by decide)]

theorem timerFire_pulses (h : rdBit s (K.tmrCtrl n) (4 + i) = true) :
    timerFire s n i late = if rdField s K.syncOutCtrl 1 0 = 3 then emit (timerOff s n i late) .syncOut else timerOff s n i late := by
  rw [timerFire_eq, timerOff_other (by omega) (by omega), h, if_pos rfl, timerOff_syncOut]

theorem execTbTimerFire_due (hn : n < 4) (hi : i < 4) (he : rdBit s (K.tmrCtrl n) i = true) (hs : (tb s n).stopped = false)
    (hd : timerDue s n i = true) : exec (.tbTimerFire n i) s = done s (timerFire s n i false) :=
  congrArg (done s) (if_pos ⟨hn, hi, he, by simp [hs], hd⟩)

theorem execTbTimerFire_early (hd : timerDue s n i = false) : exec (.tbTimerFire n i) s = done s s :=
  congrArg (done s) (if_neg (by simp [hd]))

/-! TMR_CTRL arms timers (R357). -/

theorem exec_tmrCtrlWrite (hv : v < 2 ^ 32) :
    exec (.tmrCtrlWrite r n v) s = done s (access s r (K.tmrCtrl n) true (tmrCtrlEff n v)) := by
  change done s (access s r (K.tmrCtrl n) true (tmrCtrlEff n (v % 2 ^ 32))) = _
  rw [Nat.mod_eq_of_lt hv]

/-- The word that TMR_CTRL holds before any timer fires: the value with the LATE bits that it does not arm. -/
def tmrWord (s : State) (n v : Nat) : Nat := v % 256 + Nat.land (rdField s (K.tmrCtrl n) 11 8) (15 - v % 16) * 256

/-- The timers that `v` names wait. -/
def timersWait (s : State) (n v : Nat) : State := forNat 4 (fun t s => if bit v t then timerWait s n t else s) s

theorem tmrCtrlEff_eq : tmrCtrlEff n v s = okR (timersWait (wr s (K.tmrCtrl n) (tmrWord s n v)) n v) := rfl

/-- Timer `i` waits from the time now. -/
def timerSet (s : State) (n i : Nat) : State := setTb s n { tb s n with tmrAt := tset 0 (tb s n).tmrAt i (tbNow s n / 2 ^ 32) }

theorem timerWait_eq : timerWait s n i = if (rdBit s (K.tbCtrl n) 4 && !(tb s n).stopped && timerPast (timerSet s n i) n i) = true
    then timerFire (timerSet s n i) n i true else timerSet s n i := rfl

theorem timerSet_frame : Frame [] [.timeBases] s (timerSet s n i) := .setTb (by simp) .refl

theorem timersWait_extend (h : rdBit s (K.tbCtrl n) 4 = false) : Frame [] [.timeBases] s (timersWait s n v) := by
  have hstep (y : State) (hy : Frame [] [.timeBases] s y) (i : Nat) : Frame [] [.timeBases] s (if bit v i then timerWait y n i else y) := by
    have hoff : rdBit y (K.tbCtrl n) 4 = false := by rw [rdBit, hy.1 _ (by simp)]; exact h
    refine .ite (fun _ => ?_) (fun _ => hy)
    rw [timerWait_eq, hoff]
    exact hy.trans timerSet_frame
  have hall : ∀ m, Frame [] [.timeBases] s (forNat m (fun t s => if bit v t then timerWait s n t else s) s) := by
    intro m
    induction m with
    | zero => exact .refl
    | succ m ih => exact hstep _ ih m
  exact hall 4

/-! Under SIGNED a timer whose target has passed fires as it is armed (R357). -/

/-- Between the timers of one write: the time base shows the same time, and no timer drives SYNC_OUT. -/
structure Arming (s : State) (n : Nat) (y : State) : Prop where
  frame : EvFrame [K.tmrCtrl n] [.timeBases] s y
  now : tbNow y n = tbNow s n
  stopped : (tb y n).stopped = (tb s n).stopped
  noOut : ∀ j, j < 4 → rdBit y (K.tmrCtrl n) (4 + j) = false

theorem timerPast_congr (h : rd t (K.tmrTarget n i) = rd s (K.tmrTarget n i)) (hnow : tbNow t n = tbNow s n) :
    timerPast t n i = timerPast s n i := by
  rw [timerPast, h, hnow, timerPast]

theorem Arming.past (h : Arming s n y) (hn : n < 4) (hi : i < 4) : timerPast y n i = timerPast s n i :=
  timerPast_congr (h.frame.1 _ (eventKey_of_page (by simp only [K.tmrTarget]; omega))
    (by simp only [List.mem_singleton, K.tmrTarget, K.tmrCtrl]; omega)) h.now

theorem Arming.signed (h : Arming s n y) (hn : n < 4) : rdBit y (K.tbCtrl n) 4 = rdBit s (K.tbCtrl n) 4 := by
  rw [rdBit, h.frame.1 _ (eventKey_of_page (by simp only [K.tbCtrl]; omega)) (by simp only [List.mem_singleton, K.tbCtrl, K.tmrCtrl]; omega), rdBit]

theorem tb_timerSet : tb (timerSet s n i) n = { tb s n with tmrAt := tset 0 (tb s n).tmrAt i (tbNow s n / 2 ^ 32) } := tb_setTb_same ..

theorem tbNow_timerSet : tbNow (timerSet s n i) n = tbNow s n := by
  rw [tbNow, tb_timerSet]
  rfl

theorem Arming.set (h : Arming s n y) : Arming s n (timerSet y n i) where
  frame := h.frame.trans (timerSet_frame.toEv.mono (by simp) (by simp))
  now := tbNow_timerSet.trans h.now
  stopped := (congrArg Tb.stopped tb_timerSet).trans h.stopped
  noOut := h.noOut

/-- The timer is fired, or waits. -/
def timerDone (s : State) (n i : Nat) (past : Bool) : State := if past then raise (timerOff s n i true) Ev.tbTimer n i else s

theorem Arming.wait (h : Arming s n y) (hn : n < 4) (hi : i < 4) (hsig : rdBit s (K.tbCtrl n) 4 = true) (hrun : (tb s n).stopped = false) :
    timerWait y n i = timerDone (timerSet y n i) n i (timerPast s n i) := by
  rw [timerWait_eq, h.signed hn, hsig, h.stopped, hrun, h.set.past hn hi, timerFire_raises (h.set.noOut i hi), timerDone, Bool.not_false, Bool.true_and, Bool.true_and]

theorem Arming.fired (h : Arming s n y) (hn : n < 4) (hi : i < 4) : Arming s n (timerDone y n i b) := by
  unfold timerDone
  split
  · have htbs : (raise (timerOff y n i true) Ev.tbTimer n i).tbs = y.tbs :=
      (raise_tbs _ _ _ _ (by decide)).trans (timerOff_frame.2 .timeBases (by simp))
    have htick : (raise (timerOff y n i true) Ev.tbTimer n i).tick = y.tick :=
      (raise_tick _ _ _ _ (by decide)).trans (timerOff_frame.2 .clock (by simp))
    refine ⟨h.frame.trans (.raise (by decide) (timerOff_frame.toEv.mono (by simp) (by simp))), ?_, ?_, fun j hj => ?_⟩
    · exact (tbNow_congr (fun c => by rw [tb_congr htbs]) (by rw [htick])).trans h.now
    · exact (congrArg Tb.stopped (tb_congr htbs)).trans h.stopped
    · exact (rdBit_raise _ _ _ _ _ _ (by decide) (eventKey_of_page (by simp only [K.tmrCtrl]; omega))).trans ((timerOff_other (by omega) (by omega)).trans (h.noOut j hj))
  · exact h

/-! What one write of TMR_CTRL leaves of timer `i` (R357). -/

/-- Timer `i` before its turn: armed, LATE clear. -/
def TimerNew (n i : Nat) (y : State) : Prop := rdBit y (K.tmrCtrl n) i = true ∧ rdBit y (K.tmrCtrl n) (8 + i) = false

/-- Timer `i` after its turn: fired with LATE where its target had passed. -/
def TimerPlaced (n i : Nat) (past : Bool) (y : State) : Prop :=
  rdBit y (K.tmrCtrl n) i = (!past) ∧ rdBit y (K.tmrCtrl n) (8 + i) = past ∧ (past = true → Pending y Ev.tbTimer)

theorem rdBit_timerDone (hn : n < 4) (h : j ≠ i) (h8 : j ≠ 8 + i) :
    rdBit (timerDone y n i b) (K.tmrCtrl n) j = rdBit y (K.tmrCtrl n) j := by
  unfold timerDone
  split
  · exact (rdBit_raise _ _ _ _ _ _ (by decide) (eventKey_of_page (by simp only [K.tmrCtrl]; omega))).trans (timerOff_other h h8)
  · rfl

theorem TimerNew.other (h : TimerNew n i y) (hn : n < 4) (hi : i < 4) (hj : j < 4) (hne : j ≠ i) : TimerNew n i (timerDone y n j b) :=
  ⟨(rdBit_timerDone hn hne.symm (by omega)).trans h.1, (rdBit_timerDone hn (by omega) (by omega)).trans h.2⟩

theorem Pending.timerDone (h : Pending y m) : Pending (timerDone y n j b) m := by
  unfold Machine.timerDone
  split
  · refine Pending.raise (by decide) ?_
    exact (h.wr_member tmrCtrl_member).wr_member tmrCtrl_member
  · exact h

theorem TimerPlaced.other (h : TimerPlaced n i b y) (hn : n < 4) (hi : i < 4) (hj : j < 4) (hne : j ≠ i) {c : Bool} :
    TimerPlaced n i b (timerDone y n j c) :=
  ⟨(rdBit_timerDone hn hne.symm (by omega)).trans h.1, (rdBit_timerDone hn (by omega) (by omega)).trans h.2.1, fun hb => (h.2.2 hb).timerDone⟩

theorem TimerNew.placed (h : TimerNew n i y) (hn : n < 4) : TimerPlaced n i b (timerDone y n i b) := by
  cases b with
  | false => exact ⟨h.1, h.2, nofun⟩
  | true =>
    have hreads := timerOff_reads (s := y) (n := n) (i := i) (late := true)
    have hkept (j : Nat) : rdBit (timerDone y n i true) (K.tmrCtrl n) j = rdBit (timerOff y n i true) (K.tmrCtrl n) j :=
      rdBit_raise _ _ _ _ _ _ (by decide) (eventKey_of_page (by simp only [K.tmrCtrl]; omega))
    exact ⟨(hkept i).trans hreads.1, (hkept _).trans (hreads.2 rfl), fun _ => raise_sets_pending _ _ _ _ (by decide)⟩

theorem bit_add_high {c : Nat} (hv : v < 256) : (i < 8 → bit (v + c * 256) i = bit v i) ∧ bit (v + c * 256) (8 + i) = bit c i := by
  have hlow : v + c * 256 = 2 ^ 8 * c + v := by omega
  simp only [bit_eq_testBit, hlow]
  constructor
  · intro hi
    rw [Nat.testBit_two_pow_mul_add _ hv, if_pos hi]
  · rw [Nat.testBit_two_pow_mul_add _ hv, if_neg (by omega), Nat.add_sub_cancel_left]

/-- The bits of the word stored: the timers armed, none with OUT, LATE clear for those. -/
theorem bit_tmrWord (hv : v < 16) (hi : i < 4) : bit (tmrWord s n v) i = bit v i ∧ bit (tmrWord s n v) (4 + i) = false ∧
    (bit v i = true → bit (tmrWord s n v) (8 + i) = false) := by
  have hmod : v % 256 = v ∧ v % 16 = v := ⟨Nat.mod_eq_of_lt (by omega), Nat.mod_eq_of_lt hv⟩
  have hout : bit v (4 + i) = false := by
    rw [bit_eq_testBit]
    exact Nat.testBit_lt_two_pow (hv.trans_le (Nat.pow_le_pow_right (by decide : 0 < 2) (Nat.le_add_right 4 i)))
  have hnot : ∀ v < 16, ∀ i < 4, bit (15 - v) i = !bit v i := by decide
  rw [tmrWord, hmod.1, hmod.2]
  refine ⟨(bit_add_high (by omega)).1 (by omega), ((bit_add_high (by omega)).1 (by omega)).trans hout, fun h => ?_⟩
  rw [(bit_add_high (by omega)).2, bit_land, hnot v hv i hi, h, Bool.not_true, Bool.and_false]

theorem timersWait_signed (hn : n < 4) (hv : v < 16) (hi : i < 4) (hb : bit v i = true) (hsig : rdBit s (K.tbCtrl n) 4 = true)
    (hrun : (tb s n).stopped = false) :
    Arming s n (timersWait (wr s (K.tmrCtrl n) (tmrWord s n v)) n v) ∧
    TimerPlaced n i (timerPast s n i) (timersWait (wr s (K.tmrCtrl n) (tmrWord s n v)) n v) := by
  have hword (j : Nat) : rdBit (wr s (K.tmrCtrl n) (tmrWord s n v)) (K.tmrCtrl n) j = bit (tmrWord s n v) j := by rw [rdBit, rd_wr_same]
  have hwait (j : Nat) (y : State) (hj : j < 4) (h : Arming s n y) :
      timerWait y n j = timerDone (timerSet y n j) n j (timerPast s n j) ∧ Arming s n (timerWait y n j) := by
    have he := h.wait hn hj hsig hrun
    exact ⟨he, by rw [he]; exact h.set.fired hn hj⟩
  refine forNat_sets (n := 4) (g := i) (f := fun t s => if bit v t then timerWait s n t else s) (Q := fun y => Arming s n y ∧ TimerNew n i y)
    (P := fun y => Arming s n y ∧ TimerPlaced n i (timerPast s n i) y) hi ?_ ?_ ?_ ⟨⟨?_, rfl, rfl, fun j hj => ?_⟩, ?_⟩
  · rintro j y hj hne ⟨h, hnew⟩
    obtain ⟨he, hw⟩ := hwait j y hj h
    split
    · exact ⟨hw, by rw [he]; exact TimerNew.other (y := timerSet y n j) hnew hn hi hj hne⟩
    · exact ⟨h, hnew⟩
  · rintro y ⟨h, hnew⟩
    obtain ⟨he, hw⟩ := hwait i y hi h
    rw [if_pos hb]
    exact ⟨hw, by rw [he]; exact TimerNew.placed (y := timerSet y n i) hnew hn⟩
  · rintro j y hj hne ⟨h, hplaced⟩
    obtain ⟨he, hw⟩ := hwait j y hj h
    split
    · exact ⟨hw, by rw [he]; exact TimerPlaced.other (y := timerSet y n j) hplaced hn hi hj hne⟩
    · exact ⟨h, hplaced⟩
  · exact .wr (by simp) .refl
  · exact (hword _).trans (bit_tmrWord hv hj).2.1
  · exact ⟨(hword _).trans ((bit_tmrWord hv hi).1.trans hb), (hword _).trans ((bit_tmrWord hv hi).2.2 hb)⟩

/-! PPS_OUT (R358, R359). -/

/-- PPS_TB has passed a second and is VALID. -/
theorem exec_ppsPulse (hv : tbValid s (rd s K.ppsTb) = true) (h : s.tick.pps < ppsSecond s (rd s K.ppsTb)) :
    exec .ppsPulse s = done s (if rdField s K.syncOutCtrl 1 0 = 1
      then emit (emit (ppsFrom s) (.pps (rd s K.ppsTb) (rd s K.ppsWidth))) .syncOut
      else emit (ppsFrom s) (.pps (rd s K.ppsTb) (rd s K.ppsWidth))) :=
  congrArg (done s) (if_pos (by simp [hv, h]))

theorem ppsFrom_frame : Frame [] [.clock] s (ppsFrom s) := .set_tick (by decide) .refl
theorem ppsFrom_out : (ppsFrom s).out = s.out := ppsFrom_frame.2 .out (by decide)
theorem ppsFrom_pps : (ppsFrom s).tick.pps = ppsSecond s (rd s K.ppsTb) := rfl

theorem exec_ppsPulse_idle (h : tbValid s (rd s K.ppsTb) = false ∨ ppsSecond s (rd s K.ppsTb) ≤ s.tick.pps) : exec .ppsPulse s = done s s :=
  congrArg (done s) (if_neg (by
    obtain h | h := h
    · simp [h]
    · simp [Nat.not_lt.mpr h]))

/-! The transmit-timestamp FIFO of a port (R355). -/

/-- The read pointer of port `q`'s FIFO moves on. -/
def txWordOn (s : State) (q : Nat) : State := { s with dp := { s.dp with txWord := tset 0 s.dp.txWord q ((tget 0 s.dp.txWord q + 1) % 4) } }

theorem txTsRead_entry {e : List Word} {l : List (List Word)} (h : txTs s q = e :: l) : txTsRead q s =
    okV (if tget 0 s.dp.txWord q = 3 then setTxTs (txWordOn s q) q l else txWordOn s q) [nth e (tget 0 s.dp.txWord q)] := by
  simp [txTsRead, h, txWordOn]

theorem txTsRead_empty (h : txTs s q = []) : txTsRead q s = okV s [0] := by simp [txTsRead, h]

theorem txWordOn_word : tget 0 (txWordOn s q).dp.txWord q = (tget 0 s.dp.txWord q + 1) % 4 := tget_tset_same ..

end

/-- Settles O33: the timers armed and fired, PPS_OUT and the FIFO. -/
theorem timersAndStamps : Obligations.TimersAndStamps := by
  refine ⟨?_, ?_, ?_, ?_, ?_, ?_, ?_, ?_, ?_, ?_, ?_, ?_⟩
  · intro r n v s _ hv hext hg
    have hoff : rdBit (wr s (K.tmrCtrl n) (tmrWord s n v)) (K.tbCtrl n) 4 = false := by
      rw [rdBit, rd_wr_ne _ _ (by simp only [K.tmrCtrl, K.tbCtrl]; omega)]
      exact hext
    have hwait := timersWait_extend (v := v) hoff
    refine runs_answered (exec_tmrCtrlWrite hv) hg tmrCtrlEff_eq fun x => ⟨rfl, ?_, ?_⟩
    · exact rd_answered.trans ((hwait.1 _ (by simp)).trans (rd_wr_same ..))
    · exact Frame.answered (by simp) ((Frame.wr (by simp) .refl).trans (hwait.mono (by simp) (by simp)))
  · intro n i s hn hi he hrun hd hout
    refine runs_done (execTbTimerFire_due hn hi he hrun hd) ?_
    rw [timerFire_raises hout]
    refine ⟨?_, ?_, ?_⟩
    · exact (rdBit_raise _ _ _ _ _ _ (by decide) (eventKey_of_page (by simp only [K.tmrCtrl]; omega))).trans timerOff_reads.1
    · exact raise_sets_pending _ _ _ _ (by decide)
    · exact EvFrame.settled (.raise (by decide) timerOff_frame.toEv)
  · intro n i s hn hi he hrun hd hout hroute
    refine runs_done (execTbTimerFire_due hn hi he hrun hd) ?_
    rw [timerFire_pulses hout, if_pos hroute]
    exact ⟨timerOff_reads.1, congrArg (Output.syncOut :: ·) (timerOff_frame.2 .out (by simp)), .emit (by simp) (timerOff_frame.mono (by simp) (by simp))⟩
  · intro n i s hn hi he hrun hd hout hroute
    refine runs_done (execTbTimerFire_due hn hi he hrun hd) ?_
    rw [timerFire_pulses hout, if_neg hroute]
    exact ⟨timerOff_reads.1, timerOff_frame⟩
  · intro n i s hd
    exact runs_done (execTbTimerFire_early hd) .refl
  · intro r n v i s hn hv hi hb hsig hrun hg
    obtain ⟨harming, hbit, hlate, hpending⟩ := timersWait_signed hn hv hi hb hsig hrun
    exact runs_answered (exec_tmrCtrlWrite (by omega)) hg tmrCtrlEff_eq fun x =>
      ⟨rfl, hbit, hlate, fun hp => (hpending hp).answered, harming.frame.answered⟩
  · intro s hv hpps hroute
    refine runs_done (exec_ppsPulse hv hpps) ?_
    rw [if_neg hroute]
    exact ⟨congrArg (_ :: ·) ppsFrom_out, by rw [settled_tick, emit_tick, ppsFrom_pps], Frame.settled (.emit (by decide) (ppsFrom_frame.mono (by decide) (by decide)))⟩
  · intro s hv hpps hroute
    refine runs_done (exec_ppsPulse hv hpps) ?_
    rw [if_pos hroute]
    exact ⟨congrArg (_ :: _ :: ·) ppsFrom_out, by rw [settled_tick, emit_tick, emit_tick, ppsFrom_pps],
      Frame.settled (.emit (by decide) (.emit (by decide) (ppsFrom_frame.mono (by decide) (by decide))))⟩
  · intro s h
    exact runs_done (exec_ppsPulse_idle h) .refl
  · intro r q e l s _ hl hw hg
    refine runs_answered rfl hg (txTsRead_entry hl) fun x => ?_
    rw [hw, if_pos rfl]
    refine ⟨rfl, txTs_setTxTs_same .., rd_wr_same .., ?_, ?_⟩
    · exact txWordOn_word.trans (by rw [hw])
    · exact Frame.answered (by simp) (.wr (by simp) (.set_dp (by simp) (.set_dp (by simp) .refl)))
  · intro r q e l s hl hw hg
    refine runs_answered rfl hg (txTsRead_entry hl) fun x => ?_
    rw [if_neg (by omega)]
    refine ⟨rfl, hl, ?_, ?_⟩
    · exact txWordOn_word.trans (Nat.mod_eq_of_lt (by omega))
    · exact Frame.answered (by simp) (.set_dp (by simp) .refl)
  · intro r q s hl hg
    exact runs_answered rfl hg (txTsRead_empty hl) fun x => ⟨rfl, .answered (by simp) .refl⟩

end Sys2Proof.Machine

/-! Statistics reads and the performance counters' settings (R365–R373). -/

namespace Sys2Proof.Machine

section
variable {s t u : State} {k n h w v low : Nat} {bad : Bool} {r : Req} {x : SaStat} {p : Perf}

/-! SA_STAT_DATA (R365, R366). -/

theorem bits_statAddr (hw : w < 6) (hh : h < 131072) : bits (w * 2 ^ 20 + h) 16 0 = h ∧ bits (w * 2 ^ 20 + h) 22 20 = w := by
  simp only [bits]
  omega

/-- The pointer of SA_STAT_ADDR past word `w` of handle `h`. -/
def statNext (h w : Nat) : Nat := if w < 5 then (w + 1) * 2 ^ 20 + h else (h + 1) % 131072

/-- A word read of the entry `x`: the pointer moves on, a high word leaves its low word in the latch. -/
def statStepped (s : State) (h w : Nat) (x : SaStat) : State :=
  wr { s with assoc := { s.assoc with latch := if w = 0 ∨ w = 2 then some ((w + 1) * 2 ^ 20 + h, nth (statWords x) (w + 1)) else none } }
    K.saStatAddr (statNext h w)

theorem saStatRead_eq (ha : rd s K.saStatAddr = w * 2 ^ 20 + h) (hw : w < 6) (hh : h < 131072) :
    saStatRead s = okV (statStepped s h w (statView s h)) [match s.assoc.latch with
      | some (a', low) => if (w = 1 ∨ w = 3) ∧ a' = w * 2 ^ 20 + h then low else nth (statWords (statView s h)) w
      | none => nth (statWords (statView s h)) w] := by
  obtain ⟨hhandle, hword⟩ := bits_statAddr hw hh
  have hmul : w * 2 ^ 20 + h + 2 ^ 20 = (w + 1) * 2 ^ 20 + h := by omega
  unfold saStatRead
  simp only [ha, hhandle, hword, hmul]
  rfl

theorem saStatRead_fresh (ha : rd s K.saStatAddr = w * 2 ^ 20 + h) (hw : w < 6) (hh : h < 131072)
    (hl : ∀ low, s.assoc.latch ≠ some (w * 2 ^ 20 + h, low)) :
    saStatRead s = okV (statStepped s h w (statView s h)) [nth (statWords (statView s h)) w] := by
  rw [saStatRead_eq ha hw hh]
  split
  · next a' low hlatch => rw [if_neg (by rintro ⟨-, rfl⟩; exact hl low hlatch)]
  · rfl

theorem saStatRead_latched (ha : rd s K.saStatAddr = w * 2 ^ 20 + h) (hw : w = 1 ∨ w = 3) (hh : h < 131072)
    (hl : s.assoc.latch = some (w * 2 ^ 20 + h, low)) : saStatRead s = okV (statStepped s h w (statView s h)) [low] := by
  rw [saStatRead_eq ha (by omega) hh, hl]
  simp [hw]

theorem statStepped_frame : Frame [K.saStatAddr] [.assoc] s (statStepped s h w x) := .wr (by decide) (.set_assoc (by decide) .refl)

theorem statStepped_addr : rd (statStepped s h w x) K.saStatAddr = statNext h w := rd_wr_same ..

theorem statView_thawed (hf : frozenSnap s = none) : statView s h = statAt s h := by rw [statView, hf]
theorem statView_frozen {f : Snap} (hf : frozenSnap s = some f) : statView s h = tget stat0 f.sas h := by rw [statView, hf]

/-- A read that an uncorrectable entry does not meet: it shows a snapshot or a latched word, or the entry is good. -/
theorem saStatReadEff_good (hb : bad = false ∨ statFromStore s = false) : saStatReadEff bad s = saStatRead s := by
  rw [saStatReadEff, if_neg]
  obtain rfl | h := hb <;> simp_all

theorem statFromStore_frozen {f : Snap} (hf : frozenSnap s = some f) : statFromStore s = false := by simp [statFromStore, hf]

theorem statFromStore_latched (ha : rd s K.saStatAddr = w * 2 ^ 20 + h) (hw : w = 1 ∨ w = 3) (hh : h < 131072)
    (hl : s.assoc.latch = some (w * 2 ^ 20 + h, low)) : statFromStore s = false := by
  obtain ⟨-, hword⟩ := bits_statAddr (w := w) (h := h) (by omega) hh
  simp only [statFromStore, ha, hl, hword]
  obtain rfl | rfl := hw <;> simp

theorem statFromStore_fresh (hf : frozenSnap s = none) (ha : rd s K.saStatAddr = w * 2 ^ 20 + h)
    (hl : ∀ low, s.assoc.latch ≠ some (w * 2 ^ 20 + h, low)) : statFromStore s = true := by
  simp only [statFromStore, hf, Option.isNone_none, ha, Bool.true_and]
  split
  · next a' low hlatch =>
    have hne : a' ≠ w * 2 ^ 20 + h := by
      rintro rfl
      exact hl low hlatch
    rw [beq_eq_false_iff_ne.mpr hne]
    rfl
  · rfl

/-! The entry found uncorrectable (R367). -/

theorem statEccHit_frame : EvFrame [K.statEcc, K.statEccLast] [.assoc] s (statEccHit s h) :=
  .raise (by decide) (Frame.toEv (.wr (by decide) (.inc (by decide) (.set_assoc (by decide) .refl))))

theorem statEccHit_assoc : (statEccHit s h).assoc = (setStat s h stat0).assoc := by
  rw [statEccHit, raise_assoc _ _ _ _ (by decide)]
  rfl

theorem statEccHit_reads : Counts s (statEccHit s h) K.statEcc 1 ∧ rd (statEccHit s h) K.statEccLast = h ∧ Pending (statEccHit s h) Ev.statEcc := by
  have hkept (k : Nat) (hk : eventKey k = false) : rd (statEccHit s h) k = rd (wr (inc (setStat s h stat0) K.statEcc 1) K.statEccLast h) k :=
    rd_raise _ _ _ _ _ (by decide) hk
  refine ⟨?_, ?_, raise_sets_pending _ _ _ _ (by decide)⟩
  · exact (Counts.of_inc (s := s) (u := setStat s h stat0) rfl).of_rd ((hkept _ (by decide)).trans (rd_wr_ne _ _ (by decide)))
  · exact (hkept _ (by decide)).trans (rd_wr_same ..)

theorem statEccHit_kept : frozenSnap (statEccHit s h) = frozenSnap s ∧ (statEccHit s h).assoc.latch = s.assoc.latch ∧
    rd (statEccHit s h) K.saStatAddr = rd s K.saStatAddr := by
  refine ⟨?_, (congrArg Assoc.latch statEccHit_assoc).trans rfl, statEccHit_frame.1 _ (by decide) (by decide)⟩
  rw [frozenSnap, statEccHit_frame.2 .stats (by decide), frozenSnap]

theorem statView_statEccHit (hf : frozenSnap s = none) : statView (statEccHit s h) h = stat0 := by
  rw [statView_thawed (statEccHit_kept.1.trans hf), statAt_congr statEccHit_assoc, statAt_setStat_same]

theorem nth_statWords_stat0 (hw : w < 6) : nth (statWords stat0) w = 0 := by
  have : ∀ w < 6, nth (statWords stat0) w = 0 := by decide
  exact this w hw

theorem saStatReadEff_bad (hf : frozenSnap s = none) (ha : rd s K.saStatAddr = w * 2 ^ 20 + h) (hw : w < 6) (hh : h < 131072)
    (hl : ∀ low, s.assoc.latch ≠ some (w * 2 ^ 20 + h, low)) :
    saStatReadEff true s = okV (statStepped (statEccHit s h) h w stat0) [0] := by
  obtain ⟨-, hlatch, haddr⟩ := statEccHit_kept (s := s) (h := h)
  have hfield : rdField s K.saStatAddr 16 0 = h := by rw [rdField, ha, (bits_statAddr hw hh).1]
  rw [saStatReadEff, statFromStore_fresh hf ha hl, hfield]
  change saStatRead (statEccHit s h) = _
  rw [saStatRead_fresh (haddr.trans ha) hw hh (by rw [hlatch]; exact hl), statView_statEccHit hf, nth_statWords_stat0 hw]

/-! The settings of the performance counters (R370, R372, R373). -/

theorem perfSelEff_taken (hv : v < 1024) (h : perfSelOk v = true) :
    perfSelEff n v s = okR { wr s (K.perfSel n) v with stats := { s.stats with dirty := n :: s.stats.dirty } } := by
  simp [perfSelEff, Nat.mod_eq_of_lt hv, h]

theorem perfSelEff_refused (hv : v < 1024) (h : perfSelOk v = false) : perfSelEff n v s = abortR s .unsupportedValue := by
  simp [perfSelEff, Nat.mod_eq_of_lt hv, h]

/-- The counters of the pairs whose bit changes. -/
def perfPairs (s : State) (v : Nat) : List Nat := (List.range 64).filter (fun n => bit v (n / 2) != rdBit s K.perfChain (n / 2))

theorem mem_perfPairs : n ∈ perfPairs s v ↔ n < 64 ∧ bit v (n / 2) ≠ rdBit s K.perfChain (n / 2) := by simp [perfPairs]

theorem perfChainEff_eq (hv : v < 2 ^ 32) : perfChainEff v s =
    okR { wr s K.perfChain v with stats := { s.stats with dirty := perfPairs s v ++ s.stats.dirty } } := by
  rw [perfChainEff, Nat.mod_eq_of_lt hv]
  rfl

/-! The fold of one counter (R369–R372). -/

theorem foldOne_restart (hd : n ∈ s.stats.dirty) :
    foldOne s p n = (wrBit (wrBit (wr s (K.perfAcc n) 0) K.perfWrap n false) K.perfSat n false, []) := by
  simp [foldOne, hd]

/-- The sum of a counter and its hardware count, shown modulo 2^48. -/
theorem foldOne_adds (hd : n ∉ s.stats.dirty) (hv : tget 0 p.hw n < 65536) :
    foldOne s p n = if 2 ^ 48 ≤ rd s (K.perfAcc n) + tget 0 p.hw n
      then (wrBit (wr s (K.perfAcc n) ((rd s (K.perfAcc n) + tget 0 p.hw n) % 2 ^ 48)) K.perfWrap n true, [(Ev.perfWrap, n)])
      else (wr s (K.perfAcc n) ((rd s (K.perfAcc n) + tget 0 p.hw n) % 2 ^ 48), []) := by
  have hsat : (tget 0 p.hw n == 65536) = false := by simp; omega
  simp [foldOne, hd, hsat]

theorem perfAcc_ne (hn : n < 64) : K.perfWrap ≠ K.perfAcc n ∧ K.perfSat ≠ K.perfAcc n := by
  simp only [K.perfWrap, K.perfSat, K.perfAcc]
  omega

end

/-- Settles O34: the reads of a statistics entry, the settings, and the fold of one counter. -/
theorem performanceCounters : Obligations.PerformanceCounters := by
  refine ⟨?_, ?_, ?_, ?_, ?_, ?_, ?_, ?_, ?_, ?_⟩
  · intro r h w s hf hw ha hh hl hg
    refine runs_answered rfl hg ((saStatReadEff_good (.inl rfl)).trans (saStatRead_fresh ha hw hh hl)) fun x => ?_
    rw [statView_thawed hf]
    exact ⟨rfl, statStepped_addr, rfl, .answered (by decide) (statStepped_frame.mono (by decide) (by decide))⟩
  · intro r h w s hf hw ha hh hl hg
    obtain ⟨hcount, hlast, hpending⟩ := statEccHit_reads (s := s) (h := h)
    have hstep (k : Nat) (hk : K.saStatAddr ≠ k) : rd (statStepped (statEccHit s h) h w stat0) k = rd (statEccHit s h) k := rd_wr_ne _ _ hk
    refine runs_answered rfl hg (saStatReadEff_bad hf ha hw hh hl) fun x => ⟨rfl, ?_, ?_, ?_, ?_, ?_⟩
    · exact (statAt_congr statEccHit_assoc h).trans (statAt_setStat_same ..)
    · exact hcount.of_rd (hstep _ (by decide))
    · exact (hstep _ (by decide)).trans hlast
    · exact Pending.wr (s := { statEccHit s h with assoc := _ }) (by decide) hpending
    · exact ((statEccHit_frame.mono (by decide) (by decide)).trans (statStepped_frame.toEv.mono (by decide) (by decide))).answered
  · intro r bad h w f s hf hw ha hh hl hg
    refine runs_answered rfl hg ((saStatReadEff_good (.inr (statFromStore_frozen hf))).trans (saStatRead_fresh ha hw hh hl)) fun x => ?_
    rw [statView_frozen hf]
    exact ⟨rfl, statStepped_addr, .answered (by decide) (statStepped_frame.mono (by decide) (by decide))⟩
  · intro r bad h w low s hw ha hh hl hg
    exact runs_answered rfl hg ((saStatReadEff_good (.inr (statFromStore_latched ha hw hh hl))).trans (saStatRead_latched ha hw hh hl)) fun x => rfl
  · intro r n v s hv hok hg
    exact runs_answered rfl hg (perfSelEff_taken hv hok) fun x => ⟨rfl, rd_wr_same .., rfl,
      .answered (by decide) (Frame.set_stats (by decide) (.wr (by simp) .refl))⟩
  · intro r n v s hv hok hg
    exact runs_answered rfl hg (perfSelEff_refused hv hok) fun x => ⟨rfl, .answered (by decide) .refl⟩
  · intro r v s hv hg
    refine runs_answered rfl hg (perfChainEff_eq hv) fun x => ⟨rfl, rd_wr_same .., fun n hn hb => ?_,
      .answered (by decide) (Frame.set_stats (by decide) (.wr (by decide) .refl))⟩
    exact List.mem_append_left _ (mem_perfPairs.mpr ⟨hn, hb⟩)
  · intro r v s hg
    exact runs_answered rfl hg rfl fun x => ⟨rfl, rd_wr_same .., .answered (by decide) (.wr (by decide) .refl)⟩
  · intro s p n hn hd
    obtain ⟨hwrap, hsat⟩ := perfAcc_ne hn
    rw [foldOne_restart hd]
    refine ⟨?_, rfl, .wrBit (by simp) (.wrBit (by simp) (.wr (by simp) .refl))⟩
    exact (rd_wrBit_ne _ _ _ hsat).trans ((rd_wrBit_ne _ _ _ hwrap).trans (rd_wr_same ..))
  · intro s p n hn hd hv _
    obtain ⟨hwrap, -⟩ := perfAcc_ne hn
    rw [foldOne_adds hd hv]
    split
    · exact ⟨(rd_wrBit_ne _ _ _ hwrap).trans (rd_wr_same ..), rfl⟩
    · exact ⟨rd_wr_same .., rfl⟩

end Sys2Proof.Machine

/-! Dumps and the freeze (R374–R380). -/

namespace Sys2Proof.Machine

section
variable {s t u : State} {n : Snap} {i crc e : Nat} {r : Req}

/-! The dump starts (R374, R377). -/

theorem exec_dumpStart (hs : s.stats.snap.isSome = true) (hf : s.stats.frozen = none) (hd : s.stats.dump = none) :
    exec .dumpStart s =
      done s (wrBit (inc { toCc s 256 with stats := { s.stats with dump := some (0, 0xFFFFFFFF) } } K.dumpSeq 1) K.dumpStatus 0 true) :=
  congrArg (done s) (if_pos (by simp [hs, hf, hd]))

/-! Its steps (R375, R376). -/

/-- The words a step copies: at most 1,024 of them, and what the bank has room for. -/
def dumpCopied (s : State) (n : Snap) (i crc : Nat) : List Word × Nat × Nat :=
  dumpCopy n (rd s K.dumpSeq) (Nat.min 1024 (4096 - s.stats.bank.length)) i crc []

/-- The words in the bank, its level shown and the stall over. -/
def dumpMoved (s u : State) (ws : List Word) : State :=
  wrBit (wr u K.dumpLevel (s.stats.bank ++ ws).length) K.dumpStatus 1 false

theorem dumpMoved_frame {ws : List Word} : Frame [K.dumpLevel, K.dumpStatus] [] u (dumpMoved s u ws) :=
  .wrBit (by decide) (.wr (by decide) .refl)

theorem dumpMoved_level {ws : List Word} : rd (dumpMoved s u ws) K.dumpLevel = (s.stats.bank ++ ws).length :=
  (rd_wrBit_ne _ _ _ (by decide)).trans (rd_wr_same ..)

/-- A step of the dump in its slot, the bank having room. -/
theorem exec_dumpChunk (hd : s.stats.dump = some (i, crc)) (hn : s.stats.snap = some n) (hroom : s.stats.bank.length < 4096)
    (hslot : bgSlot s 3 ≠ none) : ∃ off, exec .dumpChunk s = done s
      (if (dumpCopied s n i crc).2.1 < dumpLen n
        then { dumpMoved s (bgRun s 3 off true) (dumpCopied s n i crc).1 with
          stats := { s.stats with bank := s.stats.bank ++ (dumpCopied s n i crc).1, dump := some (dumpCopied s n i crc).2 } }
        else raise (wrBit { dumpMoved s (bgRun s 3 off true) (dumpCopied s n i crc).1 with
          stats := { s.stats with bank := s.stats.bank ++ (dumpCopied s n i crc).1, dump := none, snap := none } } K.dumpStatus 0 false)
          Ev.dumpDone 0 0) := by
  obtain ⟨off, ho⟩ := Option.ne_none_iff_exists'.mp hslot
  refine ⟨off, ?_⟩
  change execDumpChunk s = _
  unfold execDumpChunk
  simp only [hd, hn, bgStep, ho, if_neg (show ¬ 4096 - s.stats.bank.length = 0 by omega)]
  rfl

/-- The dump over, its last words in the bank. -/
def dumpEnded (s u : State) (ws : List Word) : State :=
  { dumpMoved s u ws with stats := { s.stats with bank := s.stats.bank ++ ws, dump := none, snap := none } }

theorem dumpEnded_stats {ws : List Word} : (raise (wrBit (dumpEnded s u ws) K.dumpStatus 0 false) Ev.dumpDone 0 0).stats =
    { s.stats with bank := s.stats.bank ++ ws, dump := none, snap := none } :=
  (raise_stats _ _ _ _ (by decide)).trans (wr_stats ..)

/-- A step of the dump in its slot, the bank being full. -/
theorem exec_dumpChunk_stalls {x : Nat × Nat} (hd : s.stats.dump = some x) (hn : s.stats.snap = some n) (hfull : s.stats.bank.length = 4096)
    (hslot : bgSlot s 3 ≠ none) :
    ∃ off, exec .dumpChunk s = done s (wrBit (inc (bgRun s 3 off true) K.dumpStalls 1) K.dumpStatus 1 true) := by
  obtain ⟨off, ho⟩ := Option.ne_none_iff_exists'.mp hslot
  refine ⟨off, ?_⟩
  change execDumpChunk s = _
  unfold execDumpChunk
  simp only [hd, hn, bgStep, ho, hfull, Nat.sub_self, if_true]

theorem dumpDataRead_word {w : Word} {l : List Word} (h : s.stats.bank = w :: l) :
    dumpDataRead s = okV (wr { s with stats := { s.stats with bank := l } } K.dumpLevel l.length) [w] := by
  simp [dumpDataRead, h]

theorem dumpDataRead_empty (h : s.stats.bank = []) : dumpDataRead s = abortR s .wrongState := by simp [dumpDataRead, h]

/-! The freeze (R378, R380). -/

theorem freezeCtrlEff_requests (h : s.stats.frozen = none) : freezeCtrlEff 1 s = okR (wrBit s K.freezeStatus 1 true) := by
  simp [freezeCtrlEff, h]

theorem freezeEnd_frame : Frame [K.freezeStatus, K.freezeTick] [.stats] s (freezeEnd s) :=
  .set_stats (by decide) (.wr (by decide) (.wrBit (by decide) .refl))

theorem freezeEnd_ends (h : s.stats.frozen = some e) : (freezeEnd s).stats.frozen = none ∧ (freezeEnd s).stats.snap = none ∧
    rdBit (freezeEnd s) K.freezeStatus 0 = false ∧ rd (freezeEnd s) K.freezeTick = none64 := by
  have hreg (k : Nat) : rd (freezeEnd s) k = rd (wr (wrBit s K.freezeStatus 0 false) K.freezeTick none64) k := rfl
  refine ⟨rfl, if_pos (show s.stats.frozen.isSome = true by simp [h]), ?_, (hreg _).trans (rd_wr_same ..)⟩
  rw [rdBit, hreg, rd_wr_ne _ _ (by decide), ← rdBit, rdBit_wrBit_same]

theorem exec_freezeEngage (h : rdBit s K.freezeStatus 1 = true) (hsnap : s.stats.snap = none) (hcc : s.tick.clock = s.tick.start) :
    exec .freezeEngage s = done s (wr (wrBit (wrBit { s with stats := { s.stats with snap := some (snapNow s), frozen := some s.tick.elapsed } }
      K.freezeStatus 1 false) K.freezeStatus 0 true) K.freezeTick (tickNo s)) :=
  congrArg (done s) (if_pos (by simp [h, hsnap, hcc]))

theorem exec_freezeTimeout (h : s.stats.frozen = some e) : exec .freezeTimeout s =
    done s (if e + 100000 ≤ s.tick.elapsed then raise (inc (freezeEnd s) K.freezeTimeouts 1) Ev.freezeTimeout 0 0 else s) := by
  change execFreezeTimeout s = _
  simp only [execFreezeTimeout, h]

end

/-- Settles O35: the dump asked for, started, moved, stalled and read. -/
theorem dumps : Obligations.Dumps := by
  refine ⟨?_, ?_, ?_, ?_, ?_, ?_, ?_⟩
  · intro r s hg
    exact runs_answered rfl hg rfl fun x => ⟨rfl, rfl, .answered (by decide) (.set_stats (by decide) .refl)⟩
  · intro s hs hf hd
    refine runs_done (exec_dumpStart hs hf hd) ⟨rfl, ?_, rdBit_wrBit_same .., ?_⟩
    · exact (Counts.of_inc (s := s) (u := { toCc s 256 with stats := { s.stats with dump := some (0, 0xFFFFFFFF) } }) rfl).of_rd
        (rd_wrBit_ne _ _ _ (by decide))
    · exact Frame.settled (.wrBit (by decide) (.inc (by decide) (.set_stats (by decide) (.toCc (by decide) .refl))))
  · intro i crc n s hd hn hroom hslot hmore
    obtain ⟨off, he⟩ := exec_dumpChunk hd hn hroom hslot
    refine runs_done he ?_
    rw [if_pos (show (dumpCopied s n i crc).2.1 < dumpLen n from hmore)]
    refine ⟨rfl, rfl, dumpMoved_level, Frame.settled ?_⟩
    exact .set_stats (by decide) ((bgRun_frame.mono (by decide) (by decide)).trans (dumpMoved_frame.mono (by decide) (by decide)))
  · intro i crc n s hd hn hroom hslot hlast
    obtain ⟨off, he⟩ := exec_dumpChunk hd hn hroom hslot
    refine runs_done he ?_
    rw [if_neg (show ¬ (dumpCopied s n i crc).2.1 < dumpLen n from Nat.not_lt.mpr hlast)]
    refine ⟨congrArg Stats.bank dumpEnded_stats, congrArg Stats.dump dumpEnded_stats, congrArg Stats.snap dumpEnded_stats, ?_, ?_, EvFrame.settled (.raise (by decide) (.wrBit (by decide) (.set_stats (by decide) ?_)))⟩
    · exact (rdBit_raise _ _ _ _ _ _ (by decide) (by decide)).trans (rdBit_wrBit_same ..)
    · exact Pending.settled (raise_sets_pending _ _ _ _ (by decide))
    · exact (bgRun_frame.ev (by decide) (by decide)).trans (dumpMoved_frame.ev (by decide) (by decide))
  · intro x n s hd hn hfull hslot
    obtain ⟨off, he⟩ := exec_dumpChunk_stalls hd hn hfull hslot
    refine runs_done he ⟨?_, ?_, rdBit_wrBit_same .., ?_⟩
    · exact (congrArg Stats.dump (bgRun_frame.2 .stats (by decide))).trans hd
    · exact (Counts.of_inc (bgRun_frame.1 _ (by decide))).of_rd (rd_wrBit_ne _ _ _ (by decide))
    · exact Frame.settled (.wrBit (by decide) (.inc (by decide) (bgRun_frame.mono (by decide) (by decide))))
  · intro r w l s hb hg
    exact runs_answered rfl hg (dumpDataRead_word hb) fun x =>
      ⟨rfl, rfl, rd_wr_same .., .answered (by decide) (.wr (by decide) (.set_stats (by decide) .refl))⟩
  · intro r s hb hg
    exact runs_answered rfl hg (dumpDataRead_empty hb) fun x => ⟨rfl, .answered (by decide) .refl⟩

/-- Settles O36: the freeze requested, engaged, released and timed out. -/
theorem freezes : Obligations.Freezes := by
  refine ⟨?_, ?_, ?_, ?_, ?_⟩
  · intro r s hf hg
    exact runs_answered rfl hg (freezeCtrlEff_requests hf) fun x =>
      ⟨rfl, rdBit_wrBit_same .., .answered (by decide) (.wrBit (by decide) .refl)⟩
  · intro s h hsnap hcc
    refine runs_done (exec_freezeEngage h hsnap hcc) ⟨rfl, rfl, ?_, ?_, rd_wr_same .., ?_⟩
    · exact (rdBit_wr_ne (by decide)).trans (rdBit_wrBit_same ..)
    · exact (rdBit_wr_ne (by decide)).trans ((rdBit_wrBit_ne (by decide)).trans (rdBit_wrBit_same ..))
    · exact Frame.settled (.wr (by decide) (.wrBit (by decide) (.wrBit (by decide) (.set_stats (by decide) .refl))))
  · intro r e s hf hg
    obtain ⟨hfrozen, hsnap, hbit, htick⟩ := freezeEnd_ends hf
    refine runs_answered rfl hg (show freezeCtrlEff 2 s = okR (wrBit (freezeEnd s) K.freezeStatus 1 false) from rfl) fun x =>
      ⟨rfl, hfrozen, hsnap, (rdBit_wrBit_ne (by decide)).trans hbit, (rd_wrBit_ne _ _ _ (by decide)).trans htick, ?_⟩
    exact .answered (by decide) (.wrBit (by decide) (freezeEnd_frame.mono (by decide) (by decide)))
  · intro e s hf hlate
    have hstats : (raise (inc (freezeEnd s) K.freezeTimeouts 1) Ev.freezeTimeout 0 0).stats = (freezeEnd s).stats := raise_stats _ _ _ _ (by decide)
    refine runs_done (exec_freezeTimeout hf) ?_
    rw [if_pos hlate]
    refine ⟨congrArg Stats.frozen hstats, ?_, Pending.settled (raise_sets_pending _ _ _ _ (by decide)), ?_⟩
    · exact (Counts.of_inc (freezeEnd_frame.1 _ (by decide))).of_rd (rd_raise _ _ _ _ _ (by decide) (by decide))
    · exact EvFrame.settled (.raise (by decide) (.inc (by decide) (freezeEnd_frame.toEv.mono (by decide) (by decide))))
  · intro e s hf hearly
    refine runs_done (exec_freezeTimeout hf) ?_
    rw [if_neg (Nat.not_le.mpr hearly)]
    exact .settled .refl

end Sys2Proof.Machine

/-! Messages on the fabric's links (R383–R389). -/

namespace Sys2Proof.Machine

section
variable {s t u : State} {m : FabMsg} {p q k v n o : Nat} {f : State → State} {skip : Option Nat}

/-! A message arrives at a port (R386–R388). -/

/-- The port's count of received messages moved on. -/
def linkCounted (s : State) (p : Nat) : State := inc s (K.linkRxMsgs p) 1

theorem linkCounted_frame : Frame [K.linkRxMsgs p] [] s (linkCounted s p) := .inc (by simp) .refl
theorem rd_linkCounted (h : k % 256 ≠ 3) : rd (linkCounted s p) k = rd s k :=
  rd_inc_ne _ _ (by simp only [K.linkRxMsgs]; omega)

theorem fabTake_straight (h : fabLoop s p = false) : fabTake s p m = some s := by simp [fabTake, h]

theorem fabIn_of_take (h : fabTake s p m = some u) (hg : m.good = true) (hk : msgKnown m.typ = true) (ht : m.ttl ≠ 0) :
    fabIn s p m f = f (linkCounted u p) := by
  simp [fabIn, h, hg, hk, ht, linkCounted]

theorem fabIn_whole (h : Whole s p m) (hk : msgKnown m.typ = true) (ht : m.ttl ≠ 0) : fabIn s p m f = f (linkCounted s p) :=
  fabIn_of_take (fabTake_straight h.1) h.2 hk ht

theorem fabIn_spent (h : Whole s p m) (hk : msgKnown m.typ = true) (ht : m.ttl = 0) : fabIn s p m f = linkCounted s p := by
  simp [fabIn, fabTake_straight h.1, h.2, hk, ht, linkCounted]

theorem fabIn_damaged (hl : fabLoop s p = false) (hg : m.good = false) : fabIn s p m f = inc s K.fabMsgErrors 1 := by
  simp [fabIn, fabTake_straight hl, hg]

/-! A message goes out on a port (R386). -/

theorem fabOut_frame : Frame [K.linkTxMsgs p] [.fabric, .out] s (fabOut s p m) := by
  have hbase : Frame [K.linkTxMsgs p] [.fabric, .out] s (inc (emit s (.fab p m.sealed)) (K.linkTxMsgs p) 1) :=
    .inc (by simp) (.emit (by decide) .refl)
  exact .ite (fun _ => hbase.set_fab (by decide)) (fun _ => hbase)

theorem fabOut_out : (fabOut s p m).out = .fab p m.sealed :: s.out := by
  unfold fabOut
  dsimp only
  split <;> rfl

theorem fabOut_counts : Counts s (fabOut s p m) (K.linkTxMsgs p) 1 := by
  have hbase : Counts s (inc (emit s (.fab p m.sealed)) (K.linkTxMsgs p) 1) (K.linkTxMsgs p) 1 := Counts.of_inc rfl
  unfold fabOut
  dsimp only
  split <;> exact hbase

theorem linkTxMsgs_ne (h : p ≠ q) : K.linkTxMsgs p ≠ K.linkTxMsgs q := by simp only [K.linkTxMsgs]; omega
theorem rd_fabOut_ne (h : K.linkTxMsgs p ≠ k) : rd (fabOut s p m) k = rd s k := fabOut_frame.1 k (by simpa using h.symm)

theorem joinedAt_congr (h : rd t (K.linkStatus p) = rd s (K.linkStatus p)) : joinedAt t p v = joinedAt s p v := by
  rw [joinedAt, joined, rdBit, rdField, h]
  rfl

/-! A message goes out on every joined link but one (R384). -/

/-- Port `q` sends a message of class `v` that floods. -/
abbrev Floods (s : State) (v : Nat) (skip : Option Nat) (q : Nat) : Prop := joinedAt s q v = true ∧ skip ≠ some q

/-- The turn of port `p`. -/
def floodStep (m : FabMsg) (skip : Option Nat) (p : Nat) (s : State) : State :=
  if joinedAt s p m.ver && skip != some p then fabOut s p m else s

/-- Flooding is one such step for each port. -/
theorem fabFlood_eq : fabFlood s m skip = forNat 4 (floodStep m skip) s := rfl

theorem floodStep_sends (h : Floods s m.ver skip p) : floodStep m skip p s = fabOut s p m := if_pos (by simp [h.1, h.2])
theorem floodStep_skips (h : ¬ Floods s m.ver skip p) : floodStep m skip p s = s := if_neg (by simpa using h)

/-- The links' states are the same. -/
abbrev SameLinks (s t : State) : Prop := ∀ p, rd t (K.linkStatus p) = rd s (K.linkStatus p)

theorem SameLinks.floods (h : SameLinks s t) : Floods t v skip q ↔ Floods s v skip q := by rw [Floods, joinedAt_congr (h q)]

theorem floodStep_frame : Frame [K.linkTxMsgs p] [.fabric, .out] s (floodStep m skip p s) := .ite (fun _ => fabOut_frame) (fun _ => .refl)

theorem floodStep_links : SameLinks s (floodStep m skip p s) := fun q =>
  floodStep_frame.1 _ (by simp only [List.mem_singleton, K.linkStatus, K.linkTxMsgs]; omega)

theorem rd_floodStep (h : p ≠ q ∨ ¬ Floods s m.ver skip p) : rd (floodStep m skip p s) (K.linkTxMsgs q) = rd s (K.linkTxMsgs q) := by
  obtain h | h := h
  · exact floodStep_frame.1 _ (by simpa using linkTxMsgs_ne h.symm)
  · rw [floodStep_skips h]

theorem fabFlood_sends (hq : q < 4) (h : Floods s m.ver skip q) : Counts s (fabFlood s m skip) (K.linkTxMsgs q) 1 := by
  refine (forNat_sets (f := floodStep m skip) (Q := fun y => SameLinks s y ∧ rd y (K.linkTxMsgs q) = rd s (K.linkTxMsgs q))
    (P := fun y => Counts s y (K.linkTxMsgs q) 1) hq ?_ ?_ ?_ ⟨fun _ => rfl, rfl⟩)
  · rintro p y _ hne ⟨hlinks, hcount⟩
    exact ⟨fun k => (floodStep_links k).trans (hlinks k), (rd_floodStep (.inl hne)).trans hcount⟩
  · rintro y ⟨hlinks, hcount⟩
    rw [floodStep_sends (hlinks.floods.mpr h)]
    exact fabOut_counts.since hcount
  · intro p y _ hne hcount
    exact hcount.of_rd (rd_floodStep (.inl hne))

theorem fabFlood_skips (h : ¬ Floods s m.ver skip q) : rd (fabFlood s m skip) (K.linkTxMsgs q) = rd s (K.linkTxMsgs q) := by
  have hall : ∀ n, SameLinks s (forNat n (floodStep m skip) s) ∧
      rd (forNat n (floodStep m skip) s) (K.linkTxMsgs q) = rd s (K.linkTxMsgs q) := by
    intro n
    induction n with
    | zero => exact ⟨fun _ => rfl, rfl⟩
    | succ n ih =>
      refine ⟨fun k => (floodStep_links k).trans (ih.1 k), (rd_floodStep ?_).trans ih.2⟩
      obtain rfl | hne := eq_or_ne n q
      · exact .inr fun hf => h (ih.1.floods.mp hf)
      · exact .inl hne
  exact (hall 4).2

theorem fabFlood_frame : Frame ((List.range 4).map K.linkTxMsgs) [.fabric, .out] s (fabFlood s m skip) :=
  forNat_rel_mem (R := Frame ((List.range 4).map K.linkTxMsgs) [.fabric, .out]) (f := floodStep m skip) (fun _ => .refl) .trans 4
    (fun p hp x => floodStep_frame.mono (List.cons_subset.mpr ⟨List.mem_map_of_mem hp, List.nil_subset _⟩) (by decide)) s

/-- What a flood keeps of the fabric's state. -/
theorem fabFlood_fab : (fabFlood s m skip).fab = { s.fab with seq := (fabFlood s m skip).fab.seq, looped := (fabFlood s m skip).fab.looped } :=
  fabFlood_sent.fab

end
end Sys2Proof.Machine

/-! The routes to joined neighbours (R385). -/

namespace Sys2Proof.Machine

section
variable {s : State} {l cands : List Cand} {a b c d : Cand} {acc : Option Cand} {t : Tbl Nat} {n v p k fuel hops : Nat}

/-! The best candidate of a node: the lower next hop, then the lower port. -/

/-- `a` is no worse than `b`. -/
def CandLe (a b : Cand) : Prop := a.2.1 < b.2.1 ∨ (a.2.1 = b.2.1 ∧ a.2.2 ≤ b.2.2)

theorem CandLe.refl : CandLe a a := .inr ⟨rfl, le_rfl⟩
theorem CandLe.trans (h : CandLe a b) (h' : CandLe b c) : CandLe a c := by
  unfold CandLe at *
  omega

theorem candMin_le : CandLe (candMin a b) a ∧ CandLe (candMin a b) b := by
  unfold candMin CandLe
  split <;> omega

theorem candMin_either : candMin a b = a ∨ candMin a b = b := by
  unfold candMin
  split <;> simp

/-- One more candidate looked at. -/
def candNext (n : Nat) (acc : Option Cand) (c : Cand) : Option Cand :=
  if c.1 = n then (match acc with | some x => some (candMin x c) | none => some c) else acc

theorem candBest_eq : candBest l n = l.foldl (candNext n) none := rfl

/-- The candidates of node `n` seen: the one kept so far and those of the list. -/
def CandSeen (n : Nat) (acc : Option Cand) (l : List Cand) (d : Cand) : Prop := acc = some d ∨ (d ∈ l ∧ d.1 = n)

theorem candNext_seen (h : candNext n acc c = some d) : acc = some d ∨ (d = c ∧ c.1 = n) := by
  unfold candNext at h
  split at h
  · next hn =>
    split at h
    · next x =>
      cases h
      obtain hx | hc := candMin_either (a := x) (b := c)
      · exact .inl (by rw [hx])
      · exact .inr ⟨hc, hn⟩
    · cases h
      exact .inr ⟨rfl, hn⟩
  · exact .inl h

theorem candNext_best (h : acc = some d ∨ (d = c ∧ c.1 = n)) : ∃ b, candNext n acc c = some b ∧ CandLe b d := by
  unfold candNext
  split
  · split
    · next x =>
      obtain h | ⟨rfl, -⟩ := h
      · cases h
        exact ⟨_, rfl, candMin_le.1⟩
      · exact ⟨_, rfl, candMin_le.2⟩
    · obtain h | ⟨rfl, -⟩ := h
      · cases h
      · exact ⟨_, rfl, .refl⟩
  · next hn =>
    obtain h | ⟨-, h⟩ := h
    · exact ⟨d, h, .refl⟩
    · exact absurd h hn

theorem candFold_seen (h : l.foldl (candNext n) acc = some d) : CandSeen n acc l d := by
  induction l generalizing acc with
  | nil => exact .inl h
  | cons c l ih =>
    obtain h | ⟨h, hn⟩ := ih h
    · obtain h | ⟨rfl, hn⟩ := candNext_seen h
      · exact .inl h
      · exact .inr ⟨List.mem_cons_self .., hn⟩
    · exact .inr ⟨List.mem_cons_of_mem _ h, hn⟩

theorem candFold_best (h : CandSeen n acc l d) : ∃ b, l.foldl (candNext n) acc = some b ∧ CandLe b d := by
  induction l generalizing acc d with
  | nil =>
    obtain h | ⟨h, -⟩ := h
    · exact ⟨d, h, .refl⟩
    · cases h
  | cons c l ih =>
    have hstep (h : acc = some d ∨ (d = c ∧ c.1 = n)) : ∃ b, (c :: l).foldl (candNext n) acc = some b ∧ CandLe b d := by
      obtain ⟨b, hb, hle⟩ := candNext_best h
      obtain ⟨b', hb', hle'⟩ := ih (.inl hb)
      exact ⟨b', hb', hle'.trans hle⟩
    obtain h | ⟨h, hn⟩ := h
    · exact hstep (.inl h)
    · obtain rfl | h := List.mem_cons.mp h
      · exact hstep (.inr ⟨rfl, hn⟩)
      · exact ih (.inr ⟨h, hn⟩)

theorem candBest_mem (h : candBest l n = some d) : d ∈ l ∧ d.1 = n := by
  obtain h | h := candFold_seen h
  · cases h
  · exact h

theorem candBest_le (hd : d ∈ l) (hn : d.1 = n) : ∃ b, candBest l n = some b ∧ CandLe b d := candFold_best (.inr ⟨hd, hn⟩)

/-! A level of the search: the best candidate of every node without a route. -/

/-- The candidates for nodes without a route, and the best for each of the 256 nodes. -/
def candFresh (v : Nat) (cands : List Cand) (t : Tbl Nat) : List Cand := cands.filter (fun c => tget 0 t (v * 256 + c.1) == 0)
def candBests (v : Nat) (cands : List Cand) (t : Tbl Nat) : List Cand := (List.range 256).filterMap (candBest (candFresh v cands t))

/-- The routes of one level entered. -/
def routeEnter (v hops : Nat) (best : List Cand) (t : Tbl Nat) : Tbl Nat :=
  best.foldl (fun t c => tset 0 t (v * 256 + c.1) (1 + c.2.2 + 4 * hops)) t

/-- The candidates one hop further on. -/
def candFurther (s : State) (v : Nat) (best : List Cand) : List Cand :=
  best.flatMap (fun c => match tget none s.fab.db c.1 with
    | some e => ((linkNodes e.links v).filter (routable s)).map (fun n => (n, c.2.1, c.2.2))
    | none => [])

theorem routeGrow_succ : routeGrow s v (fuel + 1) hops cands t = if (candBests v cands t).isEmpty = true
    then routeEnter v hops (candBests v cands t) t
    else routeGrow s v fuel (hops + 1) (candFurther s v (candBests v cands t)) (routeEnter v hops (candBests v cands t) t) := rfl

theorem mem_candFresh : c ∈ candFresh v cands t ↔ c ∈ cands ∧ tget 0 t (v * 256 + c.1) = 0 := by simp [candFresh]

theorem mem_candBests : c ∈ candBests v cands t ↔ c.1 < 256 ∧ candBest (candFresh v cands t) c.1 = some c := by
  simp only [candBests, List.mem_filterMap, List.mem_range]
  constructor
  · rintro ⟨n, hn, h⟩
    obtain ⟨-, rfl⟩ := candBest_mem h
    exact ⟨hn, h⟩
  · rintro ⟨hn, h⟩
    exact ⟨c.1, hn, h⟩

theorem routeEnter_other (h : ∀ c ∈ l, v * 256 + c.1 ≠ k) : tget 0 (routeEnter v hops l t) k = tget 0 t k := by
  induction l generalizing t with
  | nil => rfl
  | cons c l ih =>
    exact (ih fun d hd => h d (List.mem_cons_of_mem _ hd)).trans (tget_tset_ne _ _ _ _ (h c (List.mem_cons_self ..)))

/-- The only entry of a node in the list is the one its route shows. -/
theorem routeEnter_same (honly : ∀ c ∈ l, c.1 = d.1 → c = d) (h : d ∈ l ∨ tget 0 t (v * 256 + d.1) = 1 + d.2.2 + 4 * hops) :
    tget 0 (routeEnter v hops l t) (v * 256 + d.1) = 1 + d.2.2 + 4 * hops := by
  induction l generalizing t with
  | nil => exact h.resolve_left (List.not_mem_nil)
  | cons c l ih =>
    refine ih (fun x hx => honly x (List.mem_cons_of_mem _ hx)) ?_
    by_cases hc : c.1 = d.1
    · obtain rfl := honly c (List.mem_cons_self ..) hc
      exact .inr (tget_tset_same ..)
    · obtain h | h := h
      · obtain rfl | h := List.mem_cons.mp h
        · exact absurd rfl hc
        · exact .inl h
      · exact .inr ((tget_tset_ne _ _ _ _ (by omega)).trans h)

/-- A route entered stays, and a class enters no other class's routes. -/
theorem routeGrow_kept (h : tget 0 t k ≠ 0 ∨ k / 256 ≠ v) : tget 0 (routeGrow s v fuel hops cands t) k = tget 0 t k := by
  induction fuel generalizing hops cands t with
  | zero => rfl
  | succ fuel ih =>
    have henter : tget 0 (routeEnter v hops (candBests v cands t) t) k = tget 0 t k := by
      refine routeEnter_other fun c hc => ?_
      obtain ⟨hlt, hbest⟩ := mem_candBests.mp hc
      have hzero := (mem_candFresh.mp (candBest_mem hbest).1).2
      rintro rfl
      obtain h | h := h
      · exact h hzero
      · omega
    rw [routeGrow_succ]
    split
    · exact henter
    · exact (ih (by rwa [henter])).trans henter

/-- The route entered for a node without one: that of its best candidate. -/
theorem routeGrow_best (hn : d.1 < 256) (hfree : tget 0 t (v * 256 + d.1) = 0) (hd : d ∈ cands) :
    ∃ b ∈ cands, b.1 = d.1 ∧ CandLe b d ∧ tget 0 (routeGrow s v (fuel + 1) hops cands t) (v * 256 + d.1) = 1 + b.2.2 + 4 * hops := by
  obtain ⟨b, hb, hle⟩ := candBest_le (mem_candFresh.mpr ⟨hd, hfree⟩) rfl
  obtain ⟨hmem, hnode⟩ := candBest_mem hb
  have hbest : b ∈ candBests v cands t := mem_candBests.mpr ⟨by omega, by rw [hnode]; exact hb⟩
  have honly (c : Cand) (hc : c ∈ candBests v cands t) (he : c.1 = b.1) : c = b := by
    have h := (mem_candBests.mp hc).2
    rw [he, hnode, hb] at h
    exact (Option.some.inj h).symm
  have henter := routeEnter_same (t := t) (v := v) (hops := hops) honly (.inl hbest)
  rw [hnode] at henter
  refine ⟨b, (mem_candFresh.mp hmem).1, hnode, hle, ?_⟩
  rw [routeGrow_succ]
  split
  · exact henter
  · exact (routeGrow_kept (.inl (by rw [henter]; omega))).trans henter

/-! The routes of the three classes. -/

/-- The candidates one hop away: the joined neighbours. -/
def candFirst (s : State) (v : Nat) : List Cand :=
  (List.range 4).filterMap (fun p => if joinedAt s p v && routable s (rdField s (K.linkStatus p) 15 8)
    then some (rdField s (K.linkStatus p) 15 8, rdField s (K.linkStatus p) 15 8, p) else none)

theorem routesOf_eq : routesOf s v t = if s.fab.ownDup then t else routeGrow s v 15 1 (candFirst s v) t := rfl

theorem mem_candFirst : c ∈ candFirst s v ↔ c.2.2 < 4 ∧ joinedAt s c.2.2 v = true ∧ routable s c.1 = true ∧
    c.1 = rdField s (K.linkStatus c.2.2) 15 8 ∧ c.2.1 = c.1 := by
  obtain ⟨n, h, p⟩ := c
  simp only [candFirst, List.mem_filterMap, List.mem_range, Option.ite_none_right_eq_some, Option.some.injEq, Prod.mk.injEq, Bool.and_eq_true]
  constructor
  · rintro ⟨q, hq, ⟨hj, hr⟩, rfl, rfl, rfl⟩
    exact ⟨hq, hj, hr, rfl, rfl⟩
  · rintro ⟨hq, hj, hr, rfl, rfl⟩
    exact ⟨p, hq, ⟨hj, hr⟩, rfl, rfl, rfl⟩

theorem routesOf_kept (h : k / 256 ≠ v) : tget 0 (routesOf s v t) k = tget 0 t k := by
  rw [routesOf_eq]
  split
  · rfl
  · exact routeGrow_kept (.inr h)

theorem routesOf_none (h : s.fab.ownDup = true) : routesOf s v t = t := by rw [routesOf_eq, if_pos h]

theorem linkNode_lt : rdField s (K.linkStatus p) 15 8 < 256 := Nat.mod_lt _ (by decide)

/-- A joined neighbour is reached straight, by its lowest port. -/
theorem routesOf_neighbour (hdup : s.fab.ownDup = false) (hp : p < 4) (hj : joinedAt s p v = true)
    (hr : routable s (rdField s (K.linkStatus p) 15 8) = true) (hfree : tget 0 t (v * 256 + rdField s (K.linkStatus p) 15 8) = 0) :
    ∃ q, q ≤ p ∧ joinedAt s q v = true ∧ rdField s (K.linkStatus q) 15 8 = rdField s (K.linkStatus p) 15 8 ∧
      tget 0 (routesOf s v t) (v * 256 + rdField s (K.linkStatus p) 15 8) = 5 + q := by
  obtain ⟨b, hb, hnode, hle, hroute⟩ := routeGrow_best (s := s) (fuel := 14) (hops := 1)
    (d := (rdField s (K.linkStatus p) 15 8, rdField s (K.linkStatus p) 15 8, p)) (cands := candFirst s v) linkNode_lt hfree
    (mem_candFirst.mpr ⟨hp, hj, hr, rfl, rfl⟩)
  obtain ⟨hlt, hjoined, -, hown, hhop⟩ := mem_candFirst.mp hb
  simp only at hnode
  refine ⟨b.2.2, ?_, hjoined, hown.symm.trans hnode, ?_⟩
  · unfold CandLe at hle
    simp only at hle
    omega
  · rw [routesOf_eq, hdup, if_neg (by decide)]
    exact hroute.trans (by omega)

/-- ROUTE_RECOMPUTE's table. -/
def routesNow (s : State) : Tbl Nat := routesOf s 3 (routesOf s 2 (routesOf s 1 []))

theorem exec_routeRecompute : exec .routeRecompute s = done s { s with fab := { s.fab with routes := routesNow s } } := rfl

theorem routesNow_neighbour (hdup : s.fab.ownDup = false) (h1 : 1 ≤ v) (h3 : v ≤ 3) (hp : p < 4) (hj : joinedAt s p v = true)
    (hr : routable s (rdField s (K.linkStatus p) 15 8) = true) :
    ∃ q, q ≤ p ∧ joinedAt s q v = true ∧ rdField s (K.linkStatus q) 15 8 = rdField s (K.linkStatus p) 15 8 ∧
      tget 0 (routesNow s) (v * 256 + rdField s (K.linkStatus p) 15 8) = 5 + q := by
  have hlt := linkNode_lt (s := s) (p := p)
  have hclass (w : Nat) (t : Tbl Nat) (hw : v ≠ w) :
      tget 0 (routesOf s w t) (v * 256 + rdField s (K.linkStatus p) 15 8) = tget 0 t (v * 256 + rdField s (K.linkStatus p) 15 8) :=
    routesOf_kept (by omega)
  obtain rfl | rfl | rfl : v = 1 ∨ v = 2 ∨ v = 3 := by omega
  · rw [routesNow, hclass 3 _ (by decide), hclass 2 _ (by decide)]
    exact routesOf_neighbour hdup hp hj hr rfl
  · rw [routesNow, hclass 3 _ (by decide)]
    exact routesOf_neighbour hdup hp hj hr (hclass 1 _ (by decide))
  · exact routesOf_neighbour hdup hp hj hr ((hclass 2 _ (by decide)).trans (hclass 1 _ (by decide)))

theorem routeTo_of_entry {w dst e : Nat} (h : tget 0 s.fab.routes (w * 256 + dst) = e + 1) : routeTo s w dst = some (e % 4) := by
  simp [routeTo, h]

end
end Sys2Proof.Machine

/-! Links, the link-state database and relayed messages (R78, R383–R389). -/

namespace Sys2Proof.Machine

section
variable {s t u : State} {m : FabMsg} {p q n o : Nat} {f : State → State} {l : List Word}

/-! HELLO (R383). -/

/-- The HELLO of port `p`. -/
def helloMsg (s : State) (p : Nat) : FabMsg × State :=
  fabMsg s Msg.hello (rdField s (K.linkStatus p) 15 8) false 0 0 [nodeId s, unitTag s, p, 1, rd s K.fabVersionMax]

theorem exec_helloSend (hp : p < 4) (hu : fabUp s p = true) : exec (.helloSend p) s = done s (fabOut (helloMsg s p).2 p (helloMsg s p).1) :=
  congrArg (done s) (if_pos ⟨hp, hu⟩)

theorem sealed_good : m.sealed.good = true := by simp [FabMsg.good, FabMsg.sealed, FabMsg.sum, FabMsg.crcWords]

theorem exec_helloRx (hp : p < 4) (hu : fabUp s p = true) :
    exec (.helloRx p m) s = done s (fabIn s p m (fun s => if m.typ = Msg.hello then helloRx s p m else s)) :=
  congrArg (done s) (if_pos ⟨hp, hu⟩)

/-- On a looped port: what it sent next, or nothing (R78). -/
def loopTaken (s : State) (p : Nat) (l : List FabMsg) : State := { s with fab := { s.fab with looped := tset [] s.fab.looped p l } }

theorem fabTake_looped {l : List FabMsg} (hl : fabLoop s p = true) (hm : tget [] s.fab.looped p = m :: l) :
    fabTake s p m = some (loopTaken s p l) := by
  simp [fabTake, hl, hm, loopTaken]

theorem fabTake_foreign (hl : fabLoop s p = true) (hm : (tget [] s.fab.looped p).head? ≠ some m) : fabTake s p m = none := by
  rw [fabTake, hl]
  cases h : tget [] s.fab.looped p with
  | nil => rfl
  | cons x l =>
    rw [h] at hm
    exact if_neg fun he => hm (congrArg some he)

theorem exec_helloRx_foreign (hl : fabLoop s p = true) (hm : (tget [] s.fab.looped p).head? ≠ some m) : exec (.helloRx p m) s = done s s := by
  refine congrArg (done s) ?_
  split
  · rw [fabIn, fabTake_foreign hl hm]
  · rfl

theorem exec_helloRx_whole (hp : p < 4) (hu : fabUp s p = true) (hw : Whole s p m) (hty : m.typ = 1) (ht : m.ttl ≠ 0) :
    exec (.helloRx p m) s = done s (helloRx (linkCounted s p) p m) := by
  rw [exec_helloRx hp hu, fabIn_whole hw (by rw [hty]; decide) ht]
  exact congrArg (done s) (if_pos hty)

theorem linkLeave_frame : Frame [K.linkStatus p] [.fabric] s (linkLeave s p) := .set_fab (by decide) (.wr (by simp) .refl)
theorem rd_linkLeave : rd (linkLeave s p) (K.linkStatus p) = 0 := rd_wr_same ..

theorem linkCounted_nodeId : nodeId (linkCounted s p) = nodeId s := rd_linkCounted (by decide)
theorem linkCounted_version : rd (linkCounted s p) K.fabVersionMax = rd s K.fabVersionMax := rd_linkCounted (by decide)
theorem linkCounted_counts : Counts s (linkCounted s p) (K.linkRxMsgs p) 1 := Counts.of_inc rfl

/-- A HELLO noted at the tick it came. -/
def helloNoted (s : State) (p : Nat) : State := { s with fab := { s.fab with hello := tset 0 s.fab.hello p (s.tick.elapsed + 1) } }

theorem helloNoted_at : tget 0 (helloNoted s p).fab.hello p = s.tick.elapsed + 1 := tget_tset_same 0 s.fab.hello p (s.tick.elapsed + 1)

section
variable {a b lo hi : Nat}

/-- A HELLO at a common version from another node (R383). -/
theorem helloRx_meets (hpl : m.payload = [n, a, b, lo, hi]) (hn : n < 256) (hne : n ≠ nodeId s) (h1 : 1 ≤ hi) (hlo : lo ≤ hi)
    (hmine : lo ≤ rd s K.fabVersionMax) : helloRx s p m = if joined s p = true then helloNoted s p
      else wr (helloNoted s p) (K.linkStatus p) (1 + Nat.min hi (rd s K.fabVersionMax) * 4 + n * 256 + b % 4 * 65536) := by
  simp only [helloRx, hpl, nth, List.getD_cons_zero, List.getD_cons_succ, Nat.mod_eq_of_lt hn, if_neg hne,
    if_neg (show ¬ (hi < 1 ∨ hi < lo ∨ rd s K.fabVersionMax < lo) by omega)]
  rfl

/-- A HELLO with no common version (R383). -/
theorem helloRx_fails (hpl : m.payload = [n, a, b, lo, hi]) (hn : n < 256) (hne : n ≠ nodeId s) (h : hi < lo ∨ rd s K.fabVersionMax < lo) :
    helloRx s p m = raise (linkLeave s p) Ev.fabVersionFail p 0 := by
  simp only [helloRx, hpl, nth, List.getD_cons_zero, List.getD_cons_succ, Nat.mod_eq_of_lt hn, if_neg hne,
    if_pos (show hi < 1 ∨ hi < lo ∨ rd s K.fabVersionMax < lo from .inr h)]

end

/-- A HELLO under this node's identifier (R383). -/
theorem helloRx_own (hpl : m.payload = nodeId s :: l) (hn : nodeId s < 256) : helloRx s p m = dupNode (linkLeave s p) (nodeId s) := by
  simp only [helloRx, hpl, nth, List.getD_cons_zero, Nat.mod_eq_of_lt hn, if_true]

theorem dupNode_frame : EvFrame [K.fabDupLast] [] s (dupNode s n) := .raise (by decide) (.wr (by decide) .refl)
theorem dupNode_reads : rd (dupNode s n) K.fabDupLast = n ∧ Pending (dupNode s n) Ev.fabDupNode :=
  ⟨(rd_raise _ _ _ _ _ (by decide) (by decide)).trans (rd_wr_same ..), raise_sets_pending _ _ _ _ (by decide)⟩
theorem dupNode_fab : (dupNode s n).fab = s.fab := dupNode_frame.2 .fabric (by decide)

/-- What the end of a link under this node's identifier leaves. -/
theorem helloRx_own_leaves (hp : p < 4) (hpl : m.payload = nodeId s :: l) (hn : nodeId s < 256) : rd (helloRx s p m) (K.linkStatus p) = 0 ∧
    rd (helloRx s p m) K.fabDupLast = nodeId s ∧ Pending (helloRx s p m) Ev.fabDupNode ∧
    (helloRx s p m).fab = (linkLeave s p).fab ∧ EvFrame [K.linkStatus p, K.fabDupLast] [.fabric] s (helloRx s p m) := by
  rw [helloRx_own hpl hn]
  have hkept : rd (dupNode (linkLeave s p) (nodeId s)) (K.linkStatus p) = rd (linkLeave s p) (K.linkStatus p) :=
    (rd_raise _ _ _ _ _ (by decide) (eventKey_of_page (by simp only [K.linkStatus]; omega))).trans (rd_wr_ne _ _ (by simp only [K.fabDupLast, K.linkStatus]; omega))
  exact ⟨hkept.trans rd_linkLeave, dupNode_reads.1, dupNode_reads.2, dupNode_fab,
    (linkLeave_frame.toEv.mono (by simp) (by decide)).trans (dupNode_frame.mono (by simp) (by decide))⟩

theorem exec_helloTimeout (hp : p < 4) (hj : joined s p = true) (h : tget 0 s.fab.hello p + 299 ≤ s.tick.elapsed) :
    exec (.helloTimeout p) s = done s (linkLeave s p) := congrArg (done s) (if_pos ⟨hp, hj, h⟩)

/-! LINK_STATE (R384). -/

/-- The next LINK_STATE of this node numbered. -/
def lsNumbered (s : State) : State := { s with fab := { s.fab with lsSeq := (s.fab.lsSeq + 1) % 2 ^ 32 } }

/-- The message that it floods. -/
def lsMsg (s : State) : FabMsg × State :=
  fabMsg (lsNumbered s) Msg.linkState 0 true 0 0 ([unitTag (lsNumbered s), (s.fab.lsSeq + 1) % 2 ^ 32] ++ ownLinks (lsNumbered s))

theorem exec_linkStateSend : exec .linkStateSend s =
    done s (if (List.range 4).any (joined s) = true then fabFlood (lsMsg s).2 (lsMsg s).1 none else lsNumbered s) := rfl

theorem lsMsg_state : (lsMsg s).2.regs = s.regs ∧ (lsMsg s).2.fab.lsSeq = (s.fab.lsSeq + 1) % 2 ^ 32 ∧ Frame [] [.fabric] s (lsMsg s).2 :=
  ⟨rfl, rfl, .set_fab (by decide) (.set_fab (by decide) .refl)⟩

theorem lsMsg_floods : Floods (lsMsg s).2 (lsMsg s).1.ver none q ↔ joinedAt s q 1 = true := by
  have h : joinedAt (lsMsg s).2 q 1 = joinedAt s q 1 := joinedAt_congr (rd_of_regs lsMsg_state.1 _)
  change joinedAt (lsMsg s).2 q 1 = true ∧ none ≠ some q ↔ _
  rw [h]
  simp

theorem joined_of_joinedAt {v : Nat} (h : joinedAt s q v = true) : joined s q = true := by
  rw [joinedAt, Bool.and_eq_true] at h
  exact h.1

theorem exec_linkStateRx (hp : p < 4) (hj : joined s p = true) (hw : Whole s p m) (hty : m.typ = 2) (ht : m.ttl ≠ 0) :
    exec (.linkStateRx p m) s = done s (linkStateRx (linkCounted s p) p m) := by
  have he : exec (.linkStateRx p m) s = done s (fabIn s p m (fun s => if m.typ = Msg.linkState then linkStateRx s p m else s)) :=
    congrArg (done s) (if_pos ⟨hp, hj⟩)
  rw [he, fabIn_whole hw (by rw [hty]; decide) ht]
  exact congrArg (done s) (if_pos hty)

section
variable {a b : Nat} {e : LsEnt}

/-- The entry of another node's LINK_STATE. -/
def lsEntry (s : State) (a b : Nat) (l : List Word) : LsEnt := ⟨a, b, l.take 4, s.tick.elapsed, false⟩

/-- The entry in the database, and the nodes counted. -/
def lsEntered (s : State) (n : Nat) (e : LsEnt) : State := countNodes { s with fab := { s.fab with db := tset none s.fab.db n (some e) } }

theorem linkStateRx_seen (hsrc : m.src ≠ nodeId s) (hpl : m.payload = a :: b :: l) (hdb : tget none s.fab.db m.src = some e) (ha : e.tag = a)
    (hb : e.seq = b) : linkStateRx s p m = s := by
  simp [linkStateRx, hsrc, hpl, nth, hdb, ha, hb]

/-- A LINK_STATE not seen yet, of a node that is no duplicate. -/
theorem linkStateRx_enters (hsrc : m.src ≠ nodeId s) (hpl : m.payload = a :: b :: l)
    (hdb : tget none s.fab.db m.src = none ∨ ∃ e, tget none s.fab.db m.src = some e ∧ e.tag = a ∧ e.seq ≠ b ∧ e.dup = false) :
    linkStateRx s p m = fabFlood (lsEntered s m.src (lsEntry s a b l)) { m with ttl := m.ttl - 1 } (some p) := by
  obtain hdb | ⟨e, hdb, ha, hb, hdup⟩ := hdb
  · simp [linkStateRx, hsrc, hpl, nth, hdb, lsEntered, lsEntry]
  · simp [linkStateRx, hsrc, hpl, nth, hdb, ha, hb, hdup, lsEntered, lsEntry]

theorem linkStateRx_own (hsrc : m.src = nodeId s) (hpl : m.payload = a :: l) (ha : a ≠ unitTag s) :
    linkStateRx s p m = dupNode { s with fab := { s.fab with ownDup := true } } (nodeId s) := by
  simp [linkStateRx, hsrc, hpl, nth, ha]

theorem lsEntered_frame : Frame [K.fabNodes] [.fabric] s (lsEntered s n e) := .wr (by decide) (.set_fab (by decide) .refl)

/-- What the entry of a LINK_STATE leaves. -/
theorem linkStateRx_leaves (hsrc : m.src ≠ nodeId s) (hpl : m.payload = a :: b :: l)
    (hdb : tget none s.fab.db m.src = none ∨ ∃ e, tget none s.fab.db m.src = some e ∧ e.tag = a ∧ e.seq ≠ b ∧ e.dup = false) :
    tget none (linkStateRx s p m).fab.db m.src = some (lsEntry s a b l) ∧
    rd (linkStateRx s p m) K.fabNodes = (linkStateRx s p m).fab.db.length + 1 ∧
    Frame (K.fabNodes :: (List.range 4).map K.linkTxMsgs) [.fabric, .out] s (linkStateRx s p m) := by
  rw [linkStateRx_enters hsrc hpl hdb]
  have hkept : (fabFlood (lsEntered s m.src (lsEntry s a b l)) { m with ttl := m.ttl - 1 } (some p)).fab.db =
      tset none s.fab.db m.src (some (lsEntry s a b l)) := by rw [fabFlood_fab]; rfl
  rw [hkept]
  refine ⟨tget_tset_same .., ?_, ?_⟩
  · exact (fabFlood_frame.1 _ (by decide)).trans (rd_wr_same ..)
  · exact (lsEntered_frame.mono (by simp) (by decide)).trans (fabFlood_frame.mono (List.subset_cons_self ..) (by decide))

/-- A node dropped from the database. -/
def lsDropped (s : State) (n : Nat) : State := countNodes { s with fab := { s.fab with db := tdel s.fab.db n } }

theorem lsDropped_reads : (lsDropped s n).fab.db = tdel s.fab.db n ∧ rd (lsDropped s n) K.fabNodes = (lsDropped s n).fab.db.length + 1 :=
  ⟨rfl, rd_wr_same ..⟩

theorem exec_linkStateAge (hdb : tget none s.fab.db n = some e) (h : e.at_ + 300000 ≤ s.tick.elapsed) :
    exec (.linkStateAge n) s = done s (lsDropped s n) := by
  change execLinkStateAge n s = _
  simp only [execLinkStateAge, hdb, if_pos h]
  rfl

end

/-! Relayed messages (R384, R385, R387). -/

theorem exec_fabMsgRelay (hp : p < 4) (hj : joined s p = true) :
    exec (.fabMsgRelay p m) s = done s (fabIn s p m (fun s => fabRelay s p m)) := congrArg (done s) (if_pos ⟨hp, hj⟩)

theorem fabRelay_routed (hb : m.bcast = false) (hd : m.dst ≠ nodeId s) (hr : routeTo s (max 1 (min 3 m.ver)) m.dst = some o) :
    fabRelay s p m = fabOut s o { m with ttl := m.ttl - 1 } := by
  have hr' : routeTo s (Nat.max 1 (Nat.min 3 m.ver)) m.dst = some o := hr
  simp only [fabRelay, hb, if_neg hd, hr', Bool.false_eq_true, if_false]

theorem fabRelay_unrouted (hb : m.bcast = false) (hd : m.dst ≠ nodeId s) (hr : routeTo s (max 1 (min 3 m.ver)) m.dst = none) :
    fabRelay s p m = inc s K.fabNoRoute 1 := by
  have hr' : routeTo s (Nat.max 1 (Nat.min 3 m.ver)) m.dst = none := hr
  simp only [fabRelay, hb, if_neg hd, hr', Bool.false_eq_true, if_false]

/-- A broadcast noted as relayed. -/
def relayNoted (s : State) (m : FabMsg) : State := { s with fab := { s.fab with relayed := tset 0 s.fab.relayed m.src (m.seq + 1) } }

theorem relayNoted_at : tget 0 (relayNoted s m).fab.relayed m.src = m.seq + 1 := tget_tset_same 0 s.fab.relayed m.src (m.seq + 1)

theorem fabRelay_floods (hb : m.bcast = true) (hs : m.src ≠ nodeId s) (hr : tget 0 s.fab.relayed m.src ≠ m.seq + 1) :
    fabRelay s p m = fabFlood (relayNoted s m) { m with ttl := m.ttl - 1 } (some p) := by
  simp only [fabRelay, hb, if_neg (show ¬ (m.src = nodeId s ∨ tget 0 s.fab.relayed m.src = m.seq + 1) from fun h => h.elim hs hr), if_true]
  rfl

theorem rxMsgs_ne_txMsgs : K.linkRxMsgs p ≠ K.linkTxMsgs q := by simp only [K.linkRxMsgs, K.linkTxMsgs]; omega

end

/-- Settles O38: the links, the database, the routes, the relayed messages and the looped port. -/
theorem fabricLinks : Obligations.FabricLinks := by
  refine ⟨?_, ?_, ?_, ?_, ?_, ?_, ?_, ?_, ?_, ?_, ?_, ?_, ?_, ?_, ?_, ?_, ?_, ?_, ?_, ?_, ?_⟩
  · intro p s hp hu
    refine runs_done (exec_helloSend hp hu) ⟨⟨(helloMsg s p).1.sealed, fabOut_out, rfl, rfl, rfl, rfl, rfl, sealed_good, rfl⟩, ?_, ?_⟩
    · exact (fabOut_counts (s := (helloMsg s p).2)).since rfl
    · exact Frame.settled (Frame.trans (.set_fab (by decide) .refl) fabOut_frame)
  · intro p m n a q lo hi s hp hu hw hty ht hpl hn hq hne h1 hlo hmine hj
    have hjoined : joined (linkCounted s p) p = false := by
      rw [joined, rdBit, rd_linkCounted (by simp only [K.linkStatus]; omega)]
      exact hj
    refine runs_done (exec_helloRx_whole hp hu hw hty ht) ?_
    rw [helloRx_meets hpl hn (by rwa [linkCounted_nodeId]) h1 hlo (by rwa [linkCounted_version]), hjoined, if_neg (by decide),
      linkCounted_version, Nat.mod_eq_of_lt hq]
    refine ⟨rd_wr_same .., ?_, ?_⟩
    · exact linkCounted_counts.of_rd (rd_wr_ne _ _ (by simp only [K.linkStatus, K.linkRxMsgs]; omega))
    · exact Frame.settled (.wr (by simp) (.set_fab (by decide) (linkCounted_frame.mono (by simp) (by decide))))
  · intro p m n a q lo hi s hp hu hw hty ht hpl hn hne h1 hlo hmine hj
    have hjoined : joined (linkCounted s p) p = true := by
      rw [joined, rdBit, rd_linkCounted (by simp only [K.linkStatus]; omega)]
      exact hj
    refine runs_done (exec_helloRx_whole hp hu hw hty ht) ?_
    rw [helloRx_meets hpl hn (by rwa [linkCounted_nodeId]) h1 hlo (by rwa [linkCounted_version]), hjoined, if_pos rfl]
    exact ⟨helloNoted_at, linkCounted_counts, Frame.settled (.set_fab (by decide) (linkCounted_frame.mono (by simp) (by decide)))⟩
  · intro p m l s hp hu hw hty ht hpl hn
    have hown := linkCounted_nodeId (s := s) (p := p)
    obtain ⟨hlink, hlast, hpending, -, hframe⟩ := helloRx_own_leaves (s := linkCounted s p) (p := p) hp (by rwa [hown]) (by rwa [hown])
    refine runs_done (exec_helloRx_whole hp hu hw hty ht) ⟨hlink, hlast.trans hown, hpending.settled, EvFrame.settled ?_⟩
    exact (linkCounted_frame.toEv.mono (by simp) (by decide)).trans (hframe.mono (by simp) (by decide))
  · intro p m n a q lo hi s hp hu hw hty ht hpl hn hne hver
    refine runs_done (exec_helloRx_whole hp hu hw hty ht) ?_
    rw [helloRx_fails hpl hn (by rwa [linkCounted_nodeId]) (by rwa [linkCounted_version])]
    refine ⟨?_, Pending.settled (raise_sets_pending _ _ _ _ (by decide)), EvFrame.settled (.raise (by decide) ?_)⟩
    · exact (rd_raise _ _ _ _ _ (by decide) (eventKey_of_page (by simp only [K.linkStatus]; omega))).trans rd_linkLeave
    · exact Frame.toEv ((linkCounted_frame.mono (by simp) (by decide)).trans (linkLeave_frame.mono (by simp) (by decide)))
  · intro p m s hp hu hl hg
    refine runs_done (exec_helloRx hp hu) ?_
    rw [fabIn_damaged hl hg]
    exact ⟨Counts.of_inc rfl, Frame.settled (.inc (by decide) .refl)⟩
  · intro p m s hp hl hm
    refine runs_done (exec_helloRx_foreign hl hm) ⟨rfl, Frame.settled .refl⟩
  · intro p m l w s hp hu hl hlooped hg hty ht hpl hn
    have hown : nodeId (linkCounted (loopTaken s p l) p) = nodeId s := linkCounted_nodeId
    obtain ⟨hlink, hlast, hpending, hfab, hframe⟩ := helloRx_own_leaves (s := linkCounted (loopTaken s p l) p) (p := p) hp
      (by rwa [hown]) (by rwa [hown])
    refine runs_done ((exec_helloRx hp hu).trans (congrArg (done s) ?_)) ⟨?_, hlink, hlast.trans hown, hpending.settled, EvFrame.settled ?_⟩
    · rw [fabIn_of_take (fabTake_looped hl hlooped) hg (by rw [hty]; decide) ht]
      exact if_pos hty
    · exact (congrArg (fun x => tget [] x.looped p) hfab).trans (tget_tset_same ..)
    · have hcounted : Frame [K.linkRxMsgs p] [.fabric] s (linkCounted (loopTaken s p l) p) :=
        Frame.trans (.set_fab (by decide) .refl) (linkCounted_frame.mono (by simp) (by decide))
      exact (hcounted.toEv.mono (by simp) (by decide)).trans (hframe.mono (by simp) (by decide))
  · intro p s hp hj h
    refine runs_done (exec_helloTimeout hp hj h) ⟨?_, Frame.settled linkLeave_frame⟩
    rw [joined, rdBit, rd_settled, rd_linkLeave]
    decide
  · intro s
    obtain ⟨hregs, hseq, hframe⟩ := lsMsg_state (s := s)
    refine runs_done exec_linkStateSend ?_
    split
    · refine ⟨(congrArg FabSt.lsSeq fabFlood_fab).trans hseq, fun p hp => ?_, Frame.settled ?_⟩
      · split
        · next h => exact (fabFlood_sends hp (lsMsg_floods.mpr h)).since (rd_of_regs hregs _)
        · next h => exact (fabFlood_skips (mt lsMsg_floods.mp h)).trans (rd_of_regs hregs _)
      · exact (hframe.mono (List.nil_subset _) (by decide)).trans fabFlood_frame
    · next hnone =>
      refine ⟨rfl, fun p hp => ?_, Frame.settled (.set_fab (by decide) .refl)⟩
      rw [if_neg fun h => hnone (List.any_eq_true.mpr ⟨p, List.mem_range.mpr hp, joined_of_joinedAt h⟩)]
      rfl
  · intro p m a q l s hp hj hw hty ht hsrc hpl hdb
    obtain ⟨hentry, hnodes, hframe⟩ := linkStateRx_leaves (s := linkCounted s p) (p := p) (by rwa [linkCounted_nodeId]) hpl (.inl hdb)
    refine runs_done (exec_linkStateRx hp hj hw hty ht) ⟨hentry, hnodes, Frame.settled ?_⟩
    exact (linkCounted_frame.mono (by simp) (by decide)).trans (hframe.mono (List.cons_subset_cons _ (List.subset_cons_self ..)) (by decide))
  · intro p m a q l e s hp hj hw hty ht hsrc hpl hdb ha hq
    refine runs_done (exec_linkStateRx hp hj hw hty ht) ?_
    rw [linkStateRx_seen (s := linkCounted s p) (by rwa [linkCounted_nodeId]) hpl hdb ha hq]
    exact ⟨linkCounted_counts, Frame.settled linkCounted_frame⟩
  · intro p m a q l e s hp hj hw hty ht hsrc hpl hdb ha hq hdup
    obtain ⟨hentry, hnodes, hframe⟩ := linkStateRx_leaves (s := linkCounted s p) (p := p) (by rwa [linkCounted_nodeId]) hpl
      (.inr ⟨e, hdb, ha, hq, hdup⟩)
    refine runs_done (exec_linkStateRx hp hj hw hty ht) ⟨hentry, hnodes, Frame.settled ?_⟩
    exact (linkCounted_frame.mono (by simp) (by decide)).trans (hframe.mono (List.cons_subset_cons _ (List.subset_cons_self ..)) (by decide))
  · intro p m a l s hp hj hw hty ht hsrc hpl ha
    refine runs_done (exec_linkStateRx hp hj hw hty ht) ?_
    rw [linkStateRx_own (hsrc.trans linkCounted_nodeId.symm) hpl ha, linkCounted_nodeId]
    refine ⟨congrArg FabSt.ownDup dupNode_fab, dupNode_reads.1, dupNode_reads.2.settled, EvFrame.settled ?_⟩
    exact (Frame.toEv (.set_fab (by decide) (linkCounted_frame.mono (by simp) (by decide)))).trans (dupNode_frame.mono (by simp) (by decide))
  · intro n e s hdb h
    refine runs_done (exec_linkStateAge hdb h) ⟨tget_tdel_same .., fun k hk => tget_tdel_ne _ _ hk.symm, lsDropped_reads.2, ?_⟩
    exact Frame.settled (.wr (by decide) (.set_fab (by decide) .refl))
  · intro s hdup
    refine runs_done exec_routeRecompute ⟨?_, Frame.settled (.set_fab (by decide) .refl)⟩
    exact (routesOf_none hdup).trans ((routesOf_none hdup).trans (routesOf_none hdup))
  · intro s hdup
    refine runs_done exec_routeRecompute ⟨fun v p h1 h3 hp hj hr => ?_, Frame.settled (.set_fab (by decide) .refl)⟩
    obtain ⟨q, hq, hjoined, hnode, hroute⟩ := routesNow_neighbour hdup h1 h3 hp hj hr
    refine ⟨q, hq, (routeTo_of_entry (e := 4 + q) (hroute.trans (by omega))).trans ?_, hjoined, hnode⟩
    rw [show (4 + q) % 4 = q by omega]
  · intro p m o s hp hj hw hk ht hb hd hr
    refine runs_done (exec_fabMsgRelay hp hj) ?_
    rw [fabIn_whole hw hk ht, fabRelay_routed (s := linkCounted s p) hb (by rwa [linkCounted_nodeId]) hr]
    refine ⟨fabOut_out, ?_, ?_, ?_⟩
    · exact linkCounted_counts.of_rd (rd_fabOut_ne rxMsgs_ne_txMsgs.symm)
    · exact (fabOut_counts (s := linkCounted s p)).since (rd_linkCounted (by simp only [K.linkTxMsgs]; omega))
    · exact Frame.settled ((linkCounted_frame.mono (by simp) (by decide)).trans (fabOut_frame.mono (by simp) (by decide)))
  · intro p m s hp hj hw hk ht hb hd hr
    refine runs_done (exec_fabMsgRelay hp hj) ?_
    rw [fabIn_whole hw hk ht, fabRelay_unrouted (s := linkCounted s p) hb (by rwa [linkCounted_nodeId]) hr]
    exact ⟨Counts.of_inc (rd_linkCounted (by decide)), Frame.settled (.inc (by simp) (linkCounted_frame.mono (by simp) (by decide)))⟩
  · intro p m s hp hj hw hk ht hb hsrc hr
    refine runs_done (exec_fabMsgRelay hp hj) ?_
    rw [fabIn_whole hw hk ht, fabRelay_floods (s := linkCounted s p) hb (by rwa [linkCounted_nodeId]) hr]
    refine ⟨?_, fun q hq => ?_, ?_⟩
    · exact (congrArg (tget 0 · m.src) (congrArg FabSt.relayed fabFlood_fab)).trans relayNoted_at
    · have hlinks : SameLinks s (relayNoted (linkCounted s p) m) := fun k => rd_linkCounted (by simp only [K.linkStatus]; omega)
      have hsame : rd (relayNoted (linkCounted s p) m) (K.linkTxMsgs q) = rd s (K.linkTxMsgs q) :=
        rd_linkCounted (by simp only [K.linkTxMsgs]; omega)
      have hcond : Floods (relayNoted (linkCounted s p) m) m.ver (some p) q ↔ q ≠ p ∧ joinedAt s q m.ver = true := by
        rw [hlinks.floods, Floods, and_comm, ne_eq, Option.some.injEq, eq_comm]
      split
      · next h => exact (fabFlood_sends (m := { m with ttl := m.ttl - 1 }) hq (hcond.mpr h)).since hsame
      · next h => exact (fabFlood_skips (m := { m with ttl := m.ttl - 1 }) (mt hcond.mp h)).trans hsame
    · exact Frame.settled (Frame.trans (.set_fab (by decide) (linkCounted_frame.mono (by simp) (by decide)))
        (fabFlood_frame.mono (List.subset_cons_self ..) (by decide)))
  · intro p m s hp hj hw hk ht
    refine runs_done (exec_fabMsgRelay hp hj) ?_
    rw [fabIn_spent hw hk ht]
    exact Frame.settled linkCounted_frame

end Sys2Proof.Machine

/-! Role entries: resolution, settings, preferred start, switchover and takeover (R391–R393, R409–R414). -/

namespace Sys2Proof.Machine

section
variable {s t u y : State} {m : FabMsg} {g k h v n typ src old o : Nat} {node : Option Nat} {r : Req}

theorem roleAt_answered {x : Tbl Chan} {code : Code} {ws : List Word} : roleAt (answered s u x code ws) g = roleAt u g := rfl

theorem entryOf_lt (h : entryOf s n = some g) : g < 4 := List.mem_range.mp (List.mem_of_find?_eq_some h)

/-! ROLE_TAKEOVER and ROLE_STALE (R393). -/

/-- How much later an epoch is than that of entry `g`, signed. -/
def epochAhead (s : State) (g e : Nat) : Int := toSigned 32 ((e + 2 ^ 32 - roleEpochOf s g) % 2 ^ 32)

theorem epochAhead_own : epochAhead s g (roleEpochOf s g) = 0 := by
  rw [epochAhead, Nat.add_sub_cancel_left]
  decide

theorem epochAhead_received : epochAhead (received s m) g n = epochAhead s g n := by
  rw [epochAhead, received_same.roleEpochOf, epochAhead]

theorem resolveRx_of {e w : Nat} (hm : MsgFor s m typ) (hk : msgKnown typ = true) (he : entryOf s m.group = some g) (hp : m.payload = [e, w]) :
    resolveRx s m typ = resolve (received s m) g e (wordNode w) m.src := by
  rw [resolveRx, fabMine_of hm hk]
  simp only [received_same.entryOf, he, hp, nth, List.getD_cons_zero, List.getD_cons_succ]

/-- The entry as a later epoch leaves it. -/
def resolvedRole (x : RoleSt) (node : Option Nat) : RoleSt :=
  { x with node := node, st := if x.st = 4 then 1 else x.st, lapsed := false, claiming := false, heard := true }

/-- The entry with an epoch and an active node. -/
def roleMoved (s : State) (g e : Nat) (node : Option Nat) : State :=
  wr (setRole s g (resolvedRole (roleAt s g) node)) (K.roleEpoch g) e

theorem roleMoved_epoch : rd (roleMoved s g n node) (K.roleEpoch g) = n := rd_wr_same ..
theorem roleMoved_role : roleAt (roleMoved s g n node) g = resolvedRole (roleAt s g) node := roleAt_setRole_same s g (resolvedRole (roleAt s g) node)
theorem roleMoved_frame : Frame [K.roleEpoch g] [.fabric] s (roleMoved s g n node) := .wr (by simp) (.set_fab (by decide) .refl)

/-- A later epoch: the entry demotes where it is active, and takes the epoch and the active node. -/
theorem resolve_later (h : 0 < epochAhead s g n) (hn : n < 2 ^ 32) : resolve s g n node src = roleMoved (demote s g) g n node := by
  have hmod : n % 2 ^ 32 = n := Nat.mod_eq_of_lt hn
  refine (if_pos h).trans ?_
  rw [hmod]
  rfl

theorem resolve_earlier (h : epochAhead s g n < 0) : resolve s g n node src = roleSend s g Msg.takeover src (roleWords s g) :=
  (if_neg (show ¬ 0 < epochAhead s g n by omega)).trans (if_pos h)

theorem demote_standby (hst : (roleAt s g).st = 1) (ht : (roleAt s g).taking = none) : demote s g = s := by
  simp [demote, roleActive, hst, ht]

/-- An active entry without its group. -/
def demotedRole (x : RoleSt) : RoleSt := { x with st := 1, resync := [], want := none64, grants := [], holders := [], dropAfter := false }

/-- The device without ACT_LOCK of a pair, and silent. -/
def demotedDevice (s : State) (g : Nat) : State :=
  let x := setRole s g (demotedRole (roleAt s g))
  wr { x with fab := { x.fab with lock := if rolePair s g then false else s.fab.lock, halted := true } } K.resyncLeft 0

theorem demote_active (h : roleActive (roleAt s g) = true) : demote s g = raise (demotedDevice s g) Ev.roleDemoted g 0 := by
  rw [demote, h]
  exact if_neg (by decide)

theorem demotedDevice_frame : Frame [K.resyncLeft] [.fabric] s (demotedDevice s g) :=
  .wr (by decide) (.set_fab (by decide) (.set_fab (by decide) .refl))

theorem demote_active_leaves (h : roleActive (roleAt s g) = true) : roleAt (demote s g) g = demotedRole (roleAt s g) ∧
    (demote s g).fab.halted = true ∧ (rolePair s g = true → (demote s g).fab.lock = false) ∧ Pending (demote s g) Ev.roleDemoted ∧
    EvFrame [K.resyncLeft] [.fabric] s (demote s g) := by
  rw [demote_active h]
  have hfab : (raise (demotedDevice s g) Ev.roleDemoted g 0).fab = (demotedDevice s g).fab := raise_fab _ _ _ _ (by decide)
  refine ⟨?_, congrArg FabSt.halted hfab, fun hp => (congrArg FabSt.lock hfab).trans (if_pos hp), raise_sets_pending _ _ _ _ (by decide),
    .raise (by decide) demotedDevice_frame.toEv⟩
  rw [roleAt_raise (by decide)]
  exact roleAt_setRole_same s g (demotedRole (roleAt s g))

/-- Of the same epoch, another active node than this one: the lower of the two stays. -/
theorem resolve_same {a b : Nat} (hb : (roleAt s g).node = some b) (hne : b ≠ nodeId s) :
    resolve s g (roleEpochOf s g) (some a) src =
      if a = b then s else if a < b then setRole s g { roleAt s g with node := some a, heard := true } else s := by
  have h0 : toSigned 32 ((roleEpochOf s g + 2 ^ 32 - roleEpochOf s g) % 2 ^ 32) = 0 := epochAhead_own
  simp only [resolve, h0, lt_irrefl, if_false, hb, if_neg hne]

theorem resolve_same_leaves {a b : Nat} (hb : (roleAt s g).node = some b) (hne : b ≠ nodeId s) :
    (roleAt (resolve s g (roleEpochOf s g) (some a) src) g).node = some (min a b) ∧
    Frame [] [.fabric] s (resolve s g (roleEpochOf s g) (some a) src) := by
  rw [resolve_same hb hne]
  split
  · next h => exact ⟨by rw [hb, h, min_self], .refl⟩
  · split
    · next h =>
      rw [roleAt_setRole_same, min_eq_left h.le]
      exact ⟨rfl, .set_fab (by decide) .refl⟩
    · exact ⟨by rw [hb, min_eq_right (by omega)], .refl⟩

theorem fabSend_frame {dst grp ep : Nat} {pl : List Word} (h : routeTo s (msgVer typ) dst = some o) :
    Frame [K.linkTxMsgs o] [.fabric, .out] s (fabSend s typ dst grp ep pl) := by
  simp only [fabSend, h]
  exact Frame.trans (.set_fab (by decide) .refl) fabOut_frame

theorem roleWords_received : roleWords (received s m) g = roleWords s g := by
  rw [roleWords, received_same.roleEpochOf, received_same.roleAt, roleWords]

/-! ROLE_CTRL (R391, R414). -/

/-- The defined bits of ROLE_CTRL. -/
abbrev roleCtrlKept (v : Nat) : Nat := Nat.land v 0xB8FF0F03

theorem exec_roleCtrlWrite (hv : v < 2 ^ 32) :
    exec (.roleCtrlWrite r g v) s = done s (access s r (K.roleCtrl g) true (roleCtrlEff g v)) := by
  change done s (access s r (K.roleCtrl g) true (roleCtrlEff g (v % 2 ^ 32))) = _
  rw [Nat.mod_eq_of_lt hv]

theorem bit_roleCtrlKept : bit (roleCtrlKept v) 31 = bit v 31 := by
  rw [bit_land, show bit 0xB8FF0F03 31 = true by decide, Bool.and_true]

theorem bits_eq_of_bits (h : bit n 28 = bit v 28) (h' : bit n 29 = bit v 29) : bits n 29 28 = bits v 29 28 := by
  simp only [bit, beq_eq_beq, bits] at *
  omega

theorem mode_roleCtrlKept : bits (roleCtrlKept v) 29 28 = bits v 29 28 := by
  apply bits_eq_of_bits
  · rw [bit_land, show bit 0xB8FF0F03 28 = true by decide, Bool.and_true]
  · rw [bit_land, show bit 0xB8FF0F03 29 = true by decide, Bool.and_true]

theorem roleCtrlEff_reserved (h : bits v 29 28 = 0 ∨ bits v 29 28 = 3) : roleCtrlEff g v s = abortR s .unsupportedValue :=
  if_pos (by rwa [← mode_roleCtrlKept] at h)

/-- What an entry switched off clears besides its settings. -/
def roleOffKeys (g : Nat) : List Nat := [K.roleEpoch g, K.health g, K.peerHealth g, K.leaseExpiry g, K.roleSwitchTick g, K.resyncLeft]

theorem roleOff_frame : Frame (roleOffKeys g) [.fabric] s (roleOff s g) := by
  have hcleared : Frame (roleOffKeys g) [.fabric] s (wr (wr (wr (setRole s g role0) (K.roleEpoch g) 0) (K.health g) 0) (K.peerHealth g) 0) :=
    .wr (by simp [roleOffKeys]) (.wr (by simp [roleOffKeys]) (.wr (by simp [roleOffKeys]) (.set_fab (by decide) .refl)))
  exact .set_fab (by decide) (.wr (by simp [roleOffKeys]) (.wr (by simp [roleOffKeys]) (.wr (by simp [roleOffKeys]) hcleared)))

theorem roleOff_reads (hg : g < 4) : roleAt (roleOff s g) g = role0 ∧ rd (roleOff s g) (K.roleEpoch g) = 0 ∧ (roleOff s g).fab.halted = false ∧
    (rolePair s g = true → (roleOff s g).fab.lock = false) := by
  refine ⟨roleAt_setRole_same s g role0, ?_, rfl, fun h => if_pos h⟩
  have hregs : (roleOff s g).regs = (wr (wr (wr (wr (wr (wr (setRole s g role0) (K.roleEpoch g) 0) (K.health g) 0) (K.peerHealth g) 0)
    (K.leaseExpiry g) none64) (K.roleSwitchTick g) none64) K.resyncLeft 0).regs := rfl
  rw [rd_of_regs hregs]
  rw [rd_wr_ne _ _ (by simp only [K.resyncLeft, K.roleEpoch]; omega), rd_wr_ne _ _ (by simp only [K.roleSwitchTick, K.roleEpoch]; omega),
    rd_wr_ne _ _ (by simp only [K.leaseExpiry, K.roleEpoch]; omega), rd_wr_ne _ _ (by simp only [K.peerHealth, K.roleEpoch]; omega),
    rd_wr_ne _ _ (by simp only [K.health, K.roleEpoch]; omega), rd_wr_same]

/-- The entry switched off, with its new settings. -/
def roleCtrlSet (s : State) (g v : Nat) : State := wr (roleOff s g) (K.roleCtrl g) v

theorem roleCtrlSet_frame : Frame (K.roleCtrl g :: roleOffKeys g) [.fabric] s (roleCtrlSet s g v) :=
  .wr (by simp) (roleOff_frame.mono (List.subset_cons_self ..) (by decide))

theorem roleCtrlSet_ctrl : rd (roleCtrlSet s g v) (K.roleCtrl g) = v := rd_wr_same ..

theorem roleCtrlSet_epoch (hg : g < 4) : rd (roleCtrlSet s g v) (K.roleEpoch g) = 0 :=
  (rd_wr_ne _ _ (by simp only [K.roleCtrl, K.roleEpoch]; omega)).trans (roleOff_reads hg).2.1

theorem roleCtrlSet_role (hg : g < 4) : roleAt (roleCtrlSet s g v) g = role0 := (roleOff_reads hg).1
theorem roleCtrlSet_fab : (roleCtrlSet s g v).fab = (roleOff s g).fab := wr_fab ..

/-- The entry enabled afresh. -/
def roleEnabled (s : State) (g v : Nat) : State := setRole (roleCtrlSet s g v) g { role0 with st := 1, since := s.tick.elapsed }

theorem roleEnabled_regs : (roleEnabled s g v).regs = (roleCtrlSet s g v).regs := rfl

theorem roleEnabled_role : roleAt (roleEnabled s g v) g = { role0 with st := 1, since := s.tick.elapsed } := roleAt_setRole_same (roleCtrlSet s g v) g _

/-- A write of a MODE that is not reserved. -/
theorem roleCtrlEff_mode (h : bits v 29 28 = 1 ∨ bits v 29 28 = 2) : roleCtrlEff g v s =
    if roleEn s g = true then
      (if bit v 31 = true then abortR s .wrongState else okR (roleCtrlSet s g (roleCtrlKept v)))
    else if (!bit v 31) = true then okR (wr s (K.roleCtrl g) (roleCtrlKept v))
    else if (!roleCtrlOk s g (roleCtrlKept v)) = true then abortR s .unsupportedValue
    else okR (roleEnabled s g (roleCtrlKept v)) := by
  have hmode : ¬ (bits (roleCtrlKept v) 29 28 = 0 ∨ bits (roleCtrlKept v) 29 28 = 3) := by
    rw [mode_roleCtrlKept]
    omega
  refine (if_neg hmode).trans ?_
  rw [bit_roleCtrlKept]
  rfl

section
variable (hm : bits v 29 28 = 1 ∨ bits v 29 28 = 2)
include hm

theorem roleCtrlEff_enabled (he : roleEn s g = true) (hb : bit v 31 = true) : roleCtrlEff g v s = abortR s .wrongState := by
  rw [roleCtrlEff_mode hm, if_pos he, if_pos hb]

theorem roleCtrlEff_off (he : roleEn s g = true) (hb : bit v 31 = false) : roleCtrlEff g v s = okR (roleCtrlSet s g (roleCtrlKept v)) := by
  rw [roleCtrlEff_mode hm, if_pos he, hb, if_neg (by decide)]

theorem roleCtrlEff_stores (he : roleEn s g = false) (hb : bit v 31 = false) :
    roleCtrlEff g v s = okR (wr s (K.roleCtrl g) (roleCtrlKept v)) := by
  rw [roleCtrlEff_mode hm, he, if_neg (by decide), hb, if_pos (by decide)]

theorem roleCtrlEff_enables (he : roleEn s g = false) (hb : bit v 31 = true) (hok : roleCtrlOk s g (roleCtrlKept v) = true) :
    roleCtrlEff g v s = okR (roleEnabled s g (roleCtrlKept v)) := by
  rw [roleCtrlEff_mode hm, he, if_neg (by decide), hb, if_neg (by decide), hok, if_neg (by decide)]

end

theorem wr_roleCtrl : rd (wr s (K.roleCtrl g) v) (K.roleCtrl g) = v := rd_wr_same ..

/-! PREFER_ACTIVE (R414). -/

/-- The standby that becomes active without a sweep. -/
def preferred (s : State) (g : Nat) : State :=
  let x := setRole (wr s (K.roleEpoch g) ((roleEpochOf s g + 1) % 2 ^ 32)) g { roleAt s g with st := 3, node := some (nodeId s), heard := true }
  { x with fab := { x.fab with lock := s.fab.lock || rolePair s g, lockAt := s.tick.clock, halted := false } }

theorem preferred_epoch : rd (preferred s g) (K.roleEpoch g) = (roleEpochOf s g + 1) % 2 ^ 32 :=
  rd_wr_same s (K.roleEpoch g) ((roleEpochOf s g + 1) % 2 ^ 32)

/-- An unheard standby whose entry prefers to be active. -/
structure Prefers (s : State) (g : Nat) : Prop where
  enabled : roleEn s g = true
  asked : rdBit s (K.roleCtrl g) 27 = true
  standby : (roleAt s g).st = 1
  notTaking : (roleAt s g).taking = none
  unheard : (roleAt s g).heard = false
  waited : (roleAt s g).since + 2 ≤ s.tick.elapsed
  unblocked : classBlocked s g = false
  free : rolePair s g = false ∨ lockHigh s = true

theorem exec_rolePreferActiveTimeout (hg : g < 4) (h : Prefers s g) (hbusy : busyElsewhere s g = false) :
    exec (.rolePreferActiveTimeout g) s = done s (preferred s g) := by
  have hcond : g < 4 ∧ roleEn s g = true ∧ rdBit s (K.roleCtrl g) 27 = true ∧ (roleAt s g).st = 1 ∧ (roleAt s g).taking = none ∧
      (!(roleAt s g).heard) = true ∧ (roleAt s g).since + 2 ≤ s.tick.elapsed ∧ (!classBlocked s g) = true ∧
      ((!rolePair s g) = true ∨ lockHigh s = true) :=
    ⟨hg, h.enabled, h.asked, h.standby, h.notTaking, by rw [h.unheard]; rfl, h.waited, by rw [h.unblocked]; rfl, by simpa using h.free⟩
  have hnode : nodeId (wr s (K.roleEpoch g) ((roleEpochOf s g + 1) % 2 ^ 32)) = nodeId s :=
    rd_wr_ne _ _ (by simp only [K.roleEpoch, K.fabNodeId]; omega)
  refine congrArg (done s) ((if_pos hcond).trans ((if_neg (by rw [hbusy]; decide)).trans ?_))
  rw [preferred, ← hnode]
  rfl

/-! ROLE_SWITCH_TICK (R411). -/

theorem exec_roleSwitchArm (hv : v < none64) :
    exec (.roleSwitchArm r g v) s = done s (access s r (K.roleSwitchTick g) true (roleSwitchEff g v)) := by
  change done s (access s r (K.roleSwitchTick g) true (roleSwitchEff g (v % 2 ^ 64))) = _
  rw [Nat.mod_eq_of_lt (by simp only [none64] at hv; omega)]

theorem roleSwitchEff_arms (ha : roleActive (roleAt s g) = true) (hn : rd s (K.roleSwitchTick g) = none64) (hv : v < none64) (hok : armOk s v = true) :
    roleSwitchEff g v s = okR (wr s (K.roleSwitchTick g) v) := by
  simp [roleSwitchEff, ha, hn, hv.ne, hok]

theorem roleSwitchEff_standby (ha : roleActive (roleAt s g) = false) : roleSwitchEff g v s = abortR s .wrongState := by
  simp [roleSwitchEff, ha]

/-! The end of a takeover's sweep (R409). -/

/-- An SA at this node under its next EPOCH. -/
def rehomedSa (s : State) (h : Nat) : SaEnt :=
  { saAt s h with node := nodeId s, epoch := ((saAt s h).epoch + 1) % 65536, asked := 0, acks := [] }

/-- An SA of the old node as the sweep leaves it. -/
def sweptSa (s : State) (h : Nat) : SaEnt :=
  if resvApplies s (rehomedSa s h) then { rehomedSa s h with pn := (saAt s h).ceiling, ceiling := ceilNext s (rehomedSa s h), conf := true }
  else rehomedSa s h

theorem sweptSa_fields : (sweptSa s h).node = nodeId s ∧ (sweptSa s h).epoch = ((saAt s h).epoch + 1) % 65536 ∧
    (sweptSa s h).pn = if resvApplies s (saAt s h) then (saAt s h).ceiling else (saAt s h).pn := by
  have hresv : resvApplies s (rehomedSa s h) = resvApplies s (saAt s h) := rfl
  rw [sweptSa, hresv]
  split
  · exact ⟨rfl, rfl, rfl⟩
  · exact ⟨rfl, rfl, rfl⟩

theorem sweepOne_moves (h' : (saAt s h).node = old) :
    sweepOne old s h = movedClear (predDrop (setSa s h (sweptSa s h)) (· == h)) (sweptSa s h).sc := if_neg (not_not.mpr h')

theorem sweepOne_passes (h' : (saAt s h).node ≠ old) : sweepOne old s h = s := if_pos h'

/-- The stores during the sweep: every SA not yet met is as it was. -/
structure Sweeping (s y : State) : Prop where
  sc : ∀ n, scAt y n = scAt s n
  frame : Frame [] [.assoc] s y

theorem sweepOne_sweeping : Sweeping s (sweepOne old s h) := by
  by_cases hn : (saAt s h).node = old
  · rw [sweepOne_moves hn]
    exact ⟨fun _ => rfl, .set_assoc (by decide) (.predDrop (by decide) (.set_assoc (by decide) .refl))⟩
  · rw [sweepOne_passes hn]
    exact ⟨fun _ => rfl, .refl⟩

theorem Sweeping.trans (h : Sweeping s t) (h' : Sweeping t u) : Sweeping s u :=
  ⟨fun n => (h'.sc n).trans (h.sc n), h.frame.trans h'.frame⟩

theorem saAt_sweepOne_ne (hne : k ≠ h) : saAt (sweepOne old s h) k = saAt s k := by
  by_cases hn : (saAt s h).node = old
  · rw [sweepOne_moves hn]
    exact saAt_setSa_ne _ _ hne.symm
  · rw [sweepOne_passes hn]

theorem saAt_sweepOne_same (hn : (saAt s h).node = old) : saAt (sweepOne old s h) h = sweptSa s h := by
  rw [sweepOne_moves hn]
  exact saAt_setSa_same ..

theorem sweptSa_congr (h : Sweeping s y) (hsa : saAt y k = saAt s k) : sweptSa y k = sweptSa s k := by
  have hid : nodeId y = nodeId s := h.frame.1 _ (by simp)
  have hre : rehomedSa y k = rehomedSa s k := by simp only [rehomedSa, hsa, hid]
  have hresv (e : SaEnt) : resvApplies y e = resvApplies s e := by simp only [resvApplies, h.sc]
  have hceil (e : SaEnt) : ceilNext y e = ceilNext s e := by simp only [ceilNext, h.sc]
  rw [sweptSa, hre, hresv, hceil, hsa, sweptSa]

theorem saAt_sweep_kept {l : List Nat} (hn : (saAt s k).node ≠ old) : saAt (l.foldl (sweepOne old) s) k = saAt s k := by
  induction l generalizing s with
  | nil => rfl
  | cons h l ih =>
    have hstep : saAt (sweepOne old s h) k = saAt s k := by
      by_cases hk : k = h
      · rw [← hk, sweepOne_passes hn]
      · exact saAt_sweepOne_ne hk
    exact (ih (by rwa [hstep])).trans hstep

theorem saAt_sweep_moved {l : List Nat} (hold : old ≠ nodeId s) (hn : (saAt s k).node = old) (hk : k ∈ l) :
    saAt (l.foldl (sweepOne old) s) k = sweptSa s k := by
  induction l generalizing s with
  | nil => cases hk
  | cons h l ih =>
    have hsweep := sweepOne_sweeping (s := s) (old := old) (h := h)
    by_cases hkh : k = h
    · subst hkh
      have hdone : saAt (sweepOne old s k) k = sweptSa s k := saAt_sweepOne_same hn
      refine (saAt_sweep_kept (s := sweepOne old s k) ?_).trans hdone
      rw [hdone, sweptSa_fields.1]
      exact hold.symm
    · have hstep := saAt_sweepOne_ne (s := s) (old := old) hkh
      have hid : nodeId (sweepOne old s h) = nodeId s := hsweep.frame.1 _ (by simp)
      exact (ih (by rwa [hid]) (by rwa [hstep]) ((List.mem_cons.mp hk).resolve_left hkh)).trans (sweptSa_congr hsweep hstep)

theorem sweep_sweeping (l : List Nat) : Sweeping s (l.foldl (sweepOne old) s) :=
  foldl_rel (R := Sweeping) (fun _ => ⟨fun _ => rfl, .refl⟩) .trans (fun _ _ => sweepOne_sweeping) l s

/-- The stores after the sweep. -/
def swept (s : State) (g old : Nat) : State :=
  let x := passTo s ((roleAt s g).takeAt + 4160)
  (x.assoc.sa.map (·.1)).foldl (sweepOne old) x

/-- The entry active again, announcing. -/
def sweepEnded (s : State) (g old : Nat) : State :=
  let x := swept s g old
  inc (setRole { x with fab := { x.fab with halted := false } } g { roleAt s g with st := 3, taking := none, dropAfter := false }) (K.takeovers g) 1

theorem takeoverDone_idle (h : (roleAt s k).taking = none) : takeoverDone s k = s := by simp only [takeoverDone, h]

theorem takeoverDone_ends (ht : (roleAt s g).taking = some old) (hd : (roleAt s g).dropAfter = false) (hm : migTouches s old = false) :
    takeoverDone s g = raise (sweepEnded s g old) Ev.takeoverDone g 0 := by
  have hm' : migTouches (passTo s ((roleAt s g).takeAt + 4160)) old = false := hm
  simp only [takeoverDone, ht, hd, hm']
  rfl

theorem swept_frame : Frame [] [.clock, .assoc] s (swept s g old) :=
  Frame.trans (.set_tick (by decide) .refl) ((sweep_sweeping _).frame.mono (List.nil_subset _) (by decide))

theorem sweepEnded_frame : Frame [K.takeovers g] [.clock, .assoc, .fabric] s (sweepEnded s g old) :=
  .inc (by simp) (.set_fab (by decide) (.set_fab (by decide) (swept_frame.mono (by simp) (by decide))))

theorem sweepEnded_tick : (sweepEnded s g old).tick.clock = max s.tick.clock ((roleAt s g).takeAt + 4160) := by
  have h : (sweepEnded s g old).tick = (passTo s ((roleAt s g).takeAt + 4160)).tick := (sweep_sweeping _).frame.2 .clock (by decide)
  rw [h]
  rfl

theorem sweepEnded_role : roleAt (sweepEnded s g old) g = { roleAt s g with st := 3, taking := none, dropAfter := false } :=
  roleAt_setRole_same { swept s g old with fab := { (swept s g old).fab with halted := false } } g _

theorem sweepEnded_role_ne (h : k ≠ g) : roleAt (sweepEnded s g old) k = roleAt s k := by
  refine (roleAt_setRole_ne { swept s g old with fab := { (swept s g old).fab with halted := false } } _ h.symm).trans ?_
  change tget role0 (swept s g old).fab.roles k = _
  rw [swept_frame.2 .fabric (by decide), roleAt]

theorem sweepEnded_counts : Counts s (sweepEnded s g old) (K.takeovers g) 1 := Counts.of_inc (swept_frame.1 _ (by simp))

end

/-- Settles O39: the resolution of a role epoch, the settings, the preferred start, the switchover and the end of a sweep. -/
theorem roles : Obligations.Roles := by
  refine ⟨?_, ?_, ?_, ?_, ?_, ?_, ?_, ?_, ?_, ?_, ?_, ?_, ?_⟩
  · intro m g e w s hm hentry hp he hd hst htaking
    have hrole := received_same.roleAt (t := received s m) (s := s) (g := g)
    have hstay : demote (received s m) g = received s m := demote_standby (by rwa [hrole]) (by rwa [hrole])
    refine runs_done (congrArg (done s) ((resolveRx_of hm (by decide) hentry hp).trans
      (resolve_later (show 0 < epochAhead (received s m) g e by rw [epochAhead_received]; exact hd) he))) ?_
    rw [hstay, rd_settled, roleAt_settled, roleMoved_role, hrole]
    refine ⟨roleMoved_epoch, rfl, ?_, Frame.settled ((received_frame.mono (by simp) (by decide)).trans (roleMoved_frame.mono (by simp) (by decide)))⟩
    rw [resolvedRole, hst]
    rfl
  · intro m g e w s hm hentry hp he hd hactive
    have hrole := received_same.roleAt (t := received s m) (s := s) (g := g)
    obtain ⟨hdemoted, hhalted, hlock, hpending, hframe⟩ := demote_active_leaves (s := received s m) (g := g) (by rwa [hrole])
    refine runs_done (congrArg (done s) ((resolveRx_of hm (by decide) hentry hp).trans
      (resolve_later (show 0 < epochAhead (received s m) g e by rw [epochAhead_received]; exact hd) he))) ?_
    rw [rd_settled, roleAt_settled, roleMoved_role, hdemoted]
    refine ⟨roleMoved_epoch, rfl, rfl, hhalted, fun hpair => hlock ?_, ?_, ?_⟩
    · rwa [received_same.rolePair]
    · have hg := entryOf_lt hentry
      exact Pending.settled (Pending.wr (by simp only [K.roleEpoch]; omega) (Pending.of_regs rfl hpending))
    · exact EvFrame.settled (((received_frame.toEv.mono (by simp) (by decide)).trans (hframe.mono (by simp) (by decide))).trans
        (roleMoved_frame.toEv.mono (by simp) (by decide)))
  · intro m g a b s hm hentry hp ha hnode hb
    have hrole := received_same.roleAt (t := received s m) (s := s) (g := g)
    have hresolve : resolveRx s m Msg.takeover = resolve (received s m) g (roleEpochOf (received s m) g) (some a) m.src := by
      rw [resolveRx_of hm (by decide) hentry hp, received_same.roleEpochOf, wordNode, if_pos ha]
    obtain ⟨hnode', hframe⟩ := resolve_same_leaves (s := received s m) (g := g) (src := m.src) (a := a) (b := b) (by rwa [hrole])
      (by rwa [received_same.nodeId])
    have hepoch : rd (resolve (received s m) g (roleEpochOf (received s m) g) (some a) m.src) (K.roleEpoch g) = rd s (K.roleEpoch g) :=
      (hframe.1 _ (by simp)).trans received_same.roleEpochOf
    refine runs_done (congrArg (done s) hresolve) ?_
    rw [roleAt_settled, rd_settled]
    refine ⟨hnode', hepoch, Frame.settled ?_⟩
    · exact (received_frame.mono (by simp) (by decide)).trans (hframe.mono (by simp) (by decide))
  · intro m g e w o s hm hentry hp he hd hroute
    have hearlier : epochAhead (received s m) g e < 0 := by
      rw [epochAhead_received]
      exact hd
    have hroute' : routeTo (received s m) (msgVer Msg.takeover) m.src = some o := received_same.routeTo.trans hroute
    have hresolve : resolveRx s m Msg.stale = fabSend (received s m) Msg.takeover m.src (roleGroup (received s m) g)
        (roleEpochOf (received s m) g) (roleWords s g) := by
      rw [resolveRx_of hm (by decide) hentry hp, resolve_earlier hearlier, roleWords_received, roleSend]
    obtain ⟨a, hout, htyp, hdst, hpl⟩ := fabSend_out (grp := roleGroup (received s m) g) (ep := roleEpochOf (received s m) g)
      (pl := roleWords s g) hroute'
    refine runs_done (congrArg (done s) hresolve) ⟨⟨a, ?_, htyp, hdst, hpl⟩, Frame.settled ?_⟩
    · exact hout
    · exact (received_frame.mono (by simp) (by decide)).trans ((fabSend_frame hroute').mono (by simp) (by decide))
  · intro r g v s hg hv hb hen hok hadm
    have hmode : bits v 29 28 = 1 ∨ bits v 29 28 = 2 := by
      simp only [roleCtrlOk, Bool.and_eq_true, Bool.or_eq_true, beq_iff_eq, mode_roleCtrlKept] at hok
      tauto
    refine runs_answered (exec_roleCtrlWrite hv) hadm (roleCtrlEff_enables hmode hen hb hok) fun x => ?_
    have hkept (k : Nat) : rd (roleEnabled s g (roleCtrlKept v)) k = rd (roleCtrlSet s g (roleCtrlKept v)) k := rd_of_regs roleEnabled_regs k
    rw [rd_answered, hkept, rd_answered, hkept, roleCtrlSet_ctrl, roleCtrlSet_epoch hg, roleAt_answered, roleEnabled_role]
    exact ⟨rfl, rfl, rfl, rfl, rfl,
      .answered (by decide) (.set_fab (by decide) (roleCtrlSet_frame.mono (List.Subset.refl _) (by decide)))⟩
  · intro r g v s hg hv hb hmode hen hadm
    exact runs_answered (exec_roleCtrlWrite hv) hadm (roleCtrlEff_enabled hmode hen hb) fun x => ⟨rfl, .answered (by decide) .refl⟩
  · intro r g v s hg hv hmode hb hen hadm
    obtain ⟨-, -, hhalted, hlock⟩ := roleOff_reads (s := s) hg
    have hrole := roleCtrlSet_role (s := s) (v := roleCtrlKept v) hg
    have hfab := roleCtrlSet_fab (s := s) (g := g) (v := roleCtrlKept v)
    refine runs_answered (exec_roleCtrlWrite hv) hadm (roleCtrlEff_off hmode hen hb) fun x => ?_
    rw [rd_answered, rd_answered, roleCtrlSet_ctrl, roleCtrlSet_epoch hg, roleAt_answered, hrole]
    exact ⟨rfl, rfl, rfl, rfl, (congrArg FabSt.halted hfab).trans hhalted, fun hp => (congrArg FabSt.lock hfab).trans (hlock hp), .answered (by decide) (roleCtrlSet_frame.mono (List.Subset.refl _) (by decide))⟩
  · intro r g v s hg hv hmode hb hen hadm
    exact runs_answered (exec_roleCtrlWrite hv) hadm (roleCtrlEff_stores hmode hen hb) fun x =>
      ⟨rfl, wr_roleCtrl, .answered (by decide) (.wr (by simp) .refl)⟩
  · intro r g v s hg hv hmode hadm
    exact runs_answered (exec_roleCtrlWrite hv) hadm (roleCtrlEff_reserved hmode) fun x => ⟨rfl, .answered (by decide) .refl⟩
  · intro g s hg hen hask hst htaking hheard hsince hblocked hbusy hfree
    have hrole := roleAt_setRole_same (wr s (K.roleEpoch g) ((roleEpochOf s g + 1) % 2 ^ 32)) g
      { roleAt s g with st := 3, node := some (nodeId s), heard := true }
    have hepoch := preferred_epoch (s := s) (g := g)
    refine runs_done (exec_rolePreferActiveTimeout hg ⟨hen, hask, hst, htaking, hheard, hsince, hblocked, hfree⟩ hbusy)
      ⟨congrArg RoleSt.st hrole, congrArg RoleSt.node hrole, rd_settled .. |>.trans hepoch, fun hpair => ?_, ?_⟩
    · change (s.fab.lock || rolePair s g) = true
      rw [hpair, Bool.or_true]
    · exact Frame.settled (.set_fab (by decide) (.set_fab (by decide) (.wr (by simp) .refl)))
  · intro r g v s hg hv hactive hnone hok hadm
    refine runs_answered (exec_roleSwitchArm hv) hadm (roleSwitchEff_arms hactive hnone hv hok) fun x => ⟨rfl, ?_, ?_⟩
    · rw [rd_answered, rd_wr_same]
    · exact .answered (by decide) (.wr (by simp) .refl)
  · intro r g v s hg hactive hadm
    exact runs_answered rfl hadm (roleSwitchEff_standby hactive) fun x => ⟨rfl, .answered (by decide) .refl⟩
  · intro g old s hg htaking hothers hold hdrop hmig
    have hdone := takeoverDone_ends htaking hdrop hmig
    have hkept (k : Nat) (hk : k ≠ g) : roleAt (takeoverDone s g) k = roleAt s k := by
      rw [hdone, roleAt_raise (by decide), sweepEnded_role_ne hk]
    have hrun : exec .takeoverDone s = done s (raise (sweepEnded s g old) Ev.takeoverDone g 0) := by
      refine congrArg (done s) ((forNat_at (f := fun g s => takeoverDone s g) hg (fun k hk hne => takeoverDone_idle (hothers k hk hne)) fun k hk hne => ?_).trans hdone)
      exact takeoverDone_idle (by rw [hkept k hne]; exact hothers k hk hne)
    have hassoc : (raise (sweepEnded s g old) Ev.takeoverDone g 0).assoc = (swept s g old).assoc := raise_assoc _ _ _ _ (by decide)
    have hrole : roleAt (raise (sweepEnded s g old) Ev.takeoverDone g 0) g = { roleAt s g with st := 3, taking := none, dropAfter := false } := by
      rw [roleAt_raise (by decide), sweepEnded_role]
    refine runs_done hrun ⟨?_, congrArg RoleSt.st hrole, congrArg RoleSt.taking hrole, ?_, ?_, ?_, fun h hh hn => ?_, fun h hn => ?_, ?_⟩
    · exact (congrArg TickSt.clock (raise_tick _ _ _ _ (by decide))).trans sweepEnded_tick
    · exact congrArg FabSt.halted (raise_fab _ _ _ _ (by decide))
    · exact sweepEnded_counts.of_rd (rd_raise _ _ _ _ _ (by decide) (eventKey_of_page (by simp only [K.takeovers]; omega)))
    · exact Pending.settled (raise_sets_pending _ _ _ _ (by decide))
    · have hsa : saAt (raise (sweepEnded s g old) Ev.takeoverDone g 0) h = sweptSa s h :=
        (saAt_congr hassoc h).trans (saAt_sweep_moved (s := passTo s ((roleAt s g).takeAt + 4160)) hold hn hh)
      change (saAt (raise (sweepEnded s g old) Ev.takeoverDone g 0) h).node = _ ∧ (saAt (raise (sweepEnded s g old) Ev.takeoverDone g 0) h).epoch = _ ∧
        (saAt (raise (sweepEnded s g old) Ev.takeoverDone g 0) h).pn = _
      rw [hsa]
      exact sweptSa_fields
    · exact (saAt_congr hassoc h).trans (saAt_sweep_kept (s := passTo s ((roleAt s g).takeAt + 4160)) hn)
    · exact EvFrame.settled (.raise (by decide) sweepEnded_frame.toEv)

end Sys2Proof.Machine

/-! A loop alarm that meets an OTU4 group in test (R79, R108, R265). -/

namespace Sys2Proof.Machine

section
variable {s t : State} {i : Instr} {k : Nat}

/-- What a register reads after a command. -/
def readAfter (i : Instr) (s : State) (k : Nat) : Option Nat :=
  match exec i s with
  | .next t => some (rd t k)
  | _ => none

theorem readAfter_of_next (h : exec i s = .next t) : readAfter i s k = some (rd t k) := by rw [readAfter, h]

/-- A ZEROISE whose frame does not name OTN_EVENTS leaves it as it read. -/
theorem ZeroiseFrame.otnEvents_same {ks : List Nat} {ps : List Part} {n : Nat} (h : ZeroiseFrame ks ps s t) (hn : n < 8)
    (hks : K.otnEvents n ∉ ks) : rd t (K.otnEvents n) = rd s (K.otnEvents n) := by
  have hz : ∀ n, n < 8 → eventKey (K.otnEvents n) = false ∧ K.otnEvents n ∉ zeroiseKeys := by decide
  obtain ⟨hevent, hown⟩ := hz n hn
  exact h.1 _ hevent (fun j => otnEvents_not_mem_squelchKeys n j) hown hks

end

/-- Group 0 is an OTU4 in test, loop 0 is ARMED, and the device has main power. -/
def loopArmedInTest : State :=
  { otu4InTest with regs := (K.loopState 0, 2) :: otu4InTest.regs, onyx := { otu4InTest.onyx with main := true } }

theorem loopWrites_loopArmedInTest : loopWrites loopArmedInTest = loopArmedInTest := rfl

/-- Refutes O47 in its clause of a loop's alarm with main power: the ZEROISE that it asserts takes the lanes of an OTU4 group in test
from state 7 to state 1 (R79), which sets the sticky LOS of both sides in OTN_EVENTS (R108), a register that the clause's frame does not
name. -/
theorem not_tamperDomain : ¬ Obligations.TamperDomain := by
  intro h
  obtain ⟨-, -, -, -, -, -, -, -, -, -, -, halarm, -⟩ := h
  obtain ⟨t, ht, -, -, -, -, -, -, -, -, -, -, hframe⟩ :=
    halarm 0 2 loopArmedInTest loopArmedInTest (by decide) (by decide) loopWrites_loopArmedInTest.symm (by decide) (by decide) rfl (by decide) rfl
  have hkept := hframe.otnEvents_same (n := 0) (by decide) (by decide)
  have hbefore : rd loopArmedInTest (K.otnEvents 0) = 0 := by decide
  have hafter : readAfter (.tamperLoopAlarm [(0, 2)]) loopArmedInTest (K.otnEvents 0) = some 0x101 := by decide +kernel
  rw [readAfter_of_next ht, hkept, hbefore] at hafter
  cases hafter

end Sys2Proof.Machine

/-! A transition whose ZEROISE meets an OTU4 group in test (R79, R108, R287). -/

namespace Sys2Proof.Machine

/-- Group 0 is an OTU4 in test, and the device is in state OWNED. -/
def ownedInTest : State := { otu4InTest with life := { otu4InTest.life with state := Lc.owned } }

/-- Refutes O48 in its clause of LC_TO_RETURNED: the ZEROISE of its first step takes the lanes of an OTU4 group in test from state 7 to
state 1 (R79), which sets the sticky LOS of both sides in OTN_EVENTS (R108), a register that the clause's frame does not name. -/
theorem not_lifeAndDebug : ¬ Obligations.LifeAndDebug := by
  intro h
  obtain ⟨-, -, htransition, -⟩ := h
  have hg : Admitted ownedInTest spiRequest K.lcRequest true := by decide +kernel
  obtain ⟨t, ht, -, -, -, -, -, -, hframe⟩ :=
    htransition (.lcToReturned spiRequest) spiRequest Lc.returned ownedInTest (List.mem_cons_self ..) rfl (by decide) rfl (by decide) (by decide) rfl
      (by decide) (by decide) rfl hg
  have hkept := hframe.otnEvents_same (n := 0) (by decide) (by decide)
  have hbefore : rd ownedInTest (K.otnEvents 0) = 0 := by decide
  have hafter : readAfter (.lcToReturned spiRequest) ownedInTest (K.otnEvents 0) = some 0x101 := by decide +kernel
  rw [readAfter_of_next ht, hkept, hbefore] at hafter
  cases hafter

end Sys2Proof.Machine

/-! A pending ZEROISE of start-up's step 3 that meets an OTU4 group in test (R79, R108, R267). -/

namespace Sys2Proof.Machine

/-- Group 0 is an OTU4 in test, start-up has ended its step 2, and a ZEROISE pends. -/
def pendingInTest : State :=
  { otu4InTest with regs := (K.onyxStatus, 4) :: otu4InTest.regs, boot := { otu4InTest.boot with steps := [1, 2] } }

/-- Refutes O51 in its clause of PENDING_ZEROISE_RUN: the ZEROISE of step 3 takes the lanes of an OTU4 group in test from state 7 to
state 1 (R79), which sets the sticky LOS of both sides in OTN_EVENTS (R108), a register that the clause's frame does not name. -/
theorem not_powerUp : ¬ Obligations.PowerUp := by
  intro h
  obtain ⟨-, -, -, -, hpending, -⟩ := h
  have hjobs : startedJobs pendingInTest = [] := by decide
  obtain ⟨t, ht, -, -, -, -, -, -, -, hframe⟩ :=
    hpending pendingInTest (by decide) (by decide) (by decide) (by decide) rfl (by rw [hjobs]; intro j hj; cases hj)
  have hkept := hframe.otnEvents_same (n := 0) (by decide) (by decide)
  have hbefore : rd pendingInTest (K.otnEvents 0) = 0 := by decide
  have hafter : readAfter .pendingZeroiseRun pendingInTest (K.otnEvents 0) = some 0x101 := by decide +kernel
  rw [readAfter_of_next ht, hkept, hbefore] at hafter
  cases hafter

end Sys2Proof.Machine

/-! Firmware update, arming and HOLD (R438–R452). -/

namespace Sys2Proof.Machine

/-- What every step keeps holds at the end. -/
theorem forList_keeps {α σ : Type} {f : α → σ → σ} {P : σ → Prop} (hkeep : ∀ b y, P y → P (f b y)) (l : List α) {x : σ} (h : P x) :
    P (forList l f x) := by
  induction l generalizing x with
  | nil => exact h
  | cons b l ih => exact ih (hkeep b x h)

/-- What the step at one element of a list makes true, where every step keeps it. -/
theorem forList_reaches {α σ : Type} {f : α → σ → σ} {P : σ → Prop} {a : α} {l : List α} (ha : a ∈ l)
    (hkeep : ∀ b y, P y → P (f b y)) (hset : ∀ y, P (f a y)) (x : σ) : P (forList l f x) := by
  induction l generalizing x with
  | nil => cases ha
  | cons b l ih =>
    rcases List.mem_cons.mp ha with rfl | hmem
    · exact forList_keeps hkeep l (hset x)
    · exact ih hmem _

section
variable {s t u : State} {r : Req} {n v a m off len line reg first : Nat} {b f : Bool} {ks : List Nat} {ps : List Part} {i : Image}

/-! Reads of the staged image (R310, R438). -/

theorem memRead_good_frame (h : s.hbm.dirty.length < cacheLines) : Frame [] [.perf] s (memRead s reg line .good).1 := by
  unfold memRead
  extract_lets s1 miss s2 s3
  have hcounted : Frame [] [.perf] s s2 := .perfAdd (by decide) (.perfAdd (by decide) .refl)
  have hroom : s3 = s2 := if_neg (by rw [hcounted.2 .hbm (by decide), decide_eq_false (Nat.not_le.mpr h)]; exact Bool.false_ne_true)
  rw [hroom]
  split <;> exact hcounted

theorem readLines_frame (h : s.hbm.dirty.length < cacheLines) (n : Nat) : Frame [] [.perf] s (readLines s reg first n).1 := by
  induction n with
  | zero => exact .refl
  | succ n ih =>
    have hroom : (readLines s reg first n).1.hbm.dirty.length < cacheLines := by rw [ih.2 .hbm (by decide)]; exact h
    have hread := ih.trans (memRead_good_frame (reg := reg) (line := first + n) hroom)
    simp only [readLines]
    split <;> exact hread

theorem readBytes_frame (h : s.hbm.dirty.length < cacheLines) : Frame [] [.perf] s (readBytes s reg off len).1 := readLines_frame h _

theorem readStaged_frame (h : s.hbm.dirty.length < cacheLines) : Frame [] [.perf] s (readStaged s a b).1 := by
  unfold readStaged
  extract_lets r off
  split
  · exact .refl
  · have hhead := readBytes_frame (reg := r) (off := off) (len := 20) h
    rcases hx : readBytes s r off 20 with ⟨x, y⟩
    rw [hx] at hhead
    cases y with
    | none => exact hhead
    | some y =>
      dsimp only
      split
      · exact hhead
      · exact hhead.trans (readBytes_frame (by rw [hhead.2 .hbm (by decide)]; exact h))

/-! The update (R440). -/

theorem svcIssue_frame {k : SvcKind} : Frame ks [.jasper] s (svcIssue s k n) := by
  have hset : ∀ {u l}, Frame ks [.jasper] s u → Frame ks [.jasper] s (setSvc u l) := .set_jasper (by simp)
  have henter : ∀ {u}, Frame ks [.jasper] s u → Frame ks [.jasper] s (svcEnter u) := fun h => .ite (fun _ => h) (fun _ => .set_jasper (by simp) h)
  unfold svcIssue
  extract_lets s1
  have hdrop : Frame ks [.jasper] s s1 := hset .refl
  refine .ite (fun _ => hdrop) (fun _ => ?_)
  split
  · exact .ite (fun _ => hset hdrop) (fun _ => henter (hset hdrop))
  · exact henter (hset hdrop)

/-- An update of image `n` under way, its jobs not yet issued. -/
def updateTaken (s : State) (n : Nat) (b : Bool) : State :=
  wr { s with boot := { s.boot with update := some (n, b, rd s K.fwUpdateSrc) } } K.fwUpdateStatus (2 ^ 31)

theorem updateTaken_frame : Frame [K.fwUpdateStatus] [.boot] s (updateTaken s n b) := .wr (by decide) (.set_boot (by decide) .refl)

/-- A write of FW_UPDATE_OP for an image that does not run, with no update under way. -/
theorem fwUpdateEff_takes (hn : n < 2) (hd : flashDown s = false) (hu : s.boot.update = none) (hf : s.boot.fw = true → rd s K.fwImage ≠ n) :
    ∃ j, fwUpdateEff (1 + n + 128 * b2n b) s = okR (svcIssue (updateTaken s n b) .update j) := by
  have hrun : (s.boot.fw && rd s K.fwImage == n) = false := by
    by_cases h : s.boot.fw = true
    · simp [h, hf h]
    · simp [h]
  have hv : (1 + n + 128 * b2n b = 1 ∨ 1 + n + 128 * b2n b = 2 ∨ 1 + n + 128 * b2n b = 0x81 ∨ 1 + n + 128 * b2n b = 0x82) ∧
      (1 + n + 128 * b2n b) % 4 - 1 = n ∧ bit (1 + n + 128 * b2n b) 7 = b := by
    have hall : ∀ n < 2, ∀ b, (1 + n + 128 * b2n b = 1 ∨ 1 + n + 128 * b2n b = 2 ∨ 1 + n + 128 * b2n b = 0x81 ∨ 1 + n + 128 * b2n b = 0x82) ∧
        (1 + n + 128 * b2n b) % 4 - 1 = n ∧ bit (1 + n + 128 * b2n b) 7 = b := by decide
    exact hall n hn b
  obtain ⟨hcode, hwhich, hprefer⟩ := hv
  unfold fwUpdateEff
  rw [if_neg (not_not.mpr hcode), hwhich, hprefer]
  exact ⟨_, if_neg (by simp [hd, hu, hrun])⟩

/-- The update of the state is no longer under way. -/
def updateOver (s : State) : State := { s with boot := { s.boot with update := none } }

/-- What the end of an update makes of a staged image that was read. -/
def updateEnd (s : State) (n : Nat) (b : Bool) (i : Image) (f : Bool) : State :=
  if imageVerdict s i ≠ 1 then wr s K.fwUpdateStatus 2
  else if f = false then wr (setImage s n imageGone) K.fwUpdateStatus 4
  else wr (if b = true then wr (setImage s n i) K.fwPrefer n else setImage s n i) K.fwUpdateStatus 1

theorem exec_fwUpdateDone_unread (hu : s.boot.update = some (n, b, a)) (hb : svcBusy s .update = false) :
    exec (.fwUpdateDone false f) s = done s (wr (updateOver s) K.fwUpdateStatus 3) := by
  change execFwUpdateDone false f s = _
  unfold execFwUpdateDone
  simp only [hu, hb, readStaged, Bool.not_false, Bool.true_or, if_true, Bool.false_eq_true, if_false]
  rfl

theorem exec_fwUpdateDone_read (hu : s.boot.update = some (n, b, a)) (hb : svcBusy s .update = false)
    (hr : (readStaged (updateOver s) a true).2 = some i) :
    exec (.fwUpdateDone true f) s = done s (updateEnd (readStaged (updateOver s) a true).1 n b i f) := by
  change execFwUpdateDone true f s = _
  unfold execFwUpdateDone
  rcases hx : readStaged (updateOver s) a true with ⟨x, y⟩
  rw [hx] at hr
  obtain rfl : y = some i := hr
  simp only [hu, hb, show readStaged { s with boot := { s.boot with update := none } } a true = (x, some i) from hx, Bool.false_eq_true, if_false,
    updateEnd]
  cases f <;> rfl

theorem setImage_frame : Frame ks [.boot] s (setImage s n i) := .ite (fun _ => .set_boot (by simp) .refl) (fun _ => .set_boot (by simp) .refl)

theorem setImage_reads (hn : n < 2) : imageOf (setImage s n i) n = i ∧ imageOf (setImage s n i) (1 - n) = imageOf s (1 - n) ∧
    (setImage s n i).boot.update = s.boot.update := by
  obtain rfl | rfl : n = 0 ∨ n = 1 := by omega
  · exact ⟨rfl, rfl, rfl⟩
  · exact ⟨rfl, rfl, rfl⟩

theorem imageVerdict_congr (h : rd t K.fwSvn = rd s K.fwSvn) : imageVerdict t i = imageVerdict s i := by rw [imageVerdict, h, imageVerdict]

theorem imageOf_congr (h : t.boot = s.boot) : imageOf t n = imageOf s n := by rw [imageOf, h, imageOf]

/-- The end of an update whose image passes and is written. -/
theorem updateEnd_written (hn : n < 2) (hi : imageVerdict s i = 1) : rd (updateEnd s n b i true) K.fwUpdateStatus = 1 ∧
    rd (updateEnd s n b i true) K.fwPrefer = (if b = true then n else rd s K.fwPrefer) ∧ imageOf (updateEnd s n b i true) n = i ∧
    imageOf (updateEnd s n b i true) (1 - n) = imageOf s (1 - n) ∧ (updateEnd s n b i true).boot.update = s.boot.update ∧
    Frame [K.fwUpdateStatus, K.fwPrefer] [.boot] s (updateEnd s n b i true) := by
  have he : updateEnd s n b i true = wr (if b = true then wr (setImage s n i) K.fwPrefer n else setImage s n i) K.fwUpdateStatus 1 := by
    simp [updateEnd, hi]
  obtain ⟨hsame, hother, hupdate⟩ := setImage_reads (s := s) (i := i) hn
  have hprefer : Frame [K.fwUpdateStatus, K.fwPrefer] [] (setImage s n i) (if b = true then wr (setImage s n i) K.fwPrefer n else setImage s n i) :=
    .ite (fun _ => .wr (by decide) .refl) (fun _ => .refl)
  have hboot := (Frame.wr (v := 1) (k := K.fwUpdateStatus) (by decide) hprefer).2 .boot (by decide)
  rw [he]
  refine ⟨rd_wr_same .., ?_, (imageOf_congr hboot).trans hsame, (imageOf_congr hboot).trans hother, (congrArg Boot.update hboot).trans hupdate,
    .wr (by decide) (setImage_frame.trans (hprefer.mono (by simp) (by simp)))⟩
  rw [rd_wr_ne _ _ (by decide)]
  split
  · exact rd_wr_same ..
  · exact setImage_frame.1 _ (List.not_mem_nil)

/-- The end of an update whose write of the flash failed. -/
theorem updateEnd_failed (hn : n < 2) (hi : imageVerdict s i = 1) : rd (updateEnd s n b i false) K.fwUpdateStatus = 4 ∧
    rd (updateEnd s n b i false) K.fwPrefer = rd s K.fwPrefer ∧ imageOf (updateEnd s n b i false) n = imageGone ∧
    imageOf (updateEnd s n b i false) (1 - n) = imageOf s (1 - n) ∧ (updateEnd s n b i false).boot.update = s.boot.update ∧
    Frame [K.fwUpdateStatus, K.fwPrefer] [.boot] s (updateEnd s n b i false) := by
  have he : updateEnd s n b i false = wr (setImage s n imageGone) K.fwUpdateStatus 4 := by simp [updateEnd, hi]
  obtain ⟨hsame, hother, hupdate⟩ := setImage_reads (s := s) (i := imageGone) hn
  rw [he]
  exact ⟨rd_wr_same .., (rd_wr_ne _ _ (by decide)).trans (setImage_frame.1 _ List.not_mem_nil), hsame, hother, hupdate, .wr (by decide) setImage_frame⟩

/-- The end of an update whose image does not pass. -/
theorem updateEnd_refused (hi : imageVerdict s i ≠ 1) : updateEnd s n b i f = wr s K.fwUpdateStatus 2 := if_pos hi

/-! The lanes of HOLD (R448, R449). -/

theorem laneState_of_zero (h : rd s (K.laneStatus m) = 0) : laneState s m = Lane.off := by rw [laneState, rdField, h]; rfl

/-- The registers that lanes and ports write as they are switched off. -/
def offKeys : List Nat :=
  [K.clkLocked] ++ (List.range 64).map K.laneStatus ++ (List.range 64).map K.rxSnr ++ (List.range 32).map K.pcsStatus

theorem clkLocked_mem_offKeys : K.clkLocked ∈ offKeys := by simp [offKeys]
theorem laneStatus_mem_offKeys (h : m < 64) : K.laneStatus m ∈ offKeys := by
  have : K.laneStatus m ∈ (List.range 64).map K.laneStatus := List.mem_map_of_mem (List.mem_range.mpr h)
  simp [offKeys, this]
theorem rxSnr_mem_offKeys (h : m < 64) : K.rxSnr m ∈ offKeys := by
  have : K.rxSnr m ∈ (List.range 64).map K.rxSnr := List.mem_map_of_mem (List.mem_range.mpr h)
  simp [offKeys, this]
theorem pcsStatus_mem_offKeys (h : m < 32) : K.pcsStatus m ∈ offKeys := by
  have : K.pcsStatus m ∈ (List.range 32).map K.pcsStatus := List.mem_map_of_mem (List.mem_range.mpr h)
  simp [offKeys, this]
theorem mem_groupLanes_lt (hn : n < 8) (hm : m ∈ groupLanes n) : m < 64 := by
  simp only [groupLanes, List.mem_append, List.mem_map, List.mem_range] at hm
  omega

theorem mem_usedGroups : n ∈ usedGroups s ↔ n < 8 ∧ mode s n ≠ 0 := by simp [usedGroups]

theorem laneStop_frame (hm : m < 64) : Frame offKeys [.lines] s (laneStop s m) :=
  .set_lines (by decide) (.wr (rxSnr_mem_offKeys hm) (.wr (laneStatus_mem_offKeys hm) .refl))

theorem rd_laneStop : rd (laneStop s m) (K.laneStatus m) = 0 :=
  (rd_wr_ne (wr s (K.laneStatus m) 0) 0 (by simp only [K.laneStatus, K.rxSnr]; omega)).trans (rd_wr_same ..)

/-- A lane that is off stays off where another one is switched off. -/
theorem laneStop_keeps_off {j : Nat} (h : rd s (K.laneStatus m) = 0) : rd (laneStop s j) (K.laneStatus m) = 0 := by
  by_cases hj : K.laneStatus m = K.laneStatus j
  · rw [hj]
    exact rd_laneStop
  · exact ((rd_wr_ne (wr s (K.laneStatus j) 0) 0 (by simp only [K.laneStatus, K.rxSnr]; omega)).trans (rd_wr_ne _ _ (Ne.symm hj))).trans h

/-- What follows the lanes in a group that stops: it writes no lane. -/
def framersOff (n : Nat) (s : State) : State :=
  wrBit (wrBit (pcsStop (framingStop s n) n) K.clkLocked (2 + n) false) K.clkLocked (10 + n) false

/-- The lanes, the PCS and the framer of one group stop. -/
def groupOff (n : Nat) (s : State) : State := framersOff n (forList (groupLanes n) (fun m s => laneStop s m) s)

theorem lanesOff_eq : lanesOff s = forList (usedGroups s) groupOff s := rfl

theorem pcsStop_frame (h : ∀ i < 4, K.pcsStatus (4 * n + i) ∈ ks) : Frame ks ps s (pcsStop s n) :=
  forNat_rel (R := Frame ks ps) (fun _ => .refl) Frame.trans 4 (fun i hi _ => .wr (h i hi) .refl) s

theorem framersOff_frame (hn : n < 8) : Frame offKeys [.lines] s (framersOff n s) :=
  .wrBit clkLocked_mem_offKeys (.wrBit clkLocked_mem_offKeys (.trans (.set_lines (by decide) .refl)
    (pcsStop_frame fun _ _ => pcsStatus_mem_offKeys (by omega))))

theorem rd_framersOff (hm : m < 64) : rd (framersOff n s) (K.laneStatus m) = rd s (K.laneStatus m) := by
  rw [framersOff, rd_wrBit_ne _ _ _ (by simp only [K.laneStatus, K.clkLocked]; omega), rd_wrBit_ne _ _ _ (by simp only [K.laneStatus, K.clkLocked]; omega)]
  exact (pcsStop_frame (ks := (List.range 4).map fun i => K.pcsStatus (4 * n + i)) (ps := [])
    fun i hi => List.mem_map_of_mem (f := fun i => K.pcsStatus (4 * n + i)) (List.mem_range.mpr hi)).1 _ (by simp [K.laneStatus, K.pcsStatus]; omega)

theorem groupOff_frame (hn : n < 8) : Frame offKeys [.lines] s (groupOff n s) :=
  .trans (forList_rel (R := Frame offKeys [.lines]) (fun _ => .refl) Frame.trans _ (fun _ hm _ => laneStop_frame (mem_groupLanes_lt hn hm)) s) (framersOff_frame hn)

theorem lanesOff_frame : Frame offKeys [.lines] s (lanesOff s) :=
  forList_rel (R := Frame offKeys [.lines]) (fun _ => .refl) Frame.trans _ (fun _ hn _ => groupOff_frame (mem_usedGroups.mp hn).1) s

/-- Every lane of a group in use is off. -/
theorem lanesOff_reads (hn : n < 8) (hmode : mode s n ≠ 0) (hm : m ∈ groupLanes n) : rd (lanesOff s) (K.laneStatus m) = 0 := by
  have hlt := mem_groupLanes_lt hn hm
  rw [lanesOff_eq]
  refine forList_reaches (P := fun x => rd x (K.laneStatus m) = 0) (mem_usedGroups.mpr ⟨hn, hmode⟩) (fun j x h => ?_) (fun x => ?_) s
  · rw [groupOff, rd_framersOff hlt]
    exact forList_keeps (f := fun m s => laneStop s m) (P := fun x => rd x (K.laneStatus m) = 0) (fun _ _ h => laneStop_keeps_off h) _ h
  · rw [groupOff, rd_framersOff hlt]
    exact forList_reaches (f := fun m s => laneStop s m) (P := fun x => rd x (K.laneStatus m) = 0) hm (fun _ _ h => laneStop_keeps_off h) (fun _ => rd_laneStop) x

theorem healthClear_frame {i : Nat} : EvFrame ((List.range 4).map K.health) [] s (healthClear s i) := by
  have hmem : ∀ g < 4, K.health g ∈ (List.range 4).map K.health := fun g hg => List.mem_map_of_mem (List.mem_range.mpr hg)
  refine forNat_rel (R := EvFrame ((List.range 4).map K.health) []) (fun _ => .refl) EvFrame.trans 4 (fun g hg _ => .ite (fun _ => ?_) (fun _ => .refl)) s
  exact setHealth_frame.mono (List.cons_subset.mpr ⟨hmem g hg, List.nil_subset _⟩) (List.Subset.refl _)

/-- The lanes are off and PORTS_OK is clear: HOLD is entered. -/
def holdEntered (s : State) : State := healthClear (lanesOff (wr s K.holdStatus 2)) 5

theorem holdEntered_frame : EvFrame (K.holdStatus :: offKeys ++ (List.range 4).map K.health) [.lines] s (holdEntered s) := by
  have hoff : Frame offKeys [.lines] (wr s K.holdStatus 2) (lanesOff (wr s K.holdStatus 2)) := lanesOff_frame
  refine .trans (.trans (.wr (by simp) .refl) (hoff.toEv.mono ?_ (List.Subset.refl _))) (healthClear_frame.mono ?_ (List.nil_subset _))
  · exact List.Subset.trans (List.subset_cons_self ..) (List.subset_append_left ..)
  · exact List.subset_append_right ..

theorem holdEntered_status : rd (holdEntered s) K.holdStatus = 2 := by
  have hhealth : rd (holdEntered s) K.holdStatus = rd (lanesOff (wr s K.holdStatus 2)) K.holdStatus := healthClear_frame.1 _ (by decide) (by decide)
  have hoff : rd (lanesOff (wr s K.holdStatus 2)) K.holdStatus = rd (wr s K.holdStatus 2) K.holdStatus := lanesOff_frame.1 _ (by decide)
  rw [hhealth, hoff, rd_wr_same]

theorem eventKey_laneStatus (hm : m < 64) : eventKey (K.laneStatus m) = false := eventKey_of_page (by simp only [K.laneStatus]; omega)

/-- Every lane of a group in use is off in HOLD. -/
theorem holdEntered_lane (hn : n < 8) (hmode : mode s n ≠ 0) (hm : m ∈ groupLanes n) : rd (holdEntered s) (K.laneStatus m) = 0 := by
  have hlt := mem_groupLanes_lt hn hm
  have hhealth : rd (holdEntered s) (K.laneStatus m) = rd (lanesOff (wr s K.holdStatus 2)) (K.laneStatus m) :=
    healthClear_frame.1 _ (eventKey_laneStatus hlt) (by simp [K.laneStatus, K.health]; omega)
  have hkept : mode (wr s K.holdStatus 2) n = mode s n := rd_wr_ne _ _ (by simp only [K.groupMode, K.holdStatus]; omega)
  rw [hhealth, lanesOff_reads hn (by rw [hkept]; exact hmode) hm]

theorem exec_holdEntryDone (hh : rd s K.holdStatus = 1) (hx : s.boot.exitNext = false) :
    exec .holdEntryDone s = done s (raise (holdEntered s) Ev.holdEntered 0 0) := by
  have hkept : (raise (holdEntered s) Ev.holdEntered 0 0).boot = s.boot :=
    (raise_boot _ _ _ _ (by decide)).trans (holdEntered_frame.2 .boot (by decide))
  change execHoldEntryDone s = _
  unfold execHoldEntryDone
  rw [if_neg (not_not.mpr hh)]
  exact congrArg (done s) (if_neg (by rw [show (raise (healthClear (lanesOff (wr s K.holdStatus 2)) 5) Ev.holdEntered 0 0).boot = s.boot from hkept, hx]; decide))

end

end Sys2Proof.Machine

/-! The lanes restart after HOLD; O52 (R438–R452). -/

namespace Sys2Proof.Machine

section
variable {s t u : State} {r : Req} {n v m : Nat}

/-- The registers that HOLD_EXIT_DONE writes. -/
def onKeys : List Nat :=
  [K.holdStatus] ++ (List.range 64).map K.laneStatus ++ (List.range 64).map K.rxSnr ++ (List.range 8).map K.otnEvents

theorem laneStatus_mem_onKeys (h : m < 64) : K.laneStatus m ∈ onKeys := by
  have : K.laneStatus m ∈ (List.range 64).map K.laneStatus := List.mem_map_of_mem (List.mem_range.mpr h)
  simp [onKeys, this]
theorem rxSnr_mem_onKeys (h : m < 64) : K.rxSnr m ∈ onKeys := by
  have : K.rxSnr m ∈ (List.range 64).map K.rxSnr := List.mem_map_of_mem (List.mem_range.mpr h)
  simp [onKeys, this]
theorem otnEvents_mem_onKeys (h : n < 8) : K.otnEvents n ∈ onKeys := by
  have : K.otnEvents n ∈ (List.range 8).map K.otnEvents := List.mem_map_of_mem (List.mem_range.mpr h)
  simp [onKeys, this]

/-- A lane's registers are none of HOLD itself. -/
def laneKeys (m : Nat) : List Nat := [K.laneStatus m, K.rxSnr m, K.otnEvents (laneIdx m / 4)]

theorem laneKeys_subset (h : m < 64) : laneKeys m ⊆ onKeys :=
  List.cons_subset.mpr ⟨laneStatus_mem_onKeys h, List.cons_subset.mpr ⟨rxSnr_mem_onKeys h,
    List.cons_subset.mpr ⟨otnEvents_mem_onKeys (by unfold laneIdx; omega), List.nil_subset _⟩⟩⟩

theorem setLaneState_laneKeys : Frame (laneKeys m) [.lines] s (setLaneState s m v) := setLaneState_frame.mono (by simp [laneKeys]) (List.nil_subset _)

theorem laneStart_frame : Frame (laneKeys m) [.lines] s (laneStart s m) := by
  unfold laneStart
  refine .ite (fun _ => .refl) (fun _ => .ite (fun _ => .set_lines (by decide) .refl) (fun _ => .ite (fun _ => setLaneState_laneKeys) (fun _ => ?_)))
  exact .wr (by simp [laneKeys]) (.trans (.wrBit (by simp [laneKeys]) .refl) setLaneState_laneKeys)

theorem holdStatus_not_mem_laneKeys (h : m < 64) : K.holdStatus ∉ laneKeys m := by
  simp only [laneKeys, K.laneStatus, K.rxSnr, K.otnEvents, K.holdStatus, laneIdx, List.mem_cons, List.not_mem_nil, or_false]
  omega

/-- What each lane's restart leaves, all of them leave. -/
theorem lanesOn_rel {R : State → State → Prop} (hr : ∀ x, R x x) (ht : ∀ {x y z}, R x y → R y z → R x z)
    (hf : ∀ m < 64, ∀ x, R x (laneStart x m)) : R s (lanesOn s) :=
  forList_rel hr ht _ (fun _ hn x => forList_rel hr ht _ (fun _ hm y => hf _ (mem_groupLanes_lt (mem_usedGroups.mp hn).1 hm) y) x) s

theorem lanesOn_frame : Frame onKeys [.lines] s (lanesOn s) :=
  lanesOn_rel (R := Frame onKeys [.lines]) (fun _ => .refl) Frame.trans fun _ hm _ => laneStart_frame.mono (laneKeys_subset hm) (List.Subset.refl _)

theorem lanesOn_holdStatus : rd (lanesOn s) K.holdStatus = rd s K.holdStatus :=
  lanesOn_rel (R := fun x y => rd y K.holdStatus = rd x K.holdStatus) (fun _ => rfl) (fun h h' => h'.trans h)
    fun _ hm _ => laneStart_frame.1 _ (holdStatus_not_mem_laneKeys hm)

/-! Arming (R445–R447). -/

theorem rdBit_wrField_ne {k hi lo x i : Nat} (h : lo ≤ hi + 1) (hd : i < lo ∨ hi < i) : rdBit (wrField s k hi lo x) k i = rdBit s k i := by
  rw [rdBit, wrField, rd_wr_same, bit_setBits_ne _ _ _ _ _ h hd, rdBit]

theorem armCtrlEff_arms (h : armRefusal s = 0) : armCtrlEff 1 s = okR (wrField s K.armStatus 2 1 1) := by simp [armCtrlEff, h]

theorem armCtrlEff_refuses (h : armRefusal s ≠ 0) : armCtrlEff 1 s =
    abortR (raise (wrField s K.armStatus 15 8 (armRefusal s)) Ev.armRefused (armRefusal s) 0) .wrongState := by simp [armCtrlEff, h]

theorem armRefusal_lt : armRefusal s < 256 := by
  unfold armRefusal
  split_ifs <;> decide

theorem exec_disarmDrained (hd : s.boot.drain = true) (hq : s.dp.inq = []) : exec .disarmDrained s =
    done s (wrBit { s with tick := { s.tick with clock := s.dp.flying.foldl (fun t f => Nat.max t f.leaves) s.tick.clock }
                           dp := { s.dp with flying := [] }
                           boot := { s.boot with drain := false } } K.armStatus 0 false) := by
  have hempty : (s.dp.inq.all fun q => q.2.isEmpty) = true := by rw [hq]; rfl
  change execDisarmDrained s = _
  unfold execDisarmDrained
  rw [if_pos (by rw [hd, hempty]; rfl)]


theorem le_lastLeaves (l : List Fly) (c : Nat) : c ≤ l.foldl (fun t f => Nat.max t f.leaves) c := by
  induction l generalizing c with
  | nil => exact le_rfl
  | cons f l ih => exact (Nat.le_max_left c f.leaves).trans (ih _)

/-! Flash settings and HOLD_CTRL (R440, R441, R448). -/

theorem fwPreferEff_stores (hv : v ≤ 1) (hd : flashDown s = false) : fwPreferEff v s = okR (wr s K.fwPrefer v) := by
  simp [fwPreferEff, hd, Nat.not_lt.mpr hv]

theorem fwSvnEff_commits (hd : flashDown s = false) (hf : s.boot.fw = true) (hv : v = (imageOf s (rd s K.fwImage)).svn) :
    fwSvnEff v s = okR (wr s K.fwSvn (max v (rd s K.fwSvn))) := by
  simp [fwSvnEff, hd, hf, hv]

theorem holdCtrlEff_enters (hr : holdRefused s = false) (hs : rd s K.holdStatus = 0) :
    holdCtrlEff 1 s = okR (wr (wr s K.holdCtrl 1) K.holdStatus 1) := by simp [holdCtrlEff, hr, hs]

theorem holdCtrlEff_refuses (hr : holdRefused s = true) : holdCtrlEff 1 s = abortR s .wrongState := by simp [holdCtrlEff, hr]

theorem holdCtrlEff_exits (hs : rd s K.holdStatus = 2) : holdCtrlEff 0 s = okR (wr (wr s K.holdCtrl 0) K.holdStatus 3) := by simp [holdCtrlEff, hs]

theorem exec_holdExitDone (hs : rd s K.holdStatus = 3) : exec .holdExitDone s = done s (raise (lanesOn (wr s K.holdStatus 0)) Ev.holdExited 0 0) :=
  congrArg (done s) (if_pos hs)

theorem exec_fwUpdate {i : Instr} {b : Bool} (hi : (i, n) ∈ [(Instr.fwUpdateA r b, 0), (.fwUpdateB r b, 1)]) :
    n < 2 ∧ exec i s = done s (access s r K.fwUpdateOp true (fwUpdateEff (1 + n + 128 * b2n b))) := by
  simp only [List.mem_cons, Prod.mk.injEq, List.not_mem_nil, or_false] at hi
  obtain ⟨rfl, rfl⟩ | ⟨rfl, rfl⟩ := hi
  · exact ⟨by decide, rfl⟩
  · exact ⟨by decide, rfl⟩

end

/-- Settles O52: each update step, arm and HOLD step by its own effect; the lanes of HOLD by the keys each of them writes. -/
theorem updateArmHold : Obligations.UpdateArmHold := by
  refine ⟨?_, ?_, ?_, ?_, ?_, ?_, ?_, ?_, ?_, ?_, ?_, ?_, ?_, ?_, ?_, ?_⟩
  · intro i r b n s hi hd hu hf hg
    obtain ⟨hn, hx⟩ := exec_fwUpdate (s := s) hi
    obtain ⟨j, he⟩ := fwUpdateEff_takes hn hd hu hf (b := b)
    have hissued : Frame [] [.jasper] (updateTaken s n b) (svcIssue (updateTaken s n b) .update j) := svcIssue_frame
    refine runs_answered hx hg he fun x => ⟨rfl, ?_, ?_, ?_⟩
    · exact congrArg Boot.update (hissued.2 .boot (by decide))
    · exact (hissued.1 _ List.not_mem_nil).trans (rd_wr_same ..)
    · exact .answered (by decide) ((updateTaken_frame.mono (List.Subset.refl _) (by decide)).trans (hissued.mono (by decide) (by decide)))
  · intro s hb
    refine runs_done (t := s) ?_ (.settled .refl)
    change execFwUpdateDone true true s = _
    unfold execFwUpdateDone
    split
    · rfl
    · rw [if_pos hb]
  · intro n b a i f s hu hb hn hr hroom
    refine runs_done (exec_fwUpdateDone_read hu hb hr) ?_
    have hread : Frame [] [.perf] (updateOver s) (readStaged (updateOver s) a true).1 := readStaged_frame hroom
    generalize (readStaged (updateOver s) a true).1 = x at hread
    have hv : imageVerdict x i = imageVerdict s i := imageVerdict_congr (hread.1 _ List.not_mem_nil)
    have hp : rd x K.fwPrefer = rd s K.fwPrefer := hread.1 _ List.not_mem_nil
    have hboot : x.boot = (updateOver s).boot := hread.2 .boot (by decide)
    have himage : ∀ m, imageOf x m = imageOf s m := fun m => imageOf_congr (s := updateOver s) hboot
    have hover : x.boot.update = none := congrArg Boot.update hboot
    have hs : Frame [K.fwUpdateStatus, K.fwPrefer] [.boot, .perf] s x :=
      .trans (.set_boot (by decide) .refl) (hread.mono (List.nil_subset _) (by decide))
    by_cases hi : imageVerdict s i = 1
    · cases f with
      | true =>
        obtain ⟨hst, hpref, him, hoth, hup, hfr⟩ := updateEnd_written (b := b) hn (hv.trans hi)
        refine ⟨hup.trans hover, hoth.trans (himage _), fun _ _ => ⟨hst, him, hpref.trans (by rw [hp])⟩, fun _ h => absurd h (by decide), fun h => absurd hi h,
          .settled (hs.trans (hfr.mono (List.Subset.refl _) (by decide)))⟩
      | false =>
        obtain ⟨hst, hpref, him, hoth, hup, hfr⟩ := updateEnd_failed (b := b) hn (hv.trans hi)
        refine ⟨hup.trans hover, hoth.trans (himage _), fun _ h => absurd h (by decide), fun _ _ => ⟨hst, him, hpref.trans hp⟩, fun h => absurd hi h,
          .settled (hs.trans (hfr.mono (List.Subset.refl _) (by decide)))⟩
    · rw [updateEnd_refused (by rw [hv]; exact hi)]
      refine ⟨hover, himage _, fun h => absurd h hi, fun h => absurd h hi, fun _ => ⟨by rw [rd_settled, rd_wr_same], himage _, ?_⟩, .settled (.wr (by decide) hs)⟩
      rw [rd_settled, rd_wr_ne _ _ (by decide), hp]
  · intro n b a s hu hb
    exact runs_done (exec_fwUpdateDone_unread hu hb) ⟨rfl, by rw [rd_settled, rd_wr_same], rfl, rfl, .settled (.wr (by decide) (.set_boot (by decide) .refl))⟩
  · intro r v s hv hd hg
    have hx : exec (.fwPreferWrite r v) s = done s (access s r K.fwPrefer true (fwPreferEff v)) := by
      change execFwPreferWrite r v s = _
      rw [execFwPreferWrite, Nat.mod_eq_of_lt (by omega)]
    exact runs_answered hx hg (fwPreferEff_stores hv hd) fun x => ⟨rfl, rd_wr_same .., .answered (by decide) (.wr (by decide) .refl)⟩
  · intro r v s hv hd hf hsvn hg
    have hx : exec (.fwSvnCommit r v) s = done s (access s r K.fwSvnCommit true (fwSvnEff v)) := by
      change execFwSvnCommit r v s = _
      rw [execFwSvnCommit, Nat.mod_eq_of_lt hv]
    exact runs_answered hx hg (fwSvnEff_commits hd hf hsvn) fun x => ⟨rfl, rd_wr_same .., .answered (by decide) (.wr (by decide) .refl)⟩
  · intro r s ha hg
    refine runs_answered rfl hg (armCtrlEff_arms ha) fun x => ⟨rfl, ?_, ?_, .answered (by decide) (.wrField (by decide) .refl)⟩
    · rw [rdField_answered, rdField_wrField_same (by decide)]
      rfl
    · rw [rdBit_answered, rdBit_wrField_ne (by decide) (by decide)]
  · intro r s ha hg
    refine runs_answered rfl hg (armCtrlEff_refuses ha) fun x => ⟨rfl, ?_, ?_, .answered (.raise (by decide) (.wrField (by decide) .refl))⟩
    · rw [rdField_answered, rdField, rd_raise _ _ _ _ _ (by decide) (by decide), ← rdField, rdField_wrField_same (by decide)]
      exact Nat.mod_eq_of_lt armRefusal_lt
    · exact .answered (raise_sets_pending _ _ _ _ (by decide))
  · intro s h
    simp [armRefusal, h]
  · intro r s hg
    refine runs_answered rfl hg (show armCtrlEff 2 s = okR (wrField s K.armStatus 2 1 2) from rfl) fun x =>
      ⟨rfl, ?_, .answered (by decide) (.wrField (by decide) .refl)⟩
    rw [rdField_answered, rdField_wrField_same (by decide)]
    rfl
  · intro s hd hq
    refine runs_done (exec_disarmDrained hd hq) ⟨?_, rfl, rfl, le_lastLeaves _ _, ?_⟩
    · exact rdBit_wrBit_same ..
    · refine .settled (.wrBit (by decide) ?_)
      exact Frame.of_parts rfl fun p hp => by cases p <;> simp_all [Part.same]
  · intro r s hr hs hg
    refine runs_answered rfl hg (holdCtrlEff_enters hr hs) fun x => ⟨rfl, ?_, ?_, .answered (by decide) (.wr (by decide) (.wr (by decide) .refl))⟩
    · rw [rd_answered, rd_wr_same]
    · rw [rd_answered, rd_wr_ne _ _ (by decide), rd_wr_same]
  · intro r s hr hg
    exact runs_answered rfl hg (holdCtrlEff_refuses hr) fun x => ⟨rfl, .answered (by decide) .refl⟩
  · intro r s hs hg
    refine runs_answered rfl hg (holdCtrlEff_exits hs) fun x => ⟨rfl, ?_, ?_, .answered (by decide) (.wr (by decide) (.wr (by decide) .refl))⟩
    · rw [rd_answered, rd_wr_same]
    · rw [rd_answered, rd_wr_ne _ _ (by decide), rd_wr_same]
  · intro s hh hx
    refine runs_done (exec_holdEntryDone hh hx) ⟨?_, .settled (raise_sets_pending _ _ _ _ (by decide)), ?_, .settled (.raise (by decide) holdEntered_frame)⟩
    · rw [rd_settled, rd_raise _ _ _ _ _ (by decide) (by decide), holdEntered_status]
    · intro n hn hmode m hm
      refine laneState_of_zero ?_
      rw [rd_settled, rd_raise _ _ _ _ _ (by decide) (eventKey_laneStatus (mem_groupLanes_lt hn hm)), holdEntered_lane hn hmode hm]
  · intro s hs
    refine runs_done (exec_holdExitDone hs) ⟨?_, .settled (raise_sets_pending _ _ _ _ (by decide)), .settled (.raise (by decide) ?_)⟩
    · rw [rd_settled, rd_raise _ _ _ _ _ (by decide) (by decide), lanesOn_holdStatus, rd_wr_same]
    · exact .trans (.wr (by decide) .refl) lanesOn_frame.toEv

end Sys2Proof.Machine

/-! What a raise, a touched session and an event's read leave of the channels (R304, R430, R433). -/

namespace Sys2Proof.Machine

/-- The channels are the same but for their subscriptions, none of which began, and so is every register from member 9 on. -/
structure Offers (s t : State) : Prop where
  offered : ∀ c, ∃ y, chan t c = { chan s c with sub := y } ∧ ((chan s c).sub = none → y = none)
  later : ∀ k, 9 ≤ k % 256 → rd t k = rd s k

section
variable {s t u : State} {c c' k n v src a b : Nat} {r : Req}

theorem Offers.refl : Offers s s := ⟨fun c => ⟨(chan s c).sub, rfl, id⟩, fun _ _ => rfl⟩

theorem Offers.trans (h : Offers s t) (h' : Offers t u) : Offers s u where
  offered c := by
    obtain ⟨y, hy, hnone⟩ := h.offered c
    obtain ⟨y', hy', hnone'⟩ := h'.offered c
    exact ⟨y', by rw [hy', hy], fun h0 => hnone' (by rw [hy]; exact hnone h0)⟩
  later k hk := (h'.later k hk).trans (h.later k hk)

theorem Offers.of_parts (hc : t.chans = s.chans) (hr : ∀ k, 9 ≤ k % 256 → rd t k = rd s k) : Offers s t :=
  ⟨fun c => ⟨(chan s c).sub, by rw [Machine.chan, hc, ← Machine.chan], id⟩, hr⟩

theorem Offers.wr (hk : k % 256 < 9) : Offers s (wr s k v) :=
  .of_parts rfl fun j hj => rd_wr_ne _ _ (by rintro rfl; omega)

theorem Offers.setSub {x : Sub} (h : (chan s c).sub ≠ none) : Offers s (setChan s c { chan s c with sub := some x }) where
  offered c' := by
    rw [chan_setChan]
    split
    · next hc => exact ⟨some x, by rw [hc], fun h0 => absurd h0 (hc ▸ h)⟩
    · exact ⟨_, rfl, id⟩
  later _ _ := rfl

theorem offerStep_offers : Offers s (offerStep s c src a b).1 := by
  unfold offerStep
  split
  · exact .refl
  · next sub hsub =>
    have hne : (chan s c).sub ≠ none := by rw [hsub]; exact Option.some_ne_none _
    split
    · exact .refl
    · dsimp only
      split
      · exact .setSub hne
      · exact (Offers.setSub hne).trans (.wr (by decide))

theorem lossRaise_offers : Offers s (lossRaise s n k).1 := by
  unfold lossRaise
  split
  · exact .of_parts rfl fun _ _ => rfl
  · exact .refl

theorem fifoStep_offers : Offers s (fifoStep s n src a b).1 := by
  unfold fifoStep
  generalize (if n = 1 then s.sec else s.ns).put src (tickNo s) a b = x
  have hfifo : Offers s (setFifo s n x.1) := by
    unfold setFifo
    split
    · exact .of_parts rfl fun _ _ => rfl
    · exact .of_parts rfl fun _ _ => rfl
  have hlost : lostKey n % 256 < 9 := by
    unfold lostKey
    split <;> decide
  dsimp only
  split
  · exact (hfifo.trans (.wr hlost)).trans lossRaise_offers
  · exact hfifo

/-- The records of a raise, in both FIFOs. -/
theorem records_offers : Offers s (if srcSecure src then (s, ([] : List Raise)) else fifoStep s 0 src a b).1 := by
  split
  · exact .refl
  · exact fifoStep_offers

theorem raiseOne_offers {r : Raise} : Offers s (raiseOne s r).1 := by
  obtain ⟨src, a, b⟩ := r
  unfold raiseOne
  dsimp only
  have hperf : ∀ x : State, Offers x (perfAdd x (384 + src) 1) := fun x =>
    .of_parts ((Frame.perfAdd (ks := []) (ps := [.perf]) (by decide) .refl).2 .chans (by decide)) fun k _ => rd_of_regs perfAdd_regs k
  have hpending : K.evtPending (src / 32) % 256 < 9 := by simp only [K.evtPending]; omega
  have hbase : Offers s (perfAdd (wrBit s (K.evtPending (src / 32)) (src % 32) true) (384 + src) 1) :=
    (Offers.wr hpending).trans (hperf _)
  generalize perfAdd (wrBit s (K.evtPending (src / 32)) (src % 32) true) (384 + src) 1 = x at hbase ⊢
  have hrec : Offers x (if rdBit x (K.evtRecordEn (src / 32)) (src % 32) = true then
      ((fifoStep (if srcSecure src then (x, ([] : List Raise)) else fifoStep x 0 src a b).1 1 src a b).1,
        (if srcSecure src then (x, ([] : List Raise)) else fifoStep x 0 src a b).2 ++
        (fifoStep (if srcSecure src then (x, ([] : List Raise)) else fifoStep x 0 src a b).1 1 src a b).2) else (x, [])).1 := by
    split
    · exact records_offers.trans fifoStep_offers
    · exact .refl
  generalize (if rdBit x (K.evtRecordEn (src / 32)) (src % 32) = true then _ else _) = y at hrec ⊢
  split
  · exact (((hbase.trans hrec).trans offerStep_offers).trans offerStep_offers).trans offerStep_offers
  · exact hbase.trans hrec

theorem raiseAll_offers (n : Nat) (l : List Raise) (x : State) : Offers x (raiseAll n l x) := by
  induction n generalizing l x with
  | zero => exact .refl
  | succ n ih =>
    cases l with
    | nil => exact .refl
    | cons r l =>
      have hrest := ih ((raiseOne x r).2 ++ l) (raiseOne x r).1
      rw [raiseAll]
      exact raiseOne_offers.trans hrest

theorem raise_offers : Offers s (raise s src a b) := raiseAll_offers _ _ _

theorem incFirst_offers (hk : k % 256 < 9) : Offers s (incFirst s k src a b) := by
  have hinc : Offers s (inc s k 1) := .wr hk
  have hfired : Offers (inc s k 1) { inc s k 1 with fired := tset 0 (inc s k 1).fired k 1 } := .of_parts rfl fun _ _ => rfl
  unfold incFirst raiseFirst
  split
  · exact (hinc.trans hfired).trans raise_offers
  · exact hinc

theorem clkFall_offers : Offers s (clkFall s n) := by
  unfold clkFall
  split
  · exact ((Offers.wr (by decide)).trans (.wr (by decide))).trans raise_offers
  · exact .refl

/-- What stands on the channel besides its subscription is the same. -/
theorem Offers.kept (h : Offers s t) (c : Nat) : (chan t c).queue = (chan s c).queue ∧ (chan t c).held = (chan s c).held ∧
    (chan t c).sess = (chan s c).sess ∧ attach t c = attach s c := by
  obtain ⟨y, hy, -⟩ := h.offered c
  rw [attach, hy]
  exact ⟨rfl, rfl, rfl, rfl⟩

theorem Offers.error (h : Offers s t) (c : Nat) : (chan t c).error = (chan s c).error := by
  obtain ⟨y, hy, -⟩ := h.offered c
  rw [hy]

/-- No subscription begins. -/
theorem Offers.noSub (h : Offers s t) (h0 : (chan s c).sub = none) : (chan t c).sub = none := by
  obtain ⟨y, hy, hnone⟩ := h.offered c
  rw [hy]
  exact hnone h0

/-! A session's time renewed (R304). -/

/-- Only the session of a channel can change. -/
theorem chan_touch : ∃ y, chan (touch s r) c = { chan s c with sess := y } := by
  unfold touch
  split
  · exact ⟨_, rfl⟩
  · split
    · rw [chan_setChan]
      split
      · next hc => exact ⟨_, by rw [hc]⟩
      · exact ⟨_, rfl⟩
    · exact ⟨_, rfl⟩

theorem attach_touch : attach (touch s r) c = attach s c := by
  obtain ⟨y, hy⟩ := chan_touch (s := s) (r := r) (c := c)
  rw [attach, hy, attach]

theorem queue_touch : (chan (touch s r) c).queue = (chan s c).queue ∧ (chan (touch s r) c).held = (chan s c).held ∧
    (chan (touch s r) c).sub = (chan s c).sub := by
  obtain ⟨y, hy⟩ := chan_touch (s := s) (r := r) (c := c)
  rw [hy]
  exact ⟨rfl, rfl, rfl⟩

/-- Without a session there is none to renew. -/
theorem sess_touch_none (h : (chan s c).sess = none) : (chan (touch s r) c).sess = none := by
  unfold touch
  split
  · exact h
  · next x hx =>
    split
    · rw [chan_setChan]
      split
      · next hc =>
        rw [← hc, hx] at h
        cases h
      · exact h
    · exact h

/-- The state that an admitted access answers with, its channels as a touched session leaves them. -/
def touched (s u : State) (r : Req) (code : Code) (ws : List Word) : State := settled s (replied (touch u r) code ws)

theorem runs_touched {i : Instr} {w : Bool} {eff : State → Res} {P : State → Prop} {code : Code} {ws : List Word}
    (h : exec i s = done s (access s r k w eff)) (hg : Admitted s r k w) (he : eff s = ⟨u, code, ws⟩) (hp : P (touched s u r code ws)) : Runs i s P :=
  runs_access h hg (by rw [he]; exact hp)

theorem chan_touched {code : Code} {ws : List Word} : chan (touched s u r code ws) c = chan (touch u r) c := rfl
theorem attach_touched {code : Code} {ws : List Word} : attach (touched s u r code ws) c = attach u c := attach_touch (s := u)
theorem touch_frame : Frame [] [.chans] u (touch u r) := .touch (by decide) .refl
theorem Frame.touched {ks : List Nat} {ps : List Part} {code : Code} {ws : List Word} (hp : Part.chans ∈ ps) (h : Frame ks ps s u) :
    Frame ks ps s (touched s u r code ws) := (h.touch hp).replied.settled
theorem rd_touched {code : Code} {ws : List Word} : rd (Machine.touched s u r code ws) k = rd u k := touch_frame.1 k List.not_mem_nil

end

end Sys2Proof.Machine

/-! Operations of KDA: reads, writes and windows (R418, R426). -/

namespace Sys2Proof.Machine

section
variable {s t u : State} {r : Req} {c k n v : Nat} {w : Bool} {ws : List Nat}

theorem length_toBytes (n v : Nat) : (toBytes n v).length = n := by
  induction n with
  | zero => rfl
  | succ n ih => rw [toBytes, List.length_cons, ih]

/-! The checks of an access see of a channel its session alone. -/

theorem secure_of_sess (hl : t.life = s.life) (hs : SessSame s t) : secure t r = secure s r := by simp only [secure, hl, hs _]

theorem inProfile_of_regs (hr : t.regs = s.regs) : inProfile t r = inProfile s r := by simp only [inProfile, rdBit, rd_of_regs hr]

theorem gate_congr (hr : t.regs = s.regs) (hb : t.boot = s.boot) (hl : t.life = s.life) (hs : SessSame s t) : gate t r k w = gate s r k w := by
  have hhw : hwServed t r k = hwServed s r k := by simp only [hwServed, hb, rdBit, rd_of_regs hr]
  simp only [gate, hb, hl, hhw, secure_of_sess hl hs, inProfile_of_regs hr, rdBit, rd_of_regs hr]
  rfl

theorem Admitted.of_chans (hg : Admitted s r k w) {x : Tbl Chan} (hs : SessSame s { s with chans := x }) : Admitted { s with chans := x } r k w :=
  (gate_congr (s := s) (t := { s with chans := x }) rfl rfl rfl hs).trans hg

/-! A write of words (R418). -/

theorem exec_kdaWrite_value (h : decVal (typeOf k) ws = some v) :
    exec (.kdaWrite r k ws) s = doneReset s (access s r k true (dictWrite r k v)) := by
  rw [exec_kdaWrite, kdaWrite]
  simp only [h]
  rfl

theorem exec_kdaWrite_misfit (h : decVal (typeOf k) ws = none) :
    exec (.kdaWrite r k ws) s = doneReset s (access s r k true (fun s => abortR s .typeErr)) := by
  rw [exec_kdaWrite, kdaWrite]
  simp only [h]
  rfl

/-- A write whose words are none of its type's number aborts. -/
theorem runs_kdaWrite_misfit (h : decVal (typeOf k) ws = none) (hg : Admitted s r k true) :
    Runs (.kdaWrite r k ws) s (fun t => t.reply.code = .typeErr ∧ Frame [] [.chans] s t) := by
  refine runs_doneReset (exec_kdaWrite_misfit h) ?_
  rw [access_pass hg]
  exact ⟨rfl, (Frame.refl.touch (by decide)).replied.settledReset⟩

/-! Windows (R426). -/

theorem opRes_pass {eff : State → Res} (hg : Admitted s r k w) : opRes s r k w eff = some (eff s) := by simp [opRes, hg]

theorem kdaWinRead_misfit (h : n = 0 ∨ 250 < n ∨ isWindow k = false) :
    exec (.kdaWindowRead r k n) s = done s (access s r k false (fun s => abortR s .typeErr)) := by
  rw [exec_kdaWindowRead, kdaWinRead, if_pos (by simpa [winMax] using h)]
  rfl

theorem kdaWinWrite_misfit (h : ws = [] ∨ 250 < ws.length ∨ isWindow k = false) :
    exec (.kdaWindowWrite r k ws) s = done s (access s r k true (fun s => abortR s .typeErr)) := by
  rw [exec_kdaWindowWrite, kdaWinWrite, if_pos (by simpa [winMax] using h)]
  rfl

theorem kdaWinRead_fits (h1 : n ≠ 0) (h250 : n ≤ 250) (hk : isWindow k = true) : kdaWinRead r k n s = winRead r k n s [] :=
  if_neg (by simp [winMax, h1, h250, hk])

theorem kdaWinWrite_fits (h1 : ws ≠ []) (h250 : ws.length ≤ 250) (hk : isWindow k = true) : kdaWinWrite r k ws s = winWrite r k ws s 0 :=
  if_neg (by simp [winMax, h1, h250, hk])

/-- A word read from a window. -/
theorem winRead_word {acc : List Nat} (hg : Admitted s r k false) (hd : dictRead r k s = okV u [v]) :
    winRead r k (n + 1) s acc = winRead r k n u (acc ++ [v]) := by
  rw [winRead, opRes_pass hg, hd]
  rfl

/-- A word written to a window. -/
theorem winWrite_word {x m : Nat} (hg : Admitted s r k true) (hd : dictWrite r k x s = okR u) :
    winWrite r k (x :: ws) s m = winWrite r k ws u (m + 1) := by
  rw [winWrite, opRes_pass hg, hd]
  rfl

/-! The attachment's window (R303). -/

theorem dictRead_attachData : dictRead r K.attachData s = attachDataRead r s := rfl

theorem dictWrite_attachData (hv : v < 2 ^ 32) : dictWrite r K.attachData v s = attachDataEff r v s := by
  have hw : widthOf K.attachData = 32 := by decide
  change writeD r 0xD010 2 K.attachData (v % 2 ^ widthOf K.attachData) s = _
  rw [hw, Nat.mod_eq_of_lt hv]
  rfl

theorem setAttach_sess {a : Attach} : SessSame s (setAttach s c a) := fun c' => by
  rw [setAttach, chan_setChan]
  split
  · next h => rw [h]
  · rfl

theorem attach_setAttach_same {a : Attach} : attach (setAttach s c a) c = a := by rw [attach, setAttach, chan_setChan_same]

theorem Frame.setAttach {ks : List Nat} {ps : List Part} {a : Attach} (hp : Part.chans ∈ ps) (h : Frame ks ps s u) : Frame ks ps s (setAttach u c a) :=
  .setChan hp h

/-- A word read of the attachment's answer. -/
theorem attachDataRead_word (hc : r.ch < 4) : attachDataRead r s = okV (setAttach s r.ch { attach s r.ch with ptr := (attach s r.ch).ptr + 1 })
    [nth (bytesToWords 256 (attach s r.ch).outBuf) (attach s r.ch).ptr] := if_neg (by omega)

/-- A word written into the attachment's buffer. -/
theorem attachDataEff_word (hc : r.ch < 4) (hroom : (attach s r.ch).inBuf.length < 1024) :
    attachDataEff r v s = okR (setAttach s r.ch { attach s r.ch with inBuf := (attach s r.ch).inBuf ++ toBytes 4 v }) := if_neg (by omega)

/-- `n` words of the attachment's answer. -/
theorem winRead_attachData (hc : r.ch < 4) (n : Nat) : ∀ (s : State) (acc : List Nat), Admitted s r K.attachData false →
    ∃ u, winRead r K.attachData n s acc = some (okV u (acc ++ (List.range n).map fun i =>
        nth (bytesToWords 256 (attach s r.ch).outBuf) ((attach s r.ch).ptr + i))) ∧
      (attach u r.ch).ptr = (attach s r.ch).ptr + n ∧ Frame [] [.chans] s u := by
  induction n with
  | zero => exact fun s acc _ => ⟨s, by simp [winRead], rfl, .refl⟩
  | succ n ih =>
    intro s acc hg
    have hnext : Admitted (setAttach s r.ch { attach s r.ch with ptr := (attach s r.ch).ptr + 1 }) r K.attachData false := hg.of_chans setAttach_sess
    obtain ⟨u, hu, hptr, hframe⟩ := ih _ (acc ++ [nth (bytesToWords 256 (attach s r.ch).outBuf) (attach s r.ch).ptr]) hnext
    rw [attach_setAttach_same] at hu hptr
    refine ⟨u, ?_, hptr.trans (Nat.add_right_comm ..), (Frame.setAttach (by decide) .refl).trans hframe⟩
    rw [winRead_word hg (dictRead_attachData.trans (attachDataRead_word hc)), hu, List.range_succ_eq_map]
    simp [Function.comp_def, Nat.add_assoc, Nat.add_comm 1]

/-- Words into the attachment's buffer. -/
theorem winWrite_attachData (hc : r.ch < 4) (ws : List Nat) : ∀ (s : State) (m : Nat), (∀ w ∈ ws, w < 2 ^ 32) →
    (attach s r.ch).inBuf.length + 4 * ws.length < 1028 → Admitted s r K.attachData true →
    ∃ u, winWrite r K.attachData ws s m = some (okR u) ∧ (attach u r.ch).inBuf = (attach s r.ch).inBuf ++ ws.flatMap (toBytes 4) ∧
      Frame [] [.chans] s u := by
  induction ws with
  | nil => exact fun s m _ _ _ => ⟨s, rfl, by simp, .refl⟩
  | cons w ws ih =>
    intro s m hw hroom hg
    simp only [List.length_cons] at hroom
    have hnext : Admitted (setAttach s r.ch { attach s r.ch with inBuf := (attach s r.ch).inBuf ++ toBytes 4 w }) r K.attachData true :=
      hg.of_chans setAttach_sess
    obtain ⟨u, hu, hbuf, hframe⟩ := ih _ (m + 1) (fun x hx => hw x (List.mem_cons_of_mem _ hx))
      (by rw [attach_setAttach_same, List.length_append, length_toBytes]; omega) hnext
    rw [attach_setAttach_same] at hbuf
    refine ⟨u, ?_, by rw [hbuf, List.flatMap_cons, List.append_assoc], (Frame.setAttach (by decide) .refl).trans hframe⟩
    rw [winWrite_word hg ((dictWrite_attachData (hw w (List.mem_cons_self ..))).trans (attachDataEff_word hc (by omega))), hu]

end

end Sys2Proof.Machine

/-! KDA requests: their frames, what is no request, duplicates, and the reply kept (R417–R423, R476). -/

namespace Sys2Proof.Machine

section
variable {s t u : State} {r : Req} {c k n a q : Nat} {ws : List Nat} {l : List (Nat × Nat × List Nat)}

/-- The channel's queue goes on without its first request. -/
def dequeued (s : State) (c : Nat) (l : List (Nat × Nat × List Word)) : State := setChan s c { chan s c with queue := l }

theorem chan_dequeued : chan (dequeued s c l) c = { chan s c with queue := l } := chan_setChan_same ..

theorem dequeued_frame : Frame [] [.chans] s (dequeued s c l) := .setChan (by decide) .refl

theorem dequeued_sess : SessSame s (dequeued s c l) := fun c' => by
  rw [dequeued, chan_setChan]
  split
  · next h => rw [h]
  · rfl

/-- A request is served. -/
theorem exec_kdaServe {u : Nat} (hn : nextChan s = some c) (hq : (chan s c).queue = (a, u, ws) :: l) :
    exec (.kdaRequest .serve) s = doneReset s (kdaServe (dequeued s c l) c u ws) := by
  change execKdaRequest .serve s = _
  simp only [execKdaRequest, hn, hq]
  rfl

theorem exec_kdaServe_idle (h : ∀ c, c < 4 → (chan s c).queue = []) : exec (.kdaRequest .serve) s = doneReset s s := by
  have hn : nextChan s = none := by simp [nextChan, List.range_succ, h]
  change execKdaRequest .serve s = _
  simp only [execKdaRequest, hn]

/-! Rejected frames (R422, R476). -/

theorem kdaReject_counts (hc : c < 4) (b : Bool) : Counts s (kdaReject s c b) (K.chanRejected c) 1 ∧ EvFrame [K.chanRejected c] [] s (kdaReject s c b) ∧
    (chan (kdaReject s c b) c).queue = (chan s c).queue ∧ (chan (kdaReject s c b) c).held = (chan s c).held ∧
    (chan (kdaReject s c b) c).error = (decide (c = 0) || (chan s c).error) := by
  have hmember : K.chanRejected c % 256 < 9 := by simp only [K.chanRejected]; omega
  have hevent : eventKey (K.chanRejected c) = false := eventKey_of_page (by simp only [K.chanRejected]; omega)
  have hcounted : ∃ u, kdaReject s c b = (if c = 0 then setChan u 0 { chan u 0 with error := true } else u) ∧ Offers s u ∧
      EvFrame [K.chanRejected c] [] s u ∧ Counts s u (K.chanRejected c) 1 := by
    refine ⟨_, rfl, ?_⟩
    cases b with
    | true => exact ⟨incFirst_offers hmember, .incFirst (by simp) (by decide) .refl, (Counts.of_inc rfl).of_rd (rd_incFirst _ _ _ _ _ _ (by decide) hevent)⟩
    | false => exact ⟨.wr hmember, .inc (by simp) .refl, .of_inc rfl⟩
  obtain ⟨u, hu, hoffers, hframe, hcounts⟩ := hcounted
  obtain ⟨hqueue, hheld, -, -⟩ := hoffers.kept c
  have herror := hoffers.error c
  rw [hu]
  split
  · next h0 =>
    subst h0
    rw [chan_setChan_same]
    exact ⟨hcounts, hframe.trans ((Frame.setChan (ks := []) (ps := [.chans]) (by decide) .refl).ev (List.nil_subset _) (by decide)), hqueue, hheld, rfl⟩
  · next h0 => exact ⟨hcounts, hframe, hqueue, hheld, by rw [herror, decide_eq_false h0, Bool.false_or]⟩

theorem kdaServe_notRequest {u : Nat} (h : notRequest ws = true) : kdaServe s c u ws = kdaReject s c true := if_pos h

/-! Requests on SPI (R417, R421, R425). -/

theorem kdaTagged_spi {h : KdaHdr} : kdaTagged 0 h = false := rfl

/-- A request of version 1 on SPI needs no session. -/
theorem kdaServe_spi {u : Nat} (hr : notRequest ws = false) (hv : (kdaHdr ws).ver = 1) : kdaServe s 0 u ws = kdaFresh s 0 u (kdaHdr ws) ws := by
  simp [kdaServe, hr, hv, kdaTagged_spi]

/-- A reply held on SPI. -/
def replyHeld (s : State) (out : List Word) : State := setChan s 0 { chan s 0 with held := some out }

theorem chan_replyHeld {out : List Nat} : chan (replyHeld s out) 0 = { chan s 0 with held := some out } := chan_setChan_same ..

/-- The reply held on SPI again. -/
theorem kdaFresh_again {u : Nat} {h : KdaHdr} (hlast : (chan s 0).last = some h.seq) : kdaFresh s 0 u h ws =
    replyHeld (inc s (K.chanDuplicates 0) 1) (chan s 0).kept := if_pos hlast

theorem kdaFresh_executes {u : Nat} {h : KdaHdr} (hlast : (chan s 0).last ≠ some h.seq) (hform : kdaFormOk 0 h ws = true) :
    kdaFresh s 0 u h ws = kdaExecute s 0 u h ws := by simp [kdaFresh, hlast, hform]

/-- A reply on SPI tells nothing of the channel. -/
theorem kdaReply_spi {h : KdaHdr} {m ops : Nat} {body : List Nat} : kdaReply t 0 h m ops body = kdaReply s 0 h m ops body := rfl

/-- The executed request is the channel's last, its reply kept. -/
def lastKept (y : State) (seq : Nat) (out : List Word) : State := setChan y 0 { chan y 0 with last := some seq, kept := out }

theorem chan_lastKept {out : List Nat} : chan (lastKept s q out) 0 = { chan s 0 with last := some q, kept := out } := chan_setChan_same ..

/-- The executed request is counted, the channel's last, and its reply kept and held. -/
def spiKept (x : State) (r : Req) (seq : Nat) (out : List Word) : State :=
  replyHeld (lastKept (inc (touch x r) (K.chanRequests 0) 1) seq out) out

theorem spiKept_chan (x : State) (r : Req) (q : Nat) (out : List Nat) : (chan (spiKept x r q out) 0).held = some out ∧ (chan (spiKept x r q out) 0).kept = out ∧
    (chan (spiKept x r q out) 0).last = some q ∧ (chan (spiKept x r q out) 0).queue = (chan x 0).queue := by
  obtain ⟨hqueue, -, -⟩ := queue_touch (s := x) (r := r) (c := 0)
  rw [spiKept, chan_replyHeld, chan_lastKept]
  exact ⟨rfl, rfl, rfl, hqueue⟩

theorem spiKept_counts (x : State) (r : Req) (q : Nat) (out : List Nat) : Counts x (spiKept x r q out) (K.chanRequests 0) 1 ∧
    Frame [K.chanRequests 0] [.chans] x (spiKept x r q out) :=
  ⟨(Counts.of_inc (u := touch x r) (touch_frame.1 _ List.not_mem_nil)).of_rd rfl,
    .setChan (by decide) (.setChan (by decide) (.inc (by decide) (.touch (by decide) .refl)))⟩

/-- The operations of a request run, and its reply is kept. -/
theorem kdaExecute_spi {u : Nat} {h : KdaHdr} {ops : List KdaOp} {x : State} {y : Code} {z : List Nat}
    (hops : kdaOps h.ops ((ws.drop h.hlen).take h.len) = some ops) (hrun : kdaRun ⟨0, false, u⟩ ops s h.hlen .ok [] = some (x, y, z))
    (he : x.boot.engine = true) : kdaExecute s 0 u h ws = spiKept x ⟨0, false, u⟩ h.seq (kdaReply s 0 h (codeNum y) h.ops z) := by
  unfold kdaExecute
  rw [hops]
  simp only [kdaTagged_spi, show b2n false = 0 from rfl, Nat.mul_zero, Nat.add_zero, hrun, he]
  rfl

/-! A read of TICK_LENGTH in a frame (R418, R420). -/

/-- A request of one operation: a read of TICK_LENGTH. -/
def tickLengthRead (q : Nat) : List Word := [0x10010000, q * 65536 + 1, 0x10000000 + K.tickLength]

theorem dictRead_tickLength : dictRead r K.tickLength s = okV (rearm s K.tickLength) [rd s K.tickLength % 2 ^ 32] :=
  readPlain_u32 (s := rearm s K.tickLength) (k := K.tickLength) (a := .ro) (by decide) (by decide)

theorem notRequest_tickLengthRead : notRequest (tickLengthRead q) = false := by simp [notRequest, tickLengthRead, nth, bits]

theorem kdaHdr_tickLengthRead (hq : q < 65536) : kdaHdr (tickLengthRead q) = ⟨1, 1, 0, q, 1, 2⟩ := by
  have hseq : bits (q * 65536 + 1) 31 16 = q := by rw [bits]; omega
  have hlen : (q * 65536 + 1) % 2 ^ 16 = 1 := by omega
  simp only [kdaHdr, tickLengthRead, nth, List.getD_cons_zero, List.getD_cons_succ, hseq, hlen]
  rfl

theorem kdaOps_tickLengthRead : kdaOps 1 [0x10000000 + K.tickLength] = some [⟨1, K.tickLength, 0, []⟩] := by decide

/-- It runs: one word of status, one of the value. -/
theorem kdaRun_tickLengthRead (hg : Admitted s r K.tickLength false) : kdaRun r [⟨1, K.tickLength, 0, []⟩] s 2 .ok [] =
    some (rearm s K.tickLength, .ok, [65536, rd s K.tickLength % 2 ^ 32]) := by
  have hop : kdaOp r ⟨1, K.tickLength, 0, []⟩ s = some (okV (rearm s K.tickLength) [rd s K.tickLength % 2 ^ 32]) := by
    change opRes s r K.tickLength false (dictRead r K.tickLength) = _
    rw [opRes_pass hg, dictRead_tickLength]
  have hroom : ¬ kdaRoom < 2 + 1 + kdaResult ⟨1, K.tickLength, 0, []⟩ := by decide
  rw [kdaRun, if_neg (by decide), if_neg hroom, hop]
  simp [kdaRun, kdaStatus, okV, codeNum]

theorem kdaReply_tickLengthRead {v : Nat} (hq : q < 65536) : kdaReply s 0 ⟨1, 1, 0, q, 1, 2⟩ (codeNum .ok) 1 [65536, v] =
    [0x11010000, q * 65536 + 2, 65536, v] := by
  simp [kdaReply, codeNum, Nat.mod_eq_of_lt hq]

end

end Sys2Proof.Machine

/-! SPI and MG, channel resets, subscriptions, record FIFOs and counters read (R423–R433); O53. -/

namespace Sys2Proof.Machine

section
variable {s t u : State} {r : Req} {i : Instr} {c k n v q : Nat} {ws : List Nat} {b : Sub}

/-! SPI (R425). -/

theorem spiBusy_iff : spiBusy s = true ↔ (chan s 0).queue ≠ [] := by simp [spiBusy]

theorem spiBusy_free (h : (chan s 0).queue = []) : spiBusy s = false := by simp [spiBusy, h]

theorem exec_spiWriteRequest_busy {whole : Bool} (he : s.boot.engine = true) (hq : (chan s 0).queue ≠ []) :
    exec (.spiWriteRequest ws whole) s = done s (setChan s 0 { chan s 0 with error := true }) := by
  change execSpiWriteRequest ws whole s = _
  simp [execSpiWriteRequest, he, spiBusy_iff.mpr hq]

theorem exec_spiWriteRequest_cut (he : s.boot.engine = true) (hq : (chan s 0).queue = []) :
    exec (.spiWriteRequest ws false) s = done s (setChan s 0 { chan s 0 with held := none, error := true }) := by
  change execSpiWriteRequest ws false s = _
  simp [execSpiWriteRequest, he, spiBusy_free hq]

theorem exec_spiWriteRequest_taken (he : s.boot.engine = true) (hq : (chan s 0).queue = []) (hr : notRequest ws = false) :
    exec (.spiWriteRequest ws true) s = done s (setChan s 0 { chan s 0 with held := none, error := false, queue := [(s.tick.clock, 0, ws)] }) := by
  change execSpiWriteRequest ws true s = _
  simp [execSpiWriteRequest, he, spiBusy_free hq, hr]

/-- What a whole write that is no request leaves before it is rejected. -/
def spiCleared (s : State) : State := setChan s 0 { chan s 0 with held := none, error := false }

theorem chan_spiCleared : chan (spiCleared s) 0 = { chan s 0 with held := none, error := false } := chan_setChan_same ..

theorem exec_spiWriteRequest_rejected (he : s.boot.engine = true) (hq : (chan s 0).queue = []) (hr : notRequest ws = true) :
    exec (.spiWriteRequest ws true) s = done s (kdaReject (spiCleared s) 0 true) := by
  change execSpiWriteRequest ws true s = _
  simp [execSpiWriteRequest, he, spiBusy_free hq, hr, spiCleared]

theorem exec_spiReadReply : exec (.spiReadReply n) s =
    done s (emit s (.spi ((List.range n).map fun i => ((chan s 0).held.getD []).getD i (2 ^ 32 - 1)))) := rfl

theorem map_getD_range {α : Type} (l : List α) (d : α) : (List.range l.length).map (fun i => l.getD i d) = l :=
  List.ext_getElem (by simp) fun i _ hi => by simp [hi]

/-! Frames on MG ports and the fabric (R423). -/

theorem kdaArrive_open {a : Nat} (hc : c = 1 ∨ c = 2) (he : s.boot.engine = true) (hl : s.life.state ≠ Lc.lost)
    (h0 : rdBit s (K.chanCtrl c) 0 = true) (h1 : rdBit s (K.chanCtrl c) 1 = true) : kdaArrive s c a ws =
      (if notRequest ws = true then kdaReject s c true
       else if 4 ≤ (chan s c).queue.length then incFirst s (K.chanRxDrops c) Ev.kdaQueueFull c 0
       else setChan s c { chan s c with queue := (chan s c).queue ++ [(s.tick.clock, a, ws)] }) := by
  obtain rfl | rfl := hc
  · simp [kdaArrive, he, hl, h0, h1, queueMax]
  · simp [kdaArrive, he, hl, h0, h1, queueMax]

theorem exec_mgArpRequest_own {v6 : Bool} {a b : Nat} (hc : c = 1 ∨ c = 2) (he : s.boot.engine = true) (hl : s.life.state ≠ Lc.lost)
    (h0 : rdBit s (K.chanCtrl c) 0 = true) (ha : (if v6 then rd s (K.chanIpv6 c) else rd s (K.chanIpv4 c)) = a) (hne : a ≠ 0) :
    exec (.mgArpRequest c v6 a b) s = done s (emit s (.arp c b a (rd s (K.chanMac c)))) := by
  change execMgArpRequest c v6 a b s = _
  simp only [execMgArpRequest, ha]
  exact congrArg (done s) (if_pos ⟨hc, he, hl, h0, hne, trivial⟩)

theorem exec_mgArpRequest_other {v6 : Bool} {a b : Nat}
    (h : s.life.state = Lc.lost ∨ (if v6 then rd s (K.chanIpv6 c) else rd s (K.chanIpv4 c)) ≠ a) :
    exec (.mgArpRequest c v6 a b) s = done s s := by
  refine congrArg (done s) (if_neg fun hall => ?_)
  obtain ⟨-, -, hl, -, -, ha⟩ := hall
  exact h.elim hl fun hn => hn ha

/-! Channel resets (R304, R423). -/

/-- A channel without a session, reset: what attach has refused, and its timeout, stand. -/
theorem resetChan_leaves (h : (chan s c).sess = none) : (chan (resetChan s c) c).queue = [] ∧ (chan (resetChan s c) c).held = none ∧
    (chan (resetChan s c) c).sub = none ∧ (attach (resetChan s c) c).bad = (attach s c).bad ∧
    (attach (resetChan s c) c).timeout = (attach s c).timeout := by
  have hend : endSession s c = s := by simp only [endSession, h]
  have hchan : chan (resetChan s c) c = { State.idleChan with attach := { State.idleChan.attach with
      bad := (attach s c).bad, locked := (attach s c).locked, timeout := (attach s c).timeout, status := if lockedOut s c then 8 else 0 } } := by
    rw [resetChan, hend, chan_setChan_same]
  rw [attach, hchan]
  exact ⟨rfl, rfl, rfl, rfl, rfl⟩

theorem mgClockStop_offers : Offers s (mgClockStop s c) := by
  have hlines : ∀ x, Offers s { s with lines := x } := fun x => .of_parts rfl fun _ _ => rfl
  unfold mgClockStop
  extract_lets s1
  split
  · exact hlines _
  · exact (hlines _).trans clkFall_offers

theorem mgClockStop_frame : EvFrame [K.clkLocked, K.clkLost] [.lines] s (mgClockStop s c) := by
  have hlines : ∀ x, EvFrame [K.clkLocked, K.clkLost] [.lines] s { s with lines := x } := fun x => .set_lines (by decide) .refl
  unfold mgClockStop
  extract_lets s1
  exact .ite (fun _ => hlines _) (fun _ => (hlines _).trans (clkFall_frame.mono (List.Subset.refl _) (by decide)))

/-- The port of an enabled channel has no clock: the management domain loses its bit. -/
theorem mgClockStop_unlocks (hc : c = 1 ∨ c = 2) (h : rdBit s (K.chanCtrl c) 0 = true) : rdBit (mgClockStop s c) K.clkLocked 22 = false := by
  have hun : ∀ x : State, x.regs = s.regs → (x.lines.mgA = (s.lines.mgA && c != 1)) → (x.lines.mgB = (s.lines.mgB && c != 2)) →
      mgLocked x = false := by
    intro x hr ha hb
    have hon : rdBit x (K.chanCtrl c) 0 = true := by rw [rdBit, rd_of_regs hr, ← rdBit, h]
    obtain rfl | rfl := hc
    · simp [mgLocked, hon, ha]
    · simp [mgLocked, hon, hb]
  unfold mgClockStop
  extract_lets x s1
  rw [if_neg (by rw [hun s1 rfl rfl rfl]; decide)]
  exact clkFall_clears

theorem exec_mgLinkLoss (hc : c = 1 ∨ c = 2) : exec (.mgLinkLoss c) s = done s (mgClockStop (resetChan s c) c) := congrArg (done s) (if_pos hc)

theorem exec_spiChannelReset (he : s.boot.engine = true) : exec .spiChannelReset s = done s (resetChan s 0) := congrArg (done s) (if_pos he)

theorem exec_chanReset : exec (.chanReset r c) s = done s (access s r (K.chanReset c) true (chanResetEff c 1)) := rfl

/-! Subscriptions (R433). -/

/-- A subscription's message: up to 8 records, sent to its address. -/
def msgWords (b : Sub) : List Word := [2 ^ 28 + 2 * 2 ^ 24, b.frames % 2 ^ 16 * 2 ^ 16 + (b.waiting.take 8).flatten.length] ++ (b.waiting.take 8).flatten

/-- The subscription with those records gone. -/
def msgGone (s : State) (c : Nat) (b : Sub) : State :=
  setChan s c { chan s c with sub := some { b with waiting := b.waiting.drop 8, frames := b.frames + 1 } }

theorem chan_msgGone : (chan (msgGone s c b) c).sub = some { b with waiting := b.waiting.drop 8, frames := b.frames + 1 } := by
  rw [msgGone, chan_setChan_same]

/-- A message of a subscription outside a session, from a state where it is due. -/
theorem exec_evtMsgSend (hc : c = 1 ∨ c = 2) (hb : (chan s c).sub = some b) (hs : b.sess = false) (hne : b.waiting ≠ [])
    (hdue : b.waiting.length < 8 → b.since < s.tick.elapsed) : exec (.evtMsgSend c) s =
      done s (emit (msgGone (if b.waiting.length < 8 then toCc s 1024 else s) c b) (.kda c b.addr (msgWords b))) := by
  have h3 : c ≠ 3 := by omega
  have hwait : (b.waiting.isEmpty || (decide (b.waiting.length < msgRecs) && decide (s.tick.elapsed ≤ b.since))) = false := by
    by_cases hl : b.waiting.length < 8
    · simp [hne, hdue hl]
    · simp [hne, hl, msgRecs]
  obtain ⟨addr, sess, seq, frames, waiting, since⟩ := b
  obtain rfl : sess = false := hs
  change execEvtMsgSend c s = _
  simp only [execEvtMsgSend, hb]
  rw [hwait]
  exact congrArg (done s) (if_neg h3)

theorem exec_evtMsgSend_idle (h : ∀ b, (chan s c).sub = some b → b.waiting = []) : exec (.evtMsgSend c) s = done s s := by
  change execEvtMsgSend c s = _
  cases hb : (chan s c).sub with
  | none => simp only [execEvtMsgSend, hb]
  | some b => simp [execEvtMsgSend, hb, h b hb]

/-! Counters whose event fires on the first count since the last read (R430). -/

/-- A counter of one word that only reads. -/
def OneWord (k : Nat) : Prop := (objOf k).map (fun o => (o.ty, o.acc)) = some (.u32, .ro)

/-- A read of such a counter answers its value and re-arms its event. -/
theorem runs_countRead (hx : exec i s = done s (access s r k false (fun s => readPlain (rearm s k) k)))
    (hr : readPlain (rearm s k) k = okV (rearm s k) ws) (hg : Admitted s r k false) :
    Runs i s (fun t => Answers t ws ∧ tget 0 t.fired k = 0 ∧ Frame [] [.chans, .events] s t) :=
  runs_answered hx hg hr fun _ => ⟨rfl, tget_tset_same 0 s.fired k 0, .answered (by decide) (.rearm (by decide) .refl)⟩

theorem readPlain_oneWord (h : OneWord k) : readPlain (rearm s k) k = okV (rearm s k) [rd s k % 2 ^ 32] := readPlain_u32 h (by decide)

/-- The counters of the device and of its channels, slices and tables, with the commands that read them. -/
theorem countReads (h : (i, k) ∈ [(Instr.evtLostRead r false, K.evtLost), (.evtLostRead r true, K.evtLostS),
      (.chanRejectedRead r (c % 4), K.chanRejected (c % 4)), (.chanRxDropsRead r (1 + c % 3), K.chanRxDrops (1 + c % 3)),
      (.masterRefusedRead r, K.masterRefused), (.memLastRead r, K.memLast), (.slowOverflowRead r (c % 8), K.slowOverflow (c % 8)),
      (.learnFullRead r (c % 4), K.learnFull (c % 4)), (.resvDropsRead r, K.resvDrops), (.migrateLateRead r, K.migrateLate)]) :
    readPlain (rearm s k) k = okV (rearm s k) [rd s k % 2 ^ 32] ∧
      exec i s = done s (access s r k false (fun s => readPlain (rearm s k) k)) := by
  have hchan : ∀ c < 4, OneWord (K.chanRejected c) ∧ OneWord (K.learnFull c) ∧ OneWord (K.chanRxDrops c) := by unfold OneWord; decide
  have hslice : ∀ c < 8, OneWord (K.slowOverflow c) := by unfold OneWord; decide
  have hone : OneWord K.evtLost ∧ OneWord K.masterRefused ∧ OneWord K.memLast ∧ OneWord K.resvDrops ∧ OneWord K.migrateLate := by
    unfold OneWord; decide
  obtain ⟨hlost, hmaster, hmem, hresv, hmig⟩ := hone
  simp only [List.mem_cons, Prod.mk.injEq, List.not_mem_nil, or_false] at h
  obtain ⟨rfl, rfl⟩ | ⟨rfl, rfl⟩ | ⟨rfl, rfl⟩ | ⟨rfl, rfl⟩ | ⟨rfl, rfl⟩ | ⟨rfl, rfl⟩ | ⟨rfl, rfl⟩ | ⟨rfl, rfl⟩ | ⟨rfl, rfl⟩ | ⟨rfl, rfl⟩ := h
  · exact ⟨readPlain_oneWord hlost, rfl⟩
  · exact ⟨readPlain_u32 (a := .ros) (by decide) (by decide), rfl⟩
  · exact ⟨readPlain_oneWord (hchan _ (Nat.mod_lt _ (by decide))).1, rfl⟩
  · exact ⟨readPlain_oneWord (hchan (1 + c % 3) (by omega)).2.2, rfl⟩
  · exact ⟨readPlain_oneWord hmaster, rfl⟩
  · exact ⟨readPlain_oneWord hmem, rfl⟩
  · exact ⟨readPlain_oneWord (hslice _ (Nat.mod_lt _ (by decide))), rfl⟩
  · exact ⟨readPlain_oneWord (hchan _ (Nat.mod_lt _ (by decide))).2.1, rfl⟩
  · exact ⟨readPlain_oneWord hresv, rfl⟩
  · exact ⟨readPlain_oneWord hmig, rfl⟩

/-- The counters of a port. -/
theorem portReads (hq : q < 32) (hp : isPort s q = true)
    (h : (i, k) ∈ [(Instr.detLateRead r q, K.detLate q), (.verifyLastRead r q, K.verifyLast q), (.txTsLostRead r q, K.txTsLost q)]) :
    portRead q k s = okV (rearm s k) [rd s k % 2 ^ 32] ∧ exec i s = done s (access s r k false (portRead q k)) := by
  have hport : ∀ q < 32, OneWord (K.detLate q) ∧ OneWord (K.verifyLast q) ∧ OneWord (K.txTsLost q) := by unfold OneWord; decide
  have hread : ∀ k, OneWord k → portRead q k s = okV (rearm s k) [rd s k % 2 ^ 32] := fun k hk =>
    (if_pos hp).trans (readPlain_oneWord hk)
  obtain ⟨hdet, hver, hts⟩ := hport q hq
  simp only [List.mem_cons, Prod.mk.injEq, List.not_mem_nil, or_false] at h
  obtain ⟨rfl, rfl⟩ | ⟨rfl, rfl⟩ | ⟨rfl, rfl⟩ := h
  · exact ⟨hread _ hdet, rfl⟩
  · exact ⟨hread _ hver, rfl⟩
  · exact ⟨hread _ hts, rfl⟩

/-- A counter of two words, the upper one first. -/
theorem readPlain_tailDrops (hk : k < 4) : readPlain (rearm s (K.tailDrops k)) (K.tailDrops k) =
    okV (rearm s (K.tailDrops k)) [rd s (K.tailDrops k) / 2 ^ 32 % 2 ^ 32, rd s (K.tailDrops k) % 2 ^ 32] := by
  have hobj : ∀ k < 4, (objOf (K.tailDrops k)).map (fun o => (o.ty, o.acc)) = some (.u64, .ro) := by decide
  obtain ⟨o, ho, htype⟩ := Option.map_eq_some_iff.mp (hobj k hk)
  obtain ⟨hty, hacc⟩ := Prod.mk.inj htype
  have hne : o.acc ≠ .wo := by rw [hacc]; decide
  have hhigh : rd s (K.tailDrops k) % 18446744073709551616 / 4294967296 % 4294967296 = rd s (K.tailDrops k) / 4294967296 % 4294967296 := by omega
  simp only [readPlain, ho, if_neg hne, rd_rearm]
  simp [encVal, hty, Ty.words, Ty.width, toWords, hhigh]

/-! Single objects and record FIFOs (R418, R430, R431). -/

/-- EVT_CTRL takes 0 and 1. -/
theorem evtCtrl_takes (hv : v ≤ 1) : decVal (typeOf K.evtCtrl) [v] = some v ∧ dictWrite r K.evtCtrl v s = okR (wr s K.evtCtrl v) := by
  obtain rfl | rfl : v = 0 ∨ v = 1 := by omega
  · exact ⟨by decide, rfl⟩
  · exact ⟨by decide, rfl⟩

theorem dictRead_evtData_empty (h : s.ns.recs = []) : dictRead r K.evtData s = okV s [0] := by
  change evtDataRead s = _
  simp only [evtDataRead, fifoRead, h]

theorem evtDataRead_last {a : List Nat} {l : List (List Nat)} (h : s.ns.recs = a :: l) (hp : s.ns.ptr = 5) :
    evtDataRead s = okV { s with ns := { s.ns with recs := l, ptr := 0 } } [nth a 5] := by simp [evtDataRead, fifoRead, h, hp]

theorem evtDataSRead_word {a : List Nat} {l : List (List Nat)} (h : s.sec.recs = a :: l) (hp : s.sec.ptr < 5) :
    evtDataSRead s = okV { s with sec := { s.sec with ptr := s.sec.ptr + 1 } } [nth a s.sec.ptr] := by
  simp [evtDataSRead, fifoRead, h, Nat.not_le.mpr hp]

/-- A window read of two words of an empty FIFO. -/
theorem kdaWinRead_evtData_empty (h : s.ns.recs = []) (hg : Admitted s r K.evtData false) :
    kdaWinRead r K.evtData 2 s = some (okV s [0, 0]) := by
  rw [kdaWinRead_fits (by decide) (by decide) (by decide), winRead_word hg (dictRead_evtData_empty h),
    winRead_word hg (dictRead_evtData_empty h), winRead]
  rfl

/-! Requests taken in their turn (R415, R417). -/

theorem nextChan_lt (h : nextChan s = some c) : c < 4 := by
  refine List.foldlRecOn (motive := fun best => ∀ b, best = some b → b < 4) (List.range 4) _ (fun b hb => by cases hb)
    (fun best hbest c hc b hb => ?_) c h
  have hlt : c < 4 := List.mem_range.mp hc
  revert hb
  split
  · exact hbest b
  · split
    · rintro ⟨⟩
      exact hlt
    · next b0 =>
      split
      · split
        · rintro ⟨⟩
          exact hlt
        · exact hbest b
      · rintro ⟨⟩
        exact hlt

/-- A whole request on SPI that is not its last one again runs, its reply kept. -/
theorem kdaServe_executes {u : Nat} {l : List (Nat × Nat × List Nat)} {ops : List KdaOp} {x : State} {y : Code} {z : List Nat}
    (hr : notRequest ws = false) (hv : (kdaHdr ws).ver = 1) (hlast : (chan s 0).last ≠ some (kdaHdr ws).seq) (hform : kdaFormOk 0 (kdaHdr ws) ws = true)
    (hops : kdaOps (kdaHdr ws).ops ((ws.drop (kdaHdr ws).hlen).take (kdaHdr ws).len) = some ops)
    (hrun : kdaRun ⟨0, false, u⟩ ops (dequeued s 0 l) (kdaHdr ws).hlen .ok [] = some (x, y, z)) (he : x.boot.engine = true) :
    kdaServe (dequeued s 0 l) 0 u ws = spiKept x ⟨0, false, u⟩ (kdaHdr ws).seq (kdaReply s 0 (kdaHdr ws) (codeNum y) (kdaHdr ws).ops z) := by
  have hlast' : (chan (dequeued s 0 l) 0).last ≠ some (kdaHdr ws).seq := by rw [chan_dequeued]; exact hlast
  rw [kdaServe_spi hr hv, kdaFresh_executes hlast' hform, kdaExecute_spi hops hrun he, kdaReply_spi (s := s)]

theorem chan_settled_setChan {z : State} {x : Chan} : chan (settled z (setChan s c x)) c = x := chan_setChan_same ..
theorem chan_settledReset_setChan {z : State} {x : Chan} : chan (settledReset z (setChan s c x)) c = x := chan_setChan_same ..

end

end Sys2Proof.Machine

/-! O53 (R304–R476). -/

namespace Sys2Proof.Machine

/-- Settles O53: each operation by the access it is, windows by induction on their words, a request by the frame it is, and the channels
through the raises of its clauses by what an offer leaves. -/
theorem channels : Obligations.Channels := by
  refine ⟨?_, ?_, ?_, ?_, ?_, ?_, ?_, ?_, ?_, ?_, ?_, ?_, ?_, ?_, ?_, ?_, ?_, ?_, ?_, ?_, ?_, ?_, ?_, ?_, ?_, ?_, ?_, ?_, ?_, ?_, ?_, ?_, ?_, ?_, ?_,
    ?_, ?_, ?_, ?_, ?_, ?_, ?_⟩
  · intro r s hg
    exact runs_answered exec_kdaRead hg dictRead_tickLength fun _ => ⟨rfl, .answered (by decide) (.rearm (by decide) .refl)⟩
  · intro r v s hv hg
    obtain ⟨hval, hwrite⟩ := evtCtrl_takes (s := s) (r := r) hv
    refine runs_doneReset (exec_kdaWrite_value hval) ?_
    rw [access_pass hg, hwrite]
    refine ⟨rfl, ?_, ((Frame.wr (by decide) .refl).touch (by decide)).replied.settledReset⟩
    rw [rd_settledReset, rd_replied]
    exact (touch_frame.1 _ List.not_mem_nil).trans (rd_wr_same ..)
  · intro r k s hg
    exact runs_answered exec_kdaRead hg rfl fun _ => rfl
  · intro r k ws v s hv
    exact ⟨_, exec_kdaWrite_value hv, rfl⟩
  · intro r k ws s hv hg
    exact runs_kdaWrite_misfit hv hg
  · intro r v w s hg
    exact runs_kdaWrite_misfit (by rfl) hg
  · intro r s he hn hg
    refine runs_done exec_kdaWindowRead ?_
    rw [kdaWinRead_evtData_empty hn hg]
    exact ⟨rfl, ((Frame.refl.touch (by decide)).replied).settled⟩
  · intro r k n s h hg
    exact runs_answered (kdaWinRead_misfit h) hg rfl fun _ => ⟨rfl, .answered (by decide) .refl⟩
  · intro r k n s
    refine runs_done exec_kdaWindowRead ?_
    cases kdaWinRead r k n s <;> rfl
  · intro r n s hc h1 h250 hg
    obtain ⟨u, hu, hptr, hframe⟩ := winRead_attachData hc n s [] hg
    refine runs_done exec_kdaWindowRead ?_
    rw [kdaWinRead_fits (by omega) h250 (by decide), hu]
    exact ⟨rfl, (congrArg Attach.ptr attach_touch).trans hptr, ((hframe.touch (by decide)).replied).settled⟩
  · intro r k ws s h hg
    exact runs_answered (kdaWinWrite_misfit h) hg rfl fun _ => ⟨rfl, .answered (by decide) .refl⟩
  · intro r k ws s
    refine runs_done exec_kdaWindowWrite ?_
    cases kdaWinWrite r k ws s <;> rfl
  · intro r ws s hw hne h250 hc hroom hg
    obtain ⟨u, hu, hbuf, hframe⟩ := winWrite_attachData hc ws s 0 hw hroom hg
    refine runs_done exec_kdaWindowWrite ?_
    rw [kdaWinWrite_fits hne h250 (by decide), hu]
    exact ⟨rfl, (congrArg Attach.inBuf attach_touch).trans hbuf, ((hframe.touch (by decide)).replied).settled⟩
  · intro s h
    exact runs_doneReset (exec_kdaServe_idle h) (.settledReset .refl)
  · intro c a u ws l s hn h0 hq hr
    refine runs_doneReset (exec_kdaServe hn hq) ?_
    rw [kdaServe_notRequest hr]
    obtain ⟨hcounts, hframe, hqueue, -, -⟩ := kdaReject_counts (s := dequeued s c l) (nextChan_lt hn) true
    refine ⟨hqueue.trans (by rw [chan_dequeued]), hcounts.since rfl, ?_⟩
    exact .settledReset ((dequeued_frame.ev (List.nil_subset _) (by decide)).trans hframe)
  · intro a u q l s hn hq hlt hlast hg
    have hh := kdaHdr_tickLengthRead hlt
    have hnext : Admitted (dequeued s 0 l) ⟨0, false, u⟩ K.tickLength false := hg.of_chans dequeued_sess
    have hengine : (dequeued s 0 l).boot.engine = true := by
      cases he : (dequeued s 0 l).boot.engine with
      | true => rfl
      | false => simp [Admitted, gate, he] at hnext
    have hserve := kdaServe_executes (s := s) (ws := tickLengthRead q) (l := l) (u := u) (x := rearm (dequeued s 0 l) K.tickLength) notRequest_tickLengthRead
      (by rw [hh]) (by rw [hh]; exact hlast) (by rw [hh]; rfl) (by rw [hh]; exact kdaOps_tickLengthRead) (by rw [hh]; exact kdaRun_tickLengthRead hnext) hengine
    refine runs_doneReset (exec_kdaServe hn hq) ?_
    rw [show kdaServe (dequeued s 0 l) 0 u [0x10010000, q * 65536 + 1, 0x10000000 + K.tickLength] = _ from hserve, hh, kdaReply_tickLengthRead hlt]
    obtain ⟨hheld, -, hseq, hqueue⟩ := spiKept_chan (rearm (dequeued s 0 l) K.tickLength) ⟨0, false, u⟩ q
      [0x11010000, q * 65536 + 2, 65536, rd s K.tickLength % 2 ^ 32]
    obtain ⟨hcounts, hframe⟩ := spiKept_counts (rearm (dequeued s 0 l) K.tickLength) ⟨0, false, u⟩ q
      [0x11010000, q * 65536 + 2, 65536, rd s K.tickLength % 2 ^ 32]
    have hbefore : Frame [] [.chans, .events] s (rearm (dequeued s 0 l) K.tickLength) :=
      .rearm (by decide) (dequeued_frame.mono (List.Subset.refl _) (by decide))
    refine ⟨hqueue.trans ?_, hheld, hseq, hcounts.since (hbefore.1 _ List.not_mem_nil),
      .settledReset ((hbefore.mono (List.nil_subset _) (List.Subset.refl _)).trans (hframe.mono (List.Subset.refl _) (by decide)))⟩
    exact congrArg Chan.queue chan_dequeued
  · intro a u ws l s hn hq hr hv hlast
    have hlast' : (chan (dequeued s 0 l) 0).last = some (kdaHdr ws).seq := by rw [chan_dequeued]; exact hlast
    refine runs_doneReset (exec_kdaServe hn hq) ?_
    rw [kdaServe_spi hr hv, kdaFresh_again hlast', chan_dequeued]
    refine ⟨?_, ?_, (Counts.of_inc rfl).of_rd rfl, ?_⟩
    · exact (congrArg Chan.queue chan_replyHeld).trans (congrArg Chan.queue (chan_dequeued (s := s)))
    · exact congrArg Chan.held chan_replyHeld
    · exact .settledReset (.setChan (by decide) (.inc (by decide) (dequeued_frame.mono (List.nil_subset _) (List.Subset.refl _))))
  · intro a u ws l ops x y z s hn hq hr hv hlast hform hops hrun he
    refine runs_doneReset (exec_kdaServe hn hq) ?_
    rw [kdaServe_executes hr hv hlast hform hops hrun he]
    obtain ⟨hheld, hkept, hseq, -⟩ := spiKept_chan x ⟨0, false, u⟩ (kdaHdr ws).seq (kdaReply s 0 (kdaHdr ws) (codeNum y) (kdaHdr ws).ops z)
    obtain ⟨hcounts, -⟩ := spiKept_counts x ⟨0, false, u⟩ (kdaHdr ws).seq (kdaReply s 0 (kdaHdr ws) (codeNum y) (kdaHdr ws).ops z)
    exact ⟨hheld, hkept, hseq, hcounts⟩
  · intro c a ws s hc he hl h0 h1 hr hroom
    refine runs_doneReset (u := kdaArrive s c a ws) rfl ?_
    rw [kdaArrive_open hc he hl h0 h1, if_neg (by rw [hr]; decide), if_neg (Nat.not_le.mpr hroom)]
    exact ⟨by rw [chan_settledReset_setChan], .settledReset (.setChan (by decide) .refl)⟩
  · intro c a ws s hc he hl h0 h1 hr
    refine runs_doneReset (u := kdaArrive s c a ws) rfl ?_
    rw [kdaArrive_open hc he hl h0 h1, if_pos hr]
    obtain ⟨hcounts, hframe, hqueue, -, -⟩ := kdaReject_counts (s := s) (c := c) (by omega) true
    exact ⟨hqueue, hcounts, hframe.settledReset⟩
  · intro ws s he hq hr
    exact runs_done (exec_spiWriteRequest_taken he hq hr)
      ⟨by rw [chan_settled_setChan], by rw [chan_settled_setChan], by rw [chan_settled_setChan], .settled (.setChan (by decide) .refl)⟩
  · intro ws b s he hq
    exact runs_done (exec_spiWriteRequest_busy he hq)
      ⟨by rw [chan_settled_setChan], by rw [chan_settled_setChan], .settled (.setChan (by decide) .refl)⟩
  · intro ws s he hq
    exact runs_done (exec_spiWriteRequest_cut he hq)
      ⟨by rw [chan_settled_setChan]; exact hq, by rw [chan_settled_setChan], by rw [chan_settled_setChan], .settled (.setChan (by decide) .refl)⟩
  · intro ws s he hq hr
    obtain ⟨hcounts, hframe, hqueue, hheld, herror⟩ := kdaReject_counts (s := spiCleared s) (c := 0) (by decide) true
    have hcleared : Frame [] [.chans] s (spiCleared s) := .setChan (by decide) .refl
    refine runs_done (exec_spiWriteRequest_rejected he hq hr)
      ⟨hqueue.trans (by rw [chan_spiCleared]; exact hq), hheld.trans (by rw [chan_spiCleared]), herror, hcounts.since rfl, ?_⟩
    exact .settled ((hcleared.ev (List.nil_subset _) (by decide)).trans hframe)
  · intro s
    exact runs_done rfl ⟨rfl, .settled (.emit (by decide) .refl)⟩
  · intro l s hl
    refine runs_done exec_spiReadReply ⟨?_, .settled (.emit (by decide) .refl)⟩
    rw [hl, Option.getD_some, map_getD_range]
    rfl
  · intro n s hh
    refine runs_done exec_spiReadReply ⟨?_, .settled (.emit (by decide) .refl)⟩
    rw [hh]
    simp [settled, emit, List.map_const']
  · intro c s hc hs
    obtain ⟨hqueue, hheld, hsub, hbad, htimeout⟩ := resetChan_leaves hs
    obtain ⟨hqueue', hheld', -, hattach⟩ := (mgClockStop_offers (s := resetChan s c) (c := c)).kept c
    obtain ⟨hframe, -, -, -⟩ := resetChan_noSess hs
    refine runs_done (exec_mgLinkLoss hc) ⟨hqueue'.trans hqueue, hheld'.trans hheld, mgClockStop_offers.noSub hsub,
      (congrArg Attach.bad hattach).trans hbad, (congrArg Attach.timeout hattach).trans htimeout, fun h => ?_, ?_⟩
    · refine mgClockStop_unlocks hc ?_
      rw [rdBit, hframe.1 _ List.not_mem_nil]
      exact h
    · exact .settled ((hframe.ev (List.nil_subset _) (by decide)).trans mgClockStop_frame)
  · intro i c r s hi he hs hg
    obtain ⟨hqueue, hheld, hsub, hbad, htimeout⟩ := resetChan_leaves hs
    obtain ⟨hframe, -, -, -⟩ := resetChan_noSess hs
    obtain ⟨rfl, rfl⟩ | ⟨rfl, hc⟩ := hi
    · exact runs_done (exec_spiChannelReset he) ⟨hqueue, hheld, hsub, hbad, htimeout, hframe.settled⟩
    · have heff : chanResetEff c 1 s = okR (resetChan s c) := rfl
      generalize resetChan s c = x at *
      obtain ⟨hqueue', hheld', hsub'⟩ := queue_touch (s := x) (r := r) (c := c)
      refine runs_touched exec_chanReset hg heff ?_
      rw [chan_touched, attach_touched]
      exact ⟨hqueue'.trans hqueue, hheld'.trans hheld, hsub'.trans hsub, hbad, htimeout, hframe.touched (by decide)⟩
  · intro c v6 a b s hc he hl h0 ha hne
    exact runs_done (exec_mgArpRequest_own hc he hl h0 ha hne) ⟨rfl, .settled (.emit (by decide) .refl)⟩
  · intro c v6 a b s h
    exact runs_done (exec_mgArpRequest_other h) (.settled .refl)
  · intro r s h0 hc hg
    have heff : evtSubEff r r.ch 1 s =
        okR (setChan s r.ch { chan s r.ch with sub := some ⟨r.src, secure s r && !inProfile s r, 0, 0, [], 0⟩ }) := by
      simp [evtSubEff, Nat.pos_iff_ne_zero.mp h0]
    refine runs_touched rfl hg heff ⟨rfl, ?_, .touched (by decide) (.setChan (by decide) .refl)⟩
    rw [chan_touched, queue_touch.2.2, chan_setChan_same]
  · intro r c s h0 hc hg
    have heff : evtSubEff r c 0 s = okR (setChan s c { chan s c with sub := none }) := by simp [evtSubEff, Nat.pos_iff_ne_zero.mp h0]
    refine runs_touched rfl hg heff ⟨rfl, ?_, .touched (by decide) (.setChan (by decide) .refl)⟩
    rw [chan_touched, queue_touch.2.2, chan_setChan_same]
  · intro c b s hc hb hs hl
    have hne : b.waiting ≠ [] := by rintro h; simp [h] at hl
    refine runs_done (exec_evtMsgSend hc hb hs hne fun h => absurd h (Nat.not_lt.mpr hl)) ?_
    rw [if_neg (Nat.not_lt.mpr hl)]
    exact ⟨rfl, chan_msgGone, .settled (.emit (by decide) (.setChan (by decide) .refl))⟩
  · intro c b s hc hb hs hne hl hdue
    refine runs_done (exec_evtMsgSend hc hb hs hne fun _ => hdue) ?_
    rw [if_pos hl, msgWords, List.take_of_length_le (by omega)]
    refine ⟨rfl, chan_msgGone.trans ?_, .settled (.emit (by decide) (.setChan (by decide) (.toCc (by decide) .refl)))⟩
    rw [List.drop_of_length_le (by omega)]
  · intro c s h
    exact runs_done (exec_evtMsgSend_idle h) (.settled .refl)
  · intro r a l s hrecs hptr hg
    exact runs_answered rfl hg (evtDataRead_last hrecs hptr) fun _ => ⟨rfl, rfl, rfl, .answered (by decide) (.set_ns (by decide) .refl)⟩
  · intro r a l s hrecs hptr hg
    exact runs_answered rfl hg (evtDataSRead_word hrecs hptr) fun _ => ⟨rfl, rfl, rfl, .answered (by decide) (.set_sec (by decide) .refl)⟩
  · intro r w v s hw hv hlt hg
    have hx : exec (.evtPendingClear r w v) s = done s (access s r (K.evtPending w) true (evtPendingEff r w v)) := by
      change execEvtPendingClear r w v s = _
      rw [execEvtPendingClear, Nat.mod_eq_of_lt hv]
    refine runs_answered hx hg evtPendingEff_masked fun x => ⟨rfl, fun i hi => ?_, .answered (by simp) (.wr (by simp) .refl)⟩
    rw [rdBit_answered, rdBit, rd_wr_same, bit_cleared, bit_land, rdBit]
  · intro i r k c s hi hg
    obtain ⟨hread, hx⟩ := countReads (s := s) hi
    exact runs_countRead hx hread hg
  · intro i r k q s hq hp hi hg
    obtain ⟨hread, hx⟩ := portReads (s := s) (r := r) hq hp hi
    exact runs_answered hx hg hread fun _ => ⟨rfl, tget_tset_same 0 s.fired k 0, .answered (by decide) (.rearm (by decide) .refl)⟩
  · intro r k s hk hg
    exact runs_countRead rfl (readPlain_tailDrops hk) hg

end Sys2Proof.Machine

/-! Attachment: requests to the service controller, refusals, sessions opened and ended, the reply's signature (R217, R223, R302–R304). -/

namespace Sys2Proof.Machine

section
variable {s t u : State} {r : Req} {c n v d e code : Nat} {k : SvcKind} {ks : List Nat} {ps : List Part}

theorem attach_of_chans (h : t.chans = s.chans) : attach t c = attach s c := by rw [attach, chan, h, ← chan, attach]
theorem chan_of_chans (h : t.chans = s.chans) : chan t c = chan s c := by rw [chan, h, chan]

/-! Requests of the service controller (R215). -/

theorem svcEnter_svc : (svcEnter s).jasper.svc = s.jasper.svc := by
  unfold svcEnter
  split <;> rfl

/-- A request of some job is under way. -/
theorem svcIssue_busy (hn : n ≠ 0) : svcBusy (svcIssue s k n) k = true := by
  unfold svcIssue
  extract_lets s1
  rw [if_neg hn]
  split
  · split
    · simp [svcBusy, setSvc]
    · simp [svcBusy, svcEnter_svc, setSvc]
  · simp [svcBusy, svcEnter_svc, setSvc]

theorem svcDrop_frame : Frame ks [.jasper] s (svcDrop s k) := .set_jasper (by simp) .refl

/-! Refusals (R303). -/

/-- The attachment of a channel as a refusal leaves it. -/
def refusedAttach (s : State) (c code : Nat) : Attach :=
  let a := attach s c
  let bad := Nat.min refusalMax (a.bad + 1)
  let lock := decide (refusalMax ≤ bad)
  { a with step := 0, status := if lock then 8 else code, bad := bad, locked := if lock then some (s.tick.elapsed + lockTicks) else a.locked, outBuf := [], t1 := [], nh := [], nd := [], shared := [], proof := [] }

theorem refuse_eq : refuse s c code = raise (setAttach s c (refusedAttach s c code)) Ev.attachFail c 0 := rfl

theorem refusedAttach_counts (h : (attach s c).bad < 7) : (refusedAttach s c code).status = code ∧ (refusedAttach s c code).bad = (attach s c).bad + 1 := by
  have hmin : Nat.min refusalMax ((attach s c).bad + 1) = (attach s c).bad + 1 := Nat.min_eq_right (by unfold refusalMax; omega)
  have hlock : ¬ refusalMax ≤ (attach s c).bad + 1 := by unfold refusalMax; omega
  simp [refusedAttach, hmin, hlock]

theorem refusedAttach_locks (h : 7 ≤ (attach s c).bad) : (refusedAttach s c code).status = 8 ∧
    (refusedAttach s c code).locked = some (s.tick.elapsed + 100000) := by
  have hlock : refusalMax ≤ Nat.min refusalMax ((attach s c).bad + 1) := Nat.le_min.mpr ⟨le_rfl, by unfold refusalMax; omega⟩
  exact ⟨if_pos (decide_eq_true hlock), if_pos (decide_eq_true hlock)⟩

theorem attach_raise {src a b : Nat} : attach (raise s src a b) c = attach s c := (raise_offers.kept c).2.2.2

theorem refuse_leaves : attach (refuse s c code) c = refusedAttach s c code ∧ (chan (refuse s c code) c).sess = (chan s c).sess ∧
    Pending (refuse s c code) Ev.attachFail ∧ EvFrame ks [.chans] s (refuse s c code) := by
  obtain ⟨-, -, hsess, hattach⟩ := (raise_offers (s := setAttach s c (refusedAttach s c code)) (src := Ev.attachFail) (a := c) (b := 0)).kept c
  rw [refuse_eq]
  exact ⟨hattach.trans attach_setAttach_same, hsess.trans (setAttach_sess c), raise_sets_pending _ _ _ _ (by decide),
    .raise (by decide) (.setChan .refl)⟩

/-! Sessions (R304). -/

theorem jReleaseChan_frame : Frame ks [.jasper] s (jReleaseChan s c) := by
  unfold jReleaseChan
  split
  · exact .setJpart (by simp) (.set_jasper (by simp) .refl)
  · exact .refl

theorem discardAll_frame : Frame ks [.staging, .hbm, .beryl] s (discardAll s c) := by
  refine foldl_rel (R := Frame ks [.staging, .hbm, .beryl]) (fun _ => .refl) Frame.trans (fun x e => ?_) _ s
  have hdiscard : Frame ks [.staging, .hbm, .beryl] x (discard x e.1) := .discard (by simp) .refl
  exact .ite (fun _ => .set_hbm (by simp) hdiscard) (fun _ => .ite (fun _ => .set_beryl (by simp) hdiscard) (fun _ => hdiscard))

/-- A session that ends: what it held is released, its number gone, and SESSION_CLOSED raised. -/
theorem endSession_eq {x : Sess} (h : (chan s c).sess = some x) : ∃ y : Chan, y.sess = none ∧ endSession s c =
    raise (wr (wr (discardAll (setChan (jReleaseChan s c) c y) c) (K.sessionId c) 0) (K.sessionVersion c) 0) Ev.sessionClosed c 0 := by
  unfold endSession
  simp only [h]
  exact ⟨_, rfl, rfl⟩

theorem sessionId_ne_version : K.sessionVersion c ≠ K.sessionId c := by simp only [K.sessionVersion, K.sessionId]; omega

theorem endSession_leaves {x : Sess} (h : (chan s c).sess = some x) : (chan (endSession s c) c).sess = none ∧
    rd (endSession s c) (K.sessionId c) = 0 ∧ Pending (endSession s c) Ev.sessionClosed ∧
    EvFrame [K.sessionId c, K.sessionVersion c] [.chans, .jasper, .staging, .hbm, .beryl] s (endSession s c) := by
  obtain ⟨y, hy, he⟩ := endSession_eq h
  have hdiscard : Frame [] [.staging, .hbm, .beryl] (setChan (jReleaseChan s c) c y) (discardAll (setChan (jReleaseChan s c) c y) c) := discardAll_frame
  have hchan : chan (discardAll (setChan (jReleaseChan s c) c y) c) c = y :=
    (chan_of_chans (hdiscard.2 .chans (by decide))).trans (chan_setChan_same ..)
  rw [he]
  generalize discardAll (setChan (jReleaseChan s c) c y) c = z at hdiscard hchan
  have hoffers := raise_offers (s := wr (wr z (K.sessionId c) 0) (K.sessionVersion c) 0) (src := Ev.sessionClosed) (a := c) (b := 0)
  obtain ⟨-, -, hsess, -⟩ := hoffers.kept c
  refine ⟨(hsess.trans (congrArg Chan.sess hchan)).trans hy, ?_, raise_sets_pending _ _ _ _ (by decide), .raise (by decide) (.wr (by simp) (.wr (by simp) ?_))⟩
  · rw [hoffers.later _ (by simp only [K.sessionId]; omega), rd_wr_ne _ _ sessionId_ne_version, rd_wr_same]
  · have hclosed : Frame [K.sessionId c, K.sessionVersion c] [.chans, .jasper, .staging, .hbm, .beryl] s (setChan (jReleaseChan s c) c y) :=
      .setChan (by decide) (jReleaseChan_frame.mono (List.Subset.refl _) (by decide))
    exact (hclosed.trans (hdiscard.mono (List.nil_subset _) (by decide))).toEv

theorem endSession_none (h : (chan s c).sess = none) : endSession s c = s := by simp only [endSession, h]

/-- The attachment of a session that opens. -/
def openAttach (a : Attach) : Attach := { a with step := 0, status := 2, bad := 0, shared := [], nd := [], nh := [], t1 := [], proof := [] }

theorem openSession_spi (h : (chan s 0).sess = none) :
    ∃ x, openSession s 0 = setChan s 0 { chan s 0 with sess := some x, attach := openAttach (attach s 0) } := by
  rw [openSession, endSession_none h]
  exact ⟨_, rfl⟩

theorem openSession_drawn (h : (chan s c).sess = none) (hc : c ≠ 0) : ∃ x n,
    openSession s c = wr (wr (setChan (draw s 4).2 c { chan (draw s 4).2 c with sess := some x, attach := openAttach (attach s c) })
      (K.sessionId c) n) (K.sessionVersion c) 2 := by
  rw [openSession, endSession_none h]
  simp only [if_neg hc]
  exact ⟨_, _, rfl⟩

/-- A session is open, its attachment done. -/
theorem openSession_leaves (h : (chan s c).sess = none) : (chan (openSession s c) c).sess.isSome = true ∧
    attach (openSession s c) c = openAttach (attach s c) ∧ (openSession s c).keys = s.keys ∧
    Frame [K.sessionId c, K.sessionVersion c] [.chans, .draws] s (openSession s c) ∧ (c = 0 → Frame [] [.chans] s (openSession s c)) := by
  by_cases hc : c = 0
  · subst hc
    obtain ⟨x, hx⟩ := openSession_spi h
    have hframe : Frame [] [.chans] s (openSession s 0) := hx ▸ .setChan (by decide) .refl
    have hchan : chan (openSession s 0) 0 = { chan s 0 with sess := some x, attach := openAttach (attach s 0) } := by rw [hx, chan_setChan_same]
    exact ⟨by rw [hchan]; rfl, by rw [attach, hchan], hframe.2 .keys (by decide), hframe.mono (List.nil_subset _) (by decide), fun _ => hframe⟩
  · obtain ⟨x, n, hx⟩ := openSession_drawn h hc
    have hchan : chan (openSession s c) c = { chan (draw s 4).2 c with sess := some x, attach := openAttach (attach s c) } := by
      rw [hx]
      exact chan_setChan_same ..
    have hframe : Frame [K.sessionId c, K.sessionVersion c] [.chans, .draws] s (openSession s c) := by
      rw [hx]
      exact .wr (by simp) (.wr (by simp) (.setChan (by simp) (.set_draws (by simp) .refl)))
    exact ⟨by rw [hchan]; rfl, by rw [attach, hchan], hframe.2 .keys (by decide), hframe, fun h0 => absurd h0 hc⟩

/-! The reply's signature (R223). -/

theorem drawScalar_frame : Frame ks [.draws] s (drawScalar s n).2 := .set_draws (by simp) .refl

theorem jSign_succ {cv : JCurve} : (∃ u, Frame [] [.draws] s u ∧ jSign cv d e (n + 1) s = jSign cv d e n (inc u K.jasperRedraws 1)) ∨
    ∃ x u, Frame [] [.draws] s u ∧ jSign cv d e (n + 1) s = (some x, u) := by
  have hdraw : Frame [] [.draws] s (drawScalar s cv.n).2 := drawScalar_frame
  rcases hs : drawScalar s cv.n with ⟨j, u⟩
  rw [hs] at hdraw
  rcases hx : ecdsaSign cv d e j with ⟨x, y⟩
  by_cases hz : x = 0 ∨ y = 0
  · refine .inl ⟨u, hdraw, ?_⟩
    rw [jSign, hs]
    simp only [hx]
    rw [if_pos hz]
  · refine .inr ⟨(x, y), u, hdraw, ?_⟩
    rw [jSign, hs]
    simp only [hx]
    rw [if_neg hz]

theorem jSign_frame {cv : JCurve} (n : Nat) : ∀ s, Frame [K.jasperRedraws] [.draws] s (jSign cv d e n s).2 := by
  induction n with
  | zero => exact fun s => .refl
  | succ n ih =>
    intro s
    obtain ⟨u, hu, hn⟩ | ⟨x, u, hu, hx⟩ := jSign_succ (s := s) (cv := cv) (d := d) (e := e) (n := n)
    · rw [hn]
      exact (Frame.inc (by decide) (hu.mono (List.nil_subset _) (List.Subset.refl _))).trans (ih _)
    · rw [hx]
      exact hu.mono (List.nil_subset _) (List.Subset.refl _)

/-- A signing without a result counted every one of its draws. -/
theorem jSign_none_counts {cv : JCurve} (n : Nat) : ∀ s, (jSign cv d e (n + 1) s).1 = none → Counts s (jSign cv d e (n + 1) s).2 K.jasperRedraws (n + 1) := by
  induction n with
  | zero =>
    intro s h
    obtain ⟨u, hu, hn⟩ | ⟨x, u, hu, hx⟩ := jSign_succ (s := s) (cv := cv) (d := d) (e := e) (n := 0)
    · rw [hn]
      exact Counts.of_inc (hu.1 _ List.not_mem_nil)
    · rw [hx] at h
      cases h
  | succ n ih =>
    intro s h
    obtain ⟨u, hu, hn⟩ | ⟨x, u, hu, hx⟩ := jSign_succ (s := s) (cv := cv) (d := d) (e := e) (n := n + 1)
    · rw [hn] at h ⊢
      rw [Nat.add_comm (n + 1) 1]
      exact (Counts.of_inc (hu.1 _ List.not_mem_nil)).trans (ih _ h)
    · rw [hx] at h
      cases h

/-- A signature by a key of the tree: 64 bytes, or 128 draws that gave a zero. -/
theorem signBy_leaves {m : List Nat} : Frame [K.jasperRedraws] [.draws] s (signBy s d m).2 ∧ (∀ sig, (signBy s d m).1 = some sig → sig.length = 64) ∧
    ((signBy s d m).1 = none → Counts s (signBy s d m).2 K.jasperRedraws 128) := by
  have hframe := jSign_frame (cv := p256) (d := d) (e := hashNum p256 m) signDraws s
  have hcounts := jSign_none_counts (cv := p256) (d := d) (e := hashNum p256 m) 127 s
  unfold signBy
  rcases hx : jSign p256 d (hashNum p256 m) signDraws s with ⟨_ | ⟨x, y⟩, u⟩
  · rw [show jSign p256 d (hashNum p256 m) (127 + 1) s = _ from hx] at hcounts
    rw [hx] at hframe
    exact ⟨hframe, fun sig h => (by cases h), fun _ => hcounts rfl⟩
  · rw [hx] at hframe
    refine ⟨hframe, fun sig h => ?_, fun h => by cases h⟩
    obtain rfl := Option.some.inj h
    simp [length_toBytes]

end

end Sys2Proof.Machine

/-! The handshake, the proof's verdict and the owner's binding (R302–R305); O49. -/

namespace Sys2Proof.Machine

section
variable {s t u : State} {r : Req} {c n v d : Nat} {ws : List Nat}

/-! Hello and proof (R302, R303). -/

/-- The attachment of a hello. -/
def helloAttach (a : Attach) : Attach :=
  { a with inBuf := [], ptr := 0, step := 1, status := 0, t1 := a.inBuf, nh := [], nd := [], shared := [], outBuf := [], proof := [], locked := none }

theorem attachCtrlEff_hello (hc : r.ch < 4) (hl : lockedOut s r.ch = false) (hb : (attach s r.ch).inBuf.length = 96) :
    attachCtrlEff r 1 s = okR (svcIssue (svcDrop (setAttach s r.ch (helloAttach (attach s r.ch))) (.proof r.ch)) (.reply r.ch) replyJobs) := by
  have hhello : ((attach s r.ch).inBuf ++ List.replicate helloLen 0).take helloLen = (attach s r.ch).inBuf := by
    rw [← hb.trans (show 96 = helloLen from rfl), List.take_left']
    rfl
  simp [attachCtrlEff, hl, Nat.not_le.mpr hc, hhello, helloAttach]

theorem attachCtrlEff_lockedOut (hc : r.ch < 4) (hl : lockedOut s r.ch = true) : attachCtrlEff r 1 s =
    okR (raise (setAttach s r.ch { attach s r.ch with inBuf := [], ptr := 0, status := 8 }) Ev.attachFail r.ch 0) := by
  simp [attachCtrlEff, hl, Nat.not_le.mpr hc]

theorem attachCtrlEff_proof (hc : r.ch < 4) (hst : (attach s r.ch).step = 2) (ht : s.tick.elapsed ≤ (attach s r.ch).readyAt + 6000000) :
    attachCtrlEff r 2 s = okR (svcIssue (setAttach s r.ch { attach s r.ch with inBuf := [], ptr := 0, step := 3, proof := (attach s r.ch).inBuf })
      (.proof r.ch) (proofJobs s r.ch (attach s r.ch).inBuf)) := by
  simp [attachCtrlEff, Nat.not_le.mpr hc, hst, proofTicks, Nat.not_lt.mpr ht]

theorem attachCtrlEff_noProof (hc : r.ch < 4) (hst : (attach s r.ch).step ≠ 2) : attachCtrlEff r 2 s = abortR s .wrongState := by
  simp [attachCtrlEff, Nat.not_le.mpr hc, hst]

theorem attachCtrlEff_ends (hc : r.ch < 4) : attachCtrlEff r 3 s =
    okR (endSession (setAttach s r.ch { attach s r.ch with inBuf := [], ptr := 0 }) r.ch) := by simp [attachCtrlEff, Nat.not_le.mpr hc]

theorem proofJobs_ne_zero {p : List Nat} : proofJobs s c p ≠ 0 := by
  unfold proofJobs
  split <;> decide

/-- What an issued request leaves: it is under way, and only the controller's list and the channel changed. -/
theorem svcIssue_leaves {k : SvcKind} {a : Attach} (hn : n ≠ 0) (h : Frame [] [.jasper] (setAttach s c a) u) :
    attach (svcIssue u k n) c = a ∧ svcBusy (svcIssue u k n) k = true ∧ Frame [] [.chans, .jasper] s (svcIssue u k n) := by
  have hissued : Frame [] [.jasper] (setAttach s c a) (svcIssue u k n) := h.trans svcIssue_frame
  exact ⟨(attach_of_chans (hissued.2 .chans (by decide))).trans attach_setAttach_same, svcIssue_busy hn,
    (Frame.setAttach (by decide) .refl).trans (hissued.mono (List.Subset.refl _) (by decide))⟩

theorem svcBusy_touched {k : SvcKind} {code : Code} : svcBusy (touched s u r code ws) k = svcBusy u k := by
  have hjasper : (touched s u r code ws).jasper = u.jasper := (touch_frame (u := u) (r := r)).2 .jasper (by decide)
  rw [svcBusy, hjasper, svcBusy]

/-! The reply (R302, R303). -/

theorem exec_attachReplyReady_busy (h : svcBusy s (.reply c) = true) : exec (.attachReplyReady c) s = done s s :=
  congrArg (done s) (if_pos (.inr (.inr h)))

theorem exec_attachReplyReady_noDevid (hc : c < 4) (hst : (attach s c).step = 1) (hb : svcBusy s (.reply c) = false) (hd : devidOf s = none) :
    exec (.attachReplyReady c) s = done s (refuse s c 3) := by
  change execAttachReplyReady c s = _
  simp [execAttachReplyReady, Nat.not_le.mpr hc, hst, hb, hd]

/-- The attachment as the signed reply to a hello leaves it. -/
def repliedAttach (a : Attach) (hello nd pub sig shared : List Byte) (at_ : Nat) : Attach :=
  { a with step := 2, status := 1, outBuf := nd ++ pub ++ sig ++ certBytes, ptr := 0, t1 := sha256 (hello ++ nd ++ pub), nh := hello.take 32,
           nd := nd, shared := shared, readyAt := at_ }

/-- A reply for a good point: signed, or its signing goes on. -/
theorem exec_attachReplyReady_point (hc : c < 4) (hst : (attach s c).step = 1) (hb : svcBusy s (.reply c) = false) (hd : devidOf s = some d)
    (hp : pointOk p256 (fieldBE (attach s c).t1 32 32) (fieldBE (attach s c).t1 64 32) = true) :
    ∃ nd pub u, nd.length = 32 ∧ pub.length = 64 ∧ Frame [] [.draws] s u ∧
      ((∃ w, signBy u d (sha256 ((attach s c).t1 ++ nd ++ pub)) = (none, w) ∧ exec (.attachReplyReady c) s = done s w) ∨
        ∃ sig w shared n, signBy u d (sha256 ((attach s c).t1 ++ nd ++ pub)) = (some sig, w) ∧
          exec (.attachReplyReady c) s = done s (setAttach w c (repliedAttach (attach w c) (attach s c).t1 nd pub sig shared n))) := by
  have hlength : (draw s 32).1.length = 32 := by simp [draw]
  have hdrawn : Frame [] [.draws] s (draw s 32).2 := .set_draws (by decide) .refl
  rcases h1 : draw s 32 with ⟨nd, u1⟩
  rw [h1] at hlength hdrawn
  have hscalar : Frame [] [.draws] u1 (drawScalar u1 p256.n).2 := drawScalar_frame
  rcases h2 : drawScalar u1 p256.n with ⟨j, u⟩
  rw [h2] at hscalar
  refine ⟨nd, toBytes 64 (pubOf (some j)), u, hlength, length_toBytes .., hdrawn.trans hscalar, ?_⟩
  have hfree : ¬ (4 ≤ c ∨ (attach s c).step ≠ 1 ∨ svcBusy s (.reply c) = true) := by simp [Nat.not_le.mpr hc, hst, hb]
  change (∃ w, _ ∧ execAttachReplyReady c s = _) ∨ ∃ sig w shared n, _ ∧ execAttachReplyReady c s = _
  unfold execAttachReplyReady
  simp only [if_neg hfree, hd, h1, h2, hp, Bool.not_true, Bool.false_eq_true, if_false]
  rcases h3 : signBy u d (sha256 ((attach s c).t1 ++ nd ++ toBytes 64 (pubOf (some j)))) with ⟨_ | sig, w⟩
  · exact .inl ⟨w, rfl, rfl⟩
  · exact .inr ⟨sig, w, _, _, rfl, rfl⟩

/-! The proof's verdict (R302, R305). -/

theorem proofVerdict_bound (h : s.keys.binding ≠ none) : (proofVerdict s c).2 = none := by
  obtain ⟨b, hb⟩ := Option.ne_none_iff_exists'.mp h
  simp only [proofVerdict, hb]
  split_ifs <;> rfl

theorem proofVerdict_first (h : s.keys.binding = none) : (proofVerdict s c).2 = none ↔ (proofVerdict s c).1 ≠ 2 := by
  simp only [proofVerdict, h]
  split_ifs <;> simp

theorem exec_attachOpen_busy (h : svcBusy s (.proof c) = true) : exec (.attachOpen c) s = done s s :=
  congrArg (done s) (if_pos (.inr (.inr h)))

theorem exec_attachOpen_refuses (hc : c < 4) (hst : (attach s c).step = 3) (hb : svcBusy s (.proof c) = false) (hv : (proofVerdict s c).1 ≠ 2) :
    exec (.attachOpen c) s = done s (refuse s c (proofVerdict s c).1) := by
  change execAttachOpen c s = _
  simp [execAttachOpen, Nat.not_le.mpr hc, hst, hb, hv]

theorem exec_attachOpen_opens (hc : c < 4) (hst : (attach s c).step = 3) (hb : svcBusy s (.proof c) = false) (hv : (proofVerdict s c).1 = 2)
    (hn : (proofVerdict s c).2 = none) : exec (.attachOpen c) s = done s (openSession s c) := by
  change execAttachOpen c s = _
  simp [execAttachOpen, Nat.not_le.mpr hc, hst, hb, hv, hn]

theorem exec_attachOpen_binds {x : Nat × List Nat × List Nat} (hc : c < 4) (hst : (attach s c).step = 3) (hb : svcBusy s (.proof c) = false)
    (hv : (proofVerdict s c).1 = 2) (hx : (proofVerdict s c).2 = some x) :
    exec (.attachOpen c) s = done s (bindStart (openSession s c) (bindWords x.1 x.2.1) true) := by
  change execAttachOpen c s = _
  simp [execAttachOpen, Nat.not_le.mpr hc, hst, hb, hv, hx]

/-! The record of the binding (R249, R305). -/

/-- Where the next record goes, and the SEQ of the current one. -/
def bindTarget (l : Tbl (Option (Nat × List Word))) : Nat := match bindCurrent l with | some (i, _) => 1 - i | none => 0
def bindSeq (l : Tbl (Option (Nat × List Word))) : Nat := match bindCurrent l with | some (_, n, _) => n | none => 0

/-- The records after a store. -/
def bindNext (l : Tbl (Option (Nat × List Word))) (x : Option (Nat × List Word)) : Tbl (Option (Nat × List Word)) :=
  if bindSeq l = 0xFFFFFFFE then l else tset none l (bindTarget l) x

/-- A store over, its records read again. -/
def bindStored (s : State) (l : Tbl (Option (Nat × List Word))) : State :=
  setKeys s { s.keys with bindJob := none, bindFirst := false, bindRecs := l, binding := (bindCurrent l).bind fun e => bindRecord e.2.2 }

theorem ownerBindEnd_eq {ok : Bool} (h : s.keys.bindJob = some ws) : ownerBindEnd s ok =
    if (s.keys.bindFirst && ok) = true
      then raise (bindStored s (bindNext s.keys.bindRecs (if ok then some (bindSeq s.keys.bindRecs + 1, ws) else none))) Ev.ownerBound 0 0
      else bindStored s (bindNext s.keys.bindRecs (if ok then some (bindSeq s.keys.bindRecs + 1, ws) else none)) := by
  unfold ownerBindEnd
  simp only [h]
  rfl

/-- The new record, its SEQ above the other's, is the current one. -/
theorem bindCurrent_stored {l : Tbl (Option (Nat × List Word))} : bindCurrent (tset none l (bindTarget l) (some (bindSeq l + 1, ws))) =
    some (bindTarget l, bindSeq l + 1, ws) := by
  have h01 : (0 : Nat) ≠ 1 := by decide
  rcases h0 : tget none l 0 with _ | a <;> rcases h1 : tget none l 1 with _ | b
  · simp [bindTarget, bindSeq, bindCurrent, h0, h1, tget_tset_ne none none l _ h01]
  · simp [bindTarget, bindSeq, bindCurrent, h0, h1, tget_tset_ne none none l _ h01]
  · simp [bindTarget, bindSeq, bindCurrent, h0, h1, tget_tset_ne none none l _ h01.symm]
  · by_cases hlt : a.1 < b.1
    · simp [bindTarget, bindSeq, bindCurrent, h0, h1, hlt, tget_tset_ne none none l _ h01]
    · simp [bindTarget, bindSeq, bindCurrent, h0, h1, hlt, tget_tset_ne none none l _ h01.symm]

/-- Without the new record the current one stands. -/
theorem bindCurrent_lost {l : Tbl (Option (Nat × List Word))} : bindCurrent (tset none l (bindTarget l) none) = bindCurrent l := by
  have h01 : (0 : Nat) ≠ 1 := by decide
  rcases h0 : tget none l 0 with _ | a <;> rcases h1 : tget none l 1 with _ | b
  · simp [bindTarget, bindCurrent, h0, h1, tget_tset_ne none none l _ h01]
  · simp [bindTarget, bindCurrent, h0, h1, tget_tset_ne none none l _ h01]
  · simp [bindTarget, bindCurrent, h0, h1, tget_tset_ne none none l _ h01.symm]
  · by_cases hlt : a.1 < b.1
    · simp [bindTarget, bindCurrent, h0, h1, hlt, tget_tset_ne none none l _ h01]
    · simp [bindTarget, bindCurrent, h0, h1, hlt, tget_tset_ne none none l _ h01.symm]

theorem ownerBindEff_stores {b : Nat × List Nat × List Nat} (hh : heldByOther s Grp.ownerBind r.ch = false)
    (hb : bindRecord (stageOf s Grp.ownerBind) = some b) (hj : s.keys.bindJob = none) : ownerBindEff r 1 s =
    okR (discard (setKeys (bindStart (claim s Grp.ownerBind r.ch) (stageOf s Grp.ownerBind) false)
      { (bindStart (claim s Grp.ownerBind r.ch) (stageOf s Grp.ownerBind) false).keys with bindPtr := 0 }) Grp.ownerBind) := by
  have hstage : stageOf (claim s Grp.ownerBind r.ch) Grp.ownerBind = stageOf s Grp.ownerBind := rfl
  rw [ownerBindEff, if_neg (not_not.mpr rfl), claimed_free hh]
  simp [hstage, hb, hj]

theorem bindSeq_ne (h : ∀ e, bindCurrent s.keys.bindRecs = some e → e.2.1 < 2 ^ 32 - 2) : bindSeq s.keys.bindRecs ≠ 0xFFFFFFFE := by
  unfold bindSeq
  split
  · next i n l hcur => exact Nat.ne_of_lt (h _ hcur)
  · decide

theorem bindNext_stored {l : Tbl (Option (Nat × List Word))} (h : bindSeq l ≠ 0xFFFFFFFE) :
    bindCurrent (bindNext l (some (bindSeq l + 1, ws))) = some (bindTarget l, bindSeq l + 1, ws) := by rw [bindNext, if_neg h, bindCurrent_stored]

theorem bindNext_lost {l : Tbl (Option (Nat × List Word))} : bindCurrent (bindNext l none) = bindCurrent l := by
  unfold bindNext
  split
  · rfl
  · exact bindCurrent_lost

theorem bindStored_frame {l : Tbl (Option (Nat × List Word))} : Frame [] [.keys] s (bindStored s l) := .set_keys (by decide) .refl

/-- The end of a store that reached the flash: the new record is the binding. -/
theorem ownerBindEnd_stores (hj : s.keys.bindJob = some ws) (h : ∀ e, bindCurrent s.keys.bindRecs = some e → e.2.1 < 2 ^ 32 - 2) :
    (ownerBindEnd s true).keys.binding = bindRecord ws ∧ (ownerBindEnd s true).keys.bindJob = none ∧
      (s.keys.bindFirst = true → Pending (ownerBindEnd s true) Ev.ownerBound) ∧ EvFrame [] [.keys] s (ownerBindEnd s true) := by
  have hbind : (bindStored s (bindNext s.keys.bindRecs (some (bindSeq s.keys.bindRecs + 1, ws)))).keys.binding = bindRecord ws := by
    change (bindCurrent (bindNext s.keys.bindRecs (some (bindSeq s.keys.bindRecs + 1, ws)))).bind (fun e => bindRecord e.2.2) = bindRecord ws
    rw [bindNext_stored (bindSeq_ne h), Option.bind_some]
  have hframe : EvFrame [] [.keys] s (bindStored s (bindNext s.keys.bindRecs (some (bindSeq s.keys.bindRecs + 1, ws)))) := bindStored_frame.toEv
  rw [ownerBindEnd_eq hj, Bool.and_true, if_pos rfl]
  split
  · exact ⟨(congrArg KeySt.binding (raise_keys _ _ _ _ (by decide))).trans hbind, congrArg KeySt.bindJob (raise_keys _ _ _ _ (by decide)),
      fun _ => raise_sets_pending _ _ _ _ (by decide), .raise (by decide) hframe⟩
  · next hfirst => exact ⟨hbind, rfl, fun hf => absurd hf hfirst, hframe⟩

/-- The end of a store that did not: the binding stands. -/
theorem ownerBindEnd_loses (hj : s.keys.bindJob = some ws)
    (h : s.keys.binding = (bindCurrent s.keys.bindRecs).bind fun e => bindRecord e.2.2) :
    (ownerBindEnd s false).keys.binding = s.keys.binding ∧ (ownerBindEnd s false).keys.bindJob = none ∧
      Frame [] [.keys] s (ownerBindEnd s false) := by
  have hbind : (bindStored s (bindNext s.keys.bindRecs none)).keys.binding = s.keys.binding := by
    change (bindCurrent (bindNext s.keys.bindRecs none)).bind (fun e => bindRecord e.2.2) = s.keys.binding
    rw [bindNext_lost, h]
  rw [ownerBindEnd_eq hj, Bool.and_false, if_neg Bool.false_ne_true, if_neg Bool.false_ne_true]
  exact ⟨hbind, rfl, bindStored_frame⟩

end

end Sys2Proof.Machine

/-! O49 (R302–R305, R320). -/

namespace Sys2Proof.Machine

section
variable {s u : State} {r : Req} {c n code : Nat} {ks : List Nat} {ps : List Part}

theorem Pending.touched {a : Code} {ws : List Word} (h : Pending u n) : Pending (touched s u r a ws) n := by
  rw [Pending, rdBit, rd_touched]
  exact h

theorem EvFrame.touched {a : Code} {ws : List Word} (h : EvFrame ks ps s u) : EvFrame ks ps s (touched s u r a ws) := h.touch.replied.settled

theorem stageOf_touched {g : Nat} {a : Code} {ws : List Word} : stageOf (touched s u r a ws) g = stageOf u g :=
  congrArg (fun l => tget [] l g) (touch_frame (u := u) (r := r) |>.2 .staging (by decide)).2

/-- A proof's verdict other than 2 refuses. -/
theorem refuse_verdict : (chan (refuse s c code) c).sess = (chan s c).sess ∧ (attach (refuse s c code) c).step = 0 ∧ Pending (refuse s c code) Ev.attachFail ∧
    ((attach s c).bad < 7 → (attach (refuse s c code) c).status = code ∧ (attach (refuse s c code) c).bad = (attach s c).bad + 1) ∧
    (7 ≤ (attach s c).bad → (attach (refuse s c code) c).status = 8 ∧ (attach (refuse s c code) c).locked = some (s.tick.elapsed + 100000)) ∧
    EvFrame ks [.chans] s (refuse s c code) := by
  obtain ⟨hattach, hsess, hpending, hframe⟩ := refuse_leaves (s := s) (c := c) (code := code) (ks := ks)
  rw [hattach]
  exact ⟨hsess, rfl, hpending, refusedAttach_counts, refusedAttach_locks, hframe⟩

theorem exec_sessionTimeout_ends {x : Sess} (h : (chan s c).sess = some x) (ht : x.seen + timeoutCc s c ≤ s.tick.clock) :
    exec (.sessionTimeout c) s = done s (endSession s c) := by
  change execSessionTimeout c s = _
  simp only [execSessionTimeout, h, if_pos ht]

theorem exec_sessionTimeout_waits {x : Sess} (h : (chan s c).sess = some x) (ht : s.tick.clock < x.seen + timeoutCc s c) :
    exec (.sessionTimeout c) s = done s s := by
  change execSessionTimeout c s = _
  simp only [execSessionTimeout, h, if_neg (Nat.not_le.mpr ht)]

theorem attach_settled {z : State} : attach (settled z u) c = attach u c := rfl
theorem chan_settled {z : State} : chan (settled z u) c = chan u c := rfl

end

/-- Settles O49: each step of the handshake by its own effect, a refusal and the end of a session by what each leaves, the owner's record
by which of the two is current. -/
theorem attachment : Obligations.Attachment := by
  refine ⟨?_, ?_, ?_, ?_, ?_, ?_, ?_, ?_, ?_, ?_, ?_, ?_, ?_, ?_, ?_, ?_, ?_, ?_, ?_, ?_, ?_⟩
  · intro r s hc hl hb hg
    have hdropped : Frame [] [.jasper] (setAttach s r.ch (helloAttach (attach s r.ch))) (svcDrop (setAttach s r.ch (helloAttach (attach s r.ch))) (.proof r.ch)) :=
      svcDrop_frame
    obtain ⟨hattach, hbusy, hframe⟩ := svcIssue_leaves (n := replyJobs) (k := .reply r.ch) (by decide) hdropped
    refine runs_touched rfl hg (attachCtrlEff_hello hc hl hb) ?_
    rw [attach_touched, hattach, svcBusy_touched]
    exact ⟨rfl, rfl, rfl, rfl, hbusy, hframe.touched (by decide)⟩
  · intro r s hc hl hg
    refine runs_touched rfl hg (attachCtrlEff_lockedOut hc hl) ?_
    rw [attach_touched, attach_raise, attach_setAttach_same]
    exact ⟨rfl, rfl, Pending.touched (raise_sets_pending _ _ _ _ (by decide)), EvFrame.touched (.raise (by decide) (.setChan .refl))⟩
  · intro r s hc hst ht hg
    obtain ⟨hattach, hbusy, hframe⟩ := svcIssue_leaves (n := proofJobs s r.ch (attach s r.ch).inBuf) (k := .proof r.ch) (s := s) (c := r.ch)
      (a := { attach s r.ch with inBuf := [], ptr := 0, step := 3, proof := (attach s r.ch).inBuf }) proofJobs_ne_zero .refl
    refine runs_touched rfl hg (attachCtrlEff_proof hc hst ht) ?_
    rw [attach_touched, hattach, svcBusy_touched]
    exact ⟨rfl, rfl, rfl, hbusy, hframe.touched (by decide)⟩
  · intro r s hc hst hg
    exact runs_answered rfl hg (attachCtrlEff_noProof hc hst) fun _ => ⟨rfl, .answered (by decide) .refl⟩
  · intro c s _ hb
    exact runs_done (exec_attachReplyReady_busy hb) (.settled .refl)
  · intro c s _ hb
    exact runs_done (exec_attachOpen_busy hb) (.settled .refl)
  · intro c s hc hst hb hd hbad
    obtain ⟨hattach, -, hpending, hframe⟩ := refuse_leaves (s := s) (c := c) (code := 3) (ks := [])
    obtain ⟨hstatus, hcount⟩ := refusedAttach_counts (code := 3) hbad
    refine runs_done (exec_attachReplyReady_noDevid hc hst hb hd) ⟨?_, ?_, ?_, hpending, hframe.settled⟩
    · exact (congrArg Attach.status hattach).trans hstatus
    · exact congrArg Attach.step hattach
    · exact (congrArg Attach.bad hattach).trans hcount
  · intro c d s hc hst hb hd hp
    obtain ⟨nd, pub, u, hnd, hpub, hu, hsigned⟩ := exec_attachReplyReady_point hc hst hb hd hp
    obtain ⟨hframe, hlength, hcounts⟩ := signBy_leaves (s := u) (d := d) (m := sha256 ((attach s c).t1 ++ nd ++ pub))
    obtain ⟨w, hw, hx⟩ | ⟨sig, w, shared, n, hw, hx⟩ := hsigned
    · rw [hw] at hframe hcounts
      have hrun : Frame [K.jasperRedraws] [.draws] s w := (hu.mono (List.nil_subset _) (List.Subset.refl _)).trans hframe
      refine runs_done hx ⟨.inr ⟨attach_of_chans (hrun.2 .chans (by decide)), ?_⟩, (hrun.mono (List.Subset.refl _) (by decide)).settled⟩
      exact (hcounts rfl).since (hu.1 _ List.not_mem_nil)
    · rw [hw] at hframe hlength
      have hrun : Frame [K.jasperRedraws] [.draws] s w := (hu.mono (List.nil_subset _) (List.Subset.refl _)).trans hframe
      refine runs_done hx ⟨.inl ?_, (Frame.setAttach (by decide) (hrun.mono (List.Subset.refl _) (by decide))).settled⟩
      rw [attach_settled, attach_setAttach_same]
      exact ⟨rfl, rfl, rfl, hnd, pub, sig, hpub, hlength sig rfl, rfl, rfl⟩
  · intro c s hc hst hb hn hk
    by_cases hv : (proofVerdict s c).1 = 2
    · obtain ⟨hsess, hattach, -, hframe, -⟩ := openSession_leaves (c := c) hn
      refine runs_done (exec_attachOpen_opens hc hst hb hv (proofVerdict_bound hk)) ⟨fun _ => ?_, fun hne => absurd hv hne, hframe.toEv.settled⟩
      rw [attach_settled, chan_settled, hattach]
      exact ⟨hsess, rfl, rfl, rfl⟩
    · obtain ⟨hsess, hstep, hpending, hcounts, hlocks, hframe⟩ := refuse_verdict (s := s) (c := c) (code := (proofVerdict s c).1)
        (ks := [K.sessionId c, K.sessionVersion c])
      exact runs_done (exec_attachOpen_refuses hc hst hb hv) ⟨fun h => absurd h hv, fun _ => ⟨hsess.trans hn, hstep, hpending, hcounts, hlocks⟩,
        (hframe.mono (List.Subset.refl _) (by decide)).settled⟩
  · intro s hst hb hn hk
    obtain ⟨hopen, -, hkeys, -, hspi⟩ := openSession_leaves (c := 0) hn
    have hfirst := proofVerdict_first (c := 0) hk
    rcases hx : (proofVerdict s 0).2 with _ | x
    · obtain ⟨hsess, -, hpending, -, -, hframe⟩ := refuse_verdict (s := s) (c := 0) (code := (proofVerdict s 0).1) (ks := [])
      have hsame : (refuse s 0 (proofVerdict s 0).1).keys = s.keys := hframe.2 .keys (by decide)
      refine runs_done (exec_attachOpen_refuses (by decide) hst hb (hfirst.mp hx)) ⟨(congrArg KeySt.binding hsame).trans hk, ?_,
        fun _ => ⟨hsame, hsess.trans hn, hpending⟩, (hframe.mono (List.Subset.refl _) (by decide)).settled⟩
      exact fun v hv => nomatch hv
    · have hv : (proofVerdict s 0).1 = 2 := by
        by_contra hne
        exact absurd (hfirst.mpr hne) (by rw [hx]; exact Option.some_ne_none x)
      refine runs_done (exec_attachOpen_binds (by decide) hst hb hv hx) ⟨(congrArg KeySt.binding hkeys).trans hk, ?_, fun h => (nomatch h), ?_⟩
      · intro v hsome
        obtain rfl := Option.some.inj hsome
        exact ⟨rfl, rfl, hopen⟩
      · exact (Frame.set_keys (by decide) ((hspi rfl).mono (List.Subset.refl _) (by decide))).toEv.settled
  · intro r x s hc hx hg
    have hsess : (chan (setAttach s r.ch { attach s r.ch with inBuf := [], ptr := 0 }) r.ch).sess = some x := (setAttach_sess r.ch).trans hx
    obtain ⟨hnone, hid, hpending, hframe⟩ := endSession_leaves hsess
    refine runs_touched rfl hg (attachCtrlEff_ends hc) ⟨rfl, ?_, ?_, hpending.touched, ?_⟩
    · exact sess_touch_none hnone
    · exact rd_touched.trans hid
    · exact EvFrame.touched (.trans (.setChan .refl) hframe)
  · intro r v s hc hv hroom hg
    have heff : attachDataEff r (v % 2 ^ 32) s = okR (setAttach s r.ch { attach s r.ch with inBuf := (attach s r.ch).inBuf ++ toBytes 4 v }) := by
      rw [Nat.mod_eq_of_lt hv, attachDataEff_word hc hroom]
    refine runs_touched rfl hg heff ?_
    rw [attach_touched, attach_setAttach_same]
    exact ⟨rfl, rfl, (Frame.setAttach (by decide) .refl).touched (by decide)⟩
  · intro r s hc hg
    refine runs_touched rfl hg (attachDataRead_word hc) ?_
    rw [attach_touched, attach_setAttach_same]
    exact ⟨rfl, rfl, (Frame.setAttach (by decide) .refl).touched (by decide)⟩
  · intro c s hc hst ht hbad
    obtain ⟨-, hstep, hpending, hcounts, -, hframe⟩ := refuse_verdict (s := s) (c := c) (code := 7) (ks := [])
    exact runs_done (congrArg (done s) (if_pos ⟨hc, hst, ht⟩)) ⟨(hcounts hbad).1, hstep, hpending, hframe.settled⟩
  · intro c s hc hl
    refine runs_done (congrArg (done s) (if_pos ⟨hc, by rw [hl]; rfl⟩)) ?_
    rw [attach_settled, attach_setAttach_same]
    exact ⟨rfl, (Frame.setAttach (by decide) .refl).settled⟩
  · intro c s hc hl
    exact runs_done (congrArg (done s) (if_neg fun h => by simp [hl] at h)) (.settled .refl)
  · intro c x s hx ht
    obtain ⟨hnone, hid, hpending, hframe⟩ := endSession_leaves hx
    exact runs_done (exec_sessionTimeout_ends hx ht) ⟨hnone, hid, hpending, hframe.settled⟩
  · intro c x s hx ht
    exact runs_done (exec_sessionTimeout_waits hx ht) (.settled .refl)
  · intro r b s hh hb hj hg
    refine runs_touched rfl hg (ownerBindEff_stores hh hb hj) ⟨rfl, ?_, ?_, ?_⟩
    · exact congrArg KeySt.bindJob (touch_frame.2 .keys (by decide))
    · exact stageOf_touched.trans (tget_tdel_same ..)
    · exact (Frame.discard (by decide) (.set_keys (by decide) (.set_keys (by decide) (.claim (by decide) .refl)))).touched (by decide)
  · intro w s hj hseq
    obtain ⟨hbinding, hjob, hpending, hframe⟩ := ownerBindEnd_stores hj hseq
    exact runs_done rfl ⟨hbinding, hjob, hpending, hframe.settled⟩
  · intro w s hj hb
    obtain ⟨hbinding, hjob, hframe⟩ := ownerBindEnd_loses hj hb
    exact runs_done rfl ⟨hbinding, hjob, hframe.settled⟩

end Sys2Proof.Machine
